-- ==== Sys2Proof/Word.lean ====
section
/-! DEFINITION. Words of the model: the plain types every other file uses, and the small types of command operands.
Register fields and counters are natural numbers below 2^width (the register store keeps each field apart, see
Machine/RegMap.lean); memory bytes, sequence entries, descriptors and command operands that the spec numbers bit by bit
are bit vectors. -/

namespace Sys2Proof

abbrev Byte   := BitVec 8
abbrev Word32 := BitVec 32
abbrev Word64 := BitVec 64
/-- A sequence entry's 128 data bits (R84). -/
abbrev Entry  := BitVec 128
/-- A 64-byte descriptor (R49). -/
abbrev Desc   := BitVec 512

/-- Sparse data by key: keys strictly rising, one default value for every key that is not listed. -/
abbrev Table (α : Type) := List (Nat × α)

/-- Field [lo + w − 1 : lo] of a natural number. -/
def bits (v lo w : Nat) : Nat := v / 2 ^ lo % 2 ^ w

/-- Bit k of a natural number. -/
def bit (v k : Nat) : Bool := v / 2 ^ k % 2 == 1

/-- A truth value as a one-bit number. -/
def b2n (b : Bool) : Nat := if b then 1 else 0

/-! ## Operands of commands -/

/-- A word of BAR0 (R36): the byte offset divided by 4. -/
abbrev RegWord := Fin 0x1000000

/-- A requester of register accesses (R10): a PCI Express function (0 the PF), a supervisor, the Hjelz port. -/
inductive Req
  | fn (f : Fin 33)
  | sup (h : Fin 2)
  | port
  deriving DecidableEq, Repr

/-- The kinds of control action (R21), in the order of execution. -/
inductive CtlKind | fence | reset | configure | calibrate
  deriving DecidableEq, Repr

/-- Who issues a control action to a block agent (R20, R22). -/
inductive CtlFrom
  | bay             -- the bay controller of the agent's bay
  | sup (h : Fin 2) -- the supervisor of half h
  | data            -- an engine, the fabric, or the host through BAR4
  deriving DecidableEq, Repr

/-- The issuer is a supervisor. -/
def CtlFrom.isSup : CtlFrom → Bool
  | .sup _ => true
  | _ => false

/-- What the check bits of a memory word show as it is read (R81, R238, R260). -/
inductive Ecc
  | clean
  | corrected  -- a single-bit error, corrected
  | bad        -- an uncorrectable error
  deriving DecidableEq, Repr

/-- A read of host memory that completed with an error, by what it served (R527); of the image of a SETUP job, `img` holds what
came before the error and `rows` counts the rows or pairs of it that had been written. -/
inductive HostRead
  | page (f : Fin 33)
  | evci (f : Fin 33)
  | descriptor (n : Fin 64)
  | readback (n : Fin 64)
  | reconcile (n : Fin 64)
  | setupImage (n : Fin 64) (rows : Nat) (img : Nat)
  | cfgRing
  deriving DecidableEq, Repr

/-- One step of a Pruner's scrub (R360): a word of a block memory (its tile), a sequence entry and a bank word with what their check
bits show, a DRAM line of interface n of the half, or a pass that overruns its period. -/
inductive Scrub
  | bram (t : Fin 139520) (w : Fin 512)
  | seq (e : Ecc)
  | bank (w : Fin 0x400000) (e : Ecc)
  | dram (n : Fin 4) (line : BitVec 34) (e : Ecc)
  | late
  deriving DecidableEq, Repr

/-- A block agent of R19. -/
inductive Agent
  | slot (n : Fin 104)
  | group (g : Fin 32)
  | dram (d : Fin 8)
  | banks (h : Fin 2) (k : Fin 8)
  | loan (h : Fin 2)
  | stop (h : Fin 2) (t : Fin 20)
  | region (r : Fin 32)
  deriving DecidableEq, Repr

/-- What a source delivers of an image: its bytes, byte 0 least significant, how many there are, and whether the flash failed
to deliver more. -/
structure Img where
  bytes : Nat
  len   : Nat
  err   : Bool
  deriving DecidableEq, Repr

/-- The outcome of self-test (R451): the rows of the table that failed outside the items listed here (bit i: row i, first row
bit 0), failed units by number (R417), failed banks (half, bank; 64 the loan bank), failed ring links (half, stop, direction),
the DRAM interfaces' geometry (DMC_GEOM), the monitor area's entries (R80), and the duration in ms. -/
structure SelfTest where
  other   : BitVec 10
  units   : List (Fin 218)
  banks   : List (Fin 2 × Fin 65)
  links   : List (Fin 2 × Fin 20 × Fin 2)
  geom    : List (BitVec 9)
  monitor : List Entry
  ms      : Nat
  deriving DecidableEq, Repr

/-- What one comparator output shows at a ball (R202): its level at the start and the instants, rising, at which it changes, in
units of 0.125 ps times the half's frequency word, counted like T_ref (R173). -/
structure Wave where
  start : Bool
  at_   : List Nat
  deriving DecidableEq, Repr

end Sys2Proof
end

