-- ==== Sys2Proof/Syntax.lean ====
section
/-! DEFINITION. The commands of the block: one constructor for each row of spec/opcode_table.json, with the operands its row
needs. An operand is either part of the command (an address, a value, an index) or what the surroundings bring with it
(the words a host-memory read returns, a measured value, the outcome of a check): the spec leaves that to them. -/

namespace Sys2Proof

/-- The commands (one per row of the table of operations and events). -/
inductive Instr
  /-- REGISTER_WRITE (R11). -/
  | registerWrite (r : Req) (a : RegWord) (v : Word32)
  /-- RC_READ (R12). -/
  | rcRead (r : Req) (a : RegWord)
  /-- PAIR_LO_READ (R10). -/
  | pairLoRead (r : Req) (a : RegWord)
  /-- PAIR_HI_READ (R10). -/
  | pairHiRead (r : Req) (a : RegWord)
  /-- PAIR_LO_WRITE (R10). -/
  | pairLoWrite (r : Req) (a : RegWord) (v : Word32)
  /-- PAIR_HI_WRITE (R10). -/
  | pairHiWrite (r : Req) (a : RegWord) (v : Word32)
  /-- BEHAVIOUR_LEVEL_WRITE (R462). -/
  | behaviourLevelWrite (r : Req) (level : Fin 16)
  /-- ECLK_APPLY (R28). -/
  | eclkApply (r : Req) (h : Fin 2)
  /-- ECLK_APPLY_CANCEL (R28). -/
  | eclkApplyCancel (r : Req) (h : Fin 2)
  /-- ECLK_APPLY_TIMEOUT (R28). -/
  | eclkApplyTimeout (h : Fin 2)
  /-- ECLK_ALIGN_MOMENT (R28). -/
  | eclkAlignMoment (h : Fin 2)
  /-- ECLK_RELOCK (R28). -/
  | eclkRelock (h : Fin 2)
  /-- ECLK_LOCK_LOSS (R27). -/
  | eclkLockLoss (h : Fin 2)
  /-- REFCLK_LOSS (R30). -/
  | refclkLoss
  /-- REFCLK_RETURN (R394). -/
  | refclkReturn
  /-- AGENT_FENCE (R21). -/
  | agentFence (a : Agent) (c : CtlFrom) (more : Bool)
  /-- AGENT_RESET (R21). -/
  | agentReset (a : Agent) (c : CtlFrom) (more : Bool)
  /-- AGENT_CONFIGURE (R21). -/
  | agentConfigure (a : Agent) (c : CtlFrom) (more : Bool)
  /-- AGENT_CALIBRATE (R21). -/
  | agentCalibrate (a : Agent) (c : CtlFrom) (more : Bool)
  /-- HOST_READ_ERROR (R527). -/
  | hostReadError (x : HostRead)
  /-- LINK_DOWN (R69). -/
  | linkDown
  /-- LINK_UP (R69). -/
  | linkUp (rate : Fin 6) (width : Fin 4) (flit : Bool)
  /-- PERST (R69). -/
  | perst
  /-- HOT_RESET (R69). -/
  | hotReset
  /-- FLR (R69). -/
  | flr (f : Fin 33)
  /-- D3HOT_ENTRY (R495). -/
  | d3hotEntry
  /-- FN_ENABLE (R39). -/
  | fnEnable (f : Fin 33) (evci : Word32)
  /-- CONTEXT_START_FRESH (R70). -/
  | contextStartFresh (n : Fin 64)
  /-- CONTEXT_RECONCILE (R71). -/
  | contextReconcile (n : Fin 64) (entry : BitVec 256) (db : Word64) (sq : List Desc) (cq : List (BitVec 256))
  /-- CONTEXT_DISABLE (R69). -/
  | contextDisable (n : Fin 64)
  /-- DOORBELL_POLL (R47). -/
  | doorbellPoll (f : Fin 33) (summary : Word64) (evci : Word32) (recs : List (Fin 64 × Word64))
  /-- DOORBELL_FULL_SCAN (R47). -/
  | doorbellFullScan (f : Fin 33) (recs : List (Fin 64 × Word64))
  /-- DESCRIPTOR_ACCEPT (R57). -/
  | descriptorAccept (n : Fin 64) (d : Desc)
  /-- ACCEPT_BATCH (R66). -/
  | acceptBatch (n : Fin 64)
  /-- ACCEPT_READBACK_DONE (R66). -/
  | acceptReadbackDone (n : Fin 64)
  /-- JOB_DISPATCH (R59). -/
  | jobDispatch (n : Fin 64) (d : Desc)
  /-- PATTERN (R51). -/
  | pattern (n : Fin 64)
  /-- SETUP_SEQUENCE_MEMORY (R79). -/
  | setupSequenceMemory (n : Fin 64) (img : Nat)
  /-- SETUP_TIMING_SETS (R187). -/
  | setupTimingSets (n : Fin 64) (img : Nat)
  /-- SETUP_LANE_MAPS (R131). -/
  | setupLaneMaps (n : Fin 64) (img : Nat)
  /-- SETUP_PIN_FUNCTION_SETS (R131). -/
  | setupPinFunctionSets (n : Fin 64) (img : Nat)
  /-- SETUP_SCRAMBLE_TABLE (R131). -/
  | setupScrambleTable (n : Fin 64) (img : Nat)
  /-- SETUP_VECTOR_SWITCH_SELECTIONS (R134). -/
  | setupVectorSwitchSelections (n : Fin 64) (img : Nat)
  /-- SETUP_REGISTER_IMAGE (R52). -/
  | setupRegisterImage (n : Fin 64) (img : Nat)
  /-- SETUP_DEFERRED_WRITE (R132). -/
  | setupDeferredWrite (n : Fin 64) (img : Nat)
  /-- CALIBRATE_FULL_CHANNEL (R193). -/
  | calibrateFullChannel (n : Fin 64)
  /-- CALIBRATE_TEMPERATURE_UPDATE (R194). -/
  | calibrateTemperatureUpdate (n : Fin 64)
  /-- CALIBRATE_COMPARE_LATENCY (R144). -/
  | calibrateCompareLatency (n : Fin 64) (meas : List (Option Nat))
  /-- CALIBRATE_DRAM_RETRAIN (R248). -/
  | calibrateDramRetrain (n : Fin 64) (outs : List (Bool × Nat))
  /-- NOP (R50). -/
  | nop (n : Fin 64)
  /-- ABORT (R60). -/
  | abort (n : Fin 64)
  /-- PAUSE (R60). -/
  | pause (n : Fin 64)
  /-- RESUME (R60). -/
  | resume (n : Fin 64)
  /-- REARM (R60). -/
  | rearm (n : Fin 64)
  /-- COMPLETION_COMMIT (R66). -/
  | completionCommit (n : Fin 64)
  /-- EVCI_REREAD (R64). -/
  | evciReread (f : Fin 33) (evci : Word32)
  /-- ENG_MAP_WRITE (R74). -/
  | engMapWrite (r : Req) (n : Fin 104) (le : Fin 128)
  /-- SEQ_MODE_CHANGE (R78). -/
  | seqModeChange (r : Req) (split : Bool)
  /-- SEQ_COPY_DONE (R78). -/
  | seqCopyDone (ceW : List (Fin 0x20000)) (ueW : List (Fin 0x20000)) (ueBoth : List (Fin 0x20000))
  /-- SEQ_WINDOW_HOLD (R79). -/
  | seqWindowHold (r : Req) (h : Fin 2) (e : Fin 0x20000) (w : Fin 3) (v : Word32)
  /-- SEQ_WINDOW_COMMIT (R79). -/
  | seqWindowCommit (r : Req) (h : Fin 2) (e : Fin 0x20000) (v : Word32)
  /-- SEQ_FILL_COMPLETE (R81). -/
  | seqFillComplete (n : Fin 104) (w : Nat) (outs : List (Fin 16 × Ecc × Ecc))
  /-- SEQ_SPINE_FILL_TIMEOUT (R81). -/
  | seqSpineFillTimeout (n : Fin 104) (w : Nat) (k : Fin 16)
  /-- PRELOAD_DONE (R82). -/
  | preloadDone (n : Fin 104) (outs : List (Fin 0x20000 × Ecc × Ecc))
  /-- CACHE_INVALIDATE (R112). -/
  | cacheInvalidate (r : Req) (n : Fin 104)
  /-- CACHE_INVALIDATE_DONE (R112). -/
  | cacheInvalidateDone (n : Fin 104)
  /-- ENG_IRQ_WRITE (R112). -/
  | engIrqWrite (r : Req) (n : Fin 104) (v : Word32)
  /-- PREDICTOR_FLUSH (R160). -/
  | predictorFlush (r : Req) (n : Fin 104)
  /-- NEXT (R86). -/
  | next (n : Fin 104) (w : Nat)
  /-- JMP (R86). -/
  | jmp (n : Fin 104) (w : Nat)
  /-- REP (R90). -/
  | rep (n : Fin 104) (w : Nat)
  /-- MWAIT (R86). -/
  | mwait (n : Fin 104) (w : Nat)
  /-- HALT (R91). -/
  | halt (n : Fin 104) (w : Nat)
  /-- HALT_DRAIN_DONE (R91). -/
  | haltDrainDone (n : Fin 104)
  /-- PAUSE_OPCODE (R91). -/
  | pauseOpcode (n : Fin 104) (w : Nat)
  /-- SYNC (R92). -/
  | sync (n : Fin 104) (w : Nat)
  /-- SYNC_RELEASE (R92). -/
  | syncRelease (c : Fin 64) (h : Fin 2) (ws : List (Fin 104 × Nat))
  /-- LOCK (R93). -/
  | lock (n : Fin 104) (w : Nat)
  /-- LOCK_RESPONSE (R93). -/
  | lockResponse (n : Fin 104) (w : Nat)
  /-- LOCK_RETRY (R93). -/
  | lockRetry (n : Fin 104)
  /-- UNLOCK (R93). -/
  | unlock (n : Fin 104) (w : Nat)
  /-- SAVE (R109). -/
  | save (n : Fin 104) (w : Nat)
  /-- RESTORE (R109). -/
  | restore (n : Fin 104) (w : Nat)
  /-- IRET (R104). -/
  | iret (n : Fin 104) (w : Nat)
  /-- TRAP (R94). -/
  | trap (n : Fin 104) (w : Nat)
  /-- TRACE (R94). -/
  | trace (n : Fin 104) (w : Nat)
  /-- CLRF (R94). -/
  | clrf (n : Fin 104) (w : Nat)
  /-- BR (R86). -/
  | br (n : Fin 104) (w : Nat)
  /-- CALL (R89). -/
  | call (n : Fin 104) (w : Nat)
  /-- RET (R89). -/
  | ret (n : Fin 104) (w : Nat)
  /-- LOOP (R88). -/
  | loop (n : Fin 104) (w : Nat)
  /-- LDC (R88). -/
  | ldc (n : Fin 104) (w : Nat)
  /-- WAITT (R92). -/
  | waitt (n : Fin 104) (w : Nat)
  /-- ILLEGAL_ENTRY (R85). -/
  | illegalEntry (n : Fin 104) (w : Nat)
  /-- MATCH_WINDOW_RESOLVE (R97). -/
  | matchWindowResolve (n : Fin 104) (late : Nat)
  /-- INTERRUPT_ENTRY (R104). -/
  | interruptEntry (n : Fin 104) (w : Nat)
  /-- WATCHDOG_EXPIRE (R111). -/
  | watchdogExpire (n : Fin 104)
  /-- TABLE_FILL_DONE (R123). -/
  | tableFillDone (n : Fin 104) (ok : Bool) (w : Nat)
  /-- STREAM_FETCH_DONE (R124). -/
  | streamFetchDone (n : Fin 104) (eccs : List Ecc) (ahead : Fin 512) (w : Nat)
  /-- FVP_WORD_ACCEPT (R138). -/
  | fvpWordAccept (h : Fin 2) (p : Fin 8) (word : Desc) (w : Nat)
  /-- FVP_FLUSH (R142). -/
  | fvpFlush (r : Req) (h : Fin 2) (p : Fin 8)
  /-- VECTOR_TABLE_WRITE (R132). -/
  | vectorTableWrite (r : Req) (n : Fin 104) (w : Fin 0x1140) (v : Word32)
  /-- VSW_SEL_WRITE (R134). -/
  | vswSelWrite (r : Req) (c : Fin 256) (v : Word32)
  /-- SPEC_RESOLVE (R151). -/
  | specResolve (n : Fin 104) (late : Nat)
  /-- SUMP_RELEASE (R157). -/
  | sumpRelease (n : Fin 104) (b : Fin 8)
  /-- FABRIC_RESULT_WRITE (R165). -/
  | fabricResultWrite (e : Fin 64) (taken : List Nat) (tag : Fin 256) (dev : Bool) (addr : Word64) (len : Fin 65)
      (data : Desc)
  /-- FABRIC_WRITE_RELEASE (R165). -/
  | fabricWriteRelease (h : Fin 2)
  /-- COMPARE_RESULT (R207). -/
  | compareResult (n : Fin 104) (cyc : Nat) (c : Fin 256) (hi : Wave) (lo : Wave) (strobe : Wave)
  /-- SSG_EDGE_TIMEOUT (R190). -/
  | ssgEdgeTimeout (b : Fin 8) (g : Fin 4) (strobe : Wave)
  /-- FAIL_ENTRY_DRAIN (R213). -/
  | failEntryDrain (b : Fin 8) (k : Nat)
  /-- FCC_ENTRY_ACCEPT (R218). -/
  | fccEntryAccept (b : Fin 8)
  /-- FCC_FLUSH (R219). -/
  | fccFlush (r : Req) (h : Fin 2)
  /-- FCC_WRITEBACK_ACK (R241). -/
  | fccWritebackAck (h : Fin 2) (addr : Nat)
  /-- FFS_CTL_APPLY (R232). -/
  | ffsCtlApply (b : Fin 8) (taken : Nat)
  /-- JOB_STOP (R229). -/
  | jobStop (c : Fin 64)
  /-- JOB_DRAIN_DONE (R229). -/
  | jobDrainDone (c : Fin 64)
  /-- CHN_CFG_WRITE (R184). -/
  | chnCfgWrite (r : Req) (c : Fin 256) (dsk : Bool) (v : Word32)
  /-- MODE_CHANGE_DONE (R185). -/
  | modeChangeDone (c : Fin 256)
  /-- TSET_WINDOW_HOLD (R187). -/
  | tsetWindowHold (r : Req) (c : Fin 256) (k : Fin 64) (w : Fin 7) (v : Word32)
  /-- TSET_COMMIT (R187). -/
  | tsetCommit (r : Req) (c : Fin 256) (k : Fin 64) (v : Word32)
  /-- SSG_CFG_WRITE (R198). -/
  | ssgCfgWrite (r : Req) (b : Fin 8) (g : Fin 4) (dly : Bool) (v : Word32)
  /-- SENSOR_SAMPLE (R192). -/
  | sensorSample (temps : List (Option (BitVec 12)))
  /-- TEMP_RECOMPUTE (R191). -/
  | tempRecompute (b : Fin 8)
  /-- CAL_CHANNEL_BEGIN (R193). -/
  | calChannelBegin (n : Fin 64) (c : Fin 256) (sums : List (Option Int)) (sph : Fin 64)
  /-- CAL_IDLE_TIMEOUT (R195). -/
  | calIdleTimeout (n : Fin 64) (c : Fin 256)
  /-- CAL_RECORD_HOLD (R200). -/
  | calRecordHold (r : Req) (c : Fin 256) (w : Fin 8) (v : Word32)
  /-- CAL_RECORD_COMMIT (R200). -/
  | calRecordCommit (r : Req) (c : Fin 256) (v : Word32)
  /-- DRAM_READ_REQ (R244). -/
  | dramReadReq (h : Fin 2) (line : Fin 0x40000000) (mask : Word64) (id : Fin 0x110000) (full : Bool)
  /-- DRAM_WRITE_REQ (R244). -/
  | dramWriteReq (h : Fin 2) (line : Fin 0x40000000) (mask : Word64) (data : Desc) (full : Bool)
  /-- DRAM_READ_OR_WRITE_REQ (R244). -/
  | dramReadOrWriteReq (h : Fin 2) (line : Fin 0x40000000) (data : Desc) (ctxs : Word64) (full : Bool)
  /-- DRAM_SCHEDULE (R243). -/
  | dramSchedule (n : Fin 8) (banks : List (Fin 32)) (aged : List Nat) (hits : List Nat) (ecc : Ecc)
  /-- DRAM_READ_RETURN (R239). -/
  | dramReadReturn (n : Fin 8) (k : Nat) (ecc : Ecc)
  /-- FSP_SWITCH_REQ (R247). -/
  | fspSwitchReq (r : Req) (n : Fin 8) (urgent : Bool) (target : Fin 4)
  /-- FSP_SWITCH_DONE (R247). -/
  | fspSwitchDone (n : Fin 8)
  /-- FSP_RATE_WRITE (R255). -/
  | fspRateWrite (r : Req) (n : Fin 8) (k : Fin 3) (rate : Fin 16)
  /-- OSC_CHECK (R248). -/
  | oscCheck (n : Fin 8) (drift : Byte)
  /-- RETRAIN_STEP (R248). -/
  | retrainStep (n : Fin 8)
  /-- RETRAIN_STEP_DONE (R248). -/
  | retrainStepDone (n : Fin 8) (ok : Bool) (last : Bool)
  /-- DRAM_REMOVAL (R250). -/
  | dramRemoval (n : Fin 8) (bad : List Nat)
  /-- RESERVED_AREA_RESTORE (R237). -/
  | reservedAreaRestore (h : Fin 2)
  /-- SELF_REFRESH_ENTRY (R252). -/
  | selfRefreshEntry (n : Fin 8)
  /-- SR_ENTER (R252). -/
  | srEnter (r : Req) (n : Fin 8)
  /-- SR_EXIT (R253). -/
  | srExit (r : Req) (n : Fin 8)
  /-- SR_EXIT_DONE (R253). -/
  | srExitDone (n : Fin 8) (drift : Byte)
  /-- DRAM_WINDOW_READ (R256). -/
  | dramWindowRead (r : Req) (h : Fin 2) (off : Fin 0x100000) (len : Fin 9)
  /-- DRAM_WINDOW_WRITE (R256). -/
  | dramWindowWrite (r : Req) (h : Fin 2) (off : Fin 0x100000) (len : Fin 9) (v : Word64)
  /-- DRAM_INIT_SWEEP (R453). -/
  | dramInitSweep (n : Fin 8)
  /-- BANK_ACCESS (R261). -/
  | bankAccess (h : Fin 2) (m : Fin 5) (r : Req) (addr : Fin 0x2000000) (len : Fin 65) (wr : Option Desc) (ecc : Ecc)
  /-- BANK_CE_WRITEBACK (R262). -/
  | bankCeWriteback (h : Fin 2)
  /-- BANK_PWR_WRITE (R263). -/
  | bankPwrWrite (r : Req) (h : Fin 2) (k : Fin 4) (v : Word32)
  /-- BANK_PWR_DONE (R263). -/
  | bankPwrDone (h : Fin 2) (b : Fin 64)
  /-- COPPICE_LOAN_START (R270). -/
  | coppiceLoanStart (h : Fin 2)
  /-- COPPICE_SWITCH_OVER (R270). -/
  | coppiceSwitchOver (h : Fin 2)
  /-- COPPICE_TEST_DONE (R272). -/
  | coppiceTestDone (h : Fin 2) (ok : Bool)
  /-- COPPICE_SWITCH_BACK (R270). -/
  | coppiceSwitchBack (h : Fin 2)
  /-- FCG_APPLY (R292). -/
  | fcgApply (r : Req) (h : Fin 2) (g : Fin 4) (pinHz : Nat)
  /-- FCG_RELOCK (R292). -/
  | fcgRelock (h : Fin 2) (g : Fin 4)
  /-- FCG_LOCK_LOSS (R305). -/
  | fcgLockLoss (h : Fin 2) (g : Fin 4)
  /-- RCLK_WRITE (R293). -/
  | rclkWrite (q : Req) (r : Fin 32) (which : Fin 3) (v : Word32)
  /-- BRAM_ACCESS (R313). -/
  | bramAccess (t : Fin 139520)
  /-- SLICE_HOLD (R324). -/
  | sliceHold (t : Fin 139520)
  /-- SLICE_LOAD (R324). -/
  | sliceLoad (t : Fin 139520)
  /-- SLICE_MAC (R324). -/
  | sliceMac (t : Fin 139520)
  /-- SLICE_MSU (R324). -/
  | sliceMsu (t : Fin 139520)
  /-- SLICE_LOADC (R324). -/
  | sliceLoadc (t : Fin 139520)
  /-- SLICE_ADDC (R324). -/
  | sliceAddc (t : Fin 139520)
  /-- SLICE_MACC (R324). -/
  | sliceMacc (t : Fin 139520)
  /-- SLICE_CLR (R324). -/
  | sliceClr (t : Fin 139520)
  /-- NE_RX_STALL_TIMEOUT (R302). -/
  | neRxStallTimeout (e : Fin 64)
  /-- NE_FENCE (R304). -/
  | neFence (e : Fin 64) (c : CtlFrom) (reconfig : Bool)
  /-- NE_RELEASE_DONE (R304). -/
  | neReleaseDone (e : Fin 64)
  /-- FLASH_BOOT (R343). -/
  | flashBoot (ptrA : BitVec 512) (ptrB : BitVec 512)
  /-- CFG_RING_ENTRY (R344). -/
  | cfgRingEntry (e : BitVec 128) (data : Nat)
  /-- CFG_STREAM_TIMEOUT (R347). -/
  | cfgStreamTimeout
  /-- FLASH_PRIMARY (R345). -/
  | flashPrimary (r : Req) (ptrA : BitVec 512) (ptrB : BitVec 512)
  /-- FLASH_GOLDEN (R345). -/
  | flashGolden (r : Req) (ptrA : BitVec 512) (ptrB : BitVec 512)
  /-- CFG_ABORT (R347). -/
  | cfgAbort (r : Req)
  /-- FLASH_COMMAND_TIMEOUT (R347). -/
  | flashCommandTimeout
  /-- SIGNATURE_VERIFIED (R346). -/
  | signatureVerified (flash : Img)
  /-- SEGMENT_WRITE (R346). -/
  | segmentWrite (pinHz : Nat)
  /-- DONE_QUALIFIED (R352). -/
  | doneQualified (high : Bool)
  /-- START_UP (R353). -/
  | startUp (late : Bool)
  /-- DONE_DROP (R352). -/
  | doneDrop
  /-- PRUNER_FRAME_CHECK (R358). -/
  | prunerFrameCheck (h : Fin 2) (fa : Word32) (mismatch : Bool) (own : Bool) (other : Bool) (ok : Bool) (mine : Bool)
  /-- PRUNER_CROSS_CHECK (R358). -/
  | prunerCrossCheck (h : Fin 2) (fa : Word32) (mismatch : Bool) (own : Bool) (other : Bool) (ok : Bool)
  /-- PRUNER_SCRUB_STEP (R360). -/
  | prunerScrubStep (h : Fin 2) (x : Scrub)
  /-- NOC_INJECT (R377). -/
  | nocInject (id : Fin 256) (fresh : Bool) (dest : Byte) (opc : Byte) (tag : Byte) (size : Fin 65) (attr : Byte)
      (addr : Word64) (data : Desc)
  /-- NOC_EJECT (R374). -/
  | nocEject (k : Nat) (full : Bool) (bad : Bool)
  /-- RD (R366). -/
  | rd (id : Fin 256) (ecc : Ecc) (host : Desc)
  /-- WR_REQ (R366). -/
  | wrReq (id : Fin 256)
  /-- RD_S (R265). -/
  | rdS (id : Fin 256) (ecc : Ecc)
  /-- RD_M (R265). -/
  | rdM (id : Fin 256) (ecc : Ecc)
  /-- ATOM_ACQ (R268). -/
  | atomAcq (id : Fin 256)
  /-- ATOM_REL (R268). -/
  | atomRel (id : Fin 256)
  /-- REG_RD (R366). -/
  | regRd (id : Fin 256)
  /-- REG_WR (R378). -/
  | regWr (id : Fin 256)
  /-- GRANT (R366). -/
  | grant (id : Fin 256)
  /-- ACK (R366). -/
  | ack (id : Fin 256)
  /-- NACK (R378). -/
  | nack (id : Fin 256)
  /-- SNP_ACK (R265). -/
  | snpAck (id : Fin 256)
  /-- REG_DATA (R366). -/
  | regData (id : Fin 256)
  /-- SNP_INV (R265). -/
  | snpInv (id : Fin 256) (data : Desc)
  /-- SNP_SHR (R265). -/
  | snpShr (id : Fin 256) (data : Desc)
  /-- WDATA (R366). -/
  | wdata (id : Fin 256) (ecc : Ecc)
  /-- RDATA (R366). -/
  | rdata (id : Fin 256)
  /-- SNP_DATA (R366). -/
  | snpData (id : Fin 256)
  /-- SNOOP_TIMEOUT (R266). -/
  | snoopTimeout (h : Fin 2) (agent : Fin 256)
  /-- NOC_RSP_TIMEOUT (R377). -/
  | nocRspTimeout (id : Fin 256) (tag : Byte)
  /-- FENCE_REQ (R379). -/
  | fenceReq (id : Fin 256) (fault : Bool) (c : CtlFrom)
  /-- FENCE_ACK (R379). -/
  | fenceAck (id : Fin 256) (timeout : Bool)
  /-- NI_RELEASE (R381). -/
  | niRelease (id : Fin 256) (c : CtlFrom)
  /-- ROUTE_TABLE_WRITE (R375). -/
  | routeTableWrite (r : Req) (t : Fin 256) (d : Fin 256) (v : Word32)
  /-- LINK_FAILED (R382). -/
  | linkFailed (h : Fin 2) (stop : Fin 20) (dir : Fin 2) (lost : List Nat)
  /-- SECOND_ROLLOVER (R386). -/
  | secondRollover (h : Fin 2)
  /-- PAIR_SAMPLE (R387). -/
  | pairSample (drift : Int)
  /-- TIMEBASE_STEP_APPLY (R387). -/
  | timebaseStepApply
  /-- PTP_OFFSET (R390). -/
  | ptpOffset (o : BitVec 32)
  /-- GRID_STEP_DEFERRED_APPLY (R392). -/
  | gridStepDeferredApply (expired : Bool)
  /-- HOLDOVER_TIMEOUT (R393). -/
  | holdoverTimeout
  /-- PTP_MASTER_LOST (R393). -/
  | ptpMasterLost
  /-- OSC_RATIO_WINDOW (R394). -/
  | oscRatioWindow
  /-- TMB_MODE_WRITE (R389). -/
  | tmbModeWrite (r : Req) (m : Fin 4)
  /-- TMB_INC_WRITE (R395). -/
  | tmbIncWrite (r : Req) (v : BitVec 36)
  /-- TIME_STEP_COMMIT (R396). -/
  | timeStepCommit (r : Req) (sec : Word32)
  /-- TRUNK_FRAME_RX (R397). -/
  | trunkFrameRx (p : Fin 4) (len : Nat) (data : Nat)
  /-- EVF_HALT (R402). -/
  | evfHalt (p : Fin 4) (group : BitVec 16) (seq : Word32) (sec : BitVec 48) (ns : BitVec 30)
  /-- EVF_HALT_ACTION (R402). -/
  | evfHaltAction (k : Nat)
  /-- EVF_START (R402). -/
  | evfStart (p : Fin 4) (group : BitVec 16) (seq : Word32) (sec : BitVec 48) (ns : BitVec 30) (k : Fin 8)
  /-- EVF_SYNC (R402). -/
  | evfSync (p : Fin 4) (group : BitVec 16) (seq : Word32) (sec : BitVec 48) (ns : BitVec 30)
  /-- TRIGGER_ARM (R403). -/
  | triggerArm (r : Req) (h : Fin 2) (k : Fin 8)
  /-- TRIGGER_PERIODIC_WRITE (R403). -/
  | triggerPeriodicWrite (r : Req) (h : Fin 2) (k : Fin 8) (on : Bool)
  /-- TRIGGER_FIRE (R403). -/
  | triggerFire (h : Fin 2) (k : Fin 8)
  /-- TRIG_OUT_PULSE_END (R405). -/
  | trigOutPulseEnd (h : Fin 2) (k : Fin 8)
  /-- LAUNCH_FRAME_SEND (R405). -/
  | launchFrameSend (p : Fin 4) (q : Fin 4) (sec : BitVec 48) (ns : Fin 1000000000) (frac : Fin 16)
  /-- START_COMPARATOR_FIRE (R406). -/
  | startComparatorFire (h : Fin 2) (c : Fin 64)
  /-- ALIGNED_START (R29). -/
  | alignedStart (h : Fin 2) (ws : List (Fin 104 × Nat))
  /-- TRIG_IN_EDGE (R407). -/
  | trigInEdge (k : Fin 8) (sec : BitVec 48) (ns : Fin 1000000000)
  /-- HEARTBEAT (R415). -/
  | heartbeat (silent : List (Fin 152))
  /-- ENGINE_FAULT (R414). -/
  | engineFault (n : Fin 104) (cache : Option Ecc)
  /-- CHANNEL_GROUP_FAULT (R414). -/
  | channelGroupFault (c : Fin 256)
  /-- VCC_CH_FAIL (R503). -/
  | vccChFail
  /-- GATE_DROP (R420). -/
  | gateDrop (u : Fin 218) (old : Option Word32)
  /-- REINSTATE (R421). -/
  | reinstate (r : Req) (u : Fin 256)
  /-- REINSTATE_DONE (R421). -/
  | reinstateDone (pass : Bool)
  /-- SUBSTITUTION_DRAIN_DONE (R423). -/
  | substitutionDrainDone (n : Fin 104)
  /-- SUBSTITUTION_RESTART (R423). -/
  | substitutionRestart (c : Fin 64)
  /-- ECHO_SEND (R426). -/
  | echoSend (h : Fin 2)
  /-- ECHO_PERIOD_CHECK (R426). -/
  | echoPeriodCheck (h : Fin 2) (echo : Bool) (wire : Bool)
  /-- ECHO_RX (R430). -/
  | echoRx (h : Fin 2)
  /-- CUSTODY_CLAIM (R427). -/
  | custodyClaim (h : Fin 2)
  /-- CUSTODY_ADVANCE (R427). -/
  | custodyAdvance (h : Fin 2) (e : Word32) (reach : Bool)
  /-- ADVANCE_RETRY (R430). -/
  | advanceRetry (h : Fin 2) (e : Word32) (reach : Bool)
  /-- COMMIT_UNIT_WRITE (R427). -/
  | commitUnitWrite (h : Fin 2)
  /-- CUSTODY_RECONCILE (R429). -/
  | custodyReconcile (host : List (BitVec 256 × List (BitVec 256)))
  /-- SNP_FIRE (R434). -/
  | snpFire (r : Req)
  /-- SNAP_IN_EDGE (R434). -/
  | snapInEdge
  /-- SNAP_DELIVER (R435). -/
  | snapDeliver
  /-- SNP_RELEASE (R439). -/
  | snpRelease (r : Req)
  /-- WEAR_HOUR (R437). -/
  | wearHour (cycles : Nat) (hot : Bool) (ages : List (BitVec 16))
  /-- POWER_ON_RESET (R440). -/
  | powerOnReset
  /-- RESET_N (R440). -/
  | resetN
  /-- SOFTWARE_DEVICE_RESET (R440). -/
  | softwareDeviceReset (r : Req) (stest : Bool) (stestDram : Bool) (key : BitVec 16)
  /-- RESET_RELEASE (R442). -/
  | resetRelease (straps : BitVec 5)
  /-- FW_BOOT_FLASH (R446). -/
  | fwBootFlash (dirA : BitVec 512) (dirB : BitVec 512) (primary : Img) (golden : Img)
  /-- FW_LOAD_GO (R447). -/
  | fwLoadGo (r : Req)
  /-- FW_VERIFY_DONE (R449). -/
  | fwVerifyDone
  /-- FW_EAST_VERIFY_DONE (R450). -/
  | fwEastVerifyDone (copy : Option Img)
  /-- SELFTEST_DONE (R452). -/
  | selftestDone (t : SelfTest)
  /-- SELFTEST_REFCLK_TIMEOUT (R451). -/
  | selftestRefclkTimeout
  /-- FUSE_ARM (R456). -/
  | fuseArm (r : Req) (field : BitVec 8)
  /-- FUSE_ARM_LAPSE (R456). -/
  | fuseArmLapse
  /-- FUSE_PROGRAM (R456). -/
  | fuseProgram (r : Req) (volt : Bool) (verified : Bool)
  /-- ATTEST_REQ (R458). -/
  | attestReq (r : Req)
  /-- ATTEST_DONE (R460). -/
  | attestDone (unstable : Bool)
  /-- AVS_STEP (R504). -/
  | avsStep (target : Nat) (ack : Bool)
  /-- HJELZ_LINE_RESET (R466). -/
  | hjelzLineReset
  /-- HJELZ_READ (R469). -/
  | hjelzRead (h : BitVec 62) (slow : Option Nat)
  /-- HJELZ_WRITE (R469). -/
  | hjelzWrite (h : BitVec 62)
  /-- HJELZ_WRITE_DATA (R469). -/
  | hjelzWriteData (data : List Word32) (crc : Byte) (slow : Option Nat)
  /-- HJELZ_ACCESS_TIMEOUT (R469). -/
  | hjelzAccessTimeout
  /-- HJELZ_PACKET_GAP (R465). -/
  | hjelzPacketGap
  /-- CHALLENGE (R472). -/
  | challenge
  /-- VERIFY (R472). -/
  | verify
  /-- AUTH_VERIFY_DONE (R473). -/
  | authVerifyDone
  /-- LOGOUT (R473). -/
  | logout
  /-- DBG_HALT (R474). -/
  | dbgHalt (n : Fin 104)
  /-- DBG_RESUME (R476). -/
  | dbgResume (n : Fin 104)
  /-- DBG_STEP (R476). -/
  | dbgStep (n : Fin 104)
  /-- DBG_FORCE (R478). -/
  | dbgForce (n : Fin 104)
  /-- MONITOR_ENTRY (R475). -/
  | monitorEntry (n : Fin 104) (w : Nat)
  /-- DEBUG_LOCK_DEFER (R478). -/
  | debugLockDefer (n : Fin 104)
  /-- STIMULUS_WRITE (R481). -/
  | stimulusWrite (r : Option Req) (n : Fin 104) (off : Fin 256) (size : Fin 65) (v : Desc)
  /-- TRACE_CLR (R487). -/
  | traceClr (r : Req) (h : Fin 2)
  /-- PIN_FUNC_WRITE (R494). -/
  | pinFuncWrite (r : Req) (p : Fin 96) (v : Word32)
  /-- PIN_SWITCH_COMPLETE (R494). -/
  | pinSwitchComplete (p : Fin 96)
  /-- GPP_HOLD_WRITE (R495). -/
  | gppHoldWrite (r : Req) (on : Bool)
  /-- VCCIO_LEVEL_CHANGE (R488). -/
  | vccioLevelChange (k : Fin 4) (level : Fin 6)
  /-- ADC_CONVERT (R498). -/
  | adcConvert (ch : Fin 20) (uv : Int) (err : Fin 9)
  /-- D3HOT_EXIT (R495). -/
  | d3hotExit
  /-- PPS_OUT_END (R408). -/
  | ppsOutEnd
  /-- SNAP_OUT_END (R435). -/
  | snapOutEnd
  /-- HOST_CONFIG_READY (R445). -/
  | hostConfigReady
  /-- PCS_BLOCK_LOCK_CHANGE (R410). -/
  | pcsBlockLockChange (p : Fin 4) (lock : Bool)
  /-- HJELZ_HEADER_REFUSED (R469). -/
  | hjelzHeaderRefused (h : BitVec 62)
  /-- DRAM_REFRESH (R233). -/
  | dramRefresh (n : Fin 8) (bank : Fin 32) (busy : Bool) (mr4 : BitVec 6)
  /-- REGIONAL_LINE_EDGE (R280). -/
  | regionalLineEdge (lines : List (Fin 512 × Bool)) (pads : BitVec 96) (driven : BitVec 96)
  /-- VCC_CH_VALID (R170). -/
  | vccChValid
  deriving DecidableEq, Repr

end Sys2Proof
end

