-- ==== Sys2Proof/Decode.lean ====
section
/-! DEFINITION. Commands from table words. The table of this block gives no row any bits: a command is no word of an instruction
memory, so that no word spells one. -/

namespace Sys2Proof

/-- The command that a word spells by the bits of the table: none, since no row of the table has bits. -/
def decodeTableWord (_nbits _w : Nat) : Option Instr := none

end Sys2Proof
end

