-- ==== Sys2Proof/Config.lean ====
section
/-! DEFINITION. What the model leaves open: the free values (constants without a body, so that no proof can see a
value of them) and the functions of cryptography, which the spec names and does not define. -/

namespace Sys2Proof.Config

/-- FREE VALUE (log entry 4): the k-th value that the spec leaves open; the step supplies k from State.fresh. -/
opaque freeBits : Nat → Nat

/-- FREE FUNCTION (log entry 5): does the signature (third argument) over a message (second) verify under the key
(first)? SLH-DSA of FIPS 205, which the spec names (R446, R473). -/
opaque sigOk : Nat → Nat → Nat → Bool

/-- FREE FUNCTION (log entry 5): SHA-256 of a message of n bytes. -/
opaque sha256 : Nat → Nat → Nat

/-- FREE FUNCTION (log entry 5): an SLH-DSA signature over a message by the device key. -/
opaque sign : Nat → Nat

/-- FREE FUNCTION (log entry 5): HMAC, key derivation and AES-256-GCM of a load (R337, R338): the plaintext of a segment under a
root key, by the salts and IV of the header and the segment's place, and whether its tag holds. -/
opaque openSegment : Nat → Nat → Nat → Nat → Nat × Bool

/-- FREE VALUE (log entry 3): the two firmware-key hashes fused at manufacture (R455). -/
opaque fwKeyHash : Nat → Nat

/-- FREE FUNCTION (log entry 5): FUSE_HASH (R461), of the programmed fields (field number, value) and FW_SVN; the order of the
fields in the hashed message is not stated. -/
opaque fuseHash : List (Nat × Option Nat) → Nat → Nat

/-- FREE VALUE (log entry 3): ROM_VER of an attestation report (R460). -/
opaque romVer : Nat

/-- FREE VALUE (log entry 31): what a loop of combinational fabric logic, or of wires, carries (node, number of the moment). -/
opaque loopBit : Nat → Nat → Bool

/-- FREE VALUE (log entry 32): the value of an I/O cell's input register under GHOLD and SR; its fields give INIT for O and T alone. -/
opaque ioInit : Nat → Bool

/-- FREE FUNCTION (log entry 33): the check bits of the block memories' Hamming (72,64) code, whose matrix the spec does not give. -/
opaque eccBits : Nat → Nat

/-- FREE FUNCTION (log entry 33): the corrected data of 64 data bits with 8 check bits that do not match, if the error is of one
bit. -/
opaque eccFix : Nat → Nat → Option Nat

/-- FREE FUNCTION (log entry 3): the certificate window (R459), word by word. -/
opaque certWord : Nat → Nat

/-- FREE FUNCTIONS (log entry 3): the AES-256-GCM keystream and tag of a retained frame (R357), by the retention key and the frame
address, the tag also by the ciphertext. -/
opaque retPad : Nat → Nat → Nat
opaque retTag : Nat → Nat → Nat → Nat

end Sys2Proof.Config
end

