-- ==== Sys2Proof/Machine/RegMap.lean ====
section
/-! DEFINITION. The register map: one constant per register field of the spec's register tables (key, width,
reset value, reserved encodings) and the table that says, register by register, where it lies in BAR0 and which
access type each of its fields has. A field is keyed by its BIT ADDRESS: 8 × (BAR0 byte offset of its register)
+ its lowest bit; a _LO/_HI pair (R10) is one 64-bit register at its _LO offset. The PORT space of the Hjelz port
(R485) stands above BAR0, at 0x400_0000. Reset values that the tables give as a rule or as "fused" are listed in
Machine/State.lean (resetRegs). -/

namespace Sys2Proof.Machine

/-- A register field: bit address, width, reset value, reserved encodings (inclusive ranges, R9). -/
structure Fld where
  key : Nat
  w   : Nat
  rst : Nat
  rsv : List (Nat × Nat)
  deriving DecidableEq, Repr

/-- Access types of R11 (RWL belongs to no register at behaviour level BL1). -/
inductive Acc | rw | ro | wo | w1c | w1s | rc
  deriving DecidableEq, Repr

/-- One field of a register in the map: lowest bit, width, access type, reset value, reserved encodings. -/
structure FieldDef where
  lo  : Nat
  w   : Nat
  acc : Acc
  rst : Nat
  rsv : List (Nat × Nat)
  deriving DecidableEq, Repr

/-- The registers of the map, by their names without the trailing indices. -/
inductive RegName
  | GLB_ECLK_CTL | GLB_ECLK_FW | HIF_LINK_STAT | HIF_FN_CFG | HIF_FN_DB | HIF_FN_EVR | HIF_FN_STAT 
  | HIF_CTX_CFG | HIF_CTX_SQ | HIF_CTX_CQ | HIF_CTX_LEDGER | HIF_CTX_SEQBASE | HIF_CTX_GEN | HIF_CTX_STAT 
  | HIF_CTX_ACC | HIF_CTX_CMP | ENG_SEQ_CTL | ENG_SEQ_STAT | ENG_CTL | ENG_STAT | ENG_MAP | ENG_FLAG 
  | ENG_IRQ | ENG_WDOG | ENG_SPEC | ENG_ERR | ENG_PERF | ENG_CYC | VSW_SEL | VSW_ERR | VSW_DWAIT 
  | VSW_PORT_CFG | VSW_PORT_STAT | FPU_SPX_CTL | FPU_SPX_RET | FPU_SPX_SITE | FPU_SPX_BR | FPU_SPX_MP 
  | FPU_SPX_SQ | FPU_SPX_EVT | FPU_SPX_SUMP | FPU_SPX_FAB | CHN_CFG | CHN_DSK | CHN_STAT | CHN_CAL_CTL 
  | CHN_CAL_STAT | CHN_TSENS | CHN_SSG_CFG | CHN_SSG_DLY | CHN_SSG_STAT | FPU_FCNT | FPU_FF_CYC | FPU_FF_XY 
  | FPU_FF_INFO | FPU_CAP_CFG | FPU_CAP_BASE | FPU_CAP_LIM | FPU_CAP_STAT | FPU_CAP_DROP | FPU_CAP_LOGN 
  | FPU_CAP_HOLD | FPU_FFS_CTL | FPU_FFS_STAT | FPU_FP_STAT | FPU_FCC_CTL | FPU_FCC_STAT | FPU_FCC_HIT 
  | FPU_FCC_EVICT | DMC_CTL | DMC_STAT | DMC_GEOM | DMC_FSP | DMC_FSP_CTL | DMC_RETR | DMC_SR | DMC_SCHED 
  | DMC_ERR | DMC_CE | DMC_UE | DMC_EADDR | DMC_RD | DMC_WR | DMC_ROR | DMC_FWD | DMC_HIT | DMC_AGE | DMC_RMW 
  | DMC_TRAIN | DMC_TEMP | DMC_HALF | DMC_USABLE | DMC_WIN | BNK_PWR | BNK_PSTAT | BNK_COP_CTL | BNK_COP_EXM 
  | BNK_COP_STAT | BNK_ERR | BNK_CE | BNK_UE | BNK_EADDR | FAB_FCG_CFG | FAB_FCG_DIV | FAB_FCG_STAT 
  | FAB_RCLK_A | FAB_RCLK_B | FAB_RCLK_C | FAB_NE_CFG | FAB_NE_STAT | FAB_IO | FAB_STAT | CFG_LOAD_CTL 
  | CFG_LOAD_STATUS | CFG_DESIGN | CFG_HRING | CFG_HRING_CFG | CFG_HRING_PI | CFG_HRING_CI | CFG_QFENCE 
  | CFG_DONE | CFG_PRN_CTL | CFG_PRN_STAT | CFG_PRN_LAST | NOC_TMO | NOC_ERR | NOC_LINK | NOC_CRC 
  | NOC_STOP_STAT | NOC_NI_STAT | NOC_NI_ERR | TMB_CTL | TMB_STAT | TMB_NOW_FRAC | TMB_NOW_NS | TMB_NOW_SEC 
  | TMB_STEP_NS | TMB_STEP_SEC | TMB_INC | TMB_SRV_CFG | TMB_SRV_OFS | TMB_SRV_RATE | TMB_PAIR | TMB_PPS 
  | TMB_PTP_CFG | TMB_EVF_CFG | TMB_EVF_CTX | TMB_EVF_STAT | TMB_TIN_NS | TMB_TIN_SEC | TMB_TRK_CFG 
  | TMB_TRK_PHY | TMB_TRK_LAT | TMB_TRK_ASYM | TMB_TRK_STAT | TMB_TRK_RXO | TMB_LCH_CFG | TMB_LCH_TS0 
  | TMB_LCH_TS1 | TMB_LCH_TS2 | TMB_TRG_CTL | TMB_TRG_NS | TMB_TRG_SEC | TMB_TRG_PER | TMB_TRG_CNT | SUP_CTL 
  | SUP_STAT | SUP_CUST_EPOCH | SUP_CUST_STALE | SUP_ECHO | SUP_WEAR_POH | SUP_WEAR_CYC | SUP_WEAR_HOT 
  | SUP_AGE | SUP_UNIT_STAT | SUP_UNIT_EPOCH | SNP_CTL | SNP_STAT | SNP_GEN | SNP_TIME_NS | SNP_TIME_SEC 
  | GLB_ID | GLB_LIKE_CLASS | GLB_BEHAVIOUR | GLB_STATE | GLB_STRAP | GLB_RESET | GLB_RST_CAUSE | GLB_FWLOAD 
  | GLB_BOOT_STAT | GLB_STEST_SUM | GLB_STEST_UNIT | GLB_STEST_BANK | SEC_SLOTS | SEC_FW_SVN | SEC_SERIAL 
  | SEC_ATT_CTL | SEC_CERT_LEN | SEC_ATT_NONCE | SEC_PROG_CTL | SEC_PROG_DATA | DBG_PORT_ID | DBG_PORT_STAT 
  | DBG_AUTH_CTL | DBG_CFG | DBG_ENG_CTL | DBG_ENG_STAT | DBG_ENG_HIT | DBG_ENG_HITCYC | DBG_ENG_STIM 
  | DBG_CMP_CFG | DBG_CMP_A | DBG_CMP_B | DBG_TRC_CTL | DBG_TRC_WP | DBG_TRC_STAT | DBG_TRC_WIN | GPP_PIN 
  | GPP_BANK | GPP_CTL | GPP_STAT | GPP_CONF | GPP_ADC 
  deriving DecidableEq, Repr

/-- A register of the map: instance (i, j) is at base + i × s1 + j × s2 for i < c1 and j < c2; wide: a 64-bit pair. -/
structure RegDef where
  name   : RegName
  base   : Nat
  s1     : Nat
  c1     : Nat
  s2     : Nat
  c2     : Nat
  wide   : Bool
  fields : List FieldDef
  deriving DecidableEq, Repr

/-! GLB_ECLK_CTL_n (R27, spec/01_architecture.md) -/
def F.GLB_ECLK_CTL.ALIGN_SRC (i : Nat) : Fld := ⟨0x806 + i * 0x100, 2, 0, [(3, 3)]⟩
def F.GLB_ECLK_CTL.APPLY (i : Nat) : Fld := ⟨0x805 + i * 0x100, 1, 0, []⟩
def F.GLB_ECLK_CTL.LOCKLOSS (i : Nat) : Fld := ⟨0x804 + i * 0x100, 1, 0, []⟩
def F.GLB_ECLK_CTL.LOCKED (i : Nat) : Fld := ⟨0x803 + i * 0x100, 1, 0, []⟩
def F.GLB_ECLK_CTL.ABANDONED (i : Nat) : Fld := ⟨0x802 + i * 0x100, 1, 0, []⟩
def F.GLB_ECLK_CTL.CANCEL (i : Nat) : Fld := ⟨0x801 + i * 0x100, 1, 0, []⟩
def F.GLB_ECLK_CTL.EN (i : Nat) : Fld := ⟨0x800 + i * 0x100, 1, 1, []⟩
/-! GLB_ECLK_FW_n (R27, spec/01_architecture.md) -/
def F.GLB_ECLK_FW.FW (i : Nat) : Fld := ⟨0x820 + i * 0x100, 48, 5497558138880, []⟩
/-! HIF_LINK_STAT (R35, spec/02_host_jobs.md) -/
def F.HIF_LINK_STAT.SLOW : Fld := ⟨0x84000B, 1, 0, []⟩
def F.HIF_LINK_STAT.FLIT : Fld := ⟨0x84000A, 1, 0, []⟩
def F.HIF_LINK_STAT.WIDTH : Fld := ⟨0x840006, 4, 0, []⟩
def F.HIF_LINK_STAT.RATE : Fld := ⟨0x840003, 3, 0, []⟩
def F.HIF_LINK_STAT.UP : Fld := ⟨0x840000, 1, 0, []⟩
/-! HIF_FN_CFG_f (R38, spec/02_host_jobs.md) -/
def F.HIF_FN_CFG.EVMSIX (i : Nat) : Fld := ⟨0x80000B + i * 0x200, 6, 0, []⟩
def F.HIF_FN_CFG.EN (i : Nat) : Fld := ⟨0x800009 + i * 0x200, 1, 0, []⟩
def F.HIF_FN_CFG.POLL (i : Nat) : Fld := ⟨0x800000 + i * 0x200, 9, 8, [(0, 0), (401, 511)]⟩
/-! HIF_FN_DB_f (R38, spec/02_host_jobs.md) -/
def F.HIF_FN_DB.DB (i : Nat) : Fld := ⟨0x800046 + i * 0x200, 58, 0, []⟩
/-! HIF_FN_EVR_f (R38, spec/02_host_jobs.md) -/
def F.HIF_FN_EVR.EVR (i : Nat) : Fld := ⟨0x80008C + i * 0x200, 52, 0, []⟩
def F.HIF_FN_EVR.LOG2SZ (i : Nat) : Fld := ⟨0x800080 + i * 0x200, 4, 0, [(13, 15)]⟩
/-! HIF_FN_STAT_f (R38, spec/02_host_jobs.md) -/
def F.HIF_FN_STAT.EV_DROP (i : Nat) : Fld := ⟨0x8000D0 + i * 0x200, 16, 0, []⟩
def F.HIF_FN_STAT.MSIX_RANGE (i : Nat) : Fld := ⟨0x8000C3 + i * 0x200, 1, 0, []⟩
def F.HIF_FN_STAT.DMA_ERR (i : Nat) : Fld := ⟨0x8000C2 + i * 0x200, 1, 0, []⟩
def F.HIF_FN_STAT.DB_STALE (i : Nat) : Fld := ⟨0x8000C1 + i * 0x200, 1, 0, []⟩
def F.HIF_FN_STAT.EV_OVF (i : Nat) : Fld := ⟨0x8000C0 + i * 0x200, 1, 0, []⟩
/-! HIF_CTX_CFG_n (R40, spec/02_host_jobs.md) -/
def F.HIF_CTX_CFG.MSIX (i : Nat) : Fld := ⟨0x808010 + i * 0x200, 6, 0, []⟩
def F.HIF_CTX_CFG.FN (i : Nat) : Fld := ⟨0x808008 + i * 0x200, 6, 0, [(33, 63)]⟩
def F.HIF_CTX_CFG.LOG2SZ (i : Nat) : Fld := ⟨0x808004 + i * 0x200, 4, 0, [(13, 15)]⟩
def F.HIF_CTX_CFG.HALTED (i : Nat) : Fld := ⟨0x808002 + i * 0x200, 1, 0, []⟩
def F.HIF_CTX_CFG.RECONCILE (i : Nat) : Fld := ⟨0x808001 + i * 0x200, 1, 0, []⟩
def F.HIF_CTX_CFG.EN (i : Nat) : Fld := ⟨0x808000 + i * 0x200, 1, 0, []⟩
/-! HIF_CTX_SQ_n (R40, spec/02_host_jobs.md) -/
def F.HIF_CTX_SQ.SQ (i : Nat) : Fld := ⟨0x80802C + i * 0x200, 52, 0, []⟩
/-! HIF_CTX_CQ_n (R40, spec/02_host_jobs.md) -/
def F.HIF_CTX_CQ.CQ (i : Nat) : Fld := ⟨0x80806C + i * 0x200, 52, 0, []⟩
/-! HIF_CTX_LEDGER_n (R40, spec/02_host_jobs.md) -/
def F.HIF_CTX_LEDGER.LEDGER (i : Nat) : Fld := ⟨0x8080A5 + i * 0x200, 59, 0, []⟩
/-! HIF_CTX_SEQBASE_n (R40, spec/02_host_jobs.md) -/
def F.HIF_CTX_SEQBASE.SEQBASE (i : Nat) : Fld := ⟨0x8080E0 + i * 0x200, 64, 1, [(0, 0)]⟩
/-! HIF_CTX_GEN_n (R40, spec/02_host_jobs.md) -/
def F.HIF_CTX_GEN.GEN (i : Nat) : Fld := ⟨0x808120 + i * 0x200, 16, 0, []⟩
/-! HIF_CTX_STAT_n (R40, spec/02_host_jobs.md) -/
def F.HIF_CTX_STAT.REASON (i : Nat) : Fld := ⟨0x808140 + i * 0x200, 8, 0, []⟩
/-! HIF_CTX_ACC_n (R40, spec/02_host_jobs.md) -/
def F.HIF_CTX_ACC.ACC (i : Nat) : Fld := ⟨0x808160 + i * 0x200, 64, 0, []⟩
/-! HIF_CTX_CMP_n (R40, spec/02_host_jobs.md) -/
def F.HIF_CTX_CMP.CMP (i : Nat) : Fld := ⟨0x8081A0 + i * 0x200, 64, 0, []⟩
/-! ENG_SEQ_CTL (R77, spec/03_sequencer.md) -/
def F.ENG_SEQ_CTL.BUSY : Fld := ⟨0x2D00003, 1, 0, []⟩
def F.ENG_SEQ_CTL.WR_DISC : Fld := ⟨0x2D00001, 1, 0, []⟩
def F.ENG_SEQ_CTL.SPLIT : Fld := ⟨0x2D00000, 1, 0, []⟩
/-! ENG_SEQ_STAT (R77, spec/03_sequencer.md) -/
def F.ENG_SEQ_STAT.UE_E : Fld := ⟨0x2D00038, 8, 0, []⟩
def F.ENG_SEQ_STAT.CE_E : Fld := ⟨0x2D00030, 8, 0, []⟩
def F.ENG_SEQ_STAT.UE_W : Fld := ⟨0x2D00028, 8, 0, []⟩
def F.ENG_SEQ_STAT.CE_W : Fld := ⟨0x2D00020, 8, 0, []⟩
/-! ENG_CTL_n (R112, spec/03_sequencer.md) -/
def F.ENG_CTL.CACHE_INV (i : Nat) : Fld := ⟨0x2000003 + i * 0x20000, 1, 0, []⟩
def F.ENG_CTL.PRELOAD (i : Nat) : Fld := ⟨0x2000002 + i * 0x20000, 1, 1, []⟩
/-! ENG_STAT_n (R112, spec/03_sequencer.md) -/
def F.ENG_STAT.STATE (i : Nat) : Fld := ⟨0x200003D + i * 0x20000, 3, 0, []⟩
def F.ENG_STAT.IN_HANDLER (i : Nat) : Fld := ⟨0x200003C + i * 0x20000, 1, 0, []⟩
def F.ENG_STAT.LOCKED (i : Nat) : Fld := ⟨0x200003B + i * 0x20000, 1, 0, []⟩
def F.ENG_STAT.PROV (i : Nat) : Fld := ⟨0x200003A + i * 0x20000, 1, 0, []⟩
def F.ENG_STAT.STALL (i : Nat) : Fld := ⟨0x2000036 + i * 0x20000, 4, 0, []⟩
def F.ENG_STAT.SP (i : Nat) : Fld := ⟨0x2000031 + i * 0x20000, 5, 0, []⟩
def F.ENG_STAT.PC (i : Nat) : Fld := ⟨0x2000020 + i * 0x20000, 17, 0, []⟩
/-! ENG_MAP_n (R112, spec/03_sequencer.md) -/
def F.ENG_MAP.FENCED (i : Nat) : Fld := ⟨0x200004F + i * 0x20000, 1, 0, []⟩
def F.ENG_MAP.GANG (i : Nat) : Fld := ⟨0x200004C + i * 0x20000, 3, 0, []⟩
def F.ENG_MAP.LEADER (i : Nat) : Fld := ⟨0x200004B + i * 0x20000, 1, 0, []⟩
def F.ENG_MAP.LE (i : Nat) : Fld := ⟨0x2000040 + i * 0x20000, 7, 0, []⟩
/-! ENG_FLAG_n (R112, spec/03_sequencer.md) -/
def F.ENG_FLAG.FLAG_HI (i : Nat) : Fld := ⟨0x2000064 + i * 0x20000, 4, 0, []⟩
def F.ENG_FLAG.PORT_DOWN (i : Nat) : Fld := ⟨0x2000063 + i * 0x20000, 1, 0, []⟩
def F.ENG_FLAG.FLAG_LO (i : Nat) : Fld := ⟨0x2000060 + i * 0x20000, 3, 0, []⟩
/-! ENG_IRQ_n (R112, spec/03_sequencer.md) -/
def F.ENG_IRQ.PEND (i : Nat) : Fld := ⟨0x200009A + i * 0x20000, 6, 0, []⟩
def F.ENG_IRQ.TTRIG (i : Nat) : Fld := ⟨0x2000091 + i * 0x20000, 3, 0, []⟩
def F.ENG_IRQ.IVB (i : Nat) : Fld := ⟨0x2000085 + i * 0x20000, 12, 0, []⟩
def F.ENG_IRQ.EN (i : Nat) : Fld := ⟨0x2000080 + i * 0x20000, 4, 0, []⟩
/-! ENG_WDOG_n (R112, spec/03_sequencer.md) -/
def F.ENG_WDOG.PERIOD (i : Nat) : Fld := ⟨0x20000A0 + i * 0x20000, 32, 0, []⟩
/-! ENG_SPEC_n (R112, spec/03_sequencer.md) -/
def F.ENG_SPEC.FLUSH (i : Nat) : Fld := ⟨0x20000D1 + i * 0x20000, 1, 0, []⟩
def F.ENG_SPEC.EN (i : Nat) : Fld := ⟨0x20000D0 + i * 0x20000, 1, 0, []⟩
def F.ENG_SPEC.LC (i : Nat) : Fld := ⟨0x20000C0 + i * 0x20000, 10, 512, [(0, 7), (513, 1023)]⟩
/-! ENG_ERR_n (R112, spec/03_sequencer.md) -/
def F.ENG_ERR.ERR_PC (i : Nat) : Fld := ⟨0x20000EF + i * 0x20000, 17, 0, []⟩
def F.ENG_ERR.HB_MISS (i : Nat) : Fld := ⟨0x20000E5 + i * 0x20000, 1, 0, []⟩
def F.ENG_ERR.STACK_UNF (i : Nat) : Fld := ⟨0x20000E4 + i * 0x20000, 1, 0, []⟩
def F.ENG_ERR.STACK_OVF (i : Nat) : Fld := ⟨0x20000E3 + i * 0x20000, 1, 0, []⟩
def F.ENG_ERR.ILLEGAL (i : Nat) : Fld := ⟨0x20000E2 + i * 0x20000, 1, 0, []⟩
def F.ENG_ERR.SEQ_UE (i : Nat) : Fld := ⟨0x20000E1 + i * 0x20000, 1, 0, []⟩
def F.ENG_ERR.PARITY (i : Nat) : Fld := ⟨0x20000E0 + i * 0x20000, 1, 0, []⟩
/-! ENG_PERF_n (R112, spec/03_sequencer.md) -/
def F.ENG_PERF.CE (i : Nat) : Fld := ⟨0x2000110 + i * 0x20000, 16, 0, []⟩
def F.ENG_PERF.MISS (i : Nat) : Fld := ⟨0x2000100 + i * 0x20000, 16, 0, []⟩
/-! ENG_CYC_n (R112, spec/03_sequencer.md) -/
def F.ENG_CYC.CYC (i : Nat) : Fld := ⟨0x2000120 + i * 0x20000, 64, 0, []⟩
/-! VSW_SEL_h[c] (R133, spec/04_vector_path.md) -/
def F.VSW_SEL.EN (i : Nat) (j : Nat) : Fld := ⟨0x400801F + i * 0x80000 + j * 0x20, 1, 0, []⟩
def F.VSW_SEL.SITE (i : Nat) (j : Nat) : Fld := ⟨0x4008018 + i * 0x80000 + j * 0x20, 4, 0, []⟩
def F.VSW_SEL.MATCH (i : Nat) (j : Nat) : Fld := ⟨0x4008017 + i * 0x80000 + j * 0x20, 1, 0, []⟩
def F.VSW_SEL.ROT (i : Nat) (j : Nat) : Fld := ⟨0x4008010 + i * 0x80000 + j * 0x20, 4, 0, []⟩
def F.VSW_SEL.LANE (i : Nat) (j : Nat) : Fld := ⟨0x4008008 + i * 0x80000 + j * 0x20, 5, 0, []⟩
def F.VSW_SEL.SRC (i : Nat) (j : Nat) : Fld := ⟨0x4008000 + i * 0x80000 + j * 0x20, 6, 0, [(56, 63)]⟩
/-! VSW_ERR_h (R142, spec/04_vector_path.md) -/
def F.VSW_ERR.SLOT (i : Nat) : Fld := ⟨0x4000008 + i * 0x80000, 6, 0, []⟩
def F.VSW_ERR.SEL_BUSY (i : Nat) : Fld := ⟨0x4000002 + i * 0x80000, 1, 0, []⟩
def F.VSW_ERR.TBL_BUSY (i : Nat) : Fld := ⟨0x4000001 + i * 0x80000, 1, 0, []⟩
def F.VSW_ERR.RSV_TABLE (i : Nat) : Fld := ⟨0x4000000 + i * 0x80000, 1, 0, []⟩
/-! VSW_DWAIT_h (R142, spec/04_vector_path.md) -/
def F.VSW_DWAIT.TABLE (i : Nat) : Fld := ⟨0x4000030 + i * 0x80000, 16, 0, []⟩
def F.VSW_DWAIT.STREAM (i : Nat) : Fld := ⟨0x4000020 + i * 0x80000, 16, 0, []⟩
/-! VSW_PORT_CFG_h_p (R142, spec/04_vector_path.md) -/
def F.VSW_PORT_CFG.CLKSEL (i : Nat) (j : Nat) : Fld := ⟨0x4000808 + i * 0x80000 + j * 0x80, 4, 0, []⟩
def F.VSW_PORT_CFG.FLUSH (i : Nat) (j : Nat) : Fld := ⟨0x4000807 + i * 0x80000 + j * 0x80, 1, 0, []⟩
def F.VSW_PORT_CFG.UNDERRUN (i : Nat) (j : Nat) : Fld := ⟨0x4000806 + i * 0x80000 + j * 0x80, 1, 0, []⟩
def F.VSW_PORT_CFG.PACER (i : Nat) (j : Nat) : Fld := ⟨0x4000800 + i * 0x80000 + j * 0x80, 6, 63, [(48, 62)]⟩
/-! VSW_PORT_STAT_h_p (R142, spec/04_vector_path.md) -/
def F.VSW_PORT_STAT.UNDER (i : Nat) (j : Nat) : Fld := ⟨0x4000830 + i * 0x80000 + j * 0x80, 16, 0, []⟩
def F.VSW_PORT_STAT.DOWN (i : Nat) (j : Nat) : Fld := ⟨0x4000826 + i * 0x80000 + j * 0x80, 1, 0, []⟩
def F.VSW_PORT_STAT.LEVEL (i : Nat) (j : Nat) : Fld := ⟨0x4000820 + i * 0x80000 + j * 0x80, 5, 0, []⟩
/-! FPU_SPX_CTL_n (R166, spec/05_speculation.md) -/
def F.FPU_SPX_CTL.MONLY (i : Nat) : Fld := ⟨0x8780010 + i * 0x100, 16, 0, []⟩
def F.FPU_SPX_CTL.POLL_RET (i : Nat) : Fld := ⟨0x8780000 + i * 0x100, 1, 0, []⟩
/-! FPU_SPX_RET_n (R166, spec/05_speculation.md) -/
def F.FPU_SPX_RET.RET_LIMIT (i : Nat) : Fld := ⟨0x8780020 + i * 0x100, 16, 0, []⟩
/-! FPU_SPX_SITE_n (R166, spec/05_speculation.md) -/
def F.FPU_SPX_SITE.RETIRED (i : Nat) : Fld := ⟨0x8780050 + i * 0x100, 16, 0, []⟩
def F.FPU_SPX_SITE.POLLED (i : Nat) : Fld := ⟨0x8780040 + i * 0x100, 16, 0, []⟩
/-! FPU_SPX_BR_n (R166, spec/05_speculation.md) -/
def F.FPU_SPX_BR.SPEC_BRANCHES (i : Nat) : Fld := ⟨0x8780060 + i * 0x100, 32, 0, []⟩
/-! FPU_SPX_MP_n (R166, spec/05_speculation.md) -/
def F.FPU_SPX_MP.SPEC_MISPRED (i : Nat) : Fld := ⟨0x8780080 + i * 0x100, 32, 0, []⟩
/-! FPU_SPX_SQ_n (R166, spec/05_speculation.md) -/
def F.FPU_SPX_SQ.SPEC_SQUASHED (i : Nat) : Fld := ⟨0x87800A0 + i * 0x100, 32, 0, []⟩
/-! FPU_SPX_EVT_n (R166, spec/05_speculation.md) -/
def F.FPU_SPX_EVT.SUMP_STALL (i : Nat) : Fld := ⟨0x87800D0 + i * 0x100, 16, 0, []⟩
def F.FPU_SPX_EVT.LATE (i : Nat) : Fld := ⟨0x87800C0 + i * 0x100, 16, 0, []⟩
/-! FPU_SPX_SUMP_n (R166, spec/05_speculation.md) -/
def F.FPU_SPX_SUMP.OUT (i : Nat) : Fld := ⟨0x87800F9 + i * 0x100, 7, 0, []⟩
def F.FPU_SPX_SUMP.PEAK (i : Nat) : Fld := ⟨0x87800EB + i * 0x100, 11, 0, []⟩
def F.FPU_SPX_SUMP.USED (i : Nat) : Fld := ⟨0x87800E0 + i * 0x100, 11, 0, []⟩
/-! FPU_SPX_FAB_h (R166, spec/05_speculation.md) -/
def F.FPU_SPX_FAB.DROP (i : Nat) : Fld := ⟨0x8788000 + i * 0x20, 16, 0, []⟩
/-! CHN_CFG_n (R197, spec/06_channel_timing.md) -/
def F.CHN_CFG.LPBK (i : Nat) : Fld := ⟨0x6000014 + i * 0x10000, 1, 0, []⟩
def F.CHN_CFG.SSM (i : Nat) : Fld := ⟨0x6000012 + i * 0x10000, 1, 0, []⟩
def F.CHN_CFG.SSG (i : Nat) : Fld := ⟨0x6000010 + i * 0x10000, 2, 0, []⟩
def F.CHN_CFG.TCOMP (i : Nat) : Fld := ⟨0x600000F + i * 0x10000, 1, 1, []⟩
def F.CHN_CFG.INV (i : Nat) : Fld := ⟨0x600000B + i * 0x10000, 4, 0, []⟩
def F.CHN_CFG.PAUSE_DRV (i : Nat) : Fld := ⟨0x6000009 + i * 0x10000, 2, 1, []⟩
def F.CHN_CFG.SWING (i : Nat) : Fld := ⟨0x6000004 + i * 0x10000, 5, 8, [(17, 31)]⟩
def F.CHN_CFG.UIC (i : Nat) : Fld := ⟨0x6000002 + i * 0x10000, 2, 0, [(3, 3)]⟩
def F.CHN_CFG.MODE (i : Nat) : Fld := ⟨0x6000000 + i * 0x10000, 2, 0, [(2, 3)]⟩
/-! CHN_DSK_n (R197, spec/06_channel_timing.md) -/
def F.CHN_DSK.SPH (i : Nat) : Fld := ⟨0x600003A + i * 0x10000, 6, 32, []⟩
def F.CHN_DSK.DSK_CMP (i : Nat) : Fld := ⟨0x600002D + i * 0x10000, 13, 0, []⟩
def F.CHN_DSK.DSK_DRV (i : Nat) : Fld := ⟨0x6000020 + i * 0x10000, 13, 0, []⟩
/-! CHN_STAT_n (R197, spec/06_channel_timing.md) -/
def F.CHN_STAT.CLASH_CNT (i : Nat) : Fld := ⟨0x6000050 + i * 0x10000, 16, 0, []⟩
def F.CHN_STAT.RATE_ERR (i : Nat) : Fld := ⟨0x600004B + i * 0x10000, 1, 0, []⟩
def F.CHN_STAT.MODE_CHG (i : Nat) : Fld := ⟨0x600004A + i * 0x10000, 1, 0, []⟩
def F.CHN_STAT.CAL_FAIL (i : Nat) : Fld := ⟨0x6000049 + i * 0x10000, 1, 0, []⟩
def F.CHN_STAT.SS_MISS (i : Nat) : Fld := ⟨0x6000048 + i * 0x10000, 1, 0, []⟩
def F.CHN_STAT.SS_CFG (i : Nat) : Fld := ⟨0x6000047 + i * 0x10000, 1, 0, []⟩
def F.CHN_STAT.CFG_DISC (i : Nat) : Fld := ⟨0x6000046 + i * 0x10000, 1, 0, []⟩
def F.CHN_STAT.TSET_BUSY (i : Nat) : Fld := ⟨0x6000045 + i * 0x10000, 1, 0, []⟩
def F.CHN_STAT.RSV_TSET (i : Nat) : Fld := ⟨0x6000044 + i * 0x10000, 1, 0, []⟩
def F.CHN_STAT.EDGE_CLASH (i : Nat) : Fld := ⟨0x6000043 + i * 0x10000, 1, 0, []⟩
def F.CHN_STAT.FENCED (i : Nat) : Fld := ⟨0x6000041 + i * 0x10000, 1, 0, []⟩
def F.CHN_STAT.SER_LOCK (i : Nat) : Fld := ⟨0x6000040 + i * 0x10000, 1, 0, []⟩
/-! CHN_CAL_CTL_b (R198, spec/06_channel_timing.md) -/
def F.CHN_CAL_CTL.HOLD (i : Nat) : Fld := ⟨0x7000008 + i * 0x8000, 1, 0, []⟩
def F.CHN_CAL_CTL.TPER (i : Nat) : Fld := ⟨0x7000000 + i * 0x8000, 8, 10, [(0, 0)]⟩
/-! CHN_CAL_STAT_b (R198, spec/06_channel_timing.md) -/
def F.CHN_CAL_STAT.SENS_BAD (i : Nat) : Fld := ⟨0x7000030 + i * 0x8000, 8, 0, []⟩
def F.CHN_CAL_STAT.CLAMP (i : Nat) : Fld := ⟨0x7000028 + i * 0x8000, 8, 0, []⟩
def F.CHN_CAL_STAT.BUSY (i : Nat) : Fld := ⟨0x7000020 + i * 0x8000, 1, 0, []⟩
/-! CHN_TSENS_b_k (R198, spec/06_channel_timing.md) -/
def F.CHN_TSENS.TEMP (i : Nat) (j : Nat) : Fld := ⟨0x7000080 + i * 0x8000 + j * 0x20, 12, 0, []⟩
/-! CHN_SSG_CFG_b_g (R198, spec/06_channel_timing.md) -/
def F.CHN_SSG_CFG.WIN_CLOSE (i : Nat) (j : Nat) : Fld := ⟨0x7000218 + i * 0x8000 + j * 0x80, 8, 0, []⟩
def F.CHN_SSG_CFG.WIN_OPEN (i : Nat) (j : Nat) : Fld := ⟨0x7000210 + i * 0x8000 + j * 0x80, 8, 0, []⟩
def F.CHN_SSG_CFG.SRC (i : Nat) (j : Nat) : Fld := ⟨0x7000208 + i * 0x8000 + j * 0x80, 5, 0, []⟩
def F.CHN_SSG_CFG.EN (i : Nat) (j : Nat) : Fld := ⟨0x7000207 + i * 0x8000 + j * 0x80, 1, 0, []⟩
def F.CHN_SSG_CFG.EDGE (i : Nat) (j : Nat) : Fld := ⟨0x7000206 + i * 0x8000 + j * 0x80, 1, 0, []⟩
def F.CHN_SSG_CFG.LEAD (i : Nat) (j : Nat) : Fld := ⟨0x7000204 + i * 0x8000 + j * 0x80, 2, 0, []⟩
/-! CHN_SSG_DLY_b_g (R198, spec/06_channel_timing.md) -/
def F.CHN_SSG_DLY.DLY (i : Nat) (j : Nat) : Fld := ⟨0x7000220 + i * 0x8000 + j * 0x80, 13, 0, []⟩
/-! CHN_SSG_STAT_b_g (R198, spec/06_channel_timing.md) -/
def F.CHN_SSG_STAT.EXTRA (i : Nat) (j : Nat) : Fld := ⟨0x7000250 + i * 0x8000 + j * 0x80, 16, 0, []⟩
def F.CHN_SSG_STAT.MISS (i : Nat) (j : Nat) : Fld := ⟨0x7000240 + i * 0x8000 + j * 0x80, 16, 0, []⟩
/-! FPU_FCNT_n (R230, spec/07_compare_fail.md) -/
def F.FPU_FCNT.FCNT (i : Nat) : Fld := ⟨0x8000000 + i * 0x100, 48, 0, []⟩
/-! FPU_FF_n_CYC (R230, spec/07_compare_fail.md) -/
def F.FPU_FF_CYC.CYCLE (i : Nat) : Fld := ⟨0x8000040 + i * 0x100, 64, 0, []⟩
/-! FPU_FF_n_XY (R230, spec/07_compare_fail.md) -/
def F.FPU_FF_XY.X (i : Nat) : Fld := ⟨0x8000080 + i * 0x100, 24, 0, []⟩
def F.FPU_FF_XY.Y (i : Nat) : Fld := ⟨0x80000A0 + i * 0x100, 24, 0, []⟩
/-! FPU_FF_n_INFO (R230, spec/07_compare_fail.md) -/
def F.FPU_FF_INFO.VALID (i : Nat) : Fld := ⟨0x80000DF + i * 0x100, 1, 0, []⟩
def F.FPU_FF_INFO.LEVEL_INV (i : Nat) : Fld := ⟨0x80000DE + i * 0x100, 1, 0, []⟩
def F.FPU_FF_INFO.SAT (i : Nat) : Fld := ⟨0x80000DD + i * 0x100, 1, 0, []⟩
def F.FPU_FF_INFO.LE (i : Nat) : Fld := ⟨0x80000D6 + i * 0x100, 7, 0, []⟩
def F.FPU_FF_INFO.SITE (i : Nat) : Fld := ⟨0x80000D0 + i * 0x100, 4, 0, []⟩
def F.FPU_FF_INFO.UIMASK (i : Nat) : Fld := ⟨0x80000C0 + i * 0x100, 16, 0, []⟩
/-! FPU_CAP_CFG_n (R231, spec/07_compare_fail.md) -/
def F.FPU_CAP_CFG.SLOG (i : Nat) : Fld := ⟨0x8700017 + i * 0x200, 6, 30, [(0, 11), (37, 63)]⟩
def F.FPU_CAP_CFG.LANE_BASE (i : Nat) : Fld := ⟨0x8700012 + i * 0x200, 5, 0, []⟩
def F.FPU_CAP_CFG.WLOG (i : Nat) : Fld := ⟨0x870000F + i * 0x200, 3, 6, [(0, 2), (7, 7)]⟩
def F.FPU_CAP_CFG.YB (i : Nat) : Fld := ⟨0x870000A + i * 0x200, 5, 0, [(25, 31)]⟩
def F.FPU_CAP_CFG.XB (i : Nat) : Fld := ⟨0x8700005 + i * 0x200, 5, 24, [(25, 31)]⟩
def F.FPU_CAP_CFG.XSCR (i : Nat) : Fld := ⟨0x8700004 + i * 0x200, 1, 0, []⟩
def F.FPU_CAP_CFG.GRAN (i : Nat) : Fld := ⟨0x8700003 + i * 0x200, 1, 0, []⟩
def F.FPU_CAP_CFG.FAIL_OVF (i : Nat) : Fld := ⟨0x8700002 + i * 0x200, 1, 0, []⟩
def F.FPU_CAP_CFG.MODE (i : Nat) : Fld := ⟨0x8700000 + i * 0x200, 2, 0, [(3, 3)]⟩
/-! FPU_CAP_BASE_n (R231, spec/07_compare_fail.md) -/
def F.FPU_CAP_BASE.BASE (i : Nat) : Fld := ⟨0x8700026 + i * 0x200, 58, 0, []⟩
/-! FPU_CAP_LIM_n (R231, spec/07_compare_fail.md) -/
def F.FPU_CAP_LIM.LIM (i : Nat) : Fld := ⟨0x8700066 + i * 0x200, 58, 0, []⟩
/-! FPU_CAP_STAT_n (R231, spec/07_compare_fail.md) -/
def F.FPU_CAP_STAT.RANGE (i : Nat) : Fld := ⟨0x87000A3 + i * 0x200, 1, 0, []⟩
def F.FPU_CAP_STAT.LOG_FULL (i : Nat) : Fld := ⟨0x87000A2 + i * 0x200, 1, 0, []⟩
def F.FPU_CAP_STAT.DROPPED (i : Nat) : Fld := ⟨0x87000A1 + i * 0x200, 1, 0, []⟩
def F.FPU_CAP_STAT.HOLD (i : Nat) : Fld := ⟨0x87000A0 + i * 0x200, 1, 0, []⟩
/-! FPU_CAP_DROP_n (R231, spec/07_compare_fail.md) -/
def F.FPU_CAP_DROP.DROP (i : Nat) : Fld := ⟨0x87000C0 + i * 0x200, 32, 0, []⟩
/-! FPU_CAP_LOGN_n (R231, spec/07_compare_fail.md) -/
def F.FPU_CAP_LOGN.LOGN (i : Nat) : Fld := ⟨0x87000E0 + i * 0x200, 32, 0, []⟩
/-! FPU_CAP_HOLD_n (R231, spec/07_compare_fail.md) -/
def F.FPU_CAP_HOLD.HOLD_CYC (i : Nat) : Fld := ⟨0x8700100 + i * 0x200, 32, 0, []⟩
/-! FPU_FFS_CTL_b (R232, spec/07_compare_fail.md) -/
def F.FPU_FFS_CTL.CLKSEL (i : Nat) : Fld := ⟨0x8080001 + i * 0x800, 4, 0, []⟩
def F.FPU_FFS_CTL.EN (i : Nat) : Fld := ⟨0x8080000 + i * 0x800, 1, 0, []⟩
/-! FPU_FFS_STAT_b (R232, spec/07_compare_fail.md) -/
def F.FPU_FFS_STAT.DROP (i : Nat) : Fld := ⟨0x8080030 + i * 0x800, 16, 0, []⟩
def F.FPU_FFS_STAT.LEVEL (i : Nat) : Fld := ⟨0x8080020 + i * 0x800, 11, 0, []⟩
/-! FPU_FP_STAT_b (R232, spec/07_compare_fail.md) -/
def F.FPU_FP_STAT.PEAK (i : Nat) : Fld := ⟨0x8080050 + i * 0x800, 15, 0, []⟩
def F.FPU_FP_STAT.USED (i : Nat) : Fld := ⟨0x8080040 + i * 0x800, 15, 0, []⟩
/-! FPU_FCC_CTL_h (R232, spec/07_compare_fail.md) -/
def F.FPU_FCC_CTL.FLUSH (i : Nat) : Fld := ⟨0x8088000 + i * 0x800, 1, 0, []⟩
/-! FPU_FCC_STAT_h (R232, spec/07_compare_fail.md) -/
def F.FPU_FCC_STAT.LINES (i : Nat) : Fld := ⟨0x8088020 + i * 0x800, 13, 0, []⟩
/-! FPU_FCC_HIT_h (R232, spec/07_compare_fail.md) -/
def F.FPU_FCC_HIT.HIT (i : Nat) : Fld := ⟨0x8088040 + i * 0x800, 32, 0, []⟩
/-! FPU_FCC_EVICT_h (R232, spec/07_compare_fail.md) -/
def F.FPU_FCC_EVICT.EVICT (i : Nat) : Fld := ⟨0x8088060 + i * 0x800, 32, 0, []⟩
/-! DMC_CTL_n (R255, spec/08_dram.md) -/
def F.DMC_CTL.RETR_EN (i : Nat) : Fld := ⟨0xA000000 + i * 0x80000, 1, 1, []⟩
/-! DMC_STAT_n (R255, spec/08_dram.md) -/
def F.DMC_STAT.MCK_LOCK (i : Nat) : Fld := ⟨0xA000027 + i * 0x80000, 1, 0, []⟩
def F.DMC_STAT.IN_INTLV (i : Nat) : Fld := ⟨0xA000026 + i * 0x80000, 1, 0, []⟩
def F.DMC_STAT.FSP_ACT (i : Nat) : Fld := ⟨0xA000024 + i * 0x80000, 2, 0, []⟩
def F.DMC_STAT.STATE (i : Nat) : Fld := ⟨0xA000020 + i * 0x80000, 4, 0, []⟩
/-! DMC_GEOM_n (R255, spec/08_dram.md) -/
def F.DMC_GEOM.CAP (i : Nat) : Fld := ⟨0xA000044 + i * 0x80000, 5, 0, []⟩
def F.DMC_GEOM.DENS (i : Nat) : Fld := ⟨0xA000042 + i * 0x80000, 2, 0, []⟩
def F.DMC_GEOM.RANKS (i : Nat) : Fld := ⟨0xA000040 + i * 0x80000, 2, 0, []⟩
/-! DMC_FSP_n_k (R255, spec/08_dram.md) -/
def F.DMC_FSP.VALID (i : Nat) (j : Nat) : Fld := ⟨0xA000064 + i * 0x80000 + j * 0x20, 1, 0, []⟩
def F.DMC_FSP.RATE (i : Nat) (j : Nat) : Fld := ⟨0xA000060 + i * 0x80000 + j * 0x20, 4, 0, [(9, 15)]⟩
/-! DMC_FSP_CTL_n (R255, spec/08_dram.md) -/
def F.DMC_FSP_CTL.REFUSED (i : Nat) : Fld := ⟨0xA0000C4 + i * 0x80000, 1, 0, []⟩
def F.DMC_FSP_CTL.URGENT (i : Nat) : Fld := ⟨0xA0000C3 + i * 0x80000, 1, 0, []⟩
def F.DMC_FSP_CTL.REQ (i : Nat) : Fld := ⟨0xA0000C2 + i * 0x80000, 1, 0, []⟩
def F.DMC_FSP_CTL.TARGET (i : Nat) : Fld := ⟨0xA0000C0 + i * 0x80000, 2, 1, [(3, 3)]⟩
/-! DMC_RETR_n (R255, spec/08_dram.md) -/
def F.DMC_RETR.GAP (i : Nat) : Fld := ⟨0xA0000F0 + i * 0x80000, 8, 20, [(0, 19)]⟩
def F.DMC_RETR.THRESH (i : Nat) : Fld := ⟨0xA0000E8 + i * 0x80000, 8, 8, [(0, 0)]⟩
def F.DMC_RETR.OSC_PER (i : Nat) : Fld := ⟨0xA0000E0 + i * 0x80000, 8, 1, [(0, 0)]⟩
/-! DMC_SR_n (R255, spec/08_dram.md) -/
def F.DMC_SR.IDLE (i : Nat) : Fld := ⟨0xA000108 + i * 0x80000, 8, 10, [(0, 0)]⟩
def F.DMC_SR.ENTER (i : Nat) : Fld := ⟨0xA000102 + i * 0x80000, 1, 0, []⟩
def F.DMC_SR.EXIT (i : Nat) : Fld := ⟨0xA000101 + i * 0x80000, 1, 0, []⟩
def F.DMC_SR.AUTO (i : Nat) : Fld := ⟨0xA000100 + i * 0x80000, 1, 1, []⟩
/-! DMC_SCHED_n (R255, spec/08_dram.md) -/
def F.DMC_SCHED.WR_LO (i : Nat) : Fld := ⟨0xA000128 + i * 0x80000, 6, 16, [(48, 63)]⟩
def F.DMC_SCHED.WR_HI (i : Nat) : Fld := ⟨0xA000120 + i * 0x80000, 6, 32, [(0, 0), (49, 63)]⟩
/-! DMC_ERR_n (R255, spec/08_dram.md) -/
def F.DMC_ERR.ADDR (i : Nat) : Fld := ⟨0xA000144 + i * 0x80000, 1, 0, []⟩
def F.DMC_ERR.RETR_FAIL (i : Nat) : Fld := ⟨0xA000143 + i * 0x80000, 1, 0, []⟩
def F.DMC_ERR.POISON_WR (i : Nat) : Fld := ⟨0xA000142 + i * 0x80000, 1, 0, []⟩
def F.DMC_ERR.UE (i : Nat) : Fld := ⟨0xA000141 + i * 0x80000, 1, 0, []⟩
def F.DMC_ERR.CE (i : Nat) : Fld := ⟨0xA000140 + i * 0x80000, 1, 0, []⟩
/-! DMC_CE_n (R255, spec/08_dram.md) -/
def F.DMC_CE.CE (i : Nat) : Fld := ⟨0xA000160 + i * 0x80000, 32, 0, []⟩
/-! DMC_UE_n (R255, spec/08_dram.md) -/
def F.DMC_UE.UE (i : Nat) : Fld := ⟨0xA000180 + i * 0x80000, 32, 0, []⟩
/-! DMC_EADDR_n (R255, spec/08_dram.md) -/
def F.DMC_EADDR.EADDR (i : Nat) : Fld := ⟨0xA0001A0 + i * 0x80000, 64, 0, []⟩
/-! DMC_RD_n (R255, spec/08_dram.md) -/
def F.DMC_RD.RD (i : Nat) : Fld := ⟨0xA0001E0 + i * 0x80000, 32, 0, []⟩
/-! DMC_WR_n (R255, spec/08_dram.md) -/
def F.DMC_WR.WR (i : Nat) : Fld := ⟨0xA000200 + i * 0x80000, 32, 0, []⟩
/-! DMC_ROR_n (R255, spec/08_dram.md) -/
def F.DMC_ROR.MERGED (i : Nat) : Fld := ⟨0xA000230 + i * 0x80000, 16, 0, []⟩
def F.DMC_ROR.ROR (i : Nat) : Fld := ⟨0xA000220 + i * 0x80000, 16, 0, []⟩
/-! DMC_FWD_n (R255, spec/08_dram.md) -/
def F.DMC_FWD.FWD (i : Nat) : Fld := ⟨0xA000240 + i * 0x80000, 32, 0, []⟩
/-! DMC_HIT_n (R255, spec/08_dram.md) -/
def F.DMC_HIT.HIT (i : Nat) : Fld := ⟨0xA000260 + i * 0x80000, 32, 0, []⟩
/-! DMC_AGE_n (R255, spec/08_dram.md) -/
def F.DMC_AGE.AGE (i : Nat) : Fld := ⟨0xA000280 + i * 0x80000, 32, 0, []⟩
/-! DMC_RMW_n (R255, spec/08_dram.md) -/
def F.DMC_RMW.RMW (i : Nat) : Fld := ⟨0xA0002A0 + i * 0x80000, 32, 0, []⟩
/-! DMC_TRAIN_n (R255, spec/08_dram.md) -/
def F.DMC_TRAIN.PASSES (i : Nat) : Fld := ⟨0xA0002D0 + i * 0x80000, 16, 0, []⟩
def F.DMC_TRAIN.RESULT (i : Nat) : Fld := ⟨0xA0002CC + i * 0x80000, 4, 0, []⟩
def F.DMC_TRAIN.STEP (i : Nat) : Fld := ⟨0xA0002C8 + i * 0x80000, 4, 0, []⟩
def F.DMC_TRAIN.DRIFT (i : Nat) : Fld := ⟨0xA0002C0 + i * 0x80000, 8, 0, []⟩
/-! DMC_TEMP_n (R255, spec/08_dram.md) -/
def F.DMC_TEMP.MR4_B (i : Nat) : Fld := ⟨0xA0002E4 + i * 0x80000, 3, 0, []⟩
def F.DMC_TEMP.MR4_A (i : Nat) : Fld := ⟨0xA0002E0 + i * 0x80000, 3, 0, []⟩
/-! DMC_HALF_h (R256, spec/08_dram.md) -/
def F.DMC_HALF.DEAD (i : Nat) : Fld := ⟨0xA400004 + i * 0x800, 2, 0, []⟩
def F.DMC_HALF.NIF (i : Nat) : Fld := ⟨0xA400000 + i * 0x800, 3, 0, []⟩
/-! DMC_USABLE_h (R256, spec/08_dram.md) -/
def F.DMC_USABLE.USABLE (i : Nat) : Fld := ⟨0xA400020 + i * 0x800, 64, 0, []⟩
/-! DMC_WIN_h (R256, spec/08_dram.md) -/
def F.DMC_WIN.BASE (i : Nat) : Fld := ⟨0xA400060 + i * 0x800, 16, 0, []⟩
/-! BNK_PWR_h_k (R274, spec/09_bank_memory.md) -/
def F.BNK_PWR.STATE (i : Nat) (j : Nat) : Fld := ⟨0xC000000 + i * 0x8000 + j * 0x20, 32, 0, []⟩
/-! BNK_PSTAT_h_k (R274, spec/09_bank_memory.md) -/
def F.BNK_PSTAT.CUR (i : Nat) (j : Nat) : Fld := ⟨0xC000080 + i * 0x8000 + j * 0x20, 32, 0, []⟩
/-! BNK_COP_CTL_h (R274, spec/09_bank_memory.md) -/
def F.BNK_COP_CTL.GAP (i : Nat) : Fld := ⟨0xC000110 + i * 0x8000, 16, 100, [(0, 0)]⟩
def F.BNK_COP_CTL.EN (i : Nat) : Fld := ⟨0xC000100 + i * 0x8000, 1, 1, []⟩
/-! BNK_COP_EXM_h (R274, spec/09_bank_memory.md) -/
def F.BNK_COP_EXM.EXEMPT (i : Nat) : Fld := ⟨0xC000120 + i * 0x8000, 64, 0, []⟩
/-! BNK_COP_STAT_h (R274, spec/09_bank_memory.md) -/
def F.BNK_COP_STAT.LOAN_LOST (i : Nat) : Fld := ⟨0xC00017F + i * 0x8000, 1, 0, []⟩
def F.BNK_COP_STAT.PHASE (i : Nat) : Fld := ⟨0xC00017C + i * 0x8000, 3, 0, []⟩
def F.BNK_COP_STAT.BANK (i : Nat) : Fld := ⟨0xC000176 + i * 0x8000, 6, 0, []⟩
def F.BNK_COP_STAT.ADOPTED (i : Nat) : Fld := ⟨0xC000170 + i * 0x8000, 6, 0, []⟩
def F.BNK_COP_STAT.TESTS (i : Nat) : Fld := ⟨0xC000160 + i * 0x8000, 16, 0, []⟩
/-! BNK_ERR_h (R274, spec/09_bank_memory.md) -/
def F.BNK_ERR.SNP_TO (i : Nat) : Fld := ⟨0xC000185 + i * 0x8000, 1, 0, []⟩
def F.BNK_ERR.SEM_OWNER (i : Nat) : Fld := ⟨0xC000184 + i * 0x8000, 1, 0, []⟩
def F.BNK_ERR.OFF (i : Nat) : Fld := ⟨0xC000183 + i * 0x8000, 1, 0, []⟩
def F.BNK_ERR.UE (i : Nat) : Fld := ⟨0xC000182 + i * 0x8000, 1, 0, []⟩
def F.BNK_ERR.CE (i : Nat) : Fld := ⟨0xC000181 + i * 0x8000, 1, 0, []⟩
def F.BNK_ERR.COP_FAIL (i : Nat) : Fld := ⟨0xC000180 + i * 0x8000, 1, 0, []⟩
/-! BNK_CE_h (R274, spec/09_bank_memory.md) -/
def F.BNK_CE.CE (i : Nat) : Fld := ⟨0xC0001A0 + i * 0x8000, 32, 0, []⟩
/-! BNK_UE_h (R274, spec/09_bank_memory.md) -/
def F.BNK_UE.UE (i : Nat) : Fld := ⟨0xC0001C0 + i * 0x8000, 32, 0, []⟩
/-! BNK_EADDR_h (R274, spec/09_bank_memory.md) -/
def F.BNK_EADDR.EADDR (i : Nat) : Fld := ⟨0xC0001E0 + i * 0x8000, 25, 0, []⟩
/-! FAB_FCG_h_g_CFG (R305, spec/10_fabric_logic.md) -/
def F.FAB_FCG_CFG.M (i : Nat) (j : Nat) : Fld := ⟨0x1000000E + i * 0x800 + j * 0x80, 8, 24, [(0, 7)]⟩
def F.FAB_FCG_CFG.D (i : Nat) (j : Nat) : Fld := ⟨0x1000000A + i * 0x800 + j * 0x80, 4, 1, [(0, 0)]⟩
def F.FAB_FCG_CFG.SRC (i : Nat) (j : Nat) : Fld := ⟨0x10000007 + i * 0x800 + j * 0x80, 3, 0, [(6, 7)]⟩
def F.FAB_FCG_CFG.BYPASS (i : Nat) (j : Nat) : Fld := ⟨0x10000006 + i * 0x800 + j * 0x80, 1, 0, []⟩
def F.FAB_FCG_CFG.APPLY (i : Nat) (j : Nat) : Fld := ⟨0x10000001 + i * 0x800 + j * 0x80, 1, 0, []⟩
def F.FAB_FCG_CFG.EN (i : Nat) (j : Nat) : Fld := ⟨0x10000000 + i * 0x800 + j * 0x80, 1, 0, []⟩
/-! FAB_FCG_h_g_DIV (R305, spec/10_fabric_logic.md) -/
def F.FAB_FCG_DIV.O (i : Nat) (j : Nat) : Fld := ⟨0x10000020 + i * 0x800 + j * 0x80, 32, 0, []⟩
/-! FAB_FCG_h_g_STAT (R305, spec/10_fabric_logic.md) -/
def F.FAB_FCG_STAT.CFG_ERR (i : Nat) (j : Nat) : Fld := ⟨0x10000042 + i * 0x800 + j * 0x80, 1, 0, []⟩
def F.FAB_FCG_STAT.LOCKLOSS (i : Nat) (j : Nat) : Fld := ⟨0x10000041 + i * 0x800 + j * 0x80, 1, 0, []⟩
def F.FAB_FCG_STAT.LOCKED (i : Nat) (j : Nat) : Fld := ⟨0x10000040 + i * 0x800 + j * 0x80, 1, 0, []⟩
/-! FAB_RCLK_r_A (R306, spec/10_fabric_logic.md) -/
def F.FAB_RCLK_A.SEL_0_7 (i : Nat) : Fld := ⟨0x10008000 + i * 0x80, 32, 0, []⟩
/-! FAB_RCLK_r_B (R306, spec/10_fabric_logic.md) -/
def F.FAB_RCLK_B.SEL_8_11 (i : Nat) : Fld := ⟨0x10008020 + i * 0x80, 16, 0, []⟩
/-! FAB_RCLK_r_C (R306, spec/10_fabric_logic.md) -/
def F.FAB_RCLK_C.GATE_EN (i : Nat) : Fld := ⟨0x10008050 + i * 0x80, 12, 0, []⟩
def F.FAB_RCLK_C.ON (i : Nat) : Fld := ⟨0x10008040 + i * 0x80, 12, 0, []⟩
/-! FAB_NE_CFG_e (R307, spec/10_fabric_logic.md) -/
def F.FAB_NE_CFG.CLKSEL (i : Nat) : Fld := ⟨0x10010002 + i * 0x80, 4, 0, []⟩
def F.FAB_NE_CFG.COH (i : Nat) : Fld := ⟨0x10010001 + i * 0x80, 1, 0, []⟩
def F.FAB_NE_CFG.EN (i : Nat) : Fld := ⟨0x10010000 + i * 0x80, 1, 0, []⟩
/-! FAB_NE_STAT_e (R307, spec/10_fabric_logic.md) -/
def F.FAB_NE_STAT.LATE (i : Nat) : Fld := ⟨0x10010030 + i * 0x80, 16, 0, []⟩
def F.FAB_NE_STAT.LOST (i : Nat) : Fld := ⟨0x10010028 + i * 0x80, 8, 0, []⟩
def F.FAB_NE_STAT.RX_STALL (i : Nat) : Fld := ⟨0x10010023 + i * 0x80, 1, 0, []⟩
def F.FAB_NE_STAT.FENCED (i : Nat) : Fld := ⟨0x10010021 + i * 0x80, 1, 0, []⟩
def F.FAB_NE_STAT.DOWN (i : Nat) : Fld := ⟨0x10010020 + i * 0x80, 1, 0, []⟩
/-! FAB_IO_p (R308, spec/10_fabric_logic.md) -/
def F.FAB_IO.OWNED (i : Nat) : Fld := ⟨0x1001800A + i * 0x20, 1, 0, []⟩
def F.FAB_IO.DLY_PATH (i : Nat) : Fld := ⟨0x10018009 + i * 0x20, 1, 0, []⟩
def F.FAB_IO.DLY (i : Nat) : Fld := ⟨0x10018000 + i * 0x20, 8, 0, []⟩
/-! FAB_STAT_h (R308, spec/10_fabric_logic.md) -/
def F.FAB_STAT.GHOLD (i : Nat) : Fld := ⟨0x10007800 + i * 0x20, 1, 1, []⟩
/-! CFG_LOAD_CTL (R361, spec/12_configuration.md) -/
def F.CFG_LOAD_CTL.ABORT : Fld := ⟨0xF000002, 1, 0, []⟩
def F.CFG_LOAD_CTL.FLASH_GOLDEN : Fld := ⟨0xF000001, 1, 0, []⟩
def F.CFG_LOAD_CTL.FLASH_PRIMARY : Fld := ⟨0xF000000, 1, 0, []⟩
/-! CFG_LOAD_STATUS (R361, spec/12_configuration.md) -/
def F.CFG_LOAD_STATUS.PHASE : Fld := ⟨0xF00003C, 4, 0, []⟩
def F.CFG_LOAD_STATUS.SOURCE : Fld := ⟨0xF000038, 4, 0, []⟩
def F.CFG_LOAD_STATUS.FALLBACK : Fld := ⟨0xF000037, 1, 0, []⟩
def F.CFG_LOAD_STATUS.PRI_REASON : Fld := ⟨0xF000028, 8, 0, []⟩
def F.CFG_LOAD_STATUS.REASON : Fld := ⟨0xF000020, 8, 0, []⟩
/-! CFG_DESIGN (R361, spec/12_configuration.md) -/
def F.CFG_DESIGN.DESIGN_ID : Fld := ⟨0xF000040, 64, 0, []⟩
/-! CFG_HRING (R361, spec/12_configuration.md) -/
def F.CFG_HRING.ADDR : Fld := ⟨0xF00008C, 52, 0, []⟩
/-! CFG_HRING_CFG (R361, spec/12_configuration.md) -/
def F.CFG_HRING_CFG.HTMO : Fld := ⟨0xF0000D0, 16, 1000, [(0, 0)]⟩
def F.CFG_HRING_CFG.LOG2SZ : Fld := ⟨0xF0000C1, 4, 0, [(9, 15)]⟩
def F.CFG_HRING_CFG.EN : Fld := ⟨0xF0000C0, 1, 0, []⟩
/-! CFG_HRING_PI (R361, spec/12_configuration.md) -/
def F.CFG_HRING_PI.PI : Fld := ⟨0xF0000E0, 16, 0, []⟩
/-! CFG_HRING_CI (R361, spec/12_configuration.md) -/
def F.CFG_HRING_CI.IGN : Fld := ⟨0xF000110, 16, 0, []⟩
def F.CFG_HRING_CI.CI : Fld := ⟨0xF000100, 16, 0, []⟩
/-! CFG_QFENCE_k (R361, spec/12_configuration.md) -/
def F.CFG_QFENCE.FENCED (i : Nat) : Fld := ⟨0xF000180 + i * 0x20, 32, 4294967295, []⟩
/-! CFG_DONE (R361, spec/12_configuration.md) -/
def F.CFG_DONE.DROP : Fld := ⟨0xF000203, 1, 0, []⟩
def F.CFG_DONE.IGNORE : Fld := ⟨0xF000202, 1, 0, []⟩
def F.CFG_DONE.RELEASED : Fld := ⟨0xF000201, 1, 0, []⟩
def F.CFG_DONE.LEVEL : Fld := ⟨0xF000200, 1, 0, []⟩
/-! CFG_PRN_CTL_h (R361, spec/12_configuration.md) -/
def F.CFG_PRN_CTL.DPER (i : Nat) : Fld := ⟨0xF000808 + i * 0x200, 8, 24, [(0, 0)]⟩
def F.CFG_PRN_CTL.EN (i : Nat) : Fld := ⟨0xF000800 + i * 0x200, 1, 1, []⟩
/-! CFG_PRN_STAT_h (R361, spec/12_configuration.md) -/
def F.CFG_PRN_STAT.REPAIRED (i : Nat) : Fld := ⟨0xF000830 + i * 0x200, 16, 0, []⟩
def F.CFG_PRN_STAT.STANDING (i : Nat) : Fld := ⟨0xF000828 + i * 0x200, 8, 0, []⟩
def F.CFG_PRN_STAT.NOREF (i : Nat) : Fld := ⟨0xF000823 + i * 0x200, 1, 0, []⟩
def F.CFG_PRN_STAT.COVER (i : Nat) : Fld := ⟨0xF000822 + i * 0x200, 1, 0, []⟩
def F.CFG_PRN_STAT.DISABLED (i : Nat) : Fld := ⟨0xF000821 + i * 0x200, 1, 0, []⟩
def F.CFG_PRN_STAT.PASS_LATE (i : Nat) : Fld := ⟨0xF000820 + i * 0x200, 1, 0, []⟩
/-! CFG_PRN_LAST_h (R361, spec/12_configuration.md) -/
def F.CFG_PRN_LAST.FA (i : Nat) : Fld := ⟨0xF000840 + i * 0x200, 32, 0, []⟩
/-! NOC_TMO_h (R384, spec/13_noc.md) -/
def F.NOC_TMO.RSP_TMO (i : Nat) : Fld := ⟨0xD000000 + i * 0x80000, 16, 100, [(0, 0)]⟩
/-! NOC_ERR_h (R384, spec/13_noc.md) -/
def F.NOC_ERR.HOST_ERR (i : Nat) : Fld := ⟨0xD000024 + i * 0x80000, 1, 0, []⟩
def F.NOC_ERR.LINK_FAIL (i : Nat) : Fld := ⟨0xD000023 + i * 0x80000, 1, 0, []⟩
def F.NOC_ERR.MISROUTE (i : Nat) : Fld := ⟨0xD000022 + i * 0x80000, 1, 0, []⟩
def F.NOC_ERR.NO_ROUTE (i : Nat) : Fld := ⟨0xD000021 + i * 0x80000, 1, 0, []⟩
def F.NOC_ERR.RT_RSV (i : Nat) : Fld := ⟨0xD000020 + i * 0x80000, 1, 0, []⟩
/-! NOC_LINK_h_d (R384, spec/13_noc.md) -/
def F.NOC_LINK.FAILED (i : Nat) (j : Nat) : Fld := ⟨0xD000040 + i * 0x80000 + j * 0x20, 20, 0, []⟩
/-! NOC_CRC_h (R384, spec/13_noc.md) -/
def F.NOC_CRC.CRC (i : Nat) : Fld := ⟨0xD000080 + i * 0x80000, 32, 0, []⟩
/-! NOC_STOP_STAT_h (R384, spec/13_noc.md) -/
def F.NOC_STOP_STAT.RECIRC (i : Nat) : Fld := ⟨0xD0000A0 + i * 0x80000, 32, 0, []⟩
/-! NOC_NI_STAT_h_L (R385, spec/13_noc.md) -/
def F.NOC_NI_STAT.STATE (i : Nat) (j : Nat) : Fld := ⟨0xD00801E + i * 0x80000 + j * 0x80, 2, 0, []⟩
def F.NOC_NI_STAT.OUT (i : Nat) (j : Nat) : Fld := ⟨0xD008015 + i * 0x80000 + j * 0x80, 9, 0, []⟩
def F.NOC_NI_STAT.FTALK (i : Nat) (j : Nat) : Fld := ⟨0xD008000 + i * 0x80000 + j * 0x80, 16, 0, []⟩
/-! NOC_NI_ERR_h_L (R385, spec/13_noc.md) -/
def F.NOC_NI_ERR.NACKS (i : Nat) (j : Nat) : Fld := ⟨0xD008030 + i * 0x80000 + j * 0x80, 16, 0, []⟩
def F.NOC_NI_ERR.TMO (i : Nat) (j : Nat) : Fld := ⟨0xD008028 + i * 0x80000 + j * 0x80, 8, 0, []⟩
def F.NOC_NI_ERR.LATE (i : Nat) (j : Nat) : Fld := ⟨0xD008020 + i * 0x80000 + j * 0x80, 8, 0, []⟩
/-! TMB_CTL (R409, spec/14_time.md) -/
def F.TMB_CTL.HO_TMO : Fld := ⟨0xE000010, 16, 300, [(0, 0)]⟩
def F.TMB_CTL.MODE : Fld := ⟨0xE000000, 2, 0, []⟩
/-! TMB_STAT (R409, spec/14_time.md) -/
def F.TMB_STAT.STEPS : Fld := ⟨0xE000030, 16, 0, []⟩
def F.TMB_STAT.STEP_DISC : Fld := ⟨0xE000029, 1, 0, []⟩
def F.TMB_STAT.INC_DISC : Fld := ⟨0xE000028, 1, 0, []⟩
def F.TMB_STAT.REFCLK_LOSS : Fld := ⟨0xE000027, 1, 0, []⟩
def F.TMB_STAT.STEPPED : Fld := ⟨0xE000026, 1, 0, []⟩
def F.TMB_STAT.PAIR_ERR : Fld := ⟨0xE000025, 1, 0, []⟩
def F.TMB_STAT.REF : Fld := ⟨0xE000024, 1, 0, []⟩
def F.TMB_STAT.SYNT : Fld := ⟨0xE000023, 1, 0, []⟩
def F.TMB_STAT.STATE : Fld := ⟨0xE000020, 3, 0, []⟩
/-! TMB_NOW_FRAC (R409, spec/14_time.md) -/
def F.TMB_NOW_FRAC.FRAC : Fld := ⟨0xE000040, 32, 0, []⟩
/-! TMB_NOW_NS (R409, spec/14_time.md) -/
def F.TMB_NOW_NS.NS : Fld := ⟨0xE000060, 30, 0, []⟩
/-! TMB_NOW_SEC (R409, spec/14_time.md) -/
def F.TMB_NOW_SEC.SEC : Fld := ⟨0xE000080, 48, 0, []⟩
/-! TMB_STEP_NS (R409, spec/14_time.md) -/
def F.TMB_STEP_NS.NS : Fld := ⟨0xE0000C0, 32, 0, []⟩
/-! TMB_STEP_SEC (R409, spec/14_time.md) -/
def F.TMB_STEP_SEC.SEC : Fld := ⟨0xE0000E0, 32, 0, []⟩
/-! TMB_INC (R409, spec/14_time.md) -/
def F.TMB_INC.INC : Fld := ⟨0xE000100, 36, 8589934592, []⟩
/-! TMB_SRV_CFG (R409, spec/14_time.md) -/
def F.TMB_SRV_CFG.STEP_THR : Fld := ⟨0xE000150, 8, 1, [(0, 0)]⟩
def F.TMB_SRV_CFG.KI_SH : Fld := ⟨0xE000148, 5, 30, []⟩
def F.TMB_SRV_CFG.KP_SH : Fld := ⟨0xE000140, 5, 26, []⟩
/-! TMB_SRV_OFS (R409, spec/14_time.md) -/
def F.TMB_SRV_OFS.OFS : Fld := ⟨0xE000160, 32, 0, []⟩
/-! TMB_SRV_RATE (R409, spec/14_time.md) -/
def F.TMB_SRV_RATE.RATE : Fld := ⟨0xE000180, 32, 0, []⟩
/-! TMB_PAIR (R409, spec/14_time.md) -/
def F.TMB_PAIR.DIFF : Fld := ⟨0xE0001A0, 32, 0, []⟩
/-! TMB_PPS (R409, spec/14_time.md) -/
def F.TMB_PPS.WIDTH : Fld := ⟨0xE0001C8, 8, 100, [(0, 0)]⟩
def F.TMB_PPS.EN : Fld := ⟨0xE0001C0, 1, 0, []⟩
/-! TMB_PTP_CFG (R409, spec/14_time.md) -/
def F.TMB_PTP_CFG.SLAVE_ONLY : Fld := ⟨0xE000219, 1, 0, []⟩
def F.TMB_PTP_CFG.EN : Fld := ⟨0xE000218, 1, 0, []⟩
def F.TMB_PTP_CFG.PRIO2 : Fld := ⟨0xE000210, 8, 128, []⟩
def F.TMB_PTP_CFG.PRIO1 : Fld := ⟨0xE000208, 8, 128, []⟩
def F.TMB_PTP_CFG.DOMAIN : Fld := ⟨0xE000200, 8, 0, []⟩
/-! TMB_EVF_CFG (R409, spec/14_time.md) -/
def F.TMB_EVF_CFG.EN : Fld := ⟨0xE000230, 1, 0, []⟩
def F.TMB_EVF_CFG.GROUP : Fld := ⟨0xE000220, 16, 0, []⟩
/-! TMB_EVF_CTX (R409, spec/14_time.md) -/
def F.TMB_EVF_CTX.CTX : Fld := ⟨0xE000240, 64, 0, []⟩
/-! TMB_EVF_STAT (R409, spec/14_time.md) -/
def F.TMB_EVF_STAT.REJ : Fld := ⟨0xE000290, 16, 0, []⟩
def F.TMB_EVF_STAT.ACC : Fld := ⟨0xE000280, 16, 0, []⟩
/-! TMB_TIN_k_NS (R409, spec/14_time.md) -/
def F.TMB_TIN_NS.VALID (i : Nat) : Fld := ⟨0xE00081F + i * 0x80, 1, 0, []⟩
def F.TMB_TIN_NS.OVR (i : Nat) : Fld := ⟨0xE00081E + i * 0x80, 1, 0, []⟩
def F.TMB_TIN_NS.NS (i : Nat) : Fld := ⟨0xE000800 + i * 0x80, 30, 0, []⟩
/-! TMB_TIN_k_SEC (R409, spec/14_time.md) -/
def F.TMB_TIN_SEC.SEC (i : Nat) : Fld := ⟨0xE000820 + i * 0x80, 48, 0, []⟩
/-! TMB_TRK_CFG_p (R410, spec/14_time.md) -/
def F.TMB_TRK_CFG.ROLE (i : Nat) : Fld := ⟨0xE010009 + i * 0x800, 3, 0, []⟩
def F.TMB_TRK_CFG.LOG_SYNC (i : Nat) : Fld := ⟨0xE010005 + i * 0x800, 4, 13, []⟩
def F.TMB_TRK_CFG.EVF_EN (i : Nat) : Fld := ⟨0xE010004 + i * 0x800, 1, 0, []⟩
def F.TMB_TRK_CFG.P2P (i : Nat) : Fld := ⟨0xE010003 + i * 0x800, 1, 0, []⟩
def F.TMB_TRK_CFG.ONESTEP (i : Nat) : Fld := ⟨0xE010002 + i * 0x800, 1, 0, []⟩
def F.TMB_TRK_CFG.TRANSPORT (i : Nat) : Fld := ⟨0xE010000 + i * 0x800, 2, 0, [(3, 3)]⟩
/-! TMB_TRK_PHY_p (R410, spec/14_time.md) -/
def F.TMB_TRK_PHY.FEC (i : Nat) : Fld := ⟨0xE010021 + i * 0x800, 1, 0, []⟩
def F.TMB_TRK_PHY.EN (i : Nat) : Fld := ⟨0xE010020 + i * 0x800, 1, 0, []⟩
/-! TMB_TRK_LAT_p (R410, spec/14_time.md) -/
def F.TMB_TRK_LAT.ING_LAT (i : Nat) : Fld := ⟨0xE010050 + i * 0x800, 16, 3360, []⟩
def F.TMB_TRK_LAT.EGR_LAT (i : Nat) : Fld := ⟨0xE010040 + i * 0x800, 16, 2688, []⟩
/-! TMB_TRK_ASYM_p (R410, spec/14_time.md) -/
def F.TMB_TRK_ASYM.ASYM (i : Nat) : Fld := ⟨0xE010060 + i * 0x800, 32, 0, []⟩
/-! TMB_TRK_STAT_p (R410, spec/14_time.md) -/
def F.TMB_TRK_STAT.TSQ_DROP (i : Nat) : Fld := ⟨0xE010090 + i * 0x800, 16, 0, []⟩
def F.TMB_TRK_STAT.TSQ_LEVEL (i : Nat) : Fld := ⟨0xE010082 + i * 0x800, 7, 0, []⟩
def F.TMB_TRK_STAT.TSQ_OVF (i : Nat) : Fld := ⟨0xE010081 + i * 0x800, 1, 0, []⟩
def F.TMB_TRK_STAT.LINK (i : Nat) : Fld := ⟨0xE010080 + i * 0x800, 1, 0, []⟩
/-! TMB_TRK_RXO_p (R410, spec/14_time.md) -/
def F.TMB_TRK_RXO.RX_OTHER (i : Nat) : Fld := ⟨0xE0100A0 + i * 0x800, 32, 0, []⟩
/-! TMB_LCH_p_s_CFG (R410, spec/14_time.md) -/
def F.TMB_LCH_CFG.TS_VALID (i : Nat) (j : Nat) : Fld := ⟨0xE010211 + i * 0x800 + j * 0x80, 1, 0, []⟩
def F.TMB_LCH_CFG.SENT (i : Nat) (j : Nat) : Fld := ⟨0xE010210 + i * 0x800 + j * 0x80, 1, 0, []⟩
def F.TMB_LCH_CFG.ARM (i : Nat) (j : Nat) : Fld := ⟨0xE01020F + i * 0x800 + j * 0x80, 1, 0, []⟩
def F.TMB_LCH_CFG.TS_REQ (i : Nat) (j : Nat) : Fld := ⟨0xE01020E + i * 0x800 + j * 0x80, 1, 0, []⟩
def F.TMB_LCH_CFG.TRIG (i : Nat) (j : Nat) : Fld := ⟨0xE01020B + i * 0x800 + j * 0x80, 3, 0, []⟩
def F.TMB_LCH_CFG.LEN (i : Nat) (j : Nat) : Fld := ⟨0xE010200 + i * 0x800 + j * 0x80, 11, 0, [(0, 13), (1515, 2047)]⟩
/-! TMB_LCH_p_s_TS0 (R410, spec/14_time.md) -/
def F.TMB_LCH_TS0.NS (i : Nat) (j : Nat) : Fld := ⟨0xE010220 + i * 0x800 + j * 0x80, 30, 0, []⟩
/-! TMB_LCH_p_s_TS1 (R410, spec/14_time.md) -/
def F.TMB_LCH_TS1.SEC_LO (i : Nat) (j : Nat) : Fld := ⟨0xE010240 + i * 0x800 + j * 0x80, 32, 0, []⟩
/-! TMB_LCH_p_s_TS2 (R410, spec/14_time.md) -/
def F.TMB_LCH_TS2.FRAC (i : Nat) (j : Nat) : Fld := ⟨0xE010270 + i * 0x800 + j * 0x80, 4, 0, []⟩
def F.TMB_LCH_TS2.SEC_HI (i : Nat) (j : Nat) : Fld := ⟨0xE010260 + i * 0x800 + j * 0x80, 16, 0, []⟩
/-! TMB_TRG_h_k_CTL (R411, spec/14_time.md) -/
def F.TMB_TRG_CTL.PULSE (i : Nat) (j : Nat) : Fld := ⟨0xE008008 + i * 0x1000 + j * 0x100, 8, 1, [(0, 0)]⟩
def F.TMB_TRG_CTL.LATE (i : Nat) (j : Nat) : Fld := ⟨0xE008006 + i * 0x1000 + j * 0x100, 1, 0, []⟩
def F.TMB_TRG_CTL.FIRED (i : Nat) (j : Nat) : Fld := ⟨0xE008005 + i * 0x1000 + j * 0x100, 1, 0, []⟩
def F.TMB_TRG_CTL.ARM_ERR (i : Nat) (j : Nat) : Fld := ⟨0xE008004 + i * 0x1000 + j * 0x100, 1, 0, []⟩
def F.TMB_TRG_CTL.OUT (i : Nat) (j : Nat) : Fld := ⟨0xE008003 + i * 0x1000 + j * 0x100, 1, 0, []⟩
def F.TMB_TRG_CTL.SNAP (i : Nat) (j : Nat) : Fld := ⟨0xE008002 + i * 0x1000 + j * 0x100, 1, 0, []⟩
def F.TMB_TRG_CTL.PERIODIC (i : Nat) (j : Nat) : Fld := ⟨0xE008001 + i * 0x1000 + j * 0x100, 1, 0, []⟩
def F.TMB_TRG_CTL.EN (i : Nat) (j : Nat) : Fld := ⟨0xE008000 + i * 0x1000 + j * 0x100, 1, 0, []⟩
/-! TMB_TRG_h_k_NS (R411, spec/14_time.md) -/
def F.TMB_TRG_NS.NS (i : Nat) (j : Nat) : Fld := ⟨0xE008020 + i * 0x1000 + j * 0x100, 30, 0, [(1000000000, 1073741823)]⟩
/-! TMB_TRG_h_k_SEC (R411, spec/14_time.md) -/
def F.TMB_TRG_SEC.SEC (i : Nat) (j : Nat) : Fld := ⟨0xE008040 + i * 0x1000 + j * 0x100, 48, 0, []⟩
/-! TMB_TRG_h_k_PER (R411, spec/14_time.md) -/
def F.TMB_TRG_PER.PER (i : Nat) (j : Nat) : Fld := ⟨0xE008080 + i * 0x1000 + j * 0x100, 30, 0, [(0, 99), (1000000000, 1073741823)]⟩
/-! TMB_TRG_h_k_CNT (R411, spec/14_time.md) -/
def F.TMB_TRG_CNT.FIRECNT (i : Nat) (j : Nat) : Fld := ⟨0xE0080A0 + i * 0x1000 + j * 0x100, 32, 0, []⟩
/-! SUP_CTL (R438, spec/15_availability.md) -/
def F.SUP_CTL.REINST_U : Fld := ⟨0x1000002, 8, 0, [(218, 255)]⟩
def F.SUP_CTL.REINST : Fld := ⟨0x1000001, 1, 0, []⟩
def F.SUP_CTL.SPARE_EN : Fld := ⟨0x1000000, 1, 1, []⟩
/-! SUP_STAT (R438, spec/15_availability.md) -/
def F.SUP_STAT.DEGRADED : Fld := ⟨0x1000027, 1, 0, []⟩
def F.SUP_STAT.REINST_FAIL : Fld := ⟨0x1000026, 1, 0, []⟩
def F.SUP_STAT.ADV_FAIL : Fld := ⟨0x1000025, 1, 0, []⟩
def F.SUP_STAT.PARTNER_FENCED : Fld := ⟨0x1000024, 1, 0, []⟩
def F.SUP_STAT.SIDEBAND_LOST : Fld := ⟨0x1000023, 1, 0, []⟩
def F.SUP_STAT.ECHO_LOST : Fld := ⟨0x1000022, 1, 0, []⟩
def F.SUP_STAT.LANTERN_VALID : Fld := ⟨0x1000021, 1, 0, []⟩
def F.SUP_STAT.HOLDER : Fld := ⟨0x1000020, 1, 0, []⟩
/-! SUP_CUST_EPOCH (R438, spec/15_availability.md) -/
def F.SUP_CUST_EPOCH.CUR : Fld := ⟨0x1000040, 32, 0, []⟩
/-! SUP_CUST_STALE (R438, spec/15_availability.md) -/
def F.SUP_CUST_STALE.STALE : Fld := ⟨0x1000060, 32, 0, []⟩
/-! SUP_ECHO_h (R438, spec/15_availability.md) -/
def F.SUP_ECHO.SB_MISS (i : Nat) : Fld := ⟨0x1000090 + i * 0x20, 16, 0, []⟩
def F.SUP_ECHO.MISS (i : Nat) : Fld := ⟨0x1000080 + i * 0x20, 16, 0, []⟩
/-! SUP_WEAR_POH (R438, spec/15_availability.md) -/
def F.SUP_WEAR_POH.POH : Fld := ⟨0x1000100, 32, 0, []⟩
/-! SUP_WEAR_CYC (R438, spec/15_availability.md) -/
def F.SUP_WEAR_CYC.CYC : Fld := ⟨0x1000120, 32, 0, []⟩
/-! SUP_WEAR_HOT (R438, spec/15_availability.md) -/
def F.SUP_WEAR_HOT.HOT : Fld := ⟨0x1000140, 32, 0, []⟩
/-! SUP_AGE_k (R438, spec/15_availability.md) -/
def F.SUP_AGE.SLOW (i : Nat) : Fld := ⟨0x1000200 + i * 0x20, 16, 0, []⟩
/-! SUP_UNIT_u_STAT (R438, spec/15_availability.md) -/
def F.SUP_UNIT_STAT.STATE (i : Nat) : Fld := ⟨0x100801E + i * 0x40, 2, 0, []⟩
def F.SUP_UNIT_STAT.CAUSE (i : Nat) : Fld := ⟨0x1008018 + i * 0x40, 6, 0, []⟩
def F.SUP_UNIT_STAT.FTALK (i : Nat) : Fld := ⟨0x1008000 + i * 0x40, 16, 0, []⟩
/-! SUP_UNIT_u_EPOCH (R438, spec/15_availability.md) -/
def F.SUP_UNIT_EPOCH.FEP (i : Nat) : Fld := ⟨0x1008020 + i * 0x40, 32, 1, []⟩
/-! SNP_CTL (R439, spec/15_availability.md) -/
def F.SNP_CTL.RELEASE : Fld := ⟨0x1400000A, 1, 0, []⟩
def F.SNP_CTL.FIRE : Fld := ⟨0x14000009, 1, 0, []⟩
def F.SNP_CTL.MODE : Fld := ⟨0x14000008, 1, 0, []⟩
def F.SNP_CTL.SRC_EN : Fld := ⟨0x14000000, 6, 62, []⟩
/-! SNP_STAT (R439, spec/15_availability.md) -/
def F.SNP_STAT.SRC : Fld := ⟨0x1400003A, 6, 0, []⟩
def F.SNP_STAT.MISSED : Fld := ⟨0x14000028, 16, 0, []⟩
def F.SNP_STAT.HELD : Fld := ⟨0x14000020, 1, 0, []⟩
/-! SNP_GEN (R439, spec/15_availability.md) -/
def F.SNP_GEN.GEN : Fld := ⟨0x14000040, 32, 0, []⟩
/-! SNP_TIME_NS (R439, spec/15_availability.md) -/
def F.SNP_TIME_NS.NS : Fld := ⟨0x14000060, 30, 0, []⟩
/-! SNP_TIME_SEC (R439, spec/15_availability.md) -/
def F.SNP_TIME_SEC.SEC : Fld := ⟨0x14000080, 48, 0, []⟩
/-! GLB_ID (R462, spec/16_startup_security.md) -/
def F.GLB_ID.PART : Fld := ⟨0x10, 16, 37462, []⟩
def F.GLB_ID.FAMILY : Fld := ⟨0x0, 16, 80, []⟩
def F.GLB_ID.GRADE : Fld := ⟨0x28, 1, 0, []⟩
def F.GLB_ID.REV_E : Fld := ⟨0x24, 4, 0, []⟩
def F.GLB_ID.REV_W : Fld := ⟨0x20, 4, 0, []⟩
/-! GLB_LIKE_CLASS (R462, spec/16_startup_security.md) -/
def F.GLB_LIKE_CLASS.LIKE : Fld := ⟨0x40, 16, 0, []⟩
/-! GLB_BEHAVIOUR (R462, spec/16_startup_security.md) -/
def F.GLB_BEHAVIOUR.MAX : Fld := ⟨0x64, 4, 1, []⟩
def F.GLB_BEHAVIOUR.LEVEL : Fld := ⟨0x60, 4, 1, []⟩
/-! GLB_STATE (R462, spec/16_startup_security.md) -/
def F.GLB_STATE.FAULT : Fld := ⟨0x98, 1, 0, []⟩
def F.GLB_STATE.HOLD_REASON : Fld := ⟨0x90, 8, 0, []⟩
def F.GLB_STATE.STATE : Fld := ⟨0x80, 4, 1, []⟩
/-! GLB_STRAP (R462, spec/16_startup_security.md) -/
def F.GLB_STRAP.STRAPS : Fld := ⟨0xA0, 5, 0, []⟩
/-! GLB_RESET (R462, spec/16_startup_security.md) -/
def F.GLB_RESET.KEY : Fld := ⟨0xD0, 16, 0, []⟩
def F.GLB_RESET.STEST_DRAM : Fld := ⟨0xC2, 1, 0, []⟩
def F.GLB_RESET.STEST_FULL : Fld := ⟨0xC1, 1, 0, []⟩
def F.GLB_RESET.DEVICE : Fld := ⟨0xC0, 1, 0, []⟩
/-! GLB_RST_CAUSE (R462, spec/16_startup_security.md) -/
def F.GLB_RST_CAUSE.CAUSE : Fld := ⟨0xE0, 3, 0, []⟩
/-! GLB_FWLOAD (R462, spec/16_startup_security.md) -/
def F.GLB_FWLOAD.GO : Fld := ⟨0x100, 1, 0, []⟩
/-! GLB_BOOT_STAT (R462, spec/16_startup_security.md) -/
def F.GLB_BOOT_STAT.PHASE : Fld := ⟨0x13C, 4, 0, []⟩
def F.GLB_BOOT_STAT.SOURCE : Fld := ⟨0x138, 4, 0, []⟩
def F.GLB_BOOT_STAT.REASON_E : Fld := ⟨0x130, 8, 0, []⟩
def F.GLB_BOOT_STAT.PRI_REASON : Fld := ⟨0x128, 8, 0, []⟩
def F.GLB_BOOT_STAT.REASON : Fld := ⟨0x120, 8, 0, []⟩
/-! GLB_STEST_SUM (R462, spec/16_startup_security.md) -/
def F.GLB_STEST_SUM.MS : Fld := ⟨0x214, 12, 0, []⟩
def F.GLB_STEST_SUM.FAILED : Fld := ⟨0x200, 10, 0, []⟩
/-! GLB_STEST_UNIT_k (R462, spec/16_startup_security.md) -/
def F.GLB_STEST_UNIT.FAILED (i : Nat) : Fld := ⟨0x220 + i * 0x20, 32, 0, []⟩
/-! GLB_STEST_BANK_h (R462, spec/16_startup_security.md) -/
def F.GLB_STEST_BANK.VALID (i : Nat) : Fld := ⟨0x327 + i * 0x20, 1, 0, []⟩
def F.GLB_STEST_BANK.LOAN (i : Nat) : Fld := ⟨0x326 + i * 0x20, 1, 0, []⟩
def F.GLB_STEST_BANK.BANK (i : Nat) : Fld := ⟨0x320 + i * 0x20, 6, 0, []⟩
/-! SEC_SLOTS (R463, spec/16_startup_security.md) -/
def F.SEC_SLOTS.CONSENT : Fld := ⟨0x13000014, 1, 0, []⟩
def F.SEC_SLOTS.DBG_REV : Fld := ⟨0x13000010, 4, 0, []⟩
def F.SEC_SLOTS.DBG_PRG : Fld := ⟨0x1300000C, 4, 0, []⟩
def F.SEC_SLOTS.FWK_REV : Fld := ⟨0x1300000A, 2, 0, []⟩
def F.SEC_SLOTS.BSK_PRG : Fld := ⟨0x13000006, 4, 0, []⟩
def F.SEC_SLOTS.BSK_REV : Fld := ⟨0x13000002, 4, 0, []⟩
def F.SEC_SLOTS.ROOT_PRG : Fld := ⟨0x13000000, 2, 0, []⟩
/-! SEC_FW_SVN (R463, spec/16_startup_security.md) -/
def F.SEC_FW_SVN.SVN : Fld := ⟨0x13000020, 7, 0, []⟩
/-! SEC_SERIAL (R463, spec/16_startup_security.md) -/
def F.SEC_SERIAL.SERIAL : Fld := ⟨0x13000040, 64, 0, []⟩
/-! SEC_ATT_CTL (R463, spec/16_startup_security.md) -/
def F.SEC_ATT_CTL.BUSY : Fld := ⟨0x13000082, 1, 0, []⟩
def F.SEC_ATT_CTL.DONE : Fld := ⟨0x13000081, 1, 0, []⟩
def F.SEC_ATT_CTL.REQ : Fld := ⟨0x13000080, 1, 0, []⟩
/-! SEC_CERT_LEN (R463, spec/16_startup_security.md) -/
def F.SEC_CERT_LEN.INTER : Fld := ⟨0x130000B0, 16, 0, []⟩
def F.SEC_CERT_LEN.DEVICE : Fld := ⟨0x130000A0, 16, 0, []⟩
/-! SEC_ATT_NONCE_k (R463, spec/16_startup_security.md) -/
def F.SEC_ATT_NONCE.NONCE (i : Nat) : Fld := ⟨0x13000100 + i * 0x20, 32, 0, []⟩
/-! SEC_PROG_CTL (R463, spec/16_startup_security.md) -/
def F.SEC_PROG_CTL.STATUS : Fld := ⟨0x13000210, 3, 0, []⟩
def F.SEC_PROG_CTL.GO : Fld := ⟨0x13000209, 1, 0, []⟩
def F.SEC_PROG_CTL.ARM : Fld := ⟨0x13000208, 1, 0, []⟩
def F.SEC_PROG_CTL.FIELD : Fld := ⟨0x13000200, 8, 0, [(0, 0), (21, 255)]⟩
/-! SEC_PROG_DATA_k (R463, spec/16_startup_security.md) -/
def F.SEC_PROG_DATA.DATA (i : Nat) : Fld := ⟨0x13000280 + i * 0x20, 32, 0, []⟩
/-! DBG_PORT_ID (R485, spec/17_debug.md) -/
def F.DBG_PORT_ID.PART : Fld := ⟨0x20000010, 16, 37462, []⟩
def F.DBG_PORT_ID.FAMILY : Fld := ⟨0x20000000, 16, 80, []⟩
/-! DBG_PORT_STAT (R485, spec/17_debug.md) -/
def F.DBG_PORT_STAT.AUTH_FAIL : Fld := ⟨0x20000038, 8, 0, []⟩
def F.DBG_PORT_STAT.CRC_ERR : Fld := ⟨0x20000030, 8, 0, []⟩
def F.DBG_PORT_STAT.ERR : Fld := ⟨0x2000002C, 4, 0, []⟩
def F.DBG_PORT_STAT.WORD : Fld := ⟨0x20000024, 8, 0, []⟩
def F.DBG_PORT_STAT.LEVEL : Fld := ⟨0x20000020, 2, 0, []⟩
/-! DBG_AUTH_CTL (R485, spec/17_debug.md) -/
def F.DBG_AUTH_CTL.RESULT : Fld := ⟨0x2000004C, 4, 0, []⟩
def F.DBG_AUTH_CTL.SLOT : Fld := ⟨0x2000004A, 2, 0, []⟩
def F.DBG_AUTH_CTL.REQ_LEVEL : Fld := ⟨0x20000048, 2, 0, []⟩
def F.DBG_AUTH_CTL.LOGOUT : Fld := ⟨0x20000043, 1, 0, []⟩
def F.DBG_AUTH_CTL.VERIFY : Fld := ⟨0x20000042, 1, 0, []⟩
def F.DBG_AUTH_CTL.CHALLENGE : Fld := ⟨0x20000041, 1, 0, []⟩
def F.DBG_AUTH_CTL.BUSY : Fld := ⟨0x20000040, 1, 0, []⟩
/-! DBG_CFG (R485, spec/17_debug.md) -/
def F.DBG_CFG.LOCK_HOLD_MAX : Fld := ⟨0x20000060, 16, 4096, [(0, 0)]⟩
/-! DBG_ENG_CTL_n (R486, spec/17_debug.md) -/
def F.DBG_ENG_CTL.STEP_N (i : Nat) : Fld := ⟨0x12008010 + i * 0x800, 16, 1, [(0, 0)]⟩
def F.DBG_ENG_CTL.TRC_EN (i : Nat) : Fld := ⟨0x12008008 + i * 0x800, 1, 0, []⟩
def F.DBG_ENG_CTL.SVC (i : Nat) : Fld := ⟨0x12008007 + i * 0x800, 1, 1, []⟩
def F.DBG_ENG_CTL.ALIGN (i : Nat) : Fld := ⟨0x12008006 + i * 0x800, 1, 0, []⟩
def F.DBG_ENG_CTL.JOB (i : Nat) : Fld := ⟨0x12008005 + i * 0x800, 1, 0, []⟩
def F.DBG_ENG_CTL.FORCE (i : Nat) : Fld := ⟨0x12008004 + i * 0x800, 1, 0, []⟩
def F.DBG_ENG_CTL.STEP (i : Nat) : Fld := ⟨0x12008003 + i * 0x800, 1, 0, []⟩
def F.DBG_ENG_CTL.RESUME (i : Nat) : Fld := ⟨0x12008002 + i * 0x800, 1, 0, []⟩
def F.DBG_ENG_CTL.HALT (i : Nat) : Fld := ⟨0x12008001 + i * 0x800, 1, 0, []⟩
/-! DBG_ENG_STAT_n (R486, spec/17_debug.md) -/
def F.DBG_ENG_STAT.HIT (i : Nat) : Fld := ⟨0x12008038 + i * 0x800, 8, 0, []⟩
def F.DBG_ENG_STAT.STEPPED (i : Nat) : Fld := ⟨0x12008028 + i * 0x800, 8, 0, []⟩
def F.DBG_ENG_STAT.ENTRY (i : Nat) : Fld := ⟨0x12008024 + i * 0x800, 4, 0, []⟩
def F.DBG_ENG_STAT.ARMED (i : Nat) : Fld := ⟨0x12008023 + i * 0x800, 1, 0, []⟩
def F.DBG_ENG_STAT.DEFERRED_LOCKED (i : Nat) : Fld := ⟨0x12008022 + i * 0x800, 1, 0, []⟩
def F.DBG_ENG_STAT.PENDING (i : Nat) : Fld := ⟨0x12008021 + i * 0x800, 1, 0, []⟩
def F.DBG_ENG_STAT.IN_MON (i : Nat) : Fld := ⟨0x12008020 + i * 0x800, 1, 0, []⟩
/-! DBG_ENG_HIT_n (R486, spec/17_debug.md) -/
def F.DBG_ENG_HIT.PC (i : Nat) : Fld := ⟨0x12008040 + i * 0x800, 17, 0, []⟩
/-! DBG_ENG_HITCYC_n (R486, spec/17_debug.md) -/
def F.DBG_ENG_HITCYC.CYCLE (i : Nat) : Fld := ⟨0x12008060 + i * 0x800, 64, 0, []⟩
/-! DBG_ENG_STIM_n (R486, spec/17_debug.md) -/
def F.DBG_ENG_STIM.EN (i : Nat) : Fld := ⟨0x120080A0 + i * 0x800, 32, 4294967295, []⟩
/-! DBG_CMP_n_k_CFG (R486, spec/17_debug.md) -/
def F.DBG_CMP_CFG.WITHIN (i : Nat) (j : Nat) : Fld := ⟨0x12008110 + i * 0x800 + j * 0x80, 16, 0, []⟩
def F.DBG_CMP_CFG.LINK (i : Nat) (j : Nat) : Fld := ⟨0x12008108 + i * 0x800 + j * 0x80, 2, 0, [(3, 3)]⟩
def F.DBG_CMP_CFG.TRACE (i : Nat) (j : Nat) : Fld := ⟨0x12008106 + i * 0x800 + j * 0x80, 1, 0, []⟩
def F.DBG_CMP_CFG.SNAP (i : Nat) (j : Nat) : Fld := ⟨0x12008105 + i * 0x800 + j * 0x80, 1, 0, []⟩
def F.DBG_CMP_CFG.DEBUG (i : Nat) (j : Nat) : Fld := ⟨0x12008104 + i * 0x800 + j * 0x80, 1, 0, []⟩
def F.DBG_CMP_CFG.KIND (i : Nat) (j : Nat) : Fld := ⟨0x12008100 + i * 0x800 + j * 0x80, 3, 0, []⟩
/-! DBG_CMP_n_k_A (R486, spec/17_debug.md) -/
def F.DBG_CMP_A.A (i : Nat) (j : Nat) : Fld := ⟨0x12008120 + i * 0x800 + j * 0x80, 32, 0, []⟩
/-! DBG_CMP_n_k_B (R486, spec/17_debug.md) -/
def F.DBG_CMP_B.B (i : Nat) (j : Nat) : Fld := ⟨0x12008140 + i * 0x800 + j * 0x80, 32, 0, []⟩
/-! DBG_TRC_CTL_h (R487, spec/17_debug.md) -/
def F.DBG_TRC_CTL.DEST (i : Nat) : Fld := ⟨0x12040002 + i * 0x800, 2, 0, []⟩
def F.DBG_TRC_CTL.MODE (i : Nat) : Fld := ⟨0x12040001 + i * 0x800, 1, 0, []⟩
def F.DBG_TRC_CTL.CLR (i : Nat) : Fld := ⟨0x12040000 + i * 0x800, 1, 0, []⟩
/-! DBG_TRC_WP_h (R487, spec/17_debug.md) -/
def F.DBG_TRC_WP.WRAPPED (i : Nat) : Fld := ⟨0x1204003F + i * 0x800, 1, 0, []⟩
def F.DBG_TRC_WP.WP (i : Nat) : Fld := ⟨0x12040020 + i * 0x800, 22, 0, []⟩
/-! DBG_TRC_STAT_h (R487, spec/17_debug.md) -/
def F.DBG_TRC_STAT.LOST (i : Nat) : Fld := ⟨0x12040040 + i * 0x800, 32, 0, []⟩
/-! DBG_TRC_WIN_h (R487, spec/17_debug.md) -/
def F.DBG_TRC_WIN.BASE (i : Nat) : Fld := ⟨0x12040060 + i * 0x800, 10, 0, []⟩
/-! GPP_PIN_p (R499, spec/18_pins_package.md) -/
def F.GPP_PIN.IN (i : Nat) : Fld := ⟨0x1100001F + i * 0x20, 1, 0, []⟩
def F.GPP_PIN.GPIO_OE (i : Nat) : Fld := ⟨0x1100001A + i * 0x20, 1, 0, []⟩
def F.GPP_PIN.GPIO_OUT (i : Nat) : Fld := ⟨0x11000019 + i * 0x20, 1, 0, []⟩
def F.GPP_PIN.HELD (i : Nat) : Fld := ⟨0x11000018 + i * 0x20, 1, 0, []⟩
def F.GPP_PIN.SWITCHING (i : Nat) : Fld := ⟨0x11000017 + i * 0x20, 1, 0, []⟩
def F.GPP_PIN.PULL (i : Nat) : Fld := ⟨0x11000015 + i * 0x20, 2, 0, []⟩
def F.GPP_PIN.SLEW (i : Nat) : Fld := ⟨0x11000014 + i * 0x20, 1, 0, []⟩
def F.GPP_PIN.DRIVE (i : Nat) : Fld := ⟨0x11000012 + i * 0x20, 2, 1, []⟩
def F.GPP_PIN.HYST (i : Nat) : Fld := ⟨0x11000011 + i * 0x20, 1, 0, []⟩
def F.GPP_PIN.THR (i : Nat) : Fld := ⟨0x11000010 + i * 0x20, 1, 0, []⟩
def F.GPP_PIN.SIG (i : Nat) : Fld := ⟨0x11000004 + i * 0x20, 7, 127, []⟩
def F.GPP_PIN.FUNC (i : Nat) : Fld := ⟨0x11000000 + i * 0x20, 4, 0, []⟩
/-! GPP_BANK_k (R500, spec/18_pins_package.md) -/
def F.GPP_BANK.LEVEL (i : Nat) : Fld := ⟨0x11001000 + i * 0x20, 3, 0, []⟩
/-! GPP_CTL (R500, spec/18_pins_package.md) -/
def F.GPP_CTL.HOLD : Fld := ⟨0x11001080, 1, 0, []⟩
/-! GPP_STAT (R500, spec/18_pins_package.md) -/
def F.GPP_STAT.CSIG : Fld := ⟨0x110010B0, 7, 0, []⟩
def F.GPP_STAT.WR_DISC : Fld := ⟨0x110010A2, 1, 0, []⟩
def F.GPP_STAT.RSV : Fld := ⟨0x110010A1, 1, 0, []⟩
def F.GPP_STAT.PINMUX_CONFLICT : Fld := ⟨0x110010A0, 1, 0, []⟩
/-! GPP_CONF (R500, spec/18_pins_package.md) -/
def F.GPP_CONF.SIGS : Fld := ⟨0x110010C0, 64, 0, []⟩
/-! GPP_ADC_k (R500, spec/18_pins_package.md) -/
def F.GPP_ADC.VALID (i : Nat) : Fld := ⟨0x1100181F + i * 0x20, 1, 0, []⟩
def F.GPP_ADC.CODE (i : Nat) : Fld := ⟨0x11001800 + i * 0x20, 12, 0, []⟩

/-- Part 0 of the register table. -/
def regDefs0 : List RegDef := [
  ⟨.GLB_ECLK_CTL, 0x100, 0x20, 2, 0x0, 1, false,
    [⟨6, 2, .rw, 0, [(3, 3)]⟩, ⟨5, 1, .w1s, 0, []⟩, ⟨4, 1, .w1c, 0, []⟩, ⟨3, 1, .ro, 0, []⟩, ⟨2, 1, .w1c, 0, []⟩, ⟨1, 1, .w1s, 0, []⟩, ⟨0, 1, .rw, 1, []⟩]⟩,
  ⟨.GLB_ECLK_FW, 0x104, 0x20, 2, 0x0, 1, true,
    [⟨0, 48, .rw, 5497558138880, []⟩]⟩,
  ⟨.HIF_LINK_STAT, 0x108000, 0x0, 1, 0x0, 1, false,
    [⟨11, 1, .ro, 0, []⟩, ⟨10, 1, .ro, 0, []⟩, ⟨6, 4, .ro, 0, []⟩, ⟨3, 3, .ro, 0, []⟩, ⟨0, 1, .ro, 0, []⟩]⟩,
  ⟨.HIF_FN_CFG, 0x100000, 0x40, 33, 0x0, 1, false,
    [⟨11, 6, .rw, 0, []⟩, ⟨9, 1, .rw, 0, []⟩, ⟨0, 9, .rw, 8, [(0, 0), (401, 511)]⟩]⟩,
  ⟨.HIF_FN_DB, 0x100008, 0x40, 33, 0x0, 1, true,
    [⟨6, 58, .rw, 0, []⟩]⟩,
  ⟨.HIF_FN_EVR, 0x100010, 0x40, 33, 0x0, 1, true,
    [⟨12, 52, .rw, 0, []⟩, ⟨0, 4, .rw, 0, [(13, 15)]⟩]⟩,
  ⟨.HIF_FN_STAT, 0x100018, 0x40, 33, 0x0, 1, false,
    [⟨16, 16, .rc, 0, []⟩, ⟨3, 1, .w1c, 0, []⟩, ⟨2, 1, .w1c, 0, []⟩, ⟨1, 1, .w1c, 0, []⟩, ⟨0, 1, .w1c, 0, []⟩]⟩,
  ⟨.HIF_CTX_CFG, 0x101000, 0x40, 64, 0x0, 1, false,
    [⟨16, 6, .rw, 0, []⟩, ⟨8, 6, .rw, 0, [(33, 63)]⟩, ⟨4, 4, .rw, 0, [(13, 15)]⟩, ⟨2, 1, .ro, 0, []⟩, ⟨1, 1, .rw, 0, []⟩, ⟨0, 1, .rw, 0, []⟩]⟩,
  ⟨.HIF_CTX_SQ, 0x101004, 0x40, 64, 0x0, 1, true,
    [⟨12, 52, .rw, 0, []⟩]⟩,
  ⟨.HIF_CTX_CQ, 0x10100C, 0x40, 64, 0x0, 1, true,
    [⟨12, 52, .rw, 0, []⟩]⟩,
  ⟨.HIF_CTX_LEDGER, 0x101014, 0x40, 64, 0x0, 1, true,
    [⟨5, 59, .rw, 0, []⟩]⟩,
  ⟨.HIF_CTX_SEQBASE, 0x10101C, 0x40, 64, 0x0, 1, true,
    [⟨0, 64, .rw, 1, [(0, 0)]⟩]⟩,
  ⟨.HIF_CTX_GEN, 0x101024, 0x40, 64, 0x0, 1, false,
    [⟨0, 16, .rw, 0, []⟩]⟩,
  ⟨.HIF_CTX_STAT, 0x101028, 0x40, 64, 0x0, 1, false,
    [⟨0, 8, .ro, 0, []⟩]⟩,
  ⟨.HIF_CTX_ACC, 0x10102C, 0x40, 64, 0x0, 1, true,
    [⟨0, 64, .ro, 0, []⟩]⟩,
  ⟨.HIF_CTX_CMP, 0x101034, 0x40, 64, 0x0, 1, true,
    [⟨0, 64, .ro, 0, []⟩]⟩]

/-- Part 1 of the register table. -/
def regDefs1 : List RegDef := [
  ⟨.ENG_SEQ_CTL, 0x5A0000, 0x0, 1, 0x0, 1, false,
    [⟨3, 1, .ro, 0, []⟩, ⟨1, 1, .w1c, 0, []⟩, ⟨0, 1, .rw, 0, []⟩]⟩,
  ⟨.ENG_SEQ_STAT, 0x5A0004, 0x0, 1, 0x0, 1, false,
    [⟨24, 8, .rc, 0, []⟩, ⟨16, 8, .rc, 0, []⟩, ⟨8, 8, .rc, 0, []⟩, ⟨0, 8, .rc, 0, []⟩]⟩,
  ⟨.ENG_CTL, 0x400000, 0x4000, 104, 0x0, 1, false,
    [⟨3, 1, .w1s, 0, []⟩, ⟨2, 1, .rw, 1, []⟩]⟩,
  ⟨.ENG_STAT, 0x400004, 0x4000, 104, 0x0, 1, false,
    [⟨29, 3, .ro, 0, []⟩, ⟨28, 1, .ro, 0, []⟩, ⟨27, 1, .ro, 0, []⟩, ⟨26, 1, .ro, 0, []⟩, ⟨22, 4, .ro, 0, []⟩, ⟨17, 5, .ro, 0, []⟩, ⟨0, 17, .ro, 0, []⟩]⟩,
  ⟨.ENG_MAP, 0x400008, 0x4000, 104, 0x0, 1, false,
    [⟨15, 1, .ro, 0, []⟩, ⟨12, 3, .ro, 0, []⟩, ⟨11, 1, .ro, 0, []⟩, ⟨0, 7, .rw, 0, []⟩]⟩,
  ⟨.ENG_FLAG, 0x40000C, 0x4000, 104, 0x0, 1, false,
    [⟨4, 4, .rw, 0, []⟩, ⟨3, 1, .ro, 0, []⟩, ⟨0, 3, .rw, 0, []⟩]⟩,
  ⟨.ENG_IRQ, 0x400010, 0x4000, 104, 0x0, 1, false,
    [⟨26, 6, .ro, 0, []⟩, ⟨17, 3, .rw, 0, []⟩, ⟨5, 12, .rw, 0, []⟩, ⟨0, 4, .rw, 0, []⟩]⟩,
  ⟨.ENG_WDOG, 0x400014, 0x4000, 104, 0x0, 1, false,
    [⟨0, 32, .rw, 0, []⟩]⟩,
  ⟨.ENG_SPEC, 0x400018, 0x4000, 104, 0x0, 1, false,
    [⟨17, 1, .w1s, 0, []⟩, ⟨16, 1, .rw, 0, []⟩, ⟨0, 10, .rw, 512, [(0, 7), (513, 1023)]⟩]⟩,
  ⟨.ENG_ERR, 0x40001C, 0x4000, 104, 0x0, 1, false,
    [⟨15, 17, .ro, 0, []⟩, ⟨5, 1, .w1c, 0, []⟩, ⟨4, 1, .w1c, 0, []⟩, ⟨3, 1, .w1c, 0, []⟩, ⟨2, 1, .w1c, 0, []⟩, ⟨1, 1, .w1c, 0, []⟩, ⟨0, 1, .w1c, 0, []⟩]⟩,
  ⟨.ENG_PERF, 0x400020, 0x4000, 104, 0x0, 1, false,
    [⟨16, 16, .rc, 0, []⟩, ⟨0, 16, .rc, 0, []⟩]⟩,
  ⟨.ENG_CYC, 0x400024, 0x4000, 104, 0x0, 1, true,
    [⟨0, 64, .ro, 0, []⟩]⟩,
  ⟨.VSW_SEL, 0x801000, 0x10000, 2, 0x4, 128, false,
    [⟨31, 1, .rw, 0, []⟩, ⟨24, 4, .rw, 0, []⟩, ⟨23, 1, .rw, 0, []⟩, ⟨16, 4, .rw, 0, []⟩, ⟨8, 5, .rw, 0, []⟩, ⟨0, 6, .rw, 0, [(56, 63)]⟩]⟩,
  ⟨.VSW_ERR, 0x800000, 0x10000, 2, 0x0, 1, false,
    [⟨8, 6, .ro, 0, []⟩, ⟨2, 1, .w1c, 0, []⟩, ⟨1, 1, .w1c, 0, []⟩, ⟨0, 1, .w1c, 0, []⟩]⟩,
  ⟨.VSW_DWAIT, 0x800004, 0x10000, 2, 0x0, 1, false,
    [⟨16, 16, .rc, 0, []⟩, ⟨0, 16, .rc, 0, []⟩]⟩,
  ⟨.VSW_PORT_CFG, 0x800100, 0x10000, 2, 0x10, 8, false,
    [⟨8, 4, .rw, 0, []⟩, ⟨7, 1, .w1s, 0, []⟩, ⟨6, 1, .rw, 0, []⟩, ⟨0, 6, .rw, 63, [(48, 62)]⟩]⟩]

/-- Part 2 of the register table. -/
def regDefs2 : List RegDef := [
  ⟨.VSW_PORT_STAT, 0x800104, 0x10000, 2, 0x10, 8, false,
    [⟨16, 16, .rc, 0, []⟩, ⟨6, 1, .ro, 0, []⟩, ⟨0, 5, .ro, 0, []⟩]⟩,
  ⟨.FPU_SPX_CTL, 0x10F0000, 0x20, 104, 0x0, 1, false,
    [⟨16, 16, .rw, 0, []⟩, ⟨0, 1, .rw, 0, []⟩]⟩,
  ⟨.FPU_SPX_RET, 0x10F0004, 0x20, 104, 0x0, 1, false,
    [⟨0, 16, .rw, 0, []⟩]⟩,
  ⟨.FPU_SPX_SITE, 0x10F0008, 0x20, 104, 0x0, 1, false,
    [⟨16, 16, .ro, 0, []⟩, ⟨0, 16, .ro, 0, []⟩]⟩,
  ⟨.FPU_SPX_BR, 0x10F000C, 0x20, 104, 0x0, 1, false,
    [⟨0, 32, .rc, 0, []⟩]⟩,
  ⟨.FPU_SPX_MP, 0x10F0010, 0x20, 104, 0x0, 1, false,
    [⟨0, 32, .rc, 0, []⟩]⟩,
  ⟨.FPU_SPX_SQ, 0x10F0014, 0x20, 104, 0x0, 1, false,
    [⟨0, 32, .rc, 0, []⟩]⟩,
  ⟨.FPU_SPX_EVT, 0x10F0018, 0x20, 104, 0x0, 1, false,
    [⟨16, 16, .rc, 0, []⟩, ⟨0, 16, .rc, 0, []⟩]⟩,
  ⟨.FPU_SPX_SUMP, 0x10F001C, 0x20, 104, 0x0, 1, false,
    [⟨25, 7, .ro, 0, []⟩, ⟨11, 11, .rc, 0, []⟩, ⟨0, 11, .ro, 0, []⟩]⟩,
  ⟨.FPU_SPX_FAB, 0x10F1000, 0x4, 2, 0x0, 1, false,
    [⟨0, 16, .rc, 0, []⟩]⟩,
  ⟨.CHN_CFG, 0xC00000, 0x2000, 256, 0x0, 1, false,
    [⟨20, 1, .rw, 0, []⟩, ⟨18, 1, .rw, 0, []⟩, ⟨16, 2, .rw, 0, []⟩, ⟨15, 1, .rw, 1, []⟩, ⟨11, 4, .rw, 0, []⟩, ⟨9, 2, .rw, 1, []⟩, ⟨4, 5, .rw, 8, [(17, 31)]⟩, ⟨2, 2, .rw, 0, [(3, 3)]⟩, ⟨0, 2, .rw, 0, [(2, 3)]⟩]⟩,
  ⟨.CHN_DSK, 0xC00004, 0x2000, 256, 0x0, 1, false,
    [⟨26, 6, .rw, 32, []⟩, ⟨13, 13, .rw, 0, []⟩, ⟨0, 13, .rw, 0, []⟩]⟩,
  ⟨.CHN_STAT, 0xC00008, 0x2000, 256, 0x0, 1, false,
    [⟨16, 16, .rc, 0, []⟩, ⟨11, 1, .ro, 0, []⟩, ⟨10, 1, .ro, 0, []⟩, ⟨9, 1, .w1c, 0, []⟩, ⟨8, 1, .w1c, 0, []⟩, ⟨7, 1, .w1c, 0, []⟩, ⟨6, 1, .w1c, 0, []⟩, ⟨5, 1, .w1c, 0, []⟩, ⟨4, 1, .w1c, 0, []⟩, ⟨3, 1, .w1c, 0, []⟩, ⟨1, 1, .ro, 0, []⟩, ⟨0, 1, .ro, 0, []⟩]⟩,
  ⟨.CHN_CAL_CTL, 0xE00000, 0x1000, 8, 0x0, 1, false,
    [⟨8, 1, .rw, 0, []⟩, ⟨0, 8, .rw, 10, [(0, 0)]⟩]⟩,
  ⟨.CHN_CAL_STAT, 0xE00004, 0x1000, 8, 0x0, 1, false,
    [⟨16, 8, .ro, 0, []⟩, ⟨8, 8, .rc, 0, []⟩, ⟨0, 1, .ro, 0, []⟩]⟩,
  ⟨.CHN_TSENS, 0xE00010, 0x1000, 8, 0x4, 8, false,
    [⟨0, 12, .ro, 0, []⟩]⟩]

/-- Part 3 of the register table. -/
def regDefs3 : List RegDef := [
  ⟨.CHN_SSG_CFG, 0xE00040, 0x1000, 8, 0x10, 4, false,
    [⟨24, 8, .rw, 0, []⟩, ⟨16, 8, .rw, 0, []⟩, ⟨8, 5, .rw, 0, []⟩, ⟨7, 1, .rw, 0, []⟩, ⟨6, 1, .rw, 0, []⟩, ⟨4, 2, .rw, 0, []⟩]⟩,
  ⟨.CHN_SSG_DLY, 0xE00044, 0x1000, 8, 0x10, 4, false,
    [⟨0, 13, .rw, 0, []⟩]⟩,
  ⟨.CHN_SSG_STAT, 0xE00048, 0x1000, 8, 0x10, 4, false,
    [⟨16, 16, .rc, 0, []⟩, ⟨0, 16, .rc, 0, []⟩]⟩,
  ⟨.FPU_FCNT, 0x1000000, 0x20, 256, 0x0, 1, true,
    [⟨0, 48, .ro, 0, []⟩]⟩,
  ⟨.FPU_FF_CYC, 0x1000008, 0x20, 256, 0x0, 1, true,
    [⟨0, 64, .ro, 0, []⟩]⟩,
  ⟨.FPU_FF_XY, 0x1000010, 0x20, 256, 0x0, 1, true,
    [⟨0, 24, .ro, 0, []⟩, ⟨32, 24, .ro, 0, []⟩]⟩,
  ⟨.FPU_FF_INFO, 0x1000018, 0x20, 256, 0x0, 1, false,
    [⟨31, 1, .ro, 0, []⟩, ⟨30, 1, .ro, 0, []⟩, ⟨29, 1, .ro, 0, []⟩, ⟨22, 7, .ro, 0, []⟩, ⟨16, 4, .ro, 0, []⟩, ⟨0, 16, .ro, 0, []⟩]⟩,
  ⟨.FPU_CAP_CFG, 0x10E0000, 0x40, 104, 0x0, 1, false,
    [⟨23, 6, .rw, 30, [(0, 11), (37, 63)]⟩, ⟨18, 5, .rw, 0, []⟩, ⟨15, 3, .rw, 6, [(0, 2), (7, 7)]⟩, ⟨10, 5, .rw, 0, [(25, 31)]⟩, ⟨5, 5, .rw, 24, [(25, 31)]⟩, ⟨4, 1, .rw, 0, []⟩, ⟨3, 1, .rw, 0, []⟩, ⟨2, 1, .rw, 0, []⟩, ⟨0, 2, .rw, 0, [(3, 3)]⟩]⟩,
  ⟨.FPU_CAP_BASE, 0x10E0004, 0x40, 104, 0x0, 1, true,
    [⟨6, 58, .rw, 0, []⟩]⟩,
  ⟨.FPU_CAP_LIM, 0x10E000C, 0x40, 104, 0x0, 1, true,
    [⟨6, 58, .rw, 0, []⟩]⟩,
  ⟨.FPU_CAP_STAT, 0x10E0014, 0x40, 104, 0x0, 1, false,
    [⟨3, 1, .w1c, 0, []⟩, ⟨2, 1, .w1c, 0, []⟩, ⟨1, 1, .w1c, 0, []⟩, ⟨0, 1, .ro, 0, []⟩]⟩,
  ⟨.FPU_CAP_DROP, 0x10E0018, 0x40, 104, 0x0, 1, false,
    [⟨0, 32, .rc, 0, []⟩]⟩,
  ⟨.FPU_CAP_LOGN, 0x10E001C, 0x40, 104, 0x0, 1, false,
    [⟨0, 32, .ro, 0, []⟩]⟩,
  ⟨.FPU_CAP_HOLD, 0x10E0020, 0x40, 104, 0x0, 1, false,
    [⟨0, 32, .rc, 0, []⟩]⟩,
  ⟨.FPU_FFS_CTL, 0x1010000, 0x100, 8, 0x0, 1, false,
    [⟨1, 4, .rw, 0, []⟩, ⟨0, 1, .rw, 0, []⟩]⟩,
  ⟨.FPU_FFS_STAT, 0x1010004, 0x100, 8, 0x0, 1, false,
    [⟨16, 16, .rc, 0, []⟩, ⟨0, 11, .ro, 0, []⟩]⟩]

/-- Part 4 of the register table. -/
def regDefs4 : List RegDef := [
  ⟨.FPU_FP_STAT, 0x1010008, 0x100, 8, 0x0, 1, false,
    [⟨16, 15, .rc, 0, []⟩, ⟨0, 15, .ro, 0, []⟩]⟩,
  ⟨.FPU_FCC_CTL, 0x1011000, 0x100, 2, 0x0, 1, false,
    [⟨0, 1, .w1s, 0, []⟩]⟩,
  ⟨.FPU_FCC_STAT, 0x1011004, 0x100, 2, 0x0, 1, false,
    [⟨0, 13, .ro, 0, []⟩]⟩,
  ⟨.FPU_FCC_HIT, 0x1011008, 0x100, 2, 0x0, 1, false,
    [⟨0, 32, .rc, 0, []⟩]⟩,
  ⟨.FPU_FCC_EVICT, 0x101100C, 0x100, 2, 0x0, 1, false,
    [⟨0, 32, .rc, 0, []⟩]⟩,
  ⟨.DMC_CTL, 0x1400000, 0x10000, 8, 0x0, 1, false,
    [⟨0, 1, .rw, 1, []⟩]⟩,
  ⟨.DMC_STAT, 0x1400004, 0x10000, 8, 0x0, 1, false,
    [⟨7, 1, .ro, 0, []⟩, ⟨6, 1, .ro, 0, []⟩, ⟨4, 2, .ro, 0, []⟩, ⟨0, 4, .ro, 0, []⟩]⟩,
  ⟨.DMC_GEOM, 0x1400008, 0x10000, 8, 0x0, 1, false,
    [⟨4, 5, .ro, 0, []⟩, ⟨2, 2, .ro, 0, []⟩, ⟨0, 2, .ro, 0, []⟩]⟩,
  ⟨.DMC_FSP, 0x140000C, 0x10000, 8, 0x4, 3, false,
    [⟨4, 1, .ro, 0, []⟩, ⟨0, 4, .rw, 0, [(9, 15)]⟩]⟩,
  ⟨.DMC_FSP_CTL, 0x1400018, 0x10000, 8, 0x0, 1, false,
    [⟨4, 1, .w1c, 0, []⟩, ⟨3, 1, .rw, 0, []⟩, ⟨2, 1, .w1s, 0, []⟩, ⟨0, 2, .rw, 1, [(3, 3)]⟩]⟩,
  ⟨.DMC_RETR, 0x140001C, 0x10000, 8, 0x0, 1, false,
    [⟨16, 8, .rw, 20, [(0, 19)]⟩, ⟨8, 8, .rw, 8, [(0, 0)]⟩, ⟨0, 8, .rw, 1, [(0, 0)]⟩]⟩,
  ⟨.DMC_SR, 0x1400020, 0x10000, 8, 0x0, 1, false,
    [⟨8, 8, .rw, 10, [(0, 0)]⟩, ⟨2, 1, .w1s, 0, []⟩, ⟨1, 1, .w1s, 0, []⟩, ⟨0, 1, .rw, 1, []⟩]⟩,
  ⟨.DMC_SCHED, 0x1400024, 0x10000, 8, 0x0, 1, false,
    [⟨8, 6, .rw, 16, [(48, 63)]⟩, ⟨0, 6, .rw, 32, [(0, 0), (49, 63)]⟩]⟩,
  ⟨.DMC_ERR, 0x1400028, 0x10000, 8, 0x0, 1, false,
    [⟨4, 1, .w1c, 0, []⟩, ⟨3, 1, .w1c, 0, []⟩, ⟨2, 1, .w1c, 0, []⟩, ⟨1, 1, .w1c, 0, []⟩, ⟨0, 1, .w1c, 0, []⟩]⟩,
  ⟨.DMC_CE, 0x140002C, 0x10000, 8, 0x0, 1, false,
    [⟨0, 32, .rc, 0, []⟩]⟩,
  ⟨.DMC_UE, 0x1400030, 0x10000, 8, 0x0, 1, false,
    [⟨0, 32, .rc, 0, []⟩]⟩]

/-- Part 5 of the register table. -/
def regDefs5 : List RegDef := [
  ⟨.DMC_EADDR, 0x1400034, 0x10000, 8, 0x0, 1, true,
    [⟨0, 64, .ro, 0, []⟩]⟩,
  ⟨.DMC_RD, 0x140003C, 0x10000, 8, 0x0, 1, false,
    [⟨0, 32, .rc, 0, []⟩]⟩,
  ⟨.DMC_WR, 0x1400040, 0x10000, 8, 0x0, 1, false,
    [⟨0, 32, .rc, 0, []⟩]⟩,
  ⟨.DMC_ROR, 0x1400044, 0x10000, 8, 0x0, 1, false,
    [⟨16, 16, .rc, 0, []⟩, ⟨0, 16, .rc, 0, []⟩]⟩,
  ⟨.DMC_FWD, 0x1400048, 0x10000, 8, 0x0, 1, false,
    [⟨0, 32, .rc, 0, []⟩]⟩,
  ⟨.DMC_HIT, 0x140004C, 0x10000, 8, 0x0, 1, false,
    [⟨0, 32, .rc, 0, []⟩]⟩,
  ⟨.DMC_AGE, 0x1400050, 0x10000, 8, 0x0, 1, false,
    [⟨0, 32, .rc, 0, []⟩]⟩,
  ⟨.DMC_RMW, 0x1400054, 0x10000, 8, 0x0, 1, false,
    [⟨0, 32, .rc, 0, []⟩]⟩,
  ⟨.DMC_TRAIN, 0x1400058, 0x10000, 8, 0x0, 1, false,
    [⟨16, 16, .rc, 0, []⟩, ⟨12, 4, .ro, 0, []⟩, ⟨8, 4, .ro, 0, []⟩, ⟨0, 8, .ro, 0, []⟩]⟩,
  ⟨.DMC_TEMP, 0x140005C, 0x10000, 8, 0x0, 1, false,
    [⟨4, 3, .ro, 0, []⟩, ⟨0, 3, .ro, 0, []⟩]⟩,
  ⟨.DMC_HALF, 0x1480000, 0x100, 2, 0x0, 1, false,
    [⟨4, 2, .ro, 0, []⟩, ⟨0, 3, .ro, 0, []⟩]⟩,
  ⟨.DMC_USABLE, 0x1480004, 0x100, 2, 0x0, 1, true,
    [⟨0, 64, .ro, 0, []⟩]⟩,
  ⟨.DMC_WIN, 0x148000C, 0x100, 2, 0x0, 1, false,
    [⟨0, 16, .rw, 0, []⟩]⟩,
  ⟨.BNK_PWR, 0x1800000, 0x1000, 2, 0x4, 4, false,
    [⟨0, 32, .rw, 0, []⟩]⟩,
  ⟨.BNK_PSTAT, 0x1800010, 0x1000, 2, 0x4, 4, false,
    [⟨0, 32, .ro, 0, []⟩]⟩,
  ⟨.BNK_COP_CTL, 0x1800020, 0x1000, 2, 0x0, 1, false,
    [⟨16, 16, .rw, 100, [(0, 0)]⟩, ⟨0, 1, .rw, 1, []⟩]⟩]

/-- Part 6 of the register table. -/
def regDefs6 : List RegDef := [
  ⟨.BNK_COP_EXM, 0x1800024, 0x1000, 2, 0x0, 1, true,
    [⟨0, 64, .rw, 0, []⟩]⟩,
  ⟨.BNK_COP_STAT, 0x180002C, 0x1000, 2, 0x0, 1, false,
    [⟨31, 1, .ro, 0, []⟩, ⟨28, 3, .ro, 0, []⟩, ⟨22, 6, .ro, 0, []⟩, ⟨16, 6, .ro, 0, []⟩, ⟨0, 16, .rc, 0, []⟩]⟩,
  ⟨.BNK_ERR, 0x1800030, 0x1000, 2, 0x0, 1, false,
    [⟨5, 1, .w1c, 0, []⟩, ⟨4, 1, .w1c, 0, []⟩, ⟨3, 1, .w1c, 0, []⟩, ⟨2, 1, .w1c, 0, []⟩, ⟨1, 1, .w1c, 0, []⟩, ⟨0, 1, .w1c, 0, []⟩]⟩,
  ⟨.BNK_CE, 0x1800034, 0x1000, 2, 0x0, 1, false,
    [⟨0, 32, .rc, 0, []⟩]⟩,
  ⟨.BNK_UE, 0x1800038, 0x1000, 2, 0x0, 1, false,
    [⟨0, 32, .rc, 0, []⟩]⟩,
  ⟨.BNK_EADDR, 0x180003C, 0x1000, 2, 0x0, 1, false,
    [⟨0, 25, .ro, 0, []⟩]⟩,
  ⟨.FAB_FCG_CFG, 0x2000000, 0x100, 2, 0x10, 4, false,
    [⟨14, 8, .rw, 24, [(0, 7)]⟩, ⟨10, 4, .rw, 1, [(0, 0)]⟩, ⟨7, 3, .rw, 0, [(6, 7)]⟩, ⟨6, 1, .rw, 0, []⟩, ⟨1, 1, .w1s, 0, []⟩, ⟨0, 1, .rw, 0, []⟩]⟩,
  ⟨.FAB_FCG_DIV, 0x2000004, 0x100, 2, 0x10, 4, false,
    [⟨0, 32, .rw, 0, []⟩]⟩,
  ⟨.FAB_FCG_STAT, 0x2000008, 0x100, 2, 0x10, 4, false,
    [⟨2, 1, .w1c, 0, []⟩, ⟨1, 1, .w1c, 0, []⟩, ⟨0, 1, .ro, 0, []⟩]⟩,
  ⟨.FAB_RCLK_A, 0x2001000, 0x10, 32, 0x0, 1, false,
    [⟨0, 32, .rw, 0, []⟩]⟩,
  ⟨.FAB_RCLK_B, 0x2001004, 0x10, 32, 0x0, 1, false,
    [⟨0, 16, .rw, 0, []⟩]⟩,
  ⟨.FAB_RCLK_C, 0x2001008, 0x10, 32, 0x0, 1, false,
    [⟨16, 12, .rw, 0, []⟩, ⟨0, 12, .rw, 0, []⟩]⟩,
  ⟨.FAB_NE_CFG, 0x2002000, 0x10, 64, 0x0, 1, false,
    [⟨2, 4, .rw, 0, []⟩, ⟨1, 1, .rw, 0, []⟩, ⟨0, 1, .rw, 0, []⟩]⟩,
  ⟨.FAB_NE_STAT, 0x2002004, 0x10, 64, 0x0, 1, false,
    [⟨16, 16, .rc, 0, []⟩, ⟨8, 8, .rc, 0, []⟩, ⟨3, 1, .w1c, 0, []⟩, ⟨1, 1, .ro, 0, []⟩, ⟨0, 1, .ro, 0, []⟩]⟩,
  ⟨.FAB_IO, 0x2003000, 0x4, 96, 0x0, 1, false,
    [⟨10, 1, .ro, 0, []⟩, ⟨9, 1, .rw, 0, []⟩, ⟨0, 8, .rw, 0, []⟩]⟩,
  ⟨.FAB_STAT, 0x2000F00, 0x4, 2, 0x0, 1, false,
    [⟨0, 1, .ro, 1, []⟩]⟩]

/-- Part 7 of the register table. -/
def regDefs7 : List RegDef := [
  ⟨.CFG_LOAD_CTL, 0x1E00000, 0x0, 1, 0x0, 1, false,
    [⟨2, 1, .w1s, 0, []⟩, ⟨1, 1, .w1s, 0, []⟩, ⟨0, 1, .w1s, 0, []⟩]⟩,
  ⟨.CFG_LOAD_STATUS, 0x1E00004, 0x0, 1, 0x0, 1, false,
    [⟨28, 4, .ro, 0, []⟩, ⟨24, 4, .ro, 0, []⟩, ⟨23, 1, .ro, 0, []⟩, ⟨8, 8, .ro, 0, []⟩, ⟨0, 8, .ro, 0, []⟩]⟩,
  ⟨.CFG_DESIGN, 0x1E00008, 0x0, 1, 0x0, 1, true,
    [⟨0, 64, .ro, 0, []⟩]⟩,
  ⟨.CFG_HRING, 0x1E00010, 0x0, 1, 0x0, 1, true,
    [⟨12, 52, .rw, 0, []⟩]⟩,
  ⟨.CFG_HRING_CFG, 0x1E00018, 0x0, 1, 0x0, 1, false,
    [⟨16, 16, .rw, 1000, [(0, 0)]⟩, ⟨1, 4, .rw, 0, [(9, 15)]⟩, ⟨0, 1, .rw, 0, []⟩]⟩,
  ⟨.CFG_HRING_PI, 0x1E0001C, 0x0, 1, 0x0, 1, false,
    [⟨0, 16, .rw, 0, []⟩]⟩,
  ⟨.CFG_HRING_CI, 0x1E00020, 0x0, 1, 0x0, 1, false,
    [⟨16, 16, .rc, 0, []⟩, ⟨0, 16, .ro, 0, []⟩]⟩,
  ⟨.CFG_QFENCE, 0x1E00030, 0x4, 4, 0x0, 1, false,
    [⟨0, 32, .ro, 4294967295, []⟩]⟩,
  ⟨.CFG_DONE, 0x1E00040, 0x0, 1, 0x0, 1, false,
    [⟨3, 1, .w1c, 0, []⟩, ⟨2, 1, .rw, 0, []⟩, ⟨1, 1, .ro, 0, []⟩, ⟨0, 1, .ro, 0, []⟩]⟩,
  ⟨.CFG_PRN_CTL, 0x1E00100, 0x40, 2, 0x0, 1, false,
    [⟨8, 8, .rw, 24, [(0, 0)]⟩, ⟨0, 1, .rw, 1, []⟩]⟩,
  ⟨.CFG_PRN_STAT, 0x1E00104, 0x40, 2, 0x0, 1, false,
    [⟨16, 16, .rc, 0, []⟩, ⟨8, 8, .ro, 0, []⟩, ⟨3, 1, .ro, 0, []⟩, ⟨2, 1, .ro, 0, []⟩, ⟨1, 1, .ro, 0, []⟩, ⟨0, 1, .w1c, 0, []⟩]⟩,
  ⟨.CFG_PRN_LAST, 0x1E00108, 0x40, 2, 0x0, 1, false,
    [⟨0, 32, .ro, 0, []⟩]⟩,
  ⟨.NOC_TMO, 0x1A00000, 0x10000, 2, 0x0, 1, false,
    [⟨0, 16, .rw, 100, [(0, 0)]⟩]⟩,
  ⟨.NOC_ERR, 0x1A00004, 0x10000, 2, 0x0, 1, false,
    [⟨4, 1, .w1c, 0, []⟩, ⟨3, 1, .w1c, 0, []⟩, ⟨2, 1, .w1c, 0, []⟩, ⟨1, 1, .w1c, 0, []⟩, ⟨0, 1, .w1c, 0, []⟩]⟩,
  ⟨.NOC_LINK, 0x1A00008, 0x10000, 2, 0x4, 2, false,
    [⟨0, 20, .ro, 0, []⟩]⟩,
  ⟨.NOC_CRC, 0x1A00010, 0x10000, 2, 0x0, 1, false,
    [⟨0, 32, .rc, 0, []⟩]⟩]

/-- Part 8 of the register table. -/
def regDefs8 : List RegDef := [
  ⟨.NOC_STOP_STAT, 0x1A00014, 0x10000, 2, 0x0, 1, false,
    [⟨0, 32, .rc, 0, []⟩]⟩,
  ⟨.NOC_NI_STAT, 0x1A01000, 0x10000, 2, 0x10, 56, false,
    [⟨30, 2, .ro, 0, []⟩, ⟨21, 9, .ro, 0, []⟩, ⟨0, 16, .rc, 0, []⟩]⟩,
  ⟨.NOC_NI_ERR, 0x1A01004, 0x10000, 2, 0x10, 56, false,
    [⟨16, 16, .rc, 0, []⟩, ⟨8, 8, .rc, 0, []⟩, ⟨0, 8, .rc, 0, []⟩]⟩,
  ⟨.TMB_CTL, 0x1C00000, 0x0, 1, 0x0, 1, false,
    [⟨16, 16, .rw, 300, [(0, 0)]⟩, ⟨0, 2, .rw, 0, []⟩]⟩,
  ⟨.TMB_STAT, 0x1C00004, 0x0, 1, 0x0, 1, false,
    [⟨16, 16, .rc, 0, []⟩, ⟨9, 1, .w1c, 0, []⟩, ⟨8, 1, .w1c, 0, []⟩, ⟨7, 1, .w1c, 0, []⟩, ⟨6, 1, .w1c, 0, []⟩, ⟨5, 1, .w1c, 0, []⟩, ⟨4, 1, .ro, 0, []⟩, ⟨3, 1, .ro, 0, []⟩, ⟨0, 3, .ro, 0, []⟩]⟩,
  ⟨.TMB_NOW_FRAC, 0x1C00008, 0x0, 1, 0x0, 1, false,
    [⟨0, 32, .ro, 0, []⟩]⟩,
  ⟨.TMB_NOW_NS, 0x1C0000C, 0x0, 1, 0x0, 1, false,
    [⟨0, 30, .ro, 0, []⟩]⟩,
  ⟨.TMB_NOW_SEC, 0x1C00010, 0x0, 1, 0x0, 1, true,
    [⟨0, 48, .ro, 0, []⟩]⟩,
  ⟨.TMB_STEP_NS, 0x1C00018, 0x0, 1, 0x0, 1, false,
    [⟨0, 32, .rw, 0, []⟩]⟩,
  ⟨.TMB_STEP_SEC, 0x1C0001C, 0x0, 1, 0x0, 1, false,
    [⟨0, 32, .wo, 0, []⟩]⟩,
  ⟨.TMB_INC, 0x1C00020, 0x0, 1, 0x0, 1, true,
    [⟨0, 36, .rw, 8589934592, []⟩]⟩,
  ⟨.TMB_SRV_CFG, 0x1C00028, 0x0, 1, 0x0, 1, false,
    [⟨16, 8, .rw, 1, [(0, 0)]⟩, ⟨8, 5, .rw, 30, []⟩, ⟨0, 5, .rw, 26, []⟩]⟩,
  ⟨.TMB_SRV_OFS, 0x1C0002C, 0x0, 1, 0x0, 1, false,
    [⟨0, 32, .ro, 0, []⟩]⟩,
  ⟨.TMB_SRV_RATE, 0x1C00030, 0x0, 1, 0x0, 1, false,
    [⟨0, 32, .ro, 0, []⟩]⟩,
  ⟨.TMB_PAIR, 0x1C00034, 0x0, 1, 0x0, 1, false,
    [⟨0, 32, .ro, 0, []⟩]⟩,
  ⟨.TMB_PPS, 0x1C00038, 0x0, 1, 0x0, 1, false,
    [⟨8, 8, .rw, 100, [(0, 0)]⟩, ⟨0, 1, .rw, 0, []⟩]⟩]

/-- Part 9 of the register table. -/
def regDefs9 : List RegDef := [
  ⟨.TMB_PTP_CFG, 0x1C00040, 0x0, 1, 0x0, 1, false,
    [⟨25, 1, .rw, 0, []⟩, ⟨24, 1, .rw, 0, []⟩, ⟨16, 8, .rw, 128, []⟩, ⟨8, 8, .rw, 128, []⟩, ⟨0, 8, .rw, 0, []⟩]⟩,
  ⟨.TMB_EVF_CFG, 0x1C00044, 0x0, 1, 0x0, 1, false,
    [⟨16, 1, .rw, 0, []⟩, ⟨0, 16, .rw, 0, []⟩]⟩,
  ⟨.TMB_EVF_CTX, 0x1C00048, 0x0, 1, 0x0, 1, true,
    [⟨0, 64, .rw, 0, []⟩]⟩,
  ⟨.TMB_EVF_STAT, 0x1C00050, 0x0, 1, 0x0, 1, false,
    [⟨16, 16, .rc, 0, []⟩, ⟨0, 16, .rc, 0, []⟩]⟩,
  ⟨.TMB_TIN_NS, 0x1C00100, 0x10, 8, 0x0, 1, false,
    [⟨31, 1, .rc, 0, []⟩, ⟨30, 1, .rc, 0, []⟩, ⟨0, 30, .ro, 0, []⟩]⟩,
  ⟨.TMB_TIN_SEC, 0x1C00104, 0x10, 8, 0x0, 1, true,
    [⟨0, 48, .ro, 0, []⟩]⟩,
  ⟨.TMB_TRK_CFG, 0x1C02000, 0x100, 4, 0x0, 1, false,
    [⟨9, 3, .ro, 0, []⟩, ⟨5, 4, .rw, 13, []⟩, ⟨4, 1, .rw, 0, []⟩, ⟨3, 1, .rw, 0, []⟩, ⟨2, 1, .rw, 0, []⟩, ⟨0, 2, .rw, 0, [(3, 3)]⟩]⟩,
  ⟨.TMB_TRK_PHY, 0x1C02004, 0x100, 4, 0x0, 1, false,
    [⟨1, 1, .rw, 0, []⟩, ⟨0, 1, .rw, 0, []⟩]⟩,
  ⟨.TMB_TRK_LAT, 0x1C02008, 0x100, 4, 0x0, 1, false,
    [⟨16, 16, .rw, 3360, []⟩, ⟨0, 16, .rw, 2688, []⟩]⟩,
  ⟨.TMB_TRK_ASYM, 0x1C0200C, 0x100, 4, 0x0, 1, false,
    [⟨0, 32, .rw, 0, []⟩]⟩,
  ⟨.TMB_TRK_STAT, 0x1C02010, 0x100, 4, 0x0, 1, false,
    [⟨16, 16, .rc, 0, []⟩, ⟨2, 7, .ro, 0, []⟩, ⟨1, 1, .w1c, 0, []⟩, ⟨0, 1, .ro, 0, []⟩]⟩,
  ⟨.TMB_TRK_RXO, 0x1C02014, 0x100, 4, 0x0, 1, false,
    [⟨0, 32, .rc, 0, []⟩]⟩,
  ⟨.TMB_LCH_CFG, 0x1C02040, 0x100, 4, 0x10, 4, false,
    [⟨17, 1, .ro, 0, []⟩, ⟨16, 1, .w1c, 0, []⟩, ⟨15, 1, .rw, 0, []⟩, ⟨14, 1, .rw, 0, []⟩, ⟨11, 3, .rw, 0, []⟩, ⟨0, 11, .rw, 0, [(0, 13), (1515, 2047)]⟩]⟩,
  ⟨.TMB_LCH_TS0, 0x1C02044, 0x100, 4, 0x10, 4, false,
    [⟨0, 30, .ro, 0, []⟩]⟩,
  ⟨.TMB_LCH_TS1, 0x1C02048, 0x100, 4, 0x10, 4, false,
    [⟨0, 32, .ro, 0, []⟩]⟩,
  ⟨.TMB_LCH_TS2, 0x1C0204C, 0x100, 4, 0x10, 4, false,
    [⟨16, 4, .ro, 0, []⟩, ⟨0, 16, .ro, 0, []⟩]⟩]

/-- Part 10 of the register table. -/
def regDefs10 : List RegDef := [
  ⟨.TMB_TRG_CTL, 0x1C01000, 0x200, 2, 0x20, 8, false,
    [⟨8, 8, .rw, 1, [(0, 0)]⟩, ⟨6, 1, .ro, 0, []⟩, ⟨5, 1, .ro, 0, []⟩, ⟨4, 1, .w1c, 0, []⟩, ⟨3, 1, .rw, 0, []⟩, ⟨2, 1, .rw, 0, []⟩, ⟨1, 1, .rw, 0, []⟩, ⟨0, 1, .rw, 0, []⟩]⟩,
  ⟨.TMB_TRG_NS, 0x1C01004, 0x200, 2, 0x20, 8, false,
    [⟨0, 30, .rw, 0, [(1000000000, 1073741823)]⟩]⟩,
  ⟨.TMB_TRG_SEC, 0x1C01008, 0x200, 2, 0x20, 8, true,
    [⟨0, 48, .rw, 0, []⟩]⟩,
  ⟨.TMB_TRG_PER, 0x1C01010, 0x200, 2, 0x20, 8, false,
    [⟨0, 30, .rw, 0, [(0, 99), (1000000000, 1073741823)]⟩]⟩,
  ⟨.TMB_TRG_CNT, 0x1C01014, 0x200, 2, 0x20, 8, false,
    [⟨0, 32, .rc, 0, []⟩]⟩,
  ⟨.SUP_CTL, 0x200000, 0x0, 1, 0x0, 1, false,
    [⟨2, 8, .rw, 0, [(218, 255)]⟩, ⟨1, 1, .w1s, 0, []⟩, ⟨0, 1, .rw, 1, []⟩]⟩,
  ⟨.SUP_STAT, 0x200004, 0x0, 1, 0x0, 1, false,
    [⟨7, 1, .ro, 0, []⟩, ⟨6, 1, .w1c, 0, []⟩, ⟨5, 1, .w1c, 0, []⟩, ⟨4, 1, .ro, 0, []⟩, ⟨3, 1, .ro, 0, []⟩, ⟨2, 1, .ro, 0, []⟩, ⟨1, 1, .ro, 0, []⟩, ⟨0, 1, .ro, 0, []⟩]⟩,
  ⟨.SUP_CUST_EPOCH, 0x200008, 0x0, 1, 0x0, 1, false,
    [⟨0, 32, .ro, 0, []⟩]⟩,
  ⟨.SUP_CUST_STALE, 0x20000C, 0x0, 1, 0x0, 1, false,
    [⟨0, 32, .rc, 0, []⟩]⟩,
  ⟨.SUP_ECHO, 0x200010, 0x4, 2, 0x0, 1, false,
    [⟨16, 16, .rc, 0, []⟩, ⟨0, 16, .rc, 0, []⟩]⟩,
  ⟨.SUP_WEAR_POH, 0x200020, 0x0, 1, 0x0, 1, false,
    [⟨0, 32, .ro, 0, []⟩]⟩,
  ⟨.SUP_WEAR_CYC, 0x200024, 0x0, 1, 0x0, 1, false,
    [⟨0, 32, .ro, 0, []⟩]⟩,
  ⟨.SUP_WEAR_HOT, 0x200028, 0x0, 1, 0x0, 1, false,
    [⟨0, 32, .ro, 0, []⟩]⟩,
  ⟨.SUP_AGE, 0x200040, 0x4, 16, 0x0, 1, false,
    [⟨0, 16, .ro, 0, []⟩]⟩,
  ⟨.SUP_UNIT_STAT, 0x201000, 0x8, 218, 0x0, 1, false,
    [⟨30, 2, .ro, 0, []⟩, ⟨24, 6, .ro, 0, []⟩, ⟨0, 16, .rc, 0, []⟩]⟩,
  ⟨.SUP_UNIT_EPOCH, 0x201004, 0x8, 218, 0x0, 1, false,
    [⟨0, 32, .ro, 1, []⟩]⟩]

/-- Part 11 of the register table. -/
def regDefs11 : List RegDef := [
  ⟨.SNP_CTL, 0x2800000, 0x0, 1, 0x0, 1, false,
    [⟨10, 1, .w1s, 0, []⟩, ⟨9, 1, .w1s, 0, []⟩, ⟨8, 1, .rw, 0, []⟩, ⟨0, 6, .rw, 62, []⟩]⟩,
  ⟨.SNP_STAT, 0x2800004, 0x0, 1, 0x0, 1, false,
    [⟨26, 6, .ro, 0, []⟩, ⟨8, 16, .rc, 0, []⟩, ⟨0, 1, .ro, 0, []⟩]⟩,
  ⟨.SNP_GEN, 0x2800008, 0x0, 1, 0x0, 1, false,
    [⟨0, 32, .ro, 0, []⟩]⟩,
  ⟨.SNP_TIME_NS, 0x280000C, 0x0, 1, 0x0, 1, false,
    [⟨0, 30, .ro, 0, []⟩]⟩,
  ⟨.SNP_TIME_SEC, 0x2800010, 0x0, 1, 0x0, 1, true,
    [⟨0, 48, .ro, 0, []⟩]⟩,
  ⟨.GLB_ID, 0x0, 0x0, 1, 0x0, 1, true,
    [⟨16, 16, .ro, 37462, []⟩, ⟨0, 16, .ro, 80, []⟩, ⟨40, 1, .ro, 0, []⟩, ⟨36, 4, .ro, 0, []⟩, ⟨32, 4, .ro, 0, []⟩]⟩,
  ⟨.GLB_LIKE_CLASS, 0x8, 0x0, 1, 0x0, 1, false,
    [⟨0, 16, .ro, 0, []⟩]⟩,
  ⟨.GLB_BEHAVIOUR, 0xC, 0x0, 1, 0x0, 1, false,
    [⟨4, 4, .ro, 1, []⟩, ⟨0, 4, .rw, 1, []⟩]⟩,
  ⟨.GLB_STATE, 0x10, 0x0, 1, 0x0, 1, false,
    [⟨24, 1, .ro, 0, []⟩, ⟨16, 8, .ro, 0, []⟩, ⟨0, 4, .ro, 1, []⟩]⟩,
  ⟨.GLB_STRAP, 0x14, 0x0, 1, 0x0, 1, false,
    [⟨0, 5, .ro, 0, []⟩]⟩,
  ⟨.GLB_RESET, 0x18, 0x0, 1, 0x0, 1, false,
    [⟨16, 16, .wo, 0, []⟩, ⟨2, 1, .wo, 0, []⟩, ⟨1, 1, .wo, 0, []⟩, ⟨0, 1, .wo, 0, []⟩]⟩,
  ⟨.GLB_RST_CAUSE, 0x1C, 0x0, 1, 0x0, 1, false,
    [⟨0, 3, .ro, 0, []⟩]⟩,
  ⟨.GLB_FWLOAD, 0x20, 0x0, 1, 0x0, 1, false,
    [⟨0, 1, .w1s, 0, []⟩]⟩,
  ⟨.GLB_BOOT_STAT, 0x24, 0x0, 1, 0x0, 1, false,
    [⟨28, 4, .ro, 0, []⟩, ⟨24, 4, .ro, 0, []⟩, ⟨16, 8, .ro, 0, []⟩, ⟨8, 8, .ro, 0, []⟩, ⟨0, 8, .ro, 0, []⟩]⟩,
  ⟨.GLB_STEST_SUM, 0x40, 0x0, 1, 0x0, 1, false,
    [⟨20, 12, .ro, 0, []⟩, ⟨0, 10, .ro, 0, []⟩]⟩,
  ⟨.GLB_STEST_UNIT, 0x44, 0x4, 8, 0x0, 1, false,
    [⟨0, 32, .ro, 0, []⟩]⟩]

/-- Part 12 of the register table. -/
def regDefs12 : List RegDef := [
  ⟨.GLB_STEST_BANK, 0x64, 0x4, 2, 0x0, 1, false,
    [⟨7, 1, .ro, 0, []⟩, ⟨6, 1, .ro, 0, []⟩, ⟨0, 6, .ro, 0, []⟩]⟩,
  ⟨.SEC_SLOTS, 0x2600000, 0x0, 1, 0x0, 1, false,
    [⟨20, 1, .ro, 0, []⟩, ⟨16, 4, .ro, 0, []⟩, ⟨12, 4, .ro, 0, []⟩, ⟨10, 2, .ro, 0, []⟩, ⟨6, 4, .ro, 0, []⟩, ⟨2, 4, .ro, 0, []⟩, ⟨0, 2, .ro, 0, []⟩]⟩,
  ⟨.SEC_FW_SVN, 0x2600004, 0x0, 1, 0x0, 1, false,
    [⟨0, 7, .ro, 0, []⟩]⟩,
  ⟨.SEC_SERIAL, 0x2600008, 0x0, 1, 0x0, 1, true,
    [⟨0, 64, .ro, 0, []⟩]⟩,
  ⟨.SEC_ATT_CTL, 0x2600010, 0x0, 1, 0x0, 1, false,
    [⟨2, 1, .ro, 0, []⟩, ⟨1, 1, .w1c, 0, []⟩, ⟨0, 1, .w1s, 0, []⟩]⟩,
  ⟨.SEC_CERT_LEN, 0x2600014, 0x0, 1, 0x0, 1, false,
    [⟨16, 16, .ro, 0, []⟩, ⟨0, 16, .ro, 0, []⟩]⟩,
  ⟨.SEC_ATT_NONCE, 0x2600020, 0x4, 8, 0x0, 1, false,
    [⟨0, 32, .rw, 0, []⟩]⟩,
  ⟨.SEC_PROG_CTL, 0x2600040, 0x0, 1, 0x0, 1, false,
    [⟨16, 3, .ro, 0, []⟩, ⟨9, 1, .w1s, 0, []⟩, ⟨8, 1, .w1s, 0, []⟩, ⟨0, 8, .rw, 0, [(0, 0), (21, 255)]⟩]⟩,
  ⟨.SEC_PROG_DATA, 0x2600050, 0x4, 8, 0x0, 1, false,
    [⟨0, 32, .wo, 0, []⟩]⟩,
  ⟨.DBG_PORT_ID, 0x4000000, 0x0, 1, 0x0, 1, false,
    [⟨16, 16, .ro, 37462, []⟩, ⟨0, 16, .ro, 80, []⟩]⟩,
  ⟨.DBG_PORT_STAT, 0x4000004, 0x0, 1, 0x0, 1, false,
    [⟨24, 8, .rc, 0, []⟩, ⟨16, 8, .rc, 0, []⟩, ⟨12, 4, .ro, 0, []⟩, ⟨4, 8, .ro, 0, []⟩, ⟨0, 2, .ro, 0, []⟩]⟩,
  ⟨.DBG_AUTH_CTL, 0x4000008, 0x0, 1, 0x0, 1, false,
    [⟨12, 4, .ro, 0, []⟩, ⟨10, 2, .ro, 0, []⟩, ⟨8, 2, .rw, 0, []⟩, ⟨3, 1, .w1s, 0, []⟩, ⟨2, 1, .w1s, 0, []⟩, ⟨1, 1, .w1s, 0, []⟩, ⟨0, 1, .ro, 0, []⟩]⟩,
  ⟨.DBG_CFG, 0x400000C, 0x0, 1, 0x0, 1, false,
    [⟨0, 16, .rw, 4096, [(0, 0)]⟩]⟩,
  ⟨.DBG_ENG_CTL, 0x2401000, 0x100, 104, 0x0, 1, false,
    [⟨16, 16, .rw, 1, [(0, 0)]⟩, ⟨8, 1, .rw, 0, []⟩, ⟨7, 1, .rw, 1, []⟩, ⟨6, 1, .rw, 0, []⟩, ⟨5, 1, .rw, 0, []⟩, ⟨4, 1, .w1s, 0, []⟩, ⟨3, 1, .w1s, 0, []⟩, ⟨2, 1, .w1s, 0, []⟩, ⟨1, 1, .w1s, 0, []⟩]⟩,
  ⟨.DBG_ENG_STAT, 0x2401004, 0x100, 104, 0x0, 1, false,
    [⟨24, 8, .ro, 0, []⟩, ⟨8, 8, .ro, 0, []⟩, ⟨4, 4, .ro, 0, []⟩, ⟨3, 1, .ro, 0, []⟩, ⟨2, 1, .ro, 0, []⟩, ⟨1, 1, .ro, 0, []⟩, ⟨0, 1, .ro, 0, []⟩]⟩,
  ⟨.DBG_ENG_HIT, 0x2401008, 0x100, 104, 0x0, 1, false,
    [⟨0, 17, .ro, 0, []⟩]⟩]

/-- Part 13 of the register table. -/
def regDefs13 : List RegDef := [
  ⟨.DBG_ENG_HITCYC, 0x240100C, 0x100, 104, 0x0, 1, true,
    [⟨0, 64, .ro, 0, []⟩]⟩,
  ⟨.DBG_ENG_STIM, 0x2401014, 0x100, 104, 0x0, 1, false,
    [⟨0, 32, .rw, 4294967295, []⟩]⟩,
  ⟨.DBG_CMP_CFG, 0x2401020, 0x100, 104, 0x10, 8, false,
    [⟨16, 16, .rw, 0, []⟩, ⟨8, 2, .rw, 0, [(3, 3)]⟩, ⟨6, 1, .rw, 0, []⟩, ⟨5, 1, .rw, 0, []⟩, ⟨4, 1, .rw, 0, []⟩, ⟨0, 3, .rw, 0, []⟩]⟩,
  ⟨.DBG_CMP_A, 0x2401024, 0x100, 104, 0x10, 8, false,
    [⟨0, 32, .rw, 0, []⟩]⟩,
  ⟨.DBG_CMP_B, 0x2401028, 0x100, 104, 0x10, 8, false,
    [⟨0, 32, .rw, 0, []⟩]⟩,
  ⟨.DBG_TRC_CTL, 0x2408000, 0x100, 2, 0x0, 1, false,
    [⟨2, 2, .rw, 0, []⟩, ⟨1, 1, .rw, 0, []⟩, ⟨0, 1, .w1s, 0, []⟩]⟩,
  ⟨.DBG_TRC_WP, 0x2408004, 0x100, 2, 0x0, 1, false,
    [⟨31, 1, .ro, 0, []⟩, ⟨0, 22, .ro, 0, []⟩]⟩,
  ⟨.DBG_TRC_STAT, 0x2408008, 0x100, 2, 0x0, 1, false,
    [⟨0, 32, .rc, 0, []⟩]⟩,
  ⟨.DBG_TRC_WIN, 0x240800C, 0x100, 2, 0x0, 1, false,
    [⟨0, 10, .rw, 0, []⟩]⟩,
  ⟨.GPP_PIN, 0x2200000, 0x4, 96, 0x0, 1, false,
    [⟨31, 1, .ro, 0, []⟩, ⟨26, 1, .rw, 0, []⟩, ⟨25, 1, .rw, 0, []⟩, ⟨24, 1, .ro, 0, []⟩, ⟨23, 1, .ro, 0, []⟩, ⟨21, 2, .rw, 0, []⟩, ⟨20, 1, .rw, 0, []⟩, ⟨18, 2, .rw, 1, []⟩, ⟨17, 1, .rw, 0, []⟩, ⟨16, 1, .rw, 0, []⟩, ⟨4, 7, .rw, 127, []⟩, ⟨0, 4, .rw, 0, []⟩]⟩,
  ⟨.GPP_BANK, 0x2200200, 0x4, 4, 0x0, 1, false,
    [⟨0, 3, .ro, 0, []⟩]⟩,
  ⟨.GPP_CTL, 0x2200210, 0x0, 1, 0x0, 1, false,
    [⟨0, 1, .rw, 0, []⟩]⟩,
  ⟨.GPP_STAT, 0x2200214, 0x0, 1, 0x0, 1, false,
    [⟨16, 7, .ro, 0, []⟩, ⟨2, 1, .w1c, 0, []⟩, ⟨1, 1, .w1c, 0, []⟩, ⟨0, 1, .ro, 0, []⟩]⟩,
  ⟨.GPP_CONF, 0x2200218, 0x0, 1, 0x0, 1, true,
    [⟨0, 64, .ro, 0, []⟩]⟩,
  ⟨.GPP_ADC, 0x2200300, 0x4, 20, 0x0, 1, false,
    [⟨31, 1, .ro, 0, []⟩, ⟨0, 12, .ro, 0, []⟩]⟩]

/-- Every register of the map (R27 … R500). -/
def regDefs : List RegDef :=
  regDefs0 ++ regDefs1 ++ regDefs2 ++ regDefs3 ++ regDefs4 ++ regDefs5 ++ regDefs6 ++ regDefs7 ++ regDefs8 ++ regDefs9 ++ regDefs10 ++ regDefs11 ++ regDefs12 ++ regDefs13

/-- The bytes one instance takes. -/
def RegDef.size (r : RegDef) : Nat := if r.wide then 8 else 4

/-- The instance (i, j) of a register that covers byte offset a, if one does. -/
def RegDef.locate (r : RegDef) (a : Nat) : Option (Nat × Nat) :=
  if a < r.base then none
  else
    let d := a - r.base
    let i := if r.s1 = 0 then 0 else d / r.s1
    let e := if r.s1 = 0 then d else d % r.s1
    -- a second dimension may step wider than the first (never in this map) or narrower (always)
    let j := if r.s2 = 0 then 0 else e / r.s2
    let f := if r.s2 = 0 then e else e % r.s2
    if i < r.c1 ∧ j < r.c2 ∧ f < r.size then some (i, j) else none

/-- A located register instance: the register, its indices and the BAR0 offset where the instance begins. -/
structure RegAt where
  def_ : RegDef
  i    : Nat
  j    : Nat
  addr : Nat
  deriving DecidableEq, Repr

/-- Find the register at byte offset a among the given ones. -/
def findReg (a : Nat) : List RegDef → Option RegAt
  | [] => none
  | r :: rs =>
    match r.locate a with
    | some (i, j) => some ⟨r, i, j, r.base + i * r.s1 + j * r.s2⟩
    | none => findReg a rs

/-- The register that holds byte offset a of BAR0 or of the PORT space (R37, R485). -/
def regAt (a : Nat) : Option RegAt := findReg a regDefs

/-- The field of a located register as a Fld. -/
def FieldDef.fld (f : FieldDef) (addr : Nat) : Fld := ⟨addr * 8 + f.lo, f.w, f.rst, f.rsv⟩

end Sys2Proof.Machine
end

