-- ==== Sys2Proof/Machine/State.lean ====
section
/-! DEFINITION. The machine's state as plain data: the queue of commands, one store for every register field, and what
the spec gives the device beside registers, unit by unit. Absent keys of a table stand for the unit's reset record. -/

namespace Sys2Proof.Machine

open Sys2Proof

/-- Byte memories: an unlisted byte reads 0. -/
abbrev Memory := List Host.Cell

/-- Faults. The spec ends no command in a stop, so no meaning of this model raises one. `illFormed` is kept for a
command whose operands its row could not carry; no meaning raises it (safe: nothing is claimed of it). -/
inductive Fault
  | illFormed
  deriving DecidableEq, Repr

/-- Refusals. `notModelled`: a command without a meaning (raised by Machine/Dispatch.lean alone; safe). -/
inductive Refusal
  | notModelled (mnemonic : String)
  deriving DecidableEq, Repr

/-! ## Registers of the access path (R10, R79) -/

/-- One requester's latches (R10): the high word latched at its last _LO read, and the low word it has written and
not yet committed. -/
structure Latch where
  rdHi : Nat
  wrLo : Option Nat
  ns   : Nat
  sec  : Nat
  deriving DecidableEq, Repr

/-- Latch after reset. -/
def Latch.reset : Latch :=
  { rdHi := 0, wrLo := none, ns := 0, sec := 0 }

/-! ## Host interface (spec/02_host_jobs.md) -/

/-- What leaves the device towards host memory (R34): one posted write of `len` bytes, or an MSI-X message of a
function's table entry. -/
inductive HostOut
  | write (addr len data : Nat)
  | msix  (fn entry : Nat)
  deriving DecidableEq, Repr

/-- A write on its way to the commit unit with the custody epoch it carries (R427). -/
structure HostSend where
  epoch : Option Nat
  what  : HostOut
  deriving DecidableEq, Repr

/-- An event record before it is placed in a ring (R64); ctx = none: the record carries no context. -/
structure EvRec where
  ctx    : Option Nat
  code   : Nat
  detail : Nat
  arg0   : Nat
  arg1   : Nat
  deriving DecidableEq, Repr

/-- What the device keeps for one function beside its registers: event counts (R39), the last good EVCI (R64), the
records dropped since the last EVENTS_LOST, records waiting for a fresh EVCI read, the poll count (R47), the context
last served (R48) and the descriptor fetches of the present poll (context, descriptors left). -/
structure FnSt where
  p       : Nat
  b       : Nat
  evci    : Nat
  dropped : Nat
  waiting : List EvRec
  polls   : Nat
  rr      : Nat
  fetchQ  : List (Nat × Nat)
  await   : Bool
  deriving DecidableEq, Repr

/-- FnSt after reset. -/
def FnSt.reset : FnSt :=
  { p := 0, b := 0, evci := 0, dropped := 0, waiting := [], polls := 0, rr := 0, fetchQ := [], await := false }

/-- Where a job stands between acceptance and commit. -/
inductive JobPhase
  | queued      -- accepted, its turn has not come (or is held by PAUSE)
  | dispatched  -- re-read and checked (R58), its own work not begun
  | running     -- its engines, table writes or calibration are under way
  | stopping    -- its engines have stopped; R229 is under way
  | done        -- ready to be committed
  deriving DecidableEq, Repr

/-- The capture configuration of one logical engine, sampled at dispatch (R231). -/
structure CapCfg where
  mode     : Nat
  gran     : Nat
  ovf      : Nat
  xscr     : Nat
  xb       : Nat
  yb       : Nat
  wlog     : Nat
  laneBase : Nat
  slog     : Nat
  base     : Nat
  lim      : Nat
  deriving DecidableEq, Repr

/-- What a job keeps of one of its logical engines (R228): the last slot (0x7F: never ran), and its counts. -/
structure JobEng where
  le         : Nat
  slot       : Nat
  spared     : Bool
  retired    : Nat
  fails      : Nat
  cycles     : Nat
  logged     : Nat
  dropped    : Nat
  hold       : Nat
  dropBefore : Bool
  cap        : CapCfg
  deriving DecidableEq, Repr

/-- A channel entry of the result area as it stands when the job's engines have stopped (R227). -/
structure JobCh where
  ch     : Nat
  le     : Nat
  site   : Nat
  ffv    : Nat
  sat    : Nat
  inv    : Nat
  uimask : Nat
  fcnt   : Nat
  ffcyc  : Nat
  ffx    : Nat
  ffy    : Nat
  deriving DecidableEq, Repr

/-- An accepted descriptor until its completion is committed (R56–R60). `reject`: the DETAIL of the first check of R58
that failed, 0 none; `held`: paused while queued; `aborted`: to complete ABORTED; `ctlDue`: a control descriptor
whose action has not been applied; `start`: START_TIME as it stands (REARM replaces it); `calStat`: the channels that a
CALIBRATE job has dealt with and their status codes (R195). -/
structure Job where
  seq       : Nat
  desc      : Desc
  crc       : Nat
  permitted : Bool
  phase     : JobPhase
  reject    : Nat
  held      : Bool
  aborted   : Bool
  paused    : Bool
  ctlDue    : Bool
  start     : Nat
  status    : Option Nat
  detail    : Nat
  flags     : Nat
  cycles    : Nat
  fails     : Nat
  engs      : List JobEng
  chans     : List JobCh
  caps      : List Nat
  portUsed  : Bool
  redisp    : Nat
  restart   : Bool
  calStat   : List (Nat × Nat)
  deriving DecidableEq, Repr

/-- Reconciliation in progress: the ledger was rebuilt, the last sequence number it covers, the jobs it re-runs. -/
structure Recon where
  rebuilt : Bool
  upTo    : Nat
  rerun   : Nat
  deriving DecidableEq, Repr

/-- What the device keeps for one job context beside its registers: the doorbell's PI (R45), the descriptors fetched and
checked but not yet accepted, the accepted and unfinished jobs in sequence order, consecutive SEQ mismatches (R57),
the ledger generation (R65), a reconciliation in progress (R71), and the sequence numbers of accepted control descriptors,
completed ones included (R60). -/
structure CtxSt where
  pi     : Nat
  batch  : List Job
  jobs   : List Job
  mism   : Nat
  lgen   : Nat
  await  : Bool
  recon  : Option Recon
  ctls   : List Nat
  deriving DecidableEq, Repr

/-- CtxSt after reset. -/
def CtxSt.reset : CtxSt :=
  { pi := 0, batch := [], jobs := [], mism := 0, lgen := 0, await := false, recon := none, ctls := [] }

/-! ## Clocks and control hierarchy (spec/01_architecture.md) -/

/-- The ECLK PLL of one half beside its registers: the frequency word it runs from, an APPLY waiting for its moment,
ECLK gated off until relock, stopped by a loss of REFCLK (R30), and how often the modulator was re-seeded (R29). -/
structure ClkHalf where
  fw      : Nat
  sec     : Nat
  waiting : Bool
  gated   : Bool
  stopped : Bool
  seeds   : Nat
  deriving DecidableEq, Repr

/-- ClkHalf after reset. -/
def ClkHalf.reset : ClkHalf :=
  { fw := 5497558138880, sec := 0, waiting := false, gated := false, stopped := false, seeds := 0 }

/-- A control action that waits at a block agent (R21). -/
structure CtlAction where
  kind : CtlKind
  from_ : CtlFrom
  deriving DecidableEq, Repr

/-! ## Pattern engines (spec/03_sequencer.md to 05_speculation.md) -/

/-- Why the entry in D does not leave it. -/
inductive Wait
  | none
  | cond        -- a condition or MWAIT that waits for compare results (R97)
  | heldBr      -- a BR held under R154 or R149 until its own window is usable
  | provHold    -- an entry that may not run provisionally (R153)
  | waitt (k : Nat)
  | sync
  | lock        -- an acquire is in flight (R93)
  | lockRetry   -- between attempts
  | miss        -- sequence-cache miss (R82)
  | data        -- data wait for a TABLE, STREAM or FABRIC word (R126)
  | sump        -- R157
  | failBuf     -- R220
  | saveRes     -- SAVE or RESTORE in progress (R109)
  | halt        -- a taken HALT drains (R91)
  deriving DecidableEq, Repr

/-- A failing or capturing result of one channel for one vector. -/
structure ChFail where
  ch   : Nat
  mask : Nat
  site : Nat
  inv  : Bool
  deriving DecidableEq, Repr

/-- A vector that has been issued and still matters: its vector cycle (R210) and the clock of the cycle in which its entry was
in D, the address of its entry, the state it carries (R115), its
data word, the words taken from paced ports, its match window, the speculated branch it depends on, the channels whose
results have not returned, the match-set results that have (site, failed), whether it has been counted as failing
(R211), its reservations in sumps (bays) and fail buffers (bay, site or channel), and its failing results whose group (bay and
site, or bay in the sump) is not complete. -/
structure Vec where
  cyc   : Nat
  clk   : Nat
  pc    : Nat
  entry : Entry
  x     : Nat
  y     : Nat
  xs    : Nat
  d     : Nat
  ports : List (Nat × Nat)
  win   : Nat
  tag   : Option Nat
  wait  : List Nat
  res   : List (Nat × Bool)
  failed : Bool
  sump  : List Nat
  fres  : List (Nat × Nat)
  fails : List ChFail
  deriving DecidableEq, Repr

/-- A failing result held in a sump, by bay and vector (R156); conf: its branch is confirmed; prov: it was provisional when it
returned (otherwise it is counted already). -/
structure SumpRec where
  bay   : Nat
  cyc   : Nat
  clk   : Nat
  pc    : Nat
  x     : Nat
  y     : Nat
  xs    : Nat
  tag   : Nat
  conf  : Bool
  prov  : Bool
  fails : List ChFail
  deriving DecidableEq, Repr

/-- X, Y, LFSR of one gang member at a checkpoint. -/
structure Xyl where
  slot : Nat
  x    : Nat
  y    : Nat
  lfsr : Nat
  deriving DecidableEq, Repr

/-- A checkpoint of the live state (R150). -/
structure Chk where
  gens : List Xyl
  cnt  : Table Nat
  stk  : List Nat
  dsc  : Nat
  dst  : Nat
  repc : Nat
  last : Nat             -- the last vector of the window opened by the branch
  deriving DecidableEq, Repr

/-- An outstanding speculated BR (isBr) or an MWAIT that speculation has not held (R147), in the order of entry into D. -/
structure Branch where
  isBr   : Bool
  tag    : Nat
  pc     : Nat
  scnd   : Nat
  win    : Nat
  last   : Nat
  taken  : Bool          -- the predicted direction
  loopIsTaken : Bool     -- the loop direction of R158
  other  : Nat           -- where the program continues if the prediction is wrong
  dep    : Bool          -- it entered D on a provisional path
  chk    : Option Chk
  after  : Nat           -- the window it opened
  effect : Bool          -- an empty window's effect on retirement waits for the older branches (R148)
  deriving DecidableEq, Repr

/-- What D sends towards S in one cycle (R84, R98): the clock, the vector (none: a pause vector), and the SNAP trigger that its
entry raises as it leaves S. -/
structure Sent where
  clk  : Nat
  vec  : Option Vec
  snap : Bool
  deriving DecidableEq, Repr

/-- What a debug session keeps of the handler or program that it interrupts (R105, R475, R476). -/
structure Nest where
  ira    : Nat
  held   : Bool
  iretDs : Nat
  restored : Bool
  saved  : Bool
  deriving DecidableEq, Repr

/-- A loop-count predictor entry (R158). -/
structure Pred where
  v     : Bool
  tag   : Nat
  count : Nat
  run   : Nat
  deriving DecidableEq, Repr

/-- Pred after reset. -/
def Pred.reset : Pred :=
  { v := false, tag := 0, count := 0, run := 0 }

/-- One physical engine slot. State that a gang shares (program flow, counters, stack, windows, branches) stands in the
leader's record; X, Y, LFSR, vectors and sump are each member's own. ENG_STAT, ENG_CYC and the other registers of the
slot are in the register store. `clock` counts the cycles of ECLK from the slot's first job on; winLast, lastCyc and a
branch's `last` are in it. -/
structure Engine where
  ctx     : Option Nat
  leader  : Nat
  x       : Nat
  y       : Nat
  lfsr    : Nat
  cnt     : Table Nat
  stk     : List Nat
  dsc     : Nat
  dst     : Nat
  repc    : Nat
  ira     : Nat
  held    : Bool          -- DSC, DST and REPC are held (R105)
  iretDs  : Nat           -- delay slots of an IRET still to run
  restored : Bool         -- between a RESTORE and its IRET (R110)
  saved   : Bool          -- the handler has executed SAVE (R107)
  sticky  : Bool
  clrf    : Nat           -- fails of vectors before this cycle no longer set FAIL_STICKY (R94)
  lockOk  : Bool
  sem     : Option Nat    -- the semaphore it holds
  win     : Nat
  winNext : Nat
  winOuter : List Nat     -- windows interrupted by a handler or the monitor (R96)
  winLast : Table Nat     -- per window: 1 + clock of its last vector, 0 empty
  lastCyc : Nat           -- 1 + clock of the last vector issued
  clock   : Nat
  pipe    : List Sent     -- what D has sent and S has not, the oldest first (R98)
  lastPc  : Nat           -- the address of the last entry that was in D
  npc     : Option Nat    -- the entry with which a PAUSED engine goes on
  vecs    : List Vec
  brs     : List Branch
  tagNext : Nat
  sump    : List SumpRec
  pred    : Table Pred
  cache   : Table Nat     -- sequence-cache lines: 1 + address bits [16:11]
  tcache  : Table Nat     -- table-cache lines: 1 + line address div 128
  tbad    : List Nat      -- words in the table cache that could not be read (R125), by word address
  sbuf    : List (Nat × Nat)  -- stream buffer: byte address, word
  sread   : List Nat      -- the addresses of the last two stream reads, the newest first (R124)
  wait    : Wait
  lc      : Nat
  spec    : Bool
  monly   : Nat
  pollRet : Bool
  retLim  : Nat
  runs    : Table Nat     -- failure run per site (R161)
  wdog    : Nat           -- what is left of the period, in 2^-32 ns (R111)
  wdogP   : Nat           -- its full period; 0: disabled
  halted  : Bool
  stopped : Bool          -- stopped for good in this job (HALT, ABORT, fault)
  startAt : Bool          -- starts at START_TIME rather than at once
  late    : Bool          -- START_TIME had passed
  dbgReq  : Bool          -- a debug request is pending (R475)
  dbgEntry : Nat          -- its ENTRY code
  dbgStep : Nat           -- entries still to run before the step request (R476)
  dbgForce : Bool
  dbgAlign : Bool
  dbgHeld : Option Nat    -- a RESUME (0) or STEP held during a failover (R518)
  pauseReq : Bool         -- a PAUSE descriptor waits for the outstanding branches (R164)
  resume  : Nat           -- the STATE to which a paused engine returns (R60)
  monBack : Nat           -- the STATE to which the monitor returns (R476)
  svc     : Bool          -- the monitor runs a handler (R477)
  spared  : Bool          -- a substitution has put this slot in place of a fenced one (R63)
  wasLe   : Nat           -- 1 + the logical engine whose tables the slot still holds, having lost it (R75); 0 none
  irqTaken : Nat          -- the causes taken by the running handler, by bit (R104)
  irqAgain : Nat          -- those of them raised again since, by bit (R104)
  nest    : Option Nest   -- what the monitor has interrupted
  thenOpen : Table Nat    -- open THEN windows per comparator pair: 1 + last cycle (R479)
  deriving DecidableEq, Repr

/-- Engine after reset. -/
def Engine.reset : Engine :=
  { ctx := none, leader := 0, x := 0, y := 0, lfsr := 0, cnt := [], stk := [], dsc := 0, dst := 0, repc := 0,
    ira := 0, held := false, iretDs := 0, restored := false, saved := false, sticky := false, clrf := 0,
    lockOk := false, sem := none, win := 1, winNext := 2, winOuter := [], winLast := [], lastCyc := 0, clock := 0,
    pipe := [], lastPc := 0, npc := none, vecs := [], brs := [], tagNext := 0, sump := [], pred := [], cache := [],
    tcache := [], tbad := [], sbuf := [], sread := [], wait := .none, lc := 0, spec := false, monly := 0,
    pollRet := false, retLim := 0, runs := [], wdog := 0, wdogP := 0, halted := false, stopped := false,
    startAt := false, late := false, dbgReq := false, dbgEntry := 0, dbgStep := 0, dbgForce := false,
    dbgAlign := false, dbgHeld := none, pauseReq := false, resume := 0, monBack := 0, svc := false,
    spared := false, wasLe := 0, irqTaken := 0, irqAgain := 0, nest := none, thenOpen := [] }

/-! ## Fail processors and coalescing caches (spec/07_compare_fail.md) -/

/-- An entry of a bay's fail buffer (R213): a fail entry, or a capture record (isCap, R212). -/
structure FailEnt where
  ctx   : Nat
  le    : Nat
  slot  : Nat
  isCap : Bool
  site  : Nat
  chs   : List (Nat × Nat)   -- channel, FAIL mask (or the 256-bit capture record of the channel)
  x     : Nat
  y     : Nat
  xs    : Nat
  pc    : Nat
  cyc   : Nat
  prov  : Bool
  deriving DecidableEq, Repr

/-- A word in a bay's fail stream buffer: its kind (0 RECORD, 1 CONFIRM, 2 SQUASH, 3 MARK) and 128 bits (R224). -/
structure StreamWord where
  kind : Nat
  word : Nat
  deriving DecidableEq, Repr

/-- What a bay keeps beside its registers: the fail buffer, the entries in the queue to the cache, the stream buffer, the
stream tokens reserved (slot, tag), and the RECORD and MARK words dropped since the last DROP (count, any PROV). -/
structure BaySt where
  buf      : List FailEnt
  queue    : List FailEnt
  stream   : List StreamWord
  ffq      : List StreamWord -- words in the queue of 32 towards the fabric (R25, R223)
  tokens   : List (Nat × Nat)
  dropped  : Nat
  dropProv : Bool
  ffsPend  : Option Nat      -- a write of FPU_FFS_CTL_b that waits for an empty stream buffer (R232)
  deliv    : List (Nat × Nat)  -- PROV records that the fabric has taken, unresolved: logical engine, tag (R165)
  down     : Bool            -- the fabric end of the stream is fenced (R225)
  back     : Bool            -- the stream returns: its first word is a DROP mark (R225)
  deriving DecidableEq, Repr

/-- BaySt after reset. -/
def BaySt.reset : BaySt :=
  { buf := [], queue := [], stream := [], ffq := [], tokens := [], dropped := 0, dropProv := false,
    ffsPend := none, deliv := [], down := false, back := false }

/-- A line of a half's coalescing cache (R218): DRAM line address, bitmap or log, 512 data bits, byte mask, contexts, and
whether its write-back waits for the acknowledgement. -/
structure FccLine where
  addr : Nat
  isLog : Bool
  data : Nat
  mask : Nat
  ctxs : Nat
  wb   : Bool
  deriving DecidableEq, Repr

/-! ## Channels (spec/06_channel_timing.md) -/

/-- A scheduled event on a pair of a channel (R177, R178): time in units of 2^-43 ps × FW (see Machine/Channel.lean), the
cycle and edge number that placed it, the pair (0 D, 1 E) and the level. -/
structure ChEvent where
  time  : Nat
  cyc   : Nat
  edge  : Nat
  pair  : Nat
  level : Bool
  deriving DecidableEq, Repr

/-- A calibration record (R201): BASE_p and TC_p (16-bit patterns) for p = 0…3, SENS, TCAL (12-bit pattern) and the
applied offsets. -/
structure CalRec where
  base : List Nat
  tc   : List Nat
  sens : Nat
  tcal : Nat
  ofs  : List Nat
  deriving DecidableEq, Repr

/-- A burst of a strobe group (R189): the cycle, at S, of its first compare, its cycles so far, its members' compares (channel,
cycle), and whether a deadline of R190 has closed it. -/
structure Burst where
  first : Nat
  len   : Nat
  cmps  : List (Nat × Nat)
  shut  : Bool
  deriving DecidableEq, Repr

/-- A strobe group beside its registers: its bursts, the oldest first, the edges of its strobe that have arrived (instant,
rising) and how many of them R190 has counted as extra. -/
structure SsgSt where
  bursts : List Burst
  edges  : List (Nat × Bool)
  extra  : Nat
  deriving DecidableEq, Repr

/-- SsgSt after reset. -/
def SsgSt.reset : SsgSt :=
  { bursts := [], edges := [], extra := 0 }

/-- What a channel keeps beside its registers: the role it takes, the logic levels of D and E before the events that are
scheduled, a run of PAUSE cycles (R171), the scheduled events, and its last sampled level (R436). -/
structure ChanSt where
  role   : Nat
  dLevel : Bool
  eLevel : Bool
  paused : Bool
  events : List ChEvent
  last   : Nat
  deriving DecidableEq, Repr

/-- ChanSt after reset. -/
def ChanSt.reset : ChanSt :=
  { role := 0, dLevel := false, eLevel := false, paused := false, events := [], last := 0 }

/-! ## Bank memory (spec/09_bank_memory.md) -/

/-- An access to bank memory (R261) by one of the masters of R260 (0 host, 1 fabric, 2 supervisor, 3 Pruner, 4 engine, 5 another
interface): half address, bytes, a write's data, and the name under which its master awaits the answer; `join`: the split access of
which it is a piece, or 0. -/
structure BankAcc where
  by_  : Nat
  id   : Nat
  addr : Nat
  len  : Nat
  wr   : Option Nat
  coh  : Nat            -- 0 uncached, 1 read for S, 2 read for M, 3 write-back
  ecc  : Ecc            -- what the check bits show when it is performed
  join : Nat
  deriving DecidableEq, Repr

/-- A held write to BNK_PWR (R273), a bank's transition target, and Coppice of one half. -/
structure BankHalf where
  target   : Table Nat      -- bank → 1 + state it moves to
  heldPwr  : Table Nat      -- bank → 1 + state written during its loan
  next     : Nat            -- next bank to test
  stopped  : Bool
  writeback : List (Nat × Nat)  -- corrected words waiting for the service port: address, word
  waits    : List BankAcc   -- accesses that wait for a bank to become ON (R264)
  deriving DecidableEq, Repr

/-- BankHalf after reset. -/
def BankHalf.reset : BankHalf :=
  { target := [], heldPwr := [], next := 0, stopped := false, writeback := [], waits := [] }

/-! ## Availability (spec/15_availability.md) -/

/-- A supervisor beside its registers: booted, its own custody epoch, whether it claims the lantern, the consecutive
periods with both misses, echo and sideband sequence, an ADVANCE to be retried, reconciliation due. -/
structure SupSt where
  booted  : Bool
  epoch   : Nat
  claims  : Bool
  silent  : Nat
  seq     : Nat
  wire    : Bool
  retry   : Bool
  recon   : Bool
  echoOff : Nat         -- consecutive periods without an echo message
  wireOff : Nat         -- consecutive periods without a toggle
  deriving DecidableEq, Repr

/-- SupSt after reset. -/
def SupSt.reset : SupSt :=
  { booted := false, epoch := 0, claims := false, silent := 0, seq := 0, wire := false, retry := false,
    recon := false, echoOff := 0, wireOff := 0 }

/-- A spare substitution in progress (R423): the fenced slot, its logical engine, the context of the job it held. -/
structure Subst where
  slot : Nat
  le   : Nat
  ctx  : Option Nat
  spare : Nat
  moved : Bool
  deriving DecidableEq, Repr

/-- The snapshot machinery beside its registers: a raise on its way (tick counter, sources), the tick of the last raise,
the generation's latched records (record number → 1,024 bits). -/
structure SnapSt where
  due     : Bool
  srcs    : Nat
  ns      : Nat
  sec     : Nat
  lastTick : Option Nat
  outHigh : Bool
  records : Table Nat
  deriving DecidableEq, Repr

/-- SnapSt after reset. -/
def SnapSt.reset : SnapSt :=
  { due := false, srcs := 0, ns := 0, sec := 0, lastTick := none, outHigh := false, records := [] }

/-! ## LPDDR5X (spec/08_dram.md) -/

/-- A request in a controller (R241, R244). kind: 0 read, 1 write, 2 read-OR-write; line: half address of the line; mask: the
bytes asked for or written; data: 512 bits (for a read, what the line holds for it by R242); jobs: the jobs whose fails a
coalescing-cache line carried, as context and sequence number; id: the network's name for a read; win: for a read of the DRAM
window, the requester's number, the first byte in the line and the bytes; bad: the line is poisoned for this read; since: a
write of the line has entered after this read (R239). -/
structure DramOp where
  kind  : Nat
  line  : Nat
  mask  : Nat
  data  : Nat
  jobs  : List (Nat × Nat)
  id    : Nat
  win   : Option (Nat × Nat × Nat)
  bad   : Bool
  since : Bool
  deriving DecidableEq, Repr

/-- A controller beside its registers: the requests in the order they entered, the reads issued to DRAM, the requests that wait
at the controller for room or for an exit, serving writes (R243), how many of the oldest writes are still to drain before a switch
or an entry (R243), a retraining pass (steps left), a step running, a set-point switch running, to follow a deferral or the next
exit from self-refresh, its target, an entry running, an exit running, an exit that waits for an entry or a loss of REFCLK to
end, SR entry requested, writes held while MCK is gated (R254: offset, value), and whether a loss of REFCLK holds the interface in
self-refresh (R253). -/
structure DmcSt where
  q        : List DramOp
  issued   : List DramOp
  held     : List DramOp
  drain    : Nat
  writing  : Bool
  stepsLeft : Nat
  inStep   : Bool
  switching : Bool
  deferred : Bool
  target   : Nat
  srAfter  : Bool
  entering : Bool
  wake     : Bool
  exiting  : Bool
  enterReq : Bool
  heldWr   : List (Nat × Nat)
  refHold  : Bool
  noSet    : Bool           -- no working setting was found, its removal is due (R250)
  refresh  : Table Nat      -- banks under refresh (1) by rank × 16 + bank
  deriving DecidableEq, Repr

/-- DmcSt after reset. -/
def DmcSt.reset : DmcSt :=
  { q := [], issued := [], held := [], drain := 0, writing := false, stepsLeft := 0, inStep := false,
    switching := false, deferred := false, target := 0, srAfter := false, entering := false, wake := false,
    exiting := false, enterReq := false, heldWr := [], refHold := false, noSet := false, refresh := [] }

/-! ## Time and trace (spec/14_time.md, spec/17_debug.md) -/

/-- The time-of-day counter of a half (R385): fraction in 2^-32 ns, nanoseconds, seconds, and the increment it adds at each
TCLK tick (R388, 2^-32 ns). -/
structure Tb where
  frac : Nat
  ns   : Nat
  sec  : Nat
  inc  : Nat
  deriving DecidableEq, Repr

/-- Tb after reset. -/
def Tb.reset : Tb :=
  { frac := 0, ns := 0, sec := 0, inc := 8589934592 }

/-- A trace unit beside its registers: the packet sequence number, packets written since CLR, packets lost and not yet
reported, and the FIFO of packets for the Hjelz port (R482–R484). -/
structure TraceSt where
  seq   : Nat
  total : Nat
  lost  : Nat
  fifo  : List Nat
  deriving DecidableEq, Repr

/-- TraceSt after reset. -/
def TraceSt.reset : TraceSt :=
  { seq := 0, total := 0, lost := 0, fifo := [] }

/-- A change of the device time that both halves apply at one common tick (R387): a step in 1/16 ns, a step to the
nearest multiple of 10 ns, a new INC, or the STATE and mode after a change of MODE. -/
inductive TimeChange
  | step (d : Int)
  | grid
  | inc (v : Nat)
  | mode (m : Nat)
  deriving DecidableEq, Repr

/-- The start comparator of one context in one half (R406). -/
structure StartCmp where
  half  : Nat
  ctx   : Nat
  sec   : Nat
  ns    : Nat
  fired : Bool
  deriving DecidableEq, Repr

/-- An entry of a transmit-timestamp queue (R400): its launch slot, or none for a PTP message, and the time stamped
(seconds, nanoseconds, sixteenths). -/
structure Stamp where
  slot : Option Nat
  sec  : Nat
  ns   : Nat
  frac : Nat
  deriving DecidableEq, Repr

/-- A frame that a trunk port has sent: port, length, contents. -/
structure Frame where
  port : Nat
  len  : Nat
  data : Nat
  deriving DecidableEq, Repr

/-- The device's timekeeping beside its registers (R386–R408): the mode in force, the servo's integral, how far an
acquisition has gone (0 the first offset is awaited, 1 the second) and whether it followed a holdover, the tick of the last
offset, a pairing sample that waits (R14), changes on their way to their common tick, a deferred grid step (in 10 ns), REFCLK lost, INC on the internal
oscillator, the last SEQ accepted per TYPE (1 + SEQ), HALT and SYNC action times to come, start comparators armed, trigger
firings that have not reached the engines and firings that have (bits of a half), triggers that have fired for good, triggers armed with their
target passed, levels of TRIG_OUT (half × 8 + k) and PPS_OUT, TRIG_IN levels are pins of spec/18; launches due (port, slot),
the timestamp queues, the launch buffers (port × 0x2000 + slot × 0x800 + byte) and the frames sent. -/
structure TimeSt where
  mode    : Nat
  integ   : Int
  acq     : Nat
  left    : Bool
  oTick   : Nat
  pairDue : Option Int
  changes : List TimeChange
  defer   : Option Int
  refLost : Bool
  oscInc  : Nat
  evfSeq  : Table Nat
  halts   : List (Nat × Nat)
  syncs   : List (Nat × Nat)
  starts  : List StartCmp
  due     : Table Nat
  reached : Table Nat
  spent   : Table Bool
  lateArm : Table Bool
  trigOut : Table Bool
  pps     : Bool
  launch  : List (Nat × Nat)
  tsq     : Table (List Stamp)
  bufs    : Memory
  sent    : List Frame
  deriving DecidableEq, Repr

/-- TimeSt after reset. -/
def TimeSt.reset : TimeSt :=
  { mode := 0, integ := 0, acq := 0, left := false, oTick := 0, pairDue := none, changes := [], defer := none,
    refLost := false, oscInc := 8589934592, evfSeq := [], halts := [], syncs := [], starts := [], due := [],
    reached := [], spent := [], lateArm := [], trigOut := [], pps := false, launch := [], tsq := [], bufs := [],
    sent := [] }
/-! ## On-chip network and coherence (spec/13_noc.md, spec/09_bank_memory.md) -/

/-- A packet (R369): its header fields and the data of its flits, 64 bytes of the line that holds ADDR. `size` counts bytes. -/
structure Pkt where
  opc   : Nat
  src   : Nat
  dest  : Nat
  tag   : Nat
  size  : Nat
  attr  : Nat
  route : Nat
  addr  : Nat
  data  : Nat
  deriving DecidableEq, Repr

/-- A packet on a ring: the half and the stop at which its HOPS reach 0, and what remains of its route. -/
structure Flight where
  pkt  : Pkt
  half : Nat
  stop : Nat
  xb   : Bool
  mgmt : Bool
  deriving DecidableEq, Repr

/-- A network interface beside its registers: its transmit and receive queues, the requests outstanding under their TAGs, the
writes to which it has sent a GRANT, the responses handed to its block, the mode of a fence under way, who fenced it, and
destinations whose new route waits for the old requests (R375), and the TAGs whose requests a fence cut off; `broken`: a fault
holds the endpoint fenced until software enables it anew (R521). -/
structure NiSt where
  txq    : List Pkt
  rxq    : List Pkt
  outst  : List Pkt
  grants : List Pkt
  got    : List Pkt
  fault  : Bool
  fencer : Option CtlFrom
  broken : Bool
  stale  : List Nat
  cut    : List Nat
  deriving DecidableEq, Repr

/-- NiSt after reset. -/
def NiSt.reset : NiSt :=
  { txq := [], rxq := [], outst := [], grants := [], got := [], fault := false, fencer := none, broken := false,
    stale := [], cut := [] }

/-- A request that a bank home holds while agents answer snoops (R265): its half, and the lines and agents still to answer. -/
structure HomeReq where
  half : Nat
  acc  : BankAcc
  wait : List (Nat × Nat)
  deriving DecidableEq, Repr

/-- An access of bank memory that its requester's interface has split into pieces (R261): its number, the access, the pieces that are
still out, the first error, the data read so far. -/
structure BankJoin where
  no     : Nat
  half   : Nat
  acc    : BankAcc
  left   : Nat
  reason : Nat
  data   : Nat
  deriving DecidableEq, Repr

/-- A fabric write to the result area of an uncommitted job, held for PROV records (R165): endpoint, TAG, where it goes, the
(logical engine, tag) pairs still unresolved, and whether one was squashed. Of a write that goes through the network, `via` is the
interface of its target (otherwise 0), `at_` the address of its packet, or_ marks a read-OR-write, and `here` says that its data has
arrived. -/
structure FabWr where
  ep       : Nat
  tag      : Nat
  dev      : Bool
  addr     : Nat
  len      : Nat
  data     : Nat
  waits    : List (Nat × Nat)
  squashed : Bool
  via      : Nat
  at_      : Nat
  or_      : Bool
  here     : Bool
  deriving DecidableEq, Repr

/-! ## Fabric (spec/10_fabric_logic.md, spec/11_fabric_memory_arith.md) -/

/-- A block memory's registers (R313, R318, R319): output latches and pipeline registers of DO_A and DO_B, the ECC flags that
go with them, COLLIDE. The array and its INIT stand in State.bramX and State.bramInit. -/
structure BramSt where
  latA : Nat
  latB : Nat
  pipA : Nat
  pipB : Nat
  fixL : Bool
  badL : Bool
  fixP : Bool
  badP : Bool
  coll : Bool
  deriving DecidableEq, Repr

/-- BramSt after reset. -/
def BramSt.reset : BramSt :=
  { latA := 0, latB := 0, pipA := 0, pipB := 0, fixL := false, badL := false, fixP := false, badP := false,
    coll := false }

/-- An arithmetic slice's registers (R322–R325): ACC, registered operands, the output register, OVF, the saturation hold. -/
structure SliceSt where
  acc  : Nat
  ra   : Nat
  rb   : Nat
  rc   : Nat
  outr : Nat
  ovf  : Bool
  hold : Bool
  deriving DecidableEq, Repr

/-- SliceSt after reset. -/
def SliceSt.reset : SliceSt :=
  { acc := 0, ra := 0, rb := 0, rc := 0, outr := 0, ovf := false, hold := false }

/-- An I/O cell's registers (R296, R298): output and tri-state registers of both edges, the input registers, the I_R sample
that waits for its I_F. The flip-flops are kept as their difference from INIT, so that all false is the state under GHOLD. -/
structure IoSt where
  oR : Bool
  oF : Bool
  tR : Bool
  tF : Bool
  iR : Bool
  iF : Bool
  sR : Bool
  sF : Bool
  high : Bool            -- the half of the clock period the pad shows: after a rising edge
  deriving DecidableEq, Repr

/-- IoSt after reset. -/
def IoSt.reset : IoSt :=
  { oR := false, oF := false, tR := false, tF := false, iR := false, iF := false, sR := false, sF := false,
    high := false }

/-! ## Configuration (spec/12_configuration.md) -/

/-- The configuration controller (R343–R355): a load in progress: KIND 1 FULL, 2 PARTIAL (0: the header has not been checked); the
source (1 flash primary, 2 flash golden, 3 host); at boot; in service; the bytes received, those consumed, segments written; the
frames written; GPP pairs held for start-up; checks 1 to 6 have passed; the last ring entry was LAST. After it: GPP pairs and
DONE's qualification, start-up is due. A golden image is loaded because the primary failed. -/
structure LoadSt where
  active    : Bool
  kind      : Nat
  source    : Nat
  boot      : Bool
  service   : Bool
  buf       : Img
  pos       : Nat
  segs      : Nat
  frames    : List Nat
  gpp       : List (Nat × Nat)
  checked   : Bool
  last      : Bool
  due       : Bool
  qualified : Bool
  fell      : Bool
  deriving DecidableEq, Repr

/-- LoadSt after reset. -/
def LoadSt.reset : LoadSt :=
  { active := false, kind := 0, source := 0, boot := false, service := false, buf := ⟨0, 0, false⟩, pos := 0,
    segs := 0, frames := [], gpp := [], checked := false, last := false, due := false, qualified := false,
    fell := false }

/-- A clock generator's setting in force (R291, R292): the words of CFG and DIV that its last APPLY loaded; its outputs are low
until it relocks. -/
structure FcgSt where
  cfg : Nat
  div : Nat
  low : Bool
  deriving DecidableEq, Repr

/-- FcgSt after reset. -/
def FcgSt.reset : FcgSt :=
  { cfg := 394240, div := 0, low := false }


/-- The edge of regional lines under way: the lines (region × 16 + line, rising) and what the fabric's registers held before it; the
sites that have acted on it. -/
structure EdgeSt where
  lines  : List (Nat × Bool)
  ffX    : Table Bool
  brams  : Table BramSt
  slices : Table SliceSt
  ios    : Table IoSt
  ghWait : Table Nat
  done   : List Nat
  deriving DecidableEq, Repr

/-- EdgeSt after reset. -/
def EdgeSt.reset : EdgeSt :=
  { lines := [], ffX := [], brams := [], slices := [], ios := [], ghWait := [], done := [] }

/-- A general-purpose pin beside GPP_PIN (R494, R495): the level its hold latch keeps (none: not driven), why the latch is engaged
(bit 0 GPP_CTL.HOLD, 1 D3hot, 2 a load, 3 a switch), a held write of the register. -/
structure PinSt where
  level  : Option Bool
  causes : Nat
  next   : Option Nat
  deriving DecidableEq, Repr

/-- PinSt after reset. -/
def PinSt.reset : PinSt :=
  { level := none, causes := 0, next := none }

/-! ## Start-up and security (spec/16_startup_security.md) -/

/-- A report under way (R458): the nonce and the time of the request. -/
structure AttSt where
  nonce : Nat
  sec   : Nat
  ns    : Nat
  deriving DecidableEq, Repr

/-- The boot ROM beside GLB_BOOT_STAT (R446–R450): the image under verification, the golden one still to try, East's copy is
being verified, its failures, the flash gave no firmware, SVN_FLOOR of the firmware that runs until service begins (R449). -/
structure BootSt where
  img      : Img
  golden   : Option Img
  east     : Bool
  tries    : Nat
  flashBad : Bool
  hashW    : Nat
  hashE    : Nat
  svnFloor : Nat
  deriving DecidableEq, Repr

/-- BootSt after reset. -/
def BootSt.reset : BootSt :=
  { img := ⟨0, 0, false⟩, golden := none, east := false, tries := 0, flashBad := false, hashW := 0, hashE := 0,
    svnFloor := 0 }


/-! ## Hjelz port (spec/17_debug.md) -/

/-- The port beside its registers (R465–R473): a WRITE whose data is awaited (space, address, words); the nonce with the tick of its
challenge while it is unused; the challenge under verification; KEY and SIG by PORT offset; consecutive failures, the tick until
which CHALLENGE is refused; the words of the last answer, its status (R469), and none while it stays silent; the word whose access has not completed, with
the write (space, address, value) it is. -/
structure HjSt where
  write   : Option (Nat × Nat × Nat)
  nonce   : Nat
  fresh   : Option Nat
  check   : Option Nat
  buf     : Memory
  fails   : Nat
  backoff : Nat
  answer  : List Nat
  status  : Option Nat
  busy    : Option (Nat × Option (Nat × Nat × Nat))
  deriving DecidableEq, Repr

/-- HjSt after reset. -/
def HjSt.reset : HjSt :=
  { write := none, nonce := 0, fresh := none, check := none, buf := [], fails := 0, backoff := 0, answer := [],
    status := none, busy := none }


/-! ## The machine -/

/-- The state of the block. -/
structure State where
  /-- Commands that wait, first in, first out. -/
  pending : List Instr
  /-- The device is in POR (R443): its reset is not yet released. -/
  por : Bool
  /-- TCLK ticks since the reset was raised (R387, R435). -/
  ticks : Nat
  /-- THE MODEL'S OWN: how many free values have been taken (log entry 4). -/
  fresh : Nat
  /-- Every register field, by its bit address; an unlisted field holds its reset value. -/
  regs : Table Nat
  /-- The requesters' latches of 64-bit pairs (R10), by requester. -/
  latches : Table Latch
  /-- Table-window words that are held for a requester (R79, R187, R200), by requester and word. -/
  holds : Table (Option Nat)
  /-- The answer a requester's last read received, by requester. -/
  bus : Table Nat
  /-- Writes and MSI-X messages that have left for host memory, in order (R34). -/
  out : List HostOut
  /-- Writes held while the link is down (R69). -/
  heldOut : List HostSend
  /-- Functions 0 to 32. -/
  fns : Table FnSt
  /-- Job contexts 0 to 63. -/
  ctxs : Table CtxSt
  /-- ECLK PLL of half h. -/
  clks : Table ClkHalf
  /-- Control actions received and not executed, by unit number (R21). -/
  agents : Table (List CtlAction)
  /-- Actions reported to their issuers as cancelled by fence: unit, action (R21). -/
  reports : List (Nat × CtlAction)
  /-- Engine slots 0 to 103. -/
  engs : Table Engine
  /-- Fail processors of bays 0 to 7. -/
  bays : Table BaySt
  /-- Lines of the coalescing cache of half h, oldest first. -/
  fcc : Table (List FccLine)
  /-- Channels 0 to 255. -/
  chans : Table ChanSt
  /-- Strobe groups: bay × 4 + group (R189). -/
  ssgs : Table SsgSt
  /-- Sequence memory: half × 0x2_0000 + entry. -/
  seqMem : Table Entry
  /-- Entries marked unreadable (R81). -/
  seqUnread : Table Bool
  /-- Entries of East that the copy of R78 has reached. -/
  seqPos : Nat
  /-- Pin function sets: slot × 256 + byte (R131). -/
  fsets : Memory
  /-- Lane maps: slot × 1,024 + byte (R131). -/
  lmaps : Memory
  /-- Scramble words: slot × 4,096 + i; none: T[i] = i (R119). -/
  scr : Table (Option Nat)
  /-- Timing sets: channel × 2,048 + byte (R187). -/
  tsets : Memory
  /-- Calibration records of channels 0 to 255 (R201); none: the factory record (R196). -/
  calRecs : Table (Option CalRec)
  /-- Fabric-vector-port queues: half × 8 + port. -/
  ports : Table (List Nat)
  /-- Bank memory of both halves (R257). -/
  bankMem : Memory
  /-- Bank power and Coppice of half h. -/
  banks : Table BankHalf
  /-- LPDDR5X contents by half address: half × 2^40 + byte. -/
  dram : Memory
  /-- Poisoned lines (R239). -/
  poison : Table Bool
  /-- Half h has run folded since its start, so that the moved lines read zero (R246, R453). -/
  startFold : Table Bool
  /-- The reserved area of half h is not yet restored after a fold (R237). -/
  restoring : Table Bool
  /-- DRAM controllers 0 to 7. -/
  dmcs : Table DmcSt
  /-- Timebase of half h. -/
  tb : Table Tb
  /-- Trace unit of half h. -/
  trcs : Table TraceSt
  /-- Supervisor of half h. -/
  sups : Table SupSt
  /-- VCC_CH is valid (R170, R503). -/
  vccCh : Bool
  /-- Service has been reached with DONE high, so that channels may drive (R170). -/
  drives : Bool
  /-- Bay controllers that missed their last heartbeat (R415), by bay. -/
  hbMiss : Table Bool
  /-- A unit's own copy of its fence epoch less 1 (R419), by unit: 0 is the epoch 1 of reset. -/
  ownEp : Table Nat
  /-- 1 + the second of a unit's last dropped output (R420), by unit. -/
  talk : Table Nat
  /-- Spare substitutions in progress (R423). -/
  substs : List Subst
  /-- The snapshot machinery. -/
  snap : SnapSt
  /-- Timekeeping of the device. -/
  time : TimeSt
  /-- Configuration requests are answered (R445). -/
  hostReady : Bool
  /-- Network interfaces by destination ID (R364). -/
  nis : Table NiSt
  /-- Packets on the rings, in the order of injection. -/
  flights : List Flight
  /-- Route-table entries written: table × 256 + destination; none: the default route (R373). -/
  routes : Table (Option Nat)
  /-- The bank homes' directory: half × 0x8_0000 + line, the caching agents that hold it, M or S (R265). -/
  dirc : Table (List (Nat × Bool))
  /-- Accesses of bank memory whose pieces are out (R261). -/
  bankJoins : List BankJoin
  /-- THE MODEL'S OWN: the number of the last access that was split. -/
  joinNo : Nat
  /-- Requests that wait at a home for snoop answers. -/
  homes : List HomeReq
  /-- Fabric result-area writes that are held (R165). -/
  fabHeld : List FabWr
  /-- Bank words that read as uncorrectable: half × 0x40_0000 + word (R262). -/
  bankUe : Table Bool
  /-- Tile records: tile × 128 + word, a tile being (half × 109 + x) × 640 + y (R334). -/
  fcfg : Table Nat
  /-- INIT of block memories: tile × 1,024 + row, 36 bits (R312, R335). -/
  bramInit : Table Nat
  /-- Block-memory arrays as their difference from INIT: same keys. -/
  bramX : Table Nat
  /-- Flip-flops whose value differs from INIT: tile × 32 + 2 × cell + (0 FFA, 1 FFB). -/
  ffX : Table Bool
  /-- Block memories by their lowest tile. -/
  brams : Table BramSt
  /-- Arithmetic slices by their lowest tile. -/
  slices : Table SliceSt
  /-- I/O cells 0 to 95. -/
  ios : Table IoSt
  /-- Rising edges a quarter's line still holds INIT after a release: quarter × 16 + line (R295). -/
  ghWait : Table Nat
  /-- Clock generators: half × 4 + g. -/
  fcgs : Table FcgSt
  /-- The configuration load. -/
  load : LoadSt
  /-- Fuse fields the integrator has programmed, by the FIELD number of SEC_PROG_CTL (R455, R456). -/
  fuses : Table (Option Nat)
  /-- The fused FW_SVN, a thermometer of 64 bits (R449, R455). -/
  svn : Nat
  /-- Fuse programming is armed (R456). -/
  fuseArm : Bool
  /-- The boot ROM. -/
  boot : BootSt
  /-- STEST and STEST_DRAM replaced for this reset (R442). -/
  strapOver : Option (Bool × Bool)
  /-- The attestation report under way. -/
  attest : Option AttSt
  /-- The last attestation report, 8,368 bytes (R460). -/
  report : Nat
  /-- CFG_MEAS of the FULL image that runs (R461). -/
  cfgMeas : Nat
  /-- PR_CHAIN (R461). -/
  prChain : Nat
  /-- VCC_CORE as commanded through AVSBus, in mV (R504). -/
  vcore : Nat
  /-- The Hjelz port. -/
  hj : HjSt
  /-- The last edge of regional lines. -/
  edge : EdgeSt
  /-- Regional lines that are high: region × 16 + line. -/
  lineHi : Table Bool
  /-- Lines whose next high phase the gate suppresses (R293). -/
  gateOff : Table Bool
  /-- General-purpose pins 0 to 95. -/
  pins : Table PinSt
  /-- The levels that the surroundings put on the general-purpose pads, by bit. -/
  padExt : Nat
  /-- The general-purpose pads that the surroundings drive, by bit; on the others a pull or a keeper acts (R496). -/
  padOn : Nat
  /-- The level that each pad's keeper holds, by bit (R496). -/
  padKeep : Nat
  /-- The retention key in the grotto SRAM (R357). -/
  retKey : Nat
  /-- The reference CRC-32C of each retained frame plus 1, by frame address; 0 where no load has stored it (R357). -/
  frameCrcs : Table Nat
  /-- Frames excluded from repair until a load rewrites them (R358). -/
  prnExcl : List Nat
  deriving DecidableEq, Repr

/-- A run of fields of consecutive units, each with its value; fields at their reset value are not listed. -/
def regRun (n : Nat) (f : Nat → Fld) (v : Nat → Nat) : Table Nat :=
  ((List.range n).map (fun k => ((f k).key, (f k).rst, v k))).filterMap
    (fun e => if e.2.2 = e.2.1 then none else some (e.1, e.2.2))

/-- Reset values that differ between the indices of one register, in rising order of bit address: the default spare map
(R73), the set-point rates of a -16T part (R255), the sideband pins of the general-purpose banks (R499). The values that
are fused in a part or sampled at reset release read 0 here (log entry 3). -/
def resetRegs : Table Nat :=
  (List.range 104).flatMap (fun n =>
    regRun 1 (fun _ => F.ENG_STAT.STATE n) (fun _ => if n % 13 = 12 then 7 else 0) ++
    regRun 1 (fun _ => F.ENG_MAP.LE n) (fun _ => if n % 13 = 12 then 0x7F else 12 * (n / 13) + n % 13)) ++
  (List.range 8).flatMap (fun n => regRun 3 (F.DMC_FSP.RATE n) (fun k => if k = 1 then 8 else if k = 2 then 4 else 0)) ++
  ([22, 23] : List Nat).flatMap (fun p =>
    regRun 1 (fun _ => F.GPP_PIN.FUNC p) (fun _ => 3) ++
    regRun 1 (fun _ => F.GPP_PIN.SIG p) (fun _ => if p = 22 then 0x1C else 0x1D) ++
    regRun 1 (fun _ => F.GPP_PIN.PULL p) (fun _ => if p = 23 then 1 else 0))

/-- The machine right after a device reset has been raised, before its release (R441, R443): every register at its
reset value, memories zero, no command pending. -/
def State.reset : State :=
  { pending := [],
    por := true,
    ticks := 0,
    fresh := 0,
    regs := resetRegs,
    latches := [],
    holds := [],
    bus := [],
    out := [],
    heldOut := [],
    fns := [],
    ctxs := [],
    clks := [],
    agents := [],
    reports := [],
    engs := [],
    bays := [],
    fcc := [],
    chans := [],
    ssgs := [],
    seqMem := [],
    seqUnread := [],
    seqPos := 0,
    fsets := [],
    lmaps := [],
    scr := [],
    tsets := [],
    calRecs := [],
    ports := [],
    bankMem := [],
    banks := [],
    dram := [],
    poison := [],
    startFold := [],
    restoring := [],
    dmcs := [],
    tb := [],
    trcs := [],
    sups := [],
    vccCh := false,
    drives := false,
    hbMiss := [],
    ownEp := [],
    talk := [],
    substs := [],
    snap := SnapSt.reset,
    time := TimeSt.reset,
    hostReady := false,
    nis := [],
    flights := [],
    routes := [],
    dirc := [],
    bankJoins := [],
    joinNo := 0,
    homes := [],
    fabHeld := [],
    bankUe := [],
    fcfg := [],
    bramInit := [],
    bramX := [],
    ffX := [],
    brams := [],
    slices := [],
    ios := [],
    ghWait := [],
    fcgs := [],
    load := LoadSt.reset,
    fuses := [],
    svn := 0,
    fuseArm := false,
    boot := BootSt.reset,
    strapOver := none,
    attest := none,
    report := 0,
    cfgMeas := 0,
    prChain := 0,
    vcore := 800,
    hj := HjSt.reset,
    edge := EdgeSt.reset,
    lineHi := [],
    gateOff := [],
    pins := [],
    padExt := 0,
    padOn := 0,
    padKeep := 0,
    retKey := 0,
    frameCrcs := [],
    prnExcl := [] }

end Sys2Proof.Machine
end

