-- ==== Sys2Proof/Machine/Ops.lean ====
section
/-! DEFINITION. The named operations every meaning is written in: tables and memories in canonical form, the register
store, free values, CRC-32C, and the path of a device write to host memory through the commit unit. -/

namespace Sys2Proof.Machine

/-! ## Tables in canonical form -/

/-- The value of key k: the listed one, or the default. -/
def Table.get {α : Type} (d : α) : Table α → Nat → α
  | [], _ => d
  | (j, v) :: t, k => if j = k then v else Table.get d t k

/-- Drop every entry of key k. -/
def Table.erase {α : Type} (t : Table α) (k : Nat) : Table α := t.filter (fun e => e.1 ≠ k)

/-- Put an entry at its place among rising keys. -/
def Table.insert {α : Type} (k : Nat) (v : α) : Table α → Table α
  | [] => [(k, v)]
  | (j, u) :: t => if k < j then (k, v) :: (j, u) :: t else (j, u) :: Table.insert k v t

/-- Write key k: writing the default removes the entry, so that equal contents are equal data. -/
def Table.set {α : Type} [DecidableEq α] (d : α) (t : Table α) (k : Nat) (v : α) : Table α :=
  if v = d then Table.erase t k else Table.insert k v (Table.erase t k)

/-- The keys rise strictly. -/
def Table.rising {α : Type} : Table α → Bool
  | [] => true
  | [_] => true
  | a :: b :: t => decide (a.1 < b.1) && Table.rising (b :: t)

/-- The canonical form: keys strictly rising, no entry equal to the default. -/
def Table.wf {α : Type} [DecidableEq α] (d : α) (t : Table α) : Bool :=
  Table.rising t && t.all (fun e => e.2 ≠ d)

/-- Change the value of key k. -/
def Table.upd {α : Type} [DecidableEq α] (d : α) (t : Table α) (k : Nat) (f : α → α) : Table α :=
  Table.set d t k (f (Table.get d t k))

/-! ## Byte memories: a listed byte is never 0 (R451, R453: memories hold zero after self-test). -/

/-- One byte of a memory. -/
def Memory.read (m : Memory) (a : Nat) : Byte := Table.get 0 m a

/-- Write one byte. -/
def Memory.write (m : Memory) (a : Nat) (v : Byte) : Memory := Table.set 0 m a v

/-- The canonical form of a memory. -/
def Memory.wf (m : Memory) : Bool := Table.wf (0 : Byte) m

/-- n bytes from address a, little-endian (R7). -/
def Memory.readN (m : Memory) (a : Nat) : Nat → Nat
  | 0 => 0
  | n + 1 => (Memory.read m a).toNat + 256 * Memory.readN m (a + 1) n

/-- Write the low n bytes of v at address a, little-endian (R7). -/
def Memory.writeN (m : Memory) (a : Nat) : Nat → Nat → Memory
  | 0, _ => m
  | n + 1, v => Memory.writeN (Memory.write m a (BitVec.ofNat 8 v)) (a + 1) n (v / 256)

/-- Write the bytes of v whose bit is set in the byte mask. -/
def Memory.writeMasked (m : Memory) (a : Nat) : Nat → Nat → Nat → Memory
  | 0, _, _ => m
  | n + 1, mask, v =>
    Memory.writeMasked (if mask % 2 = 1 then Memory.write m a (BitVec.ofNat 8 v) else m) (a + 1) n (mask / 2) (v / 256)

/-! ## CRC-32C (R58, R62, R65) and the Hjelz CRC-8 -/

/-- One bit of the reflected CRC-32C. -/
def crcBit (c : Nat) : Nat := if c % 2 = 1 then (c / 2) ^^^ 0x82F63B78 else c / 2

/-- Eight bits. -/
def crcByte (c b : Nat) : Nat :=
  crcBit (crcBit (crcBit (crcBit (crcBit (crcBit (crcBit (crcBit (c ^^^ b))))))))

/-- The register after n bytes of v, lowest byte first. -/
def crcRun (c : Nat) : Nat → Nat → Nat
  | 0, _ => c
  | n + 1, v => crcRun (crcByte c (v % 256)) n (v / 256)

/-- CRC-32C over n bytes of v. -/
def crc32c (n v : Nat) : Nat := crcRun 0xFFFFFFFF n v ^^^ 0xFFFFFFFF

/-! ## The register store -/

/-- The stored value of a field. -/
def State.rd (s : State) (f : Fld) : Nat := Table.get f.rst s.regs f.key

/-- Store a field; it keeps its width. -/
def State.wr (s : State) (f : Fld) (v : Nat) : State :=
  { s with regs := Table.set f.rst s.regs f.key (v % 2 ^ f.w) }

/-- Is the value a reserved encoding of the field? -/
def Fld.reserved (f : Fld) (v : Nat) : Bool := f.rsv.any (fun r => r.1 ≤ v && v ≤ r.2)

/-- What the block acts on: a reserved encoding acts as the reset value (R9). -/
def State.eff (s : State) (f : Fld) : Nat :=
  let v := s.rd f
  if f.reserved v then f.rst else v

/-- A one-bit field read as a condition. -/
def State.on (s : State) (f : Fld) : Bool := s.rd f == 1

/-- Set a one-bit field. -/
def State.setOn (s : State) (f : Fld) : State := s.wr f 1

/-- Clear a field. -/
def State.clr (s : State) (f : Fld) : State := s.wr f 0

/-- Count up by n, saturating at the field's width. -/
def State.count (s : State) (f : Fld) (n : Nat := 1) : State := s.wr f (min (2 ^ f.w - 1) (s.rd f + n))

/-- Raise a field to at least v (PEAK fields). -/
def State.peak (s : State) (f : Fld) (v : Nat) : State := s.wr f (max (s.rd f) v)

/-- A condition, then a change. -/
def State.when (s : State) (c : Bool) (f : State → State) : State := if c then f s else s

/-- Apply a change for each element, in order. -/
def State.each {α : Type} (s : State) (l : List α) (f : State → α → State) : State := l.foldl f s

/-- Take a free value of w bits: nothing constrains it (log entry 4). -/
def State.free (s : State) (w : Nat) : Nat × State :=
  (Config.freeBits s.fresh % 2 ^ w, { s with fresh := s.fresh + 1 })

/-! ## The path to host memory (R34, R66, R67, R69, R427) -/

/-- Is the link up, with bus mastering? While it is down the device holds its writes (R69). -/
def State.linkUp (s : State) : Bool := s.on F.HIF_LINK_STAT.UP

/-- The commit unit: a write under another epoch than CUR is discarded and counted (R427); one under CUR, or one that carries
no epoch, goes to host memory, or is held while the link is down. -/
def State.commitWrite (s : State) (w : HostSend) : State :=
  if w.epoch.any (fun e => e != s.rd F.SUP_CUST_EPOCH.CUR) then s.count F.SUP_CUST_STALE.STALE
  else if s.linkUp && s.heldOut.isEmpty then { s with out := s.out ++ [w.what] }
  else { s with heldOut := s.heldOut ++ [w] }

/-- The half that holds the lantern. -/
def State.holder (s : State) : Nat := s.rd F.SUP_STAT.HOLDER

/-- The record of supervisor h. -/
def State.sup (s : State) (h : Nat) : SupSt := Table.get SupSt.reset s.sups h

/-- Change the record of supervisor h. -/
def State.updSup (s : State) (h : Nat) (f : SupSt → SupSt) : State :=
  { s with sups := Table.upd SupSt.reset s.sups h f }

/-- A host-memory write by the lantern holder, under the holder's own epoch. -/
def State.hostWrite (s : State) (addr len data : Nat) : State :=
  s.commitWrite ⟨some (s.sup s.holder).epoch, .write addr len data⟩

/-- Result data carries no custody epoch (R427 names completion records, ledger entries, event records and MSI-X). -/
def State.dataWrite (s : State) (addr len data : Nat) : State :=
  s.commitWrite ⟨none, .write addr len data⟩

/-- Is unit u fenced, or still under its reinstatement's self-test (R421)? -/
def State.isFenced (s : State) (u : Nat) : Bool := s.rd (F.SUP_UNIT_STAT.STATE u) != 0

/-- A ring service exists: a holder is registered and its supervisor is not fenced. -/
def State.served (s : State) : Bool :=
  s.on F.SUP_STAT.LANTERN_VALID && s.rd (F.SUP_UNIT_STAT.STATE (216 + s.holder)) != 1

/-! ## Functions, contexts and events (R38–R40, R64) -/

/-- What the device keeps of function f. -/
def State.fn (s : State) (f : Nat) : FnSt := Table.get FnSt.reset s.fns f

def State.updFn (s : State) (f : Nat) (g : FnSt → FnSt) : State := { s with fns := Table.upd FnSt.reset s.fns f g }

/-- What the device keeps of context n. -/
def State.ctx (s : State) (n : Nat) : CtxSt := Table.get CtxSt.reset s.ctxs n

def State.updCtx (s : State) (n : Nat) (g : CtxSt → CtxSt) : State := { s with ctxs := Table.upd CtxSt.reset s.ctxs n g }

/-- The function that owns context n; a reserved FN acts as the reset value, the PF (R9, R40). -/
def State.ownerFn (s : State) (n : Nat) : Nat := s.eff (F.HIF_CTX_CFG.FN n)

/-- N of context n (R40). -/
def State.ringN (s : State) (n : Nat) : Nat := 2 ^ (s.eff (F.HIF_CTX_CFG.LOG2SZ n) + 4)

/-- Ring addresses: the reserved low bits read 0. -/
def State.sqAddr (s : State) (n : Nat) : Nat := s.rd (F.HIF_CTX_SQ.SQ n) * 4096
def State.cqAddr (s : State) (n : Nat) : Nat := s.rd (F.HIF_CTX_CQ.CQ n) * 4096
def State.ledgerAddr (s : State) (n : Nat) : Nat := s.rd (F.HIF_CTX_LEDGER.LEDGER n) * 32

/-- The event ring's size S and the records not yet consumed, (P − EVCI) mod 2^32 (R39). -/
def State.evSize (s : State) (f : Nat) : Nat := 2 ^ (s.eff (F.HIF_FN_EVR.LOG2SZ f) + 4)
def State.evUsed (s : State) (f : Nat) : Nat := ((s.fn f).p + 2 ^ 32 - (s.fn f).evci) % 2 ^ 32

/-- A record is written only while fewer than S − 1 are unconsumed (R64). -/
def State.evRoom (s : State) (f : Nat) : Bool := decide (s.evUsed f < s.evSize f - 1)

/-- The MSI-X signal after an event record (R64): the context's MSIX or the function's EVMSIX; entry 62 or 63 of a VF sets
MSIX_RANGE and signals nothing. -/
def State.signal (s : State) (f : Nat) (c : Option Nat) : State :=
  let e := match c with | some n => s.rd (F.HIF_CTX_CFG.MSIX n) | none => s.rd (F.HIF_FN_CFG.EVMSIX f)
  if f ≠ 0 ∧ e ≥ 62 then s.setOn (F.HIF_FN_STAT.MSIX_RANGE f)
  else s.commitWrite ⟨some (s.sup s.holder).epoch, .msix f e⟩

/-- Place one record in the ring: slot (P − B) mod S, PHASE 1 on the first pass and inverted on each wrap (R39, R64). -/
def State.placeEvent (s : State) (f : Nat) (r : EvRec) : State :=
  let q := s.fn f
  let d := (q.p + 2 ^ 32 - q.b) % 2 ^ 32
  let size := s.evSize f
  let phase := if d / size % 2 = 0 then 1 else 0
  let word := r.code + 256 * (r.ctx.getD 0) + 2 ^ 15 * phase + 2 ^ 16 * r.detail + 2 ^ 32 * r.arg0 + 2 ^ 64 * r.arg1
  let s := s.hostWrite (s.rd (F.HIF_FN_EVR.EVR f) * 4096 + d % size * 16) 16 word
  let s := s.updFn f (fun q => { q with p := (q.p + 1) % 2 ^ 32 })
  s.signal f r.ctx

/-- Once space has returned after drops, one EVENTS_LOST record goes first (R64). -/
def State.eventsLost (s : State) (f : Nat) : State :=
  if (s.fn f).dropped ≠ 0 ∧ s.evRoom f then
    let n := (s.fn f).dropped
    (s.updFn f (fun q => { q with dropped := 0 })).placeEvent f ⟨none, 8, 0, n % 2 ^ 32, 0⟩
  else s

/-- Post an event record on a function's ring (R64). A full ring holds the record for one fresh read of EVCI. A function
whose ring service is off, or whose EVCI has not been read since its enable, has no ring. -/
def State.post (s : State) (f : Nat) (r : EvRec) : State :=
  if s.rd (F.HIF_FN_CFG.EN f) = 1 ∧ s.served ∧ !(s.fn f).await then
    if (s.fn f).waiting.isEmpty then
      let s := s.eventsLost f
      if (s.fn f).dropped = 0 ∧ s.evRoom f then s.placeEvent f r
      else s.updFn f (fun q => { q with waiting := q.waiting ++ [r] })
    else s.updFn f (fun q => { q with waiting := q.waiting ++ [r] })
  else s

/-- A record of context n on its owner's ring. -/
def State.postCtx (s : State) (n code detail arg0 arg1 : Nat) : State :=
  s.post (s.ownerFn n) ⟨some n, code, detail, arg0, arg1⟩

/-- A RESOURCE_CHANGE record on the PF's ring (R433). -/
def State.postRes (s : State) (detail arg0 arg1 : Nat) : State := s.post 0 ⟨none, 6, detail, arg0, arg1⟩

/-- The PLL of half h. -/
def State.clk (s : State) (h : Nat) : ClkHalf := Table.get ClkHalf.reset s.clks h
def State.updClk (s : State) (h : Nat) (f : ClkHalf → ClkHalf) : State :=
  { s with clks := Table.upd ClkHalf.reset s.clks h f }

/-- ECLK of half h stands still: gated off until its PLL locks after an APPLY (R28) or after EN has been 0 (R27), or stopped
by a loss of REFCLK (R30). -/
def State.eclkOff (s : State) (h : Nat) : Bool := (s.clk h).gated || (s.clk h).stopped

/-- Is the context served: enabled and not halted? -/
def State.ctxLive (s : State) (n : Nat) : Bool :=
  s.on (F.HIF_CTX_CFG.EN n) && !s.on (F.HIF_CTX_CFG.HALTED n)

/-! ## Halves, slots, channels (R15, R16, R73) -/

/-- The slots of half h, PE(52h) to PE(52h + 51). -/
def slotsOf (h : Nat) : List Nat := (List.range 52).map (fun i => 52 * h + i)

/-- The half of a slot, a channel, a bay. -/
def halfOfSlot (n : Nat) : Nat := n / 52
def halfOfChan (c : Nat) : Nat := c / 128
def bayOfSlot (n : Nat) : Nat := n / 13
def bayOfChan (c : Nat) : Nat := c / 32

/-- ENG_STAT_n.STATE codes (R112). -/
def stIdle : Nat := 0
def stPreload : Nat := 1
def stWait : Nat := 2
def stRun : Nat := 3
def stPaused : Nat := 4
def stMonitor : Nat := 5
def stFenced : Nat := 6
def stSpare : Nat := 7

def State.slotState (s : State) (n : Nat) : Nat := s.rd (F.ENG_STAT.STATE n)

/-- A slot at rest: IDLE, SPARE or FENCED. -/
def State.atRest (s : State) (n : Nat) : Bool :=
  let t := s.slotState n
  t == stIdle || t == stFenced || t == stSpare

/-- Every slot of the half at rest (R28, R74). -/
def State.halfAtRest (s : State) (h : Nat) : Bool := (slotsOf h).all s.atRest

/-- The logical engine of the default map, 0x7F for a spare (R73). -/
def defaultLe (n : Nat) : Nat := if n % 13 = 12 then 0x7F else 12 * (n / 13) + n % 13

/-- The logical engine that slot n holds; a reserved LE acts as the reset value (R9, R74). -/
def State.leOf (s : State) (n : Nat) : Nat :=
  let v := s.rd (F.ENG_MAP.LE n)
  if 0x60 ≤ v ∧ v < 0x7F then defaultLe n else v

/-- The slot that holds a logical engine. -/
def State.slotOf (s : State) (le : Nat) : Option Nat := (List.range 104).find? (fun n => s.leOf n = le)

/-- What the model keeps of slot n. -/
def State.eng (s : State) (n : Nat) : Engine := Table.get Engine.reset s.engs n

def State.updEng (s : State) (n : Nat) (f : Engine → Engine) : State :=
  { s with engs := Table.upd Engine.reset s.engs n f }

/-- The leader of the gang slot n belongs to; a slot without a job stands alone. -/
def State.leaderOf (s : State) (n : Nat) : Nat := if (s.eng n).ctx.isSome then (s.eng n).leader else n

/-- The members of the gang that slot n leads, in ascending order; a slot without a job leads only itself. -/
def State.gang (s : State) (n : Nat) : List Nat :=
  match (s.eng n).ctx with
  | none => [n]
  | some c => (List.range 104).filter (fun m => (s.eng m).ctx = some c && (s.eng m).leader = n)

/-- The slots that run the job of context c. -/
def State.jobSlots (s : State) (c : Nat) : List Nat := (List.range 104).filter (fun m => (s.eng m).ctx = some c)

/-- The gang leaders among them. -/
def State.jobLeaders (s : State) (c : Nat) : List Nat := (s.jobSlots c).filter (fun m => (s.eng m).leader = m)

/-- Channel c's selection register has indices (half, channel within the half). -/
def selH (c : Nat) : Nat := c / 128
def selC (c : Nat) : Nat := c % 128

/-- A selection in use: EN = 1 and SRC not reserved (R133). -/
def State.selOn (s : State) (c : Nat) : Bool :=
  s.on (F.VSW_SEL.EN (selH c) (selC c)) && !(F.VSW_SEL.SRC (selH c) (selC c)).reserved (s.rd (F.VSW_SEL.SRC (selH c) (selC c)))

/-- The port a channel is fed from, if it is (R133). -/
def State.selPort (s : State) (c : Nat) : Option Nat :=
  let v := s.rd (F.VSW_SEL.SRC (selH c) (selC c))
  if s.selOn c && decide (0x30 ≤ v) then some (v - 0x30) else none

/-- The pacer of port p of half h as a logical engine (R142); a reserved PACER acts as none (R9). -/
def State.pacer (s : State) (h p : Nat) : Option Nat :=
  let v := s.eff (F.VSW_PORT_CFG.PACER h p)
  if v < 0x30 then some (48 * h + v) else none

/-- The logical engine whose vectors a channel follows: its source engine, or its port's pacer (R130, R137). -/
def State.selLe (s : State) (c : Nat) : Option Nat :=
  if s.selOn c then
    match s.selPort c with
    | some p => s.pacer (selH c) p
    | none => some (48 * selH c + s.rd (F.VSW_SEL.SRC (selH c) (selC c)))
  else none

/-- Is a logical engine idle in the sense of R134? An engine without a slot runs nothing. -/
def State.leIdle (s : State) (le : Nat) : Bool := match s.slotOf le with | some n => s.atRest n | none => true

/-- A channel is idle when its selection has EN = 0 or its source is idle (R184, R134). -/
def State.chIdle (s : State) (c : Nat) : Bool := match s.selLe c with | some le => s.leIdle le | none => true

/-- What the model keeps of channel c. -/
def State.chan (s : State) (c : Nat) : ChanSt := Table.get ChanSt.reset s.chans c

def State.updChan (s : State) (c : Nat) (f : ChanSt → ChanSt) : State :=
  { s with chans := Table.upd ChanSt.reset s.chans c f }

/-- A channel that behaves as fenced: FENCED or RATE_ERR (R172, R186). -/
def State.chFenced (s : State) (c : Nat) : Bool := s.on (F.CHN_STAT.FENCED c) || s.on (F.CHN_STAT.RATE_ERR c)

/-- What the model keeps of bay b. -/
def State.bay (s : State) (b : Nat) : BaySt := Table.get BaySt.reset s.bays b

def State.updBay (s : State) (b : Nat) (f : BaySt → BaySt) : State :=
  { s with bays := Table.upd BaySt.reset s.bays b f }

/-! ## Bank memory, DRAM (addresses within a half) -/

/-- Bank memory of the device is one byte space: half h at h × 0x200_0000 (R36, R257). -/
def bankKey (h a : Nat) : Nat := h * 0x2000000 + a

def State.bankRead (s : State) (h a n : Nat) : Nat := Memory.readN s.bankMem (bankKey h a) n
def State.bankWrite (s : State) (h a n v : Nat) : State :=
  { s with bankMem := Memory.writeN s.bankMem (bankKey h a) n v }

/-- DRAM of the device: half h's address space at h × 2^40. -/
def dramKey (h a : Nat) : Nat := h * 2 ^ 40 + a

def State.dramRead (s : State) (h a n : Nat) : Nat := Memory.readN s.dram (dramKey h a) n
def State.dramWrite (s : State) (h a n v : Nat) : State := { s with dram := Memory.writeN s.dram (dramKey h a) n v }

end Sys2Proof.Machine
end

