-- ==== Sys2Proof/Machine/Access.lean ====
section
/-! DEFINITION. Who may write a register (R20, R36, R443, R444, R470): requesters, blocks, and the words of table windows that
are held for a requester (R79, R187, R200). -/

namespace Sys2Proof.Machine

/-- The blocks of BAR0 (R37); the engine table windows (sequence memory, lane maps, pin function sets, scramble tables) apart
from the others (R470). -/
inductive Blk
  | glb | hif | sup | eng | vsw | chn | fpu | dmc | bnk | noc | tmb | cfg | fab | gpp | dbg | sec | snp
  | engWin | win
  deriving DecidableEq, Repr

/-- The block of a BAR0 byte offset. -/
def blkOf (off : Nat) : Blk :=
  if off < 0x100000 then .glb
  else if off < 0x200000 then .hif
  else if off < 0x400000 then .sup
  else if off < 0x800000 then .eng
  else if off < 0xC00000 then .vsw
  else if off < 0x1000000 then .chn
  else if off < 0x1400000 then .fpu
  else if off < 0x1800000 then .dmc
  else if off < 0x1A00000 then .bnk
  else if off < 0x1C00000 then .noc
  else if off < 0x1E00000 then .tmb
  else if off < 0x2000000 then .cfg
  else if off < 0x2200000 then .fab
  else if off < 0x2400000 then .gpp
  else if off < 0x2600000 then .dbg
  else if off < 0x2800000 then .sec
  else if off < 0x3000000 then .snp
  else if off < 0x3400000 then .engWin
  else if off < 0x3740000 then .engWin
  else .win

/-- The authorised level of the Hjelz port (R472). -/
def State.portLevel (s : State) : Nat := s.rd F.DBG_PORT_STAT.LEVEL

/-- Supervisor g may act on what belongs to half h (R20, R428): it is not fenced, and the half is its own or its partner is
fenced. What belongs to no half any supervisor in service may act on. -/
def State.supMay (s : State) (g : Nat) (h : Option Nat) : Bool :=
  !s.isFenced (216 + g) && (match h with | some k => g == k || s.isFenced (216 + k) | none => true)

/-- A supervisor executes the host's writes of half h's set-up registers (R20): the half's own, or the other in its place. -/
def State.supServes (s : State) (h : Option Nat) : Bool := h.isNone || s.supMay 0 h || s.supMay 1 h

/-- May the requester write registers of the block now? The PF by GLB_STATE (R444) and while a supervisor executes its write
(R20), a VF never (its own registers apart, R36), a supervisor those of its half (R20), the port by its level (R470). `h` is
the half of the register, none for a register of no half. GLB_RESET and GLB_FWLOAD have rows of their own. -/
def State.mayWrite (s : State) (r : Req) (b : Blk) (h : Option Nat := none) : Bool :=
  !s.por &&
  match r with
  | .sup g => s.supMay g h
  | .fn f =>
    f == 0 && s.supServes h &&
    (let st := s.rd F.GLB_STATE.STATE
     st == 7 || st == 8 ||
     ((st == 4 || st == 5 || st == 6) && (b == .glb || b == .cfg || b == .sec || b == .dbg)))
  | .port => decide (s.portLevel ≥ (match b with | .dbg | .eng | .engWin => 2 | _ => 3))

/-- The half of a located register (R15, R16, R18, R20), by the units its first index counts: slots, channels, bays, regions,
endpoints, pins, trunks, halves; none for registers of the device, of functions and of contexts. -/
def halfOfReg (p : RegAt) : Option Nat :=
  match blkOf p.addr with
  | .hif | .sup | .sec | .snp => none
  | b =>
    match p.def_.c1 with
    | 104 => some (p.i / 52)
    | 256 => some (p.i / 128)
    | 32 => some (p.i / 16)
    | 64 => some (p.i / 32)
    | 96 => some (p.i / 48)
    | 2 => some p.i
    | 8 => if b = .chn ∨ b = .fpu ∨ b = .dmc then some (p.i / 4) else none
    | 4 => if b = .gpp ∨ b = .tmb then some (p.i / 2) else none
    | _ => none

/-- The half to which a BAR0 offset belongs: that of its register, or of its place in a table window. -/
def halfOfOff (off : Nat) : Option Nat :=
  if 0x1600000 ≤ off ∧ off < 0x1800000 then some ((off - 0x1600000) / 0x100000)
  else if 0x1C08000 ≤ off ∧ off < 0x1C10000 then some ((off - 0x1C08000) / 0x4000)
  else if 0x2410000 ≤ off ∧ off < 0x2416800 then some ((off - 0x2410000) / 0x100 / 52)
  else if 0x3000000 ≤ off ∧ off < 0x3400000 then some ((off - 0x3000000) / 0x200000)
  else if 0x3400000 ≤ off ∧ off < 0x3740000 then some ((off - 0x3400000) / 0x8000 / 52)
  else if 0x3800000 ≤ off ∧ off < 0x3900000 then some ((off - 0x3800000) / 0x80000)
  else if 0x3900000 ≤ off ∧ off < 0x3940000 then some ((off - 0x3900000) / 0x20000)
  else (regAt off).bind halfOfReg

/-- The HIF registers that are function f's own (R36): its HIF_FN registers and those of the contexts whose FN names it. -/
def State.vfOwn (s : State) (f off : Nat) : Bool :=
  (decide (0x100000 + f * 0x40 ≤ off) && decide (off < 0x100040 + f * 0x40)) ||
  (decide (0x101000 ≤ off) && decide (off < 0x102000) && s.ownerFn ((off - 0x101000) / 0x40) == f)

/-- May the requester read BAR0 offset `off` now? Other reads return 0 (R36, R444, R470). -/
def State.mayRead (s : State) (r : Req) (off : Nat) : Bool :=
  !s.por &&
  match r with
  | .sup _ => true
  | .port => decide (s.portLevel ≥ 1)
  | .fn f =>
    let st := s.rd F.GLB_STATE.STATE
    let open_ := st ≥ 4 || blkOf off == .glb || blkOf off == .sec || blkOf off == .cfg
    open_ && (f == 0 || s.vfOwn f off)

/-- May the requester write BAR0 offset `off` now? A VF its own registers, in service. -/
def State.mayWriteAt (s : State) (r : Req) (off : Nat) : Bool :=
  s.mayWrite r (blkOf off) (halfOfOff off) ||
  (match r with
   | .fn f => !s.por && f != 0 && s.vfOwn f off && (s.rd F.GLB_STATE.STATE == 7 || s.rd F.GLB_STATE.STATE == 8)
   | _ => false)

/-- The offset in the PF's BAR0 of what a requester addresses: a VF has 8 KiB of its own, its HIF_FN registers and the HIF_CTX
registers at their places (R36, R38); the rest of it is no register's (0x1FFFFC). -/
def barOff (r : Req) (off : Nat) : Nat :=
  match r with
  | .fn f =>
    if f = 0 then off
    else if off < 0x40 then 0x100000 + f * 0x40 + off
    else if 0x1000 ≤ off ∧ off < 0x2000 then 0x100000 + off
    else 0x1FFFFC
  | _ => off

/-- A requester's number: functions 0 to 32, supervisors 40 and 41, the port 42. -/
def reqCode : Req → Nat
  | .fn f => f
  | .sup h => 40 + h
  | .port => 42

/-- Record what a requester's read returned. -/
def State.setBus (s : State) (r : Req) (v : Nat) : State := { s with bus := Table.set 0 s.bus (reqCode r) v }

/-- The word held for a requester at a BAR0 word. -/
def State.held (s : State) (r : Req) (word : Nat) : Option Nat := Table.get none s.holds (reqCode r * 2 ^ 26 + word)

def State.setHeld (s : State) (r : Req) (word : Nat) (v : Option Nat) : State :=
  { s with holds := Table.set none s.holds (reqCode r * 2 ^ 26 + word) v }

end Sys2Proof.Machine
end

