-- ==== Sys2Proof/Machine/RegStore.lean ====
section
/-! DEFINITION. What a plain register write stores (R8–R11): field by field, by access type. Rules that belong to one register
stand with its commands. -/

namespace Sys2Proof.Machine

/-- The part of a field that bits [lo + n − 1 : lo] of its register hold is written with v (v counts from bit lo). -/
def State.storeField (s : State) (addr lo n v : Nat) (f : FieldDef) : State :=
  if f.lo + f.w ≤ lo ∨ lo + n ≤ f.lo then s
  else
    let g := f.fld addr
    let old := s.rd g
    -- bits of the field that are covered, counted from its own bit 0
    let from_ := lo - f.lo
    let to_ := min f.w (lo + n - f.lo)
    let mask := (2 ^ (to_ - from_) - 1) * 2 ^ from_
    let new := (v * 2 ^ lo / 2 ^ f.lo) &&& mask
    match f.acc with
    | .rw | .wo => s.wr g ((old &&& (2 ^ f.w - 1 - mask)) ||| new)
    | .w1c => s.wr g (old &&& (2 ^ f.w - 1 - new))
    | .w1s => s.wr g (old ||| new)
    | .ro | .rc => s

/-- Store n bits at bit lo of the register at `addr`. -/
def State.storeReg (s : State) (r : RegDef) (addr lo n v : Nat) : State :=
  s.each r.fields (fun s f => s.storeField addr lo n v f)

/-- A write of 32 bits at BAR0 byte offset `off`, as a requester without a latch of its own makes it. -/
def State.storeWord (s : State) (off v : Nat) : State :=
  match regAt (off / 4 * 4) with
  | some p => s.storeReg p.def_ p.addr (8 * (off / 4 * 4 - p.addr)) 32 v
  | none => s

/-- The value of bits [lo + n − 1 : lo] of a located register. -/
def State.loadReg (s : State) (r : RegDef) (addr lo n : Nat) : Nat :=
  bits ((r.fields.map (fun f => if f.acc = .wo then 0 else s.rd (f.fld addr) * 2 ^ f.lo)).foldl (· + ·) 0) lo n

/-! ## Reads and writes of a requester (R10, R11) -/

/-- One requester's latch: the device keeps one per requester (R10). -/
def State.latch (s : State) (r : Req) : Latch := Table.get Latch.reset s.latches (reqCode r)
def State.setLatch (s : State) (r : Req) (f : Latch → Latch) : State :=
  { s with latches := Table.upd Latch.reset s.latches (reqCode r) f }

/-- A read clears the RC fields among the given bits; a peek of the port clears none (R11, R471). -/
def State.clearRc (s : State) (peek : Bool) (d : RegDef) (addr lo n : Nat) : State :=
  if peek then s
  else s.each (d.fields.filter (fun f => f.acc = .rc && decide (lo ≤ f.lo) && decide (f.lo < lo + n))) (fun s f =>
    s.clr (f.fld addr))

/-- A 32-bit read of the register that holds byte offset `off`; other offsets read 0. -/
def State.genericRead (s : State) (peek : Bool) (r : Req) (off : Nat) : Nat × State :=
  match regAt off with
  | none => (0, s)
  | some p =>
    if p.def_.wide then
      if off = p.addr then
        (s.loadReg p.def_ p.addr 0 32,
         (s.setLatch r (fun l => { l with rdHi := s.loadReg p.def_ p.addr 32 32 })).clearRc peek p.def_ p.addr 0 64)
      else ((s.latch r).rdHi, s)
    else (s.loadReg p.def_ p.addr 0 32, s.clearRc peek p.def_ p.addr 0 32)

/-- A 32-bit write: the low word of a pair is held in the requester's latch, the high word commits both. -/
def State.genericWrite (s : State) (r : Req) (off v : Nat) : State :=
  match regAt off with
  | none => s
  | some p =>
    if p.def_.wide then
      if off = p.addr then s.setLatch r (fun l => { l with wrLo := some v })
      else
        let s' := s.setLatch r (fun l => { l with wrLo := none })
        match (s.latch r).wrLo with
        | some lo => s'.storeReg p.def_ p.addr 0 64 (lo + 2 ^ 32 * v)
        | none => s'.storeReg p.def_ p.addr 32 32 v
    else s.storeReg p.def_ p.addr 0 32 v

end Sys2Proof.Machine
end

