-- ==== Sys2Proof/Machine/Operands.lean ====
section
/-! DEFINITION. Operand forms: the fields of a sequence entry (R84), its AOP and DOP (R117–R122), lane maps and pin
function sets (R127–R130), and the fields of a descriptor (R49–R54). -/

namespace Sys2Proof.Machine

/-! ## Sequence entries (R84–R86) -/

def eSop (e : Entry) : Nat := bits e.toNat 122 6
def eScnd (e : Entry) : Nat := bits e.toNat 118 4
def eSarg (e : Entry) : Nat := bits e.toNat 101 17
def eRsafe (e : Entry) : Bool := bit e.toNat 100
def eCapt (e : Entry) : Bool := bit e.toNat 99
def eSnapt (e : Entry) : Bool := bit e.toNat 98
def eTset (e : Entry) : Nat := bits e.toNat 90 6
def eFset (e : Entry) : Nat := bits e.toNat 86 4
def eLmap (e : Entry) : Nat := bits e.toNat 81 5
def eAop (e : Entry) : Nat := bits e.toNat 64 17
def eDop (e : Entry) : Nat := bits e.toNat 48 16
def eImm (e : Entry) : Nat := bits e.toNat 0 48

/-- The opcodes of R86, one per row of its table. -/
inductive Op
  | next | jmp | rep | mwait | halt | pause | sync | lock | unlock | save | restore | iret | trap | trace | clrf
  | reserved | br | call | ret | loop | ldc | waitt
  deriving DecidableEq, Repr

/-- The opcode of a SOP code (R86). -/
def opOf (sop : Nat) : Op :=
  if sop < 0x10 then
    match sop with
    | 0 => .next | 1 => .jmp | 2 => .rep | 3 => .mwait | 4 => .halt | 5 => .pause | 6 => .sync | 7 => .lock
    | 8 => .unlock | 9 => .save | 10 => .restore | 11 => .iret | 12 => .trap | 13 => .trace | 14 => .clrf
    | _ => .reserved
  else
    match sop / 8 with
    | 2 => .br | 3 => .call | 4 => .ret | 5 => .loop | 6 => .ldc | _ => .waitt

def eOp (e : Entry) : Op := opOf (eSop e)

/-- The index k of an indexed opcode. -/
def eK (e : Entry) : Nat := eSop e % 8

/-- Addresses wrap from 0x1_FFFF to 0 (R87). -/
def seqWrap (a : Nat) : Nat := a % 0x20000

/-- The monitor area (R80). -/
def inMonArea (a : Nat) : Bool := decide (0x1FC00 ≤ a) && decide (a < 0x20000)

/-- Is SCND permitted for the opcode, and not reserved (R86, R95)? -/
def scndOk (o : Op) (c : Nat) : Bool :=
  match o with
  | .halt | .pause | .br | .call | .ret => decide (c ≤ 9)
  | .lock => decide (c ≤ 1)
  | _ => decide (c = 0)

/-- Are the SARG bits that R86 marks as zero 0, REP's count not 0, and a semaphore index below 1,024 (R268)? -/
def sargOk (o : Op) (a : Nat) : Bool :=
  match o with
  | .jmp | .br | .call | .loop => true
  | .rep => decide (a ≠ 0)
  | .lock | .unlock => decide (a < 1024)
  | .save | .restore => decide (a < 8)
  | .trap => decide (a % 0x10000 = 0)
  | .trace => decide (a < 32)
  | _ => decide (a = 0)

/-- The checks of R85 on the entry alone. -/
def entryFormOk (e : Entry) : Bool :=
  eOp e != .reserved && scndOk (eOp e) (eScnd e) && sargOk (eOp e) (eSarg e) && bits e.toNat 96 2 == 0

/-- The opcodes allowed in a delay slot (R99). -/
def slotOpOk (o : Op) : Bool := o == .next || o == .ldc || o == .trace || o == .clrf

/-- The transfers, which have two delay slots (R99). -/
def isTransfer (o : Op) : Bool :=
  o == .jmp || o == .br || o == .call || o == .ret || o == .loop || o == .iret

/-- The opcodes that may not run provisionally (R153). -/
def opNoProv (o : Op) : Bool :=
  match o with
  | .halt | .pause | .sync | .lock | .unlock | .save | .restore | .trap | .waitt | .clrf | .iret => true
  | _ => false

/-! ## Address generators (R117, R118) -/

/-- Working width of a width code. -/
def genWidth (c : Nat) : Nat := if c = 0 then 24 else c + 8

/-- One generator operation on G with the other generator H: the new G, and whether it carries or borrows. -/
def genOp (op w g h imm : Nat) : Nat × Bool :=
  let m := 2 ^ w
  let lo := g % m
  let hi := g - lo
  let il := imm % m
  let hl := h % m
  match op with
  | 1 => (hi + (lo + 1) % m, lo == m - 1)
  | 2 => (hi + (lo + m - 1) % m, lo == 0)
  | 3 => (hi, false)
  | 4 => (hi + (m - 1), false)
  | 5 => (hi + (lo + il) % m, decide (m ≤ lo + il))
  | 6 => (hi + (lo + m - il) % m, decide (lo < il))
  | 7 => (imm, false)
  | 8 => (hi + (m - 1 - lo), false)
  | 9 => (hi + (lo + m / 2) % m, false)
  | 10 => (hi + (lo + hl) % m, decide (m ≤ lo + hl))
  | 11 => (hi + (lo + m - hl) % m, decide (lo < hl))
  | 12 => (h, false)
  | 13 => (hi + (lo * 2 % m + lo / (m / 2)), false)
  | _ => (g, false)

/-- X and Y after an entry's AOP (R117, R118): both read the values from before the entry; under CLINK, Y acts only when X
carries or borrows. -/
def aopStep (aop imm x y : Nat) : Nat × Nat :=
  let rx := genOp (bits aop 12 4) (genWidth (bits aop 4 4)) x y (imm % 2 ^ 24)
  let ry := genOp (bits aop 8 4) (genWidth (bits aop 0 4)) y x (imm / 2 ^ 24 % 2 ^ 24)
  (rx.1, if bit aop 16 && !rx.2 then y else ry.1)

/-! ## Data generator (R120–R122) -/

/-- A reserved combination of SRC, SUB and PARAM (R121, R129). -/
def dopReserved (dop : Nat) : Bool :=
  let src := bits dop 13 3
  let sub := bits dop 8 3
  let par := bits dop 0 8
  match src with
  | 0 | 1 => !(sub == 0 && par == 0)
  | 2 => !(decide (sub ≤ 4) && par == 0)
  | 3 => !(decide (sub < 4) && decide (par ≤ 2))
  | 4 => !decide (sub ≤ 3)
  | 5 => !decide (sub ≤ 2)
  | 6 => !decide (par < 8)
  | _ => true

/-- A reserved code in AOP or DOP (R129). -/
def codeReserved (e : Entry) : Bool :=
  decide (bits (eAop e) 12 4 ≥ 14) || decide (bits (eAop e) 8 4 ≥ 14) || dopReserved (eDop e)

/-- The degree of an LFSR polynomial and its feedback bit (R122). -/
def lfsrDegree (p : Nat) : Nat := match p with | 0 => 64 | 1 => 31 | 2 => 23 | _ => 15
def lfsrFeedback (p r : Nat) : Bool :=
  match p with
  | 0 => (bit r 63 != bit r 62) != (bit r 60 != bit r 59)
  | 1 => bit r 30 != bit r 27
  | 2 => bit r 22 != bit r 17
  | _ => bit r 14 != bit r 13

/-- k bit-times: the register (n bits) and the output bits, the first at the lowest place. -/
def lfsrRun (p : Nat) : Nat → Nat → Nat × Nat
  | 0, r => (r, 0)
  | k + 1, r =>
    let b := b2n (lfsrFeedback p r)
    let t := lfsrRun p k ((r * 2 + b) % 2 ^ lfsrDegree p)
    (t.1, b + 2 * t.2)

/-- What an LFSR action gives: the 64-bit D before MOD and the new 64-bit register (R122). -/
def lfsrAct (poly act imm lfsr : Nat) : Nat × Nat :=
  let n := lfsrDegree poly
  let hi := lfsr - lfsr % 2 ^ n
  let cur := lfsr % 2 ^ n
  match act with
  | 1 => let t := lfsrRun poly 64 cur; (t.2, hi + t.1)
  | 2 =>
    let v := (imm + imm % 2 ^ 16 * 2 ^ 48) % 2 ^ n
    let v := if v = 0 then 1 else v
    ((lfsrRun poly 64 v).2, hi + v)
  | _ => ((lfsrRun poly 64 cur).2, lfsr)

/-- A 16-bit pattern repeated four times. -/
def rep4 (v : Nat) : Nat := v % 2 ^ 16 * 0x0001000100010001

/-- MOD (R120). -/
def applyMod (md x y imm d : Nat) : Nat :=
  let inv := 2 ^ 64 - 1 - d % 2 ^ 64
  match md with
  | 1 => inv
  | 2 => if bit x 0 != bit y 0 then inv else d
  | 3 => d ^^^ rep4 imm
  | _ => d

/-- The index a TABLE read uses (R121). -/
def tableIndex (sub x y xs : Nat) : Nat :=
  match sub with
  | 0 => x % 4096 | 1 => y % 4096 | 2 => xs % 4096 | _ => x % 64 + y % 64 * 64

/-- The byte address of the TABLE word in the half's bank memory (R123). -/
def tableAddr (dop x y xs : Nat) : Nat := bits dop 0 8 * 0x20000 + 8 * tableIndex (bits dop 8 3) x y xs

/-- The byte address of the STREAM word in the half's DRAM (R124). -/
def streamAddr (dop x y xs : Nat) : Nat :=
  bits dop 0 8 * 0x10000000 + 8 * (match bits dop 8 3 with | 0 => x | 1 => y | _ => xs)

/-- XS from the scramble word T[X[11:0]] (R119). -/
def scramble (t x : Nat) : Nat := t % 4096 + (x / 4096 ^^^ t / 4096 % 4096) * 4096

/-- D before MOD for the sources that need no word from outside (R121); `ext` is the TABLE, STREAM or FABRIC word. -/
def dSource (dop imm x y xs lfsr ext : Nat) : Nat :=
  let sub := bits dop 8 3
  let par := bits dop 0 8
  match bits dop 13 3 with
  | 0 => rep4 imm
  | 1 => imm
  | 2 => match sub with
    | 0 => x + y * 2 ^ 24 | 1 => xs + y * 2 ^ 24 | 2 => rep4 x | 3 => rep4 y | _ => rep4 xs
  | 3 => (lfsrAct (sub % 4) (par % 4) imm lfsr).1
  | _ => ext

/-- The LFSR after an entry (R122). -/
def lfsrAfter (dop imm lfsr : Nat) : Nat :=
  if bits dop 13 3 = 3 then (lfsrAct (bits dop 8 3 % 4) (bits dop 0 8 % 4) imm lfsr).2 else lfsr

/-! ## Lanes and roles (R127–R130) -/

/-- One lane's 16 bits; a reserved source makes the whole byte act as 0x00 (R129). -/
def laneWord (b d x xs y : Nat) : Nat :=
  let src := b % 16
  let w := match src with
    | 1 => 0xFFFF | 2 => d | 3 => d / 2 ^ 16 | 4 => d / 2 ^ 32 | 5 => d / 2 ^ 48
    | 6 => x | 7 => x / 2 ^ 16 | 8 => xs | 9 => xs / 2 ^ 16 | 10 => y | 11 => y / 2 ^ 16
    | 12 => 0x5555 | _ => 0
  let w := w % 2 ^ 16
  if src ≥ 13 then 0 else if bit b 4 then 0xFFFF - w else w

/-- Rotated right by r (R130). -/
def rotR16 (w r : Nat) : Nat := (w / 2 ^ r + w * 2 ^ (16 - r)) % 2 ^ 16

/-- A reserved role acts as MASK (R129). -/
def roleOf (v : Nat) : Nat := if v ≥ 8 then 0 else v

/-- COMPARE, DRIVE_COMPARE or COMPARE_Z. -/
def isCompare (r : Nat) : Bool := r == 2 || r == 3 || r == 4

/-- The raw role nibble of a lane in a pin function set of slot n (R128, R131). -/
def State.roleRaw (s : State) (n fset lane : Nat) : Nat :=
  let b := (Memory.read s.fsets (n * 256 + 16 * fset + lane / 2)).toNat
  if lane % 2 = 0 then b % 16 else b / 16

/-- The lane byte of a lane map of slot n (R127, R131). -/
def State.laneByte (s : State) (n m lane : Nat) : Nat := (Memory.read s.lmaps (n * 1024 + 32 * m + lane)).toNat

/-- Scramble word T[i] of slot n (R119): i after reset. -/
def State.scrWord (s : State) (n i : Nat) : Nat := (Table.get none s.scr (n * 4096 + i)).getD i

/-- XS of a value X in slot n. -/
def State.xsOf (s : State) (n x : Nat) : Nat := scramble (s.scrWord n (x % 4096)) x

/-- The 32 lane bytes named by a vector, and its roles: is a reserved lane source or role among them (R129)? -/
def State.tableReserved (s : State) (n lmap fset : Nat) : Bool :=
  (List.range 32).any (fun l => decide (s.laneByte n lmap l % 16 ≥ 13) || decide (s.roleRaw n fset l ≥ 8))

/-- The role of channel c for a vector with pin function set FSET of slot n (R130, R133): MASK with EN = 0. -/
def State.chanRole (s : State) (n fset c : Nat) : Nat :=
  if s.selOn c then roleOf (s.roleRaw n fset (s.rd (F.VSW_SEL.LANE (selH c) (selC c)))) else 0

/-! ## Descriptors (R49–R54) -/

def dSeq (d : Desc) : Nat := bits d.toNat 0 64
def dType (d : Desc) : Nat := bits d.toNat 64 8
def dRerun (d : Desc) : Bool := bit d.toNat 72
def dIrq (d : Desc) : Bool := bit d.toNat 73
def dStartAt (d : Desc) : Bool := bit d.toNat 74
def dTag (d : Desc) : Nat := bits d.toNat 80 16
def dLeFirst (d : Desc) : Nat := bits d.toNat 128 7
def dLeCount (d : Desc) : Nat := bits d.toNat 135 7
def dGang (d : Desc) : Nat := bits d.toNat 142 3
def dSeqAddr (d : Desc) : Nat := bits d.toNat 160 17
def dStart (d : Desc) : Nat := bits d.toNat 192 64
def dResBase (d : Desc) : Nat := bits d.toNat 256 63
def dResDev (d : Desc) : Bool := bit d.toNat 319
def dResSize (d : Desc) : Nat := bits d.toNat 320 32 * 4096
def dWdog (d : Desc) : Nat := bits d.toNat 352 32
def dTable (d : Desc) : Nat := bits d.toNat 128 8
def dInst (d : Desc) : Nat := bits d.toNat 136 8
def dOffset (d : Desc) : Nat := bits d.toNat 160 32
def dLen (d : Desc) : Nat := bits d.toNat 192 32
def dSrc (d : Desc) : Nat := bits d.toNat 256 64
def dKind (d : Desc) : Nat := bits d.toNat 128 8
def dFirst (d : Desc) : Nat := bits d.toNat 136 8
def dCount (d : Desc) : Nat := bits d.toNat 144 16
def dTarget (d : Desc) : Nat := bits d.toNat 128 64

/-- A START_TIME: seconds and nanoseconds (R51). -/
def stSec (t : Nat) : Nat := t / 2 ^ 30
def stNs (t : Nat) : Nat := t % 2 ^ 30

/-- A control descriptor (R50). -/
def isCtl (t : Nat) : Bool := decide (0x10 ≤ t) && decide (t ≤ 0x13)

/-- Types of R50 that are not reserved. -/
def typeKnown (t : Nat) : Bool := (decide (1 ≤ t) && decide (t ≤ 4)) || isCtl t

/-- A reserved bit of the descriptor's layout is 1 (R49, R51–R54). The body of a NOP has no layout and is not checked. -/
def reservedSet (d : Desc) : Bool :=
  let v := d.toNat
  let t := dType d
  bits v 75 5 != 0 || bits v 96 32 != 0 || (t != 2 && bit v 74) ||
  (match t with
   | 2 => bits v 384 128 != 0 || bits v 177 15 != 0 || bits v 145 15 != 0
   | 1 => bits v 320 192 != 0 || bits v 224 32 != 0 || bits v 144 16 != 0
   | 3 => bits v 352 160 != 0 || bits v 160 96 != 0
   | 4 => false
   | 0x13 => bits v 256 256 != 0
   | _ => bits v 192 320 != 0)

/-- The size of a SETUP table in bytes (R52, R131, R134, R199). -/
def setupSize (t : Nat) : Nat :=
  match t with
  | 1 | 2 | 3 => 0x200000 | 4 => 0x800 | 5 => 0x400 | 6 => 0x100 | 7 => 0x4000 | 8 => 0x200 | _ => 2 ^ 32

/-- Instances a SETUP table has; the sequence memories and the register image take none. -/
def setupInsts (t : Nat) : Nat := match t with | 4 => 256 | 5 | 6 | 7 => 104 | 8 => 2 | _ => 256

/-- A RESULT_BASE breaks its form: 4 KiB aligned; a device address has no bit above 36 (R51, R235). -/
def resBaseBad (d : Desc) : Bool := dResBase d % 4096 != 0 || (dResDev d && decide (dResBase d ≥ 2 ^ 37))

/-- A field holds a reserved encoding or a value outside its range (R58; R51–R54, R80, R101, R195, R248). R53 gives COUNT a
range of its own; that instances beyond the last channel, slot or interface fail the range check too is the model's
(DESIGN CHOICE, log entry 35). -/
def rangeBad (d : Desc) : Bool :=
  match dType d with
  | 2 =>
    let g := 2 ^ dGang d
    decide (dGang d > 4) || dLeCount d == 0 || decide (dLeFirst d + dLeCount d > 96) ||
    decide (dLeFirst d % g ≠ 0) || decide (dLeCount d % g ≠ 0) ||
    (decide (dLeFirst d < 48) && decide (dLeFirst d + dLeCount d > 48) && decide (48 % g ≠ 0)) ||
    decide (stNs (dStart d) ≥ 1000000000) || inMonArea (dSeqAddr d) || resBaseBad d
  | 1 =>
    let t := dTable d
    t == 0 || decide (t > 9) || decide (dLen d % 64 ≠ 0) || decide (dLen d > 0x1000000) ||
    decide (dOffset d % 64 ≠ 0) || decide (dSrc d % 64 ≠ 0) || decide (dInst d ≥ setupInsts t) ||
    decide (dOffset d + dLen d > setupSize t) ||
    (decide (t ≤ 3) && decide (dOffset d + dLen d > 16 * 0x1FC00))
  | 3 =>
    let k := dKind d
    let n := match k with | 3 => 104 | 4 => 8 | _ => 256
    k == 0 || decide (k > 4) || dCount d == 0 || decide (dCount d > 256) || decide (dFirst d + dCount d > n) ||
    (k != 3 && (resBaseBad d || decide (dResSize d < dCount d * (if k = 4 then 16 else 64))))
  | 0x13 => decide (stNs (dStart d) ≥ 1000000000)
  | _ => false

/-- The DETAIL of the first failed check of R58, 0 when all pass. No field of a descriptor carries a setting that the
grade limits, so GRADE_LIMIT arises only in a job's writes (R3). `fn`: the function that owns the context (R55). -/
def checkDesc (fn : Nat) (d : Desc) : Nat :=
  if !typeKnown (dType d) then 1
  else if reservedSet d then 2
  else if rangeBad d then 4
  else if fn ≠ 0 && (dType d == 1 || dType d == 3) then 7
  else 0

end Sys2Proof.Machine
end

