-- ==== Sys2Proof/Machine/EngOps.lean ====
section
/-! DEFINITION. Operations on engine slots, jobs and fences that several families share: releasing a semaphore, failing a
job, raising a snapshot, the fence of a unit, and the degraded state. -/

namespace Sys2Proof.Machine

/-! ## Snapshot trigger (R434, R435) -/

/-- The timebase of half h. -/
def State.tbase (s : State) (h : Nat) : Tb := Table.get Tb.reset s.tb h

/-- A raise is taken: a new generation, stamped with the reference timebase (West's, which carries the time of both
halves, R385), on its way to every block. Under HOLD the snapshot after this one is not taken. -/
def State.takeSnap (s : State) (src : Nat) : State :=
  let b := s.tbase 0
  let s := { s with snap := { s.snap with due := true, srcs := 2 ^ src, ns := b.ns, sec := b.sec, lastTick := some s.ticks } }
  if s.on F.SNP_CTL.MODE then s.setOn F.SNP_STAT.HELD else s

/-- Raise SNAP from source src (0–5). Sources of one tick share a snapshot; a raise within 64 ticks of the previous one, or
under HOLD, is not taken and counts in MISSED. -/
def State.raiseSnap (s : State) (src : Nat) : State :=
  if bit (s.rd F.SNP_CTL.SRC_EN) src then
    match s.snap.lastTick with
    | some t =>
      if t = s.ticks ∧ s.snap.due then
        { s with snap := { s.snap with srcs := s.snap.srcs ||| 2 ^ src } }
      else if s.ticks < t + 64 ∨ s.on F.SNP_STAT.HELD then s.count F.SNP_STAT.MISSED
      else s.takeSnap src
    | none => if s.on F.SNP_STAT.HELD then s.count F.SNP_STAT.MISSED else s.takeSnap src
  else s

/-! ## Degraded operation (R432) -/

/-- Any of the conditions of R432 holds. A lone removed interface leaves NIF = 3, a half without DRAM NIF = 0. -/
def State.degraded (s : State) : Bool :=
  (List.range 96).any (fun le => s.slotOf le = none)
  || (List.range 32).any (fun g => s.isFenced (104 + g))
  || (List.range 2).any (fun h => s.rd (F.DMC_HALF.NIF h) ≠ 4)
  || (List.range 8).any (fun b => s.isFenced (144 + b))
  || (List.range 2).any (fun h => s.isFenced (216 + h))
  || (List.range 2).any (fun h => s.on (F.CFG_PRN_STAT.DISABLED h))
  || (List.range 2).any (fun h => s.on (F.BNK_COP_STAT.LOAN_LOST h))
  || s.on F.SUP_STAT.ECHO_LOST || s.on F.SUP_STAT.SIDEBAND_LOST
  || (List.range 2).any (fun h => s.rd (F.NOC_LINK.FAILED h 0) ≠ 0 || s.rd (F.NOC_LINK.FAILED h 1) ≠ 0)

/-- In service, GLB_STATE and SUP_STAT.DEGRADED follow the conditions of R432. -/
def State.updDegraded (s : State) : State :=
  if s.rd F.GLB_STATE.STATE = 7 ∨ s.rd F.GLB_STATE.STATE = 8 then
    let d := s.degraded
    (s.wr F.GLB_STATE.STATE (if d then 8 else 7)).wr F.SUP_STAT.DEGRADED (b2n d)
  else s

/-! ## Semaphores (R267–R269) -/

/-- The half address of semaphore i. -/
def semAddr (i : Nat) : Nat := 0x1FDC000 + 8 * i

/-- Acquire at the bank: success sets HELD, KIND, OWNER and increments COUNT. -/
def State.semAcquire (s : State) (h i kind owner : Nat) : Bool × State :=
  let w := s.bankRead h (semAddr i) 8
  if bit w 63 then (false, s)
  else (true, s.bankWrite h (semAddr i) 8 (2 ^ 63 + kind * 2 ^ 60 + owner * 2 ^ 32 + (w % 2 ^ 32 + 1) % 2 ^ 32))

/-- Release at the bank: only the owner clears HELD; otherwise SEM_OWNER. -/
def State.semRelease (s : State) (h i kind owner : Nat) : Bool × State :=
  let w := s.bankRead h (semAddr i) 8
  if bit w 63 ∧ bits w 60 3 = kind ∧ bits w 32 16 = owner then (true, s.bankWrite h (semAddr i) 8 (w % 2 ^ 63))
  else (false, s.setOn (F.BNK_ERR.SEM_OWNER h))

/-- The bay controller releases the semaphore an engine holds, as its owner (R269). -/
def State.dropSem (s : State) (n : Nat) : State :=
  match (s.eng n).sem with
  | none => s
  | some i =>
    let s := (s.semRelease (halfOfSlot n) i 0 n).2
    (s.updEng n (fun e => { e with sem := none })).clr (F.ENG_STAT.LOCKED n)

/-! ## Fail-buffer and sump occupancy -/

/-- Take k fail-buffer entries of bay b into USED, with PEAK. -/
def State.fpTake (s : State) (b k : Nat) : State :=
  let u := s.rd (F.FPU_FP_STAT.USED b) + k
  (s.wr (F.FPU_FP_STAT.USED b) u).peak (F.FPU_FP_STAT.PEAK b) u

/-- Give k of them back. -/
def State.fpGive (s : State) (b k : Nat) : State := s.wr (F.FPU_FP_STAT.USED b) (s.rd (F.FPU_FP_STAT.USED b) - k)

/-- Take and give sump records of slot n. -/
def State.sumpTake (s : State) (n k : Nat) : State :=
  let u := s.rd (F.FPU_SPX_SUMP.USED n) + k
  (s.wr (F.FPU_SPX_SUMP.USED n) u).peak (F.FPU_SPX_SUMP.PEAK n) u

def State.sumpGive (s : State) (n k : Nat) : State :=
  s.wr (F.FPU_SPX_SUMP.USED n) (s.rd (F.FPU_SPX_SUMP.USED n) - k)

/-- Free every reservation a vector of slot n holds. -/
def State.freeVec (s : State) (n : Nat) (v : Vec) : State :=
  ((s.sumpGive n v.sump.length).each v.fres (fun s r => s.fpGive r.1 1))

/-- A vector whose entry was in D in cycle c has left S by the end of cycle e − 1 (R98, R151). -/
def leftS (c e : Nat) : Bool := decide (c + 5 ≤ e)

/-! ## Jobs -/

/-- The job of context c that has the given sequence number. -/
def State.jobOf (s : State) (c q : Nat) : Option Job := (s.ctx c).jobs.find? (fun j => j.seq = q)

/-- The job at the front of context c: jobs of one context run one at a time, in order (R59). -/
def State.front (s : State) (c : Nat) : Option Job := (s.ctx c).jobs.head?

/-- Change the job with sequence number q of context c. -/
def State.updJob (s : State) (c q : Nat) (f : Job → Job) : State :=
  s.updCtx c (fun x => { x with jobs := x.jobs.map (fun j => if j.seq = q then f j else j) })

/-- Change the front job. -/
def State.updFront (s : State) (c : Nat) (f : Job → Job) : State :=
  s.updCtx c (fun x => { x with jobs := match x.jobs with | [] => [] | j :: t => f j :: t })

/-- Add a completion flag, bit 0 RERUN … bit 5 LATE_START (R62). -/
def Job.flag (j : Job) (k : Nat) : Job := { j with flags := j.flags ||| 2 ^ k }

/-- A lost fail mask stands in place of PASS or DUT_FAIL only (R245): the job goes on, and another cause goes before it. -/
def Job.settled (j : Job) : Bool := j.status.isSome && !(j.status == some 0x12 && j.detail == 0x20C)

/-- Give the job a status unless one is settled: the first cause decides, a result of PASS or DUT_FAIL the last. -/
def Job.fail (j : Job) (st det : Nat) : Job :=
  if j.settled || (j.status.isSome && decide (st ≤ 1)) then j else { j with status := some st, detail := det }

/-- The front job fails with a status and DETAIL while it goes on to its end. -/
def State.failFront (s : State) (c st det : Nat) : State := s.updFront c (fun j => j.fail st det)

/-- The front job is ready to be committed with a status and DETAIL. -/
def State.finishFront (s : State) (c st det : Nat) : State :=
  s.updFront c (fun j => { j.fail st det with phase := .done })

/-- Change the entry a job keeps of its logical engine le. -/
def State.updJobEng (s : State) (c le : Nat) (f : JobEng → JobEng) : State :=
  s.updFront c (fun j => { j with engs := j.engs.map (fun e => if e.le = le then f e else e) })

/-! ## Fences (R417–R420) -/

/-- A fence at the gates of unit u: STATE, CAUSE, FEP + 1 skipping 0 on wrap; the unit's own copy stays (R419). Of a unit that is
already fenced only FEP moves on (R521); its CAUSE stays the first fence's (log entry 41). Every fence is a fault event for the
snapshot trigger (R434). -/
def State.markFenced (s : State) (u cause : Nat) : State :=
  let e := (s.rd (F.SUP_UNIT_EPOCH.FEP u) + 1) % 2 ^ 32
  let s := if s.isFenced u then s else (s.wr (F.SUP_UNIT_STAT.STATE u) 1).wr (F.SUP_UNIT_STAT.CAUSE u) cause
  (s.wr (F.SUP_UNIT_EPOCH.FEP u) (if e = 0 then 1 else e)).raiseSnap 3

/-- The NI whose block side belongs to slot n: stop 4k of its half (see Machine/Noc.lean for the numbering). -/
def slotNi (n : Nat) : Nat := n % 52 / 13 * 13

/-- The spare for slot n (R422): its bay's default spare, else the SPARE slot of the nearest bay, the lower on a tie. -/
def State.spareFor (s : State) (n : Nat) : Option Nat :=
  let b := bayOfSlot n
  let free := (slotsOf (halfOfSlot n)).filter (fun m => s.slotState m == stSpare)
  let dist := fun (m : Nat) => let k := bayOfSlot m; if k < b then 2 * (b - k) - 1 else 2 * (k - b)
  if free.contains (13 * b + 12) then some (13 * b + 12)
  else match free with
    | [] => none
    | m :: ms => some (ms.foldl (fun best k => if dist k < dist best then k else best) m)

end Sys2Proof.Machine
end

