-- ==== Sys2Proof/Machine/DramOps.lean ====
section
/-! DEFINITION. LPDDR5X operations other families use: the interleave (R235, R236), a line as the requests ahead of a new
one leave it (R242), the effect of a write or read-OR-write on DRAM (R240, R245), and waking an interface (R253). -/

namespace Sys2Proof.Machine

/-- What the model keeps of interface n. -/
def State.dmc (s : State) (n : Nat) : DmcSt := Table.get DmcSt.reset s.dmcs n

def State.updDmc (s : State) (n : Nat) (f : DmcSt → DmcSt) : State :=
  { s with dmcs := Table.upd DmcSt.reset s.dmcs n f }

/-- The half's usable space with four interfaces, U = 4 × C × 15/16 (C in bytes): C is the capacity of those that have trained. -/
def State.fullU (s : State) (h : Nat) : Nat :=
  (List.range 4).foldl (fun c i => max c (s.rd (F.DMC_GEOM.CAP (4 * h + i)))) 0 * 2 ^ 30 * 15 / 4

/-- The half's current usable size (R250, R251). -/
def State.usable (s : State) (h : Nat) : Nat :=
  match s.rd (F.DMC_HALF.NIF h) with
  | 4 => s.fullU h
  | 3 => s.fullU h * 3 / 4
  | _ => 0

/-- nth(k): the k-th value of 0..3 other than d (R236). -/
def nthOther (d k : Nat) : Nat := if k < d then k else k + 1

/-- The interface of the half, and the local address, of half address a (R236); none beyond the usable size. -/
def State.dramMap (s : State) (h a : Nat) : Option (Nat × Nat) :=
  if a < s.usable h then
    let g := a / 256
    let i := g % 4
    let j := g / 4
    if s.rd (F.DMC_HALF.NIF h) = 3 ∧ i = s.rd (F.DMC_HALF.DEAD h) then
      let top := 3 * (s.fullU h / 256) / 4
      let m := 4 * (j / 3) + nthOther (s.rd (F.DMC_HALF.DEAD h)) (j % 3)
      some ((top + m) % 4, (top + m) / 4 * 256 + a % 256)
    else some (i, j * 256 + a % 256)
  else none

/-- The interface DM_n that a half address maps to; beyond the usable size, the one it would map to modulo the
interleave, where the error is recorded (R235). -/
def State.dramIf (s : State) (h a : Nat) : Nat :=
  match s.dramMap h a with | some p => 4 * h + p.1 | none => 4 * h + a / 256 % 4

/-- The error response of R235. -/
def State.dramAddrErr (s : State) (h a : Nat) : State := s.setOn (F.DMC_ERR.ADDR (s.dramIf h a))

/-- The device-reserved area of a half's DRAM (R237). -/
def dramReserved (a : Nat) : Bool := decide (a < 0x10000000)

/-- A granule that the fold of half h moved lost its contents: its lines are poisoned until written (R250). In a half that has run
folded since its start nothing was lost, and its lines read zero (R246, R453). -/
def State.foldMoved (s : State) (h a : Nat) : Bool :=
  s.rd (F.DMC_HALF.NIF h) == 3 && a / 256 % 4 == s.rd (F.DMC_HALF.DEAD h) && !Table.get false s.startFold h

/-- The place of a local data address L in the array of its interface (R238): 2 KiB blocks of 30 data lines and two check lines. -/
def dramPhys (L : Nat) : Nat := L / 1920 * 2048 + L % 1920

/-- The place of the 4 check bytes of the data line at L, in the same row (R238). -/
def dramCheckAt (L : Nat) : Nat := L / 1920 * 2048 + 1920 + 4 * (L % 1920 / 64)

/-- A poisoned line (R239): `poison` lists the lines that differ from what the fold leaves. -/
def State.poisoned (s : State) (h line : Nat) : Bool := Table.get (s.foldMoved h line) s.poison (dramKey h line)
def State.setPoison (s : State) (h line : Nat) (p : Bool) : State :=
  { s with poison := Table.set (s.foldMoved h line) s.poison (dramKey h line) p }

/-- The 64-bit mask of all bytes. -/
def fullMask : Nat := 2 ^ 64 - 1

/-- Spread a byte mask over 512 bits. -/
def spread : Nat → Nat → Nat
  | 0, _ => 0
  | n + 1, m => (if m % 2 = 1 then 255 else 0) + 256 * spread n (m / 2)

/-- A line's 512 bits after a request. -/
def DramOp.apply (o : DramOp) (line : Nat) : Nat :=
  match o.kind with
  | 1 => (o.data &&& spread 64 o.mask) ||| (line &&& (2 ^ 512 - 1 - spread 64 o.mask))
  | 2 => line ||| o.data
  | _ => line

/-- The line as a request entering now finds it: DRAM, then every pending write of the line in order (R242). -/
def State.lineView (s : State) (h line : Nat) : Nat :=
  let d := s.dmc (s.dramIf h line)
  ((d.q ++ d.held).filter (fun o => o.line = line)).foldl (fun v o => o.apply v) (s.dramRead h line 64)

/-- Whether a request entering now finds the line poisoned. -/
def State.poisonView (s : State) (h line : Nat) : Bool :=
  let d := s.dmc (s.dramIf h line)
  ((d.q ++ d.held).filter (fun o => o.line = line)).foldl
    (fun p o => p && !(o.kind == 1 && o.mask == fullMask)) (s.poisoned h line)

/-- n bytes from half address a as a read entering now finds them, none of them across a line. -/
def State.dramPeek (s : State) (h a n : Nat) : Nat :=
  s.lineView h (a / 64 * 64) / 256 ^ (a % 64) % 256 ^ n

/-- What a read of a line finds (R239): `bad`, an uncorrectable error or a poisoned line; otherwise good, or corrected. It is counted
and recorded. The read inside a read-modify-write or a read-OR-write is one too (DEDUCED, log entry 39). -/
def State.noteRead (s : State) (n line : Nat) (bad : Bool) (e : Ecc) : State :=
  if bad ∨ e = .bad then ((s.setOn (F.DMC_ERR.UE n)).count (F.DMC_UE.UE n)).wr (F.DMC_EADDR.EADDR n) line
  else if e = .corrected then ((s.setOn (F.DMC_ERR.CE n)).count (F.DMC_CE.CE n)).wr (F.DMC_EADDR.EADDR n) line
  else s

/-- A job loses its fail mask (R245): RESOURCE_LOST with DRAM_UE in place of PASS or DUT_FAIL. -/
def Job.loseMask (j : Job) : Job :=
  if j.status.isNone || j.status == some 0 || j.status == some 1 then { j with status := some 0x12, detail := 0x20C } else j

/-- A write or read-OR-write executes: the DRAM contents, poison (R239, R240, R245) and the counters. `e`: what the read of a
partial write or of a read-OR-write finds. A read-OR-write whose read is bad leaves the mask alone, poisoned, and the jobs that the
cache line carried lose their masks, if they are still held. -/
def State.dramExec (s : State) (h : Nat) (o : DramOp) (e : Ecc) : State :=
  let n := s.dramIf h o.line
  let part := o.kind == 2 || o.mask != fullMask
  let gone := s.poisoned h o.line
  let s := s.count (F.DMC_WR.WR n)
  let s := if part then (s.count (F.DMC_RD.RD n)).noteRead n o.line gone e else s
  let bad := part && (gone || e == .bad)
  match o.kind with
  | 1 =>
    let s := if part then s.count (F.DMC_RMW.RMW n) else s
    { s with dram := Memory.writeMasked s.dram (dramKey h o.line) 64 o.mask o.data }.setPoison h o.line bad
  | 2 =>
    let s := s.count (F.DMC_ROR.ROR n)
    if bad then
      let s := ((s.dramWrite h o.line 64 o.data).setPoison h o.line true).setOn (F.DMC_ERR.POISON_WR n)
      s.each o.jobs (fun s j => s.updJob j.1 j.2 Job.loseMask)
    else s.dramWrite h o.line 64 (s.dramRead h o.line 64 ||| o.data)
  | _ => s

/-- A free outcome of a read of DRAM. -/
def State.freeEcc (s : State) : Ecc × State :=
  let q := s.free 2
  (if q.1 = 0 then .clean else if q.1 = 1 then .corrected else .bad, q.2)

/-- Execute and remove every pending write of a line, in order (R242, R244); what their reads find is free. -/
def State.drainLine (s : State) (h line : Nat) : State :=
  let n := s.dramIf h line
  let ops := (s.dmc n).q.filter (fun o => o.line = line && o.kind ≠ 0)
  let s := s.updDmc n (fun d => { d with q := d.q.filter (fun o => !(o.line = line && o.kind ≠ 0)) })
  s.each ops (fun s o => let q := s.freeEcc; q.2.dramExec h o q.1)

/-- Drain every pending write of an interface, in order; `bad`: those whose read finds an uncorrectable error. -/
def State.drainAll (s : State) (n : Nat) (bad : List Nat) : State :=
  let d := s.dmc n
  let ops := d.q.filter (fun o => o.kind ≠ 0)
  let s := s.updDmc n (fun d => { d with q := d.q.filter (fun o => o.kind = 0) })
  s.each ops.zipIdx (fun s x => s.dramExec (n / 4) x.1 (if bad.contains x.2 then .bad else .clean))

def DmcSt.reads (d : DmcSt) : Nat := (d.q.filter (fun o => o.kind = 0)).length
def DmcSt.writes (d : DmcSt) : Nat := (d.q.filter (fun o => o.kind ≠ 0)).length

/-! ## Waking, switching and entering self-refresh (R243, R247, R252, R253) -/

/-- MCK_n is gated (R252, R254). -/
def State.mckGated (s : State) (n : Nat) : Bool := s.rd (F.DMC_STAT.STATE n) == 5

/-- An interface in self-refresh starts its exit (R253): at once, or after the entry or the loss of REFCLK that holds it. -/
def State.wakeDram (s : State) (n : Nat) : State :=
  let d := s.dmc n
  if d.entering ∨ (s.mckGated n ∧ d.refHold) then s.updDmc n (fun d => { d with wake := true })
  else if s.mckGated n then s.updDmc n (fun d => { d with exiting := true })
  else s

/-- The write queue has drained (R243): a switch relocks MCK_n; an entry gates it, and an exit asked for meanwhile starts. -/
def State.dmcDrained (s : State) (n : Nat) : State :=
  let d := s.dmc n
  if d.switching then s.clr (F.DMC_STAT.MCK_LOCK n)
  else if d.entering then
    ((s.updDmc n (fun d => { d with entering := false, enterReq := false, srAfter := false, wake := d.wake && d.refHold,
                                    exiting := d.wake && !d.refHold })).clr (F.DMC_SR.ENTER n)).wr (F.DMC_STAT.STATE n) 5
  else s

/-- What is left of a retraining pass is dropped with a RESULT (R249): 1 ABORTED, 2 DEFERRED. -/
def State.dropPass (s : State) (n res : Nat) : State :=
  if (s.dmc n).stepsLeft = 0 then s
  else (s.wr (F.DMC_TRAIN.RESULT n) res).updDmc n (fun d => { d with stepsLeft := 0, inStep := false })

/-- The writes that the queue holds now are to drain. -/
def State.dmcDrain (s : State) (n : Nat) : State :=
  let s := s.updDmc n (fun d => { d with drain := d.writes, inStep := false, stepsLeft := 0 })
  if (s.dmc n).drain = 0 then s.dmcDrained n else s

/-- The interface begins to enter self-refresh (R252): the write queue drains, MCK_n is gated, retraining is suspended. -/
def State.srEnter (s : State) (n : Nat) : State := (s.updDmc n (fun d => { d with entering := true })).dmcDrain n

/-- Does a job reference the DRAM of half h (R251)? -/
def jobRefsDram (d : Desc) (h : Nat) : Bool :=
  let dev := (dType d == 2 || (dType d == 3 && dKind d != 3)) && dResDev d && dResBase d / 2 ^ 36 % 2 == h
  match dType d with
  | 2 => dev || (decide (dLeFirst d < 48) && h == 0) || (decide (dLeFirst d + dLeCount d > 48) && h == 1)
  | 3 => dev || (dKind d == 4 && ((decide (dFirst d < 4) && h == 0) || (decide (dFirst d + dCount d > 4) && h == 1)))
  | _ => dev

/-- An accepted, uncommitted job references the DRAM of half h (R252). -/
def State.dramReferenced (s : State) (h : Nat) : Bool :=
  (List.range 64).any (fun c => (s.ctx c).jobs.any (fun j => jobRefsDram j.desc h))

end Sys2Proof.Machine
end

