-- ==== Sys2Proof/Machine/NocOps.lean ====
section
/-! DEFINITION. Network interfaces (R364–R385): the numbering of interfaces and stops, routes, the queues of an interface, and
the responses a target sends. -/

namespace Sys2Proof.Machine

/-! ## Interfaces and stops (R18, R364) -/

def niHalf (id : Nat) : Nat := id / 128
def niL (id : Nat) : Nat := id % 128

/-- The destination ID names an interface: IDs 181–183 and every reserved L name none. -/
def niExists (id : Nat) : Bool := decide (id < 256) && (decide (niL id ≤ 52) || (decide (niL id ≤ 55) && decide (id < 128)))

/-- The ring stop of an interface. -/
def niStop (id : Nat) : Nat :=
  let l := niL id
  if l < 32 then 4 * (l / 8) + 3
  else if l < 36 then 4 * (l - 32)
  else if l < 40 then 4 * (l - 36) + 1
  else if l < 44 then 4 * (l - 40) + 1
  else if l < 48 then 4 * (l - 44) + 2
  else if l = 48 then 16 else 17

/-- Interfaces by block: a fabric endpoint, a bay's engines, a DRAM controller, bank memory. -/
def niOfEndpoint (e : Nat) : Nat := 128 * (e / 32) + e % 32
def niOfBay (b : Nat) : Nat := 128 * (b / 4) + 32 + b % 4
def niOfDram (n : Nat) : Nat := 128 * (n / 4) + 44 + n % 4
def niOfBank (h : Nat) : Nat := 128 * h + 48
def niOfSup (h : Nat) : Nat := 128 * h + 49
def niIsEndpoint (id : Nat) : Bool := decide (niL id < 32)
def niEndpoint (id : Nat) : Nat := 32 * niHalf id + niL id

/-- The interfaces whose traffic uses MGMT after reset (R373). -/
def niMgmt (id : Nat) : Bool :=
  let l := niL id
  decide (40 ≤ l && l < 44) || l == 49 || l == 50 || l == 51

/-! ## Opcodes (R366) -/

/-- The physical network of an opcode: 0 REQ, 1 RSP, 2 SNP, 3 DAT. -/
def netOf (opc : Nat) : Option Nat :=
  if 1 ≤ opc ∧ opc ≤ 8 then some 0
  else if 0x40 ≤ opc ∧ opc ≤ 0x44 then some 1
  else if opc = 0x80 ∨ opc = 0x81 then some 2
  else if 0xC0 ≤ opc ∧ opc ≤ 0xC2 then some 3 else none

def isRequest (opc : Nat) : Bool := netOf opc == some 0

/-- A response of any kind (R371). -/
def isResponse (opc : Nat) : Bool := netOf opc == some 1 || opc == 0xC1 || opc == 0xC2

/-! ## Routes (R372, R373) -/

/-- Hops from stop a to stop b, clockwise and counter-clockwise; the shorter way, ties clockwise: (hops, direction). -/
def ringWay (a b : Nat) : Nat × Nat :=
  let cw := (b + 20 - a) % 20
  let ccw := (a + 20 - b) % 20
  if cw ≤ ccw then (cw, 0) else (ccw, 1)

/-- A route entry's fields as a number. -/
def routeWord (vn rdir rhops br xb dir hops : Nat) : Nat :=
  2 ^ 31 + vn * 2 ^ 14 + rdir * 2 ^ 13 + rhops * 2 ^ 8 + br * 2 ^ 7 + xb * 2 ^ 6 + dir * 2 ^ 5 + hops

/-- The entry after reset: the fewest hops in total, ties between bridges to stop 18. -/
def defaultRoute (t d : Nat) : Nat :=
  if !niExists d then 0
  else
    let vn := b2n (niMgmt t)
    if niHalf t = niHalf d then
      let w := ringWay (niStop t) (niStop d)
      routeWord vn 0 0 0 0 w.2 w.1
    else
      let via := fun (b : Nat) => (ringWay (niStop t) (18 + b), ringWay (18 + b) (niStop d))
      let a := via 0
      let b := via 1
      let pick := if a.1.1 + a.2.1 ≤ b.1.1 + b.2.1 then (0, a) else (1, b)
      routeWord vn pick.2.2.2 pick.2.2.1 pick.1 1 pick.2.1.2 pick.2.1.1

/-- An entry that acts as its reset value (R372). -/
def routeReserved (v : Nat) : Bool :=
  decide (bits v 0 5 ≥ 20) || decide (bits v 8 5 ≥ 20) || bits v 15 16 != 0

/-- The entry as written, and as it acts. -/
def State.routeRaw (s : State) (t d : Nat) : Nat := (Table.get none s.routes (t * 256 + d)).getD (defaultRoute t d)
def State.route (s : State) (t d : Nat) : Nat :=
  let v := s.routeRaw t d
  if routeReserved v then defaultRoute t d else v

def State.setRoute (s : State) (t d v : Nat) : State :=
  { s with routes := Table.set none s.routes (t * 256 + d) (if v = defaultRoute t d then none else some v) }

/-! ## Queues -/

def State.ni (s : State) (id : Nat) : NiSt := Table.get NiSt.reset s.nis id
def State.updNi (s : State) (id : Nat) (f : NiSt → NiSt) : State := { s with nis := Table.upd NiSt.reset s.nis id f }

/-- OPEN 0, DRAINING 1, FENCED 2 (R385). -/
def State.niState (s : State) (id : Nat) : Nat := s.rd (F.NOC_NI_STAT.STATE (niHalf id) (niL id))
def State.niFenced (s : State) (id : Nat) : Bool := s.niState id == 2

/-- OUT follows the outstanding requests. -/
def State.niOut (s : State) (id : Nat) : State :=
  s.wr (F.NOC_NI_STAT.OUT (niHalf id) (niL id)) (s.ni id).outst.length

def State.pushTx (s : State) (id : Nat) (p : Pkt) : State := s.updNi id (fun x => { x with txq := x.txq ++ [p] })
def State.pushRx (s : State) (id : Nat) (p : Pkt) : State := s.updNi id (fun x => { x with rxq := x.rxq ++ [p] })
/-- A response is handed to the block of the interface. -/
def State.handOver (s : State) (id : Nat) (p : Pkt) : State := s.updNi id (fun x => { x with got := x.got ++ [p] })

/-- A response is discarded and counted (R371, R377, R380). -/
def State.countLate (s : State) (id : Nat) : State := s.count (F.NOC_NI_ERR.LATE (niHalf id) (niL id))

/-- A response whose request a fence cut off is discarded: an endpoint counts it in its own register as well (R304, R307). -/
def State.countCut (s : State) (id : Nat) : State :=
  (s.countLate id).when (niIsEndpoint id) (fun s => s.count (F.FAB_NE_STAT.LATE (niEndpoint id)))

/-- An interface at release: its queues empty, every TAG free, its route table kept (R381). -/
def NiSt.released (x : NiSt) : NiSt := { NiSt.reset with stale := x.stale, cut := x.cut ++ x.outst.map (·.tag) }

/-- A response of interface `id` to request q. -/
def reply (id : Nat) (q : Pkt) (opc status addr data : Nat) : Pkt :=
  { opc := opc, src := id, dest := q.src, tag := q.tag, size := q.size, attr := status, route := 0, addr := addr, data := data }

/-- Interface `id` sends a response. -/
def State.answer (s : State) (id : Nat) (q : Pkt) (opc status addr data : Nat) : State :=
  s.pushTx id (reply id q opc status addr data)

/-- A NACK with a reason (R371). -/
def State.nack (s : State) (id : Nat) (q : Pkt) (reason : Nat) : State := s.answer id q 0x42 reason q.addr 0

/-- The source's own interface completes a request with a NACK (R377). -/
def State.localNack (s : State) (id : Nat) (q : Pkt) (reason : Nat) : State :=
  s.handOver id (reply id { q with src := id } 0x42 reason q.addr 0)

/-! ## Answers of the DRAM controllers -/

/-- The name under which a controller keeps a network read: the requester and its TAG. -/
def nocReadId (src tag : Nat) : Nat := 2 ^ 20 + src * 256 + tag

/-- The lowest bit of a mask, and its number of bits, over n bits. -/
def lowBit : Nat → Nat → Nat
  | 0, _ => 0
  | n + 1, m => if m % 2 = 1 then 0 else 1 + lowBit n (m / 2)
def popCount : Nat → Nat → Nat
  | 0, _ => 0
  | n + 1, m => m % 2 + popCount n (m / 2)

/-- A read of interface n returns to its requester: RDATA, or NACK with UE (0x05) or ADDR (0x04), to the network; the bytes, or all
ones and HOST_ERR, to a read of the DRAM window (R239). Other requesters take their data by commands of their own. -/
def State.dramAnswer (s : State) (n : Nat) (o : DramOp) (reason : Nat) : State :=
  match o.win with
  | some (r, at_, len) =>
    if reason = 0 then { s with bus := Table.set 0 s.bus r (o.data / 256 ^ at_ % 256 ^ len) }
    else { s with bus := Table.set 0 s.bus r 0xFFFFFFFF }.setOn (F.NOC_ERR.HOST_ERR (n / 4))
  | none =>
    if o.id < 2 ^ 20 then s
    else
      let id := niOfDram n
      let q : Pkt := { opc := 1, src := (o.id - 2 ^ 20) / 256, dest := id, tag := o.id % 256, size := popCount 64 o.mask,
                       attr := 0, route := 0, addr := o.line + lowBit 64 o.mask, data := 0 }
      if reason = 0 then s.answer id q 0xC1 0 q.addr o.data else s.nack id q reason

end Sys2Proof.Machine
end

