-- ==== Sys2Proof/Machine/DramQueue.lean ====
section
/-! DEFINITION. The queues of a DRAM controller (R239, R241, R242, R244): how a request enters, what a read returns, and the writes and
reads that the device itself makes. -/

namespace Sys2Proof.Machine

/-- The youngest pending write or read-OR-write of a line. -/
def DmcSt.youngest (d : DmcSt) (line : Nat) : Option DramOp := (d.q.filter (fun o => o.line = line && o.kind ≠ 0)).getLast?

/-- Change the youngest pending write of a line: the last one of the queue. -/
def changeLast (line : Nat) (f : DramOp → DramOp) (q : List DramOp) : List DramOp :=
  (q.foldr (fun o r => if !r.1 && o.line = line && o.kind ≠ 0 then (true, f o :: r.2) else (r.1, o :: r.2)) (false, [])).2

/-- A write or a read-OR-write of a line as it enters, and a read. -/
def dramWr (kind line mask data : Nat) (jobs : List (Nat × Nat)) : DramOp := ⟨kind, line, mask, data, jobs, 0, none, false, false⟩
def dramRd (line mask id : Nat) (win : Option (Nat × Nat × Nat)) : DramOp := ⟨0, line, mask, 0, [], id, win, false, false⟩

/-- A read returns (R239): the data, corrected or not, or an error. A corrected line is written back as a write right after the
read, unless a write of the line has entered since: it holds what was read already, so that the write back only counts. -/
def State.readReturn (s : State) (n : Nat) (o : DramOp) (e : Ecc) : State :=
  let s := s.noteRead n o.line o.bad e
  if o.bad ∨ e = .bad then s.dramAnswer n o 0x05
  else
    let s := if e = .corrected ∧ !o.since then s.count (F.DMC_WR.WR n) else s
    s.dramAnswer n o 0

/-- The queues of interface n have room for a request, or it merges into a pending one (R241, R244). -/
def DmcSt.room (d : DmcSt) (o : DramOp) : Bool :=
  if o.kind = 0 then decide (d.reads < 48)
  else decide (d.writes < 48) || (match d.youngest o.line with
    | some y => if o.kind = 1 then y.kind == 1 else y.kind == 2 || y.mask == fullMask
    | none => false)

def State.enqueue (s : State) (n : Nat) (o : DramOp) : State := s.updDmc n (fun d => { d with q := d.q ++ [o] })

/-- The reads of a line that are pending know that a write has entered since (R239). -/
def State.markSince (s : State) (n line : Nat) : State :=
  let f := fun (o : DramOp) => if o.line = line ∧ o.kind = 0 then { o with since := true } else o
  s.updDmc n (fun d => { d with q := d.q.map f, issued := d.issued.map f })

/-- A request enters the queues of its controller (R244): a read is served from a pending write that covers it, or queued with what it
will find; a write merges into a pending write, a read-OR-write into a full-line write or a read-OR-write. -/
def State.place (s : State) (h : Nat) (o : DramOp) : State :=
  let n := s.dramIf h o.line
  let q := (s.dmc n).q.filter (fun x => x.line = o.line)
  if o.kind = 0 then
    let data := q.foldl (fun v x => x.apply v) (s.dramRead h o.line 64)
    let bad := q.foldl (fun p x => p && !(x.kind == 1 && x.mask == fullMask)) (s.poisoned h o.line)
    match (s.dmc n).youngest o.line with
    | some y =>
      if y.kind = 1 ∧ y.mask &&& o.mask = o.mask then (s.count (F.DMC_FWD.FWD n)).dramAnswer n { o with data := data } 0
      else s.enqueue n { o with data := data, bad := bad }
    | none => s.enqueue n { o with data := data, bad := bad }
  else
    let s := s.markSince n o.line
    match (s.dmc n).youngest o.line with
    | some y =>
      if o.kind = 1 ∧ y.kind = 1 then
        s.updDmc n (fun d => { d with q := changeLast o.line (fun x =>
          { x with data := o.apply x.data, mask := x.mask ||| o.mask, jobs := x.jobs ++ o.jobs }) d.q })
      else if o.kind = 2 ∧ (y.kind = 2 ∨ y.mask = fullMask) then
        (s.updDmc n (fun d => { d with q := changeLast o.line (fun x =>
          { x with data := x.data ||| o.data, jobs := x.jobs ++ o.jobs }) d.q })).count (F.DMC_ROR.MERGED n)
      else s.enqueue n o
    | none => s.enqueue n o

/-- Requests that waited enter, in order, while there is room and MCK_n runs. -/
def State.letIn (s : State) (n : Nat) : State :=
  (s.dmc n).held.foldl (fun s o =>
    match (s.dmc n).held with
    | x :: _ =>
      if x = o ∧ !s.mckGated n ∧ (s.dmc n).room o then
        (s.updDmc n (fun d => { d with held := d.held.tail })).place (n / 4) o
      else s
    | [] => s) s

/-- A request reaches its controller and wakes it (R253): it enters, or waits behind others, for room, or for the exit. -/
def State.dramArrive (s : State) (h : Nat) (o : DramOp) : State :=
  let n := s.dramIf h o.line
  ((s.wakeDram n).updDmc n (fun d => { d with held := d.held ++ [o] })).letIn n

/-- A write or read-OR-write of a line is acknowledged at once (R241): MCK_n runs, nothing waits, and there is room. -/
def State.dramAccepts (s : State) (h line kind : Nat) : Bool :=
  let n := s.dramIf h line
  !s.mckGated n && (s.dmc n).held.isEmpty && (s.dmc n).room (dramWr kind line fullMask 0 [])

/-- A read of one line. A master with full access to the reserved area is a supervisor, the Pruner or the trace unit; what another's
read returns there is open but for the engines and the window, which read 0 (R237). -/
def State.dramReadReq (s : State) (h line mask id : Nat) (full : Bool) (win : Option (Nat × Nat × Nat)) : State :=
  let n := s.dramIf h line
  let o := dramRd line mask id win
  if line + 64 > s.usable h then (s.dramAddrErr h line).dramAnswer n o 0x04
  else if dramReserved line ∧ !full then
    let q := s.free 512
    q.2.dramAnswer n { o with data := q.1 } 0
  else s.dramArrive h o

/-- A write of one line; the reserved area discards that of a master without full access (R237). -/
def State.dramWriteReq (s : State) (h line mask data : Nat) (jobs : List (Nat × Nat)) (full : Bool) : State :=
  if line + 64 > s.usable h then s.dramAddrErr h line
  else if dramReserved line ∧ !full then s
  else s.dramArrive h (dramWr 1 line mask data jobs)

/-- A read-OR-write of one line. -/
def State.dramOrReq (s : State) (h line data : Nat) (jobs : List (Nat × Nat)) (full : Bool) : State :=
  if line + 64 > s.usable h then s.dramAddrErr h line
  else if dramReserved line ∧ !full then s
  else s.dramArrive h (dramWr 2 line fullMask data jobs)

/-- The jobs that the contexts of a mask have in front. -/
def State.jobsOf (s : State) (ctxs : Nat) : List (Nat × Nat) :=
  (List.range 64).filterMap (fun c => if bit ctxs c then (s.front c).map (fun j => (c, j.seq)) else none)

/-- A write of k bytes at half address a by the device itself (result area, trace packet, port): its lines' requests. -/
def State.dramPut (s : State) (h a k v : Nat) (full : Bool) : State :=
  if k = 0 then s
  else
    s.each ((List.range ((a + k - 1) / 64 - a / 64 + 1)).map (fun i => (a / 64 + i) * 64)) (fun s l =>
      let lo := max a l
      let n := min (a + k) (l + 64) - lo
      s.dramWriteReq h l ((2 ^ n - 1) * 2 ^ (lo - l)) (v / 256 ^ (lo - a) % 256 ^ n * 256 ^ (lo - l)) [] full)

/-- A write of the range is not acknowledged yet: it waits at its controller (R66, R241). -/
def State.dramUnacked (s : State) (h a k : Nat) : Bool :=
  (List.range 4).any (fun i => (s.dmc (4 * h + i)).held.any (fun o =>
    o.kind != 0 && decide (o.line < a + k) && decide (a < o.line + 64)))

/-- The interface of a line runs: no step, switch, entry or exit holds its requests (R243). -/
def State.dramRuns (s : State) (h line : Nat) : Bool :=
  let n := s.dramIf h line
  s.rd (F.DMC_STAT.STATE n) == 2 && !(s.dmc n).entering

/-- A read of bytes `mask` of a line that enters and returns within one command: what it returns, or none for an error (R235, R239).
Pending writes that do not cover it go first (R244). -/
def State.dramNow (s : State) (h line mask : Nat) (e : Ecc) : Option Nat × State :=
  let n := s.dramIf h line
  if line + 64 > s.usable h then (none, s.dramAddrErr h line)
  else
    let covers := match (s.dmc n).youngest line with | some y => y.kind == 1 && y.mask &&& mask == mask | none => false
    if covers then (some (s.lineView h line), s.count (F.DMC_FWD.FWD n))
    else
      let s := (s.drainLine h line).count (F.DMC_RD.RD n)
      let bad := s.poisonView h line || e == .bad
      let s := s.noteRead n line bad e
      if bad then (none, s) else (some (s.lineView h line), if e = .corrected then s.count (F.DMC_WR.WR n) else s)

end Sys2Proof.Machine
end

