-- ==== Sys2Proof/Machine/DebugOps.lean ====
section
/-! DEFINITION. Trace packets and comparators (R479–R484): what an engine entry, a stimulus write or a resolution sends to
the half's trace unit, and the debug requests that hits raise. -/

namespace Sys2Proof.Machine

/-- What the trace unit of half h keeps beside its registers. -/
def State.trc (s : State) (h : Nat) : TraceSt := Table.get TraceSt.reset s.trcs h
def State.updTrc (s : State) (h : Nat) (f : TraceSt → TraceSt) : State :=
  { s with trcs := Table.upd TraceSt.reset s.trcs h f }

/-- The fields of a trace packet that its source gives (R482). -/
structure Packet where
  origin : Nat
  slot   : Nat
  port   : Nat
  data   : Nat
  prov   : Bool
  tag    : Nat
  conf   : Bool
  deriving DecidableEq, Repr

/-- A packet is dropped: LOST counts it and a LOST packet will go ahead of the next one accepted (R483). -/
def State.dropPacket (s : State) (h : Nat) : State :=
  (s.count (F.DBG_TRC_STAT.LOST h)).updTrc h (fun t => { t with lost := t.lost + 1 })

/-- Put one packet at the destination (R482, R484), numbered and stamped; WRAPPED once a packet has been overwritten. -/
def State.emitPacket (s : State) (h : Nat) (p : Packet) : State :=
  let t := s.trc h
  let b := s.tbase h
  let word := t.seq % 256 + 2 ^ 8 * b2n p.conf + 2 ^ 9 * (p.tag % 64) + 2 ^ 15 * b2n p.prov + 2 ^ 16 * p.origin +
    2 ^ 20 * p.slot + 2 ^ 27 * (p.port % 32) + 2 ^ 32 * (b.sec % 4) + 2 ^ 34 * (b.ns % 2 ^ 30) + 2 ^ 64 * (p.data % 2 ^ 64)
  let s := s.updTrc h (fun t => { t with seq := (t.seq + 1) % 256 })
  if s.rd (F.DBG_TRC_CTL.DEST h) = 1 then
    let wp := s.rd (F.DBG_TRC_WP.WP h)
    let s := s.dramPut h (0x08000000 + 16 * wp) 16 word true
    let s := (s.updTrc h (fun t => { t with total := t.total + 1 })).wr (F.DBG_TRC_WP.WP h) ((wp + 1) % 2 ^ 22)
    if t.total ≥ 2 ^ 22 then s.setOn (F.DBG_TRC_WP.WRAPPED h) else s
  else s.updTrc h (fun t => { t with fifo := t.fifo ++ [word] })

/-- A destination has room for one more packet (R484). -/
def State.traceRoom (s : State) (h : Nat) : Bool :=
  match s.rd (F.DBG_TRC_CTL.DEST h) with
  | 1 => s.rd (F.DMC_HALF.NIF h) != 0 && !(s.on (F.DBG_TRC_CTL.MODE h) && decide ((s.trc h).total ≥ 2 ^ 22))
  | 2 => decide ((s.trc h).fifo.length < 256)
  | _ => false

/-- A packet reaches the trace unit (R483, R484): DEST OFF discards it uncounted; a destination without room drops it. -/
def State.tracePacket (s : State) (h : Nat) (p : Packet) : State :=
  let d := s.rd (F.DBG_TRC_CTL.DEST h)
  if d = 1 ∨ d = 2 then
    let s := if (s.trc h).lost ≠ 0 ∧ s.traceRoom h then
        let n := (s.trc h).lost
        (s.updTrc h (fun t => { t with lost := 0 })).emitPacket h ⟨7, 0, 0, n, false, 0, false⟩
      else s
    if (s.trc h).lost = 0 ∧ s.traceRoom h then s.emitPacket h p else s.dropPacket h
  else s

/-- The SYNC packet after CLR and whenever SEC changes (R482). -/
def State.traceSync (s : State) (h : Nat) : State :=
  s.tracePacket h ⟨6, 0, 0, (s.tbase h).sec, false, 0, false⟩

/-- CLR (R482, R487): the buffer and the FIFO are empty, WP is 0, and a SYNC packet follows. -/
def State.traceClear (s : State) (h : Nat) : State :=
  (((s.updTrc h (fun t => { t with total := 0, fifo := [] })).clr (F.DBG_TRC_WP.WP h)).clr (F.DBG_TRC_WP.WRAPPED h)).traceSync h

/-- A write to stimulus port p of slot n (R481): a packet when TRC_EN and the port's bit are set; a port disabled in
DBG_ENG_STIM_n discards it without a count. -/
def State.stimulus (s : State) (n p data origin : Nat) (prov : Option Nat) : State :=
  if s.on (F.DBG_ENG_CTL.TRC_EN n) ∧ bit (s.rd (F.DBG_ENG_STIM.EN n)) p then
    s.tracePacket (halfOfSlot n) ⟨origin, n, p, data, prov.isSome, prov.getD 0, false⟩
  else s

/-- A write into the stimulus window of slot n at offset off (R481); origin 1 host, 2 supervisor, 3 fabric. -/
def State.stimWrite (s : State) (n off size v origin : Nat) : State :=
  if off % 8 = 0 ∧ (size = 4 ∨ size = 8) then s.stimulus n (off / 8 % 32) (v % 2 ^ (8 * size)) origin none
  else s.count (F.DBG_TRC_STAT.LOST (halfOfSlot n))

/-- The marker packet of a resolved branch (R482). -/
def State.marker (s : State) (n tag : Nat) (conf : Bool) : State :=
  if s.on (F.DBG_ENG_CTL.TRC_EN n) then
    s.tracePacket (halfOfSlot n) ⟨5, n, 0, 0, false, tag, conf⟩
  else s

/-! ## Debug requests (R474) and comparators (R479, R480) -/

/-- A debug request reaches the gang of slot n (R474), with the ENTRY code it will report. -/
def State.reqGang (s : State) (n code : Nat) : State :=
  let l := s.leaderOf n
  s.each (s.gang l) (fun s m =>
    let s := if (s.eng m).dbgReq ∨ code = 2 then s else s.clr (F.DBG_ENG_STAT.HIT m)
    ((s.updEng m (fun e => if e.dbgReq then e else { e with dbgReq := true, dbgEntry := code })).setOn
      (F.DBG_ENG_STAT.PENDING m)).wr (F.ENG_IRQ.PEND m) (s.rd (F.ENG_IRQ.PEND m) ||| 32))

/-- With JOB = 1 the request reaches every engine of the job in both halves (R474). -/
def State.debugRequest (s : State) (n code : Nat) : State :=
  match (s.eng n).ctx with
  | some c => if s.on (F.DBG_ENG_CTL.JOB n) then s.each (s.jobLeaders c) (fun s m => s.reqGang m code) else s.reqGang n code
  | none => s.reqGang n code

/-- Does comparator k of slot n hit on a vector (kinds 1–4 and 6)? A FAIL comparator hits when a result is confirmed. -/
def State.cmpHit (s : State) (n k : Nat) (v : Vec) : Bool :=
  let a := s.rd (F.DBG_CMP_A.A n k)
  let b := s.rd (F.DBG_CMP_B.B n k)
  match s.rd (F.DBG_CMP_CFG.KIND n k) with
  | 1 => decide (a % 2 ^ 17 ≤ v.pc) && decide (v.pc ≤ b % 2 ^ 17)
  | 2 => v.cyc == b * 2 ^ 32 + a
  | 3 => decide (a % 2 ^ 24 ≤ v.x) && decide (v.x ≤ b % 2 ^ 24)
  | 4 => decide (a % 2 ^ 24 ≤ v.y) && decide (v.y ≤ b % 2 ^ 24)
  | 6 => (s.eng n).ctx == some (a % 64)
  | _ => false

/-- The actions of comparator k (R480): DEBUG, SNAP, TRACE. -/
def State.cmpAct (s : State) (n k pc cyc : Nat) : State :=
  let s := if s.on (F.DBG_CMP_CFG.DEBUG n k) && !(s.on (F.DBG_ENG_STAT.IN_MON n)) && !(s.eng (s.leaderOf n)).svc then
      let s := (((s.wr (F.DBG_ENG_HIT.PC n) pc).wr (F.DBG_ENG_HITCYC.CYCLE n) cyc).wr (F.DBG_ENG_STAT.HIT n)
        ((if (s.eng n).dbgReq then s.rd (F.DBG_ENG_STAT.HIT n) else 0) ||| 2 ^ k))
      s.debugRequest n 2
    else s
  let s := if s.on (F.DBG_CMP_CFG.SNAP n k) then s.raiseSnap 4 else s
  if s.on (F.DBG_CMP_CFG.TRACE n k) then
    s.tracePacket (halfOfSlot n) ⟨4, n, k, pc + k * 2 ^ 29 + cyc % 2 ^ 32 * 2 ^ 32, false, 0, false⟩
  else s

/-- Take the hits of one vector through the links of R480: AND needs both of a pair on the vector; THEN needs k + 1 within
WITHIN cycles after a hit of k (an open window); an odd comparator of a linked pair acts through its partner alone. A
reserved WITHIN of 0 under THEN never closes a pair. -/
def State.cmpLink (s : State) (n : Nat) (hits : Nat) (pc cyc : Nat) : State :=
  s.each (List.range 4) (fun s j =>
    let k := 2 * j
    let h0 := bit hits k
    let h1 := bit hits (k + 1)
    match s.eff (F.DBG_CMP_CFG.LINK n k) with
    | 1 => if h0 && h1 then s.cmpAct n k pc cyc else s
    | 2 =>
      let until_ := Table.get 0 (s.eng n).thenOpen k
      let s := if h1 && decide (until_ ≠ 0) && decide (cyc < until_) then s.cmpAct n k pc cyc else s
      if h0 then
        s.updEng n (fun e => { e with thenOpen := Table.set 0 e.thenOpen k (1 + cyc + s.rd (F.DBG_CMP_CFG.WITHIN n k)) })
      else s
    | _ =>
      let s := if h0 then s.cmpAct n k pc cyc else s
      if h1 then s.cmpAct n (k + 1) pc cyc else s)

/-- The comparators that hit on a vector, by bit. -/
def State.cmpHits (s : State) (n : Nat) (v : Vec) : Nat :=
  ((List.range 8).map (fun k => if s.cmpHit n k v then 2 ^ k else 0)).foldl (· + ·) 0

/-- A program entry's vector is evaluated as the entry enters D (R479); a provisional one is held until its branch resolves
(the caller evaluates it then). Entries of the monitor are never evaluated. -/
def State.onVector (s : State) (n : Nat) (v : Vec) : State :=
  if s.on (F.DBG_ENG_STAT.IN_MON n) then s else s.cmpLink n (s.cmpHits n v) v.pc v.cyc

/-- A confirmed failing result: the FAIL comparators whose sites it fails on (R479). Under AND the partner may have hit on
the same vector as the entry entered D, so its hit is taken again from the values the vector carried. -/
def State.onFail (s : State) (n : Nat) (site : Nat) (v : Vec) : State :=
  let fk := fun k =>
    let a := s.rd (F.DBG_CMP_A.A n k) % 2 ^ 16
    s.rd (F.DBG_CMP_CFG.KIND n k) == 5 && (a == 0 || bit a site)
  s.each (List.range 4) (fun s j =>
    let k := 2 * j
    if fk k || fk (k + 1) then
      let ones := fun (k : Nat) => if fk k then 2 ^ k else 0
      let both := fun (k : Nat) => if fk k || s.cmpHit n k v then 2 ^ k else 0
      let hits := if s.eff (F.DBG_CMP_CFG.LINK n k) = 1 then both k + both (k + 1) else ones k + ones (k + 1)
      s.cmpLink n hits v.pc v.cyc
    else s)

end Sys2Proof.Machine
end

