-- ==== Sys2Proof/Machine/ChanOps.lean ====
section
/-! DEFINITION. What a vector does at a channel's balls: drive events and formats (R173–R180), serial UIs (R181–R183), the PAUSE
role (R171), the instants at which a compare samples (R174, R180, R182), strobe groups and their bursts (R188–R190), and the
positions and expect codes of a compare (R203–R205). -/

namespace Sys2Proof.Machine

/-- UI per cycle of a channel (R197); reserved codes act as the reset value. -/
def State.uic (s : State) (c : Nat) : Nat := match s.eff (F.CHN_CFG.UIC c) with | 0 => 4 | 1 => 8 | _ => 16

/-- Serial mode. -/
def State.serial (s : State) (c : Nat) : Bool := s.eff (F.CHN_CFG.MODE c) == 1

/-- Grade: 0 is -16T, 1 is -12T (R1, GLB_ID). -/
def State.grade12 (s : State) : Bool := s.on F.GLB_ID.GRADE

/-- A serial rate of UIC × f_ECLK outside R181, with f_ECLK = 100 MHz × FW / 2^40. -/
def State.rateBad (s : State) (fw u : Nat) : Bool :=
  decide (u * fw * 100 < 2000 * 2 ^ 40) || decide (u * fw * 100 > (if s.grade12 then 12800 else 16000) * 2 ^ 40)

/-! ## Time at the balls (R173) -/

/-- A channel of slot n's engine, or of a port it paces. -/
def State.feeds (s : State) (n c : Nat) : Bool :=
  selH c == halfOfSlot n && (match s.selLe c with | some le => s.leOf n == le | none => false)

/-- The channels fed by slot n's engine or by a port it paces (R133, R137), in ascending order. -/
def State.fedBy (s : State) (n : Nat) : List Nat :=
  ((List.range 128).map (fun i => 128 * halfOfSlot n + i)).filter (s.feeds n)

/-- Instants are in units of 0.125 ps scaled by the frequency word FW, so that every comparison below is exact: one cycle of
ECLK is 80,000 / (FW / 2^40) units of 0.125 ps. -/
def cycUnits : Nat := 80000 * 2 ^ 40

/-- T_ref of the vector that leaves S in cycle t (R173): cycle t + 12 and 8,192 ps. -/
def tRef (fw t : Nat) : Nat := (t + 12) * cycUnits + 65536 * fw

/-- The frequency word of channel c's half, and one UI in the unit of tRef (R182). -/
def State.chFw (s : State) (c : Nat) : Nat := (s.clk (selH c)).fw
def State.chUi (s : State) (c : Nat) : Nat := cycUnits / s.uic c

/-! ## Timing sets and formats (R175–R178) -/

/-- A word of a timing set of channel c (R175). -/
def State.tsetWord (s : State) (c k w : Nat) : Nat := Memory.readN s.tsets (c * 2048 + 32 * k + 4 * w) 4

/-- A timing set that is used as its reset contents (R176). -/
def State.tsetReserved (s : State) (c k : Nat) : Bool :=
  let m := s.tsetWord c k 6
  decide (m % 16 > 4) || bits m 4 2 == 3 || bits m 6 26 != 0 || s.tsetWord c k 7 != 0 ||
  (List.range 6).any (fun w => decide (s.tsetWord c k w ≥ 2 ^ 17)) ||
  (bits m 4 2 == 2 && decide (s.tsetWord c k 5 ≤ s.tsetWord c k 4))

/-- An edge value and the mode word of the timing set in effect. -/
def State.tsetEff (s : State) (c k w : Nat) : Nat := if s.tsetReserved c k then 0 else s.tsetWord c k w

/-- The D events of a format (R178): (edge number 1–3, level). -/
def fmtEvents (fmt : Nat) (b0 b1 : Bool) : List (Nat × Bool) :=
  match fmt with
  | 1 => if b0 then [(1, true), (2, false)] else [(1, false)]
  | 2 => if b0 then [(1, true)] else [(1, false), (2, true)]
  | 3 => if b0 then [(1, false), (2, true), (3, false)] else [(1, true), (2, false), (3, true)]
  | 4 => [(1, b0), (2, b1)]
  | _ => [(1, b0)]

/-- Events before one another: by time; at equal times the later cycle, then the higher edge, comes last and wins (R179). -/
def ChEvent.before (a b : ChEvent) : Bool :=
  decide (a.time < b.time) || (a.time == b.time && (decide (a.cyc < b.cyc) || (a.cyc == b.cyc && decide (a.edge < b.edge))))

/-- Put an event among ordered ones. -/
def insertEvent (e : ChEvent) : List ChEvent → List ChEvent
  | [] => [e]
  | f :: t => if e.before f then e :: f :: t else f :: insertEvent e t

/-- Walk the events of one pair in order: of several at one time the last wins; a transition closer than `gap` to the one
before it moves to `gap` after it. Answers the events and how many transitions moved (R179). -/
def spaceEvents (gap : Nat) : List ChEvent → Option Nat → Bool → List ChEvent × Nat
  | [], _, _ => ([], 0)
  | e :: t, last, lvl =>
    let hidden := match t with | f :: _ => f.time == e.time | [] => false
    if hidden then spaceEvents gap t last lvl
    else if e.level = lvl then
      let r := spaceEvents gap t last lvl
      (e :: r.1, r.2)
    else
      match last with
      | some p =>
        if e.time < p + gap then
          let r := spaceEvents gap t (some (p + gap)) e.level
          ({ e with time := p + gap } :: r.1, r.2 + 1)
        else
          let r := spaceEvents gap t (some e.time) e.level
          (e :: r.1, r.2)
      | none =>
        let r := spaceEvents gap t (some e.time) e.level
        (e :: r.1, r.2)

/-- Channel data of a vector: the selected lane of the source (an engine's lane, or the port's word) rotated right by ROT
(R130). -/
def State.chanData (s : State) (n c : Nat) (v : Vec) : Nat :=
  let lane := s.rd (F.VSW_SEL.LANE (selH c) (selC c))
  let w := match s.selPort c with
    | some p => bits (Table.get 0 v.ports p) (16 * lane) 16
    | none => laneWord (s.laneByte n (eLmap v.entry) lane) v.d v.x v.xs v.y
  rotR16 w (s.rd (F.VSW_SEL.ROT (selH c) (selC c)))

/-! ## Events on the pairs (R170–R172, R179) -/

/-- The channel drives nothing whatever its role (R169): outside service, or before DONE was high in it (R170), fenced or out of
its rate (R172, R186), changing mode (R185), or after a loss of REFCLK until ECLK is re-aligned (R170). -/
def State.chanQuiet (s : State) (c : Nat) : Bool :=
  !s.drives || !(s.rd F.GLB_STATE.STATE == 7 || s.rd F.GLB_STATE.STATE == 8) || s.chFenced c ||
  s.on (F.CHN_STAT.MODE_CHG c) || (s.clk (selH c)).stopped

/-- E deasserted, D at 0, and no event to come. -/
def ChanSt.off (x : ChanSt) : ChanSt := { x with dLevel := false, eLevel := false, paused := false, events := [] }

/-- A channel that must not drive is off. -/
def State.quieten (s : State) (c : Nat) : State := if s.chanQuiet c then s.updChan c ChanSt.off else s

/-- The levels of D and E after the events scheduled before an instant have happened. -/
def ChanSt.settle (x : ChanSt) (t : Nat) : ChanSt :=
  let due := x.events.filter (fun e => e.time < t)
  due.foldl (fun x e => if e.pair = 0 then { x with dLevel := e.level } else { x with eLevel := e.level })
    { x with events := x.events.filter (fun e => !(e.time < t)) }

/-- The logic levels of D and E at an instant, and the levels at the ball, where CHN_CFG.INV inverts a pair (R167). -/
def State.driven (s : State) (c t : Nat) : Bool × Bool := let x := (s.chan c).settle (t + 1); (x.dLevel, x.eLevel)
def State.ballLevels (s : State) (c t : Nat) : Bool × Bool :=
  let v := s.driven c t
  let inv := s.rd (F.CHN_CFG.INV c)
  (v.1 != bit inv 0, v.2 != bit inv 1)

/-- Channel c with some events on its pairs, each in order: in cycle mode transitions closer than 250 ps are moved and counted
(R179); serial mode has no such rule (R183). -/
def State.putEvents (s : State) (c : Nat) (x : ChanSt) (d e : List ChEvent) : State :=
  if s.serial c then s.updChan c (fun _ => { x with events := d ++ e })
  else
    let rd := spaceEvents (2000 * s.chFw c) d none x.dLevel
    let re := spaceEvents (2000 * s.chFw c) e none x.eLevel
    let moved := rd.2 + re.2
    let s := if moved ≠ 0 then (s.setOn (F.CHN_STAT.EDGE_CLASH c)).count (F.CHN_STAT.CLASH_CNT c) moved else s
    s.updChan c (fun _ => { x with events := rd.1 ++ re.1 })

/-- The events of one pair. -/
def ChanSt.of (x : ChanSt) (pair : Nat) : List ChEvent := x.events.filter (fun e => e.pair = pair)

/-- The PAUSE role from the vector that leaves S in cycle t (R171): the events of earlier cycles at or after T_ref are cancelled
and PAUSE_DRV is applied at T_ref; a run of PAUSE cycles applies the policy once. A channel in loopback holds E (R197). -/
def State.pauseChan (s : State) (c t : Nat) : State :=
  if s.chanQuiet c then s.updChan c (fun x => { x.off with role := 7 })
  else if (s.chan c).paused then s
  else
    let p := s.rd (F.CHN_CFG.PAUSE_DRV c)
    let at_ := tRef (s.chFw c) t
    let x := { (s.chan c).settle (tRef (s.chFw c) (t - 16)) with role := 7, paused := true }
    let kept := fun (pair : Nat) => (x.of pair).filter (fun e => e.time < at_)
    let e := decide (p ≥ 2) && !s.on (F.CHN_CFG.LPBK c)
    s.putEvents c x (kept 0 ++ (if p ≥ 2 then [⟨at_, t, 0, 0, p == 3⟩] else []))
      (kept 1 ++ (if p = 0 then [] else [⟨at_, t, 0, 1, e⟩]))

/-- The MASK role of a channel without a source (R133, R137, R172): E is deasserted at each T0, D keeps its level. -/
def State.maskChan (s : State) (c : Nat) : State :=
  if s.chanQuiet c then s.updChan c (fun x => { x.off with role := 0 })
  else s.updChan c (fun x => { x with role := 0, paused := false, eLevel := false, events := x.of 0 })

/-- The PAUSE role of a channel for which every event has happened, its source at rest (R28, R171). -/
def State.pauseNow (s : State) (c : Nat) : State :=
  if s.chanQuiet c then s.updChan c (fun x => { x.off with role := 7 })
  else
    let p := s.rd (F.CHN_CFG.PAUSE_DRV c)
    s.updChan c (fun x =>
      let y := { x.settle (2 ^ 200) with events := [] }
      if y.paused then { y with role := 7 }
      else { y with
        role := 7, paused := true,
        eLevel := if p = 0 then y.eLevel else decide (p ≥ 2) && !s.on (F.CHN_CFG.LPBK c),
        dLevel := if p = 2 then false else if p = 3 then true else y.dLevel })

/-- The role of a channel whose source issues nothing: MASK without a source (R133, R137), PAUSE while its source is idle or its
slot is fenced (R84, R135, R171). -/
def State.restChan (s : State) (c : Nat) : State :=
  match s.selLe c with
  | none => s.maskChan c
  | some le => match s.slotOf le with
    | some n => if s.atRest n then s.pauseNow c else s.quieten c
    | none => s.pauseNow c

/-! ## Strobe groups (R188–R190) -/

/-- The source of group g of bay b, and its members. -/
def State.ssgSrc (s : State) (b g : Nat) : Nat := 32 * b + s.rd (F.CHN_SSG_CFG.SRC b g)
def State.ssgMembers (s : State) (b g : Nat) : List Nat :=
  ((List.range 32).map (fun c => 32 * b + c)).filter (fun c =>
    s.on (F.CHN_CFG.SSM c) && s.rd (F.CHN_CFG.SSG c) == g && c != s.ssgSrc b g)

/-- Member c breaks the rule: it or the source is not in serial mode, or their UIC differ. -/
def State.ssgBroken (s : State) (b g c : Nat) : Bool :=
  let q := s.ssgSrc b g
  !s.serial q || !s.serial c || s.uic c != s.uic q

/-- Members that break the rule set SS_CFG. -/
def State.updSsg (s : State) (b : Nat) : State :=
  s.each (List.range 4) (fun s g =>
    if s.on (F.CHN_SSG_CFG.EN b g) then
      s.each ((s.ssgMembers b g).filter (s.ssgBroken b g)) (fun s c => s.setOn (F.CHN_STAT.SS_CFG c))
    else s)

/-- The enabled group against whose strobe channel c samples: its number within the bay. -/
def State.ssgOf (s : State) (c : Nat) : Option Nat :=
  let b := bayOfChan c
  let g := s.rd (F.CHN_CFG.SSG c)
  if s.on (F.CHN_SSG_CFG.EN b g) && (s.ssgMembers b g).contains c && !s.ssgBroken b g c then some g else none

def State.ssg (s : State) (b g : Nat) : SsgSt := Table.get SsgSt.reset s.ssgs (4 * b + g)
def State.setSsg (s : State) (b g : Nat) (x : SsgSt) : State := { s with ssgs := Table.set SsgSt.reset s.ssgs (4 * b + g) x }

/-- Channel c compares in cycle t at S: a burst goes on, or a new one begins after a cycle without a compare (R189). -/
def joinBurst (c t : Nat) : List Burst → List Burst
  | [] => [⟨t, 1, [(c, t)], false⟩]
  | b :: bs =>
    if t ≤ b.first + b.len ∧ (bs.isEmpty ∨ t < b.first + b.len) then
      { b with len := max b.len (t + 1 - b.first), cmps := b.cmps ++ [(c, t)] } :: bs
    else b :: joinBurst c t bs

/-- MISS and SS_MISS for some UIs of the compares of some members (R190). -/
def State.noteMiss (s : State) (b g uis : Nat) (cs : List Nat) : State :=
  (if uis = 0 then s else s.each cs (fun s c => s.setOn (F.CHN_STAT.SS_MISS c))).count (F.CHN_SSG_STAT.MISS b g) uis

/-- A member's compare takes its place in its group's bursts; one that a deadline has closed has no edge for it. -/
def State.noteCompare (s : State) (c t : Nat) : State :=
  match s.ssgOf c with
  | none => s
  | some g =>
    let b := bayOfChan c
    let x := s.ssg b g
    let new := joinBurst c t x.bursts
    let uis := fun (l : List Burst) => ((l.filter (·.shut)).map (·.len)).foldl (· + ·) 0 * s.uic c
    let lost := new.any (fun q => q.shut && q.cmps.contains (c, t))
    (s.setSsg b g { x with bursts := new }).noteMiss b g (if lost then uis new - uis x.bursts else 0) (if lost then [c] else [])

/-- The times of a group's rules (R189, R190): T_ref's frequency word, one UI, UIs per cycle, LEAD, WIN_OPEN, WIN_CLOSE. -/
structure SsgPar where
  fw    : Nat
  ui    : Nat
  uic   : Nat
  lead  : Nat
  opens : Nat
  shuts : Nat
  deriving DecidableEq, Repr

def State.ssgPar (s : State) (b g : Nat) : SsgPar :=
  let q := s.ssgSrc b g
  ⟨s.chFw q, s.chUi q, s.uic q, s.rd (F.CHN_SSG_CFG.LEAD b g), s.rd (F.CHN_SSG_CFG.WIN_OPEN b g), s.rd (F.CHN_SSG_CFG.WIN_CLOSE b g)⟩

/-- A burst with the LEAD edges it has skipped and the edges it has been given, the earliest first. -/
structure BurstGot where
  burst : Burst
  skip  : Nat
  got   : List Nat
  deriving DecidableEq, Repr

/-- The UIs of a burst so far, and T_ref of its first cycle plus k UIs. -/
def BurstGot.uis (p : SsgPar) (b : BurstGot) : Nat := b.burst.len * p.uic
def BurstGot.at (p : SsgPar) (b : BurstGot) (k : Nat) : Nat := tRef p.fw b.burst.first + k * p.ui

/-- At an instant the burst waits for no further edge: it has them all, its first edge is late, or its last deadline is past. -/
def BurstGot.over (p : SsgPar) (b : BurstGot) (t : Nat) : Bool :=
  decide (b.got.length ≥ b.uis p) || (b.skip == 0 && b.got.isEmpty && decide (b.at p p.shuts < t)) ||
  decide (b.at p (p.shuts + b.uis p) < t)

/-- An edge meets the bursts, the oldest first: the first that still waits takes it once its window is open, as one of the LEAD
edges or as the edge of its next UI (R189). -/
def takeEdge (p : SsgPar) (t : Nat) : List BurstGot → List BurstGot
  | [] => []
  | b :: bs =>
    if b.over p t then b :: takeEdge p t bs
    else if t < b.at p p.opens then b :: bs
    else if b.skip < p.lead then { b with skip := b.skip + 1 } :: bs
    else { b with got := b.got ++ [t] } :: bs

/-- The edges of a strobe meet the bursts in order; edges after a burst's last that no burst takes are extra (R190). -/
def runEdges (p : SsgPar) (es : List Nat) (bs : List Burst) : List BurstGot × Nat :=
  es.foldl (fun r t =>
    let n := takeEdge p t r.1
    (n, if n == r.1 && r.1.any (fun b => decide (b.got.length ≥ b.uis p)) then r.2 + 1 else r.2))
    (bs.map (fun b => ⟨b, 0, []⟩), 0)

/-- The bursts of a group with their edges, and its extra edges: rising edges only when EDGE = 1. -/
def State.ssgRun (s : State) (b g : Nat) : List BurstGot × Nat :=
  let x := s.ssg b g
  runEdges (s.ssgPar b g) ((x.edges.filter (fun e => e.2 || !s.on (F.CHN_SSG_CFG.EDGE b g))).map (·.1)) x.bursts

/-- The level of a waveform at an instant. -/
def waveLevel (w : Wave) (t : Nat) : Bool := w.start != ((w.at_.filter (fun e => decide (e ≤ t))).length % 2 == 1)

/-- The strobe's edges that have arrived since: those of the source's H after the last one known (R188), and the extra edges
among them (R190). -/
def State.noteEdges (s : State) (b g : Nat) (w : Wave) : State :=
  let x := s.ssg b g
  let inv := bit (s.rd (F.CHN_CFG.INV (s.ssgSrc b g))) 2
  let known := match x.edges.getLast? with | some e => e.1 | none => 0
  let new := (w.at_.filter (fun t => decide (known < t))).map (fun t => (t, waveLevel w t != inv))
  let s := s.setSsg b g { x with edges := x.edges ++ new }
  let k := (s.ssgRun b g).2
  (s.setSsg b g { s.ssg b g with extra := max x.extra k }).count (F.CHN_SSG_STAT.EXTRA b g) (k - x.extra)

/-- The burst of a group that holds cycle t. -/
def State.burstAt (s : State) (b g t : Nat) : Option BurstGot :=
  (s.ssgRun b g).1.find? (fun q => decide (q.burst.first ≤ t) && decide (t < q.burst.first + q.burst.len))

/-! ## A vector at a channel (R173–R183) -/

/-- The vector of slot n, leaving S, reaches channel c. In serial mode the timing set is ignored, and no event spills into a
later cycle. -/
def State.driveChan (s : State) (n c : Nat) (v : Vec) : State :=
  let role := s.chanRole n (eFset v.entry) c
  let k := eTset v.entry
  let t := v.clk + 4
  let s := if !s.serial c && s.tsetReserved c k then s.setOn (F.CHN_STAT.RSV_TSET c) else s
  let s := if isCompare role then s.noteCompare c t else s
  if s.chanQuiet c then s.updChan c (fun x => { x.off with role := role })
  else if role = 7 then s.pauseChan c t
  else
    let data := s.chanData n c v
    let fw := s.chFw c
    let t0 := tRef fw t + s.rd (F.CHN_DSK.DSK_DRV c) * fw
    let drives := role == 1 || role == 3 || role == 5 || role == 6
    let eOn := drives && !s.on (F.CHN_CFG.LPBK c)
    let x := { s.chan c with role := role, paused := false }
    if s.serial c then
      let lvl := fun (i : Nat) => if role = 5 then false else if role = 6 then true else bit data i
      let d := if drives then (List.range (s.uic c)).map (fun i => (⟨t0 + i * s.chUi c, t, i, 0, lvl i⟩ : ChEvent)) else []
      let x := x.settle t0
      s.putEvents c x (x.of 0 ++ d) (x.of 1 ++ [⟨t0, t, 0, 1, eOn⟩])
    else
      let at_ := fun i => t0 + s.tsetEff c k i * fw
      let d := if role = 5 then [(1, false)] else if role = 6 then [(1, true)]
        else if drives then fmtEvents (s.tsetEff c k 6 % 16) (bit data 0) (bit data 1) else []
      let x := x.settle (tRef fw (t - 16))
      let put := fun (l : List ChEvent) (i pair : Nat) (b : Bool) => insertEvent ⟨at_ i, t, i, pair, b⟩ l
      s.putEvents c x (d.foldl (fun l e => put l e.1 0 e.2) (x.of 0)) (put (x.of 1) 0 1 eOn)

/-! ## From S to the channels (R84, R98) -/

/-- Every channel of slot n's engine takes the PAUSE role from the vector that leaves S in cycle t (R84, R171). -/
def State.pauseAt (s : State) (n t : Nat) : State := s.each (s.fedBy n) (fun s c => s.pauseChan c t)

/-- What leaves S reaches the channels of slot n; SNAPT raises the SNAP trigger (R84). -/
def State.sentOut (s : State) (n : Nat) (p : Sent) : State :=
  let s := match p.vec with
    | none => s.pauseAt n (p.clk + 4)
    | some v => s.each (s.fedBy n) (fun s c => s.driveChan n c v)
  if p.snap then s.raiseSnap 0 else s

/-- Everything of slot n that has left S by its clock goes out. -/
def State.drainPipe (s : State) (n : Nat) : State :=
  let e := s.eng n
  (s.updEng n (fun e => { e with pipe := e.pipe.filter (fun p => !leftS p.clk e.clock) })).each
    (e.pipe.filter (fun p => leftS p.clk e.clock)) (fun s p => s.sentOut n p)

/-- Slot n sends nothing more: what has not left S is dropped, and pause vectors follow at once. -/
def State.pauseFed (s : State) (n : Nat) : State :=
  (s.updEng n (fun e => { e with pipe := [] })).pauseAt n (s.eng n).clock

/-! ## Expect codes (R203–R205) -/

/-- Positions of a compare: one in EDGE and WINDOW, two in DUAL, UIC in serial mode (R205). -/
def State.positions (s : State) (c tset : Nat) : Nat :=
  if s.serial c then s.uic c else if bits (s.tsetEff c tset 6) 4 2 = 1 then 2 else 1

/-- A level from its H and L values (R202): 0 LOW, 1 HIGH, 2 BETWEEN, 3 INVALID (the codes of R212). -/
def levelOf (h l : Bool) : Nat := if h && l then 3 else if h then 1 else if l then 0 else 2

/-- Does a level fail an expect (R203)? expect: 0 L, 1 H, 2 Z. -/
def expectFails (ex level : Nat) : Bool := ex != level

/-! ## Sampling instants (R174, R180, R182, R189) -/

/-- The instant of strobe word w (4: C0, 5: C1) of a cycle-mode vector that leaves S in cycle t. -/
def State.strobeAt (s : State) (c tset t w : Nat) : Nat :=
  tRef (s.chFw c) t + (s.tsetEff c tset w + s.rd (F.CHN_DSK.DSK_CMP c)) * s.chFw c

/-- The instant of UI k by R182. -/
def State.uiAt (s : State) (c t k : Nat) : Nat :=
  tRef (s.chFw c) t + (k * 64 + s.rd (F.CHN_DSK.SPH c)) * s.chUi c / 64 + s.rd (F.CHN_DSK.DSK_CMP c) * s.chFw c

/-- When a position is sampled: at an instant, never (its strobe edge is missing, R190), or its edge is still to come. -/
inductive Instant | at (t : Nat) | missing | later
  deriving DecidableEq, Repr

/-- The instant of position k of channel c for a vector that leaves S in cycle t. -/
def State.instant (s : State) (c tset t k : Nat) : Instant :=
  if s.serial c then
    match s.ssgOf c with
    | none => .at (s.uiAt c t k)
    | some g =>
      let b := bayOfChan c
      match s.burstAt b g t with
      | none => .later
      | some q =>
        match q.got[(t - q.burst.first) * s.uic c + k]? with
        | some e => .at (e + (s.rd (F.CHN_SSG_DLY.DLY b g) + s.rd (F.CHN_DSK.DSK_CMP c)) * s.chFw c)
        | none => if q.burst.shut then .missing else .later
  else .at (s.strobeAt c tset t (4 + k))

end Sys2Proof.Machine
end

