-- ==== Sys2Proof/Machine/StreamOps.lean ====
section
/-! DEFINITION. The fabric fail streams (R223–R225) and the calibration unit's arithmetic (R191, R192, R196). -/

namespace Sys2Proof.Machine

/-! ## Fabric clocks (R290–R292) -/

/-- What the model keeps of generator g of half h. -/
def State.fcg (s : State) (h g : Nat) : FcgSt := Table.get FcgSt.reset s.fcgs (4 * h + g)

/-- GCLK_k of half h runs: its generator is enabled and locked, and its output is on. -/
def State.gclkOn (s : State) (h k : Nat) : Bool :=
  s.on (F.FAB_FCG_CFG.EN h (k / 4)) && s.on (F.FAB_FCG_STAT.LOCKED h (k / 4)) && !(s.fcg h (k / 4)).low &&
    bits (s.fcg h (k / 4)).div (8 * (k % 4)) 8 != 0

/-! ## Fail streams (R223–R225, R232) -/

def streamLevel (x : BaySt) : Nat := x.stream.length

/-- Words of the stream buffer that are neither used nor reserved for tokens. -/
def BaySt.room (x : BaySt) : Nat := 1024 - (x.stream.length + x.tokens.length)

/-- The stream of bay b takes words: enabled, and its fabric end not fenced. -/
def State.streamOn (s : State) (b : Nat) : Bool := s.on (F.FPU_FFS_CTL.EN b) && !(s.bay b).down

/-- Words of the stream buffer pass to the queue of 32 towards the fabric while it has room (R25, R223); LEVEL follows. That no
cycle lies between is the model's (DESIGN CHOICE, log entry 36). -/
def State.setLevel (s : State) (b : Nat) : State :=
  let s := s.updBay b (fun x =>
    let k := 32 - x.ffq.length
    { x with ffq := x.ffq ++ x.stream.take k, stream := x.stream.drop k })
  s.wr (F.FPU_FFS_STAT.LEVEL b) (s.bay b).stream.length

/-- A word is dropped: counted, and remembered for the next DROP mark. -/
def State.dropWord (s : State) (b : Nat) (prov : Bool) : State :=
  (s.count (F.FPU_FFS_STAT.DROP b)).updBay b (fun x => { x with dropped := x.dropped + 1, dropProv := x.dropProv || prov })

/-- The DROP mark that goes ahead of the next admitted word, also of the first one after the stream returns. -/
def dropMark (x : BaySt) : List StreamWord :=
  if x.dropped = 0 ∧ !x.back then [] else [⟨3, min (2 ^ 32 - 1) x.dropped + 2 ^ 32 * b2n x.dropProv⟩]

/-- A record or mark, as a DROP mark counts it, and whether it is provisional. -/
def StreamWord.counts (w : StreamWord) : Bool := w.kind == 0 || (w.kind == 3 && bits w.word 124 4 != 0)
def StreamWord.isProv (w : StreamWord) : Bool := w.kind == 0 && bit w.word 0

/-- The stream is disabled, or its fabric end fenced: its words are discarded and counted, and the tokens reserved for them go with
them; the first word after it returns is a DROP mark (R225). -/
def State.cutStream (s : State) (b : Nat) : State :=
  let x := s.bay b
  let ws := x.ffq ++ x.stream
  ((s.count (F.FPU_FFS_STAT.DROP b) ws.length).updBay b (fun x => { x with
    ffq := [], stream := [], tokens := [], back := true,
    dropped := x.dropped + (ws.filter (·.counts)).length, dropProv := x.dropProv || ws.any (·.isProv) })).setLevel b

/-- Admit a word that needs `need` free words, a pending DROP mark going first; drop it otherwise. -/
def State.streamPut (s : State) (b need : Nat) (w : StreamWord) (prov : Bool) (tok : Option (Nat × Nat)) : State :=
  let x := s.bay b
  let mark := dropMark x
  if s.streamOn b ∧ need + mark.length ≤ x.room then
    (s.updBay b (fun x => { x with
      stream := x.stream ++ mark ++ [w], dropped := 0, dropProv := false, back := false,
      tokens := match tok with | some t => x.tokens ++ [t] | none => x.tokens })).setLevel b
  else s.dropWord b prov

/-- A MARK word of a job: MTYPE 1 JOB_START, 2 JOB_END (R224). -/
def State.jobMark (s : State) (b mtype le ctx sq : Nat) : State :=
  s.streamPut b 1 ⟨3, mtype * 2 ^ 124 + le * 2 ^ 7 + ctx * 2 ^ 16 + sq % 2 ^ 64 * 2 ^ 22⟩ false none

/-- A RECORD of slot n (R225): a provisional one also needs a word for its token unless that is already reserved. -/
def State.streamRecord (s : State) (b n : Nat) (word : Nat) (tag : Option Nat) : State :=
  match tag with
  | none => s.streamPut b 1 ⟨0, word⟩ false none
  | some t =>
    if (s.bay b).tokens.contains (n, t) then s.streamPut b 1 ⟨0, word⟩ true none
    else s.streamPut b 2 ⟨0, word⟩ true (some (n, t))

/-- A tag of slot n resolves: its token takes its reserved word (R225); the words of a record that was discarded have none. -/
def State.streamToken (s : State) (n le tag : Nat) (conf : Bool) : State :=
  s.each (List.range 8) (fun s b =>
    if (s.bay b).tokens.contains (n, tag) then
      (s.updBay b (fun x => { x with
        tokens := x.tokens.erase (n, tag),
        stream := x.stream ++ [⟨if conf then 1 else 2, le * 2 ^ 7 + tag * 2⟩] })).setLevel b
    else s)

/-! ## Calibration (R191, R192, R196, R201) -/

/-- The factory record of channel c (R196): taken at 60 °C; BASE_p and TC_p are the part's own (log entry 3). -/
def factoryCal (c : Nat) : CalRec :=
  ⟨[0, 0, 0, 0], [0, 0, 0, 0], 8 * (c / 32) + c % 32 / 4, 960, [0, 0, 0, 0]⟩

def State.calRec (s : State) (c : Nat) : CalRec := (Table.get none s.calRecs c).getD (factoryCal c)

def State.setCal (s : State) (c : Nat) (r : CalRec) : State :=
  { s with calRecs := Table.set none s.calRecs c (some r) }

/-- A signed reading of w bits. -/
def signed (w v : Nat) : Int := if v % 2 ^ w ≥ 2 ^ (w - 1) then (v % 2 ^ w : Nat) - (2 ^ w : Int) else (v % 2 ^ w : Nat)

/-- The reading of sensor k (0–63), and whether it is marked bad. -/
def State.temp (s : State) (k : Nat) : Int := signed 12 (s.rd (F.CHN_TSENS.TEMP (k / 8) (k % 8)))
def State.sensBad (s : State) (k : Nat) : Bool := bit (s.rd (F.CHN_CAL_STAT.SENS_BAD (k / 8))) (k % 8)

/-- OFS_p before the clamp (R191), rounding half up. -/
def ofsOf (r : CalRec) (p : Nat) (t : Int) : Int :=
  ((r.base.getD p 0 : Nat) : Int) + (signed 16 (r.tc.getD p 0) * (t - signed 12 r.tcal) + 1024).fdiv 2048

/-- The temperature a computation uses: the sensor's with TCOMP = 1, otherwise TCAL. -/
def State.calTemp (s : State) (c : Nat) (r : CalRec) : Int :=
  if s.on (F.CHN_CFG.TCOMP c) then s.temp r.sens else signed 12 r.tcal

/-- The new offsets of channel c, clamped to 0–65,535, and how many were clamped. -/
def State.newOfs (s : State) (c : Nat) (r : CalRec) : List Nat × Nat :=
  let t := s.calTemp c r
  let raw := (List.range 4).map (fun p => ofsOf r p t)
  (raw.map (fun v => if v < 0 then 0 else min 65535 v.toNat),
   (raw.filter (fun v => decide (v < 0) || decide (v > 65535))).length)

/-- Move a value by at most one unit towards another. -/
def stepTo (a b : Nat) : Nat := if a < b then a + 1 else if b < a then a - 1 else a

/-- Record `n` clamps of channel c (R191). -/
def State.noteClamp (s : State) (c n : Nat) : State :=
  if n = 0 then s else (s.setOn (F.CHN_STAT.CAL_FAIL c)).count (F.CHN_CAL_STAT.CLAMP (bayOfChan c)) n

/-- Recompute channel c's offsets and apply them, wholly or by one unit (R192); answers whether one was clamped. -/
def State.recompute (s : State) (c : Nat) (whole : Bool) : Bool × State :=
  let r := s.calRec c
  let q := s.newOfs c r
  let new := if whole then q.1 else (r.ofs.zip q.1).map (fun e => stepTo e.1 e.2)
  (decide (q.2 ≠ 0), (s.setCal c { r with ofs := new }).noteClamp c q.2)

end Sys2Proof.Machine
end

