-- ==== Sys2Proof/Machine/Stops.lean ====
section
/-! DEFINITION. Engines in time, and how they stop: the clock of a slot, the cycles ENG_CYC counts (R113), the resolution of a
speculation tag in its observers (R152), the stop of an engine, a gang and a job (R60, R111, R164), and fences (R417–R425). -/

namespace Sys2Proof.Machine

/-! ## Cycles (R84, R98, R113) -/

def State.inHandler (s : State) (n : Nat) : Bool := s.on (F.ENG_STAT.IN_HANDLER n)
def State.inMon (s : State) (n : Nat) : Bool := s.on (F.DBG_ENG_STAT.IN_MON n)

/-- ENG_CYC of slot n, the vector cycle (R210); and its clock. -/
def State.cyc (s : State) (n : Nat) : Nat := s.rd (F.ENG_CYC.CYC n)
def State.now (s : State) (n : Nat) : Nat := (s.eng n).clock

/-- A cycle now counts in ENG_CYC: from the first entry's own on, but for those PAUSED, in the monitor, or after a taken HALT. -/
def State.counts (s : State) (n : Nat) : Bool :=
  let e := s.eng n
  !s.inMon n && s.slotState n != stPaused && !e.halted && (e.lastCyc != 0 || !(e.wait == .none || e.wait == .miss))

/-- k cycles of the gang that slot n leads go by. -/
def State.addCyc (s : State) (n k : Nat) : State :=
  let c := s.counts n
  s.each (s.gang n) (fun s m =>
    let s := s.updEng m (fun e => { e with clock := e.clock + k })
    (if c then s.wr (F.ENG_CYC.CYC m) (s.cyc m + k) else s).drainPipe m)

/-- D sends pause vectors from this cycle on (R84). -/
def State.sendPause (s : State) (n : Nat) : State :=
  s.each (s.gang n) (fun s m => s.updEng m (fun e => { e with pipe := e.pipe ++ [⟨e.clock, none, false⟩] }))

/-- No entry enters D for w cycles: pause vectors follow. -/
def State.holdFor (s : State) (n w : Nat) : State := if w = 0 then s else (s.sendPause n).addCyc n w

/-- Nothing enters D any more, or for long: what D has sent passes S, and pause vectors follow it. -/
def State.runDry (s : State) (n : Nat) : State := s.holdFor n 5

/-- A fail-buffer hold goes on for w cycles, and is over (R220). -/
def State.failHold (s : State) (n w : Nat) : State :=
  s.each (s.gang n) (fun s m =>
    let s := s.count (F.FPU_CAP_HOLD.HOLD_CYC m) w
    match (s.eng m).ctx with
    | some c => s.updJobEng c (s.leOf m) (fun g => { g with hold := min (2 ^ 32 - 1) (g.hold + w) })
    | none => s)
def State.endFailHold (s : State) (n w : Nat) : State :=
  (s.failHold n w).each (s.gang n) (fun s m => s.clr (F.FPU_CAP_STAT.HOLD m))

/-- What D has sent by clock k leaves S while the gang of leader n waits there: cycles of the wait go by. -/
def State.waitOut (s : State) (n k : Nat) : State :=
  let w := k + 5 - s.now n
  if (s.eng n).wait = .none ∨ w = 0 then s
  else (if (s.eng n).wait = .failBuf then s.failHold n w else s).holdFor n w

/-! ## Resolution of a tag (R152, R165, R225) -/

/-- The tag of a logical engine resolves for the fabric: nothing waits for it any more; a squash marks the writes that did. -/
def State.fabResolve (s : State) (h le tag : Nat) (conf : Bool) : State :=
  let s := s.each ((List.range 4).map (fun k => 4 * h + k)) (fun s b =>
    s.updBay b (fun x => { x with deliv := x.deliv.filter (· ≠ (le, tag)) }))
  { s with fabHeld := s.fabHeld.map (fun w =>
      if w.ep / 32 = h ∧ w.waits.contains (le, tag) then
        { w with waits := w.waits.filter (· ≠ (le, tag)), squashed := w.squashed || !conf }
      else w) }

/-- A tag resolves in every observer of each member: the stream's token, the fabric's writes; the leader's marker packet (R152). -/
def State.tagResolved (s : State) (n tag : Nat) (conf : Bool) : State :=
  let s := s.each (s.gang n) (fun s m =>
    (s.streamToken m (s.leOf m) tag conf).fabResolve (halfOfSlot m) (s.leOf m) tag conf)
  s.marker n tag conf

/-! ## Stopping engines -/

/-- One slot stops for good in its job at this cycle boundary, and a session in its monitor ends (R478): entries stay out of D, vectors that have not left S are
dropped, speculation and the unconfirmed sump are discarded and its outstanding tags squashed (R152, R164), its semaphore is
released (R93), its channels pause. -/
def State.stopSlot (s : State) (n : Nat) : State :=
  let e := s.eng n
  let gone := e.vecs.filter (fun v => v.tag.isSome || !leftS v.clk e.clock)
  let s := s.each gone (fun s v => s.freeVec n v)
  let s := s.count (F.FPU_SPX_SQ.SPEC_SQUASHED n) ((e.vecs.filter (fun v => v.tag.isSome && leftS v.clk e.clock)).length)
  let s := s.sumpGive n ((e.sump.filter (fun r => !r.conf)).length)
  let s := s.each (e.brs.filter (·.isBr)) (fun s b => s.tagResolved n b.tag false)
  let s := s.dropSem n
  let s := s.updEng n (fun e => { e with
    vecs := e.vecs.filter (fun v => !(v.tag.isSome || !leftS v.clk e.clock)), brs := [],
    sump := e.sump.filter (fun r => r.conf), wait := .none, stopped := true, dbgReq := false, dbgHeld := none })
  let s := ((s.clr (F.DBG_ENG_STAT.IN_MON n)).clr (F.DBG_ENG_STAT.PENDING n)).clr (F.DBG_ENG_STAT.DEFERRED_LOCKED n)
  let s := s.wr (F.ENG_IRQ.PEND n) (s.rd (F.ENG_IRQ.PEND n) % 32)
  let s := (((s.clr (F.FPU_SPX_SUMP.OUT n)).clr (F.ENG_STAT.PROV n)).clr (F.ENG_STAT.STALL n)).clr (F.FPU_CAP_STAT.HOLD n)
  s.pauseFed n

/-- The cycles for which an entry has stood in D when a stop cuts its wait short: no command says how many, so that they are a
free value (DESIGN CHOICE, log entry 35). -/
def State.waitCut (s : State) (l : Nat) : State :=
  let w := (s.eng l).wait
  if w = .none ∨ w = .halt then s
  else
    let q := s.free 32
    let s := if w = .failBuf then q.2.endFailHold l q.1 else q.2
    s.holdFor l q.1

/-- Every engine of the job of context c stops (R60, R111, R423), those already stopped excepted. -/
def State.stopJob (s : State) (c : Nat) : State :=
  let s := s.each ((s.jobLeaders c).filter (fun l => !(s.eng l).stopped)) (fun s l => s.waitCut l)
  s.each (s.jobSlots c) (fun s n => if (s.eng n).stopped then s else s.stopSlot n)

/-- A slot's job is over for it: it is free for another, IDLE unless fenced. Its clock goes on from where it stands. -/
def State.freeSlot (s : State) (n : Nat) : State :=
  let s := if s.slotState n = stFenced ∨ s.slotState n = stSpare then s else s.wr (F.ENG_STAT.STATE n) stIdle
  let s := ((s.clr (F.ENG_STAT.STALL n)).clr (F.ENG_MAP.GANG n)).clr (F.ENG_MAP.LEADER n)
  s.updEng n (fun e => { e with
    ctx := none, leader := 0, stopped := false, halted := false, vecs := [], brs := [],
    sump := [], wait := .none, pipe := [], npc := none, nest := none })

/-- The job of context c is dropped without a completion (R69): its engines stop and its results are discarded. -/
def State.dropJobs (s : State) (c : Nat) : State :=
  let slots := s.jobSlots c
  let s := s.stopJob c
  let s := s.each slots (fun s n =>
    (s.each (s.eng n).vecs (fun s v => s.freeVec n v)).sumpGive n (s.eng n).sump.length)
  let s := s.each slots (fun s n => s.freeSlot n)
  let s := s.each (List.range 8) (fun s b =>
    let gone := ((s.bay b).buf.filter (fun e => e.ctx = c)).length
    (s.fpGive b gone).updBay b (fun x => { x with
      buf := x.buf.filter (fun e => e.ctx ≠ c), queue := x.queue.filter (fun e => e.ctx ≠ c) }))
  let s := { s with
    time := { s.time with starts := s.time.starts.filter (fun q => q.ctx ≠ c) },
    substs := s.substs.map (fun (q : Subst) => if q.ctx = some c then { q with ctx := none } else q) }
  s.updCtx c (fun _ => CtxSt.reset)

/-- Halt a context (R57, R71, R527): HALTED, the reason, a CONTEXT_HALTED event; its running jobs stop and its accepted
jobs are left to reconciliation (R69). -/
def State.haltCtx (s : State) (n reason : Nat) : State :=
  let s := s.dropJobs n
  let s := (s.setOn (F.HIF_CTX_CFG.HALTED n)).wr (F.HIF_CTX_STAT.REASON n) reason
  s.postCtx n 2 reason 0 0

/-- A program error or data error stops an engine at the entry in D (R85, R89, R125, R129): its gang and the rest of the
job stop, and the job completes RESOURCE_LOST with the DETAIL. -/
def State.programStop (s : State) (n det : Nat) : State :=
  match (s.eng n).ctx with
  | none => s.stopSlot n
  | some c => (s.failFront c 0x12 det).stopJob c

/-- Every member of the gang sets an error flag at the entry in D, with its address (R102, R112). -/
def State.errAt (s : State) (n : Nat) (f : Nat → Fld) : State :=
  s.each (s.gang n) (fun s m => (s.setOn (f m)).wr (F.ENG_ERR.ERR_PC m) (s.rd (F.ENG_STAT.PC m)))

/-! ## Fences of slots and channel groups (R418, R423) -/

/-- Fence an engine slot (R418): its channels take PAUSE, its sump is discarded, its semaphores are released, STATE reads
FENCED. The whole job stops (R423, step 3); with RERUN_OK and SPARE_EN it is to be dispatched again, at most twice (R424),
otherwise it completes RESOURCE_LOST with ENGINE_FAULT. Only this slot's part of the bay's shared engine interface is fenced, by
dropping its outputs at the gate (DEDUCED, log entry 41). A substitution is due when SPARE_EN = 1 and the slot held a logical
engine; a chosen spare that faults before the restart takes the place of the slot it replaced (R425). -/
def State.fenceSlot (s : State) (n cause : Nat) : State :=
  if s.isFenced n then s.markFenced n cause
  else
    let le := s.leOf n
    let prior := s.substs.find? (fun q => q.moved && q.spare == n)
    let job := match prior with | some q => q.ctx | none => (s.eng n).ctx
    let spare := s.on F.SUP_CTL.SPARE_EN && le != 0x7F
    let s := s.markFenced n cause
    let s := s.postRes 1 n (s.rd (F.SUP_UNIT_EPOCH.FEP n))
    let s := match job with
      | some c =>
        let s := s.updFront c (fun j =>
          if spare && (prior.isSome || (bit j.desc.toNat 72 && decide (j.redisp < 2))) && !j.settled then
            { j with restart := true }
          else { j.fail 0x12 0x20D with restart := false })
        s.stopJob c
      | none => (s.dropSem n).pauseFed n
    let s := (s.wr (F.ENG_STAT.STATE n) stFenced).setOn (F.ENG_MAP.FENCED n)
    let s := { s with substs := s.substs.filter (fun q => !(q.moved && q.spare == n)) }
    let s := if spare then { s with substs := s.substs ++ [⟨n, le, job, 0, false⟩] } else s
    s.updDegraded

/-- Fence a channel group (R172): each channel deasserts E, drives D to 0, discards its results and reads FENCED; running
jobs that select one of its channels complete RESOURCE_LOST with CHANNEL_FENCED (R414). -/
def State.fenceGroup (s : State) (g cause : Nat) : State :=
  if s.isFenced (104 + g) then s.markFenced (104 + g) cause
  else
    let cs := (List.range 8).map (fun i => 8 * g + i)
    let jobs := (List.range 64).filter (fun c =>
      (s.jobSlots c).any (fun n => cs.any (fun ch => s.feeds n ch)))
    let s := s.markFenced (104 + g) cause
    let s := s.each cs (fun s c =>
      (s.setOn (F.CHN_STAT.FENCED c)).updChan c ChanSt.off)
    let s := s.postRes 4 g (s.rd (F.SUP_UNIT_EPOCH.FEP (104 + g)))
    let s := s.each jobs (fun s c => (s.failFront c 0x12 0x20E).stopJob c)
    s.updDegraded

end Sys2Proof.Machine
end

