-- ==== Sys2Proof/Machine/Engine.lean ====
section
/-! DEFINITION. The pattern engine's machinery that every opcode shares (spec/03_sequencer.md to 05_speculation.md):
fetching the entry for D, deciding whether it may enter, issuing its vector, moving on, match windows and their
resolution, speculation, and interrupts. A gang is addressed by its leader; its members follow in each operation. -/

namespace Sys2Proof.Machine

/-! ## Fetch (R82, R87) -/

/-- The entry at address a of half h. -/
def State.seqEntry (s : State) (h a : Nat) : Entry := Table.get 0 s.seqMem (h * 0x20000 + a)

/-- An entry marked unreadable (R81). -/
def State.seqBad (s : State) (h a : Nat) : Bool := Table.get false s.seqUnread (h * 0x20000 + a)

/-- The sequence cache of a slot holds the line of address a (R82). -/
def Engine.hasLine (e : Engine) (a : Nat) : Bool := Table.get 0 e.cache (a / 16 % 128) == 1 + a / 2048

/-- Bring in the line of address a. -/
def Engine.fill (e : Engine) (a : Nat) : Engine := { e with cache := Table.set 0 e.cache (a / 16 % 128) (1 + a / 2048) }

/-- The address of the entry in D. -/
def State.pc (s : State) (n : Nat) : Nat := s.rd (F.ENG_STAT.PC n)

/-- The entry in D of slot n. -/
def State.entryAt (s : State) (n : Nat) : Entry := s.seqEntry (halfOfSlot n) (s.pc n)

/-- Set a register field in every member of the gang. -/
def State.wrGang (s : State) (n : Nat) (f : Nat → Fld) (v : Nat) : State := s.each (s.gang n) (fun s m => s.wr (f m) v)

def State.setPc (s : State) (n a : Nat) : State := s.wrGang n F.ENG_STAT.PC (seqWrap a)
def State.setStall (s : State) (n v : Nat) : State := s.wrGang n F.ENG_STAT.STALL v

/-- The gang's program runs: RUN, or the monitor's own entries, with ECLK; n is its leader. -/
def State.running (s : State) (n : Nat) : Bool :=
  let e := s.eng n
  (s.slotState n == stRun || s.slotState n == stMonitor) && e.leader == n && e.ctx.isSome && !e.stopped &&
  !s.eclkOff (halfOfSlot n)

/-! ## Legality (R85, R90, R99, R110) -/

/-- Delay slots and repetitions that the present entry falls under (R105): held values count for nothing. -/
def Engine.liveDsc (e : Engine) : Nat := if e.held then 0 else e.dsc
def Engine.liveRep (e : Engine) : Nat := if e.held then 0 else e.repc

/-- The entry in D breaks a rule of R85. -/
def State.illegalAt (s : State) (n : Nat) : Bool :=
  let e := s.eng n
  let x := s.entryAt n
  let o := eOp x
  let nested := s.inHandler n || s.inMon n
  !entryFormOk x
  || (decide (e.liveDsc > 0) && !slotOpOk o)
  || (decide (e.iretDs > 0) && !(if e.restored then o == .next || o == .trace else slotOpOk o))
  || (decide (e.liveRep > 0) && o != .next)
  || (o == .iret && !nested)
  || (o == .trap && s.inHandler n)
  || (o == .lock && e.sem.isSome)
  || (e.restored && nested && !(o == .next || o == .trace || o == .iret))
  || (inMonArea (s.pc n) && !s.inMon n)

/-! ## Words from outside (R123–R126, R137–R141) -/

/-- The port queue of port p of half h: its words, the oldest first. -/
def State.portQ (s : State) (h p : Nat) : List Nat := Table.get [] s.ports (h * 8 + p)
def State.setPortQ (s : State) (h p : Nat) (q : List Nat) : State :=
  ({ s with ports := Table.set [] s.ports (h * 8 + p) q }).wr (F.VSW_PORT_STAT.LEVEL h p) q.length

/-- The ports paced by slot m's engine. -/
def State.pacedBy (s : State) (m : Nat) : List Nat :=
  (List.range 8).filter (fun p => s.pacer (halfOfSlot m) p = some (s.leOf m))

def State.portDown (s : State) (h p : Nat) : Bool := s.on (F.VSW_PORT_STAT.DOWN h p)

/-- PORT_DOWN of every slot of half h follows (R112, R141): it reads 1 in a pacer of a fenced port and in every member of its gang. -/
def State.flagPorts (s : State) (h : Nat) : State :=
  s.each (slotsOf h) (fun s m =>
    let ms := if (s.eng m).ctx.isSome then s.gang (s.leaderOf m) else [m]
    s.wr (F.ENG_FLAG.PORT_DOWN m) (b2n (ms.any (fun q => (s.pacedBy q).any (fun p => s.portDown h p)))))

/-- The word an entry needs from outside is missing (R126): a TABLE line, a STREAM word, a port word under WAIT. -/
inductive Missing | no | table | stream | port (p : Nat)
  deriving DecidableEq, Repr

/-- The ports under WAIT whose word slot m's entry lacks (R139). -/
def State.portsLacking (s : State) (m : Nat) : List Nat :=
  (s.pacedBy m).filter (fun p => !s.portDown (halfOfSlot m) p &&
    (s.portQ (halfOfSlot m) p).isEmpty && !s.on (F.VSW_PORT_CFG.UNDERRUN (halfOfSlot m) p))

/-- The TABLE or STREAM word that slot m's entry lacks. Words of the reserved bank area and of the reserved DRAM area read 0
without a lookup or a wait (R123, R237). -/
def State.wordLacking (s : State) (m : Nat) (x : Entry) : Missing :=
  let e := s.eng m
  let xs := s.xsOf m e.x
  match bits (eDop x) 13 3 with
  | 4 =>
    let a := tableAddr (eDop x) e.x e.y xs
    if a ≥ 0x1FC0000 ∨ Table.get 0 e.tcache (a / 64 % 128) = 1 + a / 8192 then .no else .table
  | 5 =>
    let a := streamAddr (eDop x) e.x e.y xs
    if dramReserved a ∨ (e.sbuf.any (fun w => w.1 = a)) then .no else .stream
  | _ => .no

/-- Slot m's entry reads a word of its table cache that could not be read when its line was filled (R125). -/
def State.wordBad (s : State) (m : Nat) (x : Entry) : Bool :=
  let e := s.eng m
  bits (eDop x) 13 3 == 4 && e.tbad.contains (tableAddr (eDop x) e.x e.y (s.xsOf m e.x) / 8) && s.wordLacking m x == .no

/-- What slot m's entry lacks (R126); the monitor's entries take no port word (R137). -/
def State.missing (s : State) (m : Nat) (x : Entry) : Missing :=
  match s.wordLacking m x, s.portsLacking m with
  | .no, p :: _ => if s.inMon m then .no else .port p
  | r, _ => r

/-- A FABRIC read of a port that the gang does not pace (R137). -/
def State.portNotPaced (s : State) (n : Nat) (x : Entry) : Bool :=
  bits (eDop x) 13 3 == 6 && !((s.gang n).any (fun m => (s.pacedBy m).contains (bits (eDop x) 8 3)))

/-- The entry is a pacer's (R140). -/
def State.isPacer (s : State) (n : Nat) : Bool := (s.gang n).any (fun m => !(s.pacedBy m).isEmpty)

/-! ## Reservations (R156, R220) -/

/-- Channels of slot m that compare under pin function set f. -/
def State.cmpChans (s : State) (m f : Nat) : List Nat := (s.fedBy m).filter (fun c => isCompare (s.chanRole m f c))

/-- Match-only pin function set of slot m's own logical engine (R155), sampled at dispatch. -/
def State.matchOnly (s : State) (m f : Nat) : Bool := bit (s.eng m).monly f

/-- The bays of some channels, each once, ascending. -/
def baysOf (cs : List Nat) : List Nat := (List.range 8).filter (fun b => cs.any (fun c => bayOfChan c = b))

/-- The bays in which a provisional vector takes a sump record: with a compare that is not match-only, every bay in which the
engine feeds channels (R156). -/
def State.sumpNeed (s : State) (m : Nat) (x : Entry) : List Nat :=
  if s.matchOnly m (eFset x) || (s.cmpChans m (eFset x)).isEmpty then [] else baysOf (s.fedBy m)

/-- The sampled capture configuration of slot m's engine. -/
def State.jobEngOf (s : State) (m : Nat) : Option JobEng :=
  match (s.eng m).ctx with
  | some c => (s.front c).bind (fun j => j.engs.find? (fun g => g.le = s.leOf m))
  | none => none

/-- SITE of a channel's selection. -/
def State.siteOf (s : State) (c : Nat) : Nat := s.rd (F.VSW_SEL.SITE (selH c) (selC c))

/-- The fail-buffer reservations a confirmed vector takes under STALL: (bay, key), the key a site, 16 + channel under GRAN
CHANNEL, 512 + channel for a capture (R220). -/
def State.failNeed (s : State) (m : Nat) (x : Entry) : List (Nat × Nat) :=
  match s.jobEngOf m with
  | none => []
  | some g =>
    let cs := s.cmpChans m (eFset x)
    if g.cap.ovf = 1 then []
    else if eCapt x then cs.map (fun c => (bayOfChan c, 512 + c))
    else if s.matchOnly m (eFset x) then []
    else
      match g.cap.mode with
      | 1 | 2 =>
        if g.cap.mode = 2 ∧ g.cap.gran = 1 then cs.map (fun c => (bayOfChan c, 16 + c))
        else ((List.range 8).flatMap (fun b => (List.range 16).map (fun t => (b, t)))).filter
          (fun k => cs.any (fun c => bayOfChan c = k.1 && s.siteOf c = k.2))
      | _ => []

/-- The fail-buffer entries that a record of the sump makes when it is released. -/
def SumpRec.entries (r : SumpRec) (g : CapCfg) : Nat :=
  if g.mode = 2 ∧ g.gran = 1 then r.fails.length
  else if g.mode = 1 ∨ g.mode = 2 then ((List.range 16).filter (fun t => r.fails.any (fun f => f.site = t))).length
  else 0

/-- The entries of bay b for which confirmed records of sumps wait under STALL (R157, R220). -/
def State.sumpWaits (s : State) (b : Nat) : Nat :=
  ((List.range 104).map (fun m => match s.jobEngOf m with
    | some g => if g.cap.ovf = 1 then 0
        else (((s.eng m).sump.filter (fun r => r.conf && r.bay == b)).map (fun r => r.entries g.cap)).foldl (· + ·) 0
    | none => 0)).foldl (· + ·) 0

/-- Every bay has the free entries that reservations ask for; waiting sump releases go ahead of them (R220). -/
def State.failRoom (s : State) (need : List (Nat × Nat)) : Bool :=
  (List.range 8).all (fun b =>
    let k := (need.filter (fun k => k.1 = b)).length
    k == 0 || decide (s.rd (F.FPU_FP_STAT.USED b) + s.sumpWaits b + k ≤ 16384))

/-! ## Issuing a vector (R84, R114, R115, R137) -/

/-- Take one word of each port that slot m paces; an empty queue under ZERO gives a word of zeros and counts; a fenced port
gives zeros (R137, R139, R141). -/
def State.takePorts (s : State) (m : Nat) : List (Nat × Nat) × State :=
  (s.pacedBy m).foldl (fun r p =>
    let h := halfOfSlot m
    if r.2.portDown h p then (r.1 ++ [(p, 0)], r.2)
    else
      match r.2.portQ h p with
      | [] => (r.1 ++ [(p, 0)], r.2.count (F.VSW_PORT_STAT.UNDER h p))
      | w :: q => (r.1 ++ [(p, w)], r.2.setPortQ h p q)) ([], s)

/-- The TABLE, STREAM or FABRIC word of slot m's vector. -/
def State.extWord (s : State) (m : Nat) (x : Entry) (ports : List (Nat × Nat)) : Nat :=
  let e := s.eng m
  let xs := s.xsOf m e.x
  match bits (eDop x) 13 3 with
  | 4 =>
    let a := tableAddr (eDop x) e.x e.y xs
    if a ≥ 0x1FC0000 then 0 else s.bankRead (halfOfSlot m) a 8
  | 5 =>
    let a := streamAddr (eDop x) e.x e.y xs
    if dramReserved a then 0 else ((e.sbuf.find? (fun w => w.1 = a)).map (·.2)).getD 0
  | 6 => bits (Table.get 0 ports (bits (eDop x) 8 3)) (64 * (bits (eDop x) 0 3)) 64
  | _ => 0

/-- The vector uses a fenced port (R141). -/
def State.usesDownPort (s : State) (m : Nat) (x : Entry) : Bool :=
  let h := halfOfSlot m
  (bits (eDop x) 13 3 == 6 && s.portDown h (bits (eDop x) 8 3)) ||
  (s.fedBy m).any (fun c => match s.selPort c with
    | some p => s.portDown h p && (let r := s.chanRole m (eFset x) c; r != 0 && r != 7)
    | none => false)

/-- The vector of slot m for entry x: X, Y and the LFSR from before the entry (R115); `gp` are the port words that the gang has
taken for it. -/
def State.vecFor (s : State) (m : Nat) (x : Entry) (w : Nat) (tag : Option Nat) (gp : List (Nat × Nat)) : Vec :=
  let e := s.eng m
  let xs := s.xsOf m e.x
  let d := applyMod (bits (eDop x) 11 2) e.x e.y (eImm x)
    (dSource (eDop x) (eImm x) e.x e.y xs e.lfsr (s.extWord m x gp))
  ⟨s.cyc m, e.clock, s.pc m, x, e.x, e.y, xs, d, gp, w, tag, s.cmpChans m (eFset x), [], false,
    if tag.isSome then s.sumpNeed m x else [], if tag.isSome then [] else s.failNeed m x, []⟩

/-- X, Y and the LFSR of slot m after entry x (R115), and the addresses of its last two stream reads (R124). -/
def State.stepGens (s : State) (m : Nat) (x : Entry) : State :=
  s.updEng m (fun e =>
    let xy := aopStep (eAop x) (eImm x) e.x e.y
    { e with
      x := xy.1, y := xy.2, lfsr := lfsrAfter (eDop x) (eImm x) e.lfsr,
      sread := if bits (eDop x) 13 3 = 5 then streamAddr (eDop x) e.x e.y (s.xsOf m e.x) :: e.sread.take 1 else e.sread })

/-- A program's vector takes its reservations and awaits its results; a reserved code in its tables and a fenced port that it
uses are noted (R129, R141). -/
def State.keepVec (s : State) (m : Nat) (v : Vec) : State :=
  let x := v.entry
  let s := if s.usesDownPort m x then
      match (s.eng m).ctx with | some c => s.updFront c (fun j => { j with portUsed := true }) | none => s
    else s
  let s := if s.tableReserved m (eLmap x) (eFset x) then
      (s.setOn (F.VSW_ERR.RSV_TABLE (halfOfSlot m))).wr (F.VSW_ERR.SLOT (halfOfSlot m)) (m % 52)
    else s
  let s := (s.sumpTake m v.sump.length).each v.fres (fun s k => s.fpTake k.1 1)
  s.updEng m (fun e => { e with vecs := e.vecs ++ [v] })

/-- Slot m issues the vector of entry x in window w, depending on branch tag. In the monitor it leaves as a pause vector and
nothing is kept of it (R475). `lead`: the slot raises the entry's SNAP trigger as the vector leaves S (R84). -/
def State.issueOne (s : State) (m : Nat) (x : Entry) (w : Nat) (tag : Option Nat) (gp : List (Nat × Nat)) (lead : Bool) : State :=
  let v := s.vecFor m x w tag gp
  let mon := s.inMon m
  let s := (if mon then s else s.keepVec m v).stepGens m x
  let s := s.updEng m (fun e => { e with
    pipe := e.pipe ++ [⟨e.clock, if mon then none else some v, lead && eSnapt x⟩] })
  if mon || tag.isSome then s else s.onVector m v

/-- The youngest speculated branch that is outstanding, if the entry in D runs after its delay slots (R150). -/
def State.provTag (s : State) (n : Nat) : Option Nat :=
  let e := s.eng n
  let open_ := e.brs.filter (fun b => b.isBr && b.chk.isSome)
  (open_.getLast?).map (·.tag)

/-- The engine's first entry enters D: a JOB_START mark in each bay whose channels it feeds (R224). -/
def State.startMark (s : State) (m : Nat) : State :=
  match (s.eng m).ctx with
  | some c => s.each (baysOf (s.fedBy m)) (fun s b =>
      s.jobMark b 1 (s.leOf m) c (((s.front c).map (·.seq)).getD 0))
  | none => s

/-- The words that the gang takes from the ports it paces, but for an entry of the monitor (R137). -/
def State.takeGang (s : State) (n : Nat) : List (Nat × Nat) × State :=
  if s.inMon n then ([], s)
  else (s.gang n).foldl (fun r m => let q := r.2.takePorts m; (r.1 ++ q.1, q.2)) (([] : List (Nat × Nat)), s)

/-- The whole gang issues the entry's vector in this cycle; a window remembers its last vector. `w` = 0: the vector belongs to no
window (the entry resolved one). -/
def State.issue (s : State) (n : Nat) (x : Entry) (w : Nat) : State :=
  let tag := s.provTag n
  let ms := s.gang n
  let tp := s.takeGang n
  let s := if (s.eng n).lastCyc = 0 then tp.2.each ms (fun s m => s.startMark m) else tp.2
  let a := s.pc n
  let s := s.each ms (fun s m => s.issueOne m x w tag tp.1 (m == n))
  let s := s.updEng n (fun e => { e with
    lastCyc := e.clock + 1, lastPc := a,
    winLast := if w = 0 then e.winLast else Table.set 0 e.winLast w (e.clock + 1) })
  s.addCyc n 1

/-! ## Program flow (R87–R90, R99, R105) -/

/-- Address of save slot k of slot m in the half's save area (R109, R257). -/
def saveAddr (m k : Nat) : Nat := 0x1FC0000 + (m % 52 * 8 + k) * 256

/-- FAIL_STICKY of a gang: any member's (R102). -/
def State.gangSticky (s : State) (n : Nat) : Bool := (s.gang n).any (fun m => (s.eng m).sticky)

/-- The state image of member m of the gang that slot n leads (R109): the shared state is the leader's. -/
def State.saveImage (s : State) (n m : Nat) : Nat :=
  let e := s.eng n
  let g := s.eng m
  let stk := e.stk.reverse
  e.ira + 2 ^ 18 * e.dsc + 2 ^ 21 * b2n (s.on (F.ENG_STAT.LOCKED n)) + 2 ^ 32 * e.dst + 2 ^ 64 * e.repc +
  2 ^ 96 * e.stk.length +
  ((List.range 8).map (fun k => Table.get 0 e.cnt k * 2 ^ (128 + 32 * k))).foldl (· + ·) 0 +
  ((List.range stk.length).map (fun i => stk.getD i 0 * 2 ^ (384 + 32 * i))).foldl (· + ·) 0 +
  2 ^ 896 * g.x + 2 ^ 928 * g.y + 2 ^ 960 * g.lfsr + 2 ^ 1024 * (b2n (s.gangSticky n) + 2 * b2n e.lockOk)

/-- Every member writes its image to save slot k. -/
def State.saveGang (s : State) (n k : Nat) : State :=
  (s.gang n).foldl (fun t m => t.bankWrite (halfOfSlot m) (saveAddr m k) 256 (s.saveImage n m)) s

/-- The image in save slot k of slot m. -/
def State.savedImage (s : State) (m k : Nat) : Nat := s.bankRead (halfOfSlot m) (saveAddr m k) 256

/-- An image that RESTORE cannot load: DSC = 3 or SP above 16. -/
def imageBad (v : Nat) : Bool := bits v 18 2 == 3 || decide (bits v 96 5 > 16)

/-- Load the live state from save slot k: X, Y and LFSR from each member's image, the rest from the leader's; DSC, DST and
REPC are held (R105). RESTORE does not change the semaphore. -/
def State.loadGang (s : State) (n k : Nat) : State :=
  let v := s.savedImage n k
  let sp := bits v 96 5
  let s := s.each (s.gang n) (fun s m =>
    let w := s.savedImage m k
    (s.updEng m (fun g => { g with
      x := bits w 896 24, y := bits w 928 24, lfsr := bits w 960 64, sticky := bit v 1024 })).wr (F.ENG_STAT.SP m) sp)
  let s := s.wr (F.ENG_STAT.LOCKED n) (bits v 21 1)
  s.updEng n (fun e => { e with
    ira := bits v 0 17, dsc := bits v 18 2, dst := bits v 32 17, repc := bits v 64 17, held := true,
    cnt := (List.range 8).foldl (fun t k => Table.set 0 t k (bits v (128 + 32 * k) 32)) [],
    stk := ((List.range sp).map (fun i => bits v (384 + 32 * i) 17)).reverse, lockOk := bit v 1025 })

/-- The monitor's first address (R103). -/
def monitorBase : Nat := 0x1FC00

/-- PC shows the address of the last entry while the gang is PAUSED, which goes on with the one it stood at (R112); and goes on. -/
def State.showLast (s : State) (n : Nat) : State :=
  let e := s.eng n
  if e.lastCyc = 0 ∨ e.npc.isSome then s
  else (s.updEng n (fun e => { e with npc := some (s.pc n) })).setPc n e.lastPc
def State.showNext (s : State) (n : Nat) : State :=
  match (s.eng n).npc with
  | some a => (s.updEng n (fun e => { e with npc := none })).setPc n a
  | none => s

/-- The gang leaves the monitor (R476, R478): the interrupted window and what the monitor interrupted return, the watchdog
reloads, and the engine runs, or is PAUSED when a PAUSE descriptor came meanwhile. -/
def State.leaveMon (s : State) (n : Nat) : State :=
  let e := s.eng n
  let back := if e.monBack = stPaused then stPaused else stRun
  let s := s.setPc n e.ira
  let s := s.each (s.gang n) (fun s m =>
    ((s.clr (F.DBG_ENG_STAT.IN_MON m)).wr (F.ENG_STAT.STATE m) back).updEng m (fun g => { g with wdog := g.wdogP, monBack := 0 }))
  let x := e.nest.getD ⟨0, false, 0, false, false⟩
  let s := s.updEng n (fun e => { e with
    ira := x.ira, held := x.held, iretDs := x.iretDs, restored := x.restored, saved := x.saved, nest := none,
    win := e.winOuter.headD e.win, winOuter := e.winOuter.tail })
  if back = stPaused then s.showLast n else s

/-- The gang of slot n restores slot 7 and executes IRET to IRA; `step`: entries to run before the next request. -/
def State.monExit (s : State) (n step : Nat) : State :=
  ((s.loadGang n 7).updEng n (fun e => { e with dbgStep := step, dbgAlign := false })).leaveMon n

/-- Leave the monitor (R476): with ALIGN and JOB every engine of the job leaves at one edge once all have entered. -/
def State.monLeave (s : State) (n step : Nat) : State :=
  if s.on (F.DBG_ENG_CTL.ALIGN n) ∧ s.on (F.DBG_ENG_CTL.JOB n) then
    match (s.eng n).ctx with
    | some c =>
      let ls := s.jobLeaders c
      if ls.all (fun l => s.inMon l || (s.eng l).halted || (s.eng l).stopped) then
        s.each (ls.filter s.inMon) (fun s l => s.monExit l (if l = n then step else (s.eng l).dbgStep))
      else s.updEng n (fun e => { e with dbgAlign := true, dbgStep := step })
    | none => s
  else s.monExit n step

/-- RESUME (0), or STEP, executed for the gang of leader l (R476). -/
def State.monGo (s : State) (l step : Nat) : State :=
  (if step = 0 then s else s.wrGang l F.DBG_ENG_STAT.STEPPED 0).monLeave l step

/-- The gang is in the monitor: STATE, IN_MON, the monitor's first entry. -/
def State.toMon (s : State) (n : Nat) : State :=
  ((s.wrGang n F.DBG_ENG_STAT.IN_MON 1).wrGang n F.ENG_STAT.STATE stMonitor).setPc n monitorBase

/-- The handler or the monitor ends as IRET's second delay slot leaves D: IRA, held values live again, the cause that was
taken is cleared unless it was raised again, the interrupted window returns (R96, R104, R105). A handler that the monitor runs
returns to the monitor with its state in save slot 7 again (R477), held as at the monitor's entry. -/
def State.finishIret (s : State) (n : Nat) : State :=
  if s.inMon n then s.leaveMon n
  else
    let e := s.eng n
    let s := s.setPc n e.ira
    let s := s.each (s.gang n) (fun s m =>
      (s.wr (F.ENG_IRQ.PEND m)
        (s.rd (F.ENG_IRQ.PEND m) &&& (63 - (63 &&& e.irqTaken)) ||| (s.eng m).irqAgain)).updEng m (fun g => { g with irqAgain := 0 }))
    let s := s.wrGang n F.ENG_STAT.IN_HANDLER 0
    let s := s.updEng n (fun e => { e with
      held := false, restored := false, saved := false, irqTaken := 0, iretDs := 0,
      win := (e.winOuter.headD e.win), winOuter := e.winOuter.tail })
    if e.svc then
      ((s.saveGang n 7).updEng n (fun e => { e with
        svc := false, held := true, win := e.winNext, winNext := e.winNext + 1, winOuter := e.win :: e.winOuter })).toMon n
    else s

/-- Take the checkpoint of a speculated branch as its second delay slot leaves D (R150). -/
def State.takeChk (s : State) (n : Nat) : State :=
  let e := s.eng n
  let gens := (s.gang n).map (fun m => (⟨m, (s.eng m).x, (s.eng m).y, (s.eng m).lfsr⟩ : Xyl))
  let c : Chk := ⟨gens, e.cnt, e.stk, 0, e.dst, 0, Table.get 0 e.winLast e.win⟩
  s.updEng n (fun e => { e with brs := e.brs.map (fun b => if b.isBr && b.chk.isNone then { b with chk := some c } else b) })

/-- An entry that is no transfer has left D: repetitions, delay slots, IRET's slots, or simply the next address. -/
def State.moveOn (s : State) (n : Nat) : State :=
  let e := s.eng n
  let next := s.pc n + 1
  if e.iretDs > 0 then
    if e.iretDs = 1 then s.finishIret n
    else (s.updEng n (fun e => { e with iretDs := e.iretDs - 1 })).setPc n next
  else if e.liveRep > 0 then
    let s := s.updEng n (fun e => { e with repc := e.repc - 1 })
    if e.repc = 1 then s.setPc n next else s
  else if e.liveDsc > 0 then
    let s := s.updEng n (fun e => { e with dsc := e.dsc - 1 })
    if e.dsc = 1 then (s.takeChk n).setPc n e.dst else s.setPc n next
  else s.setPc n next

/-- A transfer: two delay slots, then the target; the first transfer of a handler replaces held values (R99, R105). -/
def State.transfer (s : State) (n target : Nat) : State :=
  (s.updEng n (fun e => { e with held := false, repc := 0, dsc := 2, dst := seqWrap target })).setPc n (s.pc n + 1)

/-! ## Match windows (R96, R97, R136, R161, R162) -/

/-- The members' vectors of window w. -/
def State.winVecs (s : State) (n w : Nat) : List Vec :=
  (s.gang n).flatMap (fun m => (s.eng m).vecs.filter (fun v => v.win = w))

/-- The largest Lc of the members (R102). -/
def State.gangLc (s : State) (n : Nat) : Nat := ((s.gang n).map (fun m => (s.eng m).lc)).foldl max 0

/-- A window holds no vector (R96). -/
def State.winEmpty (s : State) (n w : Nat) : Bool := Table.get 0 (s.eng n).winLast w == 0

/-- Every result of the window has arrived. -/
def State.winArrived (s : State) (n w : Nat) : Bool := (s.winVecs n w).all (fun v => v.wait.isEmpty)

/-- The clock of the first cycle in which D can use the results of the vectors up to `last` (1 + clock of the last one), at Lc
(R97). -/
def State.usableAt (s : State) (n last : Nat) : Nat := last + 3 + s.gangLc n

/-- The results of window w are usable now. -/
def State.winReady (s : State) (n w : Nat) : Bool :=
  s.winArrived n w && decide (s.usableAt n (Table.get 0 (s.eng n).winLast w) ≤ s.now n)

/-- Every vector issued has its results, and they are usable now (FAIL_STICKY, R97). -/
def State.allReady (s : State) (n : Nat) : Bool :=
  (s.gang n).all (fun m => (s.eng m).vecs.all (fun v => v.wait.isEmpty)) &&
  decide (s.usableAt n (s.eng n).lastCyc ≤ s.now n)

/-- A site out of matching: poll-retired or job-retired (R162); the leader holds the sets. -/
def State.siteOut (s : State) (n t : Nat) : Bool :=
  bit (s.rd (F.FPU_SPX_SITE.RETIRED n)) t || bit (s.rd (F.FPU_SPX_SITE.POLLED n)) t

/-- The match-set results of window w that count: those of sites not retired. -/
def State.winRes (s : State) (n w : Nat) : List (Nat × Bool) :=
  ((s.winVecs n w).flatMap (fun v => v.res)).filter (fun r => !s.siteOut n r.1)

/-- Every compare of the window passed (R96, R102). -/
def State.winPass (s : State) (n w : Nat) : Bool := (s.winRes n w).all (fun r => !r.2)

/-- Site retirement at a resolution (R161): the window has been evaluated; then poll retirement, failure runs, job
retirement, and at a poll's end the poll-retired sites return and the runs reset. -/
def State.retire (s : State) (n w : Nat) : State :=
  let res := s.winRes n w
  let pass := res.all (fun r => !r.2)
  let e := s.eng n
  let sites := (List.range 16).filter (fun t => res.any (fun r => r.1 = t))
  let s := s.each sites (fun s t =>
    let ok := res.all (fun r => r.1 ≠ t || !r.2)
    if ok then
      let s := s.updEng n (fun e => { e with runs := Table.set 0 e.runs t 0 })
      if e.pollRet then s.wr (F.FPU_SPX_SITE.POLLED n) (s.rd (F.FPU_SPX_SITE.POLLED n) ||| 2 ^ t) else s
    else
      let r := Table.get 0 (s.eng n).runs t + 1
      let s := s.updEng n (fun e => { e with runs := Table.set 0 e.runs t r })
      if e.retLim ≠ 0 ∧ r ≥ e.retLim then s.wr (F.FPU_SPX_SITE.RETIRED n) (s.rd (F.FPU_SPX_SITE.RETIRED n) ||| 2 ^ t)
      else s)
  if pass then (s.wr (F.FPU_SPX_SITE.POLLED n) 0).updEng n (fun e => { e with runs := [] }) else s

/-- Vectors of no further use leave: their results are in, their window is closed and resolved, no branch holds them. -/
def State.prune (s : State) (n : Nat) : State :=
  let e := s.eng n
  let live := fun (w : Nat) => w == e.win || e.winOuter.contains w || e.brs.any (fun b => b.win = w)
  s.each (s.gang n) (fun s m => s.updEng m (fun g => { g with
    vecs := g.vecs.filter (fun v => !(v.wait.isEmpty && v.tag.isNone && !live v.win)) }))

/-- The window closes: a new, empty one begins (R96). -/
def State.closeWin (s : State) (n : Nat) : State :=
  s.updEng n (fun e => { e with win := e.winNext, winNext := e.winNext + 1 })

/-! ## Conditions (R95, R102) -/

/-- The other participants of the sync group: the gangs of the job in the same half (R92). -/
def State.syncOthers (s : State) (n : Nat) : List Nat :=
  match (s.eng n).ctx with
  | none => []
  | some c => (s.jobLeaders c).filter (fun m => halfOfSlot m = halfOfSlot n && m ≠ n)

/-- A participant waits at a SYNC or has halted. -/
def State.atSync (s : State) (m : Nat) : Bool := (s.eng m).wait == .sync || (s.eng m).halted

/-- Time trigger k of the half has fired since it was armed, and a firing has reached the engines (R92, R29). -/
def State.trgFired (s : State) (n k : Nat) : Bool :=
  s.on (F.TMB_TRG_CTL.FIRED (halfOfSlot n) k) && bit (Table.get 0 s.time.reached (halfOfSlot n)) k

/-- The value of a condition; a match condition is taken on window w, which is usable. -/
def State.condVal (s : State) (n scnd k w : Nat) : Bool :=
  match scnd with
  | 0 => true
  | 2 => s.winPass n w
  | 3 => !s.winPass n w
  | 4 => (s.gang n).any (fun m => (s.eng m).sticky)
  | 5 => Table.get 0 (s.eng n).cnt k == 0
  | 6 => if k = 3 then s.on (F.ENG_FLAG.PORT_DOWN n)
         else if k < 3 then bit (s.rd (F.ENG_FLAG.FLAG_LO n)) k else bit (s.rd (F.ENG_FLAG.FLAG_HI n)) (k - 4)
  | 7 => s.trgFired n k
  | 8 => (s.syncOthers n).all s.atSync
  | 9 => (s.eng n).lockOk
  | _ => false

/-- Does the condition wait for results that are not usable now (R95–R97)? -/
def State.condWaits (s : State) (n scnd : Nat) : Bool :=
  match scnd with
  | 2 | 3 => !s.winEmpty n (s.eng n).win && !s.winReady n (s.eng n).win
  | 4 => !s.allReady n
  | _ => false

/-! ## Interrupts (R103–R108, R478) -/

/-- The causes pending in a gang: any member's (R102). Bit 5 DEBUG, bit c cause c. -/
def State.gangPend (s : State) (n : Nat) : Nat := ((s.gang n).map (fun m => s.rd (F.ENG_IRQ.PEND m))).foldl (· ||| ·) 0

/-- The causes that may be taken now: DEBUG outside the monitor (not in a locked sequence unless forced), the others outside
a handler. -/
def State.takeable (s : State) (n : Nat) : Nat :=
  let p := s.gangPend n
  let dbg := if bit p 5 && !s.inMon n && (!s.on (F.ENG_STAT.LOCKED n) || (s.eng n).dbgForce) then 32 else 0
  let oth := if s.inHandler n || s.inMon n then 0 else p % 32
  dbg + oth

/-- The cause of highest priority among some: DEBUG, TRAP 4, RESUMED 0, FAILHALT 2, TIME 1, GANG 3 (R103). -/
def topCause (p : Nat) : Option Nat :=
  if bit p 5 then some 5 else if bit p 4 then some 4 else if bit p 0 then some 0 else if bit p 2 then some 2
  else if bit p 1 then some 1 else if bit p 3 then some 3 else none

/-- The entry boundary before the entry in D is free (R104, R106–R108): no provisional branch outstanding, no LOCK attempt
in flight, no SAVE or RESTORE in progress; in gangs of 1, 2 and 4 no delay slots, repetitions or waiting condition either. That
a PAUSE entry on a waiting condition holds an interrupt off as a HALT does, which the table of R106 does not name, is the
model's (DESIGN CHOICE, log entry 35). -/
def State.boundaryFree (s : State) (n : Nat) : Bool :=
  let e := s.eng n
  let small := decide (s.rd (F.ENG_MAP.GANG n) ≤ 2)
  (e.brs.filter (·.isBr)).isEmpty && e.wait != .lock && e.wait != .halt && e.wait != .saveRes &&
  (!small || (e.iretDs == 0 && e.liveDsc == 0 && e.liveRep == 0 && e.wait != .cond && e.wait != .heldBr))

/-- A pending cause keeps the entry in D from entering (R104), and while one is pending with branches outstanding no entry
follows the delay slots and repetitions already begun; a PAUSE descriptor waits in the same way (R164). -/
def State.irqBlocks (s : State) (n : Nat) : Bool :=
  let e := s.eng n
  (s.takeable n != 0 || e.pauseReq) &&
  (s.boundaryFree n || (!(e.brs.filter (·.isBr)).isEmpty &&
    (decide (s.rd (F.ENG_MAP.GANG n) > 2) || (e.liveDsc == 0 && e.liveRep == 0))))

/-- Raise cause c in slot n (R103): a cause with an enable bit is raised only while the bit is 1; TRAP needs none. The cause
whose handler runs is held until IRET (R104). -/
def State.raiseCause (s : State) (n c : Nat) : State :=
  if c = 4 ∨ bit (s.rd (F.ENG_IRQ.EN n)) c then
    let s := if bit (s.eng (s.leaderOf n)).irqTaken c then s.updEng n (fun e => { e with irqAgain := e.irqAgain ||| 2 ^ c }) else s
    s.wr (F.ENG_IRQ.PEND n) (s.rd (F.ENG_IRQ.PEND n) ||| 2 ^ c)
  else s

/-- Raise a cause in every member of the gang of slot n, each by its own enable bit (R102, R103). -/
def State.raiseGang (s : State) (n c : Nat) : State :=
  s.each (s.gang (s.leaderOf n)) (fun s m => s.raiseCause m c)

/-! ## Entry into D -/

/-- What stands between the entry at the program counter and its entry into D. -/
inductive Hold | go | miss | prov | sump | data (m : Missing) | failBuf
  deriving DecidableEq, Repr

/-- A transfer on a condition that waits for results and does not speculate (R95, R147, R153). -/
def waitsForResults (x : Entry) : Bool :=
  let o := eOp x
  let c := eScnd x
  ((o == .br || o == .call || o == .ret) && c == 4) || ((o == .call || o == .ret) && (c == 2 || c == 3))

/-- An entry that may not enter D on a provisional path (R153, R140); an illegal entry waits there too. -/
def State.provBlocked (s : State) (n : Nat) (x : Entry) : Bool :=
  (s.provTag n).isSome &&
  (!eRsafe x || eSnapt x || eCapt x || opNoProv (eOp x) || waitsForResults x || s.isPacer n || s.illegalAt n || codeReserved x)

/-- The first hold in force for the entry in D (R82, R153, R157, R126, R220). -/
def State.holdOf (s : State) (n : Nat) : Hold :=
  let x := s.entryAt n
  if (s.gang n).any (fun m => !(s.eng m).hasLine (s.pc n)) then .miss
  else if s.provBlocked n x then .prov
  else if (s.provTag n).isSome && (s.gang n).any (fun m =>
      decide (s.rd (F.FPU_SPX_SUMP.USED m) + (s.sumpNeed m x).length > 1024)) then .sump
  else
    match ((s.gang n).map (fun m => s.missing m x)).find? (fun r => r ≠ .no) with
    | some r => .data r
    | none =>
      if (s.provTag n).isNone && !s.failRoom ((s.gang n).flatMap (fun m => s.failNeed m x)) then .failBuf else .go

/-- The gang waits for words from outside: each empty port, and each member's TABLE or STREAM miss, counts (R139, R142). -/
def State.countData (s : State) (n : Nat) (x : Entry) : State :=
  s.each (s.gang n) (fun s m =>
    let h := halfOfSlot m
    let s := if s.inMon m then s else s.each (s.portsLacking m) (fun s p => s.count (F.VSW_PORT_STAT.UNDER h p))
    match s.wordLacking m x with
    | .table => s.count (F.VSW_DWAIT.TABLE h)
    | .stream => s.count (F.VSW_DWAIT.STREAM h)
    | _ => s)

/-- The entry in D is held: its STALL code, and the counters of a hold that begins (R82, R126, R139, R157, R220). A gang's miss
counts in every member. That a hold on the sump counts in the leader, for a member's sump too, is the model's (DESIGN CHOICE,
log entry 35). -/
def State.startHold (s : State) (n : Nat) (h : Hold) : State :=
  let w := (s.eng n).wait
  let setW := fun (s : State) (x : Wait) (code : Nat) => (s.updEng n (fun e => { e with wait := x })).setStall n code
  match h with
  | .go => s
  | .miss => if w = .miss then s else
      setW (s.each (s.gang n) (fun s m => s.count (F.ENG_PERF.MISS m))) .miss 6
  | .prov => setW s .provHold 1
  | .sump => if w = .sump then s else setW (s.count (F.FPU_SPX_EVT.SUMP_STALL n)) .sump 7
  | .data _ => if w = .data then s else setW (s.countData n (s.entryAt n)) .data 6
  | .failBuf => if w = .failBuf then s else
      (setW s .failBuf 6).each (s.gang n) (fun s m => s.setOn (F.FPU_CAP_STAT.HOLD m))

/-- The hold has ended after the entry stood in D for w further cycles, each of which sent a pause vector. -/
def State.endHold (s : State) (n w : Nat) : State :=
  let held := s.rd (F.ENG_STAT.STALL n) != 0
  let s := if (s.eng n).wait = .failBuf then s.endFailHold n w else s
  let s := if held then s.holdFor n w else s
  (s.updEng n (fun e => { e with wait := .none })).setStall n 0

/-- Waits that only an event of their own ends. -/
def Wait.standing : Wait → Bool
  | .cond | .heldBr | .waitt _ | .sync | .lock | .lockRetry | .halt | .miss | .saveRes => true
  | _ => false

/-- The entry in D of gang n enters with opcode o, after w cycles of a hold if it was held: its body runs. An entry that is
not of this opcode, is illegal or holds a reserved code, or cannot enter now, leaves the machine as it is or begins its
hold; a debug session's last step, an interrupt due, and a stopped engine let nothing in. -/
def State.enter (s : State) (n : Nat) (w : Nat) (o : Op) (body : State → Entry → State) : State :=
  if !s.running n || (s.eng n).wait.standing || s.irqBlocks n then s
  else
    match s.holdOf n with
    | .go =>
      let x := s.entryAt n
      if eOp x = o ∧ !s.illegalAt n ∧ !codeReserved x ∧ !s.portNotPaced n x ∧ !(s.gang n).any (fun m => s.wordBad m x) then
        body (s.endHold n w) x
      else s
    | h => s.startHold n h

/-- The entry in D waits for something of its own. -/
def State.waitFor (s : State) (n : Nat) (w : Wait) (stall : Nat) : State :=
  (s.updEng n (fun e => { e with wait := w })).setStall n stall

/-- A step request counts entries that enter D; when its last has entered, a debug request is raised (R476). -/
def State.stepCount (s : State) (n : Nat) : State :=
  if s.inMon n then s
  else
    let e := s.eng n
    if e.dbgStep = 0 then s
    else
      let s := (s.updEng n (fun e => { e with dbgStep := e.dbgStep - 1 })).count (F.DBG_ENG_STAT.STEPPED n)
      if e.dbgStep = 1 then s.debugRequest n 3 else s

/-- The job's first entry enters D: JOB_START in the fail stream of each bay the engine feeds is sent by the caller. -/
def State.plain (s : State) (n : Nat) (x : Entry) : State := ((s.issue n x (s.eng n).win).moveOn n).stepCount n

/-- An entry that resolved its window leaves D: its vector belongs to no window. -/
def State.leaveResolved (s : State) (n : Nat) (x : Entry) : State := s.issue n x 0

/-! ## Speculation (R147–R160) -/

/-- The loop direction of a BR at address a with target t is taken when t ≤ a (R158). -/
def loopTaken (a t : Nat) : Bool := decide (t ≤ a)

/-- A predictor entry is cold for the BR at address a (R158). -/
def Pred.cold (p : Pred) (a : Nat) : Bool := !p.v || p.tag != a / 256

/-- The prediction "loop" of R159; r is RUN plus the loop predictions of the entry still outstanding. -/
def Pred.predictsLoop (p : Pred) (a r : Nat) : Bool :=
  p.cold a || decide (r < p.count) || decide (r > p.count) || p.count == 65535

def Engine.predAt (e : Engine) (a : Nat) : Pred := Table.get Pred.reset e.pred (a % 256)

/-- Confirmed outcome of the BR at address a (R160). -/
def Pred.train (p : Pred) (a : Nat) (loop : Bool) : Pred :=
  if loop then
    if p.cold a then ⟨true, a / 256, 65535, 1⟩ else { p with run := min 65535 (p.run + 1) }
  else ⟨true, a / 256, if p.cold a then 0 else p.run, 0⟩

def Engine.trainAt (e : Engine) (a : Nat) (loop : Bool) : Engine :=
  { e with pred := Table.upd Pred.reset e.pred (a % 256) (fun p => p.train a loop) }

/-- Loop predictions of the same entry that are outstanding (R159). -/
def Engine.loopsOut (e : Engine) (a : Nat) : Nat :=
  (e.brs.filter (fun b => b.isBr && b.pc % 256 = a % 256 && b.taken == b.loopIsTaken)).length

/-- OUT and PROV follow the outstanding branches (R150, R166). -/
def State.syncBrs (s : State) (n : Nat) : State :=
  let k := ((s.eng n).brs.filter (·.isBr)).length
  s.each (s.gang n) (fun s m => (s.wr (F.FPU_SPX_SUMP.OUT m) k).wr (F.ENG_STAT.PROV m) (if k = 0 then 0 else 1))

/-- Put a branch, an MWAIT or the effect of an empty window at the end of the resolution order. -/
def State.pushBranch (s : State) (n : Nat) (b : Branch) : State :=
  (s.updEng n (fun e => { e with brs := e.brs ++ [b], tagNext := if b.isBr then (e.tagNext + 1) % 64 else e.tagNext })).syncBrs n

/-- A confirmed vector's counted state: the vectors that depended on tag t depend on it no more. -/
def State.confirmTag (s : State) (n t : Nat) : State :=
  s.each (s.gang n) (fun s m =>
    let vs := (s.eng m).vecs.filter (fun v => v.tag = some t)
    let s := s.each vs (fun s v => s.onVector m v)
    s.updEng m (fun e => { e with
      vecs := e.vecs.map (fun v => if v.tag = some t then { v with tag := none } else v),
      sump := e.sump.map (fun r => if r.tag = t && !r.conf then { r with conf := true } else r) }))

end Sys2Proof.Machine
end

