-- ==== Sys2Proof/Machine/BankOps.lean ====
section
/-! DEFINITION. Bank memory (R257–R273): power states, the directory of cached copies, and one access from its arrival to its
answer. -/

namespace Sys2Proof.Machine

/-- The masters of R260. -/
def byHost : Nat := 0
def byFabric : Nat := 1
def bySup : Nat := 2
def byPruner : Nat := 3
def byEngine : Nat := 4
def byOther : Nat := 5

/-- The device-reserved area of a half's bank memory (R258). -/
def bankReserved (a : Nat) : Bool := decide (0x1FC0000 ≤ a)

/-- The bank of a half address (R257). -/
def bankOf (a : Nat) : Nat := a / 8 % 64

/-- The words of an access, by word address. -/
def wordsOf (a n : Nat) : List Nat := if n = 0 then [] else (List.range ((a + n - 1) / 8 - a / 8 + 1)).map (fun i => a / 8 + i)

/-- CUR and STATE of a bank: 0 ON, 1 RETENTION, 2 OFF, 3 TRANSITION; a reserved STATE is ON (R264). -/
def State.bankCur (s : State) (h b : Nat) : Nat := bits (s.rd (F.BNK_PSTAT.CUR h (b / 16))) (2 * (b % 16)) 2
def State.setBankCur (s : State) (h b v : Nat) : State :=
  let f := F.BNK_PSTAT.CUR h (b / 16)
  let old := s.rd f
  s.wr f (old - bits old (2 * (b % 16)) 2 * 4 ^ (b % 16) + v * 4 ^ (b % 16))

def State.bankH (s : State) (h : Nat) : BankHalf := Table.get BankHalf.reset s.banks h
def State.updBank (s : State) (h : Nat) (f : BankHalf → BankHalf) : State :=
  { s with banks := Table.upd BankHalf.reset s.banks h f }

/-- The bank on loan (R270). -/
def State.onLoan (s : State) (h b : Nat) : Bool :=
  s.rd (F.BNK_COP_STAT.PHASE h) != 0 && s.rd (F.BNK_COP_STAT.BANK h) == b

/-- An access waits for the bank: it sleeps, or is in transition. A bank on loan is always served (R271), though it shows TRANSITION
while a write of its state is held (R273). -/
def State.bankShut (s : State) (h b : Nat) : Bool :=
  s.bankCur h b == 1 || (s.bankCur h b == 3 && !s.onLoan h b)

/-- A transition to a state begins. -/
def State.bankMove (s : State) (h b t : Nat) : State :=
  (s.setBankCur h b 3).updBank h (fun x => { x with target := Table.set 0 x.target b (1 + t) })

/-- A word of the half reads as uncorrectable from now on, or does so no more. -/
def State.setBankUe (s : State) (h w : Nat) (v : Bool) : State :=
  { s with bankUe := Table.set false s.bankUe (h * 0x400000 + w) v }
def State.bankUeAt (s : State) (h w : Nat) : Bool := Table.get false s.bankUe (h * 0x400000 + w)

/-! ## The directory (R265, R303) -/

/-- The agents that hold a line: destination ID, M or S. -/
def State.holders (s : State) (h line : Nat) : List (Nat × Bool) := Table.get [] s.dirc (h * 0x80000 + line)
def State.setHolders (s : State) (h line : Nat) (l : List (Nat × Bool)) : State :=
  { s with dirc := Table.set [] s.dirc (h * 0x80000 + line) l }

/-- An agent gives up its copies of a line. -/
def State.dropCopy (s : State) (h line id : Nat) : State := s.setHolders h line ((s.holders h line).filter (fun a => a.1 ≠ id))

/-- The engine table caches of the device drop a line of half h (R123: an engine reads its own half's tables). -/
def State.dropTables (s : State) (h a : Nat) : State :=
  s.each ((slotsOf h).filter (fun m => Table.get 0 (s.eng m).tcache (a / 64 % 128) == 1 + a / 8192)) (fun s m =>
    s.updEng m (fun e => { e with tcache := Table.set 0 e.tcache (a / 64 % 128) 0 }))

/-- The requester of a network access, as an agent. -/
def BankAcc.agent (a : BankAcc) : Option Nat := if a.id < 2 ^ 20 then none else some ((a.id - 2 ^ 20) / 256)

/-- The lines of an access, by line number. -/
def linesOf (a n : Nat) : List Nat := if n = 0 then [] else (List.range ((a + n - 1) / 64 - a / 64 + 1)).map (fun i => a / 64 + i)

/-- The lines and agents that must answer before the access completes (R265): for a read those with the writable copy, for a write or a
read for M every other. -/
def State.snooped (s : State) (h : Nat) (a : BankAcc) : List (Nat × Nat) :=
  (linesOf a.addr a.len).flatMap (fun l =>
    let others := (s.holders h l).filter (fun x => some x.1 ≠ a.agent)
    (if a.wr.isSome ∨ a.coh = 2 then others else others.filter (·.2)).map (fun x => (l, x.1)))

/-! ## Answers -/

/-- The network request an access came from. -/
def bankPkt (h : Nat) (a : BankAcc) : Pkt :=
  { opc := 1, src := (a.id - 2 ^ 20) / 256, dest := niOfBank h, tag := a.id % 256, size := a.len, attr := 0, route := 0,
    addr := a.addr, data := 0 }

/-- The answer to a whole access: data, or an error (a reason of R371); an access of an engine or a supervisor of the half itself is
answered on its own path. -/
def State.bankReply (s : State) (h : Nat) (a : BankAcc) (reason data : Nat) : State :=
  if 2 ^ 20 ≤ a.id then
    if reason ≠ 0 then s.nack (niOfBank h) (bankPkt h a) reason
    else if a.wr.isSome then s.answer (niOfBank h) (bankPkt h a) 0x41 0 a.addr 0
    else s.answer (niOfBank h) (bankPkt h a) 0xC1 0 a.addr (data * 256 ^ (a.addr % 64) % 2 ^ 512)
  else if a.by_ = byHost then
    let s := if reason = 0 then s else s.setOn (F.NOC_ERR.HOST_ERR h)
    if a.wr.isSome then s
    else { s with bus := Table.set 0 s.bus a.id (if reason = 0 then data else 0xFFFFFFFF) }
  else s

/-- An access, or a piece of one, has its answer; the last piece answers for all (R261). -/
def State.bankAnswer (s : State) (h : Nat) (a : BankAcc) (reason data : Nat) : State :=
  match s.bankJoins.find? (fun j => decide (a.join ≠ 0) && j.no == a.join) with
  | none => s.bankReply h a reason data
  | some j =>
    let j' := { j with
      left := j.left - 1, reason := if j.reason = 0 then reason else j.reason,
      data := j.data + data * 256 ^ (a.addr - j.acc.addr) }
    if j'.left = 0 then { s with bankJoins := s.bankJoins.erase j }.bankReply h j.acc j'.reason j'.data
    else { s with bankJoins := s.bankJoins.map (fun k => if k = j then j' else k) }

/-! ## Performing an access (R261, R262) -/

/-- The bytes [a, a + n) of word w that an access covers. -/
def covered (a n w : Nat) : Nat := min (a + n) (8 * w + 8) - max a (8 * w)

/-- An uncorrectable word is found. -/
def State.noteUe (s : State) (h w : Nat) : State :=
  (((s.setOn (F.BNK_ERR.UE h)).count (F.BNK_UE.UE h)).wr (F.BNK_EADDR.EADDR h) (8 * w))

/-- A corrected word is found: it is written back unless written meanwhile. -/
def State.noteCe (s : State) (h w : Nat) : State :=
  ((((s.setOn (F.BNK_ERR.CE h)).count (F.BNK_CE.CE h)).wr (F.BNK_EADDR.EADDR h) (8 * w))).updBank h (fun x =>
    { x with writeback := x.writeback ++ [(8 * w, s.bankRead h (8 * w) 8)] })

/-- A read is performed. -/
def State.bankDoRead (s : State) (h : Nat) (a : BankAcc) : State :=
  let ws := wordsOf a.addr a.len
  match ws.find? (fun w => s.bankUeAt h w) with
  | some w => (s.noteUe h w).bankAnswer h a 0x05 0
  | none =>
    match a.ecc with
    | .bad => (s.noteUe h (a.addr / 8)).bankAnswer h a 0x05 0
    | e =>
      let s := if e = .corrected then s.noteCe h (a.addr / 8) else s
      let line := a.addr / 64
      let s := match a.agent with
        | some id =>
          if bankReserved a.addr then s
          else if a.coh = 1 then s.setHolders h line (((s.holders h line).filter (fun (x : Nat × Bool) => decide (x.1 ≠ id))) ++ [(id, false)])
          else if a.coh = 2 then (s.setHolders h line [(id, true)]).dropTables h (64 * line) else s
        | none => s
      s.bankAnswer h a 0 (s.bankRead h a.addr a.len)

/-- One word of a write: a partial write of an uncorrectable word leaves it so, and counts (R262). -/
def State.bankWord (s : State) (h w : Nat) (a : BankAcc) : State :=
  let full := covered a.addr a.len w == 8
  let bad := s.bankUeAt h w || (a.ecc == .bad && w == a.addr / 8)
  let s := if !full && bad then s.noteUe h w else s
  let s := if !full && !bad && a.ecc == .corrected && w == a.addr / 8 then s.noteCe h w else s
  let s := s.setBankUe h w (!full && bad)
  s.updBank h (fun x => { x with writeback := x.writeback.filter (fun e => e.1 ≠ 8 * w) })

/-- A write is performed. -/
def State.bankDoWrite (s : State) (h : Nat) (a : BankAcc) (v : Nat) : State :=
  let s := s.each (wordsOf a.addr a.len) (fun s w => s.bankWord h w a)
  let s := s.bankWrite h a.addr a.len v
  let s := s.each (linesOf a.addr a.len) (fun s l => s.dropTables h (64 * l))
  let s := match a.agent with
    | some id => if a.coh = 3 then s.dropCopy h (a.addr / 64) id else s
    | none => s
  s.bankAnswer h a 0 0

def State.bankPerform (s : State) (h : Nat) (a : BankAcc) : State :=
  match a.wr with | some v => s.bankDoWrite h a v | none => s.bankDoRead h a

/-- The banks an access needs ON: the segment of the reserved area is always accessible (R263). -/
def needsBanks (a : BankAcc) : List Nat :=
  (((wordsOf a.addr a.len).filter (fun w => !bankReserved (8 * w))).map (· % 64)).eraseDups

/-- The access reaches its banks (R263, R264): OFF answers an error, RETENTION wakes and waits, a transition is waited for. -/
def State.bankReach (s : State) (h : Nat) (a : BankAcc) : State :=
  let bs := needsBanks a
  if bs.any (fun b => s.bankCur h b = 2) then (s.setOn (F.BNK_ERR.OFF h)).bankAnswer h a 0x04 0
  else if bs.any (fun b => s.bankShut h b) then
    let s := s.each (bs.filter (fun b => s.bankCur h b = 1)) (fun s b => s.bankMove h b 0)
    s.updBank h (fun x => { x with waits := x.waits ++ [a] })
  else s.bankPerform h a

/-- A snoop packet from the home to an agent. -/
def snoopPkt (h id opc line : Nat) : Pkt :=
  { opc := opc, src := niOfBank h, dest := id, tag := 0, size := 64, attr := 0, route := 0, addr := 64 * line, data := 0 }

/-- The home takes an access (R265): it snoops first, holding the request, if other copies stand in its way. -/
def State.bankHome (s : State) (h : Nat) (a : BankAcc) : State :=
  let ids := if bankReserved a.addr then [] else s.snooped h a
  if ids.isEmpty then s.bankReach h a
  else
    let opc := if a.wr.isSome ∨ a.coh = 2 then 0x80 else 0x81
    let s := s.each ids (fun s x => s.pushTx (niOfBank h) (snoopPkt h x.2 opc x.1))
    { s with homes := s.homes ++ [⟨h, a, ids⟩] }

/-- One access, or a piece of one, under the areas closed to its master (R259, R378): the answer, or the access. -/
def State.bankPiece (s : State) (h : Nat) (a : BankAcc) : State :=
  if bankReserved (a.addr + a.len - 1) then
    if a.by_ = byHost ∨ a.by_ = byEngine then s.bankAnswer h a 0 0
    else if a.by_ = byFabric ∨ a.by_ = byOther then s.bankAnswer h a 0x06 0
    else s.bankHome h a
  else s.bankHome h a

/-- The pieces of an access (R261): at most 8 bytes and an aligned line are whole; any other access is split into aligned words and
end pieces. What lies across the border of the reserved area is two pieces, so that each side follows its own rule (R259). -/
def piecesOf (a : BankAcc) : List (Nat × Nat) :=
  if 8 < a.len ∧ !(a.len = 64 ∧ a.addr % 64 = 0) then
    (wordsOf a.addr a.len).map (fun w => (max a.addr (8 * w), covered a.addr a.len w))
  else if a.addr < 0x1FC0000 ∧ 0x1FC0000 < a.addr + a.len then
    [(a.addr, 0x1FC0000 - a.addr), (0x1FC0000, a.addr + a.len - 0x1FC0000)]
  else [(a.addr, a.len)]

/-- An access of bank memory, piece by piece; `ecc` goes with its first word. -/
def State.bankAccess (s : State) (h : Nat) (a : BankAcc) : State :=
  if a.addr + a.len > 0x2000000 then s.bankReply h a 0x04 0
  else
    let ps := piecesOf a
    if ps.length ≤ 1 then s.bankPiece h a
    else
      let no := s.joinNo + 1
      let s := { s with joinNo := no, bankJoins := s.bankJoins ++ [(⟨no, h, a, ps.length, 0, 0⟩ : BankJoin)] }
      s.each ps (fun s p =>
        s.bankPiece h { a with
          addr := p.1, len := p.2, join := no, wr := a.wr.map (fun v => v / 256 ^ (p.1 - a.addr) % 256 ^ p.2),
          ecc := if p.1 = a.addr then a.ecc else .clean })

/-- An agent has answered a request's snoop of a line; the last one lets it go on. -/
def State.homeAnswer (s : State) (h line id : Nat) : State :=
  match s.homes.find? (fun q => q.half == h && q.wait.contains (line, id)) with
  | none => s
  | some q =>
    let wait := q.wait.filter (· ≠ (line, id))
    if wait.isEmpty then ({ s with homes := s.homes.erase q }).bankReach h q.acc
    else { s with homes := s.homes.map (fun r => if r = q then { r with wait := wait } else r) }

end Sys2Proof.Machine
end

