-- ==== Sys2Proof/Machine/TimeOps.lean ====
section
/-! DEFINITION. The device time (spec/14_time.md): ticks and their roll-over, steps, the servo's arithmetic, holdover,
triggers and comparators as the timebase moves. -/

namespace Sys2Proof.Machine

/-- Round n / d to the nearest whole number, half to even (CONVERGENT, R327, R330). -/
def roundConv (n : Int) (d : Nat) : Int :=
  let q := n.fdiv d
  let r := n.fmod d
  if 2 * r < d then q else if 2 * r > d then q + 1 else if q % 2 = 0 then q else q + 1

/-- Clamp to −m … m. -/
def clampTo (m v : Int) : Int := if v < -m then -m else if v > m then m else v

/-- A signed value of w bits as a bit pattern, and back. -/
def toBits (w : Nat) (v : Int) : Nat := (v % (2 ^ w : Int)).toNat
def fromBits (w v : Nat) : Int := if v % 2 ^ w ≥ 2 ^ (w - 1) then (v % 2 ^ w : Nat) - (2 ^ w : Int) else (v % 2 ^ w : Nat)

def State.updTime (s : State) (f : TimeSt → TimeSt) : State := { s with time := f s.time }

/-- The half whose timebase is the reference: the lantern holder's (R387). -/
def State.refHalf (s : State) : Nat := s.holder
def State.refTb (s : State) : Tb := s.tbase s.refHalf

def State.setTb (s : State) (h : Nat) (t : Tb) : State := { s with tb := Table.set Tb.reset s.tb h t }

/-- Both halves take an INC; TMB_INC reads the reference's (R387, R409). -/
def State.setInc (s : State) (v : Nat) : State :=
  let v := v % 2 ^ 36
  (((s.setTb 0 { s.tbase 0 with inc := v }).setTb 1 { s.tbase 1 with inc := v })).wr F.TMB_INC.INC v

/-- {NS, FRAC} as one number of 2^-32 ns; a second in the same unit. -/
def Tb.units (t : Tb) : Nat := t.ns * 2 ^ 32 + t.frac
def secUnits : Nat := 1000000000 * 2 ^ 32

/-- The timebase k ticks later (R386), by its own INC. -/
def Tb.after (t : Tb) (k : Nat) : Tb :=
  let u := t.units + k * t.inc
  { t with frac := u % 2 ^ 32, ns := u % secUnits / 2 ^ 32, sec := (t.sec + u / secUnits) % 2 ^ 48 }

/-- The timebase stepped by d sixteenths of a nanosecond; SEC wraps. -/
def Tb.step (t : Tb) (d : Int) : Tb :=
  let whole := ((t.sec * secUnits + t.units : Nat) : Int) + d * 2 ^ 28
  let u := (whole % ((2 ^ 48 * secUnits : Nat) : Int)).toNat
  { t with frac := u % 2 ^ 32, ns := u % secUnits / 2 ^ 32, sec := u / secUnits }

/-- The timebase at the nearest multiple of 10 ns, CONVERGENT (R389, R394). -/
def Tb.toGrid (t : Tb) : Tb :=
  let n := roundConv t.units (10 * 2 ^ 32)
  let ns := (n * 10).toNat
  { t with frac := 0, ns := ns % 1000000000, sec := (t.sec + ns / 1000000000) % 2 ^ 48 }

/-- Has the time reached a target (R403)? Only SEC and NS count. -/
def Tb.reached (t : Tb) (sec ns : Nat) : Bool := decide (sec < t.sec) || (t.sec == sec && decide (ns ≤ t.ns))

/-- Ticks until the timebase's {NS, FRAC} is at least u units (0 when it is). -/
def Tb.ticksTo (t : Tb) (u : Nat) : Nat := if t.units ≥ u then 0 else (u - t.units + t.inc - 1) / t.inc

/-- NS has wrapped in half h: a SYNC packet (R482), and PPS_OUT rises with the reference's wrap (R408). -/
def State.rolled (s : State) (h : Nat) : State :=
  let s := s.traceSync h
  if h = s.refHalf ∧ s.on F.TMB_PPS.EN then s.updTime (fun t => { t with pps := true }) else s

/-- The watchdog of the gang that slot n leads runs (R111): not while the engine is PAUSED or in the monitor. -/
def State.wdogRuns (s : State) (n : Nat) : Bool :=
  let e := s.eng n
  let t := s.slotState n
  e.ctx.isSome && e.leader == n && e.wdogP != 0 && !e.stopped && (t == stPreload || t == stWait || t == stRun)

/-- The watchdogs of half h count d units of 2^-32 ns of its timebase. -/
def State.wdogCount (s : State) (h d : Nat) : State :=
  s.each ((slotsOf h).filter s.wdogRuns) (fun s n => s.updEng n (fun e => { e with wdog := e.wdog - d }))

/-- k TCLK ticks go by in both halves (R386); the pattern watchdogs count by their half's timebase (R111). -/
def State.elapse (s : State) (k : Nat) : State :=
  let s := { s with ticks := s.ticks + k }
  s.each [0, 1] (fun s h =>
    let t := s.tbase h
    let u := t.after k
    ((s.setTb h u).wdogCount h (k * t.inc)).when (t.sec != u.sec) (fun s => s.rolled h))

/-- The time that a time-driven event names has come: within the present second the ticks up to it have gone by; a later
second has not come (log entry 12). -/
def State.elapseTo (s : State) (h sec ns : Nat) : State :=
  let t := s.tbase h
  if t.sec = sec then s.elapse (t.ticksTo (ns * 2 ^ 32)) else s

/-- Will the time of an event have come once the present second's ticks go by? -/
def State.canReach (s : State) (h sec ns : Nat) : Bool :=
  (s.tbase h).reached sec ns || ((s.tbase h).sec == sec && (s.tbase h).inc != 0 && decide (ns < 1000000000))

/-- Syntonised: AUTO with REFCLK present (R388, R389); a reserved MODE acts as AUTO. -/
def State.isAuto (s : State) : Bool := s.time.mode == 0 || s.time.mode == 3
def State.syntonised (s : State) : Bool := s.isAuto && !s.time.refLost
def State.swinc (s : State) : Bool := s.time.mode == 2

/-- TMB_STAT.SYNT follows. -/
def State.updSynt (s : State) : State := s.wr F.TMB_STAT.SYNT (b2n s.syntonised)

def tFree : Nat := 0
def tAcquire : Nat := 1
def tTracking : Nat := 2
def tHoldover : Nat := 3
def tSwinc : Nat := 4

/-- Every dispatched and uncommitted job carries HOLDOVER (R393, bit 2 of FLAGS). -/
def State.flagHoldover (s : State) : State :=
  s.each (List.range 64) (fun s c => s.updCtx c (fun x => { x with
    jobs := x.jobs.map (fun j => if j.phase = .queued then j else j.flag 2) }))

/-- A change on its way to a common tick (R387). -/
def State.queueChange (s : State) (c : TimeChange) : State := s.updTime (fun t => { t with changes := t.changes ++ [c] })

/-- A TIME_STATE event on the PF's ring (R64, R393). -/
def State.timeState (s : State) (d : Nat) : State := s.post 0 ⟨none, 7, d, 0, 0⟩

/-- Enter HOLDOVER from ACQUIRE or TRACKING (R393): SERVO freezes INC at 2 ns − i. -/
def State.enterHoldover (s : State) : State :=
  let st := s.rd F.TMB_STAT.STATE
  if st = tAcquire ∨ st = tTracking then
    let s := (s.wr F.TMB_STAT.STATE tHoldover).flagHoldover
    let s := if s.syntonised then s else s.queueChange (.inc (0x200000000 - s.time.integ).toNat)
    s.timeState 1
  else s

/-- Loss of REFCLK at the timebase (R394): INC becomes 2 ns scaled by the oscillator's ratio and the state HOLDOVER, except in
SWINC. -/
def State.timeRefLoss (s : State) : State :=
  let s := (s.updTime (fun t => { t with refLost := true })).setOn F.TMB_STAT.REFCLK_LOSS
  let s := if s.swinc then s
    else
      let s := s.setInc s.time.oscInc
      if s.rd F.TMB_STAT.STATE = tHoldover then s else ((s.wr F.TMB_STAT.STATE tHoldover).flagHoldover).timeState 1
  s.updSynt

/-- A step is applied: STEPPED and STEPS (R396). -/
def State.noteStep (s : State) : State := (s.setOn F.TMB_STAT.STEPPED).count F.TMB_STAT.STEPS

/-- Apply a change in both halves at the common tick. A step that crosses a second sends a SYNC packet; a change of MODE that ends
holdover posts its exit (R393). -/
def State.applyChange (s : State) (c : TimeChange) : State :=
  let both := fun (s : State) (f : Tb → Tb) => s.each [0, 1] (fun s h =>
    let t := s.tbase h
    (s.setTb h (f t)).when (t.sec != (f t).sec) (fun s => s.traceSync h))
  match c with
  | .step d => (both s (fun t => t.step d)).noteStep
  | .grid => (both s Tb.toGrid).noteStep
  | .inc v => s.setInc v
  | .mode m =>
    let old := s.time.mode
    let lost := s.time.refLost
    let held := s.rd F.TMB_STAT.STATE == tHoldover
    let s := s.updTime (fun t => { t with mode := m, defer := none, acq := 0, left := false })
    let s := if m = 2 then s.wr F.TMB_STAT.STATE tSwinc
      else if (m = 0 ∨ m = 3) ∧ (old = 1 ∨ old = 2) ∧ !lost then
        ((both (s.setInc 0x200000000) Tb.toGrid).noteStep).wr F.TMB_STAT.STATE tAcquire
      else if old = 2 then s.wr F.TMB_STAT.STATE tAcquire
      else s
    s.updSynt.when (held && s.rd F.TMB_STAT.STATE != tHoldover) (fun s => s.timeState 2)

/-- One trigger of half h: armed and able to fire. -/
def State.trgLive (s : State) (h k : Nat) : Bool :=
  s.on (F.TMB_TRG_CTL.EN h k) && !Table.get false s.time.spent (8 * h + k)

/-- A target lies within 1 ms after the current time of a half. -/
def State.within1ms (s : State) (h sec ns : Nat) : Bool :=
  let t := s.tbase h
  let now := t.sec * 1000000000 + t.ns
  let at_ := sec * 1000000000 + ns
  decide (now ≤ at_) && decide (at_ ≤ now + 1000000)

/-- A grid step is deferred while a trigger or start comparator is armed with a target within 1 ms ahead (R392). -/
def State.gridBlocked (s : State) : Bool :=
  [0, 1].any (fun h => (List.range 8).any (fun k =>
    s.trgLive h k && s.within1ms h (s.rd (F.TMB_TRG_SEC.SEC h k)) (s.rd (F.TMB_TRG_NS.NS h k)))) ||
  s.time.starts.any (fun q => !q.fired && s.within1ms q.half q.sec q.ns)

/-- A grid step of −10 n ns (R392): queued, or deferred in place of an older one. -/
def State.gridStep (s : State) (n : Int) : State :=
  if n = 0 then s.updTime (fun t => { t with defer := none })
  else if s.gridBlocked then s.updTime (fun t => { t with defer := some n })
  else (s.updTime (fun t => { t with defer := none })).queueChange (.step (-160 * n))

/-- The full seconds value of a START_TIME's 34-bit seconds (R406): within 2^33 seconds of now. -/
def State.startSec (s : State) (f : Nat) : Nat :=
  let m := (s.refTb).sec + 2 ^ 33 - 1
  (m - (m + 2 ^ 34 - f % 2 ^ 34) % 2 ^ 34) % 2 ^ 48

/-- The start comparators of context c are disarmed. -/
def State.dropStarts (s : State) (c : Nat) : State :=
  s.updTime (fun t => { t with starts := t.starts.filter (fun q => q.ctx ≠ c) })

end Sys2Proof.Machine
end

