-- ==== Sys2Proof/Machine/Clock.lean ====
section
/-! DEFINITION. ECLK generation and REFCLK (R27–R30, R394): the commands on the ECLK PLLs and the loss and return of REFCLK. -/

namespace Sys2Proof.Machine

/-- The outcome of a meaning. Every command of this block answers a next state. -/
abbrev Out := Host.Outcome State Fault Refusal

/-- An APPLY of half h is pending (R28): accepted, its moment not yet come. -/
def State.applyPending (s : State) (h : Nat) : Bool := (s.clk h).waiting

/-- A write of APPLY (R28): discarded while one is pending or being done, refused unless every slot of the half is at rest.
SYNC frames of an earlier APPLY no longer count; the next whole second of the half's timebase is fixed now. The flag says
whether the write was taken. -/
def State.eclkApply (s : State) (h : Nat) : Bool × State :=
  if s.on (F.GLB_ECLK_CTL.APPLY h) ∨ !s.halfAtRest h then (false, s)
  else (true, ((s.setOn (F.GLB_ECLK_CTL.APPLY h)).updClk h (fun c =>
      { c with waiting := true, sec := (s.tbase h).sec + 1 })).updTime (fun t =>
      { t with syncs := if s.applyPending (1 - h) then t.syncs else [] }))

/-- A pending APPLY is abandoned (R28): FW and the PLL stay, ABANDONED is set. -/
def State.eclkAbandon (s : State) (h : Nat) : State :=
  (((s.clr (F.GLB_ECLK_CTL.APPLY h)).setOn (F.GLB_ECLK_CTL.ABANDONED h))).updClk h (fun c => { c with waiting := false })

/-- May the pending APPLY be abandoned? Only with ALIGN_SRC 0b01 or 0b10. -/
def State.abandonable (s : State) (h : Nat) : Bool :=
  s.applyPending h && (s.eff (F.GLB_ECLK_CTL.ALIGN_SRC h) == 1 || s.eff (F.GLB_ECLK_CTL.ALIGN_SRC h) == 2)

/-- Every channel of half h. -/
def chansOf (h : Nat) : List Nat := (List.range 128).map (fun c => 128 * h + c)

/-- The moment that ALIGN_SRC selects has come (R27, R28): a REFCLK edge needs REFCLK; a SYNC frame's action time needs a
frame whose time has been reached; the whole second after the write must have begun in the half's timebase. -/
def State.alignMoment (s : State) (h : Nat) : Bool :=
  !s.time.refLost &&
  match s.eff (F.GLB_ECLK_CTL.ALIGN_SRC h) with
  | 1 => s.time.syncs.any (fun t => (s.tbase h).reached t.1 t.2)
  | 2 => (s.tbase h).reached (s.clk h).sec 0
  | _ => true

/-- RATE_ERR of a serial channel follows the half's frequency word; while it reads 1 the channel is off as under a fence
(R186). The channel then has the role of a source at rest. -/
def State.checkRate (s : State) (c : Nat) : State :=
  (s.wr (F.CHN_STAT.RATE_ERR c) (b2n (s.serial c && s.rateBad (s.clk (selH c)).fw (s.uic c)))).restChan c

/-- ECLK_APPLY (R28). -/
def execEclkApply (r : Req) (h : Fin 2) (s : State) : Out :=
  .next (if s.mayWrite r .glb (some h) then (s.eclkApply h).2 else s)

/-- ECLK_APPLY_CANCEL (R27, R28): no effect when none is pending. -/
def execEclkApplyCancel (r : Req) (h : Fin 2) (s : State) : Out :=
  .next (if s.mayWrite r .glb (some h) ∧ s.abandonable h then s.eclkAbandon h else s)

/-- ECLK_APPLY_TIMEOUT (R28): 2 s after the write. -/
def execEclkApplyTimeout (h : Fin 2) (s : State) : Out :=
  .next (if s.abandonable h then s.eclkAbandon h else s)

/-- ECLK_ALIGN_MOMENT (R28, R29): FW is loaded, the PLL re-aligns and its modulator is re-seeded; ECLK is gated off until the
PLL relocks, so that LOCKED and LOCKLOSS show the lock lost (R27); the half's channels drive the PAUSE role. The SYNC
action time that gave the moment is used up. -/
def execEclkAlignMoment (h : Fin 2) (s : State) : Out :=
  .next (if s.applyPending h ∧ s.alignMoment h then
      let used := s.eff (F.GLB_ECLK_CTL.ALIGN_SRC h) = 1
      let fw := s.rd (F.GLB_ECLK_FW.FW h)
      let s := s.updClk h (fun c =>
        { c with fw := fw, waiting := false, gated := true, stopped := false, seeds := c.seeds + 1 })
      let s := (s.setOn (F.GLB_ECLK_CTL.LOCKLOSS h)).clr (F.GLB_ECLK_CTL.LOCKED h)
      let s := if used then s.updTime (fun t => { t with
          syncs := t.syncs.filter (fun q => !((s.tbase h).reached q.1 q.2) || (s.applyPending (1 - h))) }) else s
      s.each (chansOf h) (fun s c => s.pauseNow c)
    else s)

/-- ECLK_RELOCK (R27, R28): the enabled PLL has locked, ECLK runs; an APPLY is done, and serial channels outside their rate
range read RATE_ERR (R186). -/
def execEclkRelock (h : Fin 2) (s : State) : Out :=
  .next (if s.on (F.GLB_ECLK_CTL.EN h) ∧ !s.on (F.GLB_ECLK_CTL.LOCKED h) ∧ !(s.clk h).stopped ∧ !s.time.refLost then
      let done := (s.clk h).gated && !s.applyPending h
      let s := (s.setOn (F.GLB_ECLK_CTL.LOCKED h)).updClk h (fun c => { c with gated := false })
      if done then (s.clr (F.GLB_ECLK_CTL.APPLY h)).each (chansOf h) (fun s c => s.checkRate c) else s
    else s)

/-- ECLK_LOCK_LOSS (R27). -/
def execEclkLockLoss (h : Fin 2) (s : State) : Out :=
  .next ((s.setOn (F.GLB_ECLK_CTL.LOCKLOSS h)).clr (F.GLB_ECLK_CTL.LOCKED h))

/-- A running job loses its resources (R30): its engines stop, or its work ends, and it completes RESOURCE_LOST. A job whose
own work has not begun does not run yet. -/
def State.loseJob (s : State) (c : Nat) : State :=
  match s.front c with
  | some j =>
    if j.phase = .queued ∨ j.phase = .dispatched ∨ j.phase = .done then s
    else if dType j.desc = 2 then (s.failFront c 0x12 0).stopJob c
    else s.finishFront c 0x12 0
  | none => s

/-- An interface is put into self-refresh by a loss of REFCLK (R30, R249, R253): a retraining step is aborted, the write queue drains,
MCK_n loses its lock. A switch cut short follows the next exit (DESIGN CHOICE, log entry 39), and so does an exit. -/
def State.dramHold (s : State) (n : Nat) : State :=
  let s := s.updDmc n (fun d => { d with
    refHold := true, exiting := false, wake := d.wake || d.exiting, deferred := d.deferred || d.switching, switching := false })
  let st := s.rd (F.DMC_STAT.STATE n)
  if st ≤ 1 ∨ st = 6 then s
  else
    let s := (s.dropPass n 1).clr (F.DMC_STAT.MCK_LOCK n)
    if st = 5 ∨ (s.dmc n).entering then s else (s.wr (F.DMC_STAT.STATE n) 2).srEnter n

/-- REFCLK_LOSS (R30, R394, R434): clocks switch to the internal oscillator (R24 keeps their frequencies), the ECLK PLLs stop
and every drive enable is deasserted, D driving 0 (R170), running jobs end RESOURCE_LOST, DRAM enters self-refresh, the
timebase holdover. An APPLY whose moment has not come stays pending; one whose relock the loss cuts short is over, so that
software can issue the next (DESIGN CHOICE, log entry 36). -/
def execRefclkLoss (s : State) : Out :=
  .next (if s.time.refLost then s
    else
      let s := s.each (List.range 64) (fun s c => s.loseJob c)
      let s := s.each [0, 1] (fun s h =>
        (((s.setOn (F.GLB_ECLK_CTL.LOCKLOSS h)).clr (F.GLB_ECLK_CTL.LOCKED h)).when (!s.applyPending h) (fun s =>
          s.clr (F.GLB_ECLK_CTL.APPLY h))).updClk h (fun c => { c with stopped := true, gated := false }))
      let s := s.each (List.range 256) (fun s c => s.updChan c ChanSt.off)
      let s := s.each (List.range 8) (fun s n => s.dramHold n)
      (s.timeRefLoss).raiseSnap 3)

/-- REFCLK_RETURN (R394): after 1 ms TCLK returns to REFCLK; outside SWINC INC is 2 ns and the time steps to the 10 ns grid.
From then on both timebases are equal at every tick (R387). The state stays HOLDOVER and ECLK stays stopped until software
writes an APPLY (R30). -/
def execRefclkReturn (s : State) : Out :=
  .next (if s.time.refLost then
      let s := s.updTime (fun t => { t with refLost := false })
      let s := s.each (List.range 8) (fun s n => s.updDmc n (fun d => { d with
        refHold := false, exiting := d.wake && !d.entering, wake := d.wake && d.entering }))
      let s := if s.swinc then s else (s.setInc 0x200000000).applyChange .grid
      (s.setTb (1 - s.refHalf) s.refTb).updSynt
    else s)

end Sys2Proof.Machine
end

