-- ==== Sys2Proof/Machine/HostLink.lean ====
section
/-! DEFINITION. The host link, functions and contexts (R33–R48, R69–R71): link and resets, enabling a function or a
context, the doorbell polls, reconciliation, and the ledger. -/

namespace Sys2Proof.Machine

/-- In service: IN_SERVICE or DEGRADED (R443). -/
def State.inService (s : State) : Bool := s.rd F.GLB_STATE.STATE == 7 || s.rd F.GLB_STATE.STATE == 8

/-! ## The ledger (R65–R67) -/

/-- A ledger entry with its CHECK. -/
def ledgerWord (acc cmp lgen epoch : Nat) : Nat :=
  let w := acc + 2 ^ 64 * cmp + 2 ^ 128 * (lgen % 2 ^ 32) + 2 ^ 160 * epoch
  w + 2 ^ 192 * crc32c 24 w

/-- The CRC of an entry is good. -/
def ledgerOk (w : Nat) : Bool := bits w 192 32 == crc32c 24 (w % 2 ^ 192)

/-- The mirror of context n's entry, a half address in the ledger-mirror area (R65, R257). -/
def mirrorAddr (n : Nat) : Nat := 0x1FDA000 + 32 * n

/-- The entry as the registers stand. -/
def State.ledgerNow (s : State) (n : Nat) : Nat :=
  ledgerWord (s.rd (F.HIF_CTX_ACC.ACC n)) (s.rd (F.HIF_CTX_CMP.CMP n)) (s.ctx n).lgen (s.sup s.holder).epoch

/-- Update both mirrors; only the holder's own while the other supervisor is fenced (R67). -/
def State.writeMirrors (s : State) (n : Nat) : State :=
  let w := s.ledgerNow n
  let own := s.holder
  let s := s.bankWrite own (mirrorAddr n) 32 w
  if s.isFenced (217 - own) then s else s.bankWrite (1 - own) (mirrorAddr n) 32 w

/-- Write the host ledger in one 32-byte write. -/
def State.writeLedger (s : State) (n : Nat) : State := s.hostWrite (s.ledgerAddr n) 32 (s.ledgerNow n)

/-! ## Resets of the host interface (R69) -/

/-- Context n is stopped by a reset: its jobs end without a completion, EN and HALTED are cleared, REASON reads 3. -/
def State.resetCtx (s : State) (n : Nat) : State :=
  ((((s.dropJobs n).clr (F.HIF_CTX_CFG.EN n)).clr (F.HIF_CTX_CFG.HALTED n)).wr (F.HIF_CTX_STAT.REASON n) 3)

/-- A function is reset: EN is cleared; nothing of its polls and events is kept. -/
def State.resetFn (s : State) (f : Nat) : State := (s.clr (F.HIF_FN_CFG.EN f)).updFn f (fun _ => FnSt.reset)

/-- The channels that a job's engine feeds. -/
def State.jobChans (s : State) : List Nat := (List.range 256).filter (fun c =>
  (List.range 104).any (fun n => (s.eng n).ctx.isSome && s.feeds n c))

/-- The drive enables of some channels are deasserted (R69). -/
def State.undrive (s : State) (cs : List Nat) : State :=
  s.each cs (fun s c => s.updChan c (fun x => { x with eLevel := false, events := x.of 0 }))

/-- PERST_N, a hot reset and an FLR of the PF stop every context and function. -/
def State.resetHost (s : State) : State :=
  let s := s.each (List.range 64) (fun s n => s.resetCtx n)
  let s := s.each (List.range 33) (fun s f => s.resetFn f)
  { s with heldOut := [] }

/-- LINK_DOWN (R69): nothing stops; writes are held from now on. -/
def execLinkDown (s : State) : Out := .next (s.clr F.HIF_LINK_STAT.UP)

/-- LINK_UP (R33, R35, R69): the link trained at a rate and width; held writes go out in order. At 64 GT/s FLIT mode is
always on, and a link below 16 GT/s reads SLOW. -/
def execLinkUp (rate : Fin 6) (width : Fin 4) (flit : Bool) (s : State) : Out :=
  let s := ((((s.setOn F.HIF_LINK_STAT.UP).wr F.HIF_LINK_STAT.RATE rate).wr F.HIF_LINK_STAT.WIDTH (2 ^ width.val)).wr
    F.HIF_LINK_STAT.FLIT (b2n (flit || rate == 5))).wr F.HIF_LINK_STAT.SLOW (b2n (decide (rate.val < 3)))
  let held := s.heldOut
  .next (({ s with heldOut := [] }).each held (fun s w => s.commitWrite w))

/-- PERST (R69, R440, R445): running jobs stop, and what they drove is deasserted whatever PAUSE_DRV says. -/
def execPerst (s : State) : Out :=
  .next { ((s.resetHost).undrive s.jobChans).clr F.HIF_LINK_STAT.UP with hostReady := false }

/-- HOT_RESET (R69). -/
def execHotReset (s : State) : Out := .next (((s.resetHost).undrive s.jobChans).clr F.HIF_LINK_STAT.UP)

/-- FLR (R69): of the PF, or of one VF and the contexts whose FN names it. -/
def execFlr (f : Fin 33) (s : State) : Out :=
  .next (if f = 0 then s.resetHost
    else (s.each ((List.range 64).filter (fun n => s.ownerFn n = f)) (fun s n => s.resetCtx n)).resetFn f)

/-! ## Enabling -/

/-- The EVCI read of a function's enable: P and B take its value, the ring starts empty (R39). -/
def State.fnEnable (s : State) (f evci : Nat) : State :=
  (s.setOn (F.HIF_FN_CFG.EN f)).updFn f (fun _ => { FnSt.reset with p := evci, b := evci, evci := evci })

/-- FN_ENABLE (R39): EN goes from 0 to 1, or its EVCI read returns. BAR0 takes the write in service only (R444). -/
def execFnEnable (f : Fin 33) (evci : Word32) (s : State) : Out :=
  .next (if s.inService ∧ (!s.on (F.HIF_FN_CFG.EN f) ∨ (s.fn f).await) then s.fnEnable f evci.toNat else s)

/-- SEQBASE − 1; a reserved SEQBASE of 0 acts as 1 (R9). -/
def State.seqBase (s : State) (n : Nat) : Nat :=
  let v := s.rd (F.HIF_CTX_SEQBASE.SEQBASE n)
  if v = 0 then 1 else v

/-- A fresh start (R70): ledger at SEQBASE − 1, LGEN 0; earlier unfinished jobs are discarded. -/
def State.startFresh (s : State) (n : Nat) : State :=
  let s := ((s.dropJobs n).setOn (F.HIF_CTX_CFG.EN n)).clr (F.HIF_CTX_CFG.HALTED n)
  let s := (s.wr (F.HIF_CTX_ACC.ACC n) (s.seqBase n - 1)).wr (F.HIF_CTX_CMP.CMP n) (s.seqBase n - 1)
  (s.writeMirrors n).writeLedger n

/-- CONTEXT_START_FRESH (R70, R444). -/
def execContextStartFresh (n : Fin 64) (s : State) : Out :=
  .next (if s.inService ∧ s.served ∧ !s.on (F.HIF_CTX_CFG.EN n) ∧ !s.on (F.HIF_CTX_CFG.RECONCILE n) then s.startFresh n
    else s)

/-- EN written 0 (R69): running jobs stop, HALTED is cleared, accepted jobs are left to reconciliation. -/
def State.ctxDisable (s : State) (n : Nat) : State :=
  ((s.dropJobs n).clr (F.HIF_CTX_CFG.EN n)).clr (F.HIF_CTX_CFG.HALTED n)

/-- CONTEXT_DISABLE (R69). -/
def execContextDisable (n : Fin 64) (s : State) : Out := .next (s.ctxDisable n)

/-! ## Reconciliation (R71) -/

/-- A new job as its descriptor arrives (R58): the first check that fails is recorded, and the CRC. -/
def Job.fresh (q : Nat) (d : Desc) (reject : Nat) : Job :=
  { seq := q, desc := d, crc := crc32c 64 d.toNat, permitted := false, phase := .queued, reject := reject, held := false,
    aborted := false, paused := false, ctlDue := isCtl (dType d) && reject == 0, start := dStart d, status := none,
    detail := 0, flags := 0, cycles := 0, fails := 0, engs := [], chans := [], caps := [], portUsed := false, redisp := 0,
    restart := false, calStat := [] }

/-- A completion record in a ring slot is that of sequence number q, with a good CRC (R62). -/
def recordOk (r q : Nat) : Bool := r % 2 ^ 64 == q && bits r 224 32 == crc32c 28 (r % 2 ^ 224)

/-- The scan of R71 over the completion ring: the last sequence number with a valid record. -/
def scanCq (cq : List (BitVec 256)) (ringN acc : Nat) : Nat → Nat → Nat
  | 0, cmp => cmp
  | k + 1, cmp =>
    if cmp < acc ∧ recordOk ((cq.getD ((cmp + 1) % ringN) 0).toNat) (cmp + 1) then scanCq cq ringN acc k (cmp + 1) else cmp

/-- The job that reconciliation makes of sequence number q (R71): to complete INTERRUPTED or REJECTED, or to run again. -/
def reconJob (fn q : Nat) (d : Desc) (rebuilt : Bool) : Job :=
  let j := { Job.fresh q d 0 with permitted := true, ctlDue := false }
  let intr := fun det => { j with phase := .done, status := some 0x11, detail := det }
  if dSeq d ≠ q then intr 0x102
  else if rebuilt then intr 0x103
  else if isCtl (dType d) then intr 0x101
  else if dRerun d then
    let e := checkDesc fn d
    if e ≠ 0 then { j with reject := e } else j.flag 0
  else intr 0x101

/-- A job that reconciliation runs: neither interrupted nor rejected. -/
def Job.reruns (j : Job) : Bool := j.phase == .queued && j.reject == 0

/-- CONTEXT_RECONCILE (R71): the ledger entry, the doorbell record and both rings as the host's memory holds them. Nothing
left to complete posts RECONCILED at once; otherwise the last completion posts it (COMPLETION_COMMIT). -/
def execContextReconcile (n : Fin 64) (entry : BitVec 256) (db : Word64) (sq : List Desc) (cq : List (BitVec 256))
    (s : State) : Out :=
  .next (if s.inService ∧ s.served ∧
      ((!s.on (F.HIF_CTX_CFG.EN n) ∧ s.on (F.HIF_CTX_CFG.RECONCILE n)) ∨ (s.ctx n).await) then
    let s := ((s.dropJobs n).setOn (F.HIF_CTX_CFG.EN n)).clr (F.HIF_CTX_CFG.HALTED n)
    let e := entry.toNat
    let rn := s.ringN n
    let base := s.seqBase n
    let good := ledgerOk e
    let p := (db.toNat % 2 ^ 32 + 2 ^ 32 - 1) % 2 ^ 32
    let d := sq.getD (p % rn) 0
    let acc : Option Nat :=
      if good then some (bits e 0 64)
      else if dSeq d % 2 ^ 32 = p ∧ dSeq d ≥ base - 1 then some (dSeq d)
      else if p = (base - 1) % 2 ^ 32 then some (base - 1) else none
    match acc with
    | none => s.haltCtx n 4
    | some acc =>
      let cmp0 := if good then bits e 64 64 else max (base - 1) (acc - rn)
      let cmp := scanCq cq rn acc (acc - cmp0) cmp0
      let lgen := if good then (bits e 128 32 + 1) % 2 ^ 32 else 1
      let jobs := (List.range (acc - cmp)).map (fun i =>
        reconJob (s.ownerFn n) (cmp + 1 + i) (sq.getD ((cmp + 1 + i) % rn) 0) (!good))
      let rerun := (jobs.filter Job.reruns).length
      let s := (s.wr (F.HIF_CTX_ACC.ACC n) acc).wr (F.HIF_CTX_CMP.CMP n) cmp
      let s := s.updCtx n (fun _ => { CtxSt.reset with
        pi := (acc + 1) % 2 ^ 32, jobs := jobs, lgen := lgen,
        ctls := ((List.range rn).map (fun i => sq.getD i 0)).filterMap (fun d =>
          if isCtl (dType d) && decide (dSeq d ≤ acc) then some (dSeq d) else none),
        recon := if jobs.isEmpty then none else some ⟨!good, acc, rerun⟩ })
      let s := (s.writeMirrors n).writeLedger n
      if jobs.isEmpty then s.postCtx n 3 (b2n (!good)) 0 acc else s
  else s)

/-! ## Doorbells (R44–R48) -/

/-- The context whose doorbell record may be served for function f: a reconciliation ends before new descriptors are fetched
(R71). -/
def State.dbServed (s : State) (f n : Nat) : Bool :=
  s.ownerFn n == f && s.ctxLive n && !(s.ctx n).await && (s.ctx n).recon.isNone

/-- One doorbell record (R47): ignored with a wrong GEN or more than N descriptors outstanding, otherwise PI is taken. The
flag says whether it was taken. -/
def State.doorbell (s : State) (f n : Nat) (w : Word64) : Bool × State :=
  let pi := w.toNat % 2 ^ 32
  let out := (pi + 2 ^ 33 - 1 - s.rd (F.HIF_CTX_CMP.CMP n) % 2 ^ 32) % 2 ^ 32
  if bits w.toNat 32 16 ≠ s.rd (F.HIF_CTX_GEN.GEN n) ∨ out > s.ringN n then
    (false, (s.setOn (F.HIF_FN_STAT.DB_STALE f)).postCtx n 4 0 0 0)
  else (true, s.updCtx n (fun x => { x with pi := pi }))

/-- Descriptors of context n covered by its doorbell and not fetched, at most 16 in a poll (R48). -/
def State.toFetch (s : State) (n : Nat) : Nat :=
  let cmp := s.rd (F.HIF_CTX_CMP.CMP n)
  let have_ := s.rd (F.HIF_CTX_ACC.ACC n) - cmp + (s.ctx n).batch.length
  let out := ((s.ctx n).pi + 2 ^ 33 - 1 - cmp % 2 ^ 32) % 2 ^ 32
  min 16 (out - have_)

/-- Serve the doorbell records read in a poll: the descriptor fetches that follow, URGENT contexts first, the others
round-robin from the context after the last one served (R48). -/
def State.serveDoorbells (s : State) (f : Nat) (recs : List (Fin 64 × Word64)) : State :=
  let served := recs.filter (fun r => s.dbServed f r.1)
  let r := served.foldl (fun (r : List Nat × State) e =>
    let t := r.2.doorbell f e.1 e.2
    (if t.1 then r.1 ++ [e.1.val] else r.1, t.2)) ([], s)
  let s := r.2
  let urgent := fun (n : Nat) => served.any (fun e => e.1.val = n && bit e.2.toNat 48)
  let rr := (s.fn f).rr
  let ring := (List.range 64).map (fun i => (rr + 1 + i) % 64)
  let order := (List.range 64).filter (fun n => r.1.contains n && urgent n) ++
    ring.filter (fun n => r.1.contains n && !urgent n)
  let fetch := (order.map (fun n => (n, s.toFetch n))).filter (fun e => e.2 ≠ 0)
  s.updFn f (fun q => { q with
    fetchQ := fetch, rr := match fetch.getLast? with | some e => e.1 | none => q.rr })

/-- The ring service polls function f (R47): enabled, its first EVCI read done, a holder that has reconciled (R67), the link
up. -/
def State.polls (s : State) (f : Nat) : Bool :=
  s.on (F.HIF_FN_CFG.EN f) && !(s.fn f).await && s.served && s.linkUp && !(s.sup s.holder).recon

/-- DOORBELL_POLL (R47, R48, R64): SUMMARY, EVCI and the records of the flagged contexts. -/
def execDoorbellPoll (f : Fin 33) (summary : Word64) (evci : Word32) (recs : List (Fin 64 × Word64)) (s : State) : Out :=
  .next (if s.polls f then
      let s := s.updFn f (fun q => { q with evci := evci.toNat, polls := q.polls + 1 })
      let s := s.eventsLost f
      s.serveDoorbells f (recs.filter (fun r => bit summary.toNat r.1))
    else s)

/-- DOORBELL_FULL_SCAN (R47): due every 64 poll intervals. -/
def execDoorbellFullScan (f : Fin 33) (recs : List (Fin 64 × Word64)) (s : State) : Out :=
  .next (if s.polls f ∧ (s.fn f).polls ≥ 64 then
      (s.updFn f (fun q => { q with polls := 0 })).serveDoorbells f recs
    else s)

end Sys2Proof.Machine
end

