-- ==== Sys2Proof/Machine/TableOps.lean ====
section
/-! DEFINITION. Writes to the tables that SETUP jobs and the table windows share: sequence memory (R76–R83), timing sets
(R187), lane maps, pin function sets and scramble tables (R131, R132), vector-switch selections (R133, R134). -/

namespace Sys2Proof.Machine

/-- Mirror mode: both halves hold identical contents (R76). -/
def State.mirror (s : State) : Bool := !s.on F.ENG_SEQ_CTL.SPLIT

/-- A committed write invalidates the entry's line in every sequence cache of the half and makes the predictor entries of
that address cold (R83). -/
def State.seqInvalidate (s : State) (h a : Nat) : State :=
  s.each (slotsOf h) (fun s n =>
    let e := s.eng n
    let stale := Table.get 0 e.cache (a / 16 % 128) == 1 + a / 2048
    let p := Table.get Pred.reset e.pred (a % 256)
    if stale ∨ (p.v ∧ p.tag = a / 256) then
      s.updEng n (fun e => { e with
        cache := if stale then Table.set 0 e.cache (a / 16 % 128) 0 else e.cache,
        pred := if p.tag = a / 256 then Table.set Pred.reset e.pred (a % 256) Pred.reset else e.pred })
    else s)

/-- Write one entry of one half. -/
def State.seqPut (s : State) (h a : Nat) (e : Entry) : State :=
  ({ s with
    seqMem := Table.set 0 s.seqMem (h * 0x20000 + a) e,
    seqUnread := Table.set false s.seqUnread (h * 0x20000 + a) false }).seqInvalidate h a

/-- Write entry a through half h's window or TABLE code: both halves in mirror mode. -/
def State.seqWrite (s : State) (h a : Nat) (e : Entry) : State :=
  if s.mirror then (s.seqPut 0 a e).seqPut 1 a e else s.seqPut h a e

/-- The fields of a whole selection word (R133). -/
def State.selFields (s : State) (c w : Nat) : State :=
  let h := selH c
  let k := selC c
  (((((s.wr (F.VSW_SEL.EN h k) (bits w 31 1)).wr (F.VSW_SEL.SITE h k) (bits w 24 4)).wr (F.VSW_SEL.MATCH h k)
    (bits w 23 1)).wr (F.VSW_SEL.ROT h k) (bits w 16 4)).wr (F.VSW_SEL.LANE h k) (bits w 8 5)).wr (F.VSW_SEL.SRC h k) (bits w 0 6)

/-- A selection is written: its channel takes the role of the new source at rest (R133, R135, R171, R172). -/
def State.selPut (s : State) (c w : Nat) : State := (s.selFields c w).restChan c

/-- May channel c's selection become w (R134)? Its old source and its new one are idle. -/
def State.selMay (s : State) (c w : Nat) : Bool := s.chIdle c && (s.selFields c w).chIdle c

/-- Bytes of an image: word i of 4 bytes, entry i of 16. -/
def imgWord (img i : Nat) : Nat := bits img (32 * i) 32
def imgEntry (img i : Nat) : Entry := BitVec.ofNat 128 (img / 2 ^ (128 * i))

/-- The 32 bytes of timing set k of channel c. -/
def State.tsetPut (s : State) (c a n v : Nat) : State := { s with tsets := Memory.writeN s.tsets (c * 2048 + a) n v }
/-- Bits [7:5] of a lane byte are reserved (R127). -/
def State.lmapPut (s : State) (n a k v : Nat) : State :=
  { s with lmaps := Memory.writeN s.lmaps (n * 1024 + a) k (v &&& 0x1F * ((256 ^ k - 1) / 255)) }
def State.fsetPut (s : State) (n a k v : Nat) : State := { s with fsets := Memory.writeN s.fsets (n * 256 + a) k v }

/-- Scramble word i of slot n: bits [31:24] are reserved; T[i] = i is the reset contents. -/
def State.scrPut (s : State) (n i v : Nat) : State :=
  { s with scr := Table.set none s.scr (n * 4096 + i) (if v % 2 ^ 24 = i then none else some (v % 2 ^ 24)) }

/-- The first `len` bytes of a SETUP image into sequence memory. -/
def State.setupSeq (s : State) (d : Desc) (len img : Nat) : State :=
  s.each (List.range (len / 16)) (fun s i =>
    let a := dOffset d / 16 + i
    let e := imgEntry img i
    match dTable d with
    | 1 => s.seqWrite 0 a e
    | 2 => s.seqWrite 1 a e
    | _ => (s.seqPut 0 a e).seqPut 1 a e)

/-- The first `len` bytes of a SETUP image into one of the other tables (TABLE 0x04–0x08). -/
def State.setupTable (s : State) (d : Desc) (len img : Nat) : State :=
  let n := dInst d
  let o := dOffset d
  match dTable d with
  | 4 => s.tsetPut n o len img
  | 5 => s.lmapPut n o len img
  | 6 => s.fsetPut n o len img
  | 7 => s.each (List.range (len / 4)) (fun s i => s.scrPut n (o / 4 + i) (imgWord img i))
  | 8 => s.each (List.range (len / 4)) (fun s i => s.selPut (128 * n + o / 4 + i) (imgWord img i))
  | _ => s

/-- Bytes of a row of a TABLE (R52): a sequence entry, a timing set, a lane map, a pin function set, a word, a pair. -/
def rowBytes (table : Nat) : Nat :=
  match table with | 1 | 2 | 3 => 16 | 4 | 5 => 32 | 6 => 16 | 9 => 8 | _ => 4

/-- The target of a SETUP of TABLE 0x04–0x08 is idle (R187, R132, R134). -/
def State.setupReady (s : State) (d : Desc) (img : Nat) : Bool :=
  let n := dInst d
  match dTable d with
  | 4 => s.chIdle n
  | 5 | 6 | 7 => s.atRest n
  | 8 => (List.range (dLen d / 4)).all (fun i => s.selMay (128 * n + dOffset d / 4 + i) (imgWord img i))
  | _ => true

end Sys2Proof.Machine
end

