-- ==== Sys2Proof/Machine/Jobs.lean ====
section
/-! DEFINITION. Jobs and control descriptors (R49–R68): acceptance, dispatch, each descriptor type, control actions, and the
commit of a completion. -/

namespace Sys2Proof.Machine

/-! ## Acceptance (R56–R58, R66) -/

/-- The ring service serves context n now; a new holder serves once it has reconciled (R428). -/
def State.ringUp (s : State) (n : Nat) : Bool :=
  s.served && s.linkUp && s.ctxLive n && !(s.ctx n).await && !(s.sup s.holder).recon

/-- New descriptors are taken: the ring service is up, and no reconciliation is open (R71). -/
def State.takesNew (s : State) (n : Nat) : Bool := s.ringUp n && (s.ctx n).recon.isNone

/-- DESCRIPTOR_ACCEPT (R57, R58): the descriptor at the head of the poll's fetches. A wrong SEQ is not accepted; the sixteenth
in a row halts the context. -/
def execDescriptorAccept (n : Fin 64) (d : Desc) (s : State) : Out :=
  let f := s.ownerFn n
  .next (match (s.fn f).fetchQ with
    | (m, k) :: rest =>
      if s.takesNew n ∧ m = n.val then
        let q := s.rd (F.HIF_CTX_ACC.ACC n) + (s.ctx n).batch.length + 1
        if dSeq d = q then
          (s.updFn f (fun x => { x with fetchQ := if k ≤ 1 then rest else (m, k - 1) :: rest })).updCtx n (fun x => { x with
            mism := 0, batch := x.batch ++ [Job.fresh q d (checkDesc f d)] })
        else
          let s := (s.updFn f (fun x => { x with fetchQ := rest })).updCtx n (fun x => { x with mism := x.mism + 1 })
          if (s.ctx n).mism ≥ 16 then s.haltCtx n 1 else s
      else s
    | [] => s)

/-- Accepting a job that references a half's DRAM wakes its interfaces (R253). -/
def State.wakeFor (s : State) (d : Desc) : State :=
  s.each [0, 1] (fun s h => if jobRefsDram d h then s.each (List.range 4) (fun s k => s.wakeDram (4 * h + k)) else s)

/-- ACCEPT_BATCH (R66, acceptance steps 1 and 2): ACCEPTED := a in both mirrors, then the host ledger. The next batch waits
until the dispatch of this one is permitted. -/
def execAcceptBatch (n : Fin 64) (s : State) : Out :=
  .next (if s.takesNew n ∧ !(s.ctx n).batch.isEmpty ∧ (s.ctx n).jobs.all (·.permitted) then
      let b := (s.ctx n).batch
      let s := s.each b (fun s j => s.wakeFor j.desc)
      let s := (s.wr (F.HIF_CTX_ACC.ACC n) (s.rd (F.HIF_CTX_ACC.ACC n) + b.length)).updCtx n (fun x => { x with
        batch := [], jobs := x.jobs ++ b,
        ctls := x.ctls ++ (b.filter (fun j => isCtl (dType j.desc))).map (·.seq) })
      (s.writeMirrors n).writeLedger n
    else s)

/-- BAD_TARGET (R60): the target is not below the descriptor, lies below SEQBASE, or is a control descriptor, completed or
not. -/
def State.badTarget (s : State) (n : Nat) (j : Job) : Bool :=
  let t := dTarget j.desc
  decide (t ≥ j.seq) || decide (t < s.seqBase n) || (s.ctx n).ctls.contains t ||
  (s.ctx n).jobs.any (fun k => k.seq = t && isCtl (dType k.desc))

/-- ACCEPT_READBACK_DONE (R66, acceptance steps 3 and 4): dispatch becomes permitted, control descriptors are due. -/
def execAcceptReadbackDone (n : Fin 64) (s : State) : Out :=
  .next (if s.ringUp n then
      s.updCtx n (fun x => { x with jobs := x.jobs.map (fun j =>
        if j.permitted then j
        else if j.reject = 0 ∧ isCtl (dType j.desc) ∧ s.badTarget n j then
          { j with permitted := true, reject := 6, ctlDue := false }
        else { j with permitted := true }) })
    else s)

/-! ## Dispatch (R58, R59) -/

/-- A PATTERN job's logical engines and the halves that hold them. -/
def jobLes (d : Desc) : List Nat := (List.range (dLeCount d)).map (fun k => dLeFirst d + k)
def jobInHalf (d : Desc) (h : Nat) : Bool := (jobLes d).any (fun le => le / 48 = h)

/-- The channels that select one of some logical engines, or a port paced by one (R133, R226), in ascending order. -/
def State.chansOfLes (s : State) (les : List Nat) : List Nat :=
  (List.range 256).filter (fun c => match s.selLe c with | some le => les.contains le | none => false)

/-- The halves whose engine slots a job needs (R28): a PATTERN job those of its logical engines, a CALIBRATE job of KIND 0x03
those of its slots (R144). -/
def jobNeeds (d : Desc) (h : Nat) : Bool :=
  (dType d == 2 && jobInHalf d h) ||
  (dType d == 3 && dKind d == 3 && (List.range (dCount d)).any (fun i => halfOfSlot (dFirst d + i) == h))

/-- The engines of a half cannot be given a job: an APPLY is pending or under way (R28), or ECLK stands still (R27, R30; that
the job waits for ECLK is the model's choice, log entry 36). -/
def State.eclkWaits (s : State) (h : Nat) : Bool := s.on (F.GLB_ECLK_CTL.APPLY h) || s.eclkOff h

/-- What holds a PATTERN job back (R28, R77, R185): one of its halves without ECLK, a copy of the sequence memory, a channel
changing mode, an engine still busy, or fenced with its substitution to come (R59, R422). -/
def State.patternWaits (s : State) (d : Desc) : Bool :=
  [0, 1].any (fun h => jobInHalf d h && s.eclkWaits h) || s.on F.ENG_SEQ_CTL.BUSY ||
  (s.chansOfLes (jobLes d)).any (fun c => s.on (F.CHN_STAT.MODE_CHG c)) ||
  (jobLes d).any (fun le => match s.slotOf le with
    | some n => (s.eng n).ctx.isSome || s.slotState n != stIdle
    | none => false)

/-- JOB_DISPATCH (R58, R59): the head of the context, permitted and not held, once every due control action has been applied;
its descriptor is read again. No job is dispatched while the sequence memory is copied (R77) or to a half with an APPLY
pending (R28). -/
def execJobDispatch (n : Fin 64) (d : Desc) (s : State) : Out :=
  .next (match s.front n with
    | some j =>
      if s.ringUp n ∧ j.phase = .queued ∧ j.permitted ∧ j.reject = 0 ∧ !j.aborted ∧ !j.held ∧ !isCtl (dType j.desc) ∧
          !((s.ctx n).jobs.any (·.ctlDue)) ∧ !s.on F.ENG_SEQ_CTL.BUSY ∧
          !([0, 1].any fun h => jobNeeds j.desc h && s.eclkWaits h) then
        if crc32c 64 d.toNat = j.crc then
          s.updFront n (fun j =>
            let j := { j with phase := .dispatched }
            if s.rd F.TMB_STAT.STATE = tHoldover then j.flag 2 else j)
        else s.finishFront n 0x20 5
      else s
    | none => s)

/-- The front job of context n, of a given type and phase; a job that PAUSE holds before its work has begun waits (R60). -/
def State.atWork (s : State) (n ty : Nat) (ph : JobPhase) : Option Job :=
  match s.front n with
  | some j => if j.phase = ph ∧ dType j.desc = ty ∧ !j.held ∧ s.ctxLive n then some j else none
  | none => none

/-! ## PATTERN (R51, R59, R82, R101, R115, R215, R217, R226, R231) -/

/-- The capture configuration of slot n, with reserved encodings as reset values (R231, R9). -/
def State.capCfg (s : State) (n : Nat) : CapCfg :=
  ⟨s.eff (F.FPU_CAP_CFG.MODE n), s.rd (F.FPU_CAP_CFG.GRAN n), s.rd (F.FPU_CAP_CFG.FAIL_OVF n), s.rd (F.FPU_CAP_CFG.XSCR n),
   s.eff (F.FPU_CAP_CFG.XB n), s.eff (F.FPU_CAP_CFG.YB n), s.eff (F.FPU_CAP_CFG.WLOG n), s.rd (F.FPU_CAP_CFG.LANE_BASE n),
   s.eff (F.FPU_CAP_CFG.SLOG n), s.rd (F.FPU_CAP_BASE.BASE n) * 64, s.rd (F.FPU_CAP_LIM.LIM n) * 64⟩

/-- The capture region of an engine breaks R215 or R217, or overlaps the device-reserved area (R237). Base and size of a
log are multiples of 64 by their registers. -/
def State.capBad (s : State) (n le : Nat) : Bool :=
  let g := s.capCfg n
  let top := s.usable (halfOfSlot n)
  let sites := (s.chansOfLes [le]).map s.siteOf
  match g.mode with
  | 1 => decide (g.xb + g.yb > 32) ||
    (let smax := sites.foldl max 0
     decide (g.base + (smax + 1) * 2 ^ g.slog > top)) || dramReserved g.base
  | 2 => decide (g.base + g.lim > top) || (decide (g.lim ≠ 0) && dramReserved g.base)
  | _ => false

/-- A result area in device DRAM overlaps the device-reserved area (R237). -/
def resReserved (d : Desc) : Bool := dResDev d && dramReserved (dResBase d % 2 ^ 36) && dResSize d != 0

/-- The live state of slot m at a dispatch (R115): caches and predictor stay with the slot. -/
def State.startSlot (s : State) (c m leader clock : Nat) (j : Job) (at_ pre : Bool) : State :=
  let old := s.eng m
  let wd := (if dWdog j.desc ≠ 0 then dWdog j.desc else s.rd (F.ENG_WDOG.PERIOD m)) * 1000 * 2 ^ 32
  let pend := s.rd (F.ENG_IRQ.PEND m)
  let s := s.updEng m (fun _ => { Engine.reset with
    ctx := some c, leader := leader, lfsr := 1, pred := old.pred, cache := old.cache, tcache := old.tcache, tbad := old.tbad,
    lc := s.eff (F.ENG_SPEC.LC m), spec := s.on (F.ENG_SPEC.EN m), monly := s.rd (F.FPU_SPX_CTL.MONLY m),
    pollRet := s.on (F.FPU_SPX_CTL.POLL_RET m), retLim := s.rd (F.FPU_SPX_RET.RET_LIMIT m),
    wdog := wd, wdogP := wd, startAt := at_, dbgReq := old.dbgReq, dbgEntry := old.dbgEntry, dbgForce := old.dbgForce,
    spared := old.spared, clock := clock })
  let s := ([F.ENG_CYC.CYC m, F.ENG_STAT.SP m, F.ENG_STAT.STALL m, F.ENG_STAT.PROV m, F.ENG_STAT.IN_HANDLER m,
    F.ENG_STAT.LOCKED m, F.FPU_SPX_SITE.RETIRED m, F.FPU_SPX_SITE.POLLED m, F.FPU_SPX_SUMP.OUT m, F.FPU_SPX_SUMP.USED m,
    F.FPU_CAP_STAT.RANGE m, F.FPU_CAP_STAT.LOG_FULL m, F.FPU_CAP_STAT.DROPPED m, F.FPU_CAP_STAT.HOLD m,
    F.FPU_CAP_DROP.DROP m, F.FPU_CAP_LOGN.LOGN m, F.FPU_CAP_HOLD.HOLD_CYC m]).foldl (fun s f => s.clr f) s
  let s := (((s.wr (F.ENG_STAT.PC m) (dSeqAddr j.desc)).wr (F.ENG_IRQ.PEND m) (pend / 32 * 32)).wr (F.ENG_MAP.GANG m)
    (dGang j.desc)).wr (F.ENG_MAP.LEADER m) (b2n (m = leader))
  s.wr (F.ENG_STAT.STATE m) (if pre then stPreload else if at_ then stWait else stRun)

/-- A channel's counters and first fail clear at dispatch (R209, R210). -/
def State.clearFails (s : State) (c : Nat) : State :=
  ([F.FPU_FCNT.FCNT c, F.FPU_FF_CYC.CYCLE c, F.FPU_FF_XY.X c, F.FPU_FF_XY.Y c, F.FPU_FF_INFO.VALID c,
    F.FPU_FF_INFO.LEVEL_INV c, F.FPU_FF_INFO.SAT c, F.FPU_FF_INFO.LE c, F.FPU_FF_INFO.SITE c, F.FPU_FF_INFO.UIMASK c]).foldl
    (fun s f => s.clr f) s

/-- The job keeps, for each logical engine that now runs, the slot on which it runs (R228). -/
def State.noteRun (s : State) (n : Nat) : State :=
  match (s.eng n).ctx with
  | some c => s.updJobEng c (s.leOf n) (fun g => { g with slot := n })
  | none => s

/-- Set the job of context c up on its slots: live state, counters, capture configuration (R115, R209, R222, R231). Its engines
count cycles from one clock; a gang preloads when one of its members does (R82, R102). -/
def State.launch (s : State) (c : Nat) (j : Job) (slots : List (Nat × Nat)) (at_ : Bool) : State :=
  let g := 2 ^ dGang j.desc
  let lead := fun (le : Nat) => ((slots.find? (fun e => e.1 = le / g * g)).map (·.2)).getD 0
  let clock := (slots.map (fun e => (s.eng e.2).clock)).foldl max 0
  let pre := fun (l : Nat) => slots.any (fun e => lead e.1 = l && s.on (F.ENG_CTL.PRELOAD e.2))
  let s := s.each slots (fun s e => s.startSlot c e.2 (lead e.1) clock j at_ (pre (lead e.1)))
  let s := (s.flagPorts 0).flagPorts 1
  let cs := s.chansOfLes (jobLes j.desc)
  let s := s.each cs (fun s ch => s.clearFails ch)
  let engs := slots.map (fun e => (⟨e.1, 0x7F, (j.engs.find? (fun o => o.le = e.1)).any (·.spared) || (s.eng e.2).spared,
    0, 0, 0, 0, 0, 0, false, s.capCfg e.2⟩ : JobEng))
  let chans := cs.map (fun ch => (⟨ch, (s.selLe ch).getD 0, s.siteOf ch, 0, 0, 0, 0, 0, 0, 0, 0⟩ : JobCh))
  let s := s.updFront c (fun j =>
    let j := if engs.any (·.spared) then j.flag 4 else j
    { j with phase := .running, engs := engs, chans := chans, caps := [], fails := 0, portUsed := false })
  let s := s.each (slots.filter (fun (e : Nat × Nat) => s.on (F.DBG_ENG_STAT.ARMED e.2))) (fun s e =>
    (s.clr (F.DBG_ENG_STAT.ARMED e.2)).debugRequest e.2 4)
  s.each slots (fun s e => if s.slotState e.2 = stRun then s.noteRun e.2 else s)

/-- A fenced slot gets a spare (R59, R422): substitution is enabled and its half has a spare. -/
def State.spareComes (s : State) (n : Nat) : Bool := s.on F.SUP_CTL.SPARE_EN && (s.spareFor n).isSome

/-- PATTERN (R51, R59): the job's engines are reserved and set up, and start at once, after their preload, or at START_TIME.
A fenced engine without a spare, or a fenced channel, completes FENCED_TARGET; a rate, capture region or result area out
of range completes REJECTED with RANGE. -/
def execPattern (n : Fin 64) (s : State) : Out :=
  .next (match s.atWork n 2 .dispatched with
    | none => s
    | some j =>
      let d := j.desc
      let les := jobLes d
      let slots := les.filterMap (fun le => (s.slotOf le).map (fun m => (le, m)))
      let cs := s.chansOfLes les
      if slots.length < les.length ∨ slots.any (fun e => s.slotState e.2 = stFenced && !s.spareComes e.2) ∨
          cs.any (fun c => s.on (F.CHN_STAT.FENCED c)) then s.finishFront n 0x21 0
      else if cs.any (fun c => s.on (F.CHN_STAT.RATE_ERR c)) then s.finishFront n 0x20 4
      else if s.patternWaits d then s
      else if slots.any (fun e => s.capBad e.2 e.1) ∨ resReserved d ∨
          dResSize d < 64 + 32 * (cs.length + les.length) then s.finishFront n 0x20 4
      else
        let sec := s.startSec (stSec j.start)
        let ns := stNs j.start
        let timed := dStartAt d && decide (j.redisp = 0)
        let past := timed && s.refTb.reached sec ns
        let at_ := timed && !past
        let s := if past then s.updFront n (fun j => j.flag 5) else s
        let s := if at_ then s.updTime (fun t => { t with
            starts := t.starts ++ (([0, 1].filter (jobInHalf d)).map (fun h => (⟨h, n, sec, ns, false⟩ : StartCmp))) })
          else s
        s.launch n j slots at_)

/-! ## SETUP (R52, R79, R131, R132, R134, R187) -/

/-- A SETUP of TABLE 0x04–0x08 whose target is idle writes and completes; otherwise it waits after its dispatch. -/
def State.setupWrite (s : State) (n : Nat) (j : Job) (img : Nat) : State :=
  if s.setupReady j.desc img then (s.setupTable j.desc (dLen j.desc) img).finishFront n 0 0
  else s.updFront n (fun j => { j with phase := .running })

/-- A SETUP row of the given TABLE codes at work. -/
def State.setupAt (s : State) (n : Nat) (ph : JobPhase) (tables : List Nat) : Option Job :=
  match s.atWork n 1 ph with
  | some j => if tables.contains (dTable j.desc) then some j else none
  | none => none

/-- SETUP_SEQUENCE_MEMORY (R79; the monitor area is rejected by R58's range check, R80). -/
def execSetupSequenceMemory (n : Fin 64) (img : Nat) (s : State) : Out :=
  .next (match s.setupAt n .dispatched [1, 2, 3] with
    | some j => (s.setupSeq j.desc (dLen j.desc) img).finishFront n 0 0
    | none => s)

/-- SETUP_TIMING_SETS (R187). -/
def execSetupTimingSets (n : Fin 64) (img : Nat) (s : State) : Out :=
  .next (match s.setupAt n .dispatched [4] with | some j => s.setupWrite n j img | none => s)

/-- SETUP_LANE_MAPS (R131, R132). -/
def execSetupLaneMaps (n : Fin 64) (img : Nat) (s : State) : Out :=
  .next (match s.setupAt n .dispatched [5] with | some j => s.setupWrite n j img | none => s)

/-- SETUP_PIN_FUNCTION_SETS (R131, R132). -/
def execSetupPinFunctionSets (n : Fin 64) (img : Nat) (s : State) : Out :=
  .next (match s.setupAt n .dispatched [6] with | some j => s.setupWrite n j img | none => s)

/-- SETUP_SCRAMBLE_TABLE (R131, R132). -/
def execSetupScrambleTable (n : Fin 64) (img : Nat) (s : State) : Out :=
  .next (match s.setupAt n .dispatched [7] with | some j => s.setupWrite n j img | none => s)

/-- SETUP_VECTOR_SWITCH_SELECTIONS (R134). -/
def execSetupVectorSwitchSelections (n : Fin 64) (img : Nat) (s : State) : Out :=
  .next (match s.setupAt n .dispatched [8] with | some j => s.setupWrite n j img | none => s)

/-- SETUP_DEFERRED_WRITE (R132, R134, R187): the target of a waiting SETUP has become idle. -/
def execSetupDeferredWrite (n : Fin 64) (img : Nat) (s : State) : Out :=
  .next (match s.setupAt n .running [4, 5, 6, 7, 8] with
    | some j => if s.setupReady j.desc img then s.setupWrite n j img else s
    | none => s)

/-! ## CALIBRATE (R53, R144, R193–R195, R248) -/

/-- Write result data of a job at an offset of its result area; a device address in the reserved area is discarded (R237). -/
def State.resultWrite (s : State) (d : Desc) (off len v : Nat) : State :=
  let a := dResBase d % 2 ^ 36 + off
  if dResDev d then s.dramPut (dResBase d / 2 ^ 36 % 2) a len v false
  else s.dataWrite (dResBase d + off) len v

/-- The instances of a CALIBRATE job. -/
def calItems (d : Desc) : List Nat := (List.range (dCount d)).map (fun i => dFirst d + i)

/-- A calibration record as its 44 bytes (R201). -/
def recBytes (r : CalRec) : Nat :=
  ((List.range 4).map (fun p => r.base.getD p 0 * 2 ^ (64 * p) + r.tc.getD p 0 % 2 ^ 16 * 2 ^ (64 * p + 32))).foldl (· + ·) 0
  + (r.sens * 2 ^ 16 + r.tcal % 2 ^ 12) * 2 ^ 256
  + (r.ofs.getD 0 0 + r.ofs.getD 1 0 * 2 ^ 16 + r.ofs.getD 2 0 * 2 ^ 32 + r.ofs.getD 3 0 * 2 ^ 48) * 2 ^ 288

/-- The 64 bytes of a channel's result (R195). -/
def State.calResult (s : State) (c st : Nat) : Nat := recBytes (s.calRec c) + st * 2 ^ 480

/-- BUSY of a bay: a CALIBRATE job at work has a channel of it left (R198). -/
def State.calBusy (s : State) : State :=
  s.each (List.range 8) (fun s b =>
    let busy := (List.range 64).any (fun n => match s.atWork n 3 .running with
      | some j => dKind j.desc ≤ 2 && (calItems j.desc).any (fun c =>
          bayOfChan c = b && !(j.calStat.any (fun e => e.1 = c)))
      | none => false)
    s.wr (F.CHN_CAL_STAT.BUSY b) (b2n busy))

/-- Once every channel has a status the job writes its results and completes (R195). -/
def State.calFinish (s : State) (n : Nat) (j : Job) : State :=
  if (calItems j.desc).all (fun c => j.calStat.any (fun e => e.1 = c)) then
    let st := fun c => ((j.calStat.find? (fun e => e.1 = c)).map (·.2)).getD 0
    let s := s.each (calItems j.desc) (fun s c => s.resultWrite j.desc (64 * (c - dFirst j.desc)) 64 (s.calResult c (st c)))
    let bad := j.calStat.any (fun e => e.2 ≠ 0)
    (s.finishFront n (if bad then 0x12 else 0) (if bad then 0x20A else 0)).calBusy
  else s

/-- Give a channel of a running CALIBRATE job its status; the last one ends the job. -/
def State.calStatus (s : State) (n c st : Nat) : State :=
  let s := s.updFront n (fun j => { j with calStat := j.calStat ++ [(c, st)] })
  match s.front n with
  | some j => (s.calBusy).calFinish n j
  | none => s

/-- A channel that no CALIBRATE job works on (R193): its group fenced, or RATE_ERR. -/
def State.calOut (s : State) (c : Nat) : Bool := s.chFenced c

/-- CALIBRATE_FULL_CHANNEL (R193, R195): the job begins; a channel out of service has its status at once, the others follow
by CAL_CHANNEL_BEGIN and CAL_IDLE_TIMEOUT. -/
def execCalibrateFullChannel (n : Fin 64) (s : State) : Out :=
  .next (match s.atWork n 3 .dispatched with
    | some j =>
      if dKind j.desc ≠ 1 then s
      else if resReserved j.desc then s.finishFront n 0x20 4
      else
        let s := s.updFront n (fun j => { j with phase := .running, calStat := [] })
        let out := (calItems j.desc).filter s.calOut
        let s := s.calBusy
        s.each out (fun s c => s.calStatus n c 5)
    | none => s)

/-- The status of a channel under KIND 0x02, and its offsets applied (R194, R195): OK 0, CLAMPED 2, SENSOR_BAD 3,
NOT_IN_SERVICE 5. -/
def State.tempUpdate (s : State) (c : Nat) : Nat × State :=
  if s.calOut c then (5, s)
  else if s.sensBad (s.calRec c).sens then (3, s)
  else if s.on (F.CHN_CAL_CTL.HOLD (bayOfChan c)) then
    (if (s.newOfs c (s.calRec c)).2 = 0 then (0, s) else (2, s.noteClamp c (s.newOfs c (s.calRec c)).2))
  else
    let r := s.recompute c (s.chIdle c)
    (if r.1 then 2 else 0, r.2)

/-- CALIBRATE_TEMPERATURE_UPDATE (R194). -/
def execCalibrateTemperatureUpdate (n : Fin 64) (s : State) : Out :=
  .next (match s.atWork n 3 .dispatched with
    | some j =>
      if dKind j.desc ≠ 2 then s
      else if resReserved j.desc then s.finishFront n 0x20 4
      else
        let s := s.updFront n (fun j => { j with phase := .running, calStat := [] })
        s.each (calItems j.desc) (fun s c =>
          let r := s.tempUpdate c
          r.2.calStatus n c r.1)
    | none => s)

/-- CALIBRATE_COMPARE_LATENCY (R144): the largest A measured on each slot, none where a channel returned no marker. The slots
must be at rest. A slot with no matching channel has no A, and its LC stays. -/
def execCalibrateCompareLatency (n : Fin 64) (meas : List (Option Nat)) (s : State) : Out :=
  .next (match s.atWork n 3 .dispatched with
    | some j =>
      if dKind j.desc ≠ 3 ∨ !(calItems j.desc).all s.atRest ∨ [0, 1].any (fun h => jobNeeds j.desc h && s.eclkWaits h) then s
      else
        let has := fun (m : Nat) => (s.fedBy m).any (fun c => s.selPort c = none && s.on (F.VSW_SEL.MATCH (selH c) (selC c)))
        let r := ((calItems j.desc).zipIdx).foldl (fun (r : Bool × State) e =>
          if r.1 ∨ !has e.1 then r
          else match meas.getD e.2 none with
            | some a => if a > 510 then (true, r.2) else (false, r.2.wr (F.ENG_SPEC.LC e.1) (max 8 (a + 2)))
            | none => (true, r.2)) (false, s)
        if r.1 then r.2.finishFront n 0x12 0x209 else r.2.finishFront n 0 0
    | none => s)

/-- CALIBRATE_DRAM_RETRAIN (R248, R250): for each interface, whether a working setting of the active set-point was found, and
which set-points with VALID = 0 were trained (bit k). An interface that is leaving self-refresh, or in a step or a switch, is waited for. -/
def execCalibrateDramRetrain (n : Fin 64) (outs : List (Bool × Nat)) (s : State) : Out :=
  .next (match s.atWork n 3 .dispatched with
    | some j =>
      if dKind j.desc ≠ 4 then s
      else if resReserved j.desc then s.finishFront n 0x20 4
      else
        let d := j.desc
        if (calItems d).any (fun n => s.on (F.DMC_STAT.IN_INTLV n) && (s.rd (F.DMC_STAT.STATE n) != 2 || (s.dmc n).entering)) then
          s.each (calItems d) (fun s n => s.wakeDram n)
        else
        let r := ((calItems d).zipIdx).foldl (fun (r : Bool × State) e =>
          let s := r.2
          let o := outs.getD e.2 (true, 0)
          let st := if !s.on (F.DMC_STAT.IN_INTLV e.1) then 2 else if o.1 then 0 else 1
          let s := if st = 0 then
              s.each (List.range 3) (fun s k =>
                if bit o.2 k && s.rd (F.DMC_FSP.VALID e.1 k) = 0 then s.setOn (F.DMC_FSP.VALID e.1 k) else s)
            else if st = 1 then ((s.setOn (F.DMC_ERR.RETR_FAIL e.1)).wr (F.DMC_STAT.STATE e.1) 6).updDmc e.1 (fun q => { q with
                noSet := true, stepsLeft := 0 })
            else s
          (r.1 || st != 0, s.resultWrite d (16 * e.2) 16 st)) (false, s)
        if r.1 then r.2.finishFront n 0x12 0x20A else r.2.finishFront n 0 0
    | none => s)

/-- NOP (R50). -/
def execNop (n : Fin 64) (s : State) : Out :=
  .next (match s.atWork n 4 .dispatched with | some _ => s.finishFront n 0 0 | none => s)

/-! ## Control descriptors (R54, R60, R61) -/

/-- The first control descriptor of context n whose action is due, if it is of the given type. -/
def State.dueCtl (s : State) (n ty : Nat) : Option Job :=
  match (s.ctx n).jobs.find? (fun j => j.ctlDue && j.permitted) with
  | some j => if dType j.desc = ty ∧ s.ctxLive n ∧ s.served then some j else none
  | none => none

/-- The control descriptor has acted, or had no effect (NOEFFECT, bit 3). -/
def State.ctlDone (s : State) (n : Nat) (j : Job) (acted : Bool) : State :=
  s.updJob n j.seq (fun k => let k := { k with ctlDue := false, status := some 0 }
                             if acted then k else k.flag 3)

/-- The target while it can still be changed: held by the device, and not to complete REJECTED. -/
def State.ctlTarget (s : State) (n : Nat) (j : Job) : Option Job :=
  match s.jobOf n (dTarget j.desc) with
  | some t => if t.reject = 0 then some t else none
  | none => none

/-- The target's own work has not begun: it counts as queued (R60). -/
def Job.unstarted (t : Job) : Bool := t.phase == .queued || t.phase == .dispatched

/-- The target is at work: dispatched or running and not yet stopped. -/
def Job.active (t : Job) : Bool := t.phase == .dispatched || t.phase == .running

/-- Some engine of the job is PAUSED (R91). -/
def State.anyPaused (s : State) (n : Nat) : Bool := (s.jobSlots n).any (fun m => s.slotState m = stPaused)

/-- Every engine of a running PATTERN job has halted: HALT wins over ABORT and PAUSE (R61). -/
def State.allHalted (s : State) (n : Nat) : Bool := (s.jobSlots n).all (fun m => (s.eng m).halted)

/-- ABORT (R60, R425). -/
def execAbort (n : Fin 64) (s : State) : Out :=
  .next (match s.dueCtl n 0x10 with
    | none => s
    | some j =>
      match s.ctlTarget n j with
      | none => s.ctlDone n j false
      | some t =>
        if t.phase = .queued then (s.updJob n t.seq (fun k => { k with aborted := true })).ctlDone n j true
        else if t.restart then
          (s.updFront n (fun k => { k.fail 0x10 0 with restart := false })).ctlDone n j true
        else if t.active then
          if dType t.desc = 2 ∧ t.phase = .running then
            if s.allHalted n ∨ t.settled then s.ctlDone n j false
            else ((s.failFront n 0x10 0).stopJob n).ctlDone n j true
          else ((s.finishFront n 0x10 0).calBusy).ctlDone n j true
        else s.ctlDone n j false)

/-- One gang pauses (R60): at once with its state kept, or when its outstanding branches have resolved (R164). An engine that
has halted stays so; one in the monitor returns to PAUSED. What D has sent passes S. -/
def State.pauseGang (s : State) (l : Nat) : State :=
  let run := s.slotState l == stRun && !(s.eng l).halted && !(s.eng l).stopped
  let s := if run then s.sendPause l else s
  let s := s.each (s.gang l) (fun s m =>
    let st := s.slotState m
    if (s.eng m).halted ∨ (s.eng m).stopped then s
    else if st = stMonitor then s.updEng m (fun e => { e with monBack := stPaused, resume := stRun })
    else if st = stPreload ∨ st = stWait ∨ st = stRun then
      (s.updEng m (fun e => { e with resume := st, pauseReq := false })).wr (F.ENG_STAT.STATE m) stPaused
    else s)
  if run then (s.addCyc l 5).showLast l else s

/-- Branches of gang l are outstanding. -/
def State.branchesOut (s : State) (l : Nat) : Bool := (s.eng l).brs.any (·.isBr)

/-- PAUSE (R60, R61). R60 names what a PAUSE stops as engines: a running SETUP or CALIBRATE job, which has none, goes on and
the PAUSE has no effect (DESIGN CHOICE, log entry 35). -/
def execPause (n : Fin 64) (s : State) : Out :=
  .next (match s.dueCtl n 0x11 with
    | none => s
    | some j =>
      match s.ctlTarget n j with
      | none => s.ctlDone n j false
      | some t =>
        if t.unstarted then
          if t.held then s.ctlDone n j false
          else (s.updJob n t.seq (fun k => { k with held := true })).ctlDone n j true
        else if dType t.desc = 2 ∧ t.phase = .running ∧ !t.paused ∧ !t.settled ∧ !s.allHalted n then
          let s := s.updFront n (fun k => { k with paused := true })
          let s := s.each (s.jobLeaders n) (fun s l =>
            if s.branchesOut l then s.updEng l (fun e => { e with pauseReq := true }) else s.pauseGang l)
          s.ctlDone n j true
        else s.ctlDone n j false)

/-- A paused gang continues (R60, R103, R111): cause RESUMED where enabled, the watchdog at its full period. A SYNC, WAITT or
other wait in which it stood goes on. -/
def State.resumeGang (s : State) (l : Nat) : State :=
  let s := if s.slotState l = stPaused then s.showNext l else s
  s.each (s.gang l) (fun s m =>
    if s.slotState m = stPaused then
      let s := s.updEng m (fun e => { e with wdog := e.wdogP, pauseReq := false })
      let s := s.wr (F.ENG_STAT.STATE m) (if (s.eng m).resume = 0 then stRun else (s.eng m).resume)
      s.raiseCause m 0
    else s.updEng m (fun e => { e with pauseReq := false, monBack := if e.monBack = stPaused then stRun else e.monBack }))

/-- RESUME (R60): a hold is removed; paused engines continue; a job that waits, paused, for its re-dispatch may be
re-dispatched (R425). -/
def execResume (n : Fin 64) (s : State) : Out :=
  .next (match s.dueCtl n 0x12 with
    | none => s
    | some j =>
      match s.ctlTarget n j with
      | none => s.ctlDone n j false
      | some t =>
        if t.unstarted then
          if t.held then (s.updJob n t.seq (fun k => { k with held := false })).ctlDone n j true
          else s.ctlDone n j false
        else if t.paused ∨ (t.phase = .running ∧ s.anyPaused n) then
          let s := s.updFront n (fun k => { k with paused := false })
          let s := s.each (s.jobLeaders n) (fun s l => s.resumeGang l)
          s.ctlDone n j true
        else s.ctlDone n j false)

/-- REARM (R60). -/
def execRearm (n : Fin 64) (s : State) : Out :=
  .next (match s.dueCtl n 0x13 with
    | none => s
    | some j =>
      match s.ctlTarget n j with
      | none => s.ctlDone n j false
      | some t =>
        if t.unstarted then (s.updJob n t.seq (fun k => { k with start := dStart j.desc })).ctlDone n j true
        else s.ctlDone n j false)

/-! ## Completion (R62–R66) -/

/-- The status and DETAIL with which the head of a context completes, once it can. -/
def Job.outcome (j : Job) : Option (Nat × Nat) :=
  if !j.permitted then none
  else if j.reject ≠ 0 then some (0x20, j.reject)
  else if isCtl (dType j.desc) ∧ j.phase = .queued then (if j.ctlDue then none else some (j.status.getD 0, 0))
  else if j.aborted ∧ j.phase = .queued then some (0x10, 0)
  else if j.phase = .done then some (j.status.getD 0, j.detail)
  else none

/-- A completion record with its CRC (R62). -/
def completionRecord (j : Job) (st det : Nat) : Nat :=
  let w := j.seq + 2 ^ 64 * st + 2 ^ 72 * (j.flags % 64) + 2 ^ 80 * dTag j.desc + 2 ^ 96 * det + 2 ^ 128 * (j.cycles % 2 ^ 64) +
    2 ^ 192 * min (2 ^ 32 - 1) j.fails
  w + 2 ^ 224 * crc32c 28 w

/-- A completion is committed in the order of R66; the last one of a reconciliation posts RECONCILED (R71). -/
def State.commitFront (s : State) (n : Nat) (j : Job) (st det : Nat) : State :=
  let s := s.hostWrite (s.cqAddr n + 32 * (j.seq % s.ringN n)) 32 (completionRecord j st det)
  let s := s.wr (F.HIF_CTX_CMP.CMP n) j.seq
  let s := (s.writeMirrors n).writeLedger n
  let s := if dIrq j.desc then s.postCtx n 1 st 0 j.seq else s
  let s := (s.updCtx n (fun x => { x with jobs := x.jobs.tail })).dropStarts n
  match (s.ctx n).recon with
  | some r =>
    if r.upTo ≤ j.seq then
      (s.updCtx n (fun x => { x with recon := none })).postCtx n 3 (b2n r.rebuilt) r.rerun r.upTo
    else s
  | none => s

/-- COMPLETION_COMMIT (R66): by the lantern holder once it has reconciled (R67), while a ring service exists (R416), when the writes of
the result area are acknowledged (R241); no further write follows a halt. While the link is down completions are held (R69). -/
def execCompletionCommit (n : Fin 64) (s : State) : Out :=
  .next (match s.front n with
    | some j =>
      match j.outcome with
      | some r =>
        let waits := dResDev j.desc && s.dramUnacked (dResBase j.desc / 2 ^ 36 % 2) (dResBase j.desc % 2 ^ 36) (dResSize j.desc)
        if s.served ∧ s.linkUp ∧ s.ctxLive n ∧ !(s.sup s.holder).recon ∧ !waits then s.commitFront n j r.1 r.2 else s
      | none => s
    | none => s)

/-- The records that wait are placed as long as there is room; each of the others waits for a read of its own. -/
def State.placeWaiting (s : State) (f : Nat) : State :=
  let q := (s.fn f).waiting
  q.foldl (fun s _ =>
    match (s.fn f).waiting with
    | r :: rest =>
      let s := s.eventsLost f
      if (s.fn f).dropped = 0 ∧ s.evRoom f then (s.updFn f (fun x => { x with waiting := rest })).placeEvent f r else s
    | [] => s) s

/-- The record in front is dropped (R64): EV_OVF, EV_DROP. -/
def State.dropEvent (s : State) (f : Nat) : State :=
  ((s.setOn (F.HIF_FN_STAT.EV_OVF f)).count (F.HIF_FN_STAT.EV_DROP f)).updFn f (fun x => { x with
    waiting := x.waiting.tail, dropped := x.dropped + 1 })

/-- EVCI_REREAD (R64): the fresh value shows room, or the record is dropped. -/
def execEvciReread (f : Fin 33) (evci : Word32) (s : State) : Out :=
  .next (if (s.fn f).waiting.isEmpty then s
    else
      let s := s.updFn f (fun x => { x with evci := evci.toNat })
      let k := (s.fn f).waiting.length
      let s := s.placeWaiting f
      if (s.fn f).waiting.length = k then (s.dropEvent f).placeWaiting f else s)

end Sys2Proof.Machine
end

