-- ==== Sys2Proof/Machine/SeqMem.lean ====
section
/-! DEFINITION. The spare map, sequence memory, the sequence caches and the engine registers with rules of their own (R73–R83,
R112, R160). A flag beside a new state says whether a write was taken. -/

namespace Sys2Proof.Machine

/-! ## The spare map (R74) -/

/-- Copy every field of the register at one offset to the register of the same layout at another. -/
def State.copyReg (s : State) (from_ to_ : Nat) : State :=
  match regAt from_, regAt to_ with
  | some p, some q => s.each p.def_.fields (fun s f => s.wr (f.fld q.addr) (s.rd (f.fld p.addr)))
  | _, _ => s

/-- Copy n bytes of a memory. -/
def Memory.copyN (m : Memory) (from_ to_ n : Nat) : Memory :=
  let kept := m.filter (fun e => !(to_ ≤ e.1 && e.1 < to_ + n))
  (m.filter (fun e => from_ ≤ e.1 && e.1 < from_ + n)).foldl (fun m e => Memory.write m (e.1 - from_ + to_) e.2) kept

/-- What belongs to the logical engine moves from slot a to slot b (R75). -/
def State.copyLe (s : State) (a b : Nat) : State :=
  let s := { s with
    lmaps := Memory.copyN s.lmaps (a * 1024) (b * 1024) 1024,
    fsets := Memory.copyN s.fsets (a * 256) (b * 256) 256,
    scr := (s.scr.filter (fun (e : Nat × Option Nat) => e.1 / 4096 = a)).foldl
      (fun t (e : Nat × Option Nat) => Table.set none t (e.1 % 4096 + b * 4096) e.2) (s.scr.filter (fun (e : Nat × Option Nat) => e.1 / 4096 ≠ b)) }
  let regs := [F.ENG_IRQ.EN 0, F.ENG_WDOG.PERIOD 0, F.FPU_SPX_CTL.MONLY 0, F.FPU_SPX_RET.RET_LIMIT 0, F.FPU_CAP_CFG.SLOG 0,
    F.FPU_CAP_BASE.BASE 0, F.FPU_CAP_LIM.LIM 0]
  let stride := [F.ENG_IRQ.EN 1, F.ENG_WDOG.PERIOD 1, F.FPU_SPX_CTL.MONLY 1, F.FPU_SPX_RET.RET_LIMIT 1, F.FPU_CAP_CFG.SLOG 1,
    F.FPU_CAP_BASE.BASE 1, F.FPU_CAP_LIM.LIM 1]
  let s := s.each (regs.zip stride) (fun s (e : Fld × Fld) =>
    let at_ := fun (n : Nat) => e.1.key / 32 * 4 + (e.2.key - e.1.key) / 8 * n
    s.copyReg (at_ a) (at_ b))
  s.wr (F.ENG_SPEC.EN b) (s.rd (F.ENG_SPEC.EN a))

/-- Slot m gets an LE by software: a slot without a logical engine reads SPARE; it is no longer one that a substitution put in
place of another (R63), and remembers the logical engine whose tables it still holds. -/
def State.putLe (s : State) (m v : Nat) : State :=
  let old := s.leOf m
  let s := s.wr (F.ENG_MAP.LE m) v
  let none_ := s.leOf m == 0x7F
  let s := if s.slotState m = stFenced then s else s.wr (F.ENG_STAT.STATE m) (if none_ then stSpare else stIdle)
  s.updEng m (fun e => { e with
    spared := false, wasLe := if !none_ then 0 else if old = 0x7F then e.wasLe else old + 1 })

/-- The slot whose tables and registers are those of a logical engine that moves to slot n (R75): its present holder, else the
slot that lost it last; none where slot n has them. What becomes of them where another logical engine has moved there since is
not stated (log entry 18). -/
def State.leHome (s : State) (n le : Nat) : Option Nat :=
  let slots := slotsOf (halfOfSlot n)
  ((slots.find? (fun m => s.leOf m = le)).or (slots.find? (fun m => (s.eng m).wasLe = le + 1))).filter (· ≠ n)

/-- A write of ENG_MAP_n.LE: discarded unless every slot of the half is at rest, or when it names a logical engine of the other
half; another holder of the logical engine becomes a spare, and what belongs to the logical engine moves with it (R75). -/
def State.engMapWrite (s : State) (n le : Nat) : Bool × State :=
  let acts := if 0x60 ≤ le ∧ le < 0x7F then defaultLe n else le
  if !s.halfAtRest (halfOfSlot n) ∨ (acts ≠ 0x7F ∧ acts / 48 ≠ halfOfSlot n) then (false, s)
  else if acts = 0x7F then (true, s.putLe n le)
  else
    let s := match s.leHome n acts with | some m => s.copyLe m n | none => s
    let slots := slotsOf (halfOfSlot n)
    let s := s.each (slots.filter (fun m => m ≠ n && s.leOf m = acts)) (fun s m => s.putLe m 0x7F)
    let s := s.putLe n le
    (true, s.each (slots.filter (fun m => (s.eng m).wasLe = acts + 1)) (fun s m => s.updEng m (fun e => { e with wasLe := 0 })))

/-- ENG_MAP_WRITE (R74). -/
def execEngMapWrite (r : Req) (n : Fin 104) (le : Fin 128) (s : State) : Out :=
  .next (if s.mayWrite r .eng (some (n / 52)) then (s.engMapWrite n le).2 else s)

/-! ## Mirror and split mode (R76–R78) -/

/-- A write of SPLIT: discarded unless every slot of the device is at rest, and while a copy runs. Split to mirror starts the
copy; mirror to split copies nothing. -/
def State.seqModeWrite (s : State) (split : Bool) : Bool × State :=
  if !(s.halfAtRest 0 && s.halfAtRest 1) || s.on F.ENG_SEQ_CTL.BUSY then (false, s)
  else
    let was := s.on F.ENG_SEQ_CTL.SPLIT
    let s := s.wr F.ENG_SEQ_CTL.SPLIT (b2n split)
    (true, if was && !split then { s.setOn F.ENG_SEQ_CTL.BUSY with seqPos := 0 } else s)

/-- SEQ_MODE_CHANGE (R78). -/
def execSeqModeChange (r : Req) (split : Bool) (s : State) : Out :=
  .next (if s.mayWrite r .eng then (s.seqModeWrite split).2 else s)

/-- A new East beside a West: entry a of half 1 becomes entry a of half 0. -/
def mirrorTable {α : Type} (t : Table α) : Table α :=
  let w := t.filter (fun e => e.1 < 0x20000)
  w ++ w.map (fun e => (e.1 + 0x20000, e.2))

/-- The copy of R78: entries that West cannot read, or that are marked in West, come from East where East is readable; where
neither is, both halves are marked. -/
def State.seqCopy (s : State) (ueW ueBoth : List Nat) : State :=
  let marked := fun (h : Nat) => ((s.seqUnread.filter (fun e => e.2 && e.1 / 0x20000 = h)).map (fun e => e.1 % 0x20000))
  let badW := (ueW ++ ueBoth ++ marked 0).eraseDups
  let lost := badW.filter (fun a => ueBoth.contains a || (marked 1).contains a)
  let fixed := badW.filter (fun a => !lost.contains a)
  let s := s.each fixed (fun s a => { s with seqMem := Table.set 0 s.seqMem a (s.seqEntry 1 a) })
  let s := (s.count F.ENG_SEQ_STAT.UE_W badW.length).count F.ENG_SEQ_STAT.UE_E lost.length
  let s := { s with
    seqMem := mirrorTable s.seqMem,
    seqUnread := mirrorTable (lost.foldl (fun t a => Table.set false t a true) []) }
  let s := s.each (fixed ++ lost) (fun s a => s.seqInvalidate 0 a)
  s.each (slotsOf 1) (fun s n => s.updEng n (fun e => { e with cache := [], pred := [] }))

/-- SEQ_COPY_DONE (R78): the entries West read with a corrected error, those it could not read, and those that neither half
could read. The caches of East hold nothing of the old contents (R83). -/
def execSeqCopyDone (ceW ueW ueBoth : List (Fin 0x20000)) (s : State) : Out :=
  .next (if s.on F.ENG_SEQ_CTL.BUSY then
      { ((s.count F.ENG_SEQ_STAT.CE_W ceW.length).seqCopy (ueW.map (·.val)) (ueBoth.map (·.val))).clr F.ENG_SEQ_CTL.BUSY with
        seqPos := 0 }
    else s)

/-- The copy goes on, entry by entry (R78). How fast is not stated: a free value (DESIGN CHOICE, log entry 38). -/
def State.copyMoves (s : State) : State :=
  if s.on F.ENG_SEQ_CTL.BUSY then
    let q := s.free 17
    { q.2 with seqPos := s.seqPos + q.1 }
  else s

/-- Half h's present copy of entry a, as a window reads it (R78, R79): during a copy East shows West's entry once it has been
copied. -/
def State.seqShown (s : State) (h a : Nat) : Entry :=
  if h = 1 ∧ s.on F.ENG_SEQ_CTL.BUSY ∧ a < s.seqPos ∧ !s.seqBad 0 a then s.seqEntry 0 a else s.seqEntry h a

/-! ## Window writes (R79, R80) -/

/-- The BAR0 word of word w of entry e in half h's window. -/
def seqWord (h e w : Nat) : Nat := (0x3000000 + h * 0x200000 + 16 * e + 4 * w) / 4

/-- The monitor area is written by the supervisors, and through the port at L3 (R80, R470). -/
def State.monMay (s : State) (r : Req) : Bool :=
  match r with | .sup _ => true | .fn _ => false | .port => decide (s.portLevel ≥ 3)

/-- What happens to a window write: taken, discarded during a copy, or discarded for the monitor area. -/
def State.seqWinOk (s : State) (r : Req) (e : Nat) : Bool := !inMonArea e || s.monMay r

/-- A write to bytes 0–11 of an entry is held for the requester. -/
def State.seqHold (s : State) (r : Req) (h e w v : Nat) : Bool × State :=
  if s.on F.ENG_SEQ_CTL.BUSY then (false, s.setOn F.ENG_SEQ_CTL.WR_DISC)
  else if s.seqWinOk r e then (true, s.setHeld r (seqWord h e w) (some v))
  else (false, s)

/-- A write to bytes 12–15 commits the entry; words that are not held keep the entry's present contents. -/
def State.seqCommit (s : State) (r : Req) (h e v : Nat) : Bool × State :=
  if s.on F.ENG_SEQ_CTL.BUSY then (false, s.setOn F.ENG_SEQ_CTL.WR_DISC)
  else if s.seqWinOk r e then
    let old := (s.seqEntry h e).toNat
    let word := fun w => (s.held r (seqWord h e w)).getD (bits old (32 * w) 32)
    let x := word 0 + 2 ^ 32 * word 1 + 2 ^ 64 * word 2 + 2 ^ 96 * v
    let s := s.each [0, 1, 2] (fun s w => s.setHeld r (seqWord h e w) none)
    (true, s.seqWrite h e (BitVec.ofNat 128 x))
  else (false, s)

/-- SEQ_WINDOW_HOLD (R79). -/
def execSeqWindowHold (r : Req) (h : Fin 2) (e : Fin 0x20000) (w : Fin 3) (v : Word32) (s : State) : Out :=
  .next (if s.mayWrite r .engWin (some h) then (s.seqHold r h e w v.toNat).2 else s)

/-- SEQ_WINDOW_COMMIT (R79, R80, R83). -/
def execSeqWindowCommit (r : Req) (h : Fin 2) (e : Fin 0x20000) (v : Word32) (s : State) : Out :=
  .next (if s.mayWrite r .engWin (some h) then (s.seqCommit r h e v.toNat).2 else s)

/-! ## Cache fills (R81, R82) -/

/-- CE_h and UE_h. -/
def seqCe (h : Nat) : Fld := if h = 0 then F.ENG_SEQ_STAT.CE_W else F.ENG_SEQ_STAT.CE_E
def seqUe (h : Nat) : Fld := if h = 0 then F.ENG_SEQ_STAT.UE_W else F.ENG_SEQ_STAT.UE_E

/-- Mark an entry of one half unreadable until it is next written. -/
def State.seqMark (s : State) (h a : Nat) : State :=
  { s with seqUnread := Table.set false s.seqUnread (h * 0x20000 + a) true }

/-- The line of address a is in the caches of the whole gang. -/
def State.fillGang (s : State) (n a : Nat) : State := s.each (s.gang n) (fun s m => s.updEng m (fun e => e.fill a))

/-- A fill of half h reads entry a (R81): what the check bits of the half's own copy showed, and, where mirror mode turned to it,
those of the other half's. The flag: the entry is unreadable, and was marked before or is now. -/
def State.fillEntry (s : State) (h a : Nat) (own other : Ecc) : Bool × State :=
  if s.seqBad h a then (true, s)
  else
    match own with
    | .clean => (false, s)
    | .corrected => (false, s.count (seqCe h))
    | .bad =>
      let s := s.count (seqUe h)
      if !s.mirror then (true, s.seqMark h a)
      else if s.seqBad (1 - h) a ∨ other = .bad then
        let s := if other = .bad then s.count (seqUe (1 - h)) else s
        (true, (s.seqMark h a).seqMark (1 - h) a)
      else
        let s := if other = .corrected then s.count (seqCe (1 - h)) else s
        (false, s.seqPut h a (s.seqEntry (1 - h) a))

/-- A fill of half h reads some entries; `outs` gives the outcomes of those whose check bits showed an error. The flag: one of
them is unreadable. -/
def State.fillEntries (s : State) (h : Nat) (as_ : List Nat) (outs : Nat → Ecc × Ecc) : Bool × State :=
  as_.foldl (fun r a => let q := r.2.fillEntry h a (outs a).1 (outs a).2; (r.1 || q.1, q.2)) (false, s)

/-- The 16 entries of the line of address a. -/
def lineOf (a : Nat) : List Nat := (List.range 16).map (fun k => a / 16 * 16 + k)

/-- The outcome of the entry with key k; clean where none is given. -/
def eccAt {α : Type} (key : α → Nat) (outs : List (α × Ecc × Ecc)) (k : Nat) : Ecc × Ecc :=
  ((outs.find? (fun o => key o.1 == k)).map (·.2)).getD (.clean, .clean)

/-- The gang of slot n waits for the line of its entry. -/
def State.missing? (s : State) (n : Nat) : Bool := s.running n && (s.eng n).wait == .miss

/-- SEQ_FILL_COMPLETE (R81, R82): the line of the entry in D arrives after w further cycles; `outs`: the entries of the line in which
the check bits of the half's own copy showed an error, with those of the other half's copy. A line with an unreadable entry
stops the engine. -/
def execSeqFillComplete (n : Fin 104) (w : Nat) (outs : List (Fin 16 × Ecc × Ecc)) (s : State) : Out :=
  let a := s.pc n
  .next (if !s.missing? n then s
    else
      let r := (s.endHold n w).fillEntries (halfOfSlot n) (lineOf a) (fun b => eccAt (·.val) outs (b % 16))
      if r.1 then r.2.programStop n 0x204 else r.2.fillGang n a)

/-- SEQ_SPINE_FILL_TIMEOUT (R81): mirror mode, entry k of the line uncorrectable in the half's own copy, the other not delivered
within 10 µs, w cycles. -/
def execSeqSpineFillTimeout (n : Fin 104) (w : Nat) (k : Fin 16) (s : State) : Out :=
  let h := halfOfSlot n
  .next (if s.missing? n ∧ s.mirror then
      (((s.endHold n w).count (seqUe h)).seqMark h (s.pc n / 16 * 16 + k)).programStop n 0x204
    else s)

/-- The lines that slot m preloads for a program at address a (R82): none with PRELOAD = 0; 128 from the line of SEQ_ADDR, then the
two lines of the 32 entries at IVB. -/
def State.preLines (s : State) (m a : Nat) : List Nat :=
  if !s.on (F.ENG_CTL.PRELOAD m) then []
  else
    let ivb := s.rd (F.ENG_IRQ.IVB m) * 32
    (List.range 128).map (fun i => seqWrap (a / 16 * 16 + 16 * i)) ++ (if s.rd (F.ENG_IRQ.EN m) = 0 then [] else [ivb, ivb + 16])

/-- Slot m's cache after a preload. -/
def State.preload (s : State) (m a : Nat) : State :=
  let ls := s.preLines m a
  s.updEng m (fun e => ls.foldl (fun e l => e.fill l) e)

/-- PRELOAD_DONE (R82): the gang of leader n starts, waits for START_TIME, or starts late; `outs`: the errors that the preload's reads
found (R81). -/
def execPreloadDone (n : Fin 104) (outs : List (Fin 0x20000 × Ecc × Ecc)) (s : State) : Out :=
  .next (match (s.eng n).ctx with
    | some c =>
      if s.slotState n = stPreload ∧ (s.eng n).leader = n.val ∧ !(s.eng n).stopped then
        let ms := s.gang n
        let a := s.pc n
        let read := (ms.flatMap (fun m => s.preLines m a)).eraseDups.flatMap lineOf
        let r := s.fillEntries (halfOfSlot n)
          (read.filter (fun b => s.seqBad (halfOfSlot n) b || outs.any (fun o => o.1.val == b))) (eccAt (·.val) outs)
        let s := r.2
        if r.1 then s.programStop n 0x204
        else
          let s := s.each ms (fun s m => s.preload m a)
          let e := s.eng n
          if e.startAt ∧ !e.late then s.wrGang n F.ENG_STAT.STATE stWait
          else
            let s := if e.late then s.updFront c (fun j => j.flag 5) else s
            s.each ms (fun s m => ((s.wr (F.ENG_STAT.STATE m) stRun)).noteRun m)
      else s
    | none => s)

/-! ## ENG_CTL, ENG_IRQ, ENG_SPEC (R112, R160) -/

/-- CACHE_INVALIDATE (R112). -/
def State.cacheInv (s : State) (n : Nat) : Bool × State :=
  if s.atRest n then (true, s.setOn (F.ENG_CTL.CACHE_INV n)) else (false, s)

def execCacheInvalidate (r : Req) (n : Fin 104) (s : State) : Out :=
  .next (if s.mayWrite r .eng (some (n / 52)) then (s.cacheInv n).2 else s)

/-- CACHE_INVALIDATE_DONE (R112). -/
def execCacheInvalidateDone (n : Fin 104) (s : State) : Out :=
  .next (if s.on (F.ENG_CTL.CACHE_INV n) then
      (s.updEng n (fun e => { e with cache := [] })).clr (F.ENG_CTL.CACHE_INV n)
    else s)

/-- A write of ENG_IRQ_n: an IVB in the monitor area leaves IVB unchanged (R112). -/
def State.irqWrite (s : State) (n v : Nat) : State :=
  let s := (s.wr (F.ENG_IRQ.TTRIG n) (bits v 17 3)).wr (F.ENG_IRQ.EN n) (bits v 0 4)
  if inMonArea (bits v 5 12 * 32) then s else s.wr (F.ENG_IRQ.IVB n) (bits v 5 12)

/-- ENG_IRQ_WRITE (R112). -/
def execEngIrqWrite (r : Req) (n : Fin 104) (v : Word32) (s : State) : Out :=
  .next (if s.mayWrite r .eng (some (n / 52)) then s.irqWrite n v.toNat else s)

/-- Every predictor entry of the slot is cold. -/
def State.predFlush (s : State) (n : Nat) : State := s.updEng n (fun e => { e with pred := [] })

/-- PREDICTOR_FLUSH (R112, R160): done at once, so FLUSH never reads 1. -/
def execPredictorFlush (r : Req) (n : Fin 104) (s : State) : Out :=
  .next (if s.mayWrite r .eng (some (n / 52)) then s.predFlush n else s)

end Sys2Proof.Machine
end

