-- ==== Sys2Proof/Machine/Sequencer.lean ====
section
/-! DEFINITION. The opcodes of the pattern sequencer (R84–R111): the entry in D of the gang that slot n leads. `w` is the
number of further cycles in which a hold kept the entry in D; each of them sent a pause vector. -/

namespace Sys2Proof.Machine

/-- NEXT (R86). -/
def execNext (n : Fin 104) (w : Nat) (s : State) : Out := .next (s.enter n w .next (fun s x => s.plain n x))

/-- An entry's vector, then a transfer (R99). -/
def State.jump (s : State) (n : Nat) (x : Entry) (win target : Nat) : State :=
  ((s.issue n x win).transfer n target).stepCount n

/-- JMP (R86). -/
def execJmp (n : Fin 104) (w : Nat) (s : State) : Out :=
  .next (s.enter n w .jmp (fun s x => s.jump n x (s.eng n).win (eSarg x)))

/-- REP (R90, R105): the next entry executes SARG times; a handler's first REP replaces held values. -/
def execRep (n : Fin 104) (w : Nat) (s : State) : Out :=
  .next (s.enter n w .rep (fun s x =>
    let s := s.issue n x (s.eng n).win
    let s := s.updEng n (fun e => { e with held := false, dsc := 0, repc := eSarg x })
    (s.setPc n (s.pc n + 1)).stepCount n))

/-! ## Match windows and conditions (R95–R97) -/

/-- The window in force is resolved now: retirement, then a new window. -/
def State.resolveWin (s : State) (n : Nat) : State :=
  let w := (s.eng n).win
  (s.retire n w).closeWin n

/-- An empty window is resolved at once; on a provisional path its effect on retirement waits in resolution order (R148). -/
def State.resolveEmpty (s : State) (n : Nat) : State :=
  if (s.provTag n).isSome then
    let e := s.eng n
    (s.pushBranch n ⟨false, 0, s.pc n, 0, e.win, 0, false, false, 0, true, none, 0, true⟩).closeWin n
  else s.resolveWin n

/-- The value of the condition of the entry in D, which waits for nothing any more; a match condition or an MWAIT has resolved
its window. -/
def State.takeCond (s : State) (n scnd k : Nat) : Bool × State :=
  if scnd = 2 ∨ scnd = 3 then
    let w := (s.eng n).win
    let v := s.condVal n scnd k w
    (v, if s.winEmpty n w then s.resolveEmpty n else s.resolveWin n)
  else (s.condVal n scnd k 0, s)

/-- The window an entry's own vector belongs to: none when the entry resolves one (R96). -/
def State.ownWin (s : State) (n scnd : Nat) : Nat := if scnd = 2 ∨ scnd = 3 then 0 else (s.eng n).win

/-- MWAIT without speculation, its results usable (R97). -/
def State.mwaitDone (s : State) (n : Nat) (x : Entry) : State :=
  let s := if s.winEmpty n (s.eng n).win then s.resolveEmpty n else s.resolveWin n
  ((s.issue n x 0).moveOn n).stepCount n

/-- MWAIT's body (R97, R147): under speculation it closes its window and is not held. -/
def State.mwaitBody (s : State) (n : Nat) (x : Entry) : State :=
  let e := s.eng n
  if s.winEmpty n e.win then s.mwaitDone n x
  else if e.spec then
    let s := s.pushBranch n ⟨false, 0, s.pc n, 0, e.win, Table.get 0 e.winLast e.win, false, false, 0,
      (s.provTag n).isSome, none, 0, false⟩
    (((s.closeWin n).issue n x 0).moveOn n).stepCount n
  else if s.winReady n e.win then s.mwaitDone n x
  else s.waitFor n .cond 2

/-- MWAIT (R86). -/
def execMwait (n : Fin 104) (w : Nat) (s : State) : Out := .next (s.enter n w .mwait (fun s x => s.mwaitBody n x))

/-- A taken HALT stops entry into D; the gang drains, and its semaphore is released (R91, R93). -/
def State.haltNow (s : State) (n : Nat) (x : Entry) (win : Nat) : State :=
  let s := (s.issue n x win).stepCount n
  let s := s.each (s.gang n) (fun s m => (s.updEng m (fun e => { e with halted := true })).dropSem m)
  (s.waitFor n .halt 9).runDry n

/-- The HALT in D with its condition settled. HALT and PAUSE have no index: that their LOOPZ, FAB_FLAG and TIME_REACHED use k = 0 is
the model's (DESIGN CHOICE, log entry 35). -/
def State.haltSettled (s : State) (n : Nat) (x : Entry) : State :=
  let win := s.ownWin n (eScnd x)
  let r := s.takeCond n (eScnd x) 0
  if r.1 then r.2.haltNow n x win else ((r.2.issue n x win).moveOn n).stepCount n

/-- HALT's body (R86, R91). -/
def State.haltBody (s : State) (n : Nat) (x : Entry) : State :=
  if s.condWaits n (eScnd x) then s.waitFor n .cond 1 else s.haltSettled n x

/-- HALT (R91). -/
def execHalt (n : Fin 104) (w : Nat) (s : State) : Out := .next (s.enter n w .halt (fun s x => s.haltBody n x))

/-- HALT_DRAIN_DONE (R91): every result is in, no record is left in the sump, no branch outstanding; the gang becomes idle. -/
def execHaltDrainDone (n : Fin 104) (s : State) : Out :=
  .next (if (s.eng n).wait = .halt ∧ (s.eng n).brs.isEmpty ∧
      (s.gang n).all (fun m => (s.eng m).sump.isEmpty && (s.eng m).vecs.all (fun v => v.wait.isEmpty)) then
      let s := s.updEng n (fun e => { e with wait := .none })
      s.each (s.gang n) (fun s m =>
        (if s.slotState m = stFenced then s else s.wr (F.ENG_STAT.STATE m) stIdle).clr (F.ENG_STAT.STALL m))
    else s)

/-- A taken PAUSE: PAUSED after its vector, with its state kept (R91). -/
def State.pauseEntry (s : State) (n : Nat) (x : Entry) (win : Nat) : State :=
  let s := ((s.issue n x win).moveOn n).stepCount n
  let s := s.each (s.gang n) (fun s m =>
    (s.updEng m (fun e => { e with resume := stRun })).wr (F.ENG_STAT.STATE m) stPaused)
  (s.runDry n).showLast n

/-- The PAUSE in D with its condition settled. -/
def State.pauseSettled (s : State) (n : Nat) (x : Entry) : State :=
  let win := s.ownWin n (eScnd x)
  let r := s.takeCond n (eScnd x) 0
  if r.1 then r.2.pauseEntry n x win else ((r.2.issue n x win).moveOn n).stepCount n

/-- PAUSE's body (R86, R91). -/
def State.pauseBody (s : State) (n : Nat) (x : Entry) : State :=
  if s.condWaits n (eScnd x) then s.waitFor n .cond 1 else s.pauseSettled n x

/-- PAUSE_OPCODE (R91): the opcode PAUSE. -/
def execPauseOpcode (n : Fin 104) (w : Nat) (s : State) : Out := .next (s.enter n w .pause (fun s x => s.pauseBody n x))

/-! ## Barriers, semaphores (R92, R93) -/

/-- SYNC (R92). -/
def execSync (n : Fin 104) (w : Nat) (s : State) : Out := .next (s.enter n w .sync (fun s _ => s.waitFor n .sync 4))

/-- The waiting entry of gang n leaves D after w cycles. -/
def State.leaveWait (s : State) (n w : Nat) : State :=
  let s := (((s.holdFor n w)).updEng n (fun e => { e with wait := .none })).setStall n 0
  s.plain n (s.entryAt n)

/-- SYNC_RELEASE (R92): every gang of job c in half h waits at a SYNC or has halted; all that wait leave D together. `ws`:
the cycles each leader has waited. -/
def execSyncRelease (c : Fin 64) (h : Fin 2) (ws : List (Fin 104 × Nat)) (s : State) : Out :=
  let ls := (s.jobLeaders c).filter (fun m => halfOfSlot m = h)
  .next (if ls.all s.atSync then
      s.each (ls.filter (fun m => (s.eng m).wait = .sync && s.running m)) (fun s m =>
        s.leaveWait m (((ws.find? (fun e => e.1.val = m)).map (·.2)).getD 0))
    else s)

/-- LOCK (R93): an attempt is issued; the entry waits in D for its response. -/
def execLock (n : Fin 104) (w : Nat) (s : State) : Out := .next (s.enter n w .lock (fun s _ => s.waitFor n .lock 5))

/-- LOCK_RESPONSE (R93, R268): the bank's answer to the attempt; under NEVER the engine goes on in either case. -/
def execLockResponse (n : Fin 104) (w : Nat) (s : State) : Out :=
  .next (if s.running n ∧ (s.eng n).wait = .lock then
      let x := s.entryAt n
      let r := s.semAcquire (halfOfSlot n) (eSarg x) 0 n
      let s := r.2
      if r.1 then
        ((s.updEng n (fun e => { e with sem := some (eSarg x), lockOk := true })).setOn (F.ENG_STAT.LOCKED n)).leaveWait n w
      else
        let s := s.updEng n (fun e => { e with lockOk := false })
        if eScnd x = 1 then s.leaveWait n w else s.updEng n (fun e => { e with wait := .lockRetry })
    else s)

/-- LOCK_RETRY (R93): unless an interrupt is to be taken between the attempts (R104). -/
def execLockRetry (n : Fin 104) (s : State) : Out :=
  .next (if s.running n ∧ (s.eng n).wait = .lockRetry ∧ !s.irqBlocks n then s.updEng n (fun e => { e with wait := .lock })
    else s)

/-- UNLOCK (R93, R268): the bank releases the semaphore for its owner; an error stops the engine. -/
def execUnlock (n : Fin 104) (w : Nat) (s : State) : Out :=
  .next (s.enter n w .unlock (fun s x =>
    let r := s.semRelease (halfOfSlot n) (eSarg x) 0 n
    let s := r.2
    if r.1 then
      let s := s.updEng n (fun e => { e with sem := none, lockOk := false })
      (s.clr (F.ENG_STAT.LOCKED n)).plain n x
    else (s.errAt n F.ENG_ERR.ILLEGAL).programStop n 0x201))

/-! ## State images and interrupts (R104, R109) -/

/-- A SAVE or RESTORE of gang n stands in D (R106, R109). -/
def State.inTransfer (s : State) (n : Nat) (o : Op) : Bool :=
  s.running n && (s.eng n).wait == .saveRes && eOp (s.entryAt n) == o

/-- The SAVE or RESTORE that stood in D for w further cycles, each with a pause vector, is done. -/
def State.endTransfer (s : State) (n w : Nat) : State :=
  ((s.holdFor n w).updEng n (fun e => { e with wait := .none })).setStall n 0

/-- SAVE's effect (R109): the images hold the state that the entry's own vector carries. -/
def State.saveDone (s : State) (n : Nat) (x : Entry) : State :=
  ((s.saveGang n (eSarg x)).updEng n (fun e => { e with saved := true })).plain n x

/-- SAVE (R109): the entry takes D and is held there; a second SAVE of the same gang, w cycles later, is the transfer's end. -/
def execSave (n : Fin 104) (w : Nat) (s : State) : Out :=
  .next (if s.inTransfer n .save then (s.endTransfer n w).saveDone n (s.entryAt n)
    else s.enter n w .save (fun s _ => s.waitFor n .saveRes 8))

/-- RESTORE's effect (R109, R110): the loaded values replace the results of the entry's own AOP and DOP; an image that cannot be
loaded stops the engine. -/
def State.restoreDone (s : State) (n : Nat) (x : Entry) : State :=
  if imageBad (s.savedImage n (eSarg x)) then (s.errAt n F.ENG_ERR.ILLEGAL).programStop n 0x201
  else
    let s := (s.issue n x (s.eng n).win).loadGang n (eSarg x)
    let s := s.updEng n (fun e => { e with restored := s.inHandler n || s.inMon n })
    (s.setPc n (s.pc n + 1)).stepCount n

/-- RESTORE (R109, R110), in two steps as SAVE. -/
def execRestore (n : Fin 104) (w : Nat) (s : State) : Out :=
  .next (if s.inTransfer n .restore then (s.endTransfer n w).restoreDone n (s.entryAt n)
    else s.enter n w .restore (fun s _ => s.waitFor n .saveRes 8))

/-- IRET (R104, R105): its two delay slots follow, then IRA. -/
def execIret (n : Fin 104) (w : Nat) (s : State) : Out :=
  .next (s.enter n w .iret (fun s x =>
    let s := (s.issue n x (s.eng n).win).updEng n (fun e => { e with iretDs := 2 })
    (s.setPc n (s.pc n + 1)).stepCount n))

/-- TRAP (R94, R103): cause TRAP, and with SARG[16] cause GANG in every other participant. -/
def execTrap (n : Fin 104) (w : Nat) (s : State) : Out :=
  .next (s.enter n w .trap (fun s x =>
    let s := (s.plain n x).raiseGang n 4
    if bit (eSarg x) 16 then s.each (s.syncOthers n) (fun s m => s.raiseGang m 3) else s))

/-- TRACE (R94, R481): the leader writes IMM to the stimulus port. -/
def execTrace (n : Fin 104) (w : Nat) (s : State) : Out :=
  .next (s.enter n w .trace (fun s x => (s.stimulus n (eSarg x % 32) (eImm x) 0 (s.provTag n)).plain n x))

/-- CLRF (R94): fails of earlier vectors no longer set FAIL_STICKY. -/
def execClrf (n : Fin 104) (w : Nat) (s : State) : Out :=
  .next (s.enter n w .clrf (fun s x =>
    let t := s.now n
    (s.each (s.gang n) (fun s m => s.updEng m (fun e => { e with sticky := false, clrf := t }))).plain n x))

/-! ## Transfers (R86–R89, R99, R147–R160) -/

/-- Where a transfer with a condition continues. -/
def contAt (taken : Bool) (target pc : Nat) : Nat := if taken then target else pc + 3

/-- The BR in D with its condition settled. -/
def State.brSettled (s : State) (n : Nat) (x : Entry) : State :=
  let win := s.ownWin n (eScnd x)
  let r := s.takeCond n (eScnd x) (eK x)
  r.2.jump n x win (contAt r.1 (eSarg x) (s.pc n))

/-- A BR that speculates (R148–R150, R158, R159); an entry of a pacer counts as one with RSAFE = 0 (R140). -/
def State.brSpec (s : State) (n : Nat) (x : Entry) : State :=
  let e := s.eng n
  let a := s.pc n
  if (e.brs.filter (·.isBr)).length ≥ 64 then s.waitFor n .provHold 1
  else
    let loopIsTaken := loopTaken a (eSarg x)
    let p := e.predAt a
    let loop := p.predictsLoop a (p.run + e.loopsOut a)
    let exitAt := contAt (!loopIsTaken) (eSarg x) a
    if !loop && (s.isPacer n || !eRsafe (s.seqEntry (halfOfSlot n) (seqWrap exitAt))) then s.waitFor n .heldBr 1
    else
      let taken := if loop then loopIsTaken else !loopIsTaken
      let s := s.pushBranch n ⟨true, e.tagNext, a, eScnd x, e.win, Table.get 0 e.winLast e.win, taken, loopIsTaken,
        seqWrap (contAt (!taken) (eSarg x) a), (s.provTag n).isSome, none, e.winNext, false⟩
      (s.closeWin n).jump n x 0 (contAt taken (eSarg x) a)

/-- BR's body (R86, R95–R97, R148). -/
def State.brBody (s : State) (n : Nat) (x : Entry) : State :=
  let c := eScnd x
  if c = 2 ∨ c = 3 then
    if s.winEmpty n (s.eng n).win then s.brSettled n x
    else if (s.eng n).spec then s.brSpec n x
    else if s.condWaits n c then s.waitFor n .cond 1
    else s.brSettled n x
  else if s.condWaits n c then s.waitFor n .cond 1
  else s.brSettled n x

/-- BR (R86). -/
def execBr (n : Fin 104) (w : Nat) (s : State) : Out := .next (s.enter n w .br (fun s x => s.brBody n x))

/-- The call stack of a gang (R89): the top first; SP in every member. -/
def State.setStk (s : State) (n : Nat) (stk : List Nat) : State :=
  (s.updEng n (fun e => { e with stk := stk })).wrGang n F.ENG_STAT.SP stk.length

/-- The CALL in D with its condition settled (R89): a taken CALL on a full stack is not executed. -/
def State.callSettled (s : State) (n : Nat) (x : Entry) : State :=
  let win := s.ownWin n (eScnd x)
  let r := s.takeCond n (eScnd x) (eK x)
  if r.1 && decide ((s.eng n).stk.length ≥ 16) then (s.errAt n F.ENG_ERR.STACK_OVF).programStop n 0x202
  else
    let a := s.pc n
    let s := r.2
    let s := if r.1 then s.setStk n (seqWrap (a + 3) :: (s.eng n).stk) else s
    s.jump n x win (contAt r.1 (eSarg x) a)

/-- CALL's body (R89). -/
def State.callBody (s : State) (n : Nat) (x : Entry) : State :=
  if s.condWaits n (eScnd x) then s.waitFor n .cond 1 else s.callSettled n x

/-- CALL (R89). -/
def execCall (n : Fin 104) (w : Nat) (s : State) : Out := .next (s.enter n w .call (fun s x => s.callBody n x))

/-- The RET in D with its condition settled (R89): a taken RET on an empty stack is not executed. -/
def State.retSettled (s : State) (n : Nat) (x : Entry) : State :=
  let win := s.ownWin n (eScnd x)
  let r := s.takeCond n (eScnd x) (eK x)
  if r.1 && (s.eng n).stk.isEmpty then (s.errAt n F.ENG_ERR.STACK_UNF).programStop n 0x203
  else
    let a := s.pc n
    let top := (s.eng n).stk.headD 0
    let s := r.2
    let s := if r.1 then s.setStk n (s.eng n).stk.tail else s
    s.jump n x win (contAt r.1 top a)

/-- RET's body (R89). -/
def State.retBody (s : State) (n : Nat) (x : Entry) : State :=
  if s.condWaits n (eScnd x) then s.waitFor n .cond 1 else s.retSettled n x

/-- RET (R89). -/
def execRet (n : Fin 104) (w : Nat) (s : State) : Out := .next (s.enter n w .ret (fun s x => s.retBody n x))

/-- Loop counter k of a gang, and a new value for it (R88). -/
def State.setCnt (s : State) (n k v : Nat) : State := s.updEng n (fun e => { e with cnt := Table.set 0 e.cnt k (v % 2 ^ 32) })

/-- LOOP (R88): counter k loses 1; if the result is not 0, continue at SARG. -/
def execLoop (n : Fin 104) (w : Nat) (s : State) : Out :=
  .next (s.enter n w .loop (fun s x =>
    let v := (Table.get 0 (s.eng n).cnt (eK x) + 2 ^ 32 - 1) % 2 ^ 32
    (s.setCnt n (eK x) v).jump n x (s.eng n).win (contAt (decide (v ≠ 0)) (eSarg x) (s.pc n))))

/-- LDC (R88). -/
def execLdc (n : Fin 104) (w : Nat) (s : State) : Out :=
  .next (s.enter n w .ldc (fun s x => (s.setCnt n (eK x) (eImm x % 2 ^ 32)).plain n x))

/-- WAITT (R92). -/
def execWaitt (n : Fin 104) (w : Nat) (s : State) : Out :=
  .next (s.enter n w .waitt (fun s x =>
    if s.trgFired n (eK x) then s.plain n x else s.waitFor n (.waitt (eK x)) 3))

/-! ## Stops, resolutions, interrupts -/

/-- What stops the gang at the entry in D: an illegal entry (R85), a reserved code (R129), a port the gang does not pace
(R137), a word that could not be read (R125). -/
def State.badEntry (s : State) (n : Nat) : Option Nat :=
  let x := s.entryAt n
  if s.illegalAt n then some 0x201
  else if codeReserved x then some 0x207
  else if s.portNotPaced n x then some 0x208
  else if (s.gang n).any (fun m => s.wordBad m x) then some 0x206
  else none

/-- ILLEGAL_ENTRY (R85, R125, R129, R137): the entry is in D, its line is present, it is not held on a provisional path; it is not
executed. -/
def execIllegalEntry (n : Fin 104) (w : Nat) (s : State) : Out :=
  .next (match s.badEntry n with
    | some det =>
      if s.running n ∧ !(s.eng n).wait.standing ∧ !s.irqBlocks n then
        match s.holdOf n with
        | .miss => s.startHold n .miss
        | .prov => s.startHold n .prov
        | _ => ((s.endHold n w).errAt n F.ENG_ERR.ILLEGAL).programStop n det
      else s
    | none => s)

/-- The results that the waiting entry of gang n waits for have arrived; the cycle from which they are usable. -/
def State.waitedAt (s : State) (n : Nat) (x : Entry) : Option Nat :=
  let e := s.eng n
  if eOp x ≠ .mwait ∧ eScnd x = 4 then
    if (s.gang n).all (fun m => (s.eng m).vecs.all (fun v => v.wait.isEmpty)) then some (s.usableAt n e.lastCyc) else none
  else if s.winArrived n e.win then some (s.usableAt n (Table.get 0 e.winLast e.win)) else none

/-- The BR that was held resolves without speculation, and trains the predictor (R154, R160). -/
def State.heldBrDone (s : State) (n : Nat) (x : Entry) : State :=
  let a := s.pc n
  let taken := s.condVal n (eScnd x) (eK x) (s.eng n).win
  let s := s.updEng n (fun e => e.trainAt a (taken == loopTaken a (eSarg x)))
  s.brSettled n x

/-- MATCH_WINDOW_RESOLVE (R97, R146, R154, R161): the waiting entry of gang n goes on, `late` cycles after the first cycle in
which its results could have been used. Older branches must have resolved. -/
def execMatchWindowResolve (n : Fin 104) (late : Nat) (s : State) : Out :=
  let e := s.eng n
  let x := s.entryAt n
  .next (if s.running n ∧ (e.wait = .cond ∨ e.wait = .heldBr) ∧ e.brs.isEmpty then
      match s.waitedAt n x with
      | some t =>
        let s := if late = 0 then s else s.count (F.FPU_SPX_EVT.LATE n)
        let s := s.holdFor n (t + late - s.now n)
        let s := (s.updEng n (fun e => { e with wait := .none })).setStall n 0
        if e.wait = .heldBr then s.heldBrDone n x
        else
          match eOp x with
          | .mwait => s.mwaitDone n x
          | .halt => s.haltSettled n x
          | .pause => s.pauseSettled n x
          | .br => s.brSettled n x
          | .call => s.callSettled n x
          | .ret => s.retSettled n x
          | _ => s
      | none => s
    else s)

/-- A cause is taken at the boundary before the entry in D (R104): IRA, two pause vectors, the vector of the cause, a window of
its own, and the live transfer state held. The vector is at the leader's IVB, which R103 does not say of a gang (DESIGN CHOICE,
log entry 35). -/
def State.takeIrq (s : State) (n w c : Nat) : State :=
  let x := s.pc n
  let s := (s.endHold n w).holdFor n 2
  let s := s.updEng n (fun e => { e with
    ira := x, held := true, iretDs := 0, restored := false, saved := false, irqTaken := 2 ^ c, wait := .none,
    win := e.winNext, winNext := e.winNext + 1, winOuter := e.win :: e.winOuter })
  let s := s.wrGang n F.ENG_STAT.IN_HANDLER 1
  s.setPc n (s.rd (F.ENG_IRQ.IVB n) * 32 + 4 * c)

/-- The monitor takes an enabled pending cause (R477): slot 7 is restored and the handler runs, its IRA that of the interrupted
program. IN_MON reads 0 and ENG_CYC counts while it runs: whether those cycles are spent in the monitor R113 does not say (DESIGN
CHOICE, log entry 35). -/
def State.svcIrq (s : State) (n c : Nat) : State :=
  let s := s.loadGang n 7
  let s := (s.wrGang n F.DBG_ENG_STAT.IN_MON 0).wrGang n F.ENG_STAT.STATE stRun
  let s := s.updEng n (fun e => { e with
    svc := true, held := true, iretDs := 0, restored := false, saved := false, irqTaken := 2 ^ c,
    win := e.winNext, winNext := e.winNext + 1 })
  let s := s.wrGang n F.ENG_STAT.IN_HANDLER 1
  s.setPc n (s.rd (F.ENG_IRQ.IVB n) * 32 + 4 * c)

/-- INTERRUPT_ENTRY (R103, R104, R106–R108, R477): the cause of highest priority; DEBUG is taken by MONITOR_ENTRY. -/
def execInterruptEntry (n : Fin 104) (w : Nat) (s : State) : Out :=
  .next (if !s.running n then s
    else if s.inMon n then
      if s.on (F.DBG_ENG_CTL.SVC n) ∧ !s.inHandler n then
        match topCause (s.rd (F.ENG_IRQ.PEND n) % 32) with | some c => s.svcIrq n c | none => s
      else s
    else if s.boundaryFree n then
      match topCause (s.takeable n) with
      | some c => if c = 5 then s else s.takeIrq n w c
      | none => s
    else s)

/-- The ticks in which what is left of slot n's watchdog period goes by on its half's timebase. -/
def State.wdogTicks (s : State) (n : Nat) : Nat :=
  let i := (s.tbase (halfOfSlot n)).inc
  ((s.eng n).wdog + i - 1) / i

/-- WATCHDOG_EXPIRE (R111): what is left of the period of the leader's watchdog goes by, and it expires. -/
def execWatchdogExpire (n : Fin 104) (s : State) : Out :=
  .next (match (s.eng n).ctx with
    | some c =>
      if s.wdogRuns n ∧ (s.tbase (halfOfSlot n)).inc ≠ 0 then
        ((s.elapse (s.wdogTicks n)).failFront c 0x13 0).stopJob c
      else s
    | none => s)

end Sys2Proof.Machine
end

