-- ==== Sys2Proof/Machine/VectorPath.lean ====
section
/-! DEFINITION. Words for vectors and the vector switch (R123–R142): the answers of the table cache and the stream buffer,
fabric vector ports, and writes of the engine tables and the selections. A flag beside a state says whether a write was
taken. -/

namespace Sys2Proof.Machine

/-! ## TABLE and STREAM words (R123–R126) -/

/-- A word of bank memory that cannot be read: its check bits fail (R262), or its bank is OFF (R263). -/
def State.bankBad (s : State) (h a : Nat) : Bool :=
  Table.get false s.bankUe (h * 0x400000 + a / 8) || s.bankCur h (bankOf a) == 2

/-- A data wait ends once every word the entry needs is present, after w further cycles. -/
def State.endData (s : State) (n w : Nat) : State :=
  match s.holdOf n with
  | .data _ => s
  | _ => s.endHold n w

/-- The gang of slot n waits for a word of the given DOP source (4 TABLE, 5 STREAM). -/
def State.waitsFor (s : State) (n src : Nat) : Bool :=
  s.running n && (s.eng n).wait == .data && bits (eDop (s.entryAt n)) 13 3 == src

/-- The members that lack the TABLE or STREAM word of the entry in D. -/
def State.lacking (s : State) (n : Nat) : List Nat := (s.gang n).filter (fun m => s.wordLacking m (s.entryAt n) != .no)

/-- The address of member m's TABLE or STREAM word. -/
def State.tableAt (s : State) (n m : Nat) : Nat :=
  let e := s.eng m
  tableAddr (eDop (s.entryAt n)) e.x e.y (s.xsOf m e.x)
def State.streamAt (s : State) (n m : Nat) : Nat :=
  let e := s.eng m
  streamAddr (eDop (s.entryAt n)) e.x e.y (s.xsOf m e.x)

/-- The read of one line that a fill of a table cache makes (R123). -/
def tableRead (a : Nat) : BankAcc := ⟨byEngine, 0, a / 64 * 64, 64, none, 0, .clean, 0⟩

/-- The line of a table word cannot be read yet: another agent's writable copy is to be written back first (R265), or one of its
banks is no longer ON or not yet (R263, R264). -/
def State.tableHeld (s : State) (h a : Nat) : Bool :=
  !(s.snooped h (tableRead a)).isEmpty ||
  (needsBanks (tableRead a)).any (fun b => s.bankShut h b)

/-- Such a line is asked for, once: its holder is snooped, its banks are woken. -/
def State.tableAsk (s : State) (h a : Nat) : State :=
  if s.homes.any (fun q => q.half == h && q.acc == tableRead a) || (s.bankH h).waits.contains (tableRead a) then s
  else s.bankHome h (tableRead a)

/-- The line of table word a is in slot m's table cache; those of its words that cannot be read are noted. -/
def State.tableFill (s : State) (m a : Nat) : State :=
  let ws := wordsOf (a / 64 * 64) 64
  let bad := ws.filter (fun v => s.bankBad (halfOfSlot m) (8 * v))
  s.updEng m (fun e => { e with
    tcache := Table.set 0 e.tcache (a / 64 % 128) (1 + a / 8192), tbad := e.tbad.filter (fun v => !ws.contains v) ++ bad })

/-- TABLE_FILL_DONE (R123, R125, R126): the lines of the members' words are in their table caches, unless bank memory holds one
back; ok = false: a word could not be delivered. -/
def execTableFillDone (n : Fin 104) (ok : Bool) (w : Nat) (s : State) : Out :=
  .next (if s.waitsFor n 4 then
      let ms := s.lacking n
      let held := ms.filter (fun m => s.tableHeld (halfOfSlot m) (s.tableAt n m))
      if !held.isEmpty then s.each held (fun s m => s.tableAsk (halfOfSlot m) (s.tableAt n m))
      else if !ok ∨ ms.any (fun m => s.bankBad (halfOfSlot m) (s.tableAt n m)) then
        ((s.endHold n w).errAt n F.ENG_ERR.ILLEGAL).programStop n 0x206
      else (s.each ms (fun s m => s.tableFill m (s.tableAt n m))).endData n w
    else s)

/-- The stream buffer of slot m, of 512 words, gets the words at `as_`, which lie in one line: a read of the line (R239). Whether they
could be had. -/
def State.streamFill (s : State) (m line : Nat) (as_ : List Nat) (e : Ecc) : Bool × State :=
  let r := s.dramNow (halfOfSlot m) line (as_.foldl (fun k a => k ||| 255 * 2 ^ (a % 64)) 0) e
  match r.1 with
  | none => (false, r.2)
  | some v => (true, r.2.updEng m (fun x =>
      let q := (x.sbuf.filter (fun y => !as_.contains y.1)) ++ as_.map (fun a => (a, v / 256 ^ (a % 64) % 2 ^ 64))
      { x with sbuf := q.drop (q.length - 512) }))

/-- The buffer of slot m fetches k words ahead of its last stream read, in the direction of the last two (R124). How far it fetches
is not stated: the surroundings give it, and what each line shows as it is read. -/
def State.streamAhead (s : State) (m k : Nat) (eccs : List Ecc) : State :=
  match (s.eng m).sread with
  | a :: b :: _ =>
    let as_ := (List.range k).filterMap (fun i =>
      if a = b then none else if b < a then some (a + 8 * (i + 1)) else if 8 * (i + 1) ≤ a then some (a - 8 * (i + 1)) else none)
    let as_ := as_.filter (fun x => !dramReserved x && decide (x + 8 ≤ s.usable (halfOfSlot m)))
    s.each ((as_.map (fun x => x / 64 * 64)).eraseDups).zipIdx (fun s l =>
      if s.dramRuns (halfOfSlot m) l.1 then (s.streamFill m l.1 (as_.filter (fun x => x / 64 * 64 = l.1)) (eccs.getD l.2 .clean)).2
      else s.wakeDram (s.dramIf (halfOfSlot m) l.1))
  | _ => s

/-- STREAM_FETCH_DONE (R124–R126, R239): the members' stream buffers have fetched: the words for which the entry waits, if it does, and
up to `ahead` words ahead. `eccs`: what each line showed, the awaited ones first. A held interface is a data wait. -/
def execStreamFetchDone (n : Fin 104) (eccs : List Ecc) (ahead : Fin 512) (w : Nat) (s : State) : Out :=
  .next (if s.waitsFor n 5 then
      let ms := s.lacking n
      let line := fun (m : Nat) => s.streamAt n m / 64 * 64
      if ms.any (fun m => decide (s.streamAt n m + 8 ≤ s.usable (halfOfSlot m)) && !s.dramRuns (halfOfSlot m) (line m)) then
        s.each ms (fun s m => s.wakeDram (s.dramIf (halfOfSlot m) (line m)))
      else
        let r := ms.zipIdx.foldl (fun (r : Bool × State) m =>
          let q := r.2.streamFill m.1 (line m.1) [s.streamAt n m.1] (eccs.getD m.2 .clean)
          (r.1 && q.1, q.2)) (true, s)
        if !r.1 then ((r.2.endHold n w).errAt n F.ENG_ERR.ILLEGAL).programStop n 0x206
        else
          let t := r.2.each ms (fun t m =>
            let t := (t.updEng m (fun e => { e with sread := s.streamAt n m :: e.sread.take 1 })).streamAhead m ahead (eccs.drop ms.length)
            t.updEng m (fun e => { e with sread := e.sread.drop 1 }))
          t.endData n w
    else if s.running n then s.each (s.gang n) (fun s m => s.streamAhead m ahead eccs)
    else s)

/-! ## Fabric vector ports (R137–R142) -/

/-- The leader of the gang that port p of half h paces, if its engine runs. -/
def State.paceLeader (s : State) (h p : Nat) : Option Nat :=
  match s.pacer h p with
  | some le => (s.slotOf le).map s.leaderOf
  | none => none

/-- FVP_READY and FVP_DOWN of port p of half h as user logic sees them (R138); FVP_LEVEL is the queue's length. -/
def State.fvpReady (s : State) (h p : Nat) : Bool := decide ((s.portQ h p).length < 16)
def State.fvpDown (s : State) (h p : Nat) : Bool := s.portDown h p || (s.pacer h p).isNone

/-- FVP_WORD_ACCEPT (R138, R139): a GCLK edge with VALID and READY high; a fenced port takes no word, nor one whose clock stands
still (R292). A pacer that waited goes on, after w cycles of its wait. -/
def execFvpWordAccept (h : Fin 2) (p : Fin 8) (word : Desc) (w : Nat) (s : State) : Out :=
  .next (if s.portDown h p ∨ !s.fvpReady h p ∨ !s.gclkOn h (s.rd (F.VSW_PORT_CFG.CLKSEL h p)) then s
    else
      let s := s.setPortQ h p (s.portQ h p ++ [word.toNat])
      match s.paceLeader h p with
      | some n => if s.running n ∧ (s.eng n).wait = .data then s.endData n w else s
      | none => s)

/-- The pacer of a port is idle (R134). -/
def State.pacerIdle (s : State) (h p : Nat) : Bool :=
  match s.pacer h p with | some le => s.leIdle le | none => true

/-- A write of FLUSH (R142): the queue is emptied at once. -/
def State.fvpFlush (s : State) (h p : Nat) : Bool × State :=
  if s.pacerIdle h p then (true, s.setPortQ h p []) else (false, s)

/-- FVP_FLUSH (R142). -/
def execFvpFlush (r : Req) (h : Fin 2) (p : Fin 8) (s : State) : Out :=
  .next (if s.mayWrite r .vsw (some h) then (s.fvpFlush h p).2 else s)

/-! ## Engine tables and selections (R131–R134) -/

/-- A word of a slot's table window. -/
def State.engTableWrite (s : State) (n w v : Nat) : Bool × State :=
  if s.atRest n then
    (true,
      if w < 0x1000 then s.scrPut n w v
      else if w < 0x1100 then s.lmapPut n (4 * (w - 0x1000)) 4 v
      else s.fsetPut n (4 * (w - 0x1100)) 4 v)
  else (false, s.setOn (F.VSW_ERR.TBL_BUSY (halfOfSlot n)))

/-- VECTOR_TABLE_WRITE (R131, R132): w is the word within the slot's window. -/
def execVectorTableWrite (r : Req) (n : Fin 104) (w : Fin 0x1140) (v : Word32) (s : State) : Out :=
  .next (if s.mayWrite r .engWin (some (n / 52)) then (s.engTableWrite n w v.toNat).2 else s)

/-- A write of channel c's selection. -/
def State.selWrite (s : State) (c v : Nat) : Bool × State :=
  if s.selMay c v then (true, s.selPut c v) else (false, s.setOn (F.VSW_ERR.SEL_BUSY (selH c)))

/-- VSW_SEL_WRITE (R133, R134). -/
def execVswSelWrite (r : Req) (c : Fin 256) (v : Word32) (s : State) : Out :=
  .next (if s.mayWrite r .vsw (some (c / 128)) then (s.selWrite c v.toNat).2 else s)

end Sys2Proof.Machine
end

