-- ==== Sys2Proof/Machine/Channel.lean ====
section
/-! DEFINITION. The commands on channels, strobe groups and calibration units (R184–R201). A flag beside a state says whether a
register write was taken. -/

namespace Sys2Proof.Machine

/-! ## Channel registers (R184–R186, R188) -/

/-- The commit of a CHN_CFG_n write. A change of MODE or UIC begins a mode change: E deasserted, D drives 0 (R185); LPBK holds
E deasserted (R197); RATE_ERR follows the new rate (R186). -/
def State.chnCfgPut (s : State) (c v : Nat) : State :=
  let t := s.storeWord (0xC00000 + c * 0x2000) v
  let changed := s.rd (F.CHN_CFG.MODE c) != t.rd (F.CHN_CFG.MODE c) || s.rd (F.CHN_CFG.UIC c) != t.rd (F.CHN_CFG.UIC c)
  let t := if changed then (t.setOn (F.CHN_STAT.MODE_CHG c)).clr (F.CHN_STAT.SER_LOCK c) else t
  let t := if t.on (F.CHN_CFG.LPBK c) ≠ s.on (F.CHN_CFG.LPBK c) then t.updChan c (fun x =>
      { x with eLevel := false, paused := false, events := x.of 0 }) else t
  (t.checkRate c).updSsg (bayOfChan c)

/-- A write of CHN_CFG_n, or of CHN_DSK_n (dsk): taken when the channel is idle and the serial rate that CHN_CFG_n then gives is
in range (R184). -/
def State.chnCfgWrite (s : State) (c : Nat) (dsk : Bool) (v : Nat) : Bool × State :=
  let t := if dsk then s else s.storeWord (0xC00000 + c * 0x2000) v
  if !s.chIdle c ∨ (t.serial c ∧ t.rateBad (s.clk (selH c)).fw (t.uic c)) then (false, s.setOn (F.CHN_STAT.CFG_DISC c))
  else if dsk then (true, s.storeWord (0xC00004 + c * 0x2000) v)
  else (true, s.chnCfgPut c v)

/-- CHN_CFG_WRITE (R184). -/
def execChnCfgWrite (r : Req) (c : Fin 256) (dsk : Bool) (v : Word32) (s : State) : Out :=
  .next (if s.mayWrite r .chn (some (c / 128)) then (s.chnCfgWrite c dsk v.toNat).2 else s)

/-- MODE_CHANGE_DONE (R185): jobs that waited on MODE_CHG may start (PATTERN). SER_LOCK reads 1 on a channel whose serial clock
then runs. -/
def execModeChangeDone (c : Fin 256) (s : State) : Out :=
  .next (if s.on (F.CHN_STAT.MODE_CHG c) then
      ((s.clr (F.CHN_STAT.MODE_CHG c)).wr (F.CHN_STAT.SER_LOCK c) (b2n (s.serial c))).restChan c
    else s)

/-- A write of CHN_SSG_CFG_b_g, or of CHN_SSG_DLY_b_g (dly): discarded unless source and members are idle, the old source and
a new one. -/
def State.ssgCfgWrite (s : State) (b g : Nat) (dly : Bool) (v : Nat) : Bool × State :=
  let t := s.storeWord (0xE00040 + b * 0x1000 + g * 0x10 + (if dly then 4 else 0)) v
  if ((s.ssgSrc b g :: s.ssgMembers b g) ++ (t.ssgSrc b g :: t.ssgMembers b g)).all s.chIdle then
    (true, (if t.rd (F.CHN_SSG_CFG.WIN_OPEN b g) ≥ t.rd (F.CHN_SSG_CFG.WIN_CLOSE b g) then t.clr (F.CHN_SSG_CFG.EN b g)
      else t).updSsg b)
  else (false, s)

/-- SSG_CFG_WRITE (R188, R198). -/
def execSsgCfgWrite (r : Req) (b : Fin 8) (g : Fin 4) (dly : Bool) (v : Word32) (s : State) : Out :=
  .next (if s.mayWrite r .chn (some (b / 4)) then (s.ssgCfgWrite b g dly v.toNat).2 else s)

/-! ## Timing sets through the window (R187) -/

/-- The BAR0 word at a byte of channel c's window (R199). -/
def chanWord (c a : Nat) : Nat := (0x3800000 + c * 0x1000 + a) / 4

/-- A write to bytes 0x00–0x1B of set k is held. -/
def State.tsetHold (s : State) (r : Req) (c k w v : Nat) : Bool × State :=
  if s.chIdle c then (true, s.setHeld r (chanWord c (32 * k + 4 * w)) (some v)) else (false, s.setOn (F.CHN_STAT.TSET_BUSY c))

/-- A write to byte 0x1C commits the set. -/
def State.tsetCommit (s : State) (r : Req) (c k v : Nat) : Bool × State :=
  if s.chIdle c then
    let word := fun w => (s.held r (chanWord c (32 * k + 4 * w))).getD (s.tsetWord c k w)
    let x := ((List.range 7).map (fun w => word w * 2 ^ (32 * w))).foldl (· + ·) (v * 2 ^ 224)
    (true, (s.each (List.range 7) (fun s w => s.setHeld r (chanWord c (32 * k + 4 * w)) none)).tsetPut c (32 * k) 32 x)
  else (false, s.setOn (F.CHN_STAT.TSET_BUSY c))

/-- TSET_WINDOW_HOLD (R187). -/
def execTsetWindowHold (r : Req) (c : Fin 256) (k : Fin 64) (w : Fin 7) (v : Word32) (s : State) : Out :=
  .next (if s.mayWrite r .win (some (c / 128)) then (s.tsetHold r c k w v.toNat).2 else s)

/-- TSET_COMMIT (R187). -/
def execTsetCommit (r : Req) (c : Fin 256) (k : Fin 64) (v : Word32) (s : State) : Out :=
  .next (if s.mayWrite r .win (some (c / 128)) then (s.tsetCommit r c k v.toNat).2 else s)

/-! ## Temperature (R191, R192) -/

/-- SENSOR_SAMPLE (R192, R198): the reading of each sensor, none where its range check fails. -/
def execSensorSample (temps : List (Option (BitVec 12))) (s : State) : Out :=
  .next (s.each (temps.zipIdx.filter (fun (e : Option (BitVec 12) × Nat) => decide (e.2 < 64))) (fun s e =>
    let b := e.2 / 8
    let k := e.2 % 8
    let bad := s.rd (F.CHN_CAL_STAT.SENS_BAD b)
    match e.1 with
    | some t => (s.wr (F.CHN_TSENS.TEMP b k) t.toNat).wr (F.CHN_CAL_STAT.SENS_BAD b) (bad - (if bit bad k then 2 ^ k else 0))
    | none => (s.wr (F.CHN_TSENS.TEMP b k) 0x800).wr (F.CHN_CAL_STAT.SENS_BAD b) (bad ||| 2 ^ k)))

/-- The channels of bay b. -/
def chansOfBay (b : Nat) : List Nat := (List.range 32).map (fun c => 32 * b + c)

/-- TEMP_RECOMPUTE (R191, R192): one period of bay b. -/
def execTempRecompute (b : Fin 8) (s : State) : Out :=
  .next (if s.on (F.CHN_CAL_CTL.HOLD b) then s
    else s.each (chansOfBay b) (fun s c =>
      if s.on (F.CHN_CFG.TCOMP c) ∧ !s.sensBad (s.calRec c).sens then (s.recompute c (s.chIdle c)).2 else s))

/-! ## Calibration (R193–R195) -/

/-- The channel of bay b that the full calibration of context n has taken: the lowest without a status. -/
def State.calNext (s : State) (n b : Nat) : Option Nat :=
  match s.atWork n 3 .running with
  | some j =>
    if dKind j.desc = 1 then
      (calItems j.desc).find? (fun c => bayOfChan c = b && !(j.calStat.any (fun e => e.1 = c)))
    else none
  | none => none

/-- A CALIBRATE job works on channel c (R193). -/
def State.calAtWork (s : State) (c : Nat) : Bool := (List.range 64).any (fun n => s.calNext n (bayOfChan c) = some c)

/-- BASE_p from the sum of 4,096 arrivals: their average, CONVERGENT, before T_ref 65,536 units after the reference point. A base
outside 16 bits is not stated: a free value. -/
def State.calBase (s : State) (sum : Int) : Nat × State :=
  let b := 65536 - roundConv sum 4096
  if 0 ≤ b ∧ b < 65536 then (b.toNat, s) else s.free 16

/-- Steps 3 to 6 for channel c (R193): `sums`: per path the sum of the arrivals in 0.125 ps, none: no edge; sph: the centre of the
loopback eye. Answers the status. -/
def State.calMeasure (s : State) (c : Nat) (sums : List (Option Int)) (sph : Nat) : Nat × State :=
  let got := (List.range 4).map (fun p => sums.getD p none)
  if got.any Option.isNone then (1, s.setOn (F.CHN_STAT.CAL_FAIL c))
  else
    let s := if s.serial c then s.wr (F.CHN_DSK.SPH c) sph else s
    let r := s.calRec c
    if s.sensBad r.sens then (3, s)
    else
      let q := got.foldl (fun (q : List Nat × State) g =>
        let t := q.2.calBase (g.getD 0)
        (q.1 ++ [t.1], t.2)) ([], s)
      let r := { r with base := q.1, tcal := toBits 12 (s.temp r.sens) }
      let s := q.2.setCal c r
      let o := s.newOfs c r
      let s := if s.on (F.CHN_CAL_CTL.HOLD (bayOfChan c)) then s else s.setCal c { r with ofs := o.1 }
      (if o.2 = 0 then 0 else 2, s.noteClamp c o.2)

/-- CAL_CHANNEL_BEGIN (R193, R195): the channel that context n's job has taken is idle, and is calibrated. -/
def execCalChannelBegin (n : Fin 64) (c : Fin 256) (sums : List (Option Int)) (sph : Fin 64) (s : State) : Out :=
  .next (if s.calNext n (bayOfChan c) = some c.val then
      if s.calOut c then s.calStatus n c 5
      else if s.chIdle c then
        let q := s.calMeasure c sums sph
        q.2.calStatus n c q.1
      else s
    else s)

/-- CAL_IDLE_TIMEOUT (R195): BUSY. -/
def execCalIdleTimeout (n : Fin 64) (c : Fin 256) (s : State) : Out :=
  .next (if s.calNext n (bayOfChan c) = some c.val ∧ !s.chIdle c then s.calStatus n c 4 else s)

/-! ## Calibration records through the window (R200, R201) -/

/-- A write to the record is taken: the channel is idle and no job calibrates it. -/
def State.recOk (s : State) (c : Nat) : Bool := s.chIdle c && !s.calAtWork c

/-- Word w of the present record. -/
def State.recWord (s : State) (c w : Nat) : Nat := bits (recBytes (s.calRec c)) (32 * w) 32

/-- A write to words 0x00–0x1F is held. -/
def State.recHold (s : State) (r : Req) (c w v : Nat) : Bool × State :=
  if s.recOk c then (true, s.setHeld r (chanWord c (0x800 + 4 * w)) (some v)) else (false, s.setOn (F.CHN_STAT.CFG_DISC c))

/-- The write to 0x20 commits the record; its offsets are computed and applied wholly, but for a sensor marked bad (R192). -/
def State.recCommit (s : State) (r : Req) (c v : Nat) : Bool × State :=
  if s.recOk c then
    let word := fun w => (s.held r (chanWord c (0x800 + 4 * w))).getD (s.recWord c w)
    let x : CalRec := ⟨(List.range 4).map (fun p => word (2 * p) % 2 ^ 16), (List.range 4).map (fun p => word (2 * p + 1) % 2 ^ 16),
      bits v 16 6, bits v 0 12, (s.calRec c).ofs⟩
    let s := s.each (List.range 8) (fun s w => s.setHeld r (chanWord c (0x800 + 4 * w)) none)
    let s := s.setCal c x
    (true, if s.on (F.CHN_CFG.TCOMP c) ∧ s.sensBad x.sens then s else (s.recompute c true).2)
  else (false, s.setOn (F.CHN_STAT.CFG_DISC c))

/-- CAL_RECORD_HOLD (R200). -/
def execCalRecordHold (r : Req) (c : Fin 256) (w : Fin 8) (v : Word32) (s : State) : Out :=
  .next (if s.mayWrite r .win (some (c / 128)) then (s.recHold r c w v.toNat).2 else s)

/-- CAL_RECORD_COMMIT (R200, R201). -/
def execCalRecordCommit (r : Req) (c : Fin 256) (v : Word32) (s : State) : Out :=
  .next (if s.mayWrite r .win (some (c / 128)) then (s.recCommit r c v.toNat).2 else s)

end Sys2Proof.Machine
end

