-- ==== Sys2Proof/Machine/Dram.lean ====
section
/-! DEFINITION. The LPDDR5X controllers (R233–R256): requests and their merging, scheduling, returns, set-points, retraining,
removal of an interface, self-refresh, and the DRAM window. -/

namespace Sys2Proof.Machine

/-! ## Requests (R241, R242, R244) -/

/-- A line index of a half (64 bytes each, addresses below 2^36) as its address. -/
def lineAddr (i : Nat) : Nat := 64 * i

/-- DRAM_READ_REQ (R242, R244): `id` names the requester. -/
def execDramReadReq (h : Fin 2) (line : Fin 0x40000000) (mask : Word64) (id : Fin 0x110000) (full : Bool) (s : State) : Out :=
  .next (s.dramReadReq h (lineAddr line) mask.toNat id full none)

/-- DRAM_WRITE_REQ (R241, R244). -/
def execDramWriteReq (h : Fin 2) (line : Fin 0x40000000) (mask : Word64) (data : Desc) (full : Bool) (s : State) : Out :=
  .next (s.dramWriteReq h (lineAddr line) mask.toNat data.toNat [] full)

/-- DRAM_READ_OR_WRITE_REQ (R218, R241, R244). -/
def execDramReadOrWriteReq (h : Fin 2) (line : Fin 0x40000000) (data : Desc) (ctxs : Word64) (full : Bool) (s : State) : Out :=
  .next (s.dramOrReq h (lineAddr line) data.toNat (s.jobsOf ctxs.toNat) full)

/-! ## Scheduling (R243) -/

/-- Serving writes or reads next: a change at WR_HI, WR_LO or with no read left. -/
def State.serveWrites (s : State) (n : Nat) : Bool :=
  let d := s.dmc n
  if d.writing then decide (d.writes > s.eff (F.DMC_SCHED.WR_LO n))
  else decide (d.writes ≥ s.eff (F.DMC_SCHED.WR_HI n)) || d.reads == 0

/-- The index of the request that goes next. `banks`: the bank of each queued request; `aged`, `hits`: the requests that have
waited 2 µs, and those that hit an open row. No request goes before a pending write of its line (R242); a drain takes only the writes
that were there when it began. -/
def State.dramPick (s : State) (n : Nat) (banks aged hits : List Nat) : Option Nat :=
  let d := s.dmc n
  let op := fun (i : Nat) => d.q.getD i (dramRd 0 0 0 none)
  let all := List.range d.q.length
  let open_ := if d.drain = 0 then all else (all.filter (fun i => (op i).kind != 0)).take d.drain
  let idx := open_.filter (fun i => Table.get 0 d.refresh (banks.getD i 0) == 0 &&
    !all.any (fun j => decide (j < i) && (op j).line == (op i).line && (op j).kind != 0))
  let behind := fun (i : Nat) => all.any (fun j =>
    decide (i < j) && (op j).kind == 0 && (op i).kind != 0 && (op j).line == (op i).line)
  match idx.find? (fun i => aged.contains i) with
  | some i => some i
  | none =>
    match idx.find? behind with
    | some i => some i
    | none =>
      let cls := idx.filter (fun i => ((op i).kind != 0) == (s.serveWrites n || d.drain != 0))
      let cls := if cls.isEmpty then idx else cls
      match cls.find? (fun i => hits.contains i) with
      | some i => some i
      | none => cls.head?

/-- The reads of a line up to its next pending write, and the other requests. -/
def takeReads (line : Nat) : List DramOp → List DramOp × List DramOp
  | [] => ([], [])
  | o :: r =>
    if o.line = line ∧ o.kind ≠ 0 then ([], o :: r)
    else
      let p := takeReads line r
      if o.line = line then (o :: p.1, p.2) else (p.1, o :: p.2)

/-- A picked write executes: reads that waited behind it are served from what it wrote (R244); the last of a drain ends it. -/
def State.dramWriteOut (s : State) (n i : Nat) (o : DramOp) (e : Ecc) : State :=
  let h := n / 4
  let s := (s.updDmc n (fun d => { d with q := d.q.eraseIdx i })).dramExec h o e
  let p := takeReads o.line ((s.dmc n).q.drop i)
  let s := s.updDmc n (fun d => { d with q := d.q.take i ++ p.2 })
  let data := s.dramRead h o.line 64
  let bad := s.poisoned h o.line
  let s := s.each p.1 (fun s r => s.readReturn n { r with data := data, bad := bad } .clean)
  if (s.dmc n).drain = 0 then s
  else
    let s := s.updDmc n (fun d => { d with drain := d.drain - 1 })
    if (s.dmc n).drain = 0 then s.dmcDrained n else s

/-- DRAM_SCHEDULE (R243): the next DRAM operation; `ecc`: what the read part of a write finds. All requests wait during a step, a
switch, an entry and an exit, but for the writes that drain before a switch or an entry. -/
def execDramSchedule (n : Fin 8) (banks : List (Fin 32)) (aged hits : List Nat) (ecc : Ecc) (s : State) : Out :=
  .next (if (s.dmc n).drain = 0 ∧ (s.rd (F.DMC_STAT.STATE n) ≠ 2 ∨ (s.dmc n).entering) then s
    else
      match s.dramPick n (banks.map (·.val)) aged hits with
      | none => s
      | some i =>
        match (s.dmc n).q[i]? with
        | none => s
        | some o =>
          let w := s.serveWrites n
          let s := if aged.contains i then s.count (F.DMC_AGE.AGE n) else s
          let s := if hits.contains i then s.count (F.DMC_HIT.HIT n) else s
          let s := s.updDmc n (fun d => { d with writing := w })
          let s := if o.kind = 0 then
              (s.count (F.DMC_RD.RD n)).updDmc n (fun d => { d with q := d.q.eraseIdx i, issued := d.issued ++ [o] })
            else s.dramWriteOut n i o ecc
          s.letIn n)

/-- DRAM_READ_RETURN (R239): the k-th of the reads that are under way returns. -/
def execDramReadReturn (n : Fin 8) (k : Nat) (ecc : Ecc) (s : State) : Out :=
  .next (match (s.dmc n).issued[k]? with
    | none => s
    | some o => (s.updDmc n (fun d => { d with issued := d.issued.eraseIdx k })).readReturn n o ecc)

/-- DRAM_REFRESH (R233, R243, R255): a refresh of one bank of one rank, due at the rate that MR4 reports, or a refresh management that
the DRAM has requested, begins or ends; requests to the bank wait. `mr4`: what MR4 of channels A (low three bits) and B reads then.
In self-refresh the DRAM refreshes itself. -/
def execDramRefresh (n : Fin 8) (bank : Fin 32) (busy : Bool) (mr4 : BitVec 6) (s : State) : Out :=
  .next (if s.mckGated n then s
    else ((s.updDmc n (fun d => { d with refresh := Table.set 0 d.refresh bank (b2n busy) })).wr (F.DMC_TEMP.MR4_A n)
      (bits mr4.toNat 0 3)).wr (F.DMC_TEMP.MR4_B n) (bits mr4.toNat 3 3))

/-! ## Set-points (R246, R247, R249, R255) -/

/-- A write while MCK_n is gated is held until the exit (R254). -/
def State.holdDmc (s : State) (n off v : Nat) : State := s.updDmc n (fun d => { d with heldWr := d.heldWr ++ [(off, v)] })

/-- Byte offset of a register of interface n. -/
def dmcOff (n r : Nat) : Nat := 0x1400000 + n * 0x10000 + r

/-- The target of a switch; the reserved code 3 acts as the reset value 1. -/
def State.fspTarget (s : State) (n : Nat) : Nat :=
  let t := s.rd (F.DMC_FSP_CTL.TARGET n)
  if t = 3 then 1 else t

/-- The reset value of RATE of set-point k (R255). -/
def State.fspReset (s : State) (k : Nat) : Nat := if k = 0 then 0 else if k = 1 then (if s.grade12 then 6 else 8) else 4

/-- The RATE code as it acts: a reserved code as the reset value (R9). -/
def State.fspRate (s : State) (n k : Nat) : Nat :=
  let v := s.rd (F.DMC_FSP.RATE n k)
  if v > 8 then s.fspReset k else v

/-- A RATE code above the grade (R3, R233). -/
def State.rateOver (s : State) (v : Nat) : Bool := s.grade12 && decide (6 < v && v ≤ 8)
def State.rateAbove (s : State) (n k : Nat) : Bool := s.rateOver (s.fspRate n k)

/-- The set-point may not be switched to (R247). -/
def State.fspBad (s : State) (n t : Nat) : Bool := s.rd (F.DMC_FSP.VALID n t) == 0 || s.rateAbove n t

/-- The switch is refused. -/
def State.fspRefuse (s : State) (n : Nat) : State :=
  ((s.setOn (F.DMC_FSP_CTL.REFUSED n)).clr (F.DMC_FSP_CTL.REQ n)).updDmc n (fun d => { d with deferred := false })

/-- A switch to the target of its request begins, unless the target may no longer be switched to: the write queue drains and all
traffic is held. -/
def State.fspStart (s : State) (n : Nat) : State :=
  if s.fspBad n (s.dmc n).target then s.fspRefuse n
  else ((((s.dropPass n 2).updDmc n (fun d => { d with switching := true, deferred := false })).wr (F.DMC_STAT.STATE n) 4)).dmcDrain n

/-- A request to switch (R247, R249): refused, started, deferred to the end of a retraining step or of a switch or entry that runs, or
aborting the step. Its target is the one of the request. -/
def State.fspRequest (s : State) (n : Nat) : State :=
  let t := s.fspTarget n
  if s.fspBad n t then s.fspRefuse n
  else
    let s := (s.setOn (F.DMC_FSP_CTL.REQ n)).updDmc n (fun d => { d with target := t })
    if (s.dmc n).inStep ∧ s.on (F.DMC_FSP_CTL.URGENT n) then (s.dropPass n 1).fspStart n
    else if s.rd (F.DMC_STAT.STATE n) = 2 ∧ !(s.dmc n).entering then s.fspStart n
    else s.updDmc n (fun d => { d with deferred := true })

/-- A write of DMC_FSP_CTL_n with its three fields. -/
def State.fspCtlWrite (s : State) (n v : Nat) : State :=
  if s.mckGated n then s.holdDmc n 0x18 v
  else
    let busy := s.on (F.DMC_FSP_CTL.REQ n)
    let s := (s.wr (F.DMC_FSP_CTL.URGENT n) (bits v 3 1)).wr (F.DMC_FSP_CTL.TARGET n) (bits v 0 2)
    let s := if bit v 4 then s.clr (F.DMC_FSP_CTL.REFUSED n) else s
    if bit v 2 && !busy then s.fspRequest n else s

/-- FSP_SWITCH_REQ (R247, R249). -/
def execFspSwitchReq (r : Req) (n : Fin 8) (urgent : Bool) (target : Fin 4) (s : State) : Out :=
  .next (if s.mayWrite r .dmc (some (n / 4)) then s.fspCtlWrite n (8 * b2n urgent + 4 + target) else s)

/-- What follows a step or a switch that has ended: a deferred switch, then a deferred entry. -/
def State.dmcResume (s : State) (n : Nat) : State :=
  let s := s.wr (F.DMC_STAT.STATE n) 2
  if (s.dmc n).deferred then s.fspStart n
  else if (s.dmc n).srAfter ∧ !s.dramReferenced (n / 4) then (s.dropPass n 2).srEnter n
  else s.updDmc n (fun d => { d with srAfter := false })

/-- FSP_SWITCH_DONE (R247): the write queue has drained, the DRAM is reprogrammed and MCK_n has relocked. -/
def execFspSwitchDone (n : Fin 8) (s : State) : Out :=
  .next (if (s.dmc n).switching ∧ (s.dmc n).drain = 0 then
      let s := ((s.wr (F.DMC_STAT.FSP_ACT n) (s.dmc n).target).clr (F.DMC_FSP_CTL.REQ n)).setOn (F.DMC_STAT.MCK_LOCK n)
      (s.updDmc n (fun d => { d with switching := false })).dmcResume n
    else s)

/-- A write of a set-point's register: discarded for the active one, for the one that a running switch makes active (DESIGN CHOICE,
log entry 39), and for a rate above the grade (R3). The flag says whether it was taken. -/
def State.fspRateWrite (s : State) (n k v : Nat) : Bool × State :=
  if s.rateOver (bits v 0 4) then (false, s)
  else if s.mckGated n then (true, s.holdDmc n (0x0C + 4 * k) v)
  else if k = s.rd (F.DMC_STAT.FSP_ACT n) ∨ ((s.dmc n).switching ∧ k = (s.dmc n).target) then (false, s)
  else (true, (s.wr (F.DMC_FSP.RATE n k) (bits v 0 4)).clr (F.DMC_FSP.VALID n k))

/-- FSP_RATE_WRITE (R255). -/
def execFspRateWrite (r : Req) (n : Fin 8) (k : Fin 3) (rate : Fin 16) (s : State) : Out :=
  .next (if s.mayWrite r .dmc (some (n / 4)) then (s.fspRateWrite n k rate).2 else s)

/-! ## Retraining (R248–R250) -/

/-- The oscillator is read: a drift above THRESH starts a pass while periodic retraining is enabled. -/
def State.oscCheck (s : State) (n drift : Nat) : State :=
  let s := s.wr (F.DMC_TRAIN.DRIFT n) drift
  let mag := if drift ≥ 128 then 256 - drift else drift
  if s.on (F.DMC_CTL.RETR_EN n) ∧ mag > s.eff (F.DMC_RETR.THRESH n) ∧ (s.dmc n).stepsLeft = 0 then
    ((s.count (F.DMC_TRAIN.PASSES n)).clr (F.DMC_TRAIN.STEP n)).updDmc n (fun d => { d with stepsLeft := 8 })
  else s

/-- OSC_CHECK (R248): drift as a signed byte. -/
def execOscCheck (n : Fin 8) (drift : Byte) (s : State) : Out :=
  .next (if s.on (F.DMC_CTL.RETR_EN n) ∧ s.rd (F.DMC_STAT.STATE n) = 2 ∧ !(s.dmc n).entering then s.oscCheck n drift.toNat else s)

/-- RETRAIN_STEP (R248): GAP µs of traffic have passed. -/
def execRetrainStep (n : Fin 8) (s : State) : Out :=
  .next (if (s.dmc n).stepsLeft ≠ 0 ∧ s.rd (F.DMC_STAT.STATE n) = 2 ∧ !(s.dmc n).entering then
      (s.updDmc n (fun d => { d with inStep := true })).wr (F.DMC_STAT.STATE n) 3
    else s)

/-- RETRAIN_STEP_DONE (R248–R250): a step's results are applied; `last`: the pass needs no further step; ok = false: no working
setting was found, and the interface is marked DEGRADED. -/
def execRetrainStepDone (n : Fin 8) (ok last : Bool) (s : State) : Out :=
  .next (if !(s.dmc n).inStep then s
    else if ok then
      let d := s.dmc n
      let s := s.count (F.DMC_TRAIN.STEP n)
      let dropped := d.deferred || d.srAfter
      let ended := dropped || last || decide (d.stepsLeft ≤ 1)
      let s := if ended then s.wr (F.DMC_TRAIN.RESULT n) (if dropped then 2 else 0) else s
      (s.updDmc n (fun d => { d with inStep := false, stepsLeft := if ended then 0 else d.stepsLeft - 1 })).dmcResume n
    else
      let s := ((s.wr (F.DMC_TRAIN.RESULT n) 3).setOn (F.DMC_ERR.RETR_FAIL n)).wr (F.DMC_STAT.STATE n) 6
      s.updDmc n (fun d => { d with inStep := false, stepsLeft := 0, noSet := true }))

/-! ## Removal (R250, R251) -/

/-- A job at work is put back to be dispatched again (R222, R250, R424): its engines stop, what they staged is discarded, and
the completion will carry RERUN. -/
def State.requeue (s : State) (c : Nat) : State :=
  let slots := s.jobSlots c
  let s := s.stopJob c
  let s := s.each slots (fun s n =>
    ((s.each (s.eng n).vecs (fun s v => s.freeVec n v)).sumpGive n (s.eng n).sump.length).freeSlot n)
  let s := s.each (List.range 8) (fun s b =>
    let gone := ((s.bay b).buf.filter (fun e => e.ctx = c)).length
    (s.fpGive b gone).updBay b (fun x => { x with
      buf := x.buf.filter (fun e => e.ctx ≠ c), queue := x.queue.filter (fun e => e.ctx ≠ c) }))
  (s.dropStarts c).updFront c (fun j => { j.flag 0 with
    phase := .queued, redisp := j.redisp + 1, restart := false, calStat := [], caps := [], fails := 0, portUsed := false })

/-- A running job that referenced the half's DRAM runs again if it may, and otherwise loses it (R250). -/
def State.dramLost (s : State) (h : Nat) : State :=
  s.each (List.range 64) (fun s c =>
    match s.front c with
    | some j =>
      if (j.phase = .dispatched ∨ j.phase = .running ∨ j.phase = .stopping) ∧ jobRefsDram j.desc h ∧ !j.settled then
        if dRerun j.desc then s.requeue c
        else if dType j.desc = 2 ∧ j.phase = .running then (s.failFront c 0x12 0x20B).stopJob c
        else if j.phase = .stopping then s.failFront c 0x12 0x20B
        else s.finishFront c 0x12 0x20B
      else s
    | none => s)

/-- A request that waited at an interface that has left finds its place anew. -/
def State.reArrive (s : State) (h : Nat) (o : DramOp) : State :=
  if o.line + 64 ≤ s.usable h then s.dramArrive h o
  else
    let s := s.dramAddrErr h o.line
    if o.kind = 0 then s.dramAnswer (s.dramIf h o.line) o 0x04 else s

/-- The interface takes no more requests: its write queue drains, its reads end in an error, what it was to do is dropped. -/
def State.flushDmc (s : State) (n : Nat) (bad : List Nat) : State :=
  let s := s.drainAll n bad
  let d := s.dmc n
  let s := s.updDmc n (fun d => { d with
    q := [], issued := [], held := [], drain := 0, noSet := false, deferred := false, srAfter := false, switching := false,
    entering := false, wake := false, exiting := false, enterReq := false, inStep := false, stepsLeft := 0 })
  let s := (s.clr (F.DMC_FSP_CTL.REQ n)).clr (F.DMC_SR.ENTER n)
  s.each (d.q ++ d.issued) (fun s o => s.readReturn n o .bad)

/-- The half's DRAM is out of service (R234, R251). -/
def State.dramOut (s : State) (h : Nat) : State :=
  let waiting := (List.range 4).flatMap (fun k => (s.dmc (4 * h + k)).held)
  let s := s.each (List.range 4) (fun s k => (s.flushDmc (4 * h + k) []).clr (F.DMC_STAT.IN_INTLV (4 * h + k)))
  let s := { s with dram := s.dram.filter (fun c => c.1 / 2 ^ 40 ≠ h), poison := s.poison.filter (fun c => c.1 / 2 ^ 40 ≠ h) }
  let s := ((s.wr (F.DMC_HALF.NIF h) 0).clr (F.DMC_USABLE.USABLE h)).postRes 6 h 0
  s.each waiting (fun s o => s.reArrive h o)

/-- An interface leaves its half's interleave (R250): the fold, or, on a second removal, the half runs without DRAM. `bad`: the
pending writes whose reads find an uncorrectable error as they drain. -/
def State.dramRemove (s : State) (n : Nat) (bad : List Nat) : State :=
  let h := n / 4
  let held := (s.dmc n).held
  let s := (s.markFenced (136 + n) 5).flushDmc n bad
  let s := ((s.clr (F.DMC_STAT.IN_INTLV n)).wr (F.DMC_STAT.STATE n) 6).wr (F.NOC_NI_STAT.STATE h (44 + n % 4)) 2
  let s := if s.rd (F.DMC_HALF.NIF h) = 4 then
      let top := s.fullU h * 3 / 4
      let lost := fun (k : Nat) => decide (k / 2 ^ 40 = h) &&
        (decide (k % 2 ^ 40 ≥ top) || decide (k % 2 ^ 40 / 256 % 4 = n % 4))
      let s := { s with
        dram := s.dram.filter (fun c => !lost c.1),
        poison := s.poison.filter (fun c => !lost c.1),
        restoring := Table.set false s.restoring h true }
      let s := (s.wr (F.DMC_HALF.NIF h) 3).wr (F.DMC_HALF.DEAD h) (n % 4)
      (s.wr (F.DMC_USABLE.USABLE h) top).postRes 5 n top
    else s.dramOut h
  let s := s.each held (fun s o => s.reArrive h o)
  (s.dramLost h).updDegraded

/-- DRAM_REMOVAL (R250, R251, R433): the first removal folds the interleave; the second takes the half's DRAM out of service.
`bad`: the pending writes whose reads find an uncorrectable error as the write queue drains. -/
def execDramRemoval (n : Fin 8) (bad : List Nat) (s : State) : Out :=
  .next (if !(s.dmc n).noSet ∨ !s.on (F.DMC_STAT.IN_INTLV n) then s else s.dramRemove n bad)

/-- The lines of the retained image of half h that a fold moved are poisoned no more, as they have been written (R239), but for those
that the other half cannot read. -/
def State.imageWritten (s : State) (h : Nat) : Table Bool :=
  let base := dramKey h 0
  s.poison.filter (fun c => decide (c.1 < base)) ++
    (List.range 0x200000).filterMap (fun l =>
      if s.foldMoved h (64 * l) then (if s.poisoned (1 - h) (64 * l) then none else some (base + 64 * l, false))
      else if Table.get false s.poison (base + 64 * l) then some (base + 64 * l, true) else none) ++
    s.poison.filter (fun c => decide (base + 0x8000000 ≤ c.1))

/-- A byte of half h's retained image that a fold moved. -/
def State.movedImage (s : State) (h k : Nat) : Bool :=
  decide (dramKey h 0 ≤ k) && decide (k < dramKey h 0 + 0x8000000) && s.foldMoved h (k - dramKey h 0)

/-- RESERVED_AREA_RESTORE (R237): the moved granules of the retained image are rewritten from the other half's image while that
half's DRAM serves (and stay poisoned otherwise); the trace unit restarts as under CLR. The supervisor's writes to its own area
are requests of its own (DRAM_WRITE_REQ). The restoration then has ended. -/
def execReservedAreaRestore (h : Fin 2) (s : State) : Out :=
  .next (if s.rd (F.DMC_HALF.NIF h) ≠ 3 ∨ !Table.get false s.restoring h then s
    else
      let o := 1 - h.val
      let s := if s.rd (F.DMC_HALF.NIF o) ≠ 0 then
          let image := s.dram.filter (fun c => s.movedImage h (c.1 - dramKey o 0 + dramKey h 0) && decide (dramKey o 0 ≤ c.1) &&
            decide (c.1 < dramKey o 0 + 0x8000000))
          let s := { s with poison := s.imageWritten h, dram := s.dram.filter (fun c => !s.movedImage h c.1) }
          s.each image (fun s c => { s with dram := Memory.write s.dram (c.1 - dramKey o 0 + dramKey h 0) c.2 })
        else s
      { s with restoring := Table.set false s.restoring h false }.traceClear h)

/-! ## Self-refresh (R252–R254) -/

/-- May the interface enter self-refresh now? -/
def State.srMay (s : State) (n : Nat) : Bool :=
  s.rd (F.DMC_STAT.STATE n) == 2 && !(s.dmc n).entering && !s.dramReferenced (n / 4)

/-- SELF_REFRESH_ENTRY (R252): IDLE × 10 µs have passed without a request (AUTO), or an entry was requested; its reads have returned.
The write queue drains, and the entry ends with its last write. -/
def execSelfRefreshEntry (n : Fin 8) (s : State) : Out :=
  .next (if (s.on (F.DMC_SR.AUTO n) ∨ (s.dmc n).enterReq) ∧ s.srMay n ∧ (s.dmc n).reads = 0 ∧ (s.dmc n).issued.isEmpty then
      (s.dropPass n 2).srEnter n
    else s)

/-- A write of ENTER (R249, R252, R254): deferred to the end of a retraining step or a switch; held while MCK_n is gated. -/
def State.srRequest (s : State) (n : Nat) : State :=
  if s.mckGated n then s.holdDmc n 0x21 0
  else if s.rd (F.DMC_STAT.STATE n) = 3 ∨ s.rd (F.DMC_STAT.STATE n) = 4 then
    (s.setOn (F.DMC_SR.ENTER n)).updDmc n (fun d => { d with srAfter := true, enterReq := true })
  else (s.setOn (F.DMC_SR.ENTER n)).updDmc n (fun d => { d with enterReq := true })

/-- SR_ENTER (R252). -/
def execSrEnter (r : Req) (n : Fin 8) (s : State) : Out :=
  .next (if s.mayWrite r .dmc (some (n / 4)) then s.srRequest n else s)

/-- SR_EXIT (R253): an exit starts, unless an entry or a loss of REFCLK holds the interface: then it follows. -/
def execSrExit (r : Req) (n : Fin 8) (s : State) : Out :=
  .next (if s.mayWrite r .dmc (some (n / 4)) then s.wakeDram n else s)

/-- A write at offset o of interface n (R247–R255), a rate within the grade: held while MCK_n is gated, but for EXIT, which starts the
exit (R254). The flag says whether it was taken. -/
def State.dmcPut (s : State) (n o v : Nat) : Bool × State :=
  if o = 0x20 then
    let s := if bit v 1 then s.wakeDram n else s
    if s.mckGated n then (true, s.holdDmc n o (v - bits v 1 1 * 2))
    else
      let s := (s.wr (F.DMC_SR.IDLE n) (bits v 8 8)).wr (F.DMC_SR.AUTO n) (bits v 0 1)
      (true, if bit v 2 then s.srRequest n else s)
  else if s.mckGated n then (true, s.holdDmc n o v)
  else if o = 0x18 then (true, s.fspCtlWrite n v)
  else if 0x0C ≤ o ∧ o < 0x18 then s.fspRateWrite n ((o - 0x0C) / 4) v
  else if o = 0x24 then
    let t := (s.wr (F.DMC_SCHED.WR_LO n) (bits v 8 6)).wr (F.DMC_SCHED.WR_HI n) (bits v 0 6)
    if t.eff (F.DMC_SCHED.WR_LO n) ≥ t.eff (F.DMC_SCHED.WR_HI n) then (false, s) else (true, t)
  else (true, s.storeWord (dmcOff n o) v)

/-- A write that was held takes effect at the exit (R254); 0x21 stands for ENTER alone. -/
def State.heldDmc (s : State) (n : Nat) (e : Nat × Nat) : State :=
  if e.1 = 0x21 then s.srRequest n else (s.dmcPut n e.1 e.2).2

/-- The exit ends (R253, R254): MCK_n runs; the oscillator is checked, held writes take effect, a switch that waited begins, held
requests enter. -/
def State.srLeave (s : State) (n drift : Nat) : State :=
  let held := (s.dmc n).heldWr
  let s := (s.updDmc n (fun d => { d with exiting := false, wake := false, heldWr := [] })).clr (F.DMC_SR.EXIT n)
  let s := ((s.wr (F.DMC_STAT.STATE n) 2).setOn (F.DMC_STAT.MCK_LOCK n)).oscCheck n drift
  let s := s.each held (fun s e => s.heldDmc n e)
  let s := if (s.dmc n).deferred ∧ s.rd (F.DMC_STAT.STATE n) = 2 then s.fspStart n else s
  s.letIn n

/-- SR_EXIT_DONE (R253, R254). -/
def execSrExitDone (n : Fin 8) (drift : Byte) (s : State) : Out :=
  .next (if s.mckGated n ∧ (s.dmc n).exiting ∧ !(s.dmc n).refHold then s.srLeave n drift.toNat else s)

/-- An access that enters and returns within one command runs through the exit that it starts (R253); its drift is free. -/
def State.srNow (s : State) (n : Nat) : State :=
  let s := s.wakeDram n
  if s.mckGated n ∧ (s.dmc n).exiting ∧ !(s.dmc n).refHold then
    let q := s.free 8
    q.2.srLeave n q.1
  else s

/-! ## The DRAM window (R256) -/

/-- The half address of byte `off` of the half's window. -/
def State.windowAddr (s : State) (h off : Nat) : Nat := s.rd (F.DMC_WIN.BASE h) * 2 ^ 20 + off

/-- A read of the window: len bytes that do not cross an 8-byte boundary (any other access is discarded), answered when its line
returns (R239, R242), at once beyond the usable size and in the reserved area (R235, R237). -/
def State.winRead (s : State) (r : Req) (h off len : Nat) : State :=
  if len = 0 ∨ off % 8 + len > 8 then s
  else
    let a := s.windowAddr h off
    if a < s.usable h ∧ dramReserved a then s.setBus r 0
    else s.dramReadReq h (a / 64 * 64) ((2 ^ len - 1) * 2 ^ (a % 64)) 0 true (some (reqCode r, a % 64, len))

/-- A read of four bytes at half address a that enters and returns within one command; what the line shows is free. -/
def State.winNowAt (s : State) (h a : Nat) : Nat × State :=
  if a < s.usable h ∧ dramReserved a then (0, s)
  else
    let q := (s.srNow (s.dramIf h a)).freeEcc
    let r := q.2.dramNow h (a / 64 * 64) (15 * 2 ^ (a % 64)) q.1
    match r.1 with
    | some v => (v / 256 ^ (a % 64) % 2 ^ 32, r.2)
    | none => (0xFFFFFFFF, r.2.setOn (F.NOC_ERR.HOST_ERR h))

/-- The same at an offset of the window. -/
def State.winNow (s : State) (h off : Nat) : Nat × State := s.winNowAt h (s.windowAddr h off)

/-- A write of the window. -/
def State.winWrite (s : State) (h off len v : Nat) : State :=
  if len = 0 ∨ off % 8 + len > 8 then s
  else
    let a := s.windowAddr h off
    if a ≥ s.usable h then (s.dramAddrErr h a).setOn (F.NOC_ERR.HOST_ERR h)
    else s.dramWriteReq h (a / 64 * 64) ((2 ^ len - 1) * 2 ^ (a % 64)) (v % 256 ^ len * 256 ^ (a % 64)) [] false

/-- DRAM_WINDOW_READ (R235, R237, R239, R256). -/
def execDramWindowRead (r : Req) (h : Fin 2) (off : Fin 0x100000) (len : Fin 9) (s : State) : Out :=
  .next (if s.mayRead r 0x1600000 then s.winRead r h off len else s)

/-- DRAM_WINDOW_WRITE (R235, R237, R242, R256). -/
def execDramWindowWrite (r : Req) (h : Fin 2) (off : Fin 0x100000) (len : Fin 9) (v : Word64) (s : State) : Out :=
  .next (if s.mayWrite r .dmc (some h) then s.winWrite h off len v.toNat else s)

/-- DRAM_INIT_SWEEP (R453): the controller writes zeros with valid check bytes ahead of its front. A line that the front has not
reached reads as zero already, so that nothing a reader can see changes. -/
def execDramInitSweep (_n : Fin 8) (s : State) : Out := .next s

end Sys2Proof.Machine
end

