-- ==== Sys2Proof/Machine/Flags.lean ====
section
/-! DEFINITION. The flags that data give: levels, results and masks of a compare (R202–R207, R212). -/

namespace Sys2Proof.Machine

/-- What a channel's pins showed at one position: H and L as they are at the balls. -/
abbrev Sample := Bool × Bool

/-- The level of a sample with the H and L pairs inverted where CHN_CFG.INV says so (R167, R202). -/
def sampleLevel (invH invL : Bool) (p : Sample) : Nat := levelOf (p.1 != invH) (p.2 != invL)

/-- The FAIL bit of position k: its expect, its level, and whether the level held for a whole window (R203, R206). -/
def failAt (expect level : Nat) (held : Bool) : Bool := expectFails expect level || !held

/-- The longest run of a wrong level over rising instants, and whether there is one at all (R206); `run` is the run so far. -/
def longestWrong (wrong : Nat → Bool) : List Nat → Nat → Nat × Bool
  | [], run => (run, false)
  | [p], run => (run, wrong p)
  | p :: q :: t, run =>
    let next := if wrong p then run + (q - p) else 0
    let r := longestWrong wrong (q :: t) next
    (max run r.1, wrong p || r.2)

/-- Put an instant among rising ones. -/
def insertNat (x : Nat) : List Nat → List Nat
  | [] => [x]
  | y :: t => if x ≤ y then x :: y :: t else y :: insertNat x t

/-- A 16-bit mask from a test of each position. -/
def maskOf (n : Nat) (f : Nat → Bool) : Nat := ((List.range n).map (fun k => if f k then 2 ^ k else 0)).foldl (· + ·) 0

/-- The LEVELS field of a capture record (R212): position k in bits [2k + 1 : 2k]; captured positions only. -/
def levelsField (n : Nat) (valid : Nat → Bool) (level : Nat → Nat) : Nat :=
  ((List.range n).map (fun k => if valid k then level k * 4 ^ k else 0)).foldl (· + ·) 0

end Sys2Proof.Machine
end

