-- ==== Sys2Proof/Machine/Compare.lean ====
section
/-! DEFINITION. Compare results, fail processors and coalescing caches (R202–R232), and the end of a PATTERN job. -/

namespace Sys2Proof.Machine

/-! ## A channel's result for one vector (R203–R207) -/

/-- The vector of slot n with a given cycle. -/
def State.vecOf (s : State) (n cyc : Nat) : Option Vec := (s.eng n).vecs.find? (fun v => v.cyc = cyc)

def State.updVec (s : State) (n cyc : Nat) (f : Vec → Vec) : State :=
  s.updEng n (fun e => { e with vecs := e.vecs.map (fun v => if v.cyc = cyc then f v else v) })

/-- A result that is discarded: the channel is fenced or out of its rate, changes mode, is in loopback or under calibration (R207),
or ignores its inputs as the device is not in service (R170). -/
def State.resultOut (s : State) (c : Nat) : Bool := s.chanQuiet c || s.on (F.CHN_CFG.LPBK c) || s.calAtWork c

/-- H and L at the ball of a channel over the time that a result looks at. -/
structure Balls where
  h : Wave
  l : Wave
  deriving DecidableEq, Repr

/-- The level of channel c at an instant (R167, R202). -/
def State.levelAt (s : State) (c : Nat) (w : Balls) (t : Nat) : Nat :=
  let inv := s.rd (F.CHN_CFG.INV c)
  sampleLevel (bit inv 2) (bit inv 3) (waveLevel w.h t, waveLevel w.l t)

/-- The level at position k of vector v (R174, R180, R182, R189); none without a strobe edge. -/
def State.posLevel (s : State) (c : Nat) (v : Vec) (w : Balls) (k : Nat) : Option Nat :=
  match s.instant c (eTset v.entry) (v.clk + 4) k with
  | .at t => some (s.levelAt c w t)
  | _ => none

/-- A position of vector v whose strobe edge may still come. -/
def State.posOpen (s : State) (c : Nat) (v : Vec) (k : Nat) : Bool := s.instant c (eTset v.entry) (v.clk + 4) k == .later

/-- The compare is over a window (R205). -/
def State.isWindow (s : State) (c : Nat) (v : Vec) : Bool := !s.serial c && bits (s.tsetEff c (eTset v.entry) 6) 4 2 == 2

/-- The instants of a window at which its level may change, from C0 to C1 (R206). -/
def State.windowPts (s : State) (c : Nat) (v : Vec) (w : Balls) : List Nat :=
  let a := s.strobeAt c (eTset v.entry) (v.clk + 4) 4
  let b := s.strobeAt c (eTset v.entry) (v.clk + 4) 5
  a :: (((w.h.at_ ++ w.l.at_).filter (fun t => decide (a < t) && decide (t < b))).foldl (fun l t => insertNat t l) []) ++ [b]

/-- Does a window fail its expect (R206)? An excursion of 40 ps or longer fails it; whether a shorter one does is a free value. -/
def State.windowFails (s : State) (c : Nat) (v : Vec) (w : Balls) (ex : Nat) : Bool × State :=
  let r := longestWrong (fun t => expectFails ex (s.levelAt c w t)) (s.windowPts c v w) 0
  if !r.2 then (false, s)
  else if 320 * s.chFw c ≤ r.1 then (true, s)
  else
    let q := s.free 1
    (q.1 == 1, q.2)

/-- The result of channel c for vector v of slot n (R203–R207): FAIL, and whether an INVALID level was compared. A missing edge is
a fail (R190). -/
def State.compareMask (s : State) (n c : Nat) (v : Vec) (w : Balls) : (Nat × Bool) × State :=
  let role := s.chanRole n (eFset v.entry) c
  let k := s.positions c (eTset v.entry)
  let data := s.chanData n c v
  let expect := fun (i : Nat) => if role = 4 then 2 else if bit data i then 1 else 0
  if s.isWindow c v then
    let r := s.windowFails c v w (expect 0)
    ((b2n r.1, (s.windowPts c v w).any (fun t => s.levelAt c w t == 3)), r.2)
  else
    ((maskOf k (fun i => match s.posLevel c v w i with | some l => expectFails (expect i) l | none => true),
      (List.range k).any (fun i => s.posLevel c v w i == some 3)), s)

/-- The capture record of channel c (R212). -/
def State.captureRecord (s : State) (c : Nat) (v : Vec) (w : Balls) : Nat :=
  let k := s.positions c (eTset v.entry)
  let valid := fun (i : Nat) => (s.posLevel c v w i).isSome
  let lv := levelsField k valid (fun i => (s.posLevel c v w i).getD 0)
  v.cyc + 2 ^ 64 * v.x + 2 ^ 88 * v.y + 2 ^ 112 * c + 2 ^ 120 * (s.selLe c).getD 0 + 2 ^ 128 * lv +
    2 ^ 160 * maskOf k valid + 2 ^ 176 * s.siteOf c

/-! ## Counters, first fail, the fail count (R209–R211) -/

/-- FCNT and first fail of channel c take a confirmed failing result. -/
def State.countChan (s : State) (v : Vec) (f : ChFail) : State :=
  let c := f.ch
  let total := s.rd (F.FPU_FCNT.FCNT c) + popCount 16 f.mask
  let s := if total ≥ 2 ^ 48 then (s.wr (F.FPU_FCNT.FCNT c) (2 ^ 48 - 1)).setOn (F.FPU_FF_INFO.SAT c)
    else s.wr (F.FPU_FCNT.FCNT c) total
  let s := if f.inv then s.setOn (F.FPU_FF_INFO.LEVEL_INV c) else s
  if s.on (F.FPU_FF_INFO.VALID c) ∧ s.rd (F.FPU_FF_CYC.CYCLE c) ≤ v.cyc then s
  else
    let s := ((s.setOn (F.FPU_FF_INFO.VALID c)).wr (F.FPU_FF_CYC.CYCLE c) v.cyc).wr (F.FPU_FF_XY.X c) v.x
    let s := (s.wr (F.FPU_FF_XY.Y c) v.y).wr (F.FPU_FF_INFO.LE c) ((s.selLe c).getD 0)
    (s.wr (F.FPU_FF_INFO.SITE c) f.site).wr (F.FPU_FF_INFO.UIMASK c) f.mask

def State.countChans (s : State) (v : Vec) (fs : List ChFail) : State := s.each fs (fun s f => s.countChan v f)

/-- A confirmed failing vector of slot n (R94, R103, R211, R479): it counts once; FAIL_STICKY is set unless a CLRF lies after
the vector, and cause FAILHALT is raised when the gang's FAIL_STICKY changes to true. -/
def State.noteFail (s : State) (n : Nat) (v : Vec) : State :=
  let s := if v.failed then s else
    let s := s.updVec n v.cyc (fun v => { v with failed := true })
    match (s.eng n).ctx with
    | some c =>
      (s.updJobEng c (s.leOf n) (fun g => { g with fails := g.fails + 1 })).updFront c (fun j => { j with fails := j.fails + 1 })
    | none => s
  if v.clk < (s.eng n).clrf ∨ (s.eng n).sticky then s
  else
    let l := s.leaderOf n
    let was := s.gangSticky l
    let s := s.updEng n (fun e => { e with sticky := true })
    if was then s else s.raiseGang n 2

/-- FAIL comparators of each failing site (R479). -/
def State.noteSites (s : State) (n : Nat) (v : Vec) (fs : List ChFail) : State :=
  s.each ((List.range 16).filter (fun t => fs.any (fun f => f.site = t))) (fun s t => s.onFail n t v)

/-! ## Entries of the fail processor (R213, R220, R221) -/

/-- The entries a failing vector makes in one bay. -/
def failEntries (g : CapCfg) (ctx le slot : Nat) (v : Vec) (fs : List ChFail) (prov : Bool) : List FailEnt :=
  let mk := fun (site : Nat) (chs : List (Nat × Nat)) =>
    (⟨ctx, le, slot, false, site, chs, v.x, v.y, v.xs, v.pc, v.cyc, prov⟩ : FailEnt)
  if g.mode = 2 ∧ g.gran = 1 then fs.map (fun f => mk f.site [(f.ch, f.mask)])
  else if g.mode = 1 ∨ g.mode = 2 then
    ((List.range 16).filter (fun t => fs.any (fun f => f.site = t))).map (fun t =>
      mk t ((fs.filter (fun f => f.site = t)).map (fun f => (f.ch, f.mask))))
  else []

/-- The slot's own drop registers follow only while no other job runs there. -/
def State.slotRegs (s : State) (c n : Nat) : Bool := match (s.eng n).ctx with | some d => d == c | none => true

/-- k entries of the engine are dropped: counted, DROPPED, OVERFLOW (bit 1 of FLAGS). -/
def State.dropEntries (s : State) (c le n k : Nat) : State :=
  if k = 0 then s
  else
    let s := if s.slotRegs c n then (s.count (F.FPU_CAP_DROP.DROP n) k).setOn (F.FPU_CAP_STAT.DROPPED n) else s
    (s.updJobEng c le (fun g => { g with dropped := min (2 ^ 32 - 1) (g.dropped + k), dropBefore := true })).updFront c
      (fun j => j.flag 1)

/-- An entry enters the bay's buffer: with its reservation, or, under COUNT, if the buffer has room. -/
def State.putEntry (s : State) (b : Nat) (e : FailEnt) (reserved : Bool) : State :=
  if reserved then s.updBay b (fun x => { x with buf := x.buf ++ [e] })
  else if s.rd (F.FPU_FP_STAT.USED b) ≥ 16384 then s.dropEntries e.ctx e.le e.slot 1
  else (s.fpTake b 1).updBay b (fun x => { x with buf := x.buf ++ [e] })

/-- The reservation key of an entry (R220). -/
def entKey (g : CapCfg) (e : FailEnt) : Nat :=
  if e.isCap then 512 + (e.chs.headD (0, 0)).1
  else if g.mode = 2 ∧ g.gran = 1 then 16 + (e.chs.headD (0, 0)).1 else e.site

/-- A RECORD word (R224). -/
def State.recordWord (s : State) (v : Vec) (site : Nat) (fs : List ChFail) (tag : Option Nat) : Nat :=
  let chmask := (fs.map (fun f => 2 ^ (f.ch % 32))).foldl (· ||| ·) 0
  let ui := (fs.map (·.mask)).foldl (· ||| ·) 0
  let le := (fs.head?.bind (fun f => s.selLe f.ch)).getD 0
  b2n tag.isSome + 2 * tag.getD 0 + 2 ^ 7 * le + 2 ^ 14 * site + 2 ^ 18 * v.y + 2 ^ 42 * v.x + 2 ^ 66 * ui + 2 ^ 82 * chmask +
    2 ^ 114 * (v.cyc % 2 ^ 14)

/-- The RECORD words of some failing results of one bay, one for each site. -/
def State.records (s : State) (n b : Nat) (v : Vec) (fs : List ChFail) (tag : Option Nat) : State :=
  s.each ((List.range 16).filter (fun t => fs.any (fun f => f.site = t))) (fun s t =>
    let gs := fs.filter (fun f => f.site = t)
    s.streamRecord b n (s.recordWord v t gs tag) tag)

/-- Confirmed failing results of one vector in one bay: counters, fail count, comparators, stream, entries. -/
def State.confirmed (s : State) (n b : Nat) (v : Vec) (fs : List ChFail) (reserved : Bool) : State :=
  if fs.isEmpty then s
  else
    let s := (s.countChans v fs).noteFail n v
    let s := (s.noteSites n v fs).records n b v fs none
    match (s.eng n).ctx, s.jobEngOf n with
    | some c, some g =>
      s.each (failEntries g.cap c g.le n v fs false) (fun s e => s.putEntry b e reserved)
    | _, _ => s

/-- Free the reservations of a vector in bay b whose key `gone` names. -/
def State.freeKeys (s : State) (n b : Nat) (v : Vec) (gone : Nat → Bool) : State :=
  let k := (v.fres.filter (fun r => r.1 = b && gone r.2)).length
  (s.fpGive b k).updVec n v.cyc (fun v => { v with fres := v.fres.filter (fun r => !(r.1 = b && gone r.2)) })

/-- All results of a provisional vector (or one confirmed since) are in for bay b. -/
def State.sumpDone (s : State) (n b : Nat) (v : Vec) : State :=
  let fs := v.fails.filter (fun f => bayOfChan f.ch = b)
  let s := s.updVec n v.cyc (fun v => { v with
    sump := v.sump.filter (· ≠ b), fails := v.fails.filter (fun f => bayOfChan f.ch ≠ b) })
  if fs.isEmpty then s.sumpGive n 1
  else
    let put := fun (s : State) (conf prov : Bool) (tag : Nat) =>
      s.updEng n (fun e => { e with sump := e.sump ++ [(⟨b, v.cyc, v.clk, v.pc, v.x, v.y, v.xs, tag, conf, prov, fs⟩ : SumpRec)] })
    match v.tag with
    | some t => put (s.records n b v fs (some t)) false true t
    | none =>
      let s := (s.countChans v fs).noteFail n v
      let s := (s.noteSites n v fs).records n b v fs none
      put s true false 0

/-- All results of a confirmed vector are in for one site of bay b. -/
def State.siteDone (s : State) (n b t : Nat) (v : Vec) : State :=
  let mine := fun (f : ChFail) => decide (bayOfChan f.ch = b) && decide (f.site = t)
  let fs := v.fails.filter mine
  let used := match s.jobEngOf n with
    | some g => (failEntries g.cap 0 g.le n v fs false).map (entKey g.cap)
    | none => []
  let res := match s.jobEngOf n with | some g => g.cap.ovf == 0 | none => false
  let s := s.updVec n v.cyc (fun v => { v with fails := v.fails.filter (fun f => !mine f) })
  let s := s.confirmed n b v fs res
  -- the site's own reservation is an entry's now, or free
  let s := s.freeKeys n b v (fun k => decide (k = t) && !used.contains k)
  s.updVec n v.cyc (fun v => { v with fres := v.fres.filter (fun r => !(r.1 = b && used.contains r.2)) })

/-- Every result of a vector has returned: the records reserved for bays without a compare are free (R156). -/
def State.sumpRest (s : State) (n cyc : Nat) : State :=
  match s.vecOf n cyc with
  | some v => if v.wait.isEmpty then (s.sumpGive n v.sump.length).updVec n cyc (fun v => { v with sump := [] }) else s
  | none => s

/-- The result of channel c arrives: (FAIL, INVALID), or none when it is discarded or captured (R207, R208). -/
def State.arrive (s : State) (n c : Nat) (v : Vec) (r : Option (Nat × Bool)) : State :=
  let b := bayOfChan c
  let t := s.siteOf c
  let s := s.updVec n v.cyc (fun v => { v with wait := v.wait.filter (· ≠ c) })
  let s := match r with
    | some q =>
      if s.on (F.VSW_SEL.MATCH (selH c) (selC c)) ∧ s.selPort c = none then
        s.updVec n v.cyc (fun v => { v with res := v.res ++ [(t, decide (q.1 ≠ 0))] })
      else s
    | none => s
  if s.matchOnly n (eFset v.entry) then s
  else
    let s := match r with
      | some q => if q.1 = 0 then s.freeKeys n b v (fun k => decide (k = 16 + c)) else
          s.updVec n v.cyc (fun v => { v with fails := v.fails ++ [ChFail.mk c q.1 t q.2] })
      | none => s.freeKeys n b v (fun k => decide (k = 16 + c))
    match s.vecOf n v.cyc with
    | none => s
    | some v =>
      if v.sump.contains b then
        if v.wait.any (fun d => bayOfChan d = b) then s else (s.sumpDone n b v).sumpRest n v.cyc
      else if v.wait.any (fun d => bayOfChan d = b && s.siteOf d = t) then s
      else s.siteDone n b t v

/-- A capture record goes to the fail processor of channel c's bay, with the entry reserved for it (R212, R220). -/
def State.putCapture (s : State) (n c : Nat) (v : Vec) (w : Balls) : State :=
  match (s.eng n).ctx, s.jobEngOf n with
  | some ctx, some g =>
    let e : FailEnt := ⟨ctx, g.le, n, true, s.siteOf c, [(c, s.captureRecord c v w)], v.x, v.y, v.xs, v.pc, v.cyc, false⟩
    let s := s.putEntry (bayOfChan c) e (g.cap.ovf == 0)
    s.updVec n v.cyc (fun v => { v with fres := v.fres.filter (fun r => !(r.1 = bayOfChan c && r.2 = 512 + c)) })
  | _, _ => s

/-- The strobe of channel c's group as far as it has come. -/
def State.noteStrobe (s : State) (c : Nat) (w : Wave) : State :=
  match s.ssgOf c with
  | some g => s.noteEdges (bayOfChan c) g w
  | none => s

/-- COMPARE_RESULT (R202–R208, R212): channel c's result for the vector of cycle `cyc` of slot n: H and L at its ball, and H of its
strobe group's source, from the instants of T_ref on (R173). The vector has left S; a position whose strobe edge may still
come leaves only its edges noted. -/
def execCompareResult (n : Fin 104) (cyc : Nat) (c : Fin 256) (hi lo strobe : Wave) (s : State) : Out :=
  .next (match s.vecOf n cyc with
    | none => s
    | some v =>
      let s := s.waitOut (s.leaderOf n) v.clk
      if !v.wait.contains c.val ∨ !leftS v.clk (s.now n) then s
      else
        let s := s.noteStrobe c strobe
        if s.resultOut c then (s.freeKeys n (bayOfChan c) v (fun k => decide (k = 512 + c.val))).arrive n c v none
        else if (List.range (s.positions c (eTset v.entry))).any (s.posOpen c v) then s
        else if eCapt v.entry then (s.putCapture n c v ⟨hi, lo⟩).arrive n c v none
        else
          let r := s.compareMask n c v ⟨hi, lo⟩
          r.2.arrive n c v (some r.1))

/-- The members of a group that compare in a UI of the burst without an edge. -/
def BurstGot.losers (p : SsgPar) (q : BurstGot) : List Nat :=
  ((q.burst.cmps.filter (fun e => decide (q.got.length < (e.2 + 1 - q.burst.first) * p.uic))).map (·.1)).eraseDups

/-- SSG_EDGE_TIMEOUT (R190): a deadline of strobe group g of bay b closes its oldest open burst: the UIs without an edge by then fail
on the members that compare in them. `strobe`: H of the source as far as it has come. -/
def execSsgEdgeTimeout (b : Fin 8) (g : Fin 4) (strobe : Wave) (s : State) : Out :=
  .next (if !s.on (F.CHN_SSG_CFG.EN b g) then s
    else
      let s := s.noteEdges b g strobe
      let p := s.ssgPar b g
      match (s.ssgRun b g).1.find? (fun q => !q.burst.shut) with
      | none => s
      | some q =>
        let x := s.ssg b g
        (s.setSsg b g { x with bursts := x.bursts.map (fun u => if u.first = q.burst.first then { u with shut := true } else u) }).noteMiss
          b g (q.uis p - q.got.length) (q.losers p))

/-! ## From the buffer to the cache (R213–R218) -/

/-- Bytes of the job's capture section, in records (R212, R226). -/
def capOfs (nch neng : Nat) : Nat := (64 + 32 * (nch + neng) + 63) / 64 * 64
def Job.capRoom (j : Job) : Nat := (dResSize j.desc - capOfs j.chans.length j.engs.length) / 32

/-- The entry may leave: the oldest of its engine in the bay, and nothing older of the engine is on its way there (R213). -/
def State.entryFirst (s : State) (b : Nat) (e : FailEnt) : Bool :=
  (s.bay b).buf.all (fun o => !(o.ctx == e.ctx && o.le == e.le) || decide (e.cyc ≤ o.cyc)) &&
  (s.eng e.slot).sump.all (fun r => !(r.bay == b && r.conf) || decide (e.cyc ≤ r.cyc) || !((s.eng e.slot).ctx == some e.ctx)) &&
  (s.eng e.slot).vecs.all (fun v => decide (e.cyc ≤ v.cyc) || !((s.eng e.slot).ctx == some e.ctx) ||
    s.matchOnly e.slot (eFset v.entry) || v.wait.all (fun c => bayOfChan c != b))

/-- FAIL_ENTRY_DRAIN (R25, R213, R220): entry k of the bay's buffer leaves while the queue of 64 has room; a capture record goes
to the job's capture section. -/
def execFailEntryDrain (b : Fin 8) (k : Nat) (s : State) : Out :=
  .next (match (s.bay b).buf[k]? with
    | none => s
    | some e =>
      if !s.entryFirst b e ∨ (!e.isCap ∧ (s.bay b).queue.length ≥ 64) then s
      else
        let s := (s.updBay b (fun x => { x with buf := x.buf.eraseIdx k })).fpGive b 1
        if e.isCap then
          match s.front e.ctx with
          | some j =>
            if j.caps.length < j.capRoom then
              s.updFront e.ctx (fun j => { j with caps := j.caps ++ [(e.chs.headD (0, 0)).2] })
            else s.dropEntries e.ctx e.le e.slot 1
          | none => s
        else s.updBay b (fun x => { x with queue := x.queue ++ [e] }))

/-- What an entry does to the cache: a line address, its kind, data and byte mask. -/
structure FccOp where
  addr : Nat
  isLog : Bool
  data : Nat
  mask : Nat
  deriving DecidableEq, Repr

/-- LANE of a channel's selection. -/
def State.laneOf (s : State) (c : Nat) : Nat := s.rd (F.VSW_SEL.LANE (selH c) (selC c))

/-- The bits of a bitmap block an entry sets, and whether a bit fell outside (R214). -/
def State.blockBits (s : State) (g : CapCfg) (e : FailEnt) : Nat × Bool :=
  e.chs.foldl (fun r c =>
    (List.range 16).foldl (fun (r : Nat × Bool) k =>
      if bit c.2 k then
        let lane := s.laneOf c.1
        let i := 16 * (lane - g.laneBase) + k
        if lane < g.laneBase ∨ i ≥ 8 * 2 ^ g.wlog then (r.1, true) else (r.1 ||| 2 ^ i, r.2)
      else r) r) (0, false)

/-- The block index a of an entry (R214). -/
def blockIndex (g : CapCfg) (e : FailEnt) : Nat :=
  (e.y % 2 ^ g.yb) * 2 ^ g.xb + (if g.xscr = 1 then e.xs else e.x) % 2 ^ g.xb

/-- A RANGE drop (R214). -/
def State.rangeDrop (s : State) (e : FailEnt) : State :=
  let s := if s.slotRegs e.ctx e.slot then s.setOn (F.FPU_CAP_STAT.RANGE e.slot) else s
  s.dropEntries e.ctx e.le e.slot 1

/-- The fail record of R216. -/
def failRecord (g : CapCfg) (e : FailEnt) (b recseq : Nat) (droppedBefore : Bool) : Nat :=
  let chmask := (e.chs.map (fun c => 2 ^ (c.1 % 32))).foldl (· ||| ·) 0
  let ui := (e.chs.map (·.2)).foldl (· ||| ·) 0
  e.cyc + 2 ^ 64 * e.x + 2 ^ 88 * e.y + 2 ^ 112 * e.xs + 2 ^ 136 * e.ctx + 2 ^ 142 * e.le + 2 ^ 149 * b +
    2 ^ 152 * b2n e.prov + 2 ^ 153 * g.gran + 2 ^ 154 * b2n droppedBefore + 2 ^ 156 * e.site + 2 ^ 160 * ui +
    2 ^ 176 * (recseq % 2 ^ 16) + 2 ^ 192 * chmask + 2 ^ 224 * e.pc

/-- What the entry at the head of a queue asks of the cache, with what it changes beside it; none: nothing is to be written. -/
def State.entryOp (s : State) (b : Nat) (e : FailEnt) (j : JobEng) : Option FccOp × State :=
  let g := j.cap
  if g.mode = 1 then
    let a := blockIndex g e
    if a * 2 ^ g.wlog ≥ 2 ^ g.slog then (none, s.rangeDrop e)
    else
      let r := s.blockBits g e
      let s := if r.2 then s.rangeDrop e else s
      let block := g.base + e.site * 2 ^ g.slog + a * 2 ^ g.wlog
      (if r.1 = 0 then none else some ⟨block / 64 * 64, false, r.1 * 256 ^ (block % 64), 0⟩, s)
  else
    let p := j.logged
    if 32 * (p + 1) > g.lim then
      let s := if s.slotRegs e.ctx e.slot then s.setOn (F.FPU_CAP_STAT.LOG_FULL e.slot) else s
      (none, s.dropEntries e.ctx e.le e.slot 1)
    else
      let at_ := g.base + 32 * p
      let word := failRecord g e b p j.dropBefore
      let s := s.updJobEng e.ctx e.le (fun g => { g with logged := p + 1, dropBefore := false })
      let s := if s.slotRegs e.ctx e.slot then s.wr (F.FPU_CAP_LOGN.LOGN e.slot) (p + 1) else s
      (some ⟨at_ / 64 * 64, true, word * 256 ^ (at_ % 64), (2 ^ 32 - 1) * 2 ^ (at_ % 64)⟩, s)

def State.fccOf (s : State) (h : Nat) : List FccLine := Table.get [] s.fcc h
def State.setFcc (s : State) (h : Nat) (l : List FccLine) : State :=
  ({ s with fcc := Table.set [] s.fcc h l }).wr (F.FPU_FCC_STAT.LINES h) l.length

/-- The set of a line address: address bits [13:6]. -/
def fccSet (a : Nat) : Nat := a / 64 % 256

/-- The valid lines of the same kind that can take an operation (R218). -/
def FccLine.takes (l : FccLine) (o : FccOp) : Bool := l.addr == o.addr && l.isLog == o.isLog && !l.wb

/-- FCC_ENTRY_ACCEPT (R218): the head of bay b's queue merges on a hit, or takes a free way; a full set sends its least recently
used line to be written back, and the entry waits for its acknowledgement. -/
def execFccEntryAccept (b : Fin 8) (s : State) : Out :=
  let h := b.val / 4
  .next (match (s.bay b).queue with
    | [] => s
    | e :: rest =>
      let pop := fun (s : State) => s.updBay b (fun x => { x with queue := rest })
      match (s.front e.ctx).bind (fun j => j.engs.find? (fun g => g.le = e.le)) with
      | none => pop s
      | some j =>
        let r := s.entryOp b e j
        match r.1 with
        | none => pop r.2
        | some o =>
          let ls := s.fccOf h
          let ways := (ls.filter (fun l => fccSet l.addr = fccSet o.addr))
          match ls.find? (fun l => l.takes o) with
          | some l =>
            let l' := { l with data := l.data ||| o.data, mask := l.mask ||| o.mask, ctxs := l.ctxs ||| 2 ^ e.ctx }
            ((pop r.2).setFcc h ((ls.filter (fun m => !m.takes o)) ++ [l'])).count (F.FPU_FCC_HIT.HIT h)
          | none =>
            if ways.length < 16 then
              (pop r.2).setFcc h (ls ++ [⟨o.addr, o.isLog, o.data, o.mask, 2 ^ e.ctx, false⟩])
            else
              match ways.find? (fun l => !l.wb) with
              | some v => if ways.any (·.wb) then s else
                  s.setFcc h (ls.map (fun l => if l = v then { l with wb := true } else l))
              | none => s)

/-- A line goes to its controller (R218, R241). -/
def State.writeBack (s : State) (h : Nat) (l : FccLine) : State :=
  let s := if l.isLog then s.dramWriteReq h l.addr l.mask l.data (s.jobsOf l.ctxs) true
    else s.dramOrReq h l.addr l.data (s.jobsOf l.ctxs) true
  s.count (F.FPU_FCC_EVICT.EVICT h)

/-- FLUSH reads 1 until every line has been acknowledged. -/
def State.flushEnd (s : State) (h : Nat) : State :=
  if (s.fccOf h).any (·.wb) then s else s.clr (F.FPU_FCC_CTL.FLUSH h)

/-- FCC_WRITEBACK_ACK (R218, R219, R241): the controller takes the line into its write queue and acknowledges; the way is free. -/
def execFccWritebackAck (h : Fin 2) (addr : Nat) (s : State) : Out :=
  .next (match (s.fccOf h).find? (fun l => l.addr = addr && l.wb) with
    | none => s
    | some l =>
      if s.dramAccepts h l.addr (if l.isLog then 1 else 2) then
        ((s.setFcc h ((s.fccOf h).erase l)).writeBack h l).flushEnd h
      else s.wakeDram (s.dramIf h l.addr))

/-- A write of FLUSH (R219): every line of the half is to be written back. -/
def State.fccFlush (s : State) (h : Nat) : State :=
  ((s.setOn (F.FPU_FCC_CTL.FLUSH h)).setFcc h ((s.fccOf h).map (fun l => { l with wb := true }))).flushEnd h

/-- FCC_FLUSH (R219). -/
def execFccFlush (r : Req) (h : Fin 2) (s : State) : Out :=
  .next (if s.mayWrite r .fpu (some h) then s.fccFlush h else s)

/-! ## Fail streams (R223–R225, R232) -/

/-- The words that stand before the fabric in bay b's stream, FFS_DATA and FFS_KIND with VALID high (R223), the first at its head. -/
def State.ffsWords (s : State) (b : Nat) : List StreamWord := (s.bay b).ffq ++ (s.bay b).stream

/-- The fabric takes the first k words of bay b's stream, in GCLK cycles with READY high; none while its clock stands still (R223,
R292). A PROV record whose branch is outstanding is remembered (R165). -/
def State.takeWords (s : State) (b n : Nat) : State :=
  let k := if s.gclkOn (b / 4) (s.rd (F.FPU_FFS_CTL.CLKSEL b)) then n else 0
  let ws := (s.ffsWords b).take k
  let open_ := fun (w : StreamWord) => w.kind == 0 && bit w.word 0 &&
    (match s.slotOf (bits w.word 7 7) with
     | some n => (s.eng (s.leaderOf n)).brs.any (fun r => r.isBr && r.tag == bits w.word 1 6)
     | none => false)
  let prov := (ws.filter open_).map (fun w => (bits w.word 7 7, bits w.word 1 6))
  (s.updBay b (fun x => { x with
    ffq := x.ffq.drop k, stream := x.stream.drop (k - x.ffq.length), deliv := (x.deliv ++ prov).eraseDups })).setLevel b

/-- A write of FPU_FFS_CTL_b takes effect once the stream buffer is empty (R232). -/
def State.ffsApply (s : State) (b : Nat) : State :=
  let x := s.bay b
  match x.ffsPend with
  | some v =>
    if x.stream.isEmpty then
      let s := if s.on (F.FPU_FFS_CTL.EN b) && !bit v 0 then s.cutStream b else s
      ((s.wr (F.FPU_FFS_CTL.CLKSEL b) (bits v 1 4)).wr (F.FPU_FFS_CTL.EN b) (bits v 0 1)).updBay b (fun x =>
        { x with ffsPend := none })
    else s
  | none => s

/-- A write of FPU_FFS_CTL_b: the last one before it takes effect counts. -/
def State.ffsWrite (s : State) (b v : Nat) : State := (s.updBay b (fun x => { x with ffsPend := some v })).ffsApply b

/-- FFS_CTL_APPLY (R232): the fabric has taken `taken` words since; the pending write takes effect once the buffer is empty. -/
def execFfsCtlApply (b : Fin 8) (taken : Nat) (s : State) : Out := .next ((s.takeWords b taken).ffsApply b)

/-! ## The end of a PATTERN job (R226–R229) -/

/-- Every engine of the job has halted or stopped, its results are in, nothing is left in its sumps or unresolved. -/
def State.jobStill (s : State) (c : Nat) : Bool :=
  (s.jobSlots c).all (fun n =>
    let e := s.eng n
    (e.stopped || (e.halted && s.slotState n != stRun)) && e.vecs.all (fun v => v.wait.isEmpty) && e.sump.isEmpty && e.brs.isEmpty)

/-- The channel entries as they stand (R227). -/
def State.jobChan (s : State) (q : JobCh) : JobCh :=
  let c := q.ch
  { q with
    ffv := s.rd (F.FPU_FF_INFO.VALID c), sat := s.rd (F.FPU_FF_INFO.SAT c), inv := s.rd (F.FPU_FF_INFO.LEVEL_INV c),
    uimask := s.rd (F.FPU_FF_INFO.UIMASK c), fcnt := s.rd (F.FPU_FCNT.FCNT c), ffcyc := s.rd (F.FPU_FF_CYC.CYCLE c),
    ffx := s.rd (F.FPU_FF_XY.X c), ffy := s.rd (F.FPU_FF_XY.Y c) }

/-- The tokens of tags that a stop left unresolved: their vectors count as squashed (R164, R225). -/
def State.squashTokens (s : State) (n : Nat) : State :=
  s.each (List.range 64) (fun s t => s.streamToken n (s.leOf n) t false)

/-- JOB_STOP (R224, R229, steps 1 and 2): the engine and channel entries are taken, each engine's JOB_END follows its last word,
and its slot is free. -/
def execJobStop (c : Fin 64) (s : State) : Out :=
  .next (match s.front c with
    | some j =>
      if j.phase = .running ∧ dType j.desc = 2 ∧ !j.restart ∧ s.jobStill c then
        let slots := s.jobSlots c
        let lead := fun (le : Nat) => (s.slotOf le).map s.leaderOf
        let s := s.each slots (fun s n => s.squashTokens n)
        let engs := j.engs.map (fun g => match s.slotOf g.le with
          | some n => if (s.eng n).ctx = some c.val then { g with
              retired := s.rd (F.FPU_SPX_SITE.RETIRED ((lead g.le).getD n)), cycles := s.rd (F.ENG_CYC.CYC n) } else g
          | none => g)
        let cycles := (engs.head?.map (·.cycles)).getD 0
        let s := s.each slots (fun s n => s.each (baysOf (s.fedBy n)) (fun s b =>
          s.jobMark b 2 (s.leOf n) c j.seq))
        let s := s.updFront c (fun j => { j with
          phase := .stopping, engs := engs, cycles := cycles, chans := j.chans.map s.jobChan })
        s.each slots (fun s n =>
          let left := (s.eng n).vecs
          (s.each left (fun s v => s.freeVec n v)).freeSlot n)
      else s
    | none => s)

/-- The bytes of a channel entry (R227) and of an engine entry (R228). -/
def chanEntry (q : JobCh) : Nat :=
  q.ch + 2 ^ 8 * q.le + 2 ^ 16 * q.site + 2 ^ 20 * q.ffv + 2 ^ 21 * q.sat + 2 ^ 22 * q.inv + 2 ^ 32 * q.uimask +
    2 ^ 64 * q.fcnt + 2 ^ 128 * q.ffcyc + 2 ^ 192 * q.ffx + 2 ^ 224 * q.ffy
def engEntry (g : JobEng) : Nat :=
  g.le + 2 ^ 7 * b2n g.spared + 2 ^ 8 * g.slot + 2 ^ 16 * g.retired + 2 ^ 32 * min (2 ^ 32 - 1) g.fails +
    2 ^ 64 * (g.cycles % 2 ^ 64) + 2 ^ 128 * (g.logged % 2 ^ 32) + 2 ^ 160 * g.dropped + 2 ^ 192 * g.hold

/-- The header of a result area (R226). -/
def resultHeader (j : Job) : Nat :=
  j.seq + 2 ^ 64 * j.fails + 2 ^ 128 * j.chans.length + 2 ^ 144 * j.engs.length + 2 ^ 160 * j.caps.length +
    2 ^ 192 * (j.flags / 2 % 2) + 2 ^ 193 * (j.flags % 2) + 2 ^ 224 * capOfs j.chans.length j.engs.length

/-- The result area of a job (R226–R228). -/
def State.writeResult (s : State) (j : Job) : State :=
  let s := s.resultWrite j.desc 0 64 (resultHeader j)
  let s := s.each j.chans.zipIdx (fun s q => s.resultWrite j.desc (64 + 32 * q.2) 32 (chanEntry q.1))
  let n := j.chans.length
  let s := s.each j.engs.zipIdx (fun s g => s.resultWrite j.desc (64 + 32 * (n + g.2)) 32 (engEntry g.1))
  s.each j.caps.zipIdx (fun s r => s.resultWrite j.desc (capOfs n j.engs.length + 32 * r.2) 32 r.1)

/-- The job's lines are written back and leave its context (R219): a line without another context is free. -/
def State.flushJob (s : State) (c h : Nat) : State :=
  let mine := (s.fccOf h).filter (fun l => bit l.ctxs c)
  let rest := (s.fccOf h).filterMap (fun l =>
    if bit l.ctxs c then
      (if l.ctxs = 2 ^ c then none else some { l with data := 0, mask := 0, ctxs := l.ctxs - 2 ^ c })
    else some l)
  (s.each mine (fun s l => s.writeBack h l)).setFcc h rest

/-- JOB_DRAIN_DONE (R229, steps 3 to 5): the buffers hold no entry of the job and the controllers take its lines; the result area
is written and the job is ready to be committed with its status (R63, R141, R211). -/
def execJobDrainDone (c : Fin 64) (s : State) : Out :=
  .next (match s.front c with
    | some j =>
      let busy := (List.range 8).any (fun b => (s.bay b).buf.any (fun e => e.ctx = c.val) || (s.bay b).queue.any (fun e => e.ctx = c.val))
      let full := [0, 1].any (fun h => (s.fccOf h).any (fun l =>
        bit l.ctxs c && !s.dramAccepts h l.addr (if l.isLog then 1 else 2)))
      if j.phase = .stopping ∧ !busy ∧ !full then
        let s := (s.flushJob c 0).flushJob c 1
        match s.front c with
        | some j =>
          let s := s.writeResult j
          if j.portUsed then s.finishFront c 0x12 0x205
          else s.finishFront c (if j.fails = 0 then 0 else 1) 0
        | none => s
      else s.each [0, 1] (fun s h => s.each (s.fccOf h) (fun s l => if bit l.ctxs c then s.wakeDram (s.dramIf h l.addr) else s))
    | none => s)

end Sys2Proof.Machine
end

