-- ==== Sys2Proof/Machine/FabNet.lean ====
section
/-! DEFINITION. The fabric as a network (R275–R288, R296–R299, R310, R331, R334): tiles, quarters, configuration fields, routing, and
the value of every output; the pads of the general-purpose pins. A value is found by following the configured drivers with
fuel for more nodes than a half has; where the drivers form a loop the value is free (log entry 31). -/

namespace Sys2Proof.Machine

/-! ## Tiles (R275, R276) -/

/-- The number of tile (x, y) of half h. -/
def tileNo (h x y : Nat) : Nat := (h * 109 + x) * 640 + y
def tileH (t : Nat) : Nat := t / 640 / 109
def tileX (t : Nat) : Nat := t / 640 % 109
def tileY (t : Nat) : Nat := t % 640

/-- Column contents. -/
inductive TileKind | io | cluster | bram | slice
  deriving DecidableEq, Repr

def colKind (x : Nat) : TileKind :=
  if x = 0 then .io
  else match (x - 1) % 27 with
    | 3 | 10 | 16 | 23 => .bram
    | 7 | 13 | 20 => .slice
    | _ => .cluster

/-- The quarter of a tile (R276). -/
def tileQ (t : Nat) : Nat :=
  let h := tileH t
  let y := tileY t
  let s := if tileX t = 0 then 0 else (tileX t - 1) / 27
  if s < 3 then 4 * (16 * h + 4 * (y / 160) + s) + y % 160 / 40
  else if y < 240 then 4 * (16 * h + 3) + y / 60
  else if y < 400 then 4 * (16 * h + 7) + (y - 240) / 40
  else if y < 560 then 4 * (16 * h + 11) + (y - 400) / 40
  else 4 * (16 * h + 15) + (y - 560) / 20

/-- The first row and the number of rows of a quarter. -/
def quarterRows (q : Nat) : Nat × Nat :=
  let r := q / 4 % 16
  if r % 4 < 3 then (160 * (r / 4) + 40 * (q % 4), 40)
  else match r with
    | 3 => (60 * (q % 4), 60)
    | 7 => (240 + 40 * (q % 4), 40)
    | 11 => (400 + 40 * (q % 4), 40)
    | _ => (560 + 20 * (q % 4), 20)

/-- The lowest site tile of a hard site. -/
def siteOf5 (t : Nat) : Nat := t - tileY t % 5

/-- A quarter fenced for a load (CFG_QFENCE), and one that holds its registers (R295). -/
def State.qFenced (s : State) (q : Nat) : Bool := bit (s.rd (F.CFG_QFENCE.FENCED (q / 32))) (q % 32)
def State.qHeld (s : State) (q : Nat) : Bool := s.on (F.FAB_STAT.GHOLD (q / 64)) || s.qFenced q

/-! ## Configuration fields (R334) -/

/-- Word w of a tile record, and n bits at bit lo of the record. -/
def State.cfgW (s : State) (t w : Nat) : Nat := Table.get 0 s.fcfg (t * 128 + w)
def State.cfgF (s : State) (t lo n : Nat) : Nat :=
  (s.cfgW t (lo / 32) + 2 ^ 32 * s.cfgW t (lo / 32 + 1)) / 2 ^ (lo % 32) % 2 ^ n

/-- Input selects and wire selects. -/
def State.inSel (s : State) (t j : Nat) : Nat := s.cfgF t (49 * 32 + 5 * j) 5

/-! ## Wires (R283–R285) -/

/-- Length, wires per tile and direction, and first index of each type L1 … L32. -/
def wireLen (ty : Nat) : Nat := 2 ^ ty
def wireN (ty : Nat) : Nat := match ty with | 0 | 1 | 2 => 4 | 3 | 4 => 2 | _ => 1
def wireO (ty : Nat) : Nat := match ty with | 0 => 0 | 1 => 4 | 2 => 8 | 3 => 12 | 4 => 14 | _ => 16

def State.wireSel (s : State) (t ty d k : Nat) : Nat := s.cfgF t (68 * 32 + 4 * (17 * d + wireO ty + k)) 4

/-- The tile n tiles from t in direction d (N 0, rising rows; E 1; S 2; W 3), inside the half. -/
def tileMove (t d n : Nat) : Option Nat :=
  let h := tileH t
  let x := tileX t
  let y := tileY t
  match d with
  | 0 => if y + n < 640 then some (tileNo h x (y + n)) else none
  | 1 => if x + n < 109 then some (tileNo h (x + n) y) else none
  | 2 => if n ≤ y then some (tileNo h x (y - n)) else none
  | _ => if n ≤ x then some (tileNo h (x - n) y) else none

/-- The start tile of the wire of type ty and direction d whose end, or middle, is at tile t; none where no such wire exists. -/
def wireAt (t ty d : Nat) (mid : Bool) : Option Nat :=
  match tileMove t ((d + 2) % 4) (if mid then wireLen ty / 2 else wireLen ty) with
  | some st => if (tileMove st d (wireLen ty)).isSome then some st else none
  | none => none

/-- What drives a wire or an input. -/
inductive Src
  | tie (v : Bool)
  | out (t k : Nat)
  | loop
  deriving DecidableEq, Repr

/-- The wire whose end or middle a multiplexer reads: type, direction, track, middle. -/
structure Tap where
  ty  : Nat
  d   : Nat
  k   : Nat
  mid : Bool
  deriving DecidableEq, Repr

/-- The source that a wire select names (R285). -/
def wireTap (ty d k code : Nat) : Tap :=
  let n := wireN ty
  match code with
  | 1 => ⟨ty, d, k, false⟩
  | 2 => ⟨ty, (d + 3) % 4, k, false⟩
  | 3 => ⟨ty, (d + 3) % 4, (k + 1) % n, false⟩
  | 4 => ⟨ty, (d + 1) % 4, k, false⟩
  | 5 => ⟨ty, (d + 1) % 4, (k + 1) % n, false⟩
  | 6 => if ty = 0 then ⟨2, d, k, true⟩ else ⟨ty - 1, d, k % wireN (ty - 1), false⟩
  | _ => if ty = 5 then ⟨5, d, 0, true⟩ else ⟨ty + 1, d, k % wireN (ty + 1), false⟩

/-- Follow the multiplexers back from the wire that starts at tile t. -/
def State.wireSrc (s : State) : Nat → Nat → Nat → Nat → Nat → Src
  | 0, _, _, _, _ => .loop
  | f + 1, t, ty, d, k =>
    match s.wireSel t ty d k with
    | 0 => .tie false
    | code =>
      if 8 ≤ code then .out t ((2 * k + 4 * (code - 8) + 8 * d) % 32)
      else
        let p := wireTap ty d k code
        match wireAt t p.ty p.d p.mid with
        | some st => s.wireSrc f st p.ty p.d p.k
        | none => .tie false

/-- More than the wires, outputs and carries of the device: a path longer than this is a loop. -/
def netFuel : Nat := 20000000

/-- Tap number of a tile (R284). -/
def tapOf (n : Nat) : Tap :=
  let d := n / 26
  let u := n % 26
  if u < 4 then ⟨0, d, u, false⟩
  else if u < 8 then ⟨1, d, u - 4, false⟩
  else if u < 12 then ⟨2, d, u - 8, false⟩
  else if u < 16 then ⟨2, d, u - 12, true⟩
  else if u < 18 then ⟨3, d, u - 16, false⟩
  else if u < 20 then ⟨3, d, u - 18, true⟩
  else if u < 22 then ⟨4, d, u - 20, false⟩
  else if u < 24 then ⟨4, d, u - 22, true⟩
  else ⟨5, d, 0, decide (u = 25)⟩

/-- The source of a tap of tile t. -/
def State.tapSrc (s : State) (t n : Nat) : Src :=
  let p := tapOf n
  match wireAt t p.ty p.d p.mid with
  | some st => s.wireSrc netFuel st p.ty p.d p.k
  | none => .tie false

/-- The source of input j of tile t (R286). -/
def State.inputSrc (s : State) (t j : Nat) : Src :=
  match s.inSel t j with
  | 0 => .tie false
  | 1 => .tie true
  | code => if code < 10 then .out t ((j + 4 * (code - 2)) % 32) else s.tapSrc t ((5 * j + 7 * (code - 10)) % 104)

/-! ## Pins (R488–R495, R297) -/

/-- What the model keeps of pin p. -/
def State.pin (s : State) (p : Nat) : PinSt := Table.get PinSt.reset s.pins p
def State.updPin (s : State) (p : Nat) (f : PinSt → PinSt) : State := { s with pins := Table.upd PinSt.reset s.pins p f }

/-- The function of a pin; a reserved FUNC acts as its reset value, ANALOG only on pins 16–19 of a bank (R489). -/
def State.pinFunc (s : State) (p : Nat) : Nat :=
  let v := s.rd (F.GPP_PIN.FUNC p)
  let rst := if p = 22 ∨ p = 23 then 3 else 0
  if 5 ≤ v ∨ (v = 4 ∧ (p % 24 < 16 ∨ 19 < p % 24)) then rst else v

/-- A SIG that pin p may not name (R490, R491): reserved, or a controller of the other half. -/
def sigReserved (p v : Nat) : Bool :=
  let h := p / 48
  if v < 20 then v / 5 / 2 != h
  else if v < 28 then (v - 20) / 2 / 2 != h
  else if v < 32 then (v - 28) / 2 != h
  else decide (51 ≤ v) && v != 127

/-- The peripheral signal that a pin names. -/
def State.pinSig (s : State) (p : Nat) : Nat :=
  let v := s.rd (F.GPP_PIN.SIG p)
  if sigReserved p v then (if p = 22 then 28 else if p = 23 then 29 else 127) else v

/-- The pin's assignment is in effect (R494): no hold latch stands between. -/
def State.pinLive (s : State) (p : Nat) : Bool := (s.pin p).causes == 0

/-- Pin p is in analogue mode (R498). -/
def State.adcPin (s : State) (p : Nat) : Bool := s.pinFunc p == 4 && s.pinLive p

/-- The pins whose assignments in effect name a signal. -/
def State.sigPins (s : State) (v : Nat) : List Nat :=
  (List.range 96).filter (fun p => s.pinLive p && s.pinFunc p == 3 && s.pinSig p == v)

/-- A peripheral input comes from a pin: one assignment in effect names it (R493), and the pin's bank has a supply. -/
def State.sigServed (s : State) (v : Nat) : Bool :=
  match s.sigPins v with
  | [p] => s.rd (F.GPP_BANK.LEVEL (p / 24)) != 0
  | _ => false

/-- A peripheral signal is in conflict (R493). TRIG_OUT and the signals of SPI, I2C, UART by half are told apart by the pin. -/
def State.sigConflict (s : State) (v : Nat) : Bool := v < 51 && decide ((s.sigPins v).length ≥ 2)

/-- The level a peripheral output has, where the spec gives it: TRIG_OUT, SNAP_OUT, PPS_OUT. -/
def State.sigOut (s : State) (p v : Nat) : Option Bool :=
  if 40 ≤ v ∧ v < 48 then some (Table.get false s.time.trigOut (8 * (p / 48) + (v - 40)))
  else if v = 49 then some s.snap.outHigh
  else if v = 50 then some s.time.pps
  else none

/-- What a pin other than a fabric-owned one drives onto its pad. -/
def State.pinDrive (s : State) (p : Nat) : Option Bool :=
  match s.pinFunc p with
  | 2 => if s.on (F.GPP_PIN.GPIO_OE p) then some (s.on (F.GPP_PIN.GPIO_OUT p)) else none
  | 3 => if s.sigConflict (s.pinSig p) then none else s.sigOut p (s.pinSig p)
  | _ => none

/-- The I/O tile of cell p. -/
def ioTile (p : Nat) : Nat :=
  let k := p / 24
  let i := p % 24
  tileNo (k / 2) 0 (160 * (2 * (k % 2) + i / 12) + 10 * (i % 12) + 5)

/-- The I/O cell of a tile. -/
def ioCell (t : Nat) : Option Nat :=
  if tileX t = 0 ∧ tileY t % 160 % 10 = 5 ∧ tileY t % 160 < 120 then
    some (48 * tileH t + 12 * (tileY t / 160) + tileY t % 160 / 10)
  else none

/-! ## Values of outputs (R278–R282, R296–R298, R310, R331) -/

/-- A net of the fabric: an output of a tile, the carry out of a cell, a pad. -/
inductive Node
  | out (t k : Nat)
  | co (t c : Nat)
  | pad (p : Nat)
  deriving DecidableEq, Repr

/-- A number for a node. -/
def Node.code : Node → Nat
  | .out t k => 128 * t + k
  | .co t c => 128 * t + 64 + c
  | .pad p => 2 ^ 40 + p

/-- A flip-flop's Q: its difference from INIT (key: tile × 32 + 2 × cell + a). -/
def State.ffInit (s : State) (t c a : Nat) : Bool := bit (s.cfgW t (3 * c + 2)) (11 + 3 * a)
def State.ffQ (s : State) (t c a : Nat) : Bool := Table.get false s.ffX (t * 32 + 2 * c + a) != s.ffInit t c a

/-- What a source carries to tile t: an output of a fenced quarter reads 0 outside it (R282, R321). `key` names the reader. -/
def State.srcVal (s : State) (ev : Node → Bool) (t key : Nat) : Src → Bool
  | .tie v => v
  | .out u k => if s.qFenced (tileQ u) && tileQ u != tileQ t then false else ev (.out u k)
  | .loop => Config.loopBit key s.fresh

/-- The value of input j of tile t. -/
def State.inputVal (s : State) (ev : Node → Bool) (t j : Nat) : Bool := s.srcVal ev t (128 * t + j) (s.inputSrc t j)

/-- n inputs from j on as a number. -/
def State.inputsVal (s : State) (ev : Node → Bool) (t j n : Nat) : Nat :=
  ((List.range n).map (fun i => b2n (s.inputVal ev t (j + i)) * 2 ^ i)).foldl (· + ·) 0

/-- LX and LY of cell c (R278). -/
def State.lut (s : State) (ev : Node → Bool) (t c : Nat) : Bool × Bool :=
  let tt := s.cfgW t (3 * c) + 2 ^ 32 * s.cfgW t (3 * c + 1)
  let v := s.inputsVal ev t (7 * c) 6
  let split := bit (s.cfgW t (3 * c + 2)) 8
  (if split then bit tt (32 + 16 * bits v 5 1 + v % 16) else bit tt v, bit tt (v % 32))

/-- CI of cell c (R281). -/
def State.carryIn (s : State) (ev : Node → Bool) (t c : Nat) : Bool :=
  if c ≠ 0 then ev (.co t (c - 1))
  else match bits (s.cfgW t 48) 12 2 with
    | 0 => if tileY t = 0 ∨ (s.qFenced (tileQ (t - 1)) ∧ tileQ (t - 1) ≠ tileQ t) then false else ev (.co (t - 1) 15)
    | 1 => false
    | 2 => true
    | _ => s.inputVal ev t 116

/-- G of cell c. -/
def State.carryG (s : State) (ev : Node → Bool) (t c : Nat) : Bool :=
  if bit (s.cfgW t (3 * c + 2)) 9 then s.inputVal ev t (7 * c + 6) else (s.lut ev t c).2

/-- CO of cell c. -/
def State.carryOut (s : State) (ev : Node → Bool) (t c : Nat) : Bool :=
  if (s.lut ev t c).1 then s.carryIn ev t c else s.carryG ev t c

/-- S of cell c. -/
def State.sumOut (s : State) (ev : Node → Bool) (t c : Nat) : Bool := (s.lut ev t c).1 != s.carryIn ev t c

/-- A cluster output (R279). -/
def State.clusterOut (s : State) (ev : Node → Bool) (t k : Nat) : Bool :=
  let c := k / 2
  let w := s.cfgW t (3 * c + 2)
  if k % 2 = 0 then
    match bits w 4 2 with
    | 0 => (s.lut ev t c).1
    | 1 => s.sumOut ev t c
    | 2 => s.ffQ t c 0
    | _ => ev (.co t c)
  else
    match bits w 6 2 with
    | 0 => (s.lut ev t c).2
    | 1 => s.ffQ t c 1
    | 2 => s.inputVal ev t (7 * c + 6)
    | _ => s.ffQ t c 0

/-- Block-memory fields of a site. -/
def State.bramW (s : State) (t lo n : Nat) : Nat := bits (s.cfgW t 0) lo n
def State.bramSr (s : State) (t : Nat) (b : Bool) : Nat :=
  if b then s.cfgW t 3 + 2 ^ 32 * bits (s.cfgW t 2) 4 4 else s.cfgW t 1 + 2 ^ 32 * bits (s.cfgW t 2) 0 4
def State.bram (s : State) (t : Nat) : BramSt := Table.get BramSt.reset s.brams t

/-- Port widths in bits (R310); code 7 of port A is the 72-bit write port. -/
def bramBits (code : Nat) : Nat :=
  match code with | 0 => 0 | 1 => 1 | 2 => 2 | 3 => 4 | 4 => 9 | 5 => 18 | _ => 36

/-- DO of a port: the final output stage, kept as its difference from SRVAL, within the port's width. -/
def State.bramDo (s : State) (t : Nat) (b : Bool) : Nat :=
  let m := s.bram t
  let sdp := s.bramW t 0 3 == 7
  let pipe := if b || sdp then s.bramW t 11 1 == 1 else s.bramW t 10 1 == 1
  let v := if b then (if pipe then m.pipB else m.latB) else (if pipe then m.pipA else m.latA)
  let w := if sdp then 36 else bramBits (if b then s.bramW t 3 3 else s.bramW t 0 3)
  (v ^^^ s.bramSr t b) % 2 ^ w

/-- Arithmetic-slice fields of a site. -/
def State.sliceW (s : State) (t lo n : Nat) : Nat := bits (s.cfgW t 0) lo n
def State.slice (s : State) (t : Nat) : SliceSt := Table.get SliceSt.reset s.slices t

/-- Slice m + 1 extends slice m (R326); an extension cannot extend. The recursion is over the slices of the column. -/
def State.isExt (s : State) (base : Nat) : Nat → Bool
  | 0 => false
  | m + 1 => s.sliceW (base + 5 * m) 11 2 == 2 && !s.isExt base m

/-- The lowest slice of a slice's column, and the slice's place in it. -/
def sliceBase (t : Nat) : Nat := t - tileY t
def sliceM (t : Nat) : Nat := tileY t / 5
def State.extended (s : State) (t : Nat) : Bool := s.isExt (sliceBase t) (sliceM t)

/-- The slice heads an EXTEND pair; the topmost slice of a column cannot. -/
def State.headExt (s : State) (t : Nat) : Bool := s.sliceW t 11 2 == 2 && !s.extended t && decide (sliceM t < 127)

/-- Two's complement of n bits as an integer. -/
def sInt (n v : Nat) : Int := if v < 2 ^ (n - 1) then (v : Int) else (v : Int) - 2 ^ n
/-- An integer modulo 2^n. -/
def sNat (n : Nat) (v : Int) : Nat := (v % (2 ^ n : Int)).toNat

/-- Shift and rounding (R327). -/
def roundShift (rnd sh : Nat) (x : Int) : Int :=
  let k := min sh 24
  if k = 0 then x
  else
    let q := x / 2 ^ k
    let r := x % 2 ^ k
    match rnd with
    | 0 => q
    | 1 => (x + 2 ^ (k - 1)) / 2 ^ k
    | _ => if r > 2 ^ (k - 1) then q + 1 else if r < 2 ^ (k - 1) then q else q + q % 2

/-- The shifter's result of a slice: its own bits of the accumulator's, or of the pair's (R326, R327). -/
def State.shifted (s : State) (t : Nat) : Nat :=
  let head := if s.extended t then t - 5 else t
  let x : Int := if s.headExt head then sInt 80 ((s.slice head).acc + 2 ^ 40 * (s.slice (head + 5)).acc) else sInt 40 (s.slice head).acc
  let y := roundShift (s.sliceW head 18 2) (s.sliceW head 13 5) x
  if s.extended t then bits (sNat 80 y) 40 40 else sNat 40 y

/-- OUT of a slice. -/
def State.sliceOut (s : State) (t : Nat) : Nat := if s.sliceW t 5 1 = 1 then (s.slice t).outr else s.shifted t

/-- An output of a hard site's tile (R331). -/
def State.hardOut (s : State) (t k : Nat) : Bool :=
  let site := siteOf5 t
  let i := tileY t % 5
  match colKind (tileX t) with
  | .bram =>
    let m := s.bram site
    match i with
    | 0 => bit (s.bramDo site false) k
    | 1 => k < 4 && bit (s.bramDo site false) (32 + k)
    | 2 => bit (s.bramDo site true) k
    | 3 => k < 4 && bit (s.bramDo site true) (32 + k)
    | _ =>
      let pipe := s.bramW site 11 1 == 1
      match k with
      | 0 => m.coll
      | 1 => if pipe then m.fixP else m.fixL
      | 2 => if pipe then m.badP else m.badL
      | _ => false
  | _ =>
    match i with
    | 0 => bit (s.sliceOut site) k
    | 1 => if k < 8 then bit (s.sliceOut site) (32 + k) else k == 8 && (s.slice site).ovf && !s.extended site
    | _ => false

/-- An I/O cell, its fields, and O or T after its register (R296–R298). -/
def State.ioSt (s : State) (p : Nat) : IoSt := Table.get IoSt.reset s.ios p
def State.ioW (s : State) (p lo n : Nat) : Nat := bits (s.cfgW (ioTile p) 0) lo n

def State.ioO (s : State) (ev : Node → Bool) (p : Nat) : Bool :=
  let x := s.ioSt p
  let init := s.ioW p 12 1 == 1
  match s.ioW p 4 2 with
  | 0 => s.inputVal ev (ioTile p) 0
  | 1 | 2 => x.oR != init
  | _ => (if x.high then x.oR else x.oF) != init

def State.ioT (s : State) (ev : Node → Bool) (p : Nat) : Bool :=
  let x := s.ioSt p
  let init := s.ioW p 13 1 == 1
  match s.ioW p 6 2 with
  | 0 => s.inputVal ev (ioTile p) 2
  | 1 | 2 => x.tR != init
  | _ => (if x.high then x.tR else x.tF) != init

/-- What a fabric-owned pin drives (R297); before the fabric's start-up nothing (R349). -/
def State.fabDrive (s : State) (ev : Node → Bool) (p : Nat) : Option Bool :=
  if s.on (F.FAB_STAT.GHOLD (p / 48)) then none
  else match s.ioW p 0 2 with
    | 0 => none
    | 1 => some (s.ioO ev p)
    | 2 => if s.ioT ev p then some (s.ioO ev p) else none
    | _ => if s.ioO ev p then none else some false

/-- What the device drives onto pad p: nothing while the bank has no valid supply (R488); the latch's level while it is engaged. -/
def State.padDrive (s : State) (ev : Node → Bool) (p : Nat) : Option Bool :=
  if s.rd (F.GPP_BANK.LEVEL (p / 24)) = 0 then none
  else if !s.pinLive p then (s.pin p).level
  else if s.pinFunc p = 1 then s.fabDrive ev p
  else s.pinDrive p

/-- PREPULL (R492, R349): until the first start-up after the reset, pins of FUNC NONE or FABRIC have the weak pull-up. -/
def State.prePull (s : State) (p : Nat) : Bool :=
  bit (s.rd F.GLB_STRAP.STRAPS) 1 && decide (s.rd F.GLB_STATE.STATE < 7) && decide (s.pinFunc p < 2)

/-- The level at pad p while nothing drives it (R496, R499): the pull-up, the pull-down or the keeper; without any, the level at which
the surroundings leave it. -/
def State.padPull (s : State) (p : Nat) : Bool :=
  if s.prePull p then true
  else match s.rd (F.GPP_PIN.PULL p) with
    | 1 => true
    | 2 => false
    | 3 => bit s.padKeep p
    | _ => bit s.padExt p

/-- The level at pad p: the device's, the surroundings', or that of its pull. -/
def State.padVal (s : State) (ev : Node → Bool) (p : Nat) : Bool :=
  if s.pinFunc p = 4 then false
  else match s.padDrive ev p with
    | some v => v
    | none => if bit s.padOn p then bit s.padExt p else s.padPull p

/-- An output of an I/O tile: I_R and I_F (R288, R298). -/
def State.ioOut (s : State) (ev : Node → Bool) (t k : Nat) : Bool :=
  match ioCell t with
  | none => false
  | some p =>
    let x := s.ioSt p
    let reg := s.ioW p 2 2
    if k = 0 then (if reg = 0 then ev (.pad p) else x.iR != Config.ioInit p)
    else k == 1 && reg == 3 && (x.iF != Config.ioInit p)

/-- A node's value from the values of others. -/
def State.nodeVal (s : State) (ev : Node → Bool) : Node → Bool
  | .out t k =>
    match colKind (tileX t) with
    | .cluster => s.clusterOut ev t k
    | .io => s.ioOut ev t k
    | _ => s.hardOut t k
  | .co t c => s.carryOut ev t c
  | .pad p => s.padVal ev p

/-- The value of a node. -/
def State.netF (s : State) : Nat → Node → Bool
  | 0, n => Config.loopBit n.code s.fresh
  | f + 1, n => s.nodeVal (s.netF f) n

def State.net (s : State) (n : Node) : Bool := s.netF netFuel n

/-- The value of an input, and of n inputs from j on. -/
def State.inp (s : State) (t j : Nat) : Bool := s.inputVal s.net t j
def State.inps (s : State) (t j n : Nat) : Nat := s.inputsVal s.net t j n

/-- The level at pad p. -/
def State.padLevel (s : State) (p : Nat) : Bool := s.net (.pad p)

/-- Keepers take the level that their pads show now, before something changes it (R496). -/
def State.keep (s : State) (ps : List Nat) : State :=
  { s with padKeep := ps.foldl (fun v p =>
      if s.padLevel p then v ||| 2 ^ p else if bit v p then v - 2 ^ p else v) s.padKeep }

/-- The pads on which a keeper acts. -/
def State.keepers (s : State) : List Nat := (List.range 96).filter (fun p => s.rd (F.GPP_PIN.PULL p) == 3)

end Sys2Proof.Machine
end

