-- ==== Sys2Proof/Machine/Time.lean ====
section
/-! DEFINITION. The commands on the timebase, the servo, the trunk ports, event frames, triggers and starts (R386–R411). A flag
beside a state says whether a register write was taken. Commands that stand for a time at which something happens let the
present second's ticks up to that time go by (log entry 12). -/

namespace Sys2Proof.Machine

/-! ## Ticks, pairing, steps (R386, R387) -/

/-- SECOND_ROLLOVER (R386): the ticks go by until NS of half h has wrapped. -/
def execSecondRollover (h : Fin 2) (s : State) : Out := .next (s.elapse ((s.tbase h).ticksTo secUnits))

/-- The drift of the other half's timebase appears, and its INC removes the measured difference over 50,000 ticks, at most 2^20
units per tick; while both run from REFCLK they are equal and nothing is corrected (R387). -/
def State.pairDrift (s : State) (d : Int) : State :=
  let r := s.refTb
  let o := 1 - s.refHalf
  let u := (((r.sec * secUnits + r.units : Nat) : Int) + d) % ((2 ^ 48 * secUnits : Nat) : Int)
  let corr := clampTo (2 ^ 20) (roundConv (-d) 50000)
  s.setTb o ⟨u.toNat % 2 ^ 32, u.toNat % secUnits / 2 ^ 32, u.toNat / secUnits, ((r.inc : Int) + corr).toNat % 2 ^ 36⟩

/-- The difference other − reference, in 2^-32 ns. -/
def State.pairDiff (s : State) : Int :=
  let r := s.refTb
  let o := s.tbase (1 - s.refHalf)
  ((o.sec * secUnits + o.units : Nat) : Int) - ((r.sec * secUnits + r.units : Nat) : Int)

/-- A pairing sample is delivered and compared (R387). -/
def State.pairTake (s : State) (drift : Int) : State :=
  let d := if s.time.refLost then drift else s.pairDiff
  let s := if s.time.refLost then s.pairDrift drift else s
  let s := s.wr F.TMB_PAIR.DIFF (toBits 32 (roundConv d (2 ^ 28)))
  if d.natAbs > 16 * 2 ^ 32 then s.setOn F.TMB_STAT.PAIR_ERR else s

/-- PAIR_SAMPLE (R387): `drift`: on the internal oscillator, the difference found, in 2^-32 ns. While a snapshot's payload is
held the sample waits for it (R14). -/
def execPairSample (drift : Int) (s : State) : Out :=
  .next (if s.snap.due then s.updTime (fun t => { t with pairDue := some drift }) else s.pairTake drift)

/-- TIMEBASE_STEP_APPLY (R387, R396): the common tick of the oldest change has come. Steps of one tick add up, whichever is first. -/
def execTimebaseStepApply (s : State) : Out :=
  .next (match s.time.changes with
    | [] => s
    | c :: rest => (s.updTime (fun t => { t with changes := rest })).applyChange c)

/-! ## Offsets, holdover (R390–R394) -/

/-- STEP_THR in 1/16 ns. -/
def State.stepThr (s : State) : Nat := s.eff F.TMB_SRV_CFG.STEP_THR * 16000

/-- The servo's new INC of correction c (R390). -/
def State.servoInc (s : State) (i c : Int) : State :=
  ((s.updTime (fun t => { t with integ := i })).queueChange (.inc (0x200000000 - c).toNat)).wr F.TMB_SRV_RATE.RATE (toBits 32 c)

/-- A grid step from an offset (R392); the slope that SRV_RATE shows while syntonised is not defined further: a free value. -/
def State.gridOffset (s : State) (o : Int) : State :=
  let q := s.free 32
  (q.2.wr F.TMB_SRV_RATE.RATE q.1).gridStep (roundConv o 160)

/-- The first offset of an acquisition (R391). -/
def State.offset1 (s : State) (o : Int) (left : Bool) : State :=
  if s.syntonised then (s.gridOffset o).wr F.TMB_STAT.STATE tTracking
  else
    let s := (s.updTime (fun t => { t with acq := 1, left := false, oTick := s.ticks })).wr F.TMB_STAT.STATE tAcquire
    if left ∧ o.natAbs < s.stepThr then s else s.queueChange (.step (-o))

/-- The second offset of an acquisition in SERVO mode; two offsets lie at least a tick apart. -/
def State.offset2 (s : State) (o : Int) : State :=
  let dt := s.ticks - s.time.oTick
  if dt = 0 then s
  else
    let i := clampTo (2 ^ 28) (roundConv (o * 2 ^ 28) dt)
    ((s.updTime (fun t => { t with acq := 0 })).servoInc i i).wr F.TMB_STAT.STATE tTracking

/-- An offset while TRACKING (R390, R392). -/
def State.offsetTrack (s : State) (o : Int) : State :=
  if s.syntonised then s.gridOffset o
  else if o.natAbs ≥ s.stepThr then s.queueChange (.step (-o))
  else
    let u := o * 2 ^ 28
    let i := clampTo (2 ^ 28) (s.time.integ + roundConv u (2 ^ s.rd F.TMB_SRV_CFG.KI_SH))
    s.servoInc i (clampTo (2 ^ 28) (i + roundConv u (2 ^ s.rd F.TMB_SRV_CFG.KP_SH)))

/-- PTP_OFFSET (R390–R393, R395): in 1/16 ns. SWINC only reports it; the first offset after holdover posts TIME_STATE. -/
def execPtpOffset (o : BitVec 32) (s : State) : Out :=
  .next (if !s.on F.TMB_PTP_CFG.EN then s
    else
      let v := fromBits 32 o.toNat
      let s := s.wr F.TMB_SRV_OFS.OFS o.toNat
      if s.swinc then s
      else
        let st := s.rd F.TMB_STAT.STATE
        if st = tHoldover then (s.offset1 v true).timeState 2
        else if st = tTracking then s.offsetTrack v
        else if st = tAcquire ∧ s.time.acq = 1 ∧ !s.syntonised then s.offset2 v
        else s.offset1 v s.time.left)

/-- GRID_STEP_DEFERRED_APPLY (R392): `expired`: 100 ms have passed. No grid step is made in holdover (R393). -/
def execGridStepDeferredApply (expired : Bool) (s : State) : Out :=
  .next (match s.time.defer with
    | none => s
    | some n =>
      if !s.syntonised ∨ s.rd F.TMB_STAT.STATE = tHoldover then s.updTime (fun t => { t with defer := none })
      else if expired ∨ !s.gridBlocked then
        (s.updTime (fun t => { t with defer := none })).queueChange (.step (-160 * n))
      else s)

/-- HOLDOVER_TIMEOUT (R393). -/
def execHoldoverTimeout (s : State) : Out := .next s.enterHoldover

/-- PTP_MASTER_LOST (R393). -/
def execPtpMasterLost (s : State) : Out := .next (if s.on F.TMB_PTP_CFG.EN then s.enterHoldover else s)

/-- OSC_RATIO_WINDOW (R394): the filter is not defined, so the INC that a loss of REFCLK would set is a free value. -/
def execOscRatioWindow (s : State) : Out :=
  .next (if s.time.refLost then s
    else
      let q := s.free 36
      q.2.updTime (fun t => { t with oscInc := q.1 }))

/-! ## Software's writes (R388, R389, R395, R396) -/

/-- A write of MODE: the change takes effect at a common tick. -/
def State.tmbModeWrite (s : State) (m : Nat) : State :=
  if m = s.rd F.TMB_CTL.MODE then s else (s.wr F.TMB_CTL.MODE m).queueChange (.mode m)

/-- TMB_MODE_WRITE (R388, R389). -/
def execTmbModeWrite (r : Req) (m : Fin 4) (s : State) : Out :=
  .next (if s.mayWrite r .tmb then s.tmbModeWrite m else s)

/-- A commit of TMB_INC (R395): in SWINC, as MODE was last written, and in range. -/
def State.tmbIncWrite (s : State) (v : Nat) : Bool × State :=
  let v := v % 2 ^ 36
  if s.rd F.TMB_CTL.MODE = 2 ∧ 0x1E0000000 ≤ v ∧ v ≤ 0x220000000 then (true, s.queueChange (.inc v))
  else (false, s.setOn F.TMB_STAT.INC_DISC)

/-- TMB_INC_WRITE (R395). -/
def execTmbIncWrite (r : Req) (v : BitVec 36) (s : State) : Out :=
  .next (if s.mayWrite r .tmb then (s.tmbIncWrite v.toNat).2 else s)

/-- A write of TMB_STEP_SEC (R396). -/
def State.timeStep (s : State) (sec : Nat) : Bool × State :=
  let ns := fromBits 32 (s.rd F.TMB_STEP_NS.NS)
  if ns.natAbs > 999999999 then (false, s.setOn F.TMB_STAT.STEP_DISC)
  else
    let d := (fromBits 32 sec * 1000000000 + ns) * 16
    (true, s.queueChange (.step (if s.syntonised then roundConv d 160 * 160 else d)))

/-- TIME_STEP_COMMIT (R396). -/
def execTimeStepCommit (r : Req) (sec : Word32) (s : State) : Out :=
  .next (if s.mayWrite r .tmb then (s.timeStep sec.toNat).2 else s)

/-! ## Triggers (R403, R404, R405, R411) -/

/-- The target of trigger k of half h. -/
def State.trgSec (s : State) (h k : Nat) : Nat := s.rd (F.TMB_TRG_SEC.SEC h k)
def State.trgNs (s : State) (h k : Nat) : Nat := s.rd (F.TMB_TRG_NS.NS h k)

/-- PER is reserved. -/
def State.perBad (s : State) (h k : Nat) : Bool := (F.TMB_TRG_PER.PER h k).reserved (s.rd (F.TMB_TRG_PER.PER h k))

/-- Arm a trigger: FIRED and LATE are cleared; refused with ARM_ERR for a reserved target, or period when periodic. -/
def State.trgArm (s : State) (h k : Nat) (periodic : Bool) : Bool × State :=
  if s.trgNs h k ≥ 1000000000 ∨ (periodic ∧ s.perBad h k) then (false, s.setOn (F.TMB_TRG_CTL.ARM_ERR h k))
  else
    let s := (((s.setOn (F.TMB_TRG_CTL.EN h k)).clr (F.TMB_TRG_CTL.FIRED h k)).clr (F.TMB_TRG_CTL.LATE h k))
    let late := (s.tbase h).reached (s.trgSec h k) (s.trgNs h k)
    (true, s.updTime (fun t => { t with
      spent := Table.set false t.spent (8 * h + k) false, lateArm := Table.set false t.lateArm (8 * h + k) late,
      reached := Table.upd 0 t.reached h (fun d => d - (d &&& 2 ^ k)) }))

/-- A setting of PERIODIC: refused with ARM_ERR while PER is reserved. -/
def State.trgPeriodic (s : State) (h k : Nat) (on : Bool) : Bool × State :=
  if on ∧ !s.on (F.TMB_TRG_CTL.PERIODIC h k) ∧ s.perBad h k then (false, s.setOn (F.TMB_TRG_CTL.ARM_ERR h k))
  else (true, s.wr (F.TMB_TRG_CTL.PERIODIC h k) (b2n on))

/-- A write of TMB_TRG_h_k_CTL. -/
def State.trgCtlWrite (s : State) (h k v : Nat) : Bool × State :=
  let s := (s.wr (F.TMB_TRG_CTL.PULSE h k) (bits v 8 8)).wr (F.TMB_TRG_CTL.OUT h k) (bits v 3 1)
  let s := s.wr (F.TMB_TRG_CTL.SNAP h k) (bits v 2 1)
  let s := if bit v 4 then s.clr (F.TMB_TRG_CTL.ARM_ERR h k) else s
  let p := s.trgPeriodic h k (bit v 1)
  if bit v 0 ∧ !s.on (F.TMB_TRG_CTL.EN h k) then
    let a := p.2.trgArm h k (bit v 1)
    (p.1 && a.1, a.2)
  else (p.1, p.2.wr (F.TMB_TRG_CTL.EN h k) (bits v 0 1))

/-- TRIGGER_ARM (R403): EN written 0 to 1. -/
def execTriggerArm (r : Req) (h : Fin 2) (k : Fin 8) (s : State) : Out :=
  .next (if s.mayWrite r .tmb (some h) ∧ !s.on (F.TMB_TRG_CTL.EN h k) then (s.trgArm h k (s.on (F.TMB_TRG_CTL.PERIODIC h k))).2 else s)

/-- TRIGGER_PERIODIC_WRITE (R403). -/
def execTriggerPeriodicWrite (r : Req) (h : Fin 2) (k : Fin 8) (on : Bool) (s : State) : Out :=
  .next (if s.mayWrite r .tmb (some h) then (s.trgPeriodic h k on).2 else s)

/-- Frames that wait for trigger k of half h become due; a slot whose port has no block lock is dropped (R410). -/
def State.dueFrames (s : State) (h k : Nat) : State :=
  s.each [2 * h, 2 * h + 1] (fun s p => s.each (List.range 4) (fun s q =>
    if s.on (F.TMB_LCH_CFG.ARM p q) ∧ s.rd (F.TMB_LCH_CFG.TRIG p q) = k then
      if s.on (F.TMB_TRK_STAT.LINK p) then s.updTime (fun t => { t with launch := t.launch.erase (p, q) ++ [(p, q)] })
      else s.clr (F.TMB_LCH_CFG.ARM p q)
    else s))

/-- The target after a periodic firing: PER is added, then again until it lies after the current time. -/
def nextTarget (now target per : Nat) : Nat :=
  if now < target + per then target + per else target + per * ((now - target) / per + 1)

/-- A trigger whose target has been reached fires. -/
def State.trgFire (s : State) (h k : Nat) : State :=
  let s := (s.setOn (F.TMB_TRG_CTL.FIRED h k)).count (F.TMB_TRG_CNT.FIRECNT h k)
  let s := if Table.get false s.time.lateArm (8 * h + k) then s.setOn (F.TMB_TRG_CTL.LATE h k) else s
  let s := s.updTime (fun t => { t with
    lateArm := Table.set false t.lateArm (8 * h + k) false,
    due := Table.upd 0 t.due h (fun d => d ||| 2 ^ k),
    trigOut := if s.on (F.TMB_TRG_CTL.OUT h k) then Table.set false t.trigOut (8 * h + k) true else t.trigOut })
  let s := if s.on (F.TMB_TRG_CTL.SNAP h k) then s.raiseSnap 1 else s
  let s := s.dueFrames h k
  if s.on (F.TMB_TRG_CTL.PERIODIC h k) ∧ !s.perBad h k then
    let t := s.tbase h
    let n := nextTarget (t.sec * 1000000000 + t.ns) (s.trgSec h k * 1000000000 + s.trgNs h k) (s.rd (F.TMB_TRG_PER.PER h k))
    (s.wr (F.TMB_TRG_SEC.SEC h k) (n / 1000000000)).wr (F.TMB_TRG_NS.NS h k) (n % 1000000000)
  else s.updTime (fun t => { t with spent := Table.set false t.spent (8 * h + k) true })

/-- TRIGGER_FIRE (R403–R405). -/
def execTriggerFire (h : Fin 2) (k : Fin 8) (s : State) : Out :=
  .next (if s.trgLive h k ∧ s.canReach h (s.trgSec h k) (s.trgNs h k) then
      (s.elapseTo h (s.trgSec h k) (s.trgNs h k)).trgFire h k
    else s)

/-- TRIG_OUT_PULSE_END (R405). -/
def execTrigOutPulseEnd (h : Fin 2) (k : Fin 8) (s : State) : Out :=
  .next (s.updTime (fun t => { t with trigOut := Table.set false t.trigOut (8 * h + k) false }))

/-- TRIG_IN_EDGE (R407): the stamp is the time of the tick less the fixed latency; an input that no pin supplies has no edge (R490). -/
def execTrigInEdge (k : Fin 8) (sec : BitVec 48) (ns : Fin 1000000000) (s : State) : Out :=
  .next (if !s.sigServed (32 + k) then s
  else
    let s := if s.on (F.TMB_TIN_NS.VALID k) then s.setOn (F.TMB_TIN_NS.OVR k) else s
    ((s.setOn (F.TMB_TIN_NS.VALID k)).wr (F.TMB_TIN_NS.NS k) ns).wr (F.TMB_TIN_SEC.SEC k) sec.toNat)

/-- PPS_OUT_END (R408). -/
def execPpsOutEnd (s : State) : Out := .next (s.updTime (fun t => { t with pps := false }))

/-! ## Starts (R29, R405, R406) -/

/-- START_COMPARATOR_FIRE (R406): a job whose engines still preload starts late (R82). -/
def execStartComparatorFire (h : Fin 2) (c : Fin 64) (s : State) : Out :=
  .next (match s.time.starts.find? (fun q => q.half == h.val && q.ctx == c.val && !q.fired) with
    | none => s
    | some q =>
      if s.canReach h q.sec q.ns then
        let s := s.elapseTo h q.sec q.ns
        let s := s.updTime (fun t => { t with
          starts := t.starts.map (fun p => if p.half = h.val ∧ p.ctx = c.val then { p with fired := true } else p) })
        s.each ((s.jobSlots c).filter (fun n => halfOfSlot n = h && s.slotState n = stPreload)) (fun s n =>
          s.updEng n (fun e => { e with late := true }))
      else s)

/-- A waiting engine of the job starts: paused ones will when they resume. -/
def State.startWaiting (s : State) (n : Nat) : State :=
  if s.slotState n = stWait then (s.wr (F.ENG_STAT.STATE n) stRun).noteRun n
  else s.updEng n (fun e => { e with
    resume := if e.resume = stWait then stRun else e.resume, monBack := if e.monBack = stWait then stRun else e.monBack })

/-- ALIGNED_START (R29, R103, R405, R406): registered on a REFCLK edge, firings reach the engines of half h: cause TIME, WAITT,
TIME_REACHED, and the starts of START_AT jobs. `ws`: the cycles that each leader has waited. While ECLK is stopped the actions
have no effect (R404). -/
def execAlignedStart (h : Fin 2) (ws : List (Fin 104 × Nat)) (s : State) : Out :=
  .next (
    let due := Table.get 0 s.time.due h
    let s := s.updTime (fun t => { t with due := Table.set 0 t.due h 0 })
    let fired := ((List.range 8).map (fun k => if bit due k && s.on (F.TMB_TRG_CTL.FIRED h k) then 2 ^ k else 0)).foldl (· + ·) 0
    let s := s.updTime (fun t => { t with reached := Table.upd 0 t.reached h (fun d => d ||| fired) })
    if (s.clk h).stopped ∨ (s.clk h).gated ∨ s.time.refLost then s
    else
      let s := s.each ((slotsOf h).filter (fun n => bit due (s.rd (F.ENG_IRQ.TTRIG n)))) (fun s n => s.raiseCause n 1)
      let s := s.each ((slotsOf h).filter (fun n => s.running n && (match (s.eng n).wait with
          | .waitt k => s.trgFired n k
          | _ => false))) (fun s n => s.leaveWait n (((ws.find? (fun (e : Fin 104 × Nat) => e.1.val = n)).map (·.2)).getD 0))
      let go := s.time.starts.filter (fun q => q.half == h.val && q.fired)
      let s := s.updTime (fun t => { t with starts := t.starts.filter (fun q => !(q.half == h.val && q.fired)) })
      s.each go (fun s q => s.each ((s.jobSlots q.ctx).filter (fun n => halfOfSlot n = h)) (fun s n => s.startWaiting n)))

/-! ## Trunk ports (R397, R398, R400, R405, R410) -/

/-- Byte i of a frame, and the big-endian pair at i. -/
def frameByte (d i : Nat) : Nat := bits d (8 * i) 8
def framePair (d i : Nat) : Nat := frameByte d i * 256 + frameByte d (i + 1)

/-- What a frame is: a PTP message (its offset), an event frame (its payload's offset), or another kind. One VLAN tag is ignored. -/
inductive FrameKind | ptp (at_ : Nat) | evf (at_ : Nat) | other
  deriving DecidableEq, Repr

/-- The headers of Ethernet, IPv4, IPv6 and UDP are those of the standards R397 and R398 name (PRESUMED, log entry 22). -/
def frameKind (d : Nat) : FrameKind :=
  let o := if framePair d 12 = 0x8100 then 16 else 12
  let ty := framePair d o
  let p := o + 2
  let udp := fun (q : Nat) => if framePair d (q + 2) = 319 ∨ framePair d (q + 2) = 320 then FrameKind.ptp (q + 8) else .other
  if ty = 0x88F7 then .ptp p
  else if ty = 0x88B5 then .evf p
  else if ty = 0x0800 ∧ frameByte d (p + 9) = 17 then udp (p + frameByte d p % 16 * 4)
  else if ty = 0x86DD ∧ frameByte d (p + 6) = 17 then udp (p + 40)
  else .other

/-- A PTP message carries a security TLV (0x8009) or an alternate timescale's (0x0009) after its body, from byte i to its end. -/
def ptpTlv (d p end_ : Nat) : Nat → Nat → Bool
  | 0, _ => false
  | n + 1, i =>
    if end_ < i + 4 then false
    else
      let ty := framePair d (p + i)
      ty == 0x8009 || ty == 0x0009 || ptpTlv d p end_ n (i + 4 + framePair d (p + i + 2))

/-- A PTP message that the firmware does not support (R398): management, security TLVs, alternate timescales. The layout is IEEE
1588-2019's (PRESUMED, log entry 22). -/
def ptpOther (d p : Nat) : Bool :=
  let ty := frameByte d p % 16
  let body := match ty with | 0xB => 64 | 0 | 1 | 8 | 0xC => 44 | _ => 54
  ty == 0xD || ptpTlv d p (framePair d (p + 2)) 400 body

/-- A reserved value in an event frame (R401). -/
def evfReserved (d p : Nat) : Bool :=
  frameByte d p != 1 || !(frameByte d (p + 1) == 1 || frameByte d (p + 1) == 2 || frameByte d (p + 1) == 3) ||
  bits d (8 * p + 8 * 14 + 30) 2 != 0 || frameByte d (p + 18) ≥ 8 ||
  (frameByte d (p + 1) != 2 && frameByte d (p + 18) != 0) || bits d (8 * p + 8 * 19) 216 != 0

/-- The PTP firmware settles the port's role (R398): the best master clock algorithm is the standard's, so that the role is free
among LISTENING, MASTER, SLAVE and PASSIVE. -/
def State.ptpRole (s : State) (p : Nat) : State :=
  let q := s.free 2
  q.2.wr (F.TMB_TRK_CFG.ROLE p) (1 + q.1)

/-- The port receives. -/
def State.trkUp (s : State) (p : Nat) : Bool := s.on (F.TMB_TRK_PHY.EN p) && s.on (F.TMB_TRK_STAT.LINK p)

/-- TRUNK_FRAME_RX (R397, R398, R402): a frame of `len` bytes without FCS. PTP messages go to the firmware, which
may change the port's role and whose other results are commands of their own; unsupported messages, other kinds and longer frames are discarded. An event frame without a reserved
value is acted on by the EVF command of its type. -/
def execTrunkFrameRx (p : Fin 4) (len : Nat) (data : Nat) (s : State) : Out :=
  .next (if !s.trkUp p then s
    else if len + 4 > 1518 then s.count (F.TMB_TRK_RXO.RX_OTHER p)
    else match frameKind data with
      | .ptp a =>
        if ptpOther data a then s.count (F.TMB_TRK_RXO.RX_OTHER p)
        else if s.on F.TMB_PTP_CFG.EN then s.ptpRole p else s
      | .evf a => if evfReserved data a then s.count F.TMB_EVF_STAT.REJ else s
      | .other => s.count (F.TMB_TRK_RXO.RX_OTHER p))

/-- Is an event frame accepted (R402)? SEQ is newer in 32-bit serial arithmetic than the last accepted of its TYPE. -/
def State.evfOk (s : State) (p ty group seq : Nat) : Bool :=
  let last := Table.get 0 s.time.evfSeq ty
  let d := (seq + 2 ^ 32 - (last - 1)) % 2 ^ 32
  s.on F.TMB_EVF_CFG.EN && s.on (F.TMB_TRK_CFG.EVF_EN p) && group == s.rd F.TMB_EVF_CFG.GROUP &&
  (last == 0 || (d != 0 && decide (d < 2 ^ 31)))

/-- Accept an event frame and act, or reject and count it. -/
def State.evf (s : State) (p ty group seq : Nat) (act : State → State) : State :=
  if !s.trkUp p then s
  else if s.evfOk p ty group seq then
    act ((s.count F.TMB_EVF_STAT.ACC).updTime (fun t => { t with evfSeq := Table.set 0 t.evfSeq ty (1 + seq) }))
  else s.count F.TMB_EVF_STAT.REJ

/-- EVF_HALT (R402). -/
def execEvfHalt (p : Fin 4) (group : BitVec 16) (seq : Word32) (sec : BitVec 48) (ns : BitVec 30) (s : State) : Out :=
  .next (s.evf p 1 group.toNat seq.toNat (fun s => s.updTime (fun t => { t with halts := t.halts ++ [(sec.toNat, ns.toNat)] })))

/-- A running or paused PATTERN job stops as under ABORT (R60, R402). -/
def State.haltPattern (s : State) (n : Nat) : State :=
  match s.front n with
  | some t =>
    if dType t.desc ≠ 2 then s
    else if t.restart then s.updFront n (fun k => { k.fail 0x10 0 with restart := false })
    else if t.phase = .running ∧ !s.allHalted n ∧ !t.settled then (s.failFront n 0x10 0).stopJob n
    else s
  | none => s

/-- EVF_HALT_ACTION (R402): the action time of the k-th HALT to come. -/
def execEvfHaltAction (k : Nat) (s : State) : Out :=
  .next (match s.time.halts[k]? with
    | none => s
    | some q =>
      if s.canReach s.refHalf q.1 q.2 then
        let s := (s.elapseTo s.refHalf q.1 q.2).updTime (fun t => { t with halts := t.halts.eraseIdx k })
        s.each ((List.range 64).filter (fun n => bit (s.rd F.TMB_EVF_CTX.CTX) n)) (fun s n => s.haltPattern n)
      else s)

/-- EVF_START (R402): both halves' trigger is disarmed, loaded and armed. -/
def execEvfStart (p : Fin 4) (group : BitVec 16) (seq : Word32) (sec : BitVec 48) (ns : BitVec 30) (k : Fin 8) (s : State) : Out :=
  .next (s.evf p 2 group.toNat seq.toNat (fun s => s.each [0, 1] (fun s h =>
    let s := ((s.clr (F.TMB_TRG_CTL.EN h k)).wr (F.TMB_TRG_SEC.SEC h k) sec.toNat).wr (F.TMB_TRG_NS.NS h k) ns.toNat
    (s.trgArm h k (s.on (F.TMB_TRG_CTL.PERIODIC h k))).2)))

/-- EVF_SYNC (R27, R402): the moment of a pending APPLY with ALIGN_SRC 0b01. -/
def execEvfSync (p : Fin 4) (group : BitVec 16) (seq : Word32) (sec : BitVec 48) (ns : BitVec 30) (s : State) : Out :=
  .next (s.evf p 3 group.toNat seq.toNat (fun s =>
    if [0, 1].any (fun h => s.applyPending h && s.eff (F.GLB_ECLK_CTL.ALIGN_SRC h) == 1) then
      s.updTime (fun t => { t with syncs := t.syncs ++ [(sec.toNat, ns.toNat)] })
    else s))

/-- A timestamp enters a port's queue of 64, or is dropped (R400). -/
def State.pushStamp (s : State) (p : Nat) (t : Stamp) : State :=
  let q := Table.get [] s.time.tsq p
  if q.length ≥ 64 then (s.setOn (F.TMB_TRK_STAT.TSQ_OVF p)).count (F.TMB_TRK_STAT.TSQ_DROP p)
  else (s.updTime (fun x => { x with tsq := Table.set [] x.tsq p (q ++ [t]) })).wr (F.TMB_TRK_STAT.TSQ_LEVEL p) (q.length + 1)

/-- The supervisor takes the oldest timestamp of port p; a launch slot's goes to its TS registers (R400). -/
def State.takeStamp (s : State) (p : Nat) : State :=
  match Table.get [] s.time.tsq p with
  | [] => s
  | t :: rest =>
    let s := (s.updTime (fun x => { x with tsq := Table.set [] x.tsq p rest })).wr (F.TMB_TRK_STAT.TSQ_LEVEL p) rest.length
    match t.slot with
    | some q =>
      ((((s.wr (F.TMB_LCH_TS0.NS p q) t.ns).wr (F.TMB_LCH_TS1.SEC_LO p q) t.sec).wr (F.TMB_LCH_TS2.SEC_HI p q) (t.sec / 2 ^ 32)).wr
        (F.TMB_LCH_TS2.FRAC p q) t.frac).setOn (F.TMB_LCH_CFG.TS_VALID p q)
    | none => s

/-- The FCS of IEEE 802.3, a reflected CRC-32. -/
def fcsBit (c : Nat) : Nat := if c % 2 = 1 then (c / 2) ^^^ 0xEDB88320 else c / 2
def fcsRun (c : Nat) : Nat → Nat → Nat
  | 0, _ => c
  | n + 1, v => fcsRun (fcsBit (fcsBit (fcsBit (fcsBit (fcsBit (fcsBit (fcsBit (fcsBit (c ^^^ v % 256))))))))) n (v / 256)
def fcs (n v : Nat) : Nat := fcsRun 0xFFFFFFFF n v ^^^ 0xFFFFFFFF

/-- The frame in a launch buffer, padded to 60 bytes, with its FCS. A reserved LEN acts as the reset value (R9). -/
def State.launchFrame (s : State) (p q : Nat) : Frame :=
  let n := s.eff (F.TMB_LCH_CFG.LEN p q)
  let d := Memory.readN s.time.bufs (p * 0x2000 + q * 0x800) n
  let m := max 60 n
  ⟨p, m + 4, d + fcs m d * 2 ^ (8 * m)⟩

/-- LAUNCH_FRAME_SEND (R399, R400, R405, R410): the time of the block boundary at which the frame starts, in ns and 1/16 ns. -/
def execLaunchFrameSend (p : Fin 4) (q : Fin 4) (sec : BitVec 48) (ns : Fin 1000000000) (frac : Fin 16) (s : State) : Out :=
  .next (if s.time.launch.contains (p.val, q.val) then
      let s := s.updTime (fun t => { t with launch := t.launch.erase (p.val, q.val), sent := t.sent ++ [s.launchFrame p q] })
      let s := ((s.setOn (F.TMB_LCH_CFG.SENT p q)).clr (F.TMB_LCH_CFG.ARM p q)).clr (F.TMB_LCH_CFG.TS_VALID p q)
      if s.on (F.TMB_LCH_CFG.TS_REQ p q) then
        let e := ns.val * 16 + frac.val + s.rd (F.TMB_TRK_LAT.EGR_LAT p)
        let t : Stamp := ⟨some q, (sec.toNat + e / 16000000000) % 2 ^ 48, e % 16000000000 / 16, e % 16⟩
        s.pushStamp p t
      else s
    else s)

/-- PCS_BLOCK_LOCK_CHANGE (R410): an enabled port gains or loses block lock. -/
def execPcsBlockLockChange (p : Fin 4) (lock : Bool) (s : State) : Out :=
  .next (if s.on (F.TMB_TRK_PHY.EN p) then s.wr (F.TMB_TRK_STAT.LINK p) (b2n lock) else s)

/-! ## Register writes with rules of their own (R410, R411) -/

/-- NS, SEC and PER of a trigger are not written while EN = 1. -/
def State.trgOpen (s : State) (h k : Nat) : Bool := !s.on (F.TMB_TRG_CTL.EN h k)

/-- A write of TMB_LCH_p_s_CFG: LEN and TRIG are kept while ARM = 1. -/
def State.lchWrite (s : State) (p q v : Nat) : State :=
  let s := if s.on (F.TMB_LCH_CFG.ARM p q) then s
    else (s.wr (F.TMB_LCH_CFG.LEN p q) (bits v 0 11)).wr (F.TMB_LCH_CFG.TRIG p q) (bits v 11 3)
  let s := (s.wr (F.TMB_LCH_CFG.TS_REQ p q) (bits v 14 1)).wr (F.TMB_LCH_CFG.ARM p q) (bits v 15 1)
  if bit v 16 then s.clr (F.TMB_LCH_CFG.SENT p q) else s

/-- A write of 32 bits in a launch buffer: discarded while ARM = 1. -/
def State.lchBufWrite (s : State) (p q a v : Nat) : State :=
  if s.on (F.TMB_LCH_CFG.ARM p q) then s
  else s.updTime (fun t => { t with bufs := Memory.writeN t.bufs (p * 0x2000 + q * 0x800 + a) 4 v })

/-- A write of TMB_TRK_PHY_p: a disabled port has no block lock and its role is DISABLED. -/
def State.phyWrite (s : State) (p v : Nat) : State :=
  let s := (s.wr (F.TMB_TRK_PHY.FEC p) (bits v 1 1)).wr (F.TMB_TRK_PHY.EN p) (bits v 0 1)
  if bit v 0 then s else (s.clr (F.TMB_TRK_STAT.LINK p)).wr (F.TMB_TRK_CFG.ROLE p) 0

end Sys2Proof.Machine
end

