-- ==== Sys2Proof/Machine/Avail.lean ====
section
/-! DEFINITION. Faults, fences and reinstatement, spare substitution, the echo and the lantern, snapshots and wear (R412–R439). -/

namespace Sys2Proof.Machine

/-! ## Fences of controllers (R22, R417, R426) -/

/-- Fence a bay controller. -/
def State.fenceBay (s : State) (b cause : Nat) : State :=
  if s.isFenced (144 + b) then s.markFenced (144 + b) cause
  else
    let s := s.markFenced (144 + b) cause
    (s.postRes 8 b (s.rd (F.SUP_UNIT_EPOCH.FEP (144 + b)))).updDegraded

/-- FAULT_N is asserted when both supervisors are fenced (R416). -/
def State.bothOut (s : State) : State :=
  if s.isFenced 216 && s.isFenced 217 then s.setOn F.GLB_STATE.FAULT else s

/-- Fence a supervisor. -/
def State.fenceSup (s : State) (h cause : Nat) : State :=
  if s.isFenced (216 + h) then s.markFenced (216 + h) cause
  else
    let s := (s.markFenced (216 + h) cause).setOn F.SUP_STAT.PARTNER_FENCED
    ((s.postRes 9 h (s.rd F.SUP_CUST_EPOCH.CUR)).updDegraded).bothOut

/-- Some controller can act on the agents of bay b: its own, or a supervisor (R20, R22). -/
def State.ctlAlive (s : State) (b : Nat) : Bool := !s.isFenced (144 + b) || !s.isFenced 216 || !s.isFenced 217

/-- The supervisors' firmware runs in some half. -/
def State.firmwareUp (s : State) : Bool := (s.sup 0).booted || (s.sup 1).booted

/-- The bay of a unit among slots, channel groups, DRAM interfaces. -/
def unitBay (u : Nat) : Nat := if u < 104 then u / 13 else if u < 136 then (u - 104) / 4 else if u < 144 then u - 136 else u - 144

/-! ## Faults (R414, R415) -/

/-- An agent or bay controller that did not answer a heartbeat. A faulty interface is removed as one without a working setting
(R250). -/
def State.missed (s : State) (u : Nat) : State :=
  if s.isFenced u then s
  else if u < 104 then (s.setOn (F.ENG_ERR.HB_MISS u)).fenceSlot u 3
  else if u < 136 then s.fenceGroup (u - 104) 3
  else if u < 144 then s.updDmc (u - 136) (fun d => { d with noSet := true })
  else if Table.get false s.hbMiss (u - 144) then s.fenceBay (u - 144) 3
  else { s with hbMiss := Table.set false s.hbMiss (u - 144) true }

/-- HEARTBEAT (R415): the units 0–151 that did not answer in this period; two misses in a row for a bay controller. -/
def execHeartbeat (silent : List (Fin 152)) (s : State) : Out :=
  .next (if !s.firmwareUp then s
    else
      let heard := (List.range 8).filter (fun b => !(silent.any (fun u => u.val == 144 + b)))
      let s := { s with hbMiss := heard.foldl (fun t b => Table.set false t b false) s.hbMiss }
      s.each ((silent.map (fun (u : Fin 152) => u.val)).filter (fun u => if u < 144 then s.ctlAlive (unitBay u) else
        !s.isFenced 216 || !s.isFenced 217)) (fun s u => s.missed u))

/-- An error of slot n itself, at the entry in D (R112). -/
def State.errOwn (s : State) (n : Nat) (f : Fld) : State := (s.setOn f).wr (F.ENG_ERR.ERR_PC n) (s.rd (F.ENG_STAT.PC n))

/-- ENGINE_FAULT (R82, R112, R414): a pipeline parity error, or what the check bits of an entry of the slot's sequence cache show: a
corrected one is no fault and only counts. -/
def execEngineFault (n : Fin 104) (cache : Option Ecc) (s : State) : Out :=
  .next (match cache with
    | some .clean => s
    | some .corrected => s.count (F.ENG_PERF.CE n)
    | some .bad => if s.isFenced n ∨ !s.ctlAlive (unitBay n) then s else (s.errOwn n (F.ENG_ERR.SEQ_UE n)).fenceSlot n 2
    | none => if s.isFenced n ∨ !s.ctlAlive (unitBay n) then s else (s.errOwn n (F.ENG_ERR.PARITY n)).fenceSlot n 1)

/-- CHANNEL_GROUP_FAULT (R414): SER_LOCK of channel c falls, in serial mode while ECLK runs. -/
def execChannelGroupFault (c : Fin 256) (s : State) : Out :=
  .next (if s.serial c ∧ s.on (F.CHN_STAT.SER_LOCK c) ∧ s.on (F.GLB_ECLK_CTL.LOCKED (selH c)) then
      (s.clr (F.CHN_STAT.SER_LOCK c)).fenceGroup (c / 8) 4
    else s)

/-- VCC_CH_FAIL (R503): every bay controller fences its channel groups. Which CAUSE they read is not stated: a free value. -/
def execVccChFail (s : State) : Out :=
  .next ({ s with vccCh := false }.each (List.range 32) (fun s g =>
    if s.ctlAlive (g / 4) then
      let q := s.free 6
      q.2.fenceGroup g q.1
    else s))

/-- VCC_CH_VALID (R170): from now until service with DONE high the channels hold E deasserted and D at 0; fenced groups return
only by reinstatement (R503). -/
def execVccChValid (s : State) : Out :=
  .next (if s.vccCh then s
    else { s with vccCh := true }.each (List.range 256) (fun s c => s.updChan c ChanSt.off))

/-! ## Gates and reinstatement (R419–R421) -/

/-- The fence epoch of unit u, and the unit's own copy. -/
def State.fep (s : State) (u : Nat) : Nat := s.rd (F.SUP_UNIT_EPOCH.FEP u)
def State.ownFep (s : State) (u : Nat) : Nat := Table.get 0 s.ownEp u + 1

/-- The unit's own epoch is set equal to FEP: its gates open. -/
def State.openGates (s : State) (u : Nat) : State := { s with ownEp := Table.set 0 s.ownEp u (s.fep u - 1) }

/-- A gate passes an output only with the present epoch, from a unit that is not fenced. -/
def State.gatePasses (s : State) (u ep : Nat) : Bool := ep == s.fep u && !s.isFenced u

/-- GATE_DROP (R419, R420): an output reaches a gate of unit u with the unit's own epoch, or, if it was still in flight, with the
epoch `old`; one that passes is no drop. The first drop in any second posts FENCED_TALK. -/
def execGateDrop (u : Fin 218) (old : Option Word32) (s : State) : Out :=
  .next (
    let ep := match old with | some e => e.toNat | none => s.ownFep u
    if s.gatePasses u ep then s
    else
      let s := s.count (F.SUP_UNIT_STAT.FTALK u)
      let sec := (s.tbase s.holder).sec + 1
      if Table.get 0 s.talk u = sec then s
      else { s with talk := Table.set 0 s.talk u sec }.postRes 0xF u (s.rd (F.SUP_UNIT_STAT.FTALK u)))

/-- The unit that REINST names; a reserved number acts as the reset value (R9). -/
def State.reinstU (s : State) : Nat := s.eff F.SUP_CTL.REINST_U

/-- A reinstatement is refused or has failed. -/
def State.reinstFail (s : State) : State := (s.setOn F.SUP_STAT.REINST_FAIL).clr F.SUP_CTL.REINST

/-- A write of REINST: a fenced unit begins its self-test. A DRAM interface is not reinstated, a fabric endpoint is not
reinstated here, a channel group needs idle channels. -/
def State.reinst (s : State) : State :=
  let u := s.reinstU
  if s.on F.SUP_CTL.REINST ∨ s.rd (F.SUP_UNIT_STAT.STATE u) ≠ 1 ∨ (152 ≤ u ∧ u < 216) then s
  else if 136 ≤ u ∧ u < 144 then s.reinstFail
  else if 104 ≤ u ∧ u < 136 ∧ !((List.range 8).all (fun i => s.chIdle (8 * (u - 104) + i))) then s.reinstFail
  else (s.setOn F.SUP_CTL.REINST).wr (F.SUP_UNIT_STAT.STATE u) 2

/-- REINSTATE (R421): SUP_CTL is written with REINST_U = u and REINST = 1. -/
def execReinstate (r : Req) (u : Fin 256) (s : State) : Out :=
  .next (if s.mayWrite r .sup then (if s.on F.SUP_CTL.REINST then s else (s.wr F.SUP_CTL.REINST_U u).reinst) else s)

/-- The unit that passed returns: a slot as a spare, a supervisor as standby, a group and a bay controller to their own. The
mirrors of a returning supervisor's half are brought up to date, so that it can take custody (R65, R67; log entry 12). -/
def State.returnUnit (s : State) (u : Nat) : State :=
  let s := (((s.wr (F.SUP_UNIT_STAT.STATE u) 0).wr (F.SUP_UNIT_STAT.CAUSE u) 0).openGates u).clr F.SUP_CTL.REINST
  let s :=
    if u < 104 then
      (((s.wr (F.ENG_MAP.LE u) 0x7F).clr (F.ENG_MAP.FENCED u)).wr (F.ENG_STAT.STATE u) stSpare).updEng u (fun _ => Engine.reset)
    else if u < 136 then
      s.each (List.range 8) (fun s i => (s.clr (F.CHN_STAT.FENCED (8 * (u - 104) + i))).restChan (8 * (u - 104) + i))
    else if 216 ≤ u then
      let s := (s.clr F.SUP_STAT.PARTNER_FENCED).updSup (u - 216) (fun x => { SupSt.reset with booted := true, epoch := x.epoch })
      s.each ((List.range 64).filter (fun n => s.on (F.HIF_CTX_CFG.EN n))) (fun s n => s.writeMirrors n)
    else s
  (s.postRes 0xE u (s.fep u)).updDegraded

/-- REINSTATE_DONE (R421). A channel group cannot return before VCC_CH is valid again (R503). -/
def execReinstateDone (pass : Bool) (s : State) : Out :=
  .next (
    let u := s.reinstU
    if !s.on F.SUP_CTL.REINST ∨ s.rd (F.SUP_UNIT_STAT.STATE u) ≠ 2 then s
    else if pass ∧ (104 ≤ u ∧ u < 136 → s.vccCh) then s.returnUnit u
    else (s.wr (F.SUP_UNIT_STAT.STATE u) 1).reinstFail)

/-! ## Spare substitution (R75, R422–R425) -/

/-- What the job of context c staged is out of the fail path: buffers empty, cache lines written back (R229, steps 1–4). -/
def State.drained (s : State) (c : Nat) : Bool :=
  s.jobStill c &&
  (List.range 8).all (fun b => ((s.bay b).buf ++ (s.bay b).queue).all (fun e => e.ctx != c)) &&
  [0, 1].all (fun h => (Table.get [] s.fcc h).all (fun l => !bit l.ctxs c))

/-- Every engine of the job of context c preloads (R82, R423, step 7). -/
def State.preloadJob (s : State) (c : Nat) : State :=
  match s.front c with
  | some j => s.each ((jobLes j.desc).filterMap s.slotOf) (fun s m => s.preload m (dSeqAddr j.desc))
  | none => s

/-- The substitution of slot n finds a spare, or none (steps 5–7, R422, R433). -/
def State.substitute (s : State) (q : Subst) : State :=
  let drop := fun (s : State) => { s with substs := s.substs.filter (fun (p : Subst) => p.slot ≠ q.slot) }
  match s.spareFor q.slot with
  | none =>
    let s := (drop s).postRes 3 q.le 0
    let s := match q.ctx with
      | some c => s.updFront c (fun j => if j.restart then { j.fail 0x12 0x20D with restart := false } else j)
      | none => s
    s.updDegraded
  | some m =>
    let s := s.copyLe q.slot m
    let s := ((s.wr (F.ENG_MAP.LE q.slot) 0x7F).wr (F.ENG_MAP.LE m) q.le).wr (F.ENG_STAT.STATE m) stIdle
    let s := (s.postRes 2 (q.le + q.slot * 2 ^ 8 + m * 2 ^ 16) (s.fep q.slot)).updDegraded
    let s := s.updEng m (fun e => { e with spared := true, wasLe := 0 })
    match q.ctx with
    | some c =>
      let s := { s with
        substs := s.substs.map (fun (p : Subst) => if p.slot = q.slot then { p with spare := m, moved := true } else p) }
      (s.updJobEng c q.le (fun g => { g with spared := true })).preloadJob c
    | none => drop s

/-- SUBSTITUTION_DRAIN_DONE (R423, steps 4–7): the lantern holder acts. A fenced slot that kept its logical engine for want of
a spare is substituted later, once there is one (R422). -/
def execSubstitutionDrainDone (n : Fin 104) (s : State) : Out :=
  .next (match s.substs.find? (fun q => q.slot == n.val && !q.moved) with
    | none =>
      if s.served ∧ s.on F.SUP_CTL.SPARE_EN ∧ s.slotState n = stFenced ∧ s.leOf n ≠ 0x7F ∧ (s.spareFor n).isSome then
        s.substitute ⟨n, s.leOf n, none, 0, false⟩
      else s
    | some q =>
      if !s.served then s
      else match q.ctx with
        | none => s.substitute q
        | some c => if s.drained c then s.substitute q else s)

/-- SUBSTITUTION_RESTART (R423, step 8; R424, R425): the job runs again from SEQ_ADDR on the same logical engines; a paused one
waits for its RESUME; one that has completed leaves the spare ready. -/
def execSubstitutionRestart (c : Fin 64) (s : State) : Out :=
  .next (
    let mine := s.substs.filter (fun q => q.ctx == some c.val)
    if mine.isEmpty ∨ mine.any (fun q => !q.moved) ∨ !s.served then s
    else
      let done := fun (s : State) => { s with substs := s.substs.filter (fun (q : Subst) => q.ctx != some c.val) }
      match s.front c with
      | none => done s
      | some j =>
        if !j.restart then done s
        else if j.paused ∨ !s.drained c then s
        else
          let slots := (jobLes j.desc).filterMap (fun le => (s.slotOf le).map (fun m => (le, m)))
          let s := (done s).each (s.jobSlots c) (fun s m => s.freeSlot m)
          let s := s.updFront c (fun k => { (k.flag 0).flag 4 with redisp := k.redisp + 1, restart := false })
          let s := s.launch c j slots false
          s.each slots (fun s e => (s.wr (F.ENG_STAT.STATE e.2) stRun).noteRun e.2))

/-! ## Echo and the lantern (R426–R430) -/

/-- A supervisor runs its firmware and is not fenced. -/
def State.supUp (s : State) (h : Nat) : Bool := (s.sup h).booted && !s.isFenced (216 + h)

/-- A failover of half h is under way (R428, R518): its supervisor holds custody and is fenced, or its partner has declared it silent. -/
def State.failover (s : State) (h : Nat) : Bool :=
  s.on F.SUP_STAT.LANTERN_VALID && s.holder == h &&
    (s.isFenced (216 + h) || (s.supUp (1 - h) && decide ((s.sup (1 - h)).silent ≥ 3)))

/-- The RESUMEs and STEPs that a failover held are executed once it is over (R518). -/
def State.heldRuns (s : State) : State :=
  s.each ((List.range 104).filter (fun n => (s.eng n).dbgHeld.isSome && !s.failover (halfOfSlot n))) (fun s n =>
    match (s.eng n).dbgHeld with
    | some k =>
      let s := s.updEng n (fun e => { e with dbgHeld := none })
      if s.inMon n then s.monGo n k else s
    | none => s)

/-- ECHO_SEND (R426): the message's sequence number and the sideband wire. -/
def execEchoSend (h : Fin 2) (s : State) : Out :=
  .next (if (s.sup h).booted then s.updSup h (fun x => { x with seq := (x.seq + 1) % 2 ^ 32, wire := !x.wire }) else s)

/-- ECHO_LOST and SIDEBAND_LOST follow three consecutive periods without the one path while the other serves (R430). -/
def State.echoPaths (s : State) (h : Nat) : State :=
  let x := s.sup h
  let e := decide (x.echoOff ≥ 3) && decide (x.wireOff = 0)
  let w := decide (x.wireOff ≥ 3) && decide (x.echoOff = 0)
  let was := (s.on F.SUP_STAT.ECHO_LOST, s.on F.SUP_STAT.SIDEBAND_LOST)
  let s := (s.wr F.SUP_STAT.ECHO_LOST (b2n e)).wr F.SUP_STAT.SIDEBAND_LOST (b2n w)
  let s := if (e && !was.1) || (w && !was.2) then s.postRes 0xA (b2n e + 2 * b2n w) 0 else s
  s.updDegraded

/-- ECHO_PERIOD_CHECK (R426, R428, R430): what supervisor h received in the period. Silence over three periods: the holder
fences the standby; the standby is to advance. -/
def execEchoPeriodCheck (h : Fin 2) (echo wire : Bool) (s : State) : Out :=
  .next (if !s.supUp h ∨ !(s.sup (1 - h.val)).booted ∨ s.isFenced (217 - h.val) then s
    else
      let s := if echo then s else s.count (F.SUP_ECHO.MISS h)
      let s := if wire then s else s.count (F.SUP_ECHO.SB_MISS h)
      let s := s.updSup h (fun x => { x with
        silent := if echo || wire then 0 else min 3 (x.silent + 1),
        echoOff := if echo then 0 else min 3 (x.echoOff + 1), wireOff := if wire then 0 else min 3 (x.wireOff + 1) })
      let s := s.echoPaths h
      if (s.sup h).silent < 3 then s.heldRuns
      else if s.on F.SUP_STAT.LANTERN_VALID ∧ s.holder = h.val then s.fenceSup (1 - h.val) 7
      else s)

/-- CUSTODY_PREF. -/
def State.custodyPref (s : State) : Nat := bits (s.rd F.GLB_STRAP.STRAPS) 2 1

/-- ECHO_RX (R430): a message reaches supervisor h. If both claim the lantern the higher epoch wins, on equal epochs
CUSTODY_PREF; the loser drops to standby and waits as fenced. -/
def execEchoRx (h : Fin 2) (s : State) : Out :=
  .next (
    let a := s.sup h
    let b := s.sup (1 - h.val)
    if !(a.booted && b.booted && a.claims && b.claims) then s
    else
      let win := if a.epoch > b.epoch then h.val else if b.epoch > a.epoch then 1 - h.val else s.custodyPref
      (s.updSup (1 - win) (fun x => { x with claims := false })).fenceSup (1 - win) 7)

/-- The commit unit takes a claim (R427): CUR and the holder change, and with it the reference half (R387, R409). A custody change is a fault event (R434). -/
def State.takeLantern (s : State) (h e : Nat) : State :=
  let s := ((s.wr F.SUP_CUST_EPOCH.CUR e).wr F.SUP_STAT.HOLDER h).setOn F.SUP_STAT.LANTERN_VALID
  ((s.wr F.TMB_STAT.REF h).wr F.TMB_INC.INC (s.tbase h).inc).updSup h (fun x => { x with epoch := e, claims := true, retry := false, silent := 0 })

/-- CUSTODY_CLAIM (R427): the first claim, by the preferred supervisor, or by the other if that failed its self-test. -/
def execCustodyClaim (h : Fin 2) (s : State) : Out :=
  .next (
    let p := s.custodyPref
    let turn := if s.supUp p then h.val == p else s.isFenced (216 + p)
    if s.on F.SUP_STAT.LANTERN_VALID ∨ s.rd F.SUP_CUST_EPOCH.CUR ≠ 0 ∨ !s.supUp h ∨ !turn ∨
        !(s.supUp (1 - h.val) || s.isFenced (217 - h.val)) then s
    else s.takeLantern h 1)

/-- An ADVANCE(e, h) (R427, R428, R430): it must reach the commit unit and name CUR + 1; then the old holder is fenced and the
new one has contexts to reconcile. -/
def State.advance (s : State) (h e : Nat) (reach : Bool) : State :=
  if !reach then (s.setOn F.SUP_STAT.ADV_FAIL).updSup h (fun x => { x with retry := true })
  else
    let cur := s.rd F.SUP_CUST_EPOCH.CUR
    if cur = 0xFFFFFFFF then
      ((s.setOn F.GLB_STATE.FAULT).updSup h (fun x => { x with retry := false, silent := 0 })).heldRuns
    else if e ≠ cur + 1 then (s.updSup h (fun x => { x with retry := false, silent := 0 })).heldRuns
    else
      let s := ((s.takeLantern h e).updSup h (fun x => { x with recon := true })).raiseSnap 3
      (s.fenceSup (1 - h) 7).heldRuns

/-- May supervisor h advance: a standby that has declared the holder silent? -/
def State.mayAdvance (s : State) (h : Nat) : Bool :=
  s.supUp h && s.on F.SUP_STAT.LANTERN_VALID && s.holder != h && decide ((s.sup h).silent ≥ 3)

/-- CUSTODY_ADVANCE (R427, R428). -/
def execCustodyAdvance (h : Fin 2) (e : Word32) (reach : Bool) (s : State) : Out :=
  .next (if s.mayAdvance h ∧ !(s.sup h).retry then s.advance h e.toNat reach else s)

/-- ADVANCE_RETRY (R430). -/
def execAdvanceRetry (h : Fin 2) (e : Word32) (reach : Bool) (s : State) : Out :=
  .next (if s.mayAdvance h ∧ (s.sup h).retry then s.advance h e.toNat reach else s)

/-- COMMIT_UNIT_WRITE (R427, R430): a write by a supervisor that has lost custody is discarded and counted; on that refusal it
claims nothing further. A holder's own writes are the effects of other commands. -/
def execCommitUnitWrite (h : Fin 2) (s : State) : Out :=
  .next (if (s.sup h).claims ∧ (s.sup h).epoch ≠ s.rd F.SUP_CUST_EPOCH.CUR then
      (s.count F.SUP_CUST_STALE.STALE).updSup h (fun x => { x with claims := false })
    else s)

/-- One context at a custody change (R429): the mirror of the holder's half, or the host's entry when its CRC fails; COMPLETED
over valid records; the ledger with LGEN + 1. Unfinished jobs go on as they stand. -/
def State.adopt (s : State) (n : Nat) (entry : Nat) (cq : List (BitVec 256)) : State :=
  let m := s.bankRead s.holder (mirrorAddr n) 32
  let e := if ledgerOk m then m else entry
  let acc := bits e 0 64
  let cmp := scanCq cq (s.ringN n) acc (acc - bits e 64 64) (bits e 64 64)
  let s := (s.wr (F.HIF_CTX_ACC.ACC n) acc).wr (F.HIF_CTX_CMP.CMP n) cmp
  let s := s.updCtx n (fun x => { x with
    lgen := (bits e 128 32 + 1) % 2 ^ 32, batch := [], jobs := x.jobs.filter (fun j => cmp < j.seq && j.seq ≤ acc) })
  (s.writeMirrors n).writeLedger n

/-- CUSTODY_RECONCILE (R428, R429): the new holder reconciles every enabled context, then posts CUSTODY_CHANGE on every enabled
function's ring. `host`: the host's ledger entry and completion ring of each context. -/
def execCustodyReconcile (host : List (BitVec 256 × List (BitVec 256))) (s : State) : Out :=
  .next (
    let h := s.holder
    if !s.served ∨ !(s.sup h).recon then s
    else
      let s := s.each ((List.range 64).filter s.ctxLive) (fun s n =>
        let e := host.getD n (0, [])
        s.adopt n e.1.toNat e.2)
      let s := s.updSup h (fun x => { x with recon := false })
      s.each ((List.range 33).filter (fun f => s.on (F.HIF_FN_CFG.EN f))) (fun s f =>
        s.post f ⟨none, 5, 0, s.rd F.SUP_CUST_EPOCH.CUR, 0⟩))

/-! ## Snapshots (R434–R436, R439) -/

/-- SNP_FIRE (R434). -/
def execSnpFire (r : Req) (s : State) : Out := .next (if s.mayWrite r .snp then s.raiseSnap 5 else s)

/-- SNAP_IN_EDGE (R434): the signal comes from a pin that carries it (R490, R493). -/
def execSnapInEdge (s : State) : Out := .next (if s.sigServed 48 then s.raiseSnap 2 else s)

/-- SNP_RELEASE (R439). -/
def execSnpRelease (r : Req) (s : State) : Out := .next (if s.mayWrite r .snp then s.clr F.SNP_STAT.HELD else s)

/-- SNAP_OUT_END (R435). -/
def execSnapOutEnd (s : State) : Out := .next { s with snap := { s.snap with outHigh := false } }

/-- Fields of a record: byte offset, width in bits, value. -/
def packRec (l : List (Nat × Nat × Nat)) : Nat := (l.map (fun e => e.2.2 % 2 ^ e.2.1 * 2 ^ (8 * e.1))).foldl (· + ·) 0

/-- The header of the present snapshot's records. -/
def State.snapHead (s : State) (gen : Nat) : Nat :=
  packRec [(0, 32, gen), (4, 30, s.snap.ns), (8, 32, s.snap.sec), (12, 32, s.snap.sec / 2 ^ 32 % 2 ^ 16 + 2 ^ 31)]

/-- An engine slot's record. What a gang shares is its leader's. -/
def State.snapEng (s : State) (n : Nat) : Nat :=
  let l := s.eng (s.leaderOf n)
  let e := s.eng n
  packRec ([
    (0x10, 32, s.rd (F.ENG_STAT.PC n) + s.slotState n * 2 ^ 17 + s.rd (F.ENG_STAT.STALL n) * 2 ^ 20 +
      s.rd (F.ENG_STAT.PROV n) * 2 ^ 24 + s.rd (F.ENG_STAT.IN_HANDLER n) * 2 ^ 25 + s.rd (F.ENG_STAT.LOCKED n) * 2 ^ 26 +
      s.rd (F.ENG_STAT.SP n) * 2 ^ 27),
    (0x14, 32, (l.brs.filter (·.isBr)).length % 2 ^ 7 + s.rd (F.FPU_SPX_SUMP.USED n) % 2 ^ 11 * 2 ^ 7 + l.dsc * 2 ^ 18),
    (0x18, 17, l.repc), (0x1C, 17, l.dst), (0x20, 24, e.x), (0x24, 24, e.y), (0x28, 64, e.lfsr)] ++
    (List.range 8).map (fun k => (0x30 + 4 * k, 32, Table.get 0 l.cnt k)) ++
    [(0x50, 64, s.rd (F.ENG_CYC.CYC n)), (0x58, 32, s.fep n)])

/-- 32 bits of a register as they stand. -/
def State.regWord (s : State) (off : Nat) : Nat :=
  match regAt off with
  | some p => s.loadReg p.def_ p.addr (8 * (off - p.addr)) 32
  | none => 0

/-- A channel's record. -/
def State.snapChan (s : State) (c : Nat) : Nat :=
  packRec [(0x10, 32, (s.chan c).role + s.rd (F.CHN_CFG.MODE c) * 2 ^ 4 + s.rd (F.CHN_STAT.FENCED c) * 2 ^ 6),
    (0x14, 2, (s.chan c).last), (0x18, 64, s.rd (F.FPU_FCNT.FCNT c)), (0x20, 32, s.regWord (0xC00008 + c * 0x2000))]

/-- TMB_NOW as half h's timebase stands. -/
def State.nowWord (s : State) (h off : Nat) : Nat :=
  let t := s.tbase h
  match off with
  | 0x1C00008 => t.frac
  | 0x1C0000C => t.ns
  | 0x1C00010 => t.sec % 2 ^ 32
  | 0x1C00014 => t.sec / 2 ^ 32
  | o => s.regWord o

/-- The status registers (every field read only or cleared by its reader) of the block of record i ≥ 360, in the order of its
register map, at most 28 words. -/
def statusOffsets (i : Nat) : List Nat :=
  let run := fun (b n : Nat) => (List.range n).map (fun k => b + 4 * k)
  if i < 368 then let b := 0x1400000 + (i - 360) * 0x10000; run (b + 4) 2 ++ run (b + 0x28) 14
  else if i < 376 then run (0x1010004 + (i - 368) * 0x100) 2
  else if i < 488 then run (0x1A01000 + (i - 376) / 56 * 0x10000 + (i - 376) % 56 * 0x10) 2
  else if i < 490 then let b := 0x1800000 + (i - 488) * 0x1000; run (b + 0x10) 4 ++ run (b + 0x2C) 5
  else if i < 492 then
    run 0x1C00004 5 ++ run 0x1C0002C 3 ++ [0x1C00050] ++ (List.range 6).flatMap (fun k => run (0x1C00100 + 0x10 * k) 3) ++
      [0x1C00160]
  else run 0x200004 5 ++ run 0x200020 3 ++ run 0x200040 16 ++ run 0x201000 4

/-- A block's record (R436). -/
def State.snapRecord (s : State) (i : Nat) : Nat :=
  if i < 104 then s.snapEng i
  else if i < 360 then s.snapChan (i - 104)
  else
    let word := fun (o : Nat) => if 490 ≤ i ∧ i < 492 then s.nowWord (i - 490) o else s.regWord o
    packRec ((statusOffsets i).zipIdx.map (fun (e : Nat × Nat) => (0x10 + 4 * e.2, 32, word e.1)))

/-- SNAP_DELIVER (R435, R436, R439): 24 ticks after the raise every block latches its record of the new generation; a pairing
sample that waited follows (R14). -/
def execSnapDeliver (s : State) : Out :=
  .next (if !s.snap.due then s
    else
      let gen := (s.rd F.SNP_GEN.GEN + 1) % 2 ^ 32
      let head := s.snapHead gen
      let recs := (List.range 494).map (fun i => (i, head + s.snapRecord i))
      let s := (((s.wr F.SNP_GEN.GEN gen).wr F.SNP_STAT.SRC s.snap.srcs).wr F.SNP_TIME_NS.NS s.snap.ns).wr F.SNP_TIME_SEC.SEC
        s.snap.sec
      let s := { s with snap := { s.snap with due := false, outHigh := true, records := recs } }
      match s.time.pairDue with
      | some d => (s.pairTake d).updTime (fun t => { t with pairDue := none })
      | none => s)

/-! ## Wear (R437) -/

/-- WEAR_HOUR: thermal cycles completed in the hour, whether the hottest sensor stood above 90.0 °C, and the readings of the 16
aging monitors. -/
def execWearHour (cycles : Nat) (hot : Bool) (ages : List (BitVec 16)) (s : State) : Out :=
  .next (
    let s := ((s.count F.SUP_WEAR_POH.POH 1).count F.SUP_WEAR_CYC.CYC cycles).count F.SUP_WEAR_HOT.HOT (b2n hot)
    s.each (ages.zipIdx.filter (fun (e : BitVec 16 × Nat) => decide (e.2 < 16))) (fun s e => s.wr (F.SUP_AGE.SLOW e.2) e.1.toNat))

end Sys2Proof.Machine
end

