-- ==== Sys2Proof/Machine/Speculation.lean ====
section
/-! DEFINITION. The resolution of speculated branches, the release of sump records and the fabric's result writes (R147–R166). -/

namespace Sys2Proof.Machine

/-! ## Provisional records that the fabric has (R165) -/

/-- A sump record as the vector it came from, for the counters and the fail processor. -/
def SumpRec.vec (r : SumpRec) : Vec :=
  { cyc := r.cyc, clk := r.clk, pc := r.pc, entry := 0, x := r.x, y := r.y, xs := r.xs, d := 0, ports := [], win := 0, tag := none,
    wait := [], res := [], failed := false, sump := [], fres := [], fails := [] }

/-- Confirmation of tag t (R151, R152, R156): its vectors and records are provisional no more, and its failing vectors count. -/
def State.confirmAll (s : State) (n t : Nat) : State :=
  let recs := (s.gang n).flatMap (fun m => ((s.eng m).sump.filter (fun r => r.tag = t && !r.conf)).map (fun r => (m, r)))
  let s := s.confirmTag n t
  s.each recs (fun s q =>
    let v := (s.vecOf q.1 q.2.cyc).getD q.2.vec
    (s.noteFail q.1 v).noteSites q.1 v q.2.fails)

/-- Windows without a vector whose effect waited take it once every older branch has been confirmed (R148). -/
def State.settleEmpty (s : State) (n : Nat) : State :=
  (s.eng n).brs.foldl (fun s _ =>
    match (s.eng n).brs with
    | b :: rest => if b.effect then (s.retire n b.win).updEng n (fun e => { e with brs := rest }) else s
    | [] => s) s

/-- Member m's dependants of the outstanding branches are discarded at cycle r (R151, R156): the vectors that have not left S by
then are replaced by pause vectors. -/
def State.squashMember (s : State) (m r : Nat) : State :=
  let gone := (s.eng m).vecs.filter (fun v => v.tag.isSome)
  let s := s.count (F.FPU_SPX_SQ.SPEC_SQUASHED m) ((gone.filter (fun v => leftS v.clk r)).length)
  let s := s.each gone (fun s v => s.freeVec m v)
  let held := ((s.eng m).sump.filter (fun q => !q.conf)).length
  (s.sumpGive m held).updEng m (fun e => { e with
    vecs := e.vecs.filter (fun v => v.tag.isNone), sump := e.sump.filter (fun q => q.conf),
    pipe := e.pipe.map (fun p => if gone.any (fun v => v.clk == p.clk) then { p with vec := none, snap := false } else p) })

/-- Restore the checkpoint of branch b (R150, R151): FAIL_STICKY and LOCK_OK stand. -/
def State.restoreChk (s : State) (n : Nat) (b : Branch) (k : Chk) : State :=
  let s := s.each k.gens (fun s g => s.updEng g.slot (fun e => { e with x := g.x, y := g.y, lfsr := g.lfsr }))
  let s := s.updEng n (fun e => { e with
    cnt := k.cnt, stk := k.stk, dsc := k.dsc, dst := k.dst, repc := k.repc, win := b.after,
    winLast := Table.set 0 e.winLast b.after k.last, lastCyc := k.last })
  s.wrGang n F.ENG_STAT.SP k.stk.length

/-- A misprediction of the oldest branch at cycle r (R151). -/
def State.mispredict (s : State) (n r : Nat) (b : Branch) : State :=
  let s := s.count (F.FPU_SPX_MP.SPEC_MISPRED n)
  match b.chk with
  | none => (s.updEng n (fun e => { e with dst := b.other, brs := e.brs.tail })).tagResolved n b.tag false
  | some k =>
    let tags := ((s.eng n).brs.filter (·.isBr)).map (·.tag)
    let s := s.each (s.gang n) (fun s m => s.squashMember m r)
    let s := s.each tags (fun s t => s.tagResolved n t false)
    let s := (s.updEng n (fun e => { e with brs := [], wait := .none })).setStall n 0
    let s := (s.restoreChk n b k).setPc n b.other
    s.holdFor n (r + 2 - s.now n)

/-- A PAUSE descriptor that waited for the branches takes effect (R164). -/
def State.pauseDue (s : State) (n : Nat) : State :=
  if (s.eng n).pauseReq ∧ !s.branchesOut n then s.pauseGang n else s

/-- SPEC_RESOLVE (R97, R146, R148, R150–R152, R159–R161): the oldest closed window of gang n resolves, `late` cycles after the first
cycle in which its results could be used, if they had not arrived by then. A late window counts in the leader, which R146 does not
say of a gang (DESIGN CHOICE, log entry 35). -/
def execSpecResolve (n : Fin 104) (late : Nat) (s : State) : Out :=
  .next (match (s.eng n).brs with
    | [] => s
    | b :: rest =>
      if (s.eng n).leader ≠ n.val ∨ !s.winArrived n b.win then s
      else
        let due := s.usableAt n b.last
        let r := max (s.now n) (due + late)
        let s := if late = 0 then s else s.count (F.FPU_SPX_EVT.LATE n)
        let s := s.holdFor n (r - s.now n)
        if !b.isBr then
          (((s.retire n b.win).updEng n (fun e => { e with brs := rest })).settleEmpty n).prune n
        else
          let v := s.condVal n b.scnd 0 b.win
          let s := (s.retire n b.win).updEng n (fun e => e.trainAt b.pc (v == b.loopIsTaken))
          let s := s.count (F.FPU_SPX_BR.SPEC_BRANCHES n)
          let s := if v = b.taken then
              let s := s.updEng n (fun e => { e with brs := rest })
              ((s.confirmAll n b.tag).tagResolved n b.tag true).settleEmpty n
            else s.mispredict n r b
          ((s.syncBrs n).prune n).pauseDue n)

/-- SUMP_RELEASE (R156, R157, R220, R221): the oldest confirmed record of slot n for bay b goes to the counters, unless it has been
counted, and to the fail processor: under STALL it needs free entries, under COUNT it never waits. -/
def execSumpRelease (n : Fin 104) (b : Fin 8) (s : State) : Out :=
  let recs := (s.eng n).sump.filter (fun r => r.conf && r.bay == b.val)
  .next (match recs.find? (fun r => recs.all (fun q => decide (r.cyc ≤ q.cyc))) with
    | none => s
    | some r =>
      let v := r.vec
      let g := s.jobEngOf n
      let es := match (s.eng n).ctx, g with
        | some c, some g => failEntries g.cap c g.le n v r.fails r.prov
        | _, _ => []
      let stall := match g with | some g => g.cap.ovf == 0 | none => false
      if stall && decide (s.rd (F.FPU_FP_STAT.USED b) + es.length > 16384) then s
      else
        let s := if r.prov then s.countChans v r.fails else s
        let s := if stall then s.fpTake b es.length else s
        let s := s.each es (fun s e => s.putEntry b e stall)
        (s.sumpGive n 1).updEng n (fun e => { e with sump := e.sump.erase r }))

/-! ## Fabric writes (R165) -/

/-- Two byte ranges meet. -/
def overlaps (a n b m : Nat) : Bool := decide (a < b + m) && decide (b < a + n)

/-- A host address range on the ledger path: a completion ring or a ledger entry of an enabled context. -/
def State.ledgerPath (s : State) (addr len : Nat) : Bool :=
  (List.range 64).any (fun n => s.on (F.HIF_CTX_CFG.EN n) &&
    (overlaps addr len (s.cqAddr n) (32 * s.ringN n) || overlaps addr len (s.ledgerAddr n) 32))

/-- The range lies in the result area of an accepted job that is not committed. -/
def State.resultArea (s : State) (dev : Bool) (addr len : Nat) : Bool :=
  (List.range 64).any (fun n => (s.ctx n).jobs.any (fun j =>
    (dType j.desc == 2 || (dType j.desc == 3 && dKind j.desc != 3)) && dResDev j.desc == dev &&
    overlaps addr len (dResBase j.desc) (dResSize j.desc)))

/-- The request a fabric write stands for, as its endpoint sees the answer. -/
def fabPkt (w : FabWr) : Pkt :=
  { opc := 2, src := niOfEndpoint w.ep, dest := w.via, tag := w.tag, size := w.len, attr := 0, route := 0,
    addr := if w.via = 0 then w.addr else w.at_, data := w.data }

/-- The endpoint's write is answered: WR_ACK (0x41) with reason 0, or NACK with a reason, by its target or, off the network, at its
own interface. -/
def State.fabAnswer (s : State) (w : FabWr) (reason : Nat) : State :=
  let p := fabPkt w
  if w.via = 0 then
    (if reason = 0 then s.handOver p.src (reply p.src p 0x41 0 p.addr 0) else s.localNack p.src p reason)
  else if reason = 0 then s.answer w.via p 0x41 0 p.addr 0 else s.nack w.via p reason

/-- A device address of DRAM that names no byte of it: beyond the usable size, or with a bit above 36 set (R235; log entry 39). -/
def State.devBeyond (s : State) (a len : Nat) : Bool := decide (2 ^ 37 ≤ a) || decide (a % 2 ^ 36 + len > s.usable (a / 2 ^ 36 % 2))

/-- The controllers take every line of the write now (R241). -/
def State.fabReady (s : State) (w : FabWr) : Bool :=
  let h := w.addr / 2 ^ 36 % 2
  let a := w.addr % 2 ^ 36
  !w.dev || s.devBeyond w.addr w.len || w.len == 0 ||
    (List.range ((a + w.len - 1) / 64 - a / 64 + 1)).all (fun i => s.dramAccepts h ((a / 64 + i) * 64) (if w.or_ then 2 else 1))

/-- The interfaces that the write needs wake (R253). -/
def State.fabWake (s : State) (w : FabWr) : State :=
  let a := w.addr % 2 ^ 36
  if w.dev then (s.wakeDram (s.dramIf (w.addr / 2 ^ 36 % 2) a)).wakeDram (s.dramIf (w.addr / 2 ^ 36 % 2) (a + w.len - 1)) else s

/-- The write is performed and acknowledged; the reserved area of DRAM discards it (R237). -/
def State.fabDo (s : State) (w : FabWr) : State :=
  let h := w.addr / 2 ^ 36 % 2
  let a := w.addr % 2 ^ 36
  if w.dev ∧ s.devBeyond w.addr w.len then (s.dramAddrErr h a).fabAnswer w 0x04
  else
    let s := if !w.dev then s.dataWrite w.addr w.len w.data
      else if w.or_ then s.dramOrReq h (a / 64 * 64) (w.data * 256 ^ (a % 64)) [] false
      else s.dramPut h a w.len w.data false
    s.fabAnswer w 0

/-- Records of the half's fail streams that the fabric has taken and that are unresolved (R165). -/
def State.openRecs (s : State) (h : Nat) : List (Nat × Nat) :=
  ((List.range 4).flatMap (fun k => (s.bay (4 * h + k)).deliv)).eraseDups

/-- An endpoint's write whose data is here (R165): held while it meets the result area of an uncommitted job and records are
unresolved, or until its controllers take it; dropped as SQUASHED where one of the records was squashed; performed otherwise. -/
def State.fabResult (s : State) (w : FabWr) : State :=
  let area := s.resultArea w.dev w.addr w.len
  if area ∧ w.squashed ∧ w.waits.isEmpty then (s.count (F.FPU_SPX_FAB.DROP (w.ep / 32))).fabAnswer w 0x07
  else if area ∧ !w.waits.isEmpty then { s with fabHeld := s.fabHeld ++ [{ w with here := true }] }
  else if !s.fabReady w then
    { s.fabWake w with fabHeld := s.fabHeld ++ [{ w with waits := [], squashed := false, here := true }] }
  else s.fabDo w

/-- FABRIC_RESULT_WRITE (R66, R165): endpoint e writes to host memory or to a device address; `taken`: the words its half's fail
streams have delivered since, bay by bay. -/
def execFabricResultWrite (e : Fin 64) (taken : List Nat) (tag : Fin 256) (dev : Bool) (addr : Word64) (len : Fin 65)
    (data : Desc) (s : State) : Out :=
  let h := e.val / 32
  let s := s.each (List.range 4) (fun s k => s.takeWords (4 * h + k) (taken.getD k 0))
  let w : FabWr := ⟨e, tag, dev, addr.toNat, len, data.toNat, s.openRecs h, false, 0, 0, false, true⟩
  .next (if s.on (F.FAB_NE_STAT.DOWN e) ∨ s.niFenced (niOfEndpoint e) then s
    else if !dev ∧ s.ledgerPath addr.toNat len then s.localNack (niOfEndpoint e) (fabPkt w) 0x06
    else s.fabResult w)

/-- FABRIC_WRITE_RELEASE (R165): the first held write of the half whose records have resolved and whose controllers take it. -/
def execFabricWriteRelease (h : Fin 2) (s : State) : Out :=
  .next (match s.fabHeld.find? (fun w => w.ep / 32 = h.val && w.here && w.waits.isEmpty) with
    | none => s
    | some w =>
      if !w.squashed ∧ !s.fabReady w then s.fabWake w
      else ({ s with fabHeld := s.fabHeld.erase w }).fabResult w)

end Sys2Proof.Machine
end

