-- ==== Sys2Proof/Machine/Bank.lean ====
section
/-! DEFINITION. The commands of bank memory (R261–R273): accesses, write-back, power states, Coppice. -/

namespace Sys2Proof.Machine

/-- BAR4 by GLB_STATE (R444): before an image is awaited reads return 0 and writes are discarded, but for writes to West while
firmware is awaited (R447). -/
def State.bar4 (s : State) (h : Nat) (wr : Bool) : Bool :=
  let st := s.rd F.GLB_STATE.STATE
  decide (st ≥ 4) || (wr && h == 0 && st == 1 && s.rd F.GLB_BOOT_STAT.PHASE == 3)

/-- BANK_ACCESS (R259–R264, R444): a master (the PF through BAR4, the half's supervisor, the Pruner, an engine's own path) reads
or writes 1–64 bytes; `r` names a host requester, `ecc` what the check bits of the first word show. -/
def execBankAccess (h : Fin 2) (m : Fin 5) (r : Req) (addr : Fin 0x2000000) (len : Fin 65) (wr : Option Desc) (ecc : Ecc)
    (s : State) : Out :=
  .next (if s.por ∨ len.val = 0 ∨ m.val = byFabric ∨ (m.val = byHost ∧ r ≠ .fn 0) then s
    else if m.val = byHost ∧ !s.bar4 h wr.isSome then (if wr.isSome then s else s.setBus r 0)
    else s.bankAccess h ⟨m, reqCode r, addr, len, wr.map (fun v => v.toNat % 256 ^ len.val), 0, ecc, 0⟩)

/-- BANK_CE_WRITEBACK (R262): the corrected word goes back into its bank; a word written since is no longer listed. -/
def execBankCeWriteback (h : Fin 2) (s : State) : Out :=
  .next (match (s.bankH h).writeback with
    | [] => s
    | e :: rest => (s.bankWrite h e.1 8 e.2).updBank h (fun x => { x with writeback := rest }))

/-- One bank of a write to BNK_PWR: it moves if the state differs from where it stands or goes; on loan the write is held. -/
def State.bankSet (s : State) (h b code : Nat) : State :=
  let t := if code = 3 then 0 else code
  let going := Table.get 0 (s.bankH h).target b
  let at_ := if going = 0 then s.bankCur h b else going - 1
  if s.onLoan h b then
    if t = at_ then s.updBank h (fun x => { x with heldPwr := Table.set 0 x.heldPwr b 0 })
    else (s.setBankCur h b 3).updBank h (fun x => { x with heldPwr := Table.set 0 x.heldPwr b (1 + t) })
  else if t = at_ then s else s.bankMove h b t

/-- A write of BNK_PWR_h_k. -/
def State.bankPwr (s : State) (h k v : Nat) : State :=
  let s := s.wr (F.BNK_PWR.STATE h k) v
  s.each (List.range 16) (fun s i => s.bankSet h (16 * k + i) (bits v (2 * i) 2))

/-- BANK_PWR_WRITE (R263, R264, R273). -/
def execBankPwrWrite (r : Req) (h : Fin 2) (k : Fin 4) (v : Word32) (s : State) : Out :=
  .next (if s.mayWrite r .bnk (some h) then s.bankPwr h k v.toNat else s)

/-- The contents of bank b of half h below the reserved segment are lost: zeros with valid check bits once it is ON. -/
def State.bankLose (s : State) (h b : Nat) : State :=
  let mine := fun (k : Nat) => decide (k / 0x2000000 = h) && decide (k / 8 % 64 = b) && !bankReserved (k % 0x2000000)
  let s := { s with
    bankMem := s.bankMem.filter (fun c => !mine c.1),
    bankUe := s.bankUe.filter (fun c => !(decide (c.1 / 0x400000 = h) && decide (c.1 % 64 = b) && !bankReserved (c.1 % 0x400000 * 8))) }
  let s := s.updBank h (fun x => { x with writeback := x.writeback.filter (fun e => bankOf e.1 ≠ b) })
  s.each (slotsOf h) (fun s m => s.updEng m (fun e => { e with tcache := [] }))

/-- Accesses that waited proceed as far as their banks are ON. -/
def State.bankRetry (s : State) (h : Nat) : State :=
  let q := (s.bankH h).waits
  (s.updBank h (fun x => { x with waits := [] })).each q (fun s a => s.bankReach h a)

/-- BANK_PWR_DONE (R263, R264). -/
def execBankPwrDone (h : Fin 2) (b : Fin 64) (s : State) : Out :=
  .next (match Table.get 0 (s.bankH h).target b with
    | 0 => s
    | t + 1 =>
      let s := (s.setBankCur h b t).updBank h (fun x => { x with target := Table.set 0 x.target b 0 })
      let s := if t = 2 then s.bankLose h b else s
      s.bankRetry h)

/-! ## Coppice (R270–R273) -/

/-- The next bank to be tested: ascending from the last one, not exempt and ON. -/
def State.copNext (s : State) (h : Nat) : Option Nat :=
  let from_ := (s.bankH h).next
  ((List.range 64).map (fun i => (from_ + i) % 64)).find? (fun b =>
    !bit (s.rd (F.BNK_COP_EXM.EXEMPT h)) b && s.bankCur h b == 0)

def State.copPhase (s : State) (h p : Nat) : State := s.wr (F.BNK_COP_STAT.PHASE h) p

/-- COPPICE_LOAN_START (R270): GAP ms have passed since the last loan. -/
def execCoppiceLoanStart (h : Fin 2) (s : State) : Out :=
  .next (if s.on (F.BNK_COP_CTL.EN h) ∧ !s.isFenced (216 + h) ∧ !s.on (F.BNK_COP_STAT.LOAN_LOST h) ∧ s.rd (F.BNK_COP_STAT.PHASE h) = 0 then
      match s.copNext h with
      | some b => (s.copPhase h 1).wr (F.BNK_COP_STAT.BANK h) b
      | none => s
    else s)

/-- COPPICE_SWITCH_OVER (R270): the copy is complete; accesses go to the loan bank, which holds the same words. -/
def execCoppiceSwitchOver (h : Fin 2) (s : State) : Out :=
  .next (if s.rd (F.BNK_COP_STAT.PHASE h) = 1 ∧ !(s.bankH h).stopped then s.copPhase h 2 else s)

/-- The end of a loan: a held change of the bank's power state takes effect (R273). -/
def State.copEnd (s : State) (h : Nat) : State :=
  let b := s.rd (F.BNK_COP_STAT.BANK h)
  let held := Table.get 0 (s.bankH h).heldPwr b
  let s := (s.copPhase h 0).updBank h (fun x => { x with next := (b + 1) % 64, heldPwr := Table.set 0 x.heldPwr b 0 })
  if held = 0 then s else s.bankMove h b (held - 1)

/-- The loan bank becomes bank b, and Coppice stops in the half (R272). -/
def State.adoptBank (s : State) (h b : Nat) : State :=
  let s := ((s.setOn (F.BNK_ERR.COP_FAIL h)).setOn (F.BNK_COP_STAT.LOAN_LOST h)).wr (F.BNK_COP_STAT.ADOPTED h) b
  let s := (s.copEnd h).updBank h (fun x => { x with stopped := true })
  (s.postRes 0xB (b + 2 ^ 8 * h) 0).updDegraded

/-- COPPICE_TEST_DONE (R270, R272): TEST found no error, or the loan bank is adopted and Coppice stops in the half. -/
def execCoppiceTestDone (h : Fin 2) (ok : Bool) (s : State) : Out :=
  .next (if s.rd (F.BNK_COP_STAT.PHASE h) ≠ 2 then s
    else if ok then s.copPhase h 3
    else s.adoptBank h (s.rd (F.BNK_COP_STAT.BANK h)))

/-- COPPICE_SWITCH_BACK (R270): the loan ends. -/
def execCoppiceSwitchBack (h : Fin 2) (s : State) : Out :=
  .next (if s.rd (F.BNK_COP_STAT.PHASE h) = 3 then (s.count (F.BNK_COP_STAT.TESTS h)).copEnd h else s)

end Sys2Proof.Machine
end

