-- ==== Sys2Proof/Machine/Noc.lean ====
section
/-! DEFINITION. The on-chip network (R363–R385): injection and ejection, each packet at its target or requester, timeouts,
fences of interfaces, route tables and failed links. -/

namespace Sys2Proof.Machine

/-! ## Paths (R374, R382) -/

/-- The links a packet crosses on one ring: (half, stop, direction), from stop a over k hops. -/
def ringLinks (h a dir : Nat) : Nat → List (Nat × Nat × Nat)
  | 0 => []
  | k + 1 => (h, a, dir) :: ringLinks h (if dir = 0 then (a + 1) % 20 else (a + 19) % 20) dir k

/-- The stop k hops away. -/
def hopTo (a dir k : Nat) : Nat := if dir = 0 then (a + k) % 20 else (a + 20 - k % 20) % 20

/-- The links of a whole route from interface t. -/
def routeLinks (t v : Nat) : List (Nat × Nat × Nat) :=
  ringLinks (niHalf t) (niStop t) (bits v 5 1) (bits v 0 5) ++
  (if bit v 6 then ringLinks (1 - niHalf t) (18 + bits v 7 1) (bits v 13 1) (bits v 8 5) else [])

def State.linkFailed (s : State) (l : Nat × Nat × Nat) : Bool := bit (s.rd (F.NOC_LINK.FAILED l.1 l.2.2)) l.2.1

/-- A route crosses a failed link. -/
def State.routeBroken (s : State) (t v : Nat) : Bool := (routeLinks t v).any s.linkFailed

/-! ## Injection (R366–R377, R381) -/

/-- Where a packet stands when its HOPS reach 0 in the half of its source. -/
def flightOf (t v : Nat) (p : Pkt) : Flight :=
  { pkt := { p with route := v % 2 ^ 15 }, half := niHalf t, stop := hopTo (niStop t) (bits v 5 1) (bits v 0 5), xb := bit v 6,
    mgmt := bit v 14 && !niIsEndpoint t }

/-- A packet goes onto its ring; one whose path crosses a failed link is lost (R383). -/
def State.launchPkt (s : State) (t : Nat) (p : Pkt) : State :=
  let v := s.route t p.dest
  if s.routeBroken t v then s else { s with flights := s.flights ++ [flightOf t v p] }

/-- The virtual network on which a packet travels: MGMT (R368, R369). -/
def pktMgmt (p : Pkt) : Bool := bit p.route 14 && !niIsEndpoint p.src

/-- A misrouted request's NACK, which the stop sends back on the request's virtual network (R374). No table gives its route: it is on
its last stop already (DESIGN CHOICE, log entry 26). -/
def State.stopSends (s : State) (q p : Pkt) : State :=
  { s with flights := s.flights ++ [{ pkt := p, half := niHalf p.dest, stop := niStop p.dest, xb := false, mgmt := pktMgmt q }] }

/-- What the stop of a fenced interface sends for it: by the interface's route table, on the request's virtual network (R380). -/
def State.fencedSends (s : State) (q p : Pkt) : State :=
  let v := s.route p.src p.dest
  if !bit v 31 ∨ s.routeBroken p.src v then s
  else { s with flights := s.flights ++ [{ flightOf p.src v p with mgmt := pktMgmt q }] }

/-- Flits of a packet: the header and the halves of the line that a data packet carries. -/
def flitsOf (p : Pkt) : Nat :=
  if netOf p.opc = some 3 then 2 + (p.addr % 64 + p.size - 1) / 32 - p.addr % 64 / 32 else 1

/-- A packet that no interface may send (R366). -/
def badPkt (p : Pkt) : Bool :=
  (netOf p.opc).isNone || p.size == 0 || decide (p.size > 64) || decide (p.addr % 64 + p.size > 64 ∧ !(p.opc == 7 || p.opc == 8))

/-- The interface maps a DRAM destination by R236; none beyond the usable size. -/
def State.mapDram (s : State) (p : Pkt) : Option Pkt :=
  if 44 ≤ niL p.dest ∧ niL p.dest < 48 then
    match s.dramMap (niHalf p.dest) p.addr with
    | some m => some { p with dest := niOfDram (4 * niHalf p.dest + m.1), addr := m.2 }
    | none => none
  else some p

/-- A packet that no route reaches is refused at its source; a response is discarded and counted instead (R371, R372). -/
def State.noRoute (s : State) (t : Nat) (p : Pkt) : State :=
  let s := s.setOn (F.NOC_ERR.NO_ROUTE (niHalf t))
  if isResponse p.opc then s.countLate t else s.localNack t p 0x02

/-- The new entry to a destination waits for the requests that went there by the old one (R375). -/
def State.staleRoute (s : State) (t d : Nat) : Bool :=
  (s.ni t).stale.contains d && (s.ni t).outst.any (fun o => o.dest = d)
def State.freshRoute (s : State) (t d : Nat) : State := s.updNi t (fun x => { x with stale := x.stale.filter (· ≠ d) })

/-- A new request or other packet of the block (R366, R370–R372, R375, R377): the checks of the source interface, then the ring. -/
def State.inject (s : State) (t : Nat) (p : Pkt) : State :=
  let x := s.ni t
  if badPkt p then s.localNack t p 0x0B
  else if p.opc = 0xC0 ∧ !(x.grants.any (fun g => g.opc = 0x40 && g.tag = p.tag)) then s.localNack t p 0x0B
  else if isRequest p.opc ∧ x.outst.any (fun o => o.tag = p.tag) then s.localNack t p 0x0A
  else if isRequest p.opc ∧ (s.niState t = 1 ∨ x.outst.length ≥ 256) then s
  else
    match s.mapDram p with
    | none => (s.dramAddrErr (niHalf p.dest) p.addr).localNack t p 0x04
    | some q =>
      let v := s.route t q.dest
      let s := if routeReserved (s.routeRaw t q.dest) then s.setOn (F.NOC_ERR.RT_RSV (niHalf t)) else s
      if !bit v 31 then s.noRoute t q
      else if s.staleRoute t q.dest then s
      else
        let s := s.freshRoute t q.dest
        let s := if isRequest q.opc then (s.updNi t (fun x => { x with outst := x.outst ++ [q] })).niOut t
          else if q.opc = 0xC0 then
            s.updNi t (fun x => { x with grants := x.grants.filter (fun g => !(g.opc = 0x40 && g.tag = q.tag)) })
          else if q.opc = 0x40 then
            s.updNi t (fun x => { x with grants := x.grants ++ [{ q with opc := 2, src := q.dest, dest := t }] })
          else s
        s.launchPkt t q

/-- The head of the interface's own transmit queue leaves. -/
def State.sendTx (s : State) (t : Nat) : State :=
  match (s.ni t).txq with
  | [] => s
  | p :: rest =>
    let s := (s.updNi t (fun x => { x with txq := rest })).freshRoute t p.dest
    if bit (s.route t p.dest) 31 then s.launchPkt t p else s.noRoute t p

/-- It waits for a new route to be free (R375). -/
def State.injectTx (s : State) (t : Nat) : State :=
  if (s.ni t).txq.head?.any (fun p => s.staleRoute t p.dest) then s else s.sendTx t

/-- A fence injects all of them (R379). -/
def State.drainTx (s : State) (t : Nat) : State := (s.ni t).txq.foldl (fun s _ => s.sendTx t) s

/-- An endpoint's write to the host or to DRAM is issued (R165): the records that its half's fail streams have delivered, if any. -/
def State.noteIssue (s : State) (id : Nat) (p : Pkt) : State :=
  let old := fun (w : FabWr) => w.ep == niEndpoint id && w.tag == p.tag && w.via != 0 && !w.here
  if p.opc = 2 ∧ niIsEndpoint id ∧ (p.dest = 53 ∨ (44 ≤ niL p.dest ∧ niL p.dest < 48)) then
    let recs := s.openRecs (niHalf id)
    let held := s.fabHeld.filter (fun w => !old w)
    { s with fabHeld := if recs.isEmpty then held
        else held ++ [⟨niEndpoint id, p.tag, false, 0, 0, 0, recs, false, p.dest, 0, false, false⟩] }
  else s

/-- The records that a write whose data arrives had met as it was issued, and whether one was squashed. -/
def State.takeIssue (s : State) (src tag : Nat) : (List (Nat × Nat) × Bool) × State :=
  match s.fabHeld.find? (fun w => niOfEndpoint w.ep == src && w.tag == tag && w.via != 0 && !w.here) with
  | some w => ((w.waits, w.squashed), { s with fabHeld := s.fabHeld.erase w })
  | none => (([], false), s)

/-- The clock of endpoint e runs and the endpoint is enabled: otherwise it takes and delivers no flits (R292, R301). -/
def State.epRuns (s : State) (e : Nat) : Bool :=
  s.on (F.FAB_NE_CFG.EN e) && s.gclkOn (e / 32) (s.rd (F.FAB_NE_CFG.CLKSEL e))
/-- The block side of an interface moves. -/
def State.niRuns (s : State) (id : Nat) : Bool := !niIsEndpoint id || s.epRuns (niEndpoint id)

/-- NOC_INJECT (R292, R301, R377): with `fresh`, the block of interface `id` presents a packet (SRC is written by the interface); otherwise
the head of its transmit queue goes. What a fenced interface's block presents is dropped and counted flit by flit (R381). -/
def execNocInject (id : Fin 256) (fresh : Bool) (dest opc tag : Byte) (size : Fin 65) (attr : Byte) (addr : Word64) (data : Desc)
    (s : State) : Out :=
  let p : Pkt := { opc := opc.toNat, src := id, dest := dest.toNat, tag := tag.toNat, size := size, attr := attr.toNat % 4,
                   route := 0, addr := addr.toNat, data := data.toNat }
  .next (if !niExists id then s
    else if !fresh then (if s.niFenced id then s else s.injectTx id)
    else if s.niFenced id then s.count (F.NOC_NI_STAT.FTALK (niHalf id) (niL id)) (flitsOf p)
    else if !s.niRuns id then s
    else
      let t := s.inject id p
      if (t.ni id).outst.length > (s.ni id).outst.length then t.noteIssue id p else t)

/-! ## Ejection (R374, R376, R377, R380) -/

/-- What a fenced interface's stop does with a packet (R380). -/
def State.fencedPkt (s : State) (id : Nat) (p : Pkt) : State :=
  if isRequest p.opc ∨ p.opc = 0xC0 then s.fencedSends p (reply id p 0x42 0x01 p.addr 0)
  else if p.opc = 0x80 ∨ p.opc = 0x81 then s.fencedSends p (reply id p 0x43 1 p.addr 0)
  else s.countCut id

/-- The packet arrives at its interface. -/
def State.deliver (s : State) (p : Pkt) : State :=
  if s.niFenced p.dest then s.fencedPkt p.dest p else s.pushRx p.dest p

/-- A packet that left the ring where DEST is not (R374). -/
def State.misroute (s : State) (h : Nat) (p : Pkt) : State :=
  let s := s.setOn (F.NOC_ERR.MISROUTE h)
  if isRequest p.opc then s.stopSends p (reply p.dest p 0x42 0x03 p.addr 0) else s

/-- Flits that the receive queue of an interface holds (R25), where the queue stands between clock domains; a DRAM controller's holds 32
requests and 32 data flits. -/
def niDepth (id : Nat) : Option Nat :=
  let l := niL id
  if l < 32 ∨ l = 49 then some 8 else if l = 53 then some 64 else none

/-- The interface has room for a packet whose header arrives (R377). A fenced one takes none (R380). -/
def State.niRoom (s : State) (p : Pkt) : Bool :=
  let q := (s.ni p.dest).rxq
  let flits := fun (l : List Pkt) => (l.map flitsOf).foldl (· + ·) 0
  s.niFenced p.dest ||
  (if 44 ≤ niL p.dest ∧ niL p.dest < 48 then
    if p.opc = 0xC0 then decide (flits (q.filter (fun x => x.opc = 0xC0)) + flitsOf p ≤ 32 + (q.filter (fun x => x.opc = 0xC0)).length + 1)
    else decide ((q.filter (fun x => x.opc ≠ 0xC0)).length < 32)
  else match niDepth p.dest with
    | some d => decide (flits q + flitsOf p ≤ d)
    | none => true)

/-- NOC_EJECT (R374, R376, R377, R382): the k-th packet under way has no hops left; it goes round again when its target has no room, or
`full`: the queue of its bridge or of its interface's block has none. A packet does not overtake an earlier one of its source,
destination and network. `bad`: a flit failed its check on the way, so that a stop of the ring discarded the packet. -/
def execNocEject (k : Nat) (full bad : Bool) (s : State) : Out :=
  .next (match s.flights[k]? with
    | none => s
    | some f =>
      let p := f.pkt
      let ahead := (s.flights.take k).any (fun g => g.pkt.src == p.src && g.pkt.dest == p.dest && g.mgmt == f.mgmt &&
        netOf g.pkt.opc == netOf p.opc)
      if ahead then s
      else if bad then { s with flights := s.flights.eraseIdx k }.count (F.NOC_CRC.CRC f.half)
      else if full ∨ (!f.xb ∧ niStop p.dest = f.stop ∧ !s.niRoom p) then s.count (F.NOC_STOP_STAT.RECIRC f.half)
      else
        let s := { s with flights := s.flights.eraseIdx k }
        if f.xb then
          let v := p.route
          if f.stop ≠ 18 + bits v 7 1 then s.misroute f.half p
          else if (ringLinks (1 - f.half) f.stop (bits v 13 1) (bits v 8 5)).any s.linkFailed then s
          else { s with flights := s.flights ++ [{ f with
            half := 1 - f.half, stop := hopTo f.stop (bits v 13 1) (bits v 8 5), xb := false }] }
        else if niExists p.dest ∧ niHalf p.dest = f.half ∧ niStop p.dest = f.stop then s.deliver p
        else s.misroute f.half p)

/-! ## Packets at their interfaces -/

/-- The first received packet of an opcode, and the state without it. -/
def State.takeRx (s : State) (id opc : Nat) : Option (Pkt × State) :=
  match (s.ni id).rxq.find? (fun p => p.opc = opc) with
  | some p => some (p, s.updNi id (fun x => { x with rxq := x.rxq.erase p }))
  | none => none

/-- A packet of the opcode is received and handled. What is addressed to a fabric endpoint goes to its user logic, which answers by
packets of its own (R301, R302), while the endpoint's clock runs (R292). -/
def State.onRx (s : State) (id opc : Nat) (f : Pkt → State → State) : State :=
  match s.takeRx id opc with
  | some q =>
    if !s.niRuns id then s
    else if niIsEndpoint id ∧ 1 ≤ opc ∧ opc ≤ 6 then q.2.handOver id q.1
    else f q.1 q.2
  | none => s

/-- The master class of a source (R237, R259, R260): the debug interface acts for the port and the trace unit, whose levels it has
checked (R470). -/
def masterOf (src : Nat) : Nat :=
  if niIsEndpoint src then byFabric
  else if niL src = 49 ∨ niL src = 54 then bySup else if niL src = 50 then byPruner
  else if niL src = 53 then byHost else if niL src < 36 then byEngine else byOther

/-- The half address of a local address of interface n (the inverse of R236). -/
def State.dramUnmap (s : State) (n l : Nat) : Nat :=
  let h := n / 4
  let i := n % 4
  let g := 4 * (l / 256) + i
  let g :=
    if s.rd (F.DMC_HALF.NIF h) = 3 ∧ g ≥ 3 * (s.fullU h / 256) / 4 then
      let d := s.rd (F.DMC_HALF.DEAD h)
      let m := g - 3 * (s.fullU h / 256) / 4
      let r := if m % 4 < d then m % 4 else m % 4 - 1
      4 * (3 * (m / 4) + r) + d
    else g
  g * 256 + l % 256

/-- An access of a network request to bank memory. -/
def bankAccOf (p : Pkt) (wr : Option Nat) (coh : Nat) (ecc : Ecc) : BankAcc :=
  ⟨masterOf p.src, nocReadId p.src p.tag, p.addr, p.size, wr, coh, ecc, 0⟩

/-- The endpoint of a source takes part in coherence (R303); supervisors do. -/
def State.coherent (s : State) (id : Nat) : Bool :=
  if niIsEndpoint id then s.on (F.FAB_NE_CFG.COH (niEndpoint id)) else niL id == 49

/-- A mask of n bytes from byte a of a line. -/
def lineMask (a n : Nat) : Nat := (2 ^ n - 1) * 2 ^ (a % 64)

/-- RD (R239, R259, R261, R366): at bank memory, a DRAM controller (which takes it once its read queue has room), or the host
interface, whose read returns `host`; any other interface refuses. -/
def execRd (id : Fin 256) (ecc : Ecc) (host : Desc) (s : State) : Out :=
  .next (s.onRx id 1 (fun p s' =>
    if niL id = 48 then s'.bankAccess (niHalf id) (bankAccOf p none 0 ecc)
    else if 44 ≤ niL id ∧ niL id < 48 then
      let n := 4 * niHalf id + (niL id - 44)
      if (s'.dmc n).reads ≥ 48 ∨ !(s'.dmc n).held.isEmpty then s.wakeDram n
      else
        let a := s'.dramUnmap n p.addr
        s'.dramReadReq (n / 4) (a / 64 * 64) (lineMask a p.size) (nocReadId p.src p.tag)
          (masterOf p.src = bySup ∨ masterOf p.src = byPruner) none
    else if id.val = 53 then s'.answer id p 0xC1 0 p.addr host.toNat
    else s'.nack id p 0x06))

/-- WR_REQ (R366, R367): the target reserves space and sends a GRANT. -/
def execWrReq (id : Fin 256) (s : State) : Out :=
  .next (s.onRx id 2 (fun p s =>
    let n := 4 * niHalf id + (niL id - 44)
    let stim := id.val = 54 ∧ niIsEndpoint p.src ∧ 0x2410000 ≤ p.addr ∧ p.addr < 0x2416800
    if 44 ≤ niL id ∧ niL id < 48 ∧ s.dramUnmap n p.addr / 64 * 64 + 64 > s.usable (niHalf id) then
      (s.dramAddrErr (niHalf id) (s.dramUnmap n p.addr)).nack id p 0x04
    else if niL id = 48 ∨ (44 ≤ niL id ∧ niL id < 48) ∨ id.val = 53 ∨ stim then
      (s.updNi id (fun x => { x with grants := x.grants ++ [p] })).answer id p 0x40 0 p.addr 0
    else s.nack id p 0x06))

/-- WDATA (R66, R165, R237, R241, R366, R481): the write is done and acknowledged; a DRAM write once the write queue takes it. -/
def execWdata (id : Fin 256) (ecc : Ecc) (s : State) : Out :=
  .next (s.onRx id 0xC0 (fun p s' =>
    match (s'.ni id).grants.find? (fun g => g.opc = 2 && g.src = p.src && g.tag = p.tag) with
    | none => s'.nack id p 0x0B
    | some g =>
      let s' := s'.updNi id (fun x => { x with grants := x.grants.erase g })
      let v := p.data / 256 ^ (p.addr % 64) % 256 ^ p.size
      if niIsEndpoint id then s'.handOver id p
      else if id.val = 54 then
        (s'.stimWrite ((p.addr - 0x2410000) / 0x100) (p.addr % 0x100) p.size v 3).answer id p 0x41 0 p.addr 0
      else if niL id = 48 then
        s'.bankAccess (niHalf id) (bankAccOf p (some v) (if bit g.attr 1 then 3 else 0) ecc)
      else if niIsEndpoint p.src then
        let q := s'.takeIssue p.src p.tag
        let a := if id.val = 53 then p.addr else 2 ^ 36 * niHalf id + s'.dramUnmap (4 * niHalf id + (niL id - 44)) p.addr
        if id.val = 53 ∧ s'.ledgerPath p.addr p.size then q.2.nack id p 0x06
        else q.2.fabResult ⟨niEndpoint p.src, p.tag, id.val != 53, a, p.size, v, q.1.1, q.1.2, id, p.addr,
          id.val != 53 && bit g.attr 0, true⟩
      else if id.val = 53 then (s'.dataWrite p.addr p.size v).answer id p 0x41 0 p.addr 0
      else
        let n := 4 * niHalf id + (niL id - 44)
        let a := s'.dramUnmap n p.addr
        let full := masterOf p.src == bySup || masterOf p.src == byPruner
        if a / 64 * 64 + 64 > s'.usable (n / 4) then (s'.dramAddrErr (n / 4) a).nack id p 0x04
        else if !s'.dramAccepts (n / 4) (a / 64 * 64) (if bit g.attr 0 then 2 else 1) then s.wakeDram n
        else
          let s' := if bit g.attr 0 then s'.dramOrReq (n / 4) (a / 64 * 64) (v * 256 ^ (a % 64)) [] full
            else s'.dramWriteReq (n / 4) (a / 64 * 64) (lineMask a p.size) (v * 256 ^ (a % 64)) [] full
          s'.answer id p 0x41 0 p.addr 0))

/-- A coherent read (R265); an endpoint that is no coherent agent reads uncached (R303). -/
def State.cohRead (s : State) (id : Nat) (opc coh : Nat) (ecc : Ecc) : State :=
  s.onRx id opc (fun p s =>
    if niL id = 48 then s.bankAccess (niHalf id) (bankAccOf p none (if s.coherent p.src then coh else 0) ecc)
    else s.nack id p 0x06)

/-- RD_S and RD_M (R265). -/
def execRdS (id : Fin 256) (ecc : Ecc) (s : State) : Out := .next (s.cohRead id 3 1 ecc)
def execRdM (id : Fin 256) (ecc : Ecc) (s : State) : Out := .next (s.cohRead id 4 2 ecc)

/-- The semaphore an atomic request names, and its owner (KIND, OWNER): fabric endpoints and supervisors only (R267, R268). -/
def semOf (p : Pkt) : Option Nat :=
  if 0x1FDC000 ≤ p.addr ∧ p.addr < 0x1FDE000 ∧ p.addr % 8 = 0 then some ((p.addr - 0x1FDC000) / 8) else none
def semOwner (p : Pkt) : Option (Nat × Nat) :=
  if niIsEndpoint p.src then some (1, p.src) else if niL p.src = 49 then some (2, niHalf p.src) else none

/-- An atomic request at bank memory. -/
def State.atomic (s : State) (id opc : Nat) (f : State → Nat → Nat × Nat → Pkt → State) : State :=
  s.onRx id opc (fun p s =>
    if niL id ≠ 48 then s.nack id p 0x06
    else
      match semOwner p, semOf p with
      | none, _ => s.nack id p 0x06
      | some _, none => s.nack id p 0x04
      | some o, some i => f s i o p)

/-- ATOM_ACQ (R268): the result in STATUS, 0 success, 1 failure. -/
def execAtomAcq (id : Fin 256) (s : State) : Out :=
  .next (s.atomic id 5 (fun s i o p =>
    let r := s.semAcquire (niHalf id) i o.1 o.2
    r.2.answer id p 0x41 (if r.1 then 0 else 1) p.addr 0))

/-- ATOM_REL (R268): a release that is not the owner's is an error. -/
def execAtomRel (id : Fin 256) (s : State) : Out :=
  .next (s.atomic id 6 (fun s i o p =>
    let r := s.semRelease (niHalf id) i o.1 o.2
    if r.1 then r.2.answer id p 0x41 0 p.addr 0 else r.2.nack id p 0x08))

/-! ## Responses at the requester -/

/-- A response of the given opcode: it completes its request, or is discarded as late (R377). -/
def State.onResponse (s : State) (id opc : Nat) (f : Pkt → State → State) : State :=
  s.onRx id opc (fun p s =>
    if (s.ni id).outst.any (fun o => o.tag = p.tag) then f p (s.handOver id p)
    else if (s.ni id).cut.contains p.tag then (s.updNi id (fun x => { x with cut := x.cut.erase p.tag })).countCut id
    else s.countLate id)

/-- The request is done. -/
def State.complete (s : State) (id tag : Nat) : State :=
  (s.updNi id (fun x => { x with outst := x.outst.filter (fun o => o.tag ≠ tag) })).niOut id

/-- GRANT (R366): the request stays outstanding; its data may be presented. -/
def execGrant (id : Fin 256) (s : State) : Out :=
  .next (s.onResponse id 0x40 (fun p s => s.updNi id (fun x => { x with grants := x.grants ++ [p] })))

/-- ACK, REG_DATA and RDATA (R366). -/
def execAck (id : Fin 256) (s : State) : Out := .next (s.onResponse id 0x41 (fun p s => s.complete id p.tag))
def execRegData (id : Fin 256) (s : State) : Out := .next (s.onResponse id 0x44 (fun p s => s.complete id p.tag))
def execRdata (id : Fin 256) (s : State) : Out := .next (s.onResponse id 0xC1 (fun p s => s.complete id p.tag))

/-- What a master does on an error response to its request under a TAG (R378): the host's reads return all ones, and HOST_ERR is set;
the others take it from the interface. -/
def State.masterError (s : State) (id : Nat) (q : Option Pkt) : State :=
  if id = 53 then
    (s.setOn (F.NOC_ERR.HOST_ERR 0)).when (q.any (fun p => p.opc == 1 || p.opc == 7)) (fun s => s.setBus (.fn 0) 0xFFFFFFFF)
  else s

/-- The request that is outstanding under a TAG. -/
def State.outstOf (s : State) (id tag : Nat) : Option Pkt := (s.ni id).outst.find? (fun o => o.tag = tag)

/-- A request ends in an error: a grant it had is void. -/
def State.voidGrant (s : State) (id tag : Nat) : State :=
  s.updNi id (fun x => { x with grants := x.grants.filter (fun g => !(g.opc = 0x40 && g.tag = tag)) })

/-- NACK (R371, R378). -/
def execNack (id : Fin 256) (s : State) : Out :=
  .next (s.onResponse id 0x42 (fun p t =>
    (((t.complete id p.tag).count (F.NOC_NI_ERR.NACKS (niHalf id) (niL id))).voidGrant id p.tag).masterError id
      (s.outstOf id p.tag)))

/-- NOC_RSP_TIMEOUT (R377): the interface completes the request with NACK TIMEOUT. -/
def execNocRspTimeout (id : Fin 256) (tag : Byte) (s : State) : Out :=
  .next (match (s.ni id).outst.find? (fun o => o.tag = tag.toNat) with
    | some o =>
      ((((s.complete id o.tag).voidGrant id o.tag).count (F.NOC_NI_ERR.TMO (niHalf id) (niL id))).localNack id o 0x09).masterError id
        (some o)
    | none => s)

/-! ## Snoops (R265, R266, R302) -/

/-- An agent answers a snoop: with its M data if the home knows it as the holder of M, otherwise without. -/
def State.onSnoop (s : State) (id opc : Nat) (data : Nat) : State :=
  s.onRx id opc (fun p s =>
    let h := niHalf p.src
    let m := (s.holders h (p.addr / 64)).any (fun a => a.1 = id && a.2)
    if m then s.answer id p 0xC2 0 p.addr data else s.answer id p 0x43 0 p.addr 0)

/-- SNP_INV and SNP_SHR (R265, R366): `data` is the agent's M copy. -/
def execSnpInv (id : Fin 256) (data : Desc) (s : State) : Out := .next (s.onSnoop id 0x80 data.toNat)
def execSnpShr (id : Fin 256) (data : Desc) (s : State) : Out := .next (s.onSnoop id 0x81 data.toNat)

/-- An endpoint's M line is lost at a fence (R304, R307). -/
def State.loseM (s : State) (id : Nat) (k : Nat) : State :=
  if niIsEndpoint id then s.count (F.FAB_NE_STAT.LOST (niEndpoint id)) k else s

/-- The directory after an agent's answer: gone, or S after a request for reading. -/
def State.afterSnoop (s : State) (h line id : Nat) (keepS : Bool) : State :=
  if keepS then s.setHolders h line ((s.holders h line).map (fun a => if a.1 = id then (id, false) else a))
  else s.dropCopy h line id

/-- Is the line waited for by a read (the agent keeps S)? -/
def State.snoopShared (s : State) (h line : Nat) : Bool :=
  match s.homes.find? (fun q => q.half == h && q.wait.any (fun x => x.1 == line)) with
  | some q => q.acc.wr.isNone && q.acc.coh != 2
  | none => false

/-- SNP_ACK (R265, R380): no data; with STATUS FENCED the copy is invalid and its M data is lost. -/
def execSnpAck (id : Fin 256) (s : State) : Out :=
  let h := niHalf id
  .next (s.onRx id 0x43 (fun p s =>
    let line := p.addr / 64
    let hadM := (s.holders h line).any (fun a => a.1 = p.src && a.2)
    let s := if p.attr = 1 ∧ hadM then s.loseM p.src 1 else s
    let s := s.afterSnoop h line p.src (s.snoopShared h line && p.attr == 0)
    s.homeAnswer h line p.src))

/-- SNP_DATA (R265): the M data goes to the bank, and the waiting request goes on. -/
def execSnpData (id : Fin 256) (s : State) : Out :=
  let h := niHalf id
  .next (s.onRx id 0xC2 (fun p s =>
    let line := p.addr / 64
    let s := s.bankWrite h (64 * line) 64 p.data
    let s := s.each (wordsOf (64 * line) 64) (fun s w => s.setBankUe h w false)
    let s := s.afterSnoop h line p.src (s.snoopShared h line)
    s.homeAnswer h line p.src))

/-! ## Fences (R304, R379–R381) -/

/-- The semaphores endpoint e holds are released by its region's controller (R269, R304). -/
def State.dropEndpointSems (s : State) (e : Nat) : State :=
  s.each [0, 1] (fun s h => s.each (List.range 1024) (fun s i =>
    let w := s.bankRead h (semAddr i) 8
    if bit w 63 ∧ bits w 60 3 = 1 ∧ bits w 32 16 = niOfEndpoint e then s.bankWrite h (semAddr i) 8 (w % 2 ^ 63) else s))

/-- Every line an agent holds is invalid at its homes; lines in M are lost. -/
def State.dropAgent (s : State) (id : Nat) : State :=
  let lost := (s.dirc.filter (fun e => e.2.any (fun a => a.1 = id && a.2))).length
  let s := s.each (s.dirc.filter (fun e => e.2.any (fun a => a.1 = id))) (fun s e =>
    s.dropCopy (e.1 / 0x80000) (e.1 % 0x80000) id)
  s.loseM id lost

/-- The requests that waited for an agent go on without it. -/
def State.dropWaits (s : State) (id : Nat) : State :=
  s.each (s.homes.flatMap (fun q => (q.wait.filter (fun x => x.2 = id)).map (fun x => (q.half, x.1)))) (fun s x =>
    s.homeAnswer x.1 x.2 id)

/-- An endpoint is fenced by its region's controller (R304, R417, R433): its interface, its lines and its semaphores. A fence of an
enabled endpoint other than a load's holds it until software has disabled and enabled it (R421, R521). -/
def State.fenceEndpoint (s : State) (e cause : Nat) : State :=
  let id := niOfEndpoint e
  let s := s.updNi id (fun x => { x with broken := x.broken || (cause != 10 && s.on (F.FAB_NE_CFG.EN e)) })
  if s.isFenced (152 + e) then s.markFenced (152 + e) cause
  else
    let s := s.markFenced (152 + e) cause
    let s := (s.setOn (F.FAB_NE_STAT.FENCED e)).setOn (F.FAB_NE_STAT.DOWN e)
    let s := s.drainTx id
    let s := s.wr (F.NOC_NI_STAT.STATE (niHalf id) (niL id)) 2
    let rx := (s.ni id).rxq
    let s := (s.updNi id (fun x => { x with rxq := [], fencer := some .bay })).each rx (fun s p => s.fencedPkt id p)
    let s := ((s.dropAgent id).dropEndpointSems e).dropWaits id
    s.postRes 0x10 e (s.rd (F.SUP_UNIT_EPOCH.FEP (152 + e)))

/-- SNOOP_TIMEOUT (R266): the home goes on with the bank's data; the agent's controller fences it. -/
def execSnoopTimeout (h : Fin 2) (agent : Fin 256) (s : State) : Out :=
  .next (if s.homes.any (fun q => q.half == h.val && q.wait.any (fun x => x.2 == agent.val)) then
      let s := s.setOn (F.BNK_ERR.SNP_TO h)
      let lines := (s.homes.filter (fun q => q.half == h.val)).flatMap (fun q => (q.wait.filter (fun x => x.2 = agent.val)).map (·.1))
      let s := s.each lines (fun s l =>
        let m := (s.holders h l).any (fun a => a.1 = agent.val && a.2)
        ((s.loseM agent (if m then 1 else 0)).dropCopy h l agent).homeAnswer h l agent)
      if niIsEndpoint agent then s.fenceEndpoint (niEndpoint agent) 6
      else if niL agent = 49 ∧ !s.isFenced (217 - niHalf agent) then s.fenceSup (niHalf agent) 6 else s
    else s)

/-- May this issuer fence or release an interface (R20, R23, R381)? A stop of a bay is its controller's, stops 16–19 the
supervisor's; the half's supervisor acts anywhere, the other half's in its place while it is fenced; none acts while it is
fenced itself. -/
def State.mayFenceNi (s : State) (id : Nat) (c : CtlFrom) : Bool :=
  match c with
  | .bay => decide (niStop id < 16) && !s.isFenced (144 + 4 * niHalf id + niStop id / 4)
  | .sup g => s.supMay g (some (niHalf id))
  | .data => false

/-- FENCE_REQ (R379): ORDERLY, or FAULT. -/
def execFenceReq (id : Fin 256) (fault : Bool) (c : CtlFrom) (s : State) : Out :=
  .next (if niExists id ∧ s.mayFenceNi id c ∧ s.niState id = 0 then
      (s.wr (F.NOC_NI_STAT.STATE (niHalf id) (niL id)) 1).updNi id (fun x => { x with fault := fault, fencer := some c })
    else s)

/-- FENCE_ACK (R379, R380): ORDERLY waits until no request is outstanding, or RSP_TMO; the complete packets of the transmit queue
are injected; packets in the receive queue are answered as fenced. -/
def execFenceAck (id : Fin 256) (timeout : Bool) (s : State) : Out :=
  .next (if s.niState id = 1 ∧ ((s.ni id).fault ∨ timeout ∨ (s.ni id).outst.isEmpty) then
      let s := s.drainTx id
      let s := s.wr (F.NOC_NI_STAT.STATE (niHalf id) (niL id)) 2
      let rx := (s.ni id).rxq
      (s.updNi id (fun x => { x with rxq := [] })).each rx (fun s p => s.fencedPkt id p)
    else s)

/-- NI_RELEASE (R381): by the controller that fenced it, or the half's supervisor. -/
def execNiRelease (id : Fin 256) (c : CtlFrom) (s : State) : Out :=
  .next (if s.niState id = 2 ∧ s.mayFenceNi id c ∧
      ((s.ni id).fencer = some c ∨ c.isSup) then
      let s := s.updNi id NiSt.released
      (s.wr (F.NOC_NI_STAT.STATE (niHalf id) (niL id)) 0).niOut id
    else s)

/-! ## Route tables and links (R372, R375, R382, R383) -/

/-- A write of a route entry: all 32 bits at once. -/
def State.routeWrite (s : State) (t d v : Nat) : State :=
  if !niExists t then s
  else
    let s := s.setRoute t d v
    let s := if routeReserved v then s.setOn (F.NOC_ERR.RT_RSV (niHalf t)) else s
    if (s.ni t).outst.any (fun o => o.dest = d) then
      s.updNi t (fun x => { x with stale := (x.stale.filter (· ≠ d)) ++ [d] })
    else s

/-- ROUTE_TABLE_WRITE (R375). -/
def execRouteTableWrite (r : Req) (t d : Fin 256) (v : Word32) (s : State) : Out :=
  .next (if s.mayWrite r .win (some (t / 128)) then s.routeWrite t d v.toNat else s)

/-- The routes from interface t to d in the other directions and over the other bridge. -/
def allRoutes (t d vn : Nat) : List Nat :=
  let way := fun (a b dir : Nat) => if dir = 0 then (b + 20 - a) % 20 else (a + 20 - b) % 20
  if niHalf t = niHalf d then
    [0, 1].map (fun dir => routeWord vn 0 0 0 0 dir (way (niStop t) (niStop d) dir))
  else
    [0, 1].flatMap (fun br => [0, 1].flatMap (fun dir => [0, 1].map (fun rdir =>
      routeWord vn rdir (way (18 + br) (niStop d) rdir) br 1 dir (way (niStop t) (18 + br) dir))))

/-- The sum of hops of a route. -/
def hopsOf (v : Nat) : Nat := bits v 0 5 + (if bit v 6 then bits v 8 5 else 0)

/-- The supervisor's new entry (R383): the fewest hops over links that have not failed, or VALID = 0. -/
def State.newRoute (s : State) (t d : Nat) : Nat :=
  let old := s.route t d
  let ok := (allRoutes t d (bits old 14 1)).filter (fun v => !s.routeBroken t v)
  match ok with
  | [] => old % 2 ^ 31
  | v :: vs => vs.foldl (fun a b => if hopsOf b < hopsOf a then b else a) v

/-- Every entry, in both halves, whose path crosses a failed link is rewritten. -/
def State.reroute (s : State) : State :=
  let ids := (List.range 256).filter niExists
  s.each ids (fun s t => s.each ids (fun s d =>
    let v := s.route t d
    if bit v 31 && s.routeBroken t v then s.routeWrite t d (s.newRoute t d) else s))

/-- A link is taken out of use (R382, R383): routes that broke are replaced, RESOURCE_CHANGE posts it (R433). -/
def State.linkFail (s : State) (h stop dir : Nat) : State :=
  let s := s.wr (F.NOC_LINK.FAILED h dir) (s.rd (F.NOC_LINK.FAILED h dir) ||| 2 ^ stop)
  let s := s.setOn (F.NOC_ERR.LINK_FAIL h)
  ((s.reroute).postRes 7 (stop + 32 * dir + 256 * h) 0).updDegraded

/-- LINK_FAILED (R382, R383, R433): `lost`: the packets under way on the failed path, by their places. -/
def execLinkFailed (h : Fin 2) (stop : Fin 20) (dir : Fin 2) (lost : List Nat) (s : State) : Out :=
  .next (if s.linkFailed (h, stop, dir) then s
    else { s with flights :=
        (s.flights.zipIdx.filter (fun (f : Flight × Nat) => !lost.contains f.2)).map Prod.fst }.linkFail h stop dir)

end Sys2Proof.Machine
end

