-- ==== Sys2Proof/Machine/Fabric.lean ====
section
/-! DEFINITION. The fabric's clocks, endpoints, flip-flops and I/O-cell registers (R280, R290–R308). -/

namespace Sys2Proof.Machine

/-! ## Clock generators (R290–R292, R305) -/

/-- Change what the model keeps of generator g of half h. -/
def State.updFcg (s : State) (h g : Nat) (f : FcgSt → FcgSt) : State :=
  { s with fcgs := Table.upd FcgSt.reset s.fcgs (4 * h + g) f }

/-- The words of CFG and DIV as they act (reserved encodings as reset values, R9): M, D, SRC, BYPASS packed as the register has them. -/
def State.fcgWord (s : State) (h g : Nat) : Nat :=
  s.eff (F.FAB_FCG_CFG.M h g) * 2 ^ 14 + s.eff (F.FAB_FCG_CFG.D h g) * 2 ^ 10 + s.eff (F.FAB_FCG_CFG.SRC h g) * 2 ^ 7 +
    s.rd (F.FAB_FCG_CFG.BYPASS h g) * 2 ^ 6

/-- The input frequency in Hz: REFCLK, NCLK, or a pin's, which the surroundings give. -/
def fcgIn (cfg pinHz : Nat) : Nat := match bits cfg 7 3 with | 0 => 100000000 | 1 => 1600000000 | _ => pinHz

/-- A setting within R291. Without BYPASS the VCO and the divided input have ranges of their own. -/
def fcgOk (cfg div pinHz : Nat) : Bool :=
  let f := fcgIn cfg pinHz
  let m := bits cfg 14 8
  let d := bits cfg 10 4
  let byp := bit cfg 6
  let outs := (List.range 4).map (fun k => bits div (8 * k) 8)
  if byp then outs.all (fun o => o == 0 || decide (f ≤ 800000000 * o))
  else decide (1600000000 * d ≤ f * m) && decide (f * m ≤ 3200000000 * d) && decide (10000000 * d ≤ f) && decide (f ≤ 200000000 * d) &&
    outs.all (fun o => o == 0 || decide (f * m ≤ 800000000 * d * o))

/-- A write of APPLY: load CFG and DIV together and relock, or refuse with CFG_ERR. A disabled generator has nothing to lock. -/
def State.fcgApply (s : State) (h g pinHz : Nat) : State :=
  if s.on (F.FAB_FCG_CFG.APPLY h g) then s
  else
    let cfg := s.fcgWord h g
    let div := s.rd (F.FAB_FCG_DIV.O h g)
    if fcgOk cfg div pinHz then
      let s := (s.updFcg h g (fun x => { x with cfg := cfg, div := div, low := true })).clr (F.FAB_FCG_STAT.LOCKED h g)
      if s.on (F.FAB_FCG_CFG.EN h g) then s.setOn (F.FAB_FCG_CFG.APPLY h g) else s
    else s.setOn (F.FAB_FCG_STAT.CFG_ERR h g)

/-- A write of CFG: discarded while APPLY reads 1; EN = 0 holds every output low. -/
def State.fcgCfgWrite (s : State) (h g v : Nat) : State :=
  if s.on (F.FAB_FCG_CFG.APPLY h g) then s
  else
    let s := ((s.wr (F.FAB_FCG_CFG.M h g) (bits v 14 8)).wr (F.FAB_FCG_CFG.D h g) (bits v 10 4)).wr (F.FAB_FCG_CFG.SRC h g) (bits v 7 3)
    let s := (s.wr (F.FAB_FCG_CFG.BYPASS h g) (bits v 6 1)).wr (F.FAB_FCG_CFG.EN h g) (bits v 0 1)
    if bit v 0 then s
    else (s.clr (F.FAB_FCG_STAT.LOCKED h g)).updFcg h g (fun x => { x with low := true })

/-- FCG_APPLY (R291, R292). -/
def execFcgApply (r : Req) (h : Fin 2) (g : Fin 4) (pinHz : Nat) (s : State) : Out :=
  .next (if s.mayWrite r .fab (some h) then s.fcgApply h g pinHz else s)

/-- FCG_RELOCK (R292). -/
def execFcgRelock (h : Fin 2) (g : Fin 4) (s : State) : Out :=
  .next (if s.on (F.FAB_FCG_CFG.EN h g) ∧ !s.on (F.FAB_FCG_STAT.LOCKED h g) then
      ((s.setOn (F.FAB_FCG_STAT.LOCKED h g)).clr (F.FAB_FCG_CFG.APPLY h g)).updFcg h g (fun x => { x with low := false })
    else s)

/-- FCG_LOCK_LOSS (R305). -/
def execFcgLockLoss (h : Fin 2) (g : Fin 4) (s : State) : Out :=
  .next (if s.on (F.FAB_FCG_STAT.LOCKED h g) ∧ !bit (s.fcg h g).cfg 6 then
      ((s.setOn (F.FAB_FCG_STAT.LOCKLOSS h g)).clr (F.FAB_FCG_STAT.LOCKED h g)).updFcg h g (fun x => { x with low := true })
    else s)

/-! ## Regional lines (R293, R306) -/

/-- SEL of line l of region r. -/
def State.lineSel (s : State) (r l : Nat) : Nat :=
  if l < 8 then bits (s.rd (F.FAB_RCLK_A.SEL_0_7 r)) (4 * l) 4 else bits (s.rd (F.FAB_RCLK_B.SEL_8_11 r)) (4 * (l - 8)) 4
def State.lineOn (s : State) (r l : Nat) : Bool := bit (s.rd (F.FAB_RCLK_C.ON r)) l
def State.lineGate (s : State) (r l : Nat) : Bool := bit (s.rd (F.FAB_RCLK_C.GATE_EN r)) l

/-- RCLK_WRITE (R293, R306): register A, B or C of region r. The change is free of glitches, so that only the edges that follow
tell of it. -/
def execRclkWrite (q : Req) (r : Fin 32) (which : Fin 3) (v : Word32) (s : State) : Out :=
  .next (if s.mayWrite q .fab (some (r / 16)) then s.storeWord (0x2001000 + 16 * r + 4 * which) v.toNat else s)

/-- The lowest tile of a region: lowest row, lowest column (R276, R293). -/
def regionTile (r : Nat) : Nat :=
  let y := (quarterRows (4 * r)).1
  tileNo (r / 16) (if r % 4 = 0 then 0 else 1 + 27 * (r % 4)) y

/-- May line l of region r have this edge now? A rising edge needs a running clock, the line on and the gate open; a high line
always falls. -/
def State.edgeMay (s : State) (e : Nat × Bool) : Bool :=
  let r := e.1 / 16
  let l := e.1 % 16
  if e.2 then
    l < 12 && !Table.get false s.lineHi e.1 && s.lineOn r l && s.gclkOn (r / 16) (s.lineSel r l) &&
      !(s.lineGate r l && Table.get false s.gateOff e.1)
  else Table.get false s.lineHi e.1

/-! ## Registers at an edge (R280, R295, R296, R298) -/

/-- Is an edge of line l of region r that is active for the polarity among those of the moment, for a quarter whose registers have
left INIT there? All of a line's registers leave it at the third rising edge after release: a falling edge follows that one. -/
def State.clocked (s : State) (q l : Nat) (inv : Bool) : Bool :=
  let n := q / 4 * 16 + l
  l < 12 && !s.qHeld q && s.edge.lines.any (fun e =>
    e.1 == n && (e.2 != inv) && decide (Table.get 0 s.edge.ghWait (q * 16 + l) ≤ b2n e.2))

/-- The state as it stood before the edge. -/
def State.before (s : State) : State :=
  { s with ffX := s.edge.ffX, brams := s.edge.brams, slices := s.edge.slices, ios := s.edge.ios }

/-- Control set k of a cluster: CLKSEL, CLK_INV, SR_MODE. -/
def State.ctlSet (s : State) (t k : Nat) : Nat := bits (s.cfgW t 48) (6 * k) 6

/-- The tiles whose records hold anything. -/
def State.usedTiles (s : State) : List Nat :=
  s.fcfg.foldr (fun (e : Nat × Nat) l => if l.head? = some (e.1 / 128) then l else e.1 / 128 :: l) []

/-- Flip-flop a of cell c of cluster t at the edge; `b`: the nets as they stood before it. -/
def State.ffStep (s b : State) (t c a : Nat) : State :=
  let w := s.cfgW t (3 * c + 2)
  let k := bits w (10 + 3 * a) 1
  let set := s.ctlSet t k
  if !s.clocked (tileQ t) (set % 16) (bit set 4) then s
  else
    let sr := b.inp t (114 + k)
    let srv := bit w (12 + 3 * a)
    let lx := b.lut b.net t c
    let d := if a = 0 then
        match bits w 0 2 with | 0 => lx.1 | 1 => b.sumOut b.net t c | 2 => b.inp t (7 * c + 6) | _ => lx.2
      else
        match bits w 2 2 with | 0 => lx.2 | 1 => b.inp t (7 * c + 6) | 2 => b.carryOut b.net t c | _ => lx.1
    let q := if sr then srv else if b.inp t (112 + k) then d else b.ffQ t c a
    { s with ffX := Table.set false s.ffX (t * 32 + 2 * c + a) (q != s.ffInit t c a) }

/-- The I/O cell of pin p at the edge. -/
def State.ioStep (s b : State) (p : Nat) : State :=
  let t := ioTile p
  let l := s.ioW p 8 4
  let q := tileQ t
  let up := s.clocked q l false
  let dn := s.clocked q l true
  if !up ∧ !dn then s
  else
    let ce := b.inp t 4
    let sr := b.inp t 5
    let x := b.ioSt p
    let i0 := s.ioW p 12 1 == 1
    let i1 := s.ioW p 13 1 == 1
    let ii := Config.ioInit p
    let pad := b.padLevel p
    let ld := fun (v init old : Bool) => if sr then false else if ce then v != init else old
    let act := fun (mode : Nat) => (mode = 1 ∧ up) ∨ (mode = 2 ∧ dn) ∨ (mode = 3 ∧ up)
    let om := s.ioW p 4 2
    let tm := s.ioW p 6 2
    let im := s.ioW p 2 2
    let x := { x with
      high := up
      oR := if act om then ld (b.inp t 0) i0 x.oR else x.oR
      oF := if om = 3 ∧ dn then ld (b.inp t 1) i0 x.oF else x.oF
      tR := if act tm then ld (b.inp t 2) i1 x.tR else x.tR
      tF := if tm = 3 ∧ dn then ld (b.inp t 3) i1 x.tF else x.tF
      sR := if im = 3 ∧ up then ld pad ii x.sR else x.sR
      sF := if im = 3 ∧ dn then ld pad ii x.sF else x.sF
      iR := if im = 3 then (if up then ld (x.sR != ii) ii x.iR else x.iR) else if act im then ld pad ii x.iR else x.iR
      iF := if im = 3 ∧ up then ld (x.sF != ii) ii x.iF else x.iF }
    { s with ios := Table.set IoSt.reset s.ios p x }

/-- The registers of a quarter on line l (12–15: on no line) have left INIT. -/
def State.started (s : State) (q l : Nat) : Bool := !s.qHeld q && Table.get 0 s.ghWait (q * 16 + l) == 0

/-- The flip-flops whose asynchronous SR is asserted take SRVAL (R280). -/
def State.asyncOnce (s : State) : State :=
  s.each (s.usedTiles.filter (fun t => colKind (tileX t) = .cluster)) (fun r t =>
    r.each ([0, 1].filter (fun k => s.started (tileQ t) (bits (s.ctlSet t k) 0 4) && bit (s.ctlSet t k) 5 && s.inp t (114 + k))) (fun r k =>
      r.each (List.range 32) (fun r i =>
        let c := i / 2
        let a := i % 2
        let w := s.cfgW t (3 * c + 2)
        if bits w (10 + 3 * a) 1 = k then
          { r with ffX := Table.set false r.ffX (t * 32 + i) (bit w (12 + 3 * a) != s.ffInit t c a) }
        else r)))

/-- Repeat until nothing changes: each pass only sets more of them, so that one pass for each flip-flop is enough. -/
def State.asyncSettle (s : State) : Nat → State
  | 0 => s
  | n + 1 => let t := s.asyncOnce; if t.ffX = s.ffX then t else t.asyncSettle n
def State.asyncAll (s : State) : State := s.asyncSettle (s.ffX.length + 32 * s.usedTiles.length + 1)

/-- REGIONAL_LINE_EDGE (R280, R293, R295, R296, R298): the lines that have an edge at this moment (region × 16 + line, rising), and the
levels on the pads, `driven` those that the surroundings drive. What an asynchronous SR has set by then goes first. The block memories and arithmetic slices on these lines follow by rows of their own. -/
def execRegionalLineEdge (lines : List (Fin 512 × Bool)) (pads driven : BitVec 96) (s : State) : Out :=
  .next (
    let es := (lines.map (fun (e : Fin 512 × Bool) => (e.1.val, e.2))).filter s.edgeMay
    let s := ({ s.keep s.keepers with padExt := pads.toNat, padOn := driven.toNat, fresh := s.fresh + 1 } : State).asyncAll
    let s := { s with edge := ⟨es, s.ffX, s.brams, s.slices, s.ios, s.ghWait, []⟩ }
    let b := s
    let s := s.each (s.usedTiles.filter (fun t => colKind (tileX t) = .cluster)) (fun s t =>
      s.each (List.range 32) (fun s i => s.ffStep b t (i / 2) (i % 2)))
    let s := s.each (List.range 96) (fun s p => s.ioStep b p)
    let s := s.each es (fun s e =>
      let s := { s with lineHi := Table.set false s.lineHi e.1 e.2 }
      if e.2 then
        s.each (List.range 4) (fun s q =>
          let key := (e.1 / 16 * 4 + q) * 16 + e.1 % 16
          if s.qHeld (e.1 / 16 * 4 + q) then s else { s with ghWait := Table.upd 0 s.ghWait key (fun n => n - 1) })
      else
        let open_ := b.srcVal b.net (regionTile (e.1 / 16)) e.1 (b.tapSrc (regionTile (e.1 / 16)) 0)
        { s with gateOff := Table.set false s.gateOff e.1 (!open_) })
    s.asyncAll)

/-! ## Global start hold (R295, R321, R324) -/

/-- The registers of a quarter go to their INIT. -/
def State.holdQuarter (s : State) (q : Nat) : State :=
  { s with
    ffX := s.ffX.filter (fun (e : Nat × Bool) => tileQ (e.1 / 32) != q)
    brams := s.brams.filter (fun (e : Nat × BramSt) => tileQ e.1 != q)
    bramX := s.bramX.filter (fun (e : Nat × Nat) => tileQ (e.1 / 1024) != q)
    slices := s.slices.filter (fun (e : Nat × SliceSt) => tileQ e.1 != q)
    ios := s.ios.filter (fun (e : Nat × IoSt) => tileQ (ioTile e.1) != q) }

/-- A quarter is released: its registers leave INIT at the third rising edge of each line. -/
def State.releaseQuarter (s : State) (q : Nat) : State :=
  { s with ghWait := (List.range 12).foldl (fun t l => Table.set 0 t (q * 16 + l) 3) s.ghWait }

/-! ## Network endpoints (R300–R304, R307) -/

/-- The region's controller: the bay of endpoint e is e div 8 (its region is e div 2, four regions a bay). -/
def State.mayEndpoint (s : State) (e : Nat) (c : CtlFrom) : Bool := s.mayFenceNi (niOfEndpoint e) c

/-- NE_RX_STALL_TIMEOUT (R302). -/
def execNeRxStallTimeout (e : Fin 64) (s : State) : Out :=
  .next (if s.on (F.FAB_NE_CFG.EN e) ∧ !s.on (F.FAB_NE_STAT.DOWN e) then s.setOn (F.FAB_NE_STAT.RX_STALL e) else s)

/-- NE_FENCE (R304): for a partial reconfiguration, or at software's word. -/
def execNeFence (e : Fin 64) (c : CtlFrom) (reconfig : Bool) (s : State) : Out :=
  .next (if !s.por ∧ s.mayEndpoint e c then s.fenceEndpoint e (if reconfig then 10 else 8) else s)

/-- An endpoint returns with empty queues: no outstanding request, no line. -/
def State.releaseEndpoint (s : State) (e : Nat) : State :=
  let id := niOfEndpoint e
  let s := ((s.clr (F.FAB_NE_STAT.FENCED e)).clr (F.FAB_NE_STAT.DOWN e)).wr (F.SUP_UNIT_STAT.STATE (152 + e)) 0
  let s := ((s.clr (F.SUP_UNIT_STAT.CAUSE (152 + e))).openGates (152 + e)).updNi id NiSt.released
  s.wr (F.NOC_NI_STAT.STATE (niHalf id) (niL id)) 0

/-- NE_RELEASE_DONE (R304, R521): the endpoint's queues are empty, it is enabled, no fault holds it, and its quarter is not under a
load. -/
def execNeReleaseDone (e : Fin 64) (s : State) : Out :=
  .next (if s.isFenced (152 + e) ∧ s.on (F.FAB_NE_CFG.EN e) ∧ !(s.ni (niOfEndpoint e)).broken ∧
      !s.qHeld (4 * (e / 2) + (if e.val % 2 = 0 then 0 else 2)) ∧
      (s.ni (niOfEndpoint e)).rxq.isEmpty ∧ (s.ni (niOfEndpoint e)).txq.isEmpty then s.releaseEndpoint e
    else s)

/-- A write of FAB_NE_CFG_e (R304, R307): CLKSEL and COH hold while EN = 1; EN from 1 to 0 fences, and EN from 0 to 1
withdraws a fault (R421, R521); NE_DOWN falls when a disabled
endpoint that is not fenced is enabled. -/
def State.neCfgWrite (s : State) (e v : Nat) : State :=
  let was := s.on (F.FAB_NE_CFG.EN e)
  let s := if was then s else (s.wr (F.FAB_NE_CFG.CLKSEL e) (bits v 2 4)).wr (F.FAB_NE_CFG.COH e) (bits v 1 1)
  let s := s.wr (F.FAB_NE_CFG.EN e) (bits v 0 1)
  let s := if !was && bit v 0 then s.updNi (niOfEndpoint e) (fun x => { x with broken := false }) else s
  if was && !bit v 0 then s.fenceEndpoint e 8 else s

/-- The quarters of endpoint e, of vector port p of half h and of the fail stream of bay b (R300). -/
def endpointQ (e : Nat) : Nat := 4 * (e / 2) + (if e % 2 = 0 then 0 else 2)
def portQuarter (h p : Nat) : Nat := 4 * (16 * h + 4 * (p / 2) + 2) + (if p % 2 = 0 then 1 else 3)
def streamQ (b : Nat) : Nat := 4 * (4 * b + 1) + 1

/-- A write of a FAB register under the rules of R292, R304 and R307; `pinHz`: a generator's input from a pin. -/
def State.fabWrite (s : State) (off v pinHz : Nat) : State :=
  let o := off - 0x2000000
  if o < 0xF00 then
    let h := o / 0x100
    let g := o % 0x100 / 16
    if 2 ≤ h ∨ 4 ≤ g then s.storeWord off v
    else match o % 16 with
      | 0 => if bit v 1 then (s.fcgCfgWrite h g v).fcgApply h g pinHz else s.fcgCfgWrite h g v
      | 4 => if s.on (F.FAB_FCG_CFG.APPLY h g) then s else s.storeWord off v
      | _ => s.storeWord off v
  else if 0x2000 ≤ o ∧ o < 0x2400 ∧ o % 16 = 0 then s.neCfgWrite ((o - 0x2000) / 16) v
  else s.storeWord off v

/-- While a quarter is fenced, user writes to the registers of its endpoints and I/O cells are discarded (R355). -/
def State.fabBlocked (s : State) (off : Nat) : Bool :=
  let o := off - 0x2000000
  if 0x2000 ≤ o ∧ o < 0x2400 then s.qFenced (endpointQ ((o - 0x2000) / 16))
  else if 0x3000 ≤ o ∧ o < 0x3180 then s.qFenced (tileQ (ioTile ((o - 0x3000) / 4)))
  else false

end Sys2Proof.Machine
end

