-- ==== Sys2Proof/Machine/Agents.lean ====
section
/-! DEFINITION. The control hierarchy (R19–R22, R428): control actions as block agents receive, order, execute and cancel them. -/

namespace Sys2Proof.Machine

/-- The number under which an agent's received actions stand: the unit number of R417 where it has one. -/
def agentKey : Agent → Nat
  | .slot n => n
  | .group g => 104 + g
  | .dram d => 136 + d
  | .banks h k => 300 + 8 * h + k
  | .loan h => 320 + h
  | .stop h t => 330 + 20 * h + t
  | .region r => 380 + r

/-- The bay whose controller controls the agent (R16, R19); the loan bank and stops 16–19 have the supervisor alone. -/
def agentBay : Agent → Option Nat
  | .slot n => some (n / 13)
  | .group g => some (g / 4)
  | .dram d => some d
  | .banks h k => some (4 * h + k / 2)
  | .loan _ => none
  | .stop h t => if t.val < 16 then some (4 * h + t / 4) else none
  | .region r => some (r / 4)

/-- The half of an agent. -/
def agentHalf : Agent → Nat
  | .slot n => n / 52
  | .group g => g / 16
  | .dram d => d / 4
  | .banks h _ => h
  | .loan h => h
  | .stop h _ => h
  | .region r => r / 16

/-- Does the agent accept an action from this issuer (R20, R22)? Its own bay controller and its own half's supervisor while they are
not fenced; the other half's supervisor only while its own is fenced; an engine, the fabric and BAR4 never. -/
def State.accepts (s : State) (a : Agent) (c : CtlFrom) : Bool :=
  match c with
  | .bay => match agentBay a with | some b => !s.isFenced (144 + b) | none => false
  | .sup g => !s.isFenced (216 + g) && (g.val == agentHalf a || s.isFenced (216 + agentHalf a))
  | .data => false

/-- Actions received and not executed. -/
def State.actions (s : State) (a : Agent) : List CtlAction := Table.get [] s.agents (agentKey a)
def State.setActions (s : State) (a : Agent) (l : List CtlAction) : State :=
  { s with agents := Table.set [] s.agents (agentKey a) l }

/-- The place of an action in the order of R21. -/
def CtlAction.rank (x : CtlAction) : Nat :=
  2 * (match x.kind with | .fence => 0 | .reset => 1 | .configure => 2 | .calibrate => 3) + (if x.from_.isSup then 0 else 1)

/-- The action to execute first: of the lowest rank, the earliest received. -/
def firstOf : List CtlAction → Option CtlAction
  | [] => none
  | x :: xs => match firstOf xs with
    | some y => if x.rank ≤ y.rank then some x else some y
    | none => some x

/-- The interfaces at a ring stop start an orderly fence (R379). -/
def State.fenceStop (s : State) (h t : Nat) (c : CtlFrom) : State :=
  s.each ((List.range 256).filter (fun id => niExists id && niHalf id == h && niStop id == t && s.niState id == 0)) (fun s id =>
    (s.wr (F.NOC_NI_STAT.STATE (niHalf id) (niL id)) 1).updNi id (fun x => { x with fault := false, fencer := some c }))

/-- What a fence does (R23, R418): cause SOFTWARE. A removal from the interleave follows the fence of a DRAM interface (R250), the
endpoints of a fabric clock region are fenced with it; of a bank group or a loan bank the spec states no effect. -/
def State.fenceAgent (s : State) (a : Agent) (c : CtlFrom) : State :=
  match a with
  | .slot n => s.fenceSlot n 8
  | .group g => s.fenceGroup g 8
  | .dram d => s.updDmc d (fun x => { x with noSet := true })
  | .stop h t => s.fenceStop h t c
  | .region r => (s.fenceEndpoint (2 * r) 8).fenceEndpoint (2 * r + 1) 8
  | .banks _ _ => s
  | .loan _ => s

/-- Execute one action: a fence cancels every pending configure and calibrate, each reported to its issuer (R21). -/
def State.execute (s : State) (a : Agent) (x : CtlAction) : State :=
  let rest := (s.actions a).erase x
  match x.kind with
  | .fence =>
    let gone := rest.filter (fun (y : CtlAction) => y.kind == .configure || y.kind == .calibrate)
    let s := s.setActions a (rest.filter (fun (y : CtlAction) => !(y.kind == .configure || y.kind == .calibrate)))
    ({ s with reports := s.reports ++ gone.map (fun y => (agentKey a, y)) }).fenceAgent a x.from_
  | _ => s.setActions a rest

/-- Execute every action received, k at most. -/
def State.executeAll (s : State) (a : Agent) : Nat → State
  | 0 => s
  | k + 1 => match firstOf (s.actions a) with
    | some x => (s.execute a x).executeAll a k
    | none => s

/-- An action arrives; `more`: others arrive before it is executed. -/
def State.receive (s : State) (a : Agent) (k : CtlKind) (c : CtlFrom) (more : Bool) : State :=
  if s.por ∨ !s.accepts a c then s
  else
    let s := s.setActions a (s.actions a ++ [⟨k, c⟩])
    if more then s else s.executeAll a (s.actions a).length

/-- AGENT_FENCE (R20, R21). -/
def execAgentFence (a : Agent) (c : CtlFrom) (more : Bool) (s : State) : Out := .next (s.receive a .fence c more)

/-- AGENT_RESET (R20, R21). -/
def execAgentReset (a : Agent) (c : CtlFrom) (more : Bool) (s : State) : Out := .next (s.receive a .reset c more)

/-- AGENT_CONFIGURE (R20, R21). -/
def execAgentConfigure (a : Agent) (c : CtlFrom) (more : Bool) (s : State) : Out := .next (s.receive a .configure c more)

/-- AGENT_CALIBRATE (R20, R21). -/
def execAgentCalibrate (a : Agent) (c : CtlFrom) (more : Bool) (s : State) : Out := .next (s.receive a .calibrate c more)

end Sys2Proof.Machine
end

