-- ==== Sys2Proof/Machine/FabricMem.lean ====
section
/-! DEFINITION. Block memories and arithmetic slices at an edge of their clocks (R309–R328). -/

namespace Sys2Proof.Machine

/-! ## Block memories -/

/-- Row r of a block memory, 36 bits (R309, R312). -/
def State.bramRow (s : State) (t r : Nat) : Nat := Table.get 0 s.bramInit (t * 1024 + r) ^^^ Table.get 0 s.bramX (t * 1024 + r)
def State.bramPut (s : State) (t r v : Nat) : State :=
  { s with bramX := Table.set 0 s.bramX (t * 1024 + r) (v ^^^ Table.get 0 s.bramInit (t * 1024 + r)) }

/-- What a port does at an edge (R310, R313): row, lowest bit and width of the bits addressed, the bits of the row it writes, data. -/
structure PortAcc where
  row  : Nat
  lo   : Nat
  w    : Nat
  mask : Nat
  data : Nat
  deriving DecidableEq, Repr

/-- The bits that a width code addresses: within the row as it is stored, byte k at bits [9k + 8 : 9k]. -/
def bramLo (code addr : Nat) : Nat :=
  let data := fun (i : Nat) => 9 * (i / 8) + i % 8
  match code with
  | 1 => data (addr % 32)
  | 2 => data (addr % 32 / 2 * 2)
  | 3 => data (addr % 32 / 4 * 4)
  | 4 => 9 * (addr % 32 / 8)
  | 5 => 18 * (addr % 32 / 16)
  | _ => 0

/-- The write mask of the port's bits from WE. -/
def bramMask (code we : Nat) : Nat :=
  match code with
  | 0 => 0
  | 1 | 2 | 3 | 4 => if bit we 0 then 2 ^ bramBits code - 1 else 0
  | c => ((List.range (if c = 5 then 2 else 4)).map (fun k => if bit we k then 511 * 2 ^ (9 * k) else 0)).foldl (· + ·) 0

/-- Port A (false) or B (true) of the site at t, its inputs as they stood before the edge; WMODE 3 never writes, nor does port B
with width code 7. -/
def State.portAcc (s b : State) (t : Nat) (p : Bool) : PortAcc :=
  let base := if p then t + 2 else t
  let code := if p then s.bramW t 3 3 else s.bramW t 0 3
  let mode := if p then s.bramW t 8 2 else s.bramW t 6 2
  let addr := b.inps base 0 15
  let lo := bramLo code addr
  let wm := if mode = 3 ∨ (p ∧ code = 7) then 0 else bramMask code (b.inps base 15 8)
  ⟨addr / 32, lo, bramBits code, wm * 2 ^ lo, b.inps (base + 1) 0 36 * 2 ^ lo⟩

/-- A row after a write. -/
def PortAcc.put (a : PortAcc) (row : Nat) : Nat := (row &&& (2 ^ 36 - 1 - a.mask)) ||| (a.data &&& a.mask)
/-- The addressed bits of a row. -/
def PortAcc.get (a : PortAcc) (row : Nat) : Nat := bits row a.lo a.w

/-- The output latch after an access (R314): none, it holds. `old`: the row before any write of the moment. -/
def PortAcc.latch (a : PortAcc) (mode old : Nat) : Option Nat :=
  if a.mask = 0 then some (a.get old)
  else match mode with
    | 0 => some (a.get (a.put old))
    | 1 => some (a.get old)
    | 2 => none
    | _ => some (a.get old)

/-- The output stages of a port at an edge (R313): latch and pipeline register, each kept as its difference from SRVAL where it is
the final stage. -/
def outStages (pipe : Bool) (sr lat pip : Nat) (load : Option Nat) (pce rst : Bool) : Nat × Nat :=
  let latNow := if pipe then lat else lat ^^^ sr
  let latNew := load.getD latNow
  if pipe then (latNew, if rst then 0 else if pce then latNow ^^^ sr else pip)
  else (if rst then 0 else latNew ^^^ sr, pip)

/-- The 64 data bits of two rows, and the 8 check bits. -/
def rowData (v : Nat) : Nat := ((List.range 4).map (fun k => bits v (9 * k) 8 * 2 ^ (8 * k))).foldl (· + ·) 0
def rowPar (v : Nat) : Nat := ((List.range 4).map (fun k => bits v (9 * k + 8) 1 * 2 ^ k)).foldl (· + ·) 0
def rowMake (data par : Nat) : Nat :=
  ((List.range 4).map (fun k => bits data (8 * k) 8 * 2 ^ (9 * k) + bits par k 1 * 2 ^ (9 * k + 8))).foldl (· + ·) 0

/-- The edges of the two ports at this moment: CLKSEL and CLKINV of each; under WIDTH_A = 7 port B is the read port whatever its width. -/
def State.bramEdges (s : State) (t : Nat) : Bool × Bool :=
  let q := tileQ t
  (s.bramW t 0 3 != 0 && s.clocked q (s.bramW t 12 4) (s.bramW t 20 1 == 1),
   (s.bramW t 0 3 == 7 || s.bramW t 3 3 != 0) && s.clocked q (s.bramW t 16 4) (s.bramW t 21 1 == 1))

/-- COLLIDE after the moment (R318): a set wins over a clear. -/
def State.bramColl (s b : State) (t : Nat) (set : Bool) : Bool :=
  let e := s.bramEdges t
  let clkA := if s.bramW t 0 3 = 0 then e.2 else e.1
  set || ((s.bram t).coll && !(clkA && b.inp t 26))

/-- True dual-port operation (R313–R317). -/
def State.bramTrue (s b : State) (t : Nat) : State :=
  let e := s.bramEdges t
  let x := s.bram t
  let a := s.portAcc b t false
  let c := s.portAcc b t true
  let onA := e.1 && b.inp t 23
  let onB := e.2 && b.inp (t + 2) 23
  let mA := if onA then a.mask else 0
  let mB := if onB then c.mask else 0
  let both := if a.row = c.row then mA &&& mB else 0
  let clash := decide (both ≠ 0) && decide (a.data &&& both ≠ c.data &&& both)
  let priB := s.bramW t 22 1 == 1
  let loseA := clash && priB
  let loseB := clash && !priB
  let oldA := s.bramRow t a.row
  let oldB := s.bramRow t c.row
  let s := if mA ≠ 0 ∧ !loseA then s.bramPut t a.row (a.put (s.bramRow t a.row)) else s
  let s := if mB ≠ 0 ∧ !loseB then s.bramPut t c.row (c.put (s.bramRow t c.row)) else s
  let latA := if !onA then none else if loseA then some (a.get (s.bramRow t a.row)) else { a with mask := mA }.latch (s.bramW t 6 2) oldA
  let latB := if !onB then none else if loseB then some (c.get (s.bramRow t c.row)) else { c with mask := mB }.latch (s.bramW t 8 2) oldB
  let oA := if e.1 then outStages (s.bramW t 10 1 == 1) (s.bramSr t false) x.latA x.pipA latA (b.inp t 24) (b.inp t 25) else (x.latA, x.pipA)
  let oB := if e.2 then outStages (s.bramW t 11 1 == 1) (s.bramSr t true) x.latB x.pipB latB (b.inp (t + 2) 24) (b.inp (t + 2) 25)
    else (x.latB, x.pipB)
  let coll := s.bramColl b t clash
  { s with brams := Table.set BramSt.reset s.brams t { x with
      latA := oA.1, pipA := oA.2, latB := oB.1, pipB := oB.2, coll := coll } }

/-- A write of port A of the simple dual-port memory (R311, R319): rows 2s and 2s + 1; under ECC all 72 bits with check bits. -/
def State.bramSdpWrite (s b : State) (t : Nat) : State :=
  let r := b.inps t 0 15 / 64 * 2
  let we := b.inps t 15 8
  let lo := b.inps (t + 1) 0 36
  let hi := b.inps (t + 3) 0 36
  if s.bramW t 6 2 = 3 then s
  else if s.bramW t 23 1 = 1 then
    if bit we 0 then
      let chk := Config.eccBits (rowData lo + 2 ^ 32 * rowData hi) % 256
      (s.bramPut t r (rowMake (rowData lo) chk)).bramPut t (r + 1) (rowMake (rowData hi) (chk / 16))
    else s
  else
    let put := fun (v old m : Nat) => (old &&& (2 ^ 36 - 1 - m)) ||| (v &&& m)
    let s := s.bramPut t r (put lo (s.bramRow t r) (bramMask 6 we))
    s.bramPut t (r + 1) (put hi (s.bramRow t (r + 1)) (bramMask 6 (we / 16)))

/-- What port B of the simple dual-port memory reads: the two rows and the ECC flags (R319). -/
def State.bramSdpRead (s : State) (t r : Nat) : (Nat × Nat) × (Bool × Bool) :=
  let lo := s.bramRow t r
  let hi := s.bramRow t (r + 1)
  let data := rowData lo + 2 ^ 32 * rowData hi
  let chk := rowPar lo + 16 * rowPar hi
  if s.bramW t 23 1 = 0 ∨ Config.eccBits data % 256 = chk then ((lo, hi), (false, false))
  else match Config.eccFix data chk with
    | none => ((lo, hi), (false, true))
    | some d =>
      if s.bramW t 24 1 = 1 then ((rowMake (d % 2 ^ 32) (chk % 16), rowMake (d / 2 ^ 32 % 2 ^ 32) (chk / 16)), (true, false))
      else ((lo, hi), (true, false))

/-- Simple dual-port operation: a coinciding read returns the contents before the write (R317). -/
def State.bramSdp (s b : State) (t : Nat) : State :=
  let e := s.bramEdges t
  let x := s.bram t
  let onB := e.2 && b.inp (t + 2) 23
  let rd := s.bramSdpRead t (b.inps (t + 2) 0 15 / 64 * 2)
  let s := if e.1 && b.inp t 23 then s.bramSdpWrite b t else s
  let pipe := s.bramW t 11 1 == 1
  let pce := b.inp (t + 2) 24
  let rst := b.inp (t + 2) 25
  let x := { x with coll := s.bramColl b t false }
  let x := if e.2 then
      let oA := outStages pipe (s.bramSr t false) x.latA x.pipA (if onB then some rd.1.1 else none) pce rst
      let oB := outStages pipe (s.bramSr t true) x.latB x.pipB (if onB then some rd.1.2 else none) pce rst
      let last := fun (v old : Bool) => if rst then false else if pce then v else old
      { x with
        latA := oA.1, pipA := oA.2, latB := oB.1, pipB := oB.2
        fixL := if !pipe && rst then false else if onB then rd.2.1 else x.fixL
        badL := if !pipe && rst then false else if onB then rd.2.2 else x.badL
        fixP := if pipe then last x.fixL x.fixP else x.fixP
        badP := if pipe then last x.badL x.badP else x.badP }
    else x
  { s with brams := Table.set BramSt.reset s.brams t x }

/-- A hard site of the kind at tile t acts once on the edge of the moment. -/
def State.siteMay (s : State) (t : Nat) (k : TileKind) : Bool :=
  colKind (tileX t) == k && tileY t % 5 == 0 && !s.edge.done.contains t

/-- BRAM_ACCESS (R309–R321): the ports of the block memory at t whose clocks are among the lines of the edge. -/
def execBramAccess (t : Fin 139520) (s : State) : Out :=
  .next (
    let e := s.bramEdges t
    if s.siteMay t .bram ∧ (e.1 ∨ e.2) then
      let s := { s with edge := { s.edge with done := t :: s.edge.done } }
      if s.bramW t 0 3 = 7 then s.bramSdp s.before t else s.bramTrue s.before t
    else s)

/-! ## Arithmetic slices (R322–R328) -/

/-- An operand as it acts at an edge: its input, or its register. -/
def State.opnd (b : State) (t reg bitNo off j n : Nat) : Nat :=
  if b.sliceW t bitNo 1 = 1 then reg else b.inps (t + off) j n

/-- The product of the operands (R324). -/
def State.product (b : State) (t : Nat) : Int :=
  let x := b.slice t
  let a := b.opnd t x.ra 2 0 0 16
  let c := b.opnd t x.rb 3 0 16 16
  let i := fun (sgn v : Nat) => if sgn = 1 then sInt 16 v else (v : Int)
  i (b.sliceW t 0 1) a * i (b.sliceW t 1 1) c

/-- The addend C. -/
def State.addend (b : State) (t : Nat) : Int := sInt 40 (b.opnd t (b.slice t).rc 4 1 0 40)

/-- The accumulator as an exact value: V for a pair (R326). -/
def State.accVal (b : State) (t : Nat) : Int :=
  if b.headExt t then sInt 80 ((b.slice t).acc + 2 ^ 40 * (b.slice (t + 5)).acc) else sInt 40 (b.slice t).acc

/-- What a slice's accumulator holds after the edge (R324–R326): low 40 bits, the extension's 40 bits, overflow, hold. -/
structure AccNext where
  lo   : Nat
  hi   : Nat
  ovf  : Bool
  hold : Bool
  deriving DecidableEq, Repr

/-- The sum that OP selects. -/
def sliceSum (op : Nat) (acc p c ci : Int) : Int :=
  match op with
  | 0 => acc
  | 1 => p + ci
  | 2 => acc + p + ci
  | 3 => acc - p + ci
  | 4 => c + ci
  | 5 => acc + c + ci
  | 6 => acc + p + c + ci
  | _ => 0

/-- The accumulator after the edge, CI given. -/
def State.accNext (b : State) (t : Nat) (ci : Int) : AccNext :=
  let x := b.slice t
  let op := b.inps t 32 3
  let rst := b.inp t 36
  let ce := b.inp t 35
  let hi := (b.slice (t + 5)).acc
  if rst then ⟨0, 0, false, false⟩
  else if !ce then ⟨x.acc, hi, false, x.hold⟩
  else
    let sum := sliceSum op (b.accVal t) (b.product t) (b.addend t) ci
    if b.headExt t then ⟨sNat 40 sum, sNat 80 sum / 2 ^ 40, decide (sum < -(2 ^ 79) ∨ 2 ^ 79 ≤ sum), false⟩
    else
      let out := decide (sum < -(2 ^ 39) ∨ 2 ^ 39 ≤ sum)
      if b.sliceW t 11 2 = 1 then
        let keeps := op = 2 ∨ op = 3 ∨ op = 5 ∨ op = 6
        if x.hold ∧ keeps then ⟨x.acc, hi, false, true⟩
        else if out then ⟨if sum < 0 then 2 ^ 39 else 2 ^ 39 - 1, hi, true, true⟩
        else ⟨sNat 40 sum, hi, false, x.hold && decide (op = 0)⟩
      else ⟨sNat 40 sum, hi, out, false⟩

/-- CASCIN as it is added: shifted under CSHIFT, only with CASC_EN (R322, R324). -/
def State.cascAs (b : State) (t v : Nat) : Int :=
  if b.sliceW t 20 1 = 0 then 0 else if b.sliceW t 21 1 = 1 then sInt 40 v / 2 ^ 16 else sInt 40 v

/-- CASCOUT of slice m of a column (R326, R328): an extension's is 0; over a fence of its quarter it reads 0. -/
def State.cascIn (b : State) (base : Nat) : Nat → Nat
  | 0 => 0
  | m + 1 =>
    let t := base + 5 * m
    let u := base + 5 * (m + 1)
    if b.isExt base m || (b.qFenced (tileQ t) && tileQ t != tileQ u) then 0
    else (b.accNext t (b.cascAs t (b.cascIn base m))).lo

/-- The clock of a slice has an active edge; an extension takes its head's. -/
def State.sliceClocked (s : State) (t : Nat) : Bool := s.clocked (tileQ t) (s.sliceW t 6 4) (s.sliceW t 10 1 == 1)

/-- Registers other than the accumulator (R324): operand and output registers of the slice at t under its head's CE and RST. -/
def State.sliceRegs (b : State) (t : Nat) (ce rst : Bool) (x : SliceSt) : SliceSt :=
  if rst then { x with ra := 0, rb := 0, rc := 0, outr := 0 }
  else if ce then { x with ra := b.inps t 0 16, rb := b.inps t 16 16, rc := b.inps (t + 1) 0 40, outr := b.shifted t }
  else x

/-- The slice at t, and its extension, at an edge. -/
def State.sliceStep (s b : State) (t : Nat) : State :=
  let ce := b.inp t 35
  let rst := b.inp t 36
  let n := b.accNext t (b.cascAs t (b.cascIn (sliceBase t) (sliceM t)))
  let x := b.slice t
  let y := { b.sliceRegs t ce rst x with acc := n.lo, hold := n.hold, ovf := n.ovf || (x.ovf && !b.inp t 37) }
  let s := { s with slices := Table.set SliceSt.reset s.slices t y }
  if b.headExt t ∧ !s.qHeld (tileQ (t + 5)) then
    let z := { b.sliceRegs (t + 5) ce rst (b.slice (t + 5)) with acc := n.hi }
    { s with slices := Table.set SliceSt.reset s.slices (t + 5) z }
  else s

/-- An operation of the slice at t: an active edge of its clock with the OP that the command names on its inputs. -/
def State.sliceOp (s : State) (t op : Nat) : State :=
  if s.siteMay t .slice ∧ s.sliceClocked t ∧ !s.extended t ∧ s.before.inps t 32 3 = op then
    { s with edge := { s.edge with done := t :: s.edge.done } }.sliceStep s.before t
  else s

/-- SLICE_HOLD (R324). -/
def execSliceHold (t : Fin 139520) (s : State) : Out := .next (s.sliceOp t 0)
/-- SLICE_LOAD (R324). -/
def execSliceLoad (t : Fin 139520) (s : State) : Out := .next (s.sliceOp t 1)
/-- SLICE_MAC (R324). -/
def execSliceMac (t : Fin 139520) (s : State) : Out := .next (s.sliceOp t 2)
/-- SLICE_MSU (R324). -/
def execSliceMsu (t : Fin 139520) (s : State) : Out := .next (s.sliceOp t 3)
/-- SLICE_LOADC (R324). -/
def execSliceLoadc (t : Fin 139520) (s : State) : Out := .next (s.sliceOp t 4)
/-- SLICE_ADDC (R324). -/
def execSliceAddc (t : Fin 139520) (s : State) : Out := .next (s.sliceOp t 5)
/-- SLICE_MACC (R324). -/
def execSliceMacc (t : Fin 139520) (s : State) : Out := .next (s.sliceOp t 6)
/-- SLICE_CLR (R324). -/
def execSliceClr (t : Fin 139520) (s : State) : Out := .next (s.sliceOp t 7)

end Sys2Proof.Machine
end

