-- ==== Sys2Proof/Machine/Pins.lean ====
section
/-! DEFINITION. The general-purpose pins: functions, hold latches, conflicts, supplies, the system monitor (R488–R500). -/

namespace Sys2Proof.Machine

/-! ## Conflicts and latches (R493–R495) -/

/-- The signals in conflict, by bit. -/
def State.confBits (s : State) : Nat :=
  ((List.range 51).map (fun v => if s.sigConflict v then 2 ^ v else 0)).foldl (· + ·) 0

/-- GPP_CONF, PINMUX_CONFLICT, and CSIG for a signal that has entered conflict. -/
def State.updConf (s : State) : State :=
  let was := s.rd F.GPP_CONF.SIGS
  let now := s.confBits
  let s := (s.wr F.GPP_CONF.SIGS now).wr F.GPP_STAT.PINMUX_CONFLICT (b2n (now != 0))
  match (List.range 51).find? (fun v => bit now v && !bit was v) with
  | some v => s.wr F.GPP_STAT.CSIG v
  | none => s

/-- FAB_IO_p.OWNED follows the pin's function (R489). -/
def State.updOwned (s : State) (p : Nat) : State := s.wr (F.FAB_IO.OWNED p) (b2n (s.pinFunc p == 1))

/-- Engage the hold latch of pin p for a cause (by bit): the pad keeps its level. -/
def State.engage (s : State) (p c : Nat) : State :=
  let level := if s.pinLive p then s.padDrive s.net p else (s.pin p).level
  (s.updPin p (fun x => { x with level := level, causes := x.causes ||| 2 ^ c })).setOn (F.GPP_PIN.HELD p)

/-- Release the hold latch from a cause; the pad is connected again when none is left. -/
def State.disengage (s : State) (p c : Nat) : State :=
  let rest := (s.pin p).causes &&& (15 - 2 ^ c)
  (s.updPin p (fun x => { x with causes := rest, level := if rest = 0 then none else x.level })).wr (F.GPP_PIN.HELD p) (b2n (rest != 0))

/-- All pins at once; levels are those before any latch engages. -/
def State.engageAll (s : State) (ps : List Nat) (c : Nat) : State :=
  let s := s.keep s.keepers
  let levels := ps.map (fun p => (p, if s.pinLive p then s.padDrive s.net p else (s.pin p).level))
  (s.each levels (fun s (e : Nat × Option Bool) =>
    (s.updPin e.1 (fun x => { x with level := e.2, causes := x.causes ||| 2 ^ c })).setOn (F.GPP_PIN.HELD e.1))).updConf
def State.disengageAll (s : State) (ps : List Nat) (c : Nat) : State := ((s.keep s.keepers).each ps (fun s p => s.disengage p c)).updConf

/-! ## Writes of GPP_PIN (R494, R495, R499) -/

/-- FUNC and SIG change at t0: the latch engages, the old owner is disconnected. -/
def State.startSwitch (s : State) (p v : Nat) : State :=
  if bits v 0 4 = s.rd (F.GPP_PIN.FUNC p) ∧ bits v 4 7 = s.rd (F.GPP_PIN.SIG p) then s
  else
    let s := (s.engage p 3).setOn (F.GPP_PIN.SWITCHING p)
    let s := (s.wr (F.GPP_PIN.FUNC p) (bits v 0 4)).wr (F.GPP_PIN.SIG p) (bits v 4 7)
    let f := bits v 0 4
    let bad := 5 ≤ f ∨ (f = 4 ∧ (p % 24 < 16 ∨ 19 < p % 24)) ∨ sigReserved p (bits v 4 7)
    let s := if bad then s.setOn F.GPP_STAT.RSV else s
    (s.updOwned p).updConf

/-- The fields other than FUNC and SIG. -/
def State.pinFields (s : State) (p v : Nat) : State :=
  let s := (((s.wr (F.GPP_PIN.GPIO_OE p) (bits v 26 1)).wr (F.GPP_PIN.GPIO_OUT p) (bits v 25 1)).wr (F.GPP_PIN.PULL p)
    (bits v 21 2)).wr (F.GPP_PIN.SLEW p) (bits v 20 1)
  ((s.wr (F.GPP_PIN.DRIVE p) (bits v 18 2)).wr (F.GPP_PIN.HYST p) (bits v 17 1)).wr (F.GPP_PIN.THR p) (bits v 16 1)

/-- The write as it applies when no load, HOLD or D3hot engages the latch; FUNC and SIG wait while a switch is in progress. -/
def State.pinApply (s : State) (p v : Nat) : State :=
  let s := (s.keep [p]).pinFields p v
  if s.on (F.GPP_PIN.SWITCHING p) then s.updPin p (fun x => { x with next := some v }) else s.startSwitch p v

/-- A write of GPP_PIN_p: under a hold only GPIO_OUT is taken. -/
def State.pinWrite (s : State) (p v : Nat) : State :=
  if (s.pin p).causes % 8 = 0 then s.pinApply p v
  else (s.wr (F.GPP_PIN.GPIO_OUT p) (bits v 25 1)).setOn F.GPP_STAT.WR_DISC

/-- PIN_FUNC_WRITE (R494). -/
def execPinFuncWrite (r : Req) (p : Fin 96) (v : Word32) (s : State) : Out :=
  .next (if s.mayWrite r .gpp (some (p / 48)) then s.pinWrite p v.toNat else s)

/-- PIN_SWITCH_COMPLETE (R493, R494): the new assignment is in effect; a held write starts its own switch. -/
def execPinSwitchComplete (p : Fin 96) (s : State) : Out :=
  .next (if !s.on (F.GPP_PIN.SWITCHING p) then s
    else
      let s := (((s.keep s.keepers).clr (F.GPP_PIN.SWITCHING p)).disengage p 3).updConf
      match (s.pin p).next with
      | some v => (s.updPin p (fun x => { x with next := none })).startSwitch p v
      | none => s)

/-- A write of GPP_CTL.HOLD. -/
def State.gppHold (s : State) (on : Bool) : State :=
  let was := s.on F.GPP_CTL.HOLD
  let s := s.wr F.GPP_CTL.HOLD (b2n on)
  if on && !was then s.engageAll (List.range 96) 0
  else if !on && was then s.disengageAll (List.range 96) 0
  else s

/-- GPP_HOLD_WRITE (R495). -/
def execGppHoldWrite (r : Req) (on : Bool) (s : State) : Out := .next (if s.mayWrite r .gpp then s.gppHold on else s)

/-- D3HOT_ENTRY (R495). -/
def execD3hotEntry (s : State) : Out := .next (s.engageAll (List.range 96) 1)

/-- D3HOT_EXIT (R495). -/
def execD3hotExit (s : State) : Out := .next (s.disengageAll (List.range 96) 1)

/-- VCCIO_LEVEL_CHANGE (R488): the supply of bank k as measured, 0 where it is none of the five levels. -/
def execVccioLevelChange (k : Fin 4) (level : Fin 6) (s : State) : Out := .next (s.wr (F.GPP_BANK.LEVEL k) level)

/-- ADC_CONVERT (R498): channel ch at an input voltage in µV, the conversion err LSB from it (at most 4 either way). -/
def execAdcConvert (ch : Fin 20) (uv : Int) (err : Fin 9) (s : State) : Out :=
  .next (
    let p := 24 * (ch.val / 4) + 16 + ch.val % 4
    if ch.val < 16 ∧ !s.adcPin p then s.clr (F.GPP_ADC.VALID ch)
    else
      let code := uv * 4096 / 1250000 + (err.val : Int) - 4
      (s.wr (F.GPP_ADC.CODE ch) (max 0 (min 4095 code)).toNat).setOn (F.GPP_ADC.VALID ch))

/-- A write at a GPP offset (R499, R500). -/
def State.gppWrite (s : State) (off v : Nat) : State :=
  let o := off - 0x2200000
  if o < 0x180 then s.pinWrite (o / 4) v
  else if o = 0x210 then s.gppHold (bit v 0)
  else s.storeWord off v

end Sys2Proof.Machine
end

