-- ==== Sys2Proof/Machine/Startup.lean ====
section
/-! DEFINITION. Resets, the boot ROM, self-test, fuses, attestation and the core supply (R440–R464, R504). -/

namespace Sys2Proof.Machine

/-! ## Device reset (R440–R442) -/

/-- Was the fuse field programmed? -/
def State.fused (s : State) (f : Nat) : Bool := (Table.get none s.fuses f).isSome

/-- n fuse flags from field f, as bits. -/
def State.fusedBits (s : State) (f n : Nat) : Nat := ((List.range n).map (fun k => b2n (s.fused (f + k)) * 2 ^ k)).foldl (· + ·) 0

/-- L3 is permitted (R455). -/
def State.l3Consent (s : State) : Bool := s.fused 0x13 && !s.fused 0x14

/-- SEC_SLOTS and SEC_FW_SVN show the fuses (R455, R463). -/
def State.showFuses (s : State) : State :=
  let s := (s.wr F.SEC_SLOTS.ROOT_PRG (s.fusedBits 0x01 2)).wr F.SEC_SLOTS.BSK_PRG (s.fusedBits 0x03 4)
  let s := (s.wr F.SEC_SLOTS.BSK_REV (s.fusedBits 0x07 4)).wr F.SEC_SLOTS.DBG_PRG (s.fusedBits 0x0B 4)
  let s := (s.wr F.SEC_SLOTS.DBG_REV (s.fusedBits 0x0F 4)).wr F.SEC_SLOTS.CONSENT (b2n s.l3Consent)
  s.wr F.SEC_FW_SVN.SVN s.svn

/-- What is fused in the part or goes with its revision (R3, R462, R463). -/
def partFields : List Fld :=
  [F.GLB_ID.GRADE, F.GLB_ID.REV_E, F.GLB_ID.REV_W, F.GLB_LIKE_CLASS.LIKE, F.GLB_BEHAVIOUR.MAX, F.SEC_SERIAL.SERIAL,
    F.SEC_CERT_LEN.INTER, F.SEC_CERT_LEN.DEVICE, F.SEC_SLOTS.FWK_REV]

/-- A device reset (R441): everything returns to its reset value, but what is fused in the part (FSP1's reset rate goes by the
grade, R255), the grotto's fuses, the wear record (its remainders are lost with the power, R437), and what stands outside the
device. The retention key is a new one from the device's random source (R357). `cause`: 0 power-on, 1 RESET_N, 2 software, 3 Hjelz. -/
def State.deviceReset (s : State) (cause : Nat) (ov : Option (Bool × Bool)) : State :=
  let keep := fun (v granule : Nat) => if cause = 0 then v / granule * granule else v
  let t := { State.reset with
    pending := s.pending, fresh := s.fresh, out := s.out, vccCh := s.vccCh, fuses := s.fuses, svn := s.svn,
    strapOver := ov, vcore := if cause = 0 then 800 else s.vcore }
  let t := t.updTime (fun x => { x with refLost := s.time.refLost })
  let t := ((t.wr F.SUP_WEAR_POH.POH (keep (s.rd F.SUP_WEAR_POH.POH) 16)).wr F.SUP_WEAR_CYC.CYC
    (keep (s.rd F.SUP_WEAR_CYC.CYC) 16)).wr F.SUP_WEAR_HOT.HOT (keep (s.rd F.SUP_WEAR_HOT.HOT) 16)
  let t := t.each partFields (fun t f => t.wr f (s.rd f))
  let t := t.each (List.range 8) (fun t n => t.wr (F.DMC_FSP.RATE n 1) (t.fspReset 1))
  let q := t.free 256
  ({ q.2 with retKey := q.1 }.showFuses).wr F.GLB_RST_CAUSE.CAUSE cause

/-- POWER_ON_RESET (R440). -/
def execPowerOnReset (s : State) : Out := .next (s.deviceReset 0 none)

/-- RESET_N (R440). -/
def execResetN (s : State) : Out := .next (s.deviceReset 1 none)

/-- May the requester write GLB_RESET? The PF in every state (R444), the port at L3 (R440). -/
def State.mayReset (s : State) (r : Req) : Bool :=
  !s.por && (match r with | .fn f => f == 0 | .sup _ => false | .port => decide (s.portLevel = 3))

/-- SOFTWARE_DEVICE_RESET (R440, R442): GLB_RESET written with DEVICE = 1, the key and the replacement straps. -/
def execSoftwareDeviceReset (r : Req) (stest stestDram : Bool) (key : BitVec 16) (s : State) : Out :=
  .next (if s.mayReset r ∧ key = 0xA5C3 then s.deviceReset (if r = .port then 3 else 2) (some (stest, stestDram)) else s)

/-- RESET_RELEASE (R442, R443): the straps are sampled; POR moves to BOOT. -/
def execResetRelease (straps : BitVec 5) (s : State) : Out :=
  .next (if !s.por then s
    else
      let v := straps.toNat
      let v := match s.strapOver with
        | some o => v % 8 + 8 * b2n o.1 + 16 * b2n o.2
        | none => v
      let s := { s with por := false, strapOver := none }.wr F.GLB_STRAP.STRAPS v
      (s.wr F.GLB_BOOT_STAT.PHASE (if v % 2 = 0 then 0 else 3)).updSynt)

/-- HOST_CONFIG_READY (R445). -/
def execHostConfigReady (s : State) : Out := .next (if s.por then s else { s with hostReady := true })

/-! ## Firmware (R446–R450) -/

/-- The field of n bytes at byte offset o. -/
def imgField (g : Img) (o n : Nat) : Nat := bits g.bytes (8 * o) (8 * n)

/-- A copy of the firmware directory is valid (R446): MAGIC, DCRC, aligned pointers at or above 0x0002_0000. -/
def dirValid (d : BitVec 512) : Bool :=
  let v := d.toNat
  let ok := fun (p : Nat) => decide (p % 0x10000 = 0) && decide (0x20000 ≤ p)
  bits v 0 32 == 0x44624B50 && bits v (8 * 0x3C) 32 == crc32c 0x3C (bits v 0 (8 * 0x3C)) && ok (bits v 64 32) && ok (bits v 96 32)

/-- Some unrevoked firmware-key slot holds the hash (R449). -/
def State.fwKeyOk (s : State) (hash : Nat) : Bool :=
  [0, 1].any (fun k => !bit (s.rd F.SEC_SLOTS.FWK_REV) k && Config.fwKeyHash k == hash)

/-- The ROM's checks in order, 0 if all pass (R449, codes of R362). A check whose bytes have not arrived fails as TRUNCATED, or
as FLASH_ERROR where the flash failed (log entry 30). -/
def State.fwCheck (s : State) (g : Img) : Nat :=
  let cut := if g.err then 0x0B else 0x0A
  let key := imgField g 256 32
  let bodyLen := imgField g 0x10 4
  if g.len < 256 then cut
  else if imgField g 0 4 ≠ 0x46624B50 ∨ imgField g 0xFC 4 ≠ crc32c 0xFC (imgField g 0 0xFC) ∨ imgField g 4 2 ≠ 1 then 0x02
  else if imgField g 0x14 2 ≠ s.rd F.GLB_ID.FAMILY ∨ imgField g 0x16 2 ≠ s.rd F.GLB_ID.PART ∨
      imgField g 0x18 2 ≠ s.rd F.GLB_LIKE_CLASS.LIKE then 0x03
  else if g.len < 288 then cut
  else if !s.fwKeyOk (Config.sha256 32 key) then 0x05
  else if g.len < 8144 then cut
  else if !Config.sigOk key (imgField g 0 288) (imgField g 288 7856) then 0x06
  else if imgField g 8 4 < s.svn then 0x10
  else if g.len < 8144 + bodyLen then cut
  else if Config.sha256 bodyLen (imgField g 8144 bodyLen) ≠ imgField g 0x20 32 then 0x11
  else 0

/-- FW_HASH: SHA-256 of the header and the body (R450). -/
def fwHash (g : Img) : Nat :=
  let n := imgField g 0x10 4
  Config.sha256 (256 + n) (imgField g 0 256 + 2 ^ 2048 * imgField g 8144 n)

/-- The ROM waits for firmware from the host (R446, R447); FAULT_N stays asserted after a flash failure (R444). -/
def State.awaitFw (s : State) : State :=
  ((s.wr F.GLB_BOOT_STAT.PHASE 3).clr F.GLB_FWLOAD.GO).wr F.GLB_STATE.FAULT (b2n s.boot.flashBad)

/-- Verification of an image from the source begins. -/
def State.fwVerify (s : State) (source : Nat) (g : Img) (golden : Option Img) : State :=
  let s := ((s.wr F.GLB_BOOT_STAT.PHASE 2).wr F.GLB_BOOT_STAT.SOURCE source).clr F.GLB_STATE.FAULT
  { s with boot := { s.boot with img := g, golden := golden, east := false, tries := 0 } }

/-- FW_BOOT_FLASH (R446): the two directory copies, and the images they point to. -/
def execFwBootFlash (dirA dirB : BitVec 512) (primary golden : Img) (s : State) : Out :=
  .next (if s.por ∨ s.rd F.GLB_STATE.STATE ≠ 1 ∨ s.rd F.GLB_BOOT_STAT.PHASE ≠ 0 then s
    else if dirValid dirA || dirValid dirB then s.fwVerify 1 primary (some golden)
    else { s with boot := { s.boot with flashBad := true } }.wr F.GLB_BOOT_STAT.REASON 1 |>.awaitFw)

/-- FW_LOAD_GO (R447): the image stands in West's bank memory from half address 0. -/
def execFwLoadGo (r : Req) (s : State) : Out :=
  .next (if s.mayReset r ∧ s.rd F.GLB_STATE.STATE = 1 ∧ s.rd F.GLB_BOOT_STAT.PHASE = 3 then
      (s.setOn F.GLB_FWLOAD.GO).fwVerify 3 ⟨s.bankRead 0 0 0x802000, 0x2000000, false⟩ none
    else s)

/-- FW_VERIFY_DONE (R446, R449, R450): West's ROM has checked the image. -/
def execFwVerifyDone (s : State) : Out :=
  .next (if s.rd F.GLB_BOOT_STAT.PHASE ≠ 2 ∨ s.boot.east then s
    else
      let reason := s.fwCheck s.boot.img
      let s := s.wr F.GLB_BOOT_STAT.REASON reason
      let s := if s.rd F.GLB_BOOT_STAT.SOURCE = 1 then s.wr F.GLB_BOOT_STAT.PRI_REASON reason else s
      if reason = 0 then
        { s with boot := { s.boot with
          east := true, hashW := fwHash s.boot.img, svnFloor := imgField s.boot.img 0x0C 4 } }
      else match s.boot.golden with
        | some g => s.fwVerify 2 g none
        | none =>
          let flash := decide (s.rd F.GLB_BOOT_STAT.SOURCE ≠ 3)
          { s with boot := { s.boot with flashBad := s.boot.flashBad || flash } }.awaitFw)

/-- The firmware runs: SELFTEST begins (R443). -/
def State.enterSelftest (s : State) : State :=
  let s := ((s.wr F.GLB_BOOT_STAT.PHASE 4).clr F.GLB_FWLOAD.GO).wr F.GLB_STATE.STATE 2
  let s := s.each (List.range 8) (fun s n => s.wr (F.DMC_STAT.STATE n) 1)
  let s := s.updSup 0 (fun x => { x with booted := true })
  if s.isFenced 217 then s else s.updSup 1 (fun x => { x with booted := true })

/-- FW_EAST_VERIFY_DONE (R450): East's copy, as it arrived (none: unaltered); one retry, then the East supervisor is fenced. -/
def execFwEastVerifyDone (copy : Option Img) (s : State) : Out :=
  .next (if s.rd F.GLB_BOOT_STAT.PHASE ≠ 2 ∨ !s.boot.east then s
    else
      let g := copy.getD s.boot.img
      let reason := s.fwCheck g
      let s := s.wr F.GLB_BOOT_STAT.REASON_E reason
      if reason = 0 then { s with boot := { s.boot with hashE := fwHash g } }.enterSelftest
      else if s.boot.tries = 0 then { s with boot := { s.boot with tries := 1 } }
      else (s.fenceSup 1 9).enterSelftest)

/-! ## Self-test (R246, R451–R454) -/

/-- SAFE_HOLD (R452, R454): HOLD_REASON, FAULT_N; trained interfaces in self-refresh. -/
def State.safeHold (s : State) (reason : Nat) : State :=
  let s := ((s.wr F.GLB_STATE.STATE 3).wr F.GLB_STATE.HOLD_REASON reason).setOn F.GLB_STATE.FAULT
  s.each ((List.range 8).filter (fun n => s.rd (F.DMC_STAT.STATE n) = 2)) (fun s n => s.wr (F.DMC_STAT.STATE n) 5)

/-- Interface n has trained (R246): geometry, FSP0 and its set-points with a valid RATE for the grade, FSP1, the interleave. -/
def State.dramTrained (s : State) (n geom : Nat) : State :=
  let s := ((s.wr (F.DMC_GEOM.RANKS n) geom).wr (F.DMC_GEOM.DENS n) (geom / 4)).wr (F.DMC_GEOM.CAP n) (geom / 16)
  let s := s.each (List.range 3) (fun s k =>
    s.wr (F.DMC_FSP.VALID n k) (b2n (!(F.DMC_FSP.RATE n k).reserved (s.rd (F.DMC_FSP.RATE n k)) && !s.rateAbove n k)))
  (((s.wr (F.DMC_STAT.STATE n) 2).wr (F.DMC_STAT.FSP_ACT n) 1).setOn (F.DMC_STAT.IN_INTLV n)).setOn (F.DMC_STAT.MCK_LOCK n)

/-- All interfaces have trained, or failed (R246, R452): each half's interleave, folded from the start around one that failed. A half
whose interfaces differ in geometry runs without DRAM (R234). -/
def State.dramStart (s : State) (geom : List (BitVec 9)) (bad : List Nat) : State :=
  let s := s.each ((List.range 8).filter (fun n => !bad.contains n)) (fun s n => s.dramTrained n (geom.getD n 0).toNat)
  let s := s.each [0, 1] (fun s h => (s.wr (F.DMC_HALF.NIF h) 4).wr (F.DMC_USABLE.USABLE h) (s.fullU h))
  let s := s.each bad (fun s n => (s.setOn (F.DMC_ERR.RETR_FAIL n)).dramRemove n [])
  let s := { s with startFold := [0, 1].foldl (fun t h => Table.set false t h (s.rd (F.DMC_HALF.NIF h) == 3)) [], restoring := [] }
  s.each [0, 1] (fun s h =>
    let gs := ((List.range 4).filter (fun i => !bad.contains (4 * h + i))).map (fun i => (geom.getD (4 * h + i) 0).toNat)
    if gs.any (fun g => g ≠ gs.getD 0 0) ∧ s.rd (F.DMC_HALF.NIF h) ≠ 0 then s.dramOut h else s)

/-- How many of a list meet a condition. -/
def countOf {α : Type} (l : List α) (p : α → Bool) : Nat := (l.filter p).length

/-- Failed units of SelfTest, by number. -/
def testUnit (t : SelfTest) (u : Nat) : Bool := t.units.any (fun x => x.val == u)

/-- The rows of R451 that failed: 0 grotto, 1 supervisors and bay controllers, 2 engine slots, 3 sequence memories, 4 banks, 5
network, 6 timebases, 7 channels, 8 DRAM. -/
def testRows (t : SelfTest) : Nat :=
  let some_ := fun (lo hi : Nat) => t.units.any (fun u => decide (lo ≤ u.val) && decide (u.val < hi))
  t.other.toNat ||| (2 * b2n (some_ 144 152 || some_ 216 218)) ||| (4 * b2n (some_ 0 104)) |||
    (16 * b2n (!t.banks.isEmpty)) ||| (32 * b2n (!t.links.isEmpty || some_ 152 216)) ||| (128 * b2n (some_ 104 136)) |||
    (256 * b2n (some_ 136 144))

/-- The first failure that R452 does not tolerate, in the order of R451's rows, as its HOLD_REASON (R464); 0: none. -/
def State.holdReason (s : State) (t : SelfTest) : Nat :=
  let o := t.other.toNat
  let half := fun (lo : Nat) (h : Nat) => countOf t.units (fun u => decide (lo + 4 * h ≤ u.val) && decide (u.val < lo + 4 * h + 4))
  let out := fun (h : Nat) => s.isFenced (216 + h) || testUnit t (216 + h)
  let slotsLeft := fun (h : Nat) => countOf (slotsOf h) (fun n => !testUnit t n)
  if bit o 0 then 0x02
  else if bit o 1 ∨ (out 0 ∧ out 1) then 0x03
  else if half 144 0 > 1 ∨ half 144 1 > 1 then 0x0B
  else if bit o 2 ∨ slotsLeft 0 < 48 ∨ slotsLeft 1 < 48 then 0x04
  else if bit o 3 then 0x05
  else if bit o 4 ∨ [0, 1].any (fun h => countOf t.banks (fun (b : Fin 2 × Fin 65) => b.1.val == h) > 1) then 0x06
  else if bit o 5 ∨ t.units.any (fun u => decide (152 ≤ u.val) && decide (u.val < 216)) ∨
      [0, 1].any (fun h => [0, 1].any (fun d =>
        countOf t.links (fun (l : Fin 2 × Fin 20 × Fin 2) => l.1.val == h && l.2.2.val == d) > 1)) then 0x07
  else if bit o 6 then 0x08
  else if bit o 7 ∨ t.units.any (fun u => decide (104 ≤ u.val) && decide (u.val < 136)) then 0x09
  else if bit o 8 ∨ half 136 0 > 1 ∨ half 136 1 > 1 then 0x0A
  else 0

/-- What self-test reports (R462). -/
def State.stestReport (s : State) (t : SelfTest) : State :=
  let s := (s.wr F.GLB_STEST_SUM.MS (min t.ms 0xFFF)).wr F.GLB_STEST_SUM.FAILED (testRows t)
  let s := s.each t.units (fun s u => s.wr (F.GLB_STEST_UNIT.FAILED (u / 32)) (s.rd (F.GLB_STEST_UNIT.FAILED (u / 32)) ||| 2 ^ (u.val % 32)))
  let s := s.each t.banks (fun s b =>
    if b.2.val = 64 then s.setOn (F.GLB_STEST_BANK.LOAN b.1)
    else (s.setOn (F.GLB_STEST_BANK.VALID b.1)).wr (F.GLB_STEST_BANK.BANK b.1) b.2)
  s.each t.links (fun s l => s.wr (F.NOC_LINK.FAILED l.1 l.2.2) (s.rd (F.NOC_LINK.FAILED l.1 l.2.2) ||| 2 ^ l.2.1.val))

/-- The tolerated failures are handled (R452). -/
def State.tolerate (s : State) (t : SelfTest) : State :=
  let us := t.units.map (fun u => u.val)
  let s := s.each (us.filter (fun u => u < 104)) (fun s n => s.fenceSlot n 9)
  let s := s.each s.substs (fun s q => s.substitute q)
  let s := s.each (us.filter (fun u => 144 ≤ u && u < 152)) (fun s u => s.fenceBay (u - 144) 9)
  let s := s.each (us.filter (fun u => 216 ≤ u)) (fun s u => s.fenceSup (u - 216) 9)
  let s := s.each t.banks (fun s b =>
    if b.2.val = 64 then (s.setOn (F.BNK_COP_STAT.LOAN_LOST b.1)).updBank b.1 (fun x => { x with stopped := true })
    else s.adoptBank b.1 b.2)
  if t.links.isEmpty then s else s.reroute

/-- Both halves' monitor areas as the firmware loads them (R80, R444). -/
def State.loadMonitor (s : State) (l : List Entry) : State :=
  { s with seqMem := (l.take 1024).zipIdx.foldl (fun m (e : Entry × Nat) =>
      Table.set 0 (Table.set 0 m (0x1FC00 + e.2) e.1) (0x3FC00 + e.2) e.1) ([] : Table Entry) }

/-- SELFTEST_DONE (R443, R451, R452). Memories are left at 0, the monitor area apart. -/
def execSelftestDone (t : SelfTest) (s : State) : Out :=
  .next (if s.rd F.GLB_STATE.STATE ≠ 2 ∨ s.time.refLost then s
    else
      let bad := (t.units.map (fun u => u.val)).filter (fun u => 136 ≤ u && u < 144)
      let s := { s with bankMem := [], bankUe := [], seqUnread := [] }.loadMonitor t.monitor
      let s := (s.stestReport t).dramStart t.geom (bad.map (fun u => u - 136))
      let reason := s.holdReason t
      if reason ≠ 0 then s.safeHold reason
      else (s.tolerate t).wr F.GLB_STATE.STATE (if bit (s.rd F.GLB_STRAP.STRAPS) 0 then 4 else 5))

/-- SELFTEST_REFCLK_TIMEOUT (R451). -/
def execSelftestRefclkTimeout (s : State) : Out :=
  .next (if s.rd F.GLB_STATE.STATE = 2 ∧ s.time.refLost then s.safeHold 1 else s)

/-! ## Fuse programming (R455, R456) -/

/-- Only the PF, in AWAIT_IMAGE, IN_SERVICE or DEGRADED, with no load running. -/
def State.mayFuse (s : State) (r : Req) : Bool :=
  let st := s.rd F.GLB_STATE.STATE
  r == .fn 0 && (st == 4 || st == 7 || st == 8) && !s.load.active

/-- A write of FIELD and ARM; a reserved field arms nothing. The flag says whether the write was taken. -/
def State.fuseArmWrite (s : State) (field : Nat) : State :=
  let s := s.wr F.SEC_PROG_CTL.FIELD field
  if (F.SEC_PROG_CTL.FIELD).reserved field then s else { s.setOn F.SEC_PROG_CTL.ARM with fuseArm := true }

/-- FUSE_ARM (R456). -/
def execFuseArm (r : Req) (field : BitVec 8) (s : State) : Out :=
  .next (if s.mayFuse r then s.fuseArmWrite field.toNat else s)

/-- FUSE_ARM_LAPSE (R456). -/
def execFuseArmLapse (s : State) : Out := .next { s.clr F.SEC_PROG_CTL.ARM with fuseArm := false }

/-- The value in SEC_PROG_DATA. -/
def State.progData (s : State) : Nat :=
  ((List.range 8).map (fun k => s.rd (F.SEC_PROG_DATA.DATA k) * 2 ^ (32 * k))).foldl (· + ·) 0

/-- GO: the outcomes in order (R456). A key or hash takes the value in SEC_PROG_DATA, a bit is set. What a field that failed its
read-back holds is not stated: a free value. -/
def State.fuseGo (s : State) (volt verified : Bool) : State :=
  let f := s.rd F.SEC_PROG_CTL.FIELD
  let q : Nat × State :=
    if s.fused f then (1, s)
    else if !s.fuseArm ∨ (F.SEC_PROG_CTL.FIELD).reserved f then (4, s)
    else if !volt then (3, s)
    else if verified then
      let hash := f ≤ 6 ∨ (0x0B ≤ f ∧ f ≤ 0x0E)
      (0, { s with fuses := Table.set none s.fuses f (some (if hash then s.progData else 1)) })
    else
      let g := s.free 257
      (2, { g.2 with fuses := Table.set none g.2.fuses f (if bit g.1 256 then some (g.1 % 2 ^ 256) else none) })
  let s : State := { (q.2.wr F.SEC_PROG_CTL.STATUS q.1).clr F.SEC_PROG_CTL.ARM with fuseArm := false }
  let s : State := (s.each (List.range 8) (fun s k => s.clr (F.SEC_PROG_DATA.DATA k))).showFuses
  if s.portLevel = 3 ∧ s.l3Consent = false then s.clr F.DBG_PORT_STAT.LEVEL else s

/-- FUSE_PROGRAM (R456). -/
def execFuseProgram (r : Req) (volt verified : Bool) (s : State) : Out :=
  .next (if s.mayFuse r then s.fuseGo volt verified else s)

/-! ## Attestation (R457–R461) -/

/-- A write of REQ: the nonce and the time are taken. -/
def State.attReq (s : State) : State :=
  if s.on F.SEC_ATT_CTL.BUSY ∨ s.rd F.GLB_STATE.STATE < 4 then s
  else
    let nonce := ((List.range 8).map (fun k => s.rd (F.SEC_ATT_NONCE.NONCE k) * 2 ^ (32 * k))).foldl (· + ·) 0
    { ((s.setOn F.SEC_ATT_CTL.BUSY).setOn F.SEC_ATT_CTL.REQ) with
      attest := some ⟨nonce, (s.tbase s.refHalf).sec, (s.tbase s.refHalf).ns⟩ }

/-- ATTEST_REQ (R458). -/
def execAttestReq (r : Req) (s : State) : Out := .next (if s.mayWrite r .sec then s.attReq else s)

/-- SEQ_HASH of half h: entries 0x0_0000 to 0x1_FBFF (R461). -/
def State.seqHash (s : State) (h : Nat) : Nat :=
  Config.sha256 (0x1FC00 * 16) ((s.seqMem.filter (fun (e : Nat × Entry) => decide (e.1 / 0x20000 = h) && decide (e.1 % 0x20000 < 0x1FC00))).foldl
    (fun v (e : Nat × Entry) => v + e.2.toNat * 2 ^ (128 * (e.1 % 0x20000))) 0)

/-- The body of a report, bytes 0x000–0x1FF (R460); seqW, seqE: the hashes of the sequence memories. -/
def State.reportBody (s : State) (a : AttSt) (unstable : Bool) (seqW seqE : Nat) : Nat :=
  let flags := b2n (s.on F.CFG_LOAD_STATUS.FALLBACK) + 2 * b2n s.l3Consent + 4 * b2n unstable +
    8 * b2n (s.isFenced 216 || s.isFenced 217)
  let hash := fun (h v : Nat) => if s.isFenced (216 + h) then 0 else v
  let readable := s.fuses.filter (fun (e : Nat × Option Nat) => 3 ≤ e.1)
  let flagged := (s.fuses.filter (fun (e : Nat × Option Nat) => e.1 < 3)).map (fun (e : Nat × Option Nat) => (e.1, (none : Option Nat)))
  packRec ([(0, 32, 0x41624B50), (4, 16, 1), (6, 16, flags), (8, 32, 8368), (0x10, 256, a.nonce), (0x30, 64, s.rd F.SEC_SERIAL.SERIAL),
    (0x38, 16, s.rd F.GLB_ID.FAMILY), (0x3A, 16, s.rd F.GLB_ID.PART), (0x3C, 16, s.rd F.GLB_LIKE_CLASS.LIKE),
    (0x3E, 8, s.rd F.GLB_ID.GRADE), (0x3F, 8, s.rd F.GLB_BEHAVIOUR.LEVEL), (0x40, 16, s.rd F.GLB_ID.REV_W),
    (0x42, 16, s.rd F.GLB_ID.REV_E), (0x44, 8, s.rd F.GLB_STATE.STATE), (0x48, 48, a.sec), (0x50, 32, a.ns),
    (0x58, 32, s.svn), (0x5C, 32, Config.romVer), (0x60, 256, hash 0 s.boot.hashW), (0x80, 256, hash 1 s.boot.hashE),
    (0xA0, 256, s.cfgMeas), (0xC0, 256, s.prChain), (0xE0, 256, seqW), (0x100, 256, seqE),
    (0x120, 256, Config.fuseHash (flagged ++ readable) s.svn), (0x140, 32, s.regWord 0x2600000),
    (0x144, 32, s.rd F.SUP_WEAR_POH.POH), (0x148, 32, s.rd F.SUP_WEAR_CYC.CYC), (0x14C, 32, s.rd F.SUP_WEAR_HOT.HOT)] ++
    (List.range 16).map (fun k => (0x150 + 2 * k, 16, s.rd (F.SUP_AGE.SLOW k))))

/-- ATTEST_DONE (R458, R460, R461): `unstable`: a second write committed during a hash, so that the hashes are no value the spec
gives: free values. -/
def execAttestDone (unstable : Bool) (s : State) : Out :=
  .next (match s.attest with
    | none => s
    | some a =>
      let w := if unstable then s.free 256 else (s.seqHash 0, s)
      let e := if unstable then w.2.free 256 else (w.2.seqHash 1, w.2)
      let s := e.2
      let body := s.reportBody a unstable w.1 e.1
      let s := ((s.clr F.SEC_ATT_CTL.BUSY).clr F.SEC_ATT_CTL.REQ).setOn F.SEC_ATT_CTL.DONE
      { s with attest := none, report := body % 2 ^ 4096 + 2 ^ 4096 * (Config.sign (body % 2 ^ 4096) % 2 ^ 62848) })

/-! ## Core supply (R504) -/

/-- AVS_STEP: one step of at most 10 mV toward the target in 0.65–0.80 V (in mV), if the regulator acknowledges it. -/
def execAvsStep (target : Nat) (ack : Bool) (s : State) : Out :=
  .next (if s.por ∨ s.rd F.GLB_STATE.STATE < 2 ∨ !s.supUp 0 ∨ !ack then s
    else
      let t := max 650 (min 800 target)
      { s with vcore := if s.vcore < t then min t (s.vcore + 10) else max t (s.vcore - 10) })

end Sys2Proof.Machine
end

