-- ==== Sys2Proof/Machine/ConfigLoad.lean ====
section
/-! DEFINITION. Configuration images: flash boot, the configuration ring, checks, frames, start-up, partial reconfiguration, and the
Pruners (R333–R361). -/

namespace Sys2Proof.Machine

/-! ## Frames (R333–R335) -/

/-- Bits of a word of a tile record that are not reserved. -/
def cfgMask (t w : Nat) : Nat :=
  let all := 2 ^ 32 - 1
  if w = 67 then 2 ^ 9 - 1
  else if w = 76 then 2 ^ 16 - 1
  else if 77 ≤ w then 0
  else if 49 ≤ w then all
  else match colKind (tileX t) with
    | .cluster => if w = 48 then 2 ^ 14 - 1 else if w % 3 = 2 then 2 ^ 16 - 1 else all
    | .bram => if tileY t % 5 ≠ 0 then 0 else if w = 0 then 2 ^ 25 - 1 else if w = 2 then 2 ^ 8 - 1 else if w = 1 ∨ w = 3 then all else 0
    | .slice => if tileY t % 5 = 0 ∧ w = 0 then 2 ^ 22 - 1 else 0
    | .io => if (ioCell t).isSome ∧ w = 0 then 2 ^ 14 - 1 else 0

/-- Write a tile record: 80 words. -/
def State.writeTile (s : State) (t rec : Nat) : State :=
  { s with fcfg := (List.range 80).foldl (fun m w => Table.set 0 m (t * 128 + w) (bits rec (32 * w) 32 &&& cfgMask t w)) s.fcfg }

/-- Write a content frame: INIT of the block memory at t, 1,024 rows of 36 bits. -/
def State.writeContent (s : State) (t rec : Nat) : State :=
  { s with bramInit := (List.range 1024).foldl (fun m r => Table.set 0 m (t * 1024 + r) (bits rec (36 * r) 36)) s.bramInit }

/-- All-zero configuration of a quarter (R277). -/
def State.clearQuarter (s : State) (q : Nat) : State :=
  { s with
    fcfg := s.fcfg.filter (fun (e : Nat × Nat) => tileQ (e.1 / 128) != q)
    bramInit := s.bramInit.filter (fun (e : Nat × Nat) => tileQ (e.1 / 1024) != q) }

/-- A frame address: type, quarter, column, site. -/
def faType (fa : Nat) : Nat := bits fa 30 2
def faQ (fa : Nat) : Nat := bits fa 23 7
def faCol (fa : Nat) : Nat := bits fa 18 5
def faSite (fa : Nat) : Nat := bits fa 14 4

/-- The strip of a quarter's region, and the tile column that COL names. -/
def quarterStrip (q : Nat) : Nat := q / 4 % 4
def faX (fa : Nat) : Nat := 27 * quarterStrip (faQ fa) + faCol fa

/-- A frame address names an existing frame. -/
def faOk (fa : Nat) : Bool :=
  bits fa 0 14 == 0 &&
  match faType fa with
  | 0 => faSite fa == 0 && decide (faCol fa < 28) && (faCol fa != 0 || quarterStrip (faQ fa) == 0)
  | 1 => decide (1 ≤ faCol fa) && decide (faCol fa < 28) && colKind (faX fa) == .bram && decide (5 * faSite fa < (quarterRows (faQ fa)).2)
  | 2 => bits fa 14 16 == 0
  | _ => false

/-- The lowest tile of a frame. -/
def faTile (fa : Nat) : Nat := tileNo (faQ fa / 64) (faX fa) ((quarterRows (faQ fa)).1 + 5 * faSite fa)

/-- NW is right for the frame. -/
def nwOk (fa nw : Nat) : Bool :=
  match faType fa with
  | 0 => nw == 80 * (quarterRows (faQ fa)).2
  | 1 => nw == 1152
  | _ => nw % 2 == 0

/-! ## The retained image (R357) -/

/-- The block memory at t forms a ROM (R311): no port can ever write. -/
def State.isRom (s : State) (t : Nat) : Bool :=
  (s.bramW t 0 3 == 0 || s.bramW t 6 2 == 3 || decide (12 ≤ s.bramW t 12 4)) &&
  (s.bramW t 3 3 == 0 || s.bramW t 8 2 == 3 || decide (12 ≤ s.bramW t 16 4) || s.bramW t 0 3 == 7)

/-- The frame address of a tile frame, or of a content frame. -/
def frameAddr (type q col site : Nat) : Nat := type * 2 ^ 30 + q * 2 ^ 23 + col * 2 ^ 18 + site * 2 ^ 14

/-- Bytes of a frame. -/
def frameLen (fa : Nat) : Nat := if faType fa = 0 then 320 * (quarterRows (faQ fa)).2 else 4608

/-- The frame as it reads back (R334, R335, R356). -/
def State.frameNow (s : State) (fa : Nat) : Nat :=
  let t := faTile fa
  if faType fa = 0 then
    (List.range ((quarterRows (faQ fa)).2 * 80)).foldl (fun v i => v + 2 ^ (32 * i) * s.cfgW (t + i / 80) (i % 80)) 0
  else (List.range 1024).foldl (fun v r => v + 2 ^ (36 * r) * Table.get 0 s.bramInit (t * 1024 + r)) 0

/-- The frame is written. -/
def State.frameWrite (s : State) (fa v : Nat) : State :=
  if faType fa = 0 then
    s.each (List.range (quarterRows (faQ fa)).2) (fun s i => s.writeTile (faTile fa + i) (bits v (2560 * i) 2560))
  else s.writeContent (faTile fa) v

/-- The frames of a quarter that are retained: every tile frame, and the content frames of ROMs. -/
def State.keptFrames (s : State) (q : Nat) : List Nat :=
  let cols := List.range 28
  (cols.map (fun c => frameAddr 0 q c 0) ++ cols.flatMap (fun c => (List.range 12).map (fun k => frameAddr 1 q c k))).filter
    (fun fa => faOk fa && (faType fa == 0 || s.isRom (faTile fa)))

/-- Where a frame lies in each half's retained image: 1 MiB a quarter, tile frames by column, then content frames by memory column and
site (DESIGN CHOICE, log entry 40). -/
def retAt (fa : Nat) : Nat :=
  faQ fa * 0x100000 +
    (if faType fa = 0 then faCol fa * 0x4C00
     else 0x90000 + (12 * ((List.range (faCol fa)).filter (fun c => colKind c == .bram)).length + faSite fa) * 0x1400)

/-- A frame as it is stored: the ciphertext, then the tag. -/
def State.sealFrame (s : State) (fa v : Nat) : Nat :=
  let n := 8 * frameLen fa
  let c := (v ^^^ Config.retPad s.retKey fa) % 2 ^ n
  c + 2 ^ n * (Config.retTag s.retKey fa c % 2 ^ 128)

/-- A stored frame is opened: none where its tag fails. -/
def State.openFrame (s : State) (fa v : Nat) : Option Nat :=
  let n := 8 * frameLen fa
  let c := v % 2 ^ n
  if v / 2 ^ n % 2 ^ 128 = Config.retTag s.retKey fa c % 2 ^ 128 then some ((c ^^^ Config.retPad s.retKey fa) % 2 ^ n) else none

/-- A frame as it stands is retained: its CRC, and its ciphertext in the image of each half that has DRAM. -/
def State.retainFrame (s : State) (fa : Nat) : State :=
  let v := s.frameNow fa
  let s := { s with frameCrcs := Table.set 0 s.frameCrcs fa (crc32c (frameLen fa) v + 1) }
  s.each [0, 1] (fun s h =>
    if s.rd (F.DMC_HALF.NIF h) = 0 then s else s.dramPut h (retAt fa) (frameLen fa + 16) (s.sealFrame fa v) true)

/-- The frames of the quarters are retained as they stand. -/
def State.retain (s : State) (qs : List Nat) : State := s.each qs (fun s q => s.each (s.keptFrames q) (fun s fa => s.retainFrame fa))

/-- n bytes of half h's DRAM from address a as they read now, unless a line is poisoned. -/
def State.dramBytes (s : State) (h a n : Nat) : Option Nat :=
  let lines := (List.range ((a + n - 1) / 64 - a / 64 + 1)).map (fun i => (a / 64 + i) * 64)
  if lines.any (fun l => s.poisonView h l) then none
  else some (lines.foldr (fun l v => s.lineView h l + 2 ^ 512 * v) 0 / 256 ^ (a % 64) % 256 ^ n)

/-- A frame from half h's retained image; `good`: no read of it finds an uncorrectable error. -/
def State.retCopy (s : State) (h fa : Nat) (good : Bool) : Option Nat :=
  if s.rd (F.DMC_HALF.NIF h) = 0 ∨ !good then none
  else (s.dramBytes h (retAt fa) (frameLen fa + 16)).bind (s.openFrame fa)

/-! ## Records (R339, R340, R346 check 9) -/

/-- A record: frame address, number of words, the words. -/
structure CfgRec where
  fa   : Nat
  nw   : Nat
  data : Nat
  deriving DecidableEq, Repr

/-- The records of a plaintext of n bytes; none when the last does not end at its end. -/
def parseRecs : Nat → Nat → Nat → Option (List CfgRec)
  | _, 0, _ => some []
  | 0, _, _ => none
  | f + 1, n, v =>
    let nw := bits v 32 32
    if n < 8 + 4 * nw then none
    else (parseRecs f (n - 8 - 4 * nw) (v / 2 ^ (64 + 32 * nw))).map (fun l => ⟨v % 2 ^ 32, nw, bits v 64 (32 * nw)⟩ :: l)

/-- The pairs of a register list. -/
def CfgRec.pairs (r : CfgRec) : List (Nat × Nat) :=
  (List.range (r.nw / 2)).map (fun i => (bits r.data (64 * i) 32, bits r.data (64 * i + 32) 32))

/-- A permitted offset, and whether a PARTIAL image with target quarters q may name it (R340). -/
def pairOk (off : Nat) : Bool :=
  off % 4 == 0 && (regAt off).isSome &&
  ((decide (0x2000000 ≤ off) && decide (off < 0x2000F00)) || (decide (0x2001000 ≤ off) && decide (off < 0x2004000)) ||
    (decide (0x2200000 ≤ off) && decide (off < 0x2400000)))
def pairIn (off q : Nat) : Bool :=
  if 0x2001000 ≤ off ∧ off < 0x2002000 then (List.range 4).all (fun i => bit q (4 * ((off - 0x2001000) / 16) + i))
  else if 0x2002000 ≤ off ∧ off < 0x2003000 then bit q (endpointQ ((off - 0x2002000) / 16))
  else if 0x2003000 ≤ off ∧ off < 0x2004000 then bit q (tileQ (ioTile ((off - 0x2003000) / 4)))
  else false

/-- Check 9 of one record: 0, FORMAT or PR_TARGET. `seen`: the frames so far. -/
def recCheck (partial_ : Bool) (q : Nat) (seen : List Nat) (r : CfgRec) : Nat :=
  if !faOk r.fa || !nwOk r.fa r.nw || (faType r.fa != 2 && seen.contains r.fa) then 4
  else if faType r.fa = 2 then
    if r.pairs.any (fun e => !pairOk e.1 || (partial_ && (decide (e.1 < 0x2001000) || decide (0x2004000 ≤ e.1)))) then 4
    else if partial_ && r.pairs.any (fun e => !pairIn e.1 q) then 0x0C
    else 0
  else if partial_ && !bit q (faQ r.fa) then 0x0C
  else 0

/-- Apply a record: a frame is written; FAB pairs are written in order, GPP pairs held. -/
def State.applyRec (s : State) (pinHz : Nat) (r : CfgRec) : State :=
  if faType r.fa < 2 then
    let s := s.frameWrite r.fa r.data
    { s with load := { s.load with frames := r.fa :: s.load.frames }, prnExcl := s.prnExcl.erase r.fa }
  else
    s.each r.pairs (fun s (e : Nat × Nat) =>
      if e.1 < 0x2200000 then s.fabWrite e.1 e.2 pinHz
      else { s with load := { s.load with gpp := s.load.gpp ++ [e] } })

/-- The records of a segment in order, up to the first failure: the state and its reason. -/
def State.applyRecs (s : State) (pinHz : Nat) (partial_ : Bool) (q : Nat) : List CfgRec → Nat × State
  | [] => (0, s)
  | r :: rs =>
    let e := recCheck partial_ q s.load.frames r
    if e ≠ 0 then (e, s) else (s.applyRec pinHz r).applyRecs pinHz partial_ q rs

/-! ## Fences of quarters (R349, R350, R354) -/

/-- Set or clear the fence bits of the quarters in a mask. -/
def State.qFenceSet (s : State) (q : Nat) (on : Bool) : State :=
  s.each (List.range 4) (fun s k =>
    let old := s.rd (F.CFG_QFENCE.FENCED k)
    let m := bits q (32 * k) 32
    s.wr (F.CFG_QFENCE.FENCED k) (if on then old ||| m else old &&& (2 ^ 32 - 1 - m)))

/-- A fabric vector port is fenced, or returns with an empty queue (R141). -/
def State.fencePort (s : State) (h p : Nat) (on : Bool) : State :=
  ((s.setPortQ h p []).wr (F.VSW_PORT_STAT.DOWN h p) (b2n on)).flagPorts h

/-- A fail stream's fabric end is fenced, or returns with a DROP mark first (R225). -/
def State.fenceStream (s : State) (b : Nat) (on : Bool) : State :=
  if on then (if (s.bay b).down then s else (s.cutStream b).updBay b (fun x => { x with down := true }))
  else s.updBay b (fun x => { x with down := false })

/-- The quarters of a mask. -/
def quartersOf (q : Nat) : List Nat := (List.range 128).filter (fun i => bit q i)
def allQuarters : Nat := 2 ^ 128 - 1

/-- The fabric-owned pins whose cells lie in quarters of a mask. -/
def State.ownedPins (s : State) (q : Nat) : List Nat :=
  (List.range 96).filter (fun p => s.pinFunc p == 1 && bit q (tileQ (ioTile p)))

/-- The blocks of R300 in quarters of a mask are fenced, the quarters hold, and their configuration is cleared. `pins`: their
fabric-owned pins keep their levels. -/
def State.fenceQuarters (s : State) (q : Nat) (pins : Bool) : State :=
  let s := if pins then s.engageAll (s.ownedPins q) 2 else s
  let s := s.qFenceSet q true
  let s := s.each ((List.range 64).filter (fun e => bit q (endpointQ e))) (fun s e => s.fenceEndpoint e 10)
  let s := s.each ((List.range 16).filter (fun i => bit q (portQuarter (i / 8) (i % 8)))) (fun s i => s.fencePort (i / 8) (i % 8) true)
  let s := s.each ((List.range 8).filter (fun b => bit q (streamQ b))) (fun s b => s.fenceStream b true)
  s.each (quartersOf q) (fun s i => (s.holdQuarter i).clearQuarter i)

/-- The quarters of a mask run: registers leave INIT, latches release, blocks return; an endpoint when its queues are empty
(NE_RELEASE_DONE). -/
def State.releaseQuarters (s : State) (q : Nat) : State :=
  let s := s.each (quartersOf q) (fun s i => s.releaseQuarter i)
  let s := s.disengageAll ((List.range 96).filter (fun p => bit (s.pin p).causes 2 && bit q (tileQ (ioTile p)))) 2
  let s := s.qFenceSet q false
  let s := s.each ((List.range 16).filter (fun i => bit q (portQuarter (i / 8) (i % 8)))) (fun s i => s.fencePort (i / 8) (i % 8) false)
  s.each ((List.range 8).filter (fun b => bit q (streamQ b))) (fun s b => s.fenceStream b false)

/-! ## Loads (R343–R348) -/

/-- A design runs: the global hold is released. -/
def State.designRuns (s : State) : Bool := !s.on (F.FAB_STAT.GHOLD 0)

/-- PHASE with no load under way. -/
def State.idlePhase (s : State) : State := s.wr F.CFG_LOAD_STATUS.PHASE (b2n s.designRuns)

/-- In service. -/
def State.inSvc (s : State) : Bool := s.rd F.GLB_STATE.STATE == 7 || s.rd F.GLB_STATE.STATE == 8

/-- A load begins from a source. -/
def State.startLoad (s : State) (source : Nat) (boot : Bool) : State :=
  let s := (s.wr F.CFG_LOAD_STATUS.PHASE 3).wr F.CFG_LOAD_STATUS.SOURCE source
  { s with load := { LoadSt.reset with active := true, source := source, boot := boot, service := s.inSvc } }

/-- FLASH_PRIMARY and FLASH_GOLDEN read 0 again, the load is over. -/
def State.endLoad (s : State) : State :=
  { (s.clr F.CFG_LOAD_CTL.FLASH_PRIMARY).clr F.CFG_LOAD_CTL.FLASH_GOLDEN with load := { s.load with active := false } }

/-- A header's QMASK, or all quarters for FULL. -/
def LoadSt.target (l : LoadSt) : Nat := if l.kind = 2 then bits l.buf.bytes (8 * 0x40) 128 else allQuarters

/-- A load fails (R343, R348): what it has touched is cleared, is retained as the zeros it was cleared to (R357), and stays fenced; the primary falls back to the golden image, and so
does a FULL load in service that has destroyed the running design, when BOOTSRC selects flash. -/
def State.failLoad (s : State) (reason : Nat) : State :=
  let l := s.load
  let s := s.wr F.CFG_LOAD_STATUS.REASON reason
  let s := if l.checked then
      (s.each (quartersOf l.target) (fun s q => { s.clearQuarter q with prnExcl := s.prnExcl.filter (fun f => faQ f ≠ q) })).retain
        (quartersOf l.target)
    else s
  let s := s.endLoad.idlePhase
  if l.source = 1 then
    let s := if l.boot then s.wr F.CFG_LOAD_STATUS.PRI_REASON reason else s
    let g := s.startLoad 2 l.boot
    { g with load := { g.load with service := l.service, fell := true } }
  else if l.boot ∨ (!l.service ∧ l.source = 3) then s.wr F.GLB_STATE.STATE 4
  else if l.service ∧ l.source = 3 ∧ l.kind = 1 ∧ l.checked ∧ !bit (s.rd F.GLB_STRAP.STRAPS) 0 then s.startLoad 2 false
  else s

/-- A copy of the boot pointer block is valid (R342). -/
def ptrValid (p : BitVec 512) : Bool :=
  let v := p.toNat
  let ok := fun (o : Nat) => decide (o % 0x10000 = 0) && decide (0x20000 ≤ o)
  bits v 0 32 == 0x50624B50 && bits v (8 * 0x3C) 32 == crc32c 0x3C (bits v 0 (8 * 0x3C)) && ok (bits v 64 32) && ok (bits v 96 32) &&
    decide (bits v (8 * 0x10) 8 ≤ 4) && decide (4 ≤ bits v (8 * 0x11) 8) && decide (bits v (8 * 0x11) 8 ≤ 31)

/-- FLASH_BOOT (R343): the two copies of the pointer block. -/
def execFlashBoot (ptrA ptrB : BitVec 512) (s : State) : Out :=
  .next (if s.rd F.GLB_STATE.STATE ≠ 5 ∨ bit (s.rd F.GLB_STRAP.STRAPS) 0 ∨ s.load.active then s
    else if ptrValid ptrA || ptrValid ptrB then s.startLoad 1 true
    else (((s.wr F.CFG_LOAD_STATUS.REASON 1).idlePhase).wr F.GLB_STATE.STATE 4))

/-- A flash load in service (R345); a later golden image is the last resort. -/
def State.flashLoad (s : State) (f : Fld) (source : Nat) (ptrA ptrB : BitVec 512) : State :=
  if !s.inSvc ∨ s.load.active ∨ s.load.due then s
  else if ptrValid ptrA || ptrValid ptrB then (s.setOn f).startLoad source false
  else s.wr F.CFG_LOAD_STATUS.REASON 1

/-- FLASH_PRIMARY (R345). -/
def execFlashPrimary (r : Req) (ptrA ptrB : BitVec 512) (s : State) : Out :=
  .next (if s.mayWrite r .cfg then s.flashLoad F.CFG_LOAD_CTL.FLASH_PRIMARY 1 ptrA ptrB else s)

/-- FLASH_GOLDEN (R345). -/
def execFlashGolden (r : Req) (ptrA ptrB : BitVec 512) (s : State) : Out :=
  .next (if s.mayWrite r .cfg then s.flashLoad F.CFG_LOAD_CTL.FLASH_GOLDEN 2 ptrA ptrB else s)

/-- CFG_ABORT (R347). -/
def execCfgAbort (r : Req) (s : State) : Out :=
  .next (if s.mayWrite r .cfg ∧ s.load.active ∧ s.load.source = 3 then s.failLoad 0x0D else s)

/-- FLASH_COMMAND_TIMEOUT (R347). -/
def execFlashCommandTimeout (s : State) : Out :=
  .next (if s.load.active ∧ s.load.source ≠ 3 then s.failLoad 0x0B else s)

/-- A ring load may start: in AWAIT_IMAGE, or in service. -/
def State.ringMay (s : State) : Bool := (s.rd F.GLB_STATE.STATE == 4 || s.inSvc) && !s.load.due

/-- The entry is consumed. -/
def State.ringNext (s : State) : State := s.wr F.CFG_HRING_CI.CI ((s.rd F.CFG_HRING_CI.CI + 1) % 2 ^ 16)

/-- The header's TOTAL_LEN, once the header has come. -/
def Img.total (g : Img) : Option Nat := if g.len < 256 then none else some (bits g.bytes (8 * 0x18) 64)

/-- Length of the header, manifest, key and signature. -/
def headLen (nseg : Nat) : Nat := 256 + 64 + 48 * nseg + 32 + 7856

/-- PHASE says what the stream has come to: the manifest, the signature (R361). -/
def State.headPhase (s : State) : State :=
  let g := s.load.buf
  if s.load.checked ∨ g.len < 256 then s
  else s.wr F.CFG_LOAD_STATUS.PHASE (if g.len < headLen (imgField g 0x0E 2) then 4 else 5)

/-- Bytes join the stream; what goes beyond TOTAL_LEN is ignored and counted (R344). -/
def State.ringBytes (s : State) (last : Bool) (len data : Nat) : State :=
  let b := s.load.buf
  let g : Img := ⟨b.bytes + 2 ^ (8 * b.len) * (data % 2 ^ (8 * len)), b.len + len, false⟩
  let keep := match Img.total g with | some n => min g.len n | none => g.len
  let s := s.count F.CFG_HRING_CI.IGN (g.len - keep)
  { s with load := { s.load with buf := ⟨g.bytes % 2 ^ (8 * keep), keep, false⟩, last := s.load.last || last } }.headPhase

/-- CFG_RING_ENTRY (R344, R345, R347): the entry at CI and the data it names. -/
def execCfgRingEntry (e : BitVec 128) (data : Nat) (s : State) : Out :=
  .next (
    let v := e.toNat
    let start := bit v 97
    let last := bit v 96
    let len := bits v 64 32
    if !s.on F.CFG_HRING_CFG.EN ∨ !s.linkUp ∨ s.rd F.CFG_HRING_PI.PI = s.rd F.CFG_HRING_CI.CI then s
    else if s.load.active ∧ s.load.source ≠ 3 ∧ start then s
    else if start then
      let s := if s.load.active then s.failLoad 0x0A else s
      if !s.ringMay ∨ s.load.active then s
      else
        let s := (s.ringNext).startLoad 3 false
        let s := if s.inSvc then s else s.wr F.GLB_STATE.STATE 5
        s.ringBytes last len data
    else if s.load.active ∧ s.load.source = 3 then (s.ringNext).ringBytes last len data
    else (s.ringNext).count F.CFG_HRING_CI.IGN len)

/-! ## Checks 1 to 6 (R336, R337, R346) -/

/-- No more bytes will come: the flash image is all there is, the last entry has come, or TOTAL_LEN is reached. -/
def LoadSt.ended (l : LoadSt) : Bool :=
  l.source != 3 || l.last || (match Img.total l.buf with | some n => decide (n ≤ l.buf.len) | none => false)

/-- CFG_STREAM_TIMEOUT (R347): no new entry came while the stream is incomplete. -/
def execCfgStreamTimeout (s : State) : Out :=
  .next (if s.load.active ∧ s.load.source = 3 ∧ !s.load.ended then s.failLoad 0x0A else s)

/-- What ends a load whose bytes have run out. -/
def LoadSt.cut (l : LoadSt) : Nat := if l.buf.err then 0x0B else 0x0A

/-- An unrevoked bitstream-signer slot holds the hash. -/
def State.signerOk (s : State) (hash : Nat) : Bool :=
  (List.range 4).any (fun k => Table.get none s.fuses (3 + k) == some hash && !s.fused (7 + k))

/-- Checks 1 to 6 in order: none, more bytes are needed; some 0, all passed; else the reason. -/
def State.headCheck (s : State) : Option Nat :=
  let l := s.load
  let g := l.buf
  let kind := imgField g 6 1
  let nseg := imgField g 0x0E 2
  let m := 256
  let key := imgField g (m + 64 + 48 * nseg) 32
  let wait := if l.ended then some l.cut else none
  if g.len < 256 then wait
  else if imgField g 0 4 ≠ 0x39624B50 ∨ imgField g 0xFC 4 ≠ crc32c 0xFC (imgField g 0 0xFC) then some 2
  else if imgField g 8 2 ≠ s.rd F.GLB_ID.FAMILY ∨ imgField g 0x0A 2 ≠ s.rd F.GLB_ID.PART ∨
      imgField g 0x0C 2 ≠ s.rd F.GLB_LIKE_CLASS.LIKE then some 3
  else if imgField g 4 2 ≠ 1 ∨ (kind ≠ 1 ∧ kind ≠ 2) ∨ 1 < imgField g 7 1 ∨ nseg = 0 ∨ (kind = 2 ∧ (l.source ≠ 3 ∨ !l.service)) ∨
      (imgField g 0x40 16 = 0) ≠ (kind = 1) then some 4
  else if g.len < headLen nseg then wait
  else if !s.signerOk (Config.sha256 32 key) then some 5
  else if !Config.sigOk key (imgField g 0 (headLen nseg - 7856)) (imgField g (headLen nseg - 7856) 7856) ∨ imgField g m 4 ≠ 0x4D624B50 ∨
      imgField g (m + 4) 2 ≠ nseg ∨ imgField g (m + 0x10) 32 ≠ Config.sha256 256 (imgField g 0 256) then some 6
  else if !s.fused (1 + imgField g 7 1) then some 7
  else some 0

/-- SIGNATURE_VERIFIED (R346, R349, R350, R354, R461): the flash delivers its image here; the ring has delivered its own. -/
def execSignatureVerified (flash : Img) (s : State) : Out :=
  .next (if !s.load.active ∨ s.load.checked then s
    else
      let s := if s.load.source = 3 then s else { s with load := { s.load with buf := flash } }
      match s.headCheck with
      | none => s
      | some 0 =>
        let g := s.load.buf
        let kind := imgField g 6 1
        let s := { s with load := { s.load with kind := kind, checked := true, pos := headLen (imgField g 0x0E 2) } }
        let s := s.wr F.CFG_LOAD_STATUS.PHASE 6
        if kind = 2 then s.fenceQuarters s.load.target true
        else
          let s := ((s.fenceQuarters allQuarters s.load.service).setOn (F.FAB_STAT.GHOLD 0)).setOn (F.FAB_STAT.GHOLD 1)
          { s with cfgMeas := 0 }
      | some e => s.failLoad e)

/-! ## Segments and the end of a load (R338, R346, R351, R354, R357, R461) -/

/-- CFG_MEAS of the image: header, manifest, public key. -/
def LoadSt.measure (l : LoadSt) : Nat :=
  let n := headLen (imgField l.buf 0x0E 2) - 7856
  Config.sha256 n (imgField l.buf 0 n)

/-- A load has passed every check: its frames are retained (R357). A FULL one releases DONE, or is to start up; a PARTIAL one releases
its quarters. -/
def State.loadDone (s : State) : State :=
  let l := s.load
  let s := (s.retain (quartersOf l.target)).wr F.CFG_LOAD_STATUS.REASON 0
  let s := { s.endLoad with prnExcl := s.prnExcl.filter (fun f => !bit l.target (faQ f)) }
  if l.kind = 2 then
    let s := (s.releaseQuarters l.target).idlePhase
    { s with prChain := Config.sha256 80 (s.prChain + 2 ^ 256 * l.measure + 2 ^ 512 * l.target), load := { s.load with gpp := [] } }
  else
    let s := (s.wr F.CFG_DESIGN.DESIGN_ID (imgField l.buf 0x50 8)).wr F.CFG_LOAD_STATUS.PHASE 8
    let s := s.wr F.CFG_LOAD_STATUS.FALLBACK (b2n (l.source == 2 && (l.fell || s.on F.CFG_LOAD_STATUS.FALLBACK)))
    let s := { s with cfgMeas := l.measure, prChain := 0 }
    if l.service then { s with load := { s.load with due := true } }
    else { (s.setOn F.CFG_DONE.RELEASED).wr F.GLB_STATE.STATE 6 with load := { s.load with qualified := false } }

/-- SEGMENT_WRITE (R338–R340, R346): the next segment, checks 7 to 10. -/
def execSegmentWrite (pinHz : Nat) (s : State) : Out :=
  .next (
    let l := s.load
    let g := l.buf
    let nseg := imgField g 0x0E 2
    let n := l.segs
    let plen := imgField g (256 + 0x40 + 48 * n) 4
    if !l.active ∨ !l.checked then s
    else if plen < 64 ∨ 262144 < plen ∨ plen % 8 ≠ 0 then s.failLoad 4
    else if g.len < l.pos + plen + 16 then (if l.ended then s.failLoad l.cut else s)
    else
      let seg := imgField g l.pos (plen + 16)
      let root := (Table.get none s.fuses (1 + imgField g 7 1)).getD 0
      let open_ := Config.openSegment root (imgField g 0x20 32 + 2 ^ 256 * imgField g 0x10 8) (n + 2 ^ 32 * plen) seg
      if Config.sha256 (plen + 16) seg ≠ imgField g (256 + 0x50 + 48 * n) 32 then s.failLoad 8
      else if !open_.2 then s.failLoad 9
      else match parseRecs (plen / 8 + 1) plen open_.1 with
        | none => s.failLoad 4
        | some rs =>
          let q := s.applyRecs pinHz (l.kind == 2) l.target rs
          let s := { q.2 with load := { q.2.load with segs := n + 1, pos := l.pos + plen + 16 } }
          if q.1 ≠ 0 then s.failLoad q.1
          else if n + 1 < nseg then s
          else if imgField g 0x18 8 ≠ s.load.pos then s.failLoad 0x0A
          else s.loadDone)

/-! ## DONE and start-up (R351–R353, R443, R449, R492) -/

/-- The device is in service with DONE high: its channels may drive from now on (R170). -/
def State.mayDrive (s : State) : State := { s with drives := true }.each (List.range 256) (fun s c => s.restChan c)

/-- DONE_QUALIFIED (R352): DONE high for 32 samples, or IGNORE. Where IGNORE let the device start with the line low, its rise
ends R170's protection of the channels. -/
def execDoneQualified (high : Bool) (s : State) : Out :=
  .next (if s.inSvc ∧ !s.drives ∧ high ∧ s.on F.CFG_DONE.RELEASED then (s.setOn F.CFG_DONE.LEVEL).mayDrive
    else if s.rd F.GLB_STATE.STATE ≠ 6 ∨ !s.on F.CFG_DONE.RELEASED ∨ !(high || s.on F.CFG_DONE.IGNORE) then s
    else
      let s := s.wr F.CFG_DONE.LEVEL (b2n high)
      { s with load := { s.load with qualified := true } })

/-- The held GPP pairs (R353); at the first start-up the console leaves its pins unless the image assigns them (R492). -/
def State.applyGpp (s : State) (first : Bool) : State :=
  let pairs := s.load.gpp
  let s := s.each ((if first then [22, 23] else []).filter (fun p => !pairs.any (fun e => e.1 == 0x2200000 + 4 * p))) (fun s p =>
    s.startSwitch p 0x7F0)
  s.each pairs (fun s (e : Nat × Nat) =>
    if e.1 < 0x2200180 then s.pinApply ((e.1 - 0x2200000) / 4) e.2 else s.gppWrite e.1 e.2)

/-- The ROM raises FW_SVN to SVN_FLOOR at the first entry to service (R449). -/
def State.raiseSvn (s : State) : State :=
  { s with svn := max s.svn (min 64 s.boot.svnFloor) }.showFuses

/-- Every clock generator that is enabled is locked (R353). -/
def State.fcgsLocked (s : State) : Bool :=
  (List.range 8).all (fun i => !s.on (F.FAB_FCG_CFG.EN (i / 4) (i % 4)) || s.on (F.FAB_FCG_STAT.LOCKED (i / 4) (i % 4)))

/-- START_UP (R353): once the generators are locked, or after 100 µs (`late`). -/
def execStartUp (late : Bool) (s : State) : Out :=
  .next (
    let first := decide (s.rd F.GLB_STATE.STATE = 6) && s.load.qualified
    if (!first ∧ !s.load.due) ∨ (!late ∧ !s.fcgsLocked) then s
    else
      let s := (s.clr (F.FAB_STAT.GHOLD 0)).clr (F.FAB_STAT.GHOLD 1)
      let s := (s.applyGpp first).releaseQuarters allQuarters
      let s := { s with load := { s.load with due := false, qualified := false, gpp := [] } }.wr F.CFG_LOAD_STATUS.PHASE 1
      if first then
        let s := ((s.wr F.GLB_STATE.STATE 7).raiseSvn).updDegraded
        if s.on F.CFG_DONE.LEVEL then s.mayDrive else s
      else s)

/-- DONE_DROP (R352). -/
def execDoneDrop (s : State) : Out :=
  .next (if s.inSvc then (s.setOn F.CFG_DONE.DROP).clr F.CFG_DONE.LEVEL else s)

/-! ## Pruners (R320, R358–R360) -/

/-- The Pruner that covers half h runs: its own, or its partner's in COVER. -/
def State.prunerOn (s : State) (h : Nat) : Bool :=
  (s.on (F.CFG_PRN_CTL.EN h) && !s.on (F.CFG_PRN_STAT.DISABLED h)) ||
  (s.on (F.CFG_PRN_STAT.COVER (1 - h)) && s.on (F.CFG_PRN_CTL.EN (1 - h)) && !s.on (F.CFG_PRN_STAT.DISABLED (1 - h)))

/-- The Pruner of half h is disabled, its partner covers (R359). -/
def State.prunerOut (s : State) (h : Nat) : State :=
  if s.on (F.CFG_PRN_STAT.DISABLED h) then s
  else
    let s := s.setOn (F.CFG_PRN_STAT.DISABLED h)
    let s := (if s.on (F.CFG_PRN_STAT.DISABLED (1 - h)) then s else s.setOn (F.CFG_PRN_STAT.COVER (1 - h))).raiseSnap 3
    (s.postRes 0xC h 0).updDegraded

/-- A standing mismatch (R358). -/
def State.standing (s : State) (h fa : Nat) : State :=
  let s := ((s.count (F.CFG_PRN_STAT.STANDING h)).wr (F.CFG_PRN_LAST.FA h) fa)
  { s with prnExcl := s.prnExcl ++ [fa] }.postRes 0xD fa h

/-- A frame that the Pruner of half h found wrong (R237, R358): it is rewritten from the own half's retained copy, or the other half's
where the own one is missing, fails its tag, or is not restored after a fold, and read back. `own`, `other`: the copy reads without an
uncorrectable error; `ok`: every cell takes its value. The flag says that the mismatch stands. -/
def State.repair (s : State) (h fa : Nat) (own other ok : Bool) : Bool × State :=
  let mine := if Table.get false s.restoring h then none else s.retCopy h fa own
  match mine.or (s.retCopy (1 - h) fa other) with
  | none => (true, (s.setOn (F.CFG_PRN_STAT.NOREF h)).standing h fa)
  | some v =>
    let s := s.frameWrite fa v
    if ok ∧ crc32c (frameLen fa) (s.frameNow fa) + 1 = Table.get 0 s.frameCrcs fa then (false, s.count (F.CFG_PRN_STAT.REPAIRED h))
    else (true, s.standing h fa)

/-- A quarter that a load is rewriting (R354, R358). -/
def State.underLoad (s : State) (q : Nat) : Bool := s.load.active && s.load.checked && bit s.load.target q

/-- A frame that the Pruners compare with its reference: a tile frame, or the content frame of a ROM. -/
def State.prunable (s : State) (fa : Nat) : Bool :=
  faOk fa && (faType fa == 0 || (faType fa == 1 && s.isRom (faTile fa))) && Table.get 0 s.frameCrcs fa != 0 && !s.underLoad (faQ fa)

/-- PRUNER_FRAME_CHECK (R358, R359): a frame of half h; `mine`: it belongs to the Pruner itself. -/
def execPrunerFrameCheck (h : Fin 2) (fa : Word32) (mismatch own other ok mine : Bool) (s : State) : Out :=
  .next (
    let f := fa.toNat
    if !s.prunerOn h ∨ !mismatch ∨ !s.prunable f ∨ faQ f / 64 ≠ h.val ∨ s.prnExcl.contains f then s
    else
      let q := s.repair h f own other ok
      if q.1 && mine then q.2.prunerOut h else q.2)

/-- PRUNER_CROSS_CHECK (R358, R359): the Pruner of half h finds a mismatch in a frame of the other half's Pruner. -/
def execPrunerCrossCheck (h : Fin 2) (fa : Word32) (mismatch own other ok : Bool) (s : State) : Out :=
  .next (
    let f := fa.toNat
    let o := 1 - h.val
    if !s.on (F.CFG_PRN_CTL.EN h) ∨ s.on (F.CFG_PRN_STAT.DISABLED h) ∨ !mismatch ∨ !s.prunable f ∨ faQ f / 64 ≠ o ∨
        s.prnExcl.contains f then s
    else
      let q := s.repair o f own other ok
      if q.1 then q.2.prunerOut o else q.2)

/-- One scrub step of half h (R81, R239, R262, R320, R360). -/
def State.scrub (s : State) (h : Nat) : Scrub → State
  | .bram t w =>
    let t := siteOf5 t.val
    if tileH t = h ∧ colKind (tileX t) = .bram ∧ s.bramW t 0 3 = 7 ∧ s.bramW t 23 1 = 1 ∧ !s.qHeld (tileQ t) then
      let lo := s.bramRow t (2 * w)
      let hi := s.bramRow t (2 * w + 1)
      let data := rowData lo + 2 ^ 32 * rowData hi
      let chk := rowPar lo + 16 * rowPar hi
      if Config.eccBits data % 256 = chk then s
      else match Config.eccFix data chk with
        | none => s
        | some d =>
          let c := Config.eccBits (d % 2 ^ 64) % 256
          (s.bramPut t (2 * w) (rowMake (d % 2 ^ 32) c)).bramPut t (2 * w + 1) (rowMake (d / 2 ^ 32) (c / 16))
    else s
  | .seq .corrected => s.count (seqCe h)
  | .seq _ => s
  | .bank w .corrected => s.noteCe h w
  | .bank w .bad => s.noteUe h w
  | .bank w .clean => if s.bankUeAt h w then s.noteUe h w else s
  | .dram n line e =>
    let n := 4 * h + n.val
    if s.on (F.DMC_STAT.IN_INTLV n) ∧ 64 * line.toNat < s.usable h ∧ s.dramIf h (64 * line.toNat) = n then
      if s.dramRuns h (64 * line.toNat) then (s.dramNow h (64 * line.toNat) fullMask e).2 else s.wakeDram n
    else s
  | .late => s.setOn (F.CFG_PRN_STAT.PASS_LATE h)

/-- PRUNER_SCRUB_STEP (R360). -/
def execPrunerScrubStep (h : Fin 2) (x : Scrub) (s : State) : Out := .next (if s.prunerOn h then s.scrub h x else s)

/-! ## Reads of host memory that fail (R527) -/

/-- The function a failed read served has DMA_ERR. -/
def State.dmaErr (s : State) (f : Nat) : State := s.setOn (F.HIF_FN_STAT.DMA_ERR f)

end Sys2Proof.Machine
end

