-- ==== Sys2Proof/Machine/DebugCtl.lean ====
section
/-! DEFINITION. Authorisation of the Hjelz port, run control, stimulus writes and the trace unit (R472–R484). -/

namespace Sys2Proof.Machine

/-! ## Authorisation (R472, R473) -/

/-- TCLK ticks of 2 ns (R385). -/
def ticksOf (ms : Nat) : Nat := ms * 500000

def State.updHj (s : State) (f : HjSt → HjSt) : State := { s with hj := f s.hj }

/-- Verification runs (R472): accesses to the authorisation registers receive RETRY. -/
def State.authBusy (s : State) : Bool := s.on F.DBG_AUTH_CTL.BUSY

/-- CHALLENGE (R472, R473): a new nonce, or BACKOFF. -/
def execChallenge (s : State) : Out :=
  .next (if s.por ∨ s.authBusy then s
    else if s.ticks < s.hj.backoff then s.wr F.DBG_AUTH_CTL.RESULT 6
    else
      let q := s.free 256
      q.2.updHj (fun x => { x with nonce := q.1, fresh := some s.ticks }))

/-- VERIFY (R472): the nonce is used up. -/
def execVerify (s : State) : Out :=
  .next (if s.por ∨ s.authBusy then s
    else
      let ok := match s.hj.fresh with | some t => decide (s.ticks ≤ t + ticksOf 10000) | none => false
      (s.setOn F.DBG_AUTH_CTL.BUSY).updHj (fun x => { x with fresh := none, check := if ok then some x.nonce else none }))

/-- A programmed, unrevoked debug-key slot that holds the hash (R455). -/
def State.dbgKeySlot (s : State) (hash : Nat) : Option Nat :=
  (List.range 4).find? (fun k => Table.get none s.fuses (0x0B + k) == some hash && !s.fused (0x0F + k))

/-- The message that the debugger signs (R472). -/
def State.authMessage (s : State) (nonce : Nat) : Nat :=
  nonce + 2 ^ 256 * s.rd F.SEC_SERIAL.SERIAL + 2 ^ 320 * s.rd F.DBG_AUTH_CTL.REQ_LEVEL

/-- A failed verification (R473): L0, the count, and the back-off. -/
def State.authFail (s : State) (result : Nat) : State :=
  let f := s.hj.fails + 1
  (((s.wr F.DBG_AUTH_CTL.RESULT result).clr F.DBG_PORT_STAT.LEVEL).count F.DBG_PORT_STAT.AUTH_FAIL).updHj (fun x =>
    { x with fails := f, backoff := s.ticks + ticksOf (100 * 2 ^ (min f 8 - 1)) })

/-- AUTH_VERIFY_DONE (R472, R473). In SAFE_HOLD with GROTTO only L0 is available. -/
def execAuthVerifyDone (s : State) : Out :=
  .next (if !s.authBusy then s
    else
      let nonce := s.hj.check
      let s := (s.clr F.DBG_AUTH_CTL.BUSY).updHj (fun x => { x with check := none })
      let lvl := s.rd F.DBG_AUTH_CTL.REQ_LEVEL
      let key := Memory.readN s.hj.buf 0x200 32
      match nonce with
      | none => s.authFail 2
      | some v =>
        match s.dbgKeySlot (Config.sha256 32 key) with
        | none => s.authFail 3
        | some k =>
          if !Config.sigOk key (s.authMessage v) (Memory.readN s.hj.buf 0x1000 7856) then s.authFail 4
          else if lvl = 3 ∧ !s.l3Consent then s.authFail 5
          else
            let hold := s.rd F.GLB_STATE.STATE = 3 ∧ s.rd F.GLB_STATE.HOLD_REASON = 2
            ((((s.wr F.DBG_AUTH_CTL.RESULT 1).wr F.DBG_AUTH_CTL.SLOT k).wr F.DBG_PORT_STAT.LEVEL (if hold then 0 else lvl)).updHj
              (fun x => { x with fails := 0 })))

/-- LOGOUT (R473). -/
def execLogout (s : State) : Out := .next (if s.por ∨ s.authBusy then s else s.clr F.DBG_PORT_STAT.LEVEL)

/-! ## Run control (R474–R478) -/

/-- Run-control fields accept writes from the port at L2 or above only. -/
def State.mayRun (s : State) : Bool := !s.por && decide (s.portLevel ≥ 2)

/-- DBG_HALT (R474): a request, or ARMED in an idle slot. -/
def execDbgHalt (n : Fin 104) (s : State) : Out :=
  .next (if !s.mayRun then s
    else if s.slotState n = stIdle then s.setOn (F.DBG_ENG_STAT.ARMED n)
    else if (s.eng n).ctx.isSome ∧ !s.inMon n then s.debugRequest n 1
    else s)

/-- The leader of slot n's gang, if the gang is in the monitor and the port may command it. -/
def State.monOf (s : State) (n : Nat) : Option Nat :=
  if s.mayRun ∧ s.inMon n ∧ (s.eng n).ctx.isSome then some (s.leaderOf n) else none

/-- A RESUME or STEP is written: executed, or held during a failover of the slot's half (R518). -/
def State.monAsk (s : State) (n step : Nat) : State :=
  match s.monOf n with
  | some l => if s.failover (halfOfSlot l) then s.updEng l (fun e => { e with dbgHeld := some step }) else s.monGo l step
  | none => s

/-- DBG_RESUME (R476, R518). -/
def execDbgResume (n : Fin 104) (s : State) : Out := .next (s.monAsk n 0)

/-- DBG_STEP (R476, R518). -/
def execDbgStep (n : Fin 104) (s : State) : Out := .next (s.monAsk n (s.eff (F.DBG_ENG_CTL.STEP_N n)))

/-- DBG_FORCE (R478). -/
def execDbgForce (n : Fin 104) (s : State) : Out :=
  .next (if s.mayRun ∧ s.on (F.DBG_ENG_STAT.DEFERRED_LOCKED n) then
      s.each (s.gang (s.leaderOf n)) (fun s m => s.updEng m (fun e => { e with dbgForce := true, dbgEntry := 5 }))
    else s)

/-- DEBUG_LOCK_DEFER (R478). -/
def execDebugLockDefer (n : Fin 104) (s : State) : Out :=
  .next (if s.running n ∧ s.on (F.DBG_ENG_STAT.PENDING n) ∧ s.on (F.ENG_STAT.LOCKED n) then
      s.wrGang n F.DBG_ENG_STAT.DEFERRED_LOCKED 1
    else s)

/-- MONITOR_ENTRY (R104, R474, R475): the boundary before the entry in D is free, after w further cycles of a wait there. That the two
pause-vector cycles of the entry count in ENG_CYC, as cycles before the monitor, R113 does not say (DESIGN CHOICE, log entry 35). -/
def execMonitorEntry (n : Fin 104) (w : Nat) (s : State) : Out :=
  .next (if !s.running n ∨ s.inMon n ∨ !s.boundaryFree n ∨ !bit (s.takeable n) 5 then s
    else
      let code := (s.eng n).dbgEntry
      let x := s.pc n
      let s := (s.endHold n w).holdFor n 2
      let s := s.each (s.gang n) (fun s m =>
        let s := (s.wr (F.ENG_IRQ.PEND m) (s.rd (F.ENG_IRQ.PEND m) % 32)).updEng m (fun e =>
          { e with dbgReq := false, dbgForce := false, dbgStep := 0, monBack := 0, irqAgain := e.irqAgain % 32 })
        ((s.clr (F.DBG_ENG_STAT.PENDING m)).clr (F.DBG_ENG_STAT.DEFERRED_LOCKED m)).wr (F.DBG_ENG_STAT.ENTRY m) code)
      let s := s.updEng n (fun e => { e with
        nest := some ⟨e.ira, e.held, e.iretDs, e.restored, e.saved⟩,
        ira := x, held := true, iretDs := 0, restored := false, saved := false, wait := .none,
        win := e.winNext, winNext := e.winNext + 1, winOuter := e.win :: e.winOuter })
      let s := ((s.saveGang n 7).toMon n).raiseSnap 4
      match (s.eng n).ctx with
      | some c => match (s.jobLeaders c).find? (fun l => (s.eng l).dbgAlign) with
        | some l => s.monLeave l (s.eng l).dbgStep
        | none => s
      | none => s)

/-! ## Stimulus ports and the trace unit (R481, R484, R487) -/

/-- The ORIGIN of a requester's write; the port's counts as the host's, whose BAR0 it writes. -/
def stimOrigin : Req → Nat
  | .sup _ => 2
  | _ => 1

/-- STIMULUS_WRITE (R481): a requester, or an endpoint of the fabric through DEST 54 (none). -/
def execStimulusWrite (r : Option Req) (n : Fin 104) (off : Fin 256) (size : Fin 65) (v : Desc) (s : State) : Out :=
  .next (match r with
    | some r => if s.mayWrite r .dbg (some (n / 52)) then s.stimWrite n off size v.toNat (stimOrigin r) else s
    | none => if s.por then s else s.stimWrite n off size v.toNat 3)

/-- TRACE_CLR (R487). -/
def execTraceClr (r : Req) (h : Fin 2) (s : State) : Out := .next (if s.mayWrite r .dbg (some h) then s.traceClear h else s)

end Sys2Proof.Machine
end

