-- ==== Sys2Proof/Machine/RegAccess.lean ====
section
/-! DEFINITION. Reads and writes of BAR0 by any requester (R8–R12, R36–R41, R444): every register's own rule for a write, the table
windows, and what a read returns. -/

namespace Sys2Proof.Machine

/-- What becomes of a write: taken, beyond the grade (R3), refused (R28, R184), or discarded for another reason. -/
inductive WrRes
  | taken
  | excess
  | refused
  | lost
  deriving DecidableEq, Repr

/-- The next state of an outcome. -/
def outState (o : Out) (s : State) : State := match o with | .next t => t | _ => s

/-- A write that is taken or discarded. -/
def wrBool (p : Bool × State) : WrRes × State := (if p.1 then .taken else .lost, p.2)

/-! ## Single registers -/

/-- An ECLK frequency word outside the grade's range (R1, R3). -/
def State.fwOver (s : State) (fw : Nat) : Bool :=
  decide (fw * 100 < 250 * 2 ^ 40) || decide (fw * 100 > (if s.grade12 then 800 else 1000) * 2 ^ 40)

/-- A write of GLB_ECLK_CTL_h (R27, R28). A disabled PLL is not locked and gives no ECLK until it has locked again. -/
def State.eclkCtlWrite (s : State) (h v : Nat) : WrRes × State :=
  let pend := s.on (F.GLB_ECLK_CTL.APPLY h)
  let s := if pend then s else s.wr (F.GLB_ECLK_CTL.ALIGN_SRC h) (bits v 6 2)
  let s := if bit v 4 then s.clr (F.GLB_ECLK_CTL.LOCKLOSS h) else s
  let s := if bit v 2 then s.clr (F.GLB_ECLK_CTL.ABANDONED h) else s
  let s := s.wr (F.GLB_ECLK_CTL.EN h) (bits v 0 1)
  let s := if bit v 0 then s else (s.clr (F.GLB_ECLK_CTL.LOCKED h)).updClk h (fun c => { c with gated := true })
  let s := if bit v 1 && s.abandonable h then s.eclkAbandon h else s
  if !bit v 5 then (.taken, s)
  else if pend then (.lost, s)
  else
    let p := s.eclkApply h
    (if p.1 then .taken else .refused, p.2)

/-- A write of GLB_BEHAVIOUR (R462). -/
def State.behaviourWrite (s : State) (level : Nat) : WrRes × State :=
  if (List.range 64).any (fun n => s.on (F.HIF_CTX_CFG.EN n)) ∨ level = 0 ∨ level > s.rd F.GLB_BEHAVIOUR.MAX then (.lost, s)
  else (.taken, s.wr F.GLB_BEHAVIOUR.LEVEL level)

/-- A write of HIF_FN_CFG_f (R38, R39): the enable waits for its EVCI read (FN_ENABLE). -/
def State.fnCfgWrite (s : State) (f v : Nat) : WrRes × State :=
  let s := (s.wr (F.HIF_FN_CFG.EVMSIX f) (bits v 11 6)).wr (F.HIF_FN_CFG.POLL f) (bits v 0 9)
  if bit v 9 then
    (.taken, if s.on (F.HIF_FN_CFG.EN f) then s else (s.setOn (F.HIF_FN_CFG.EN f)).updFn f (fun x => { x with await := true }))
  else (.taken, (s.clr (F.HIF_FN_CFG.EN f)).updFn f (fun x => { x with await := false }))

/-- A write of HIF_CTX_CFG_n (R40, R41, R70, R71): while EN = 1 only EN is written; a reconciliation waits for what it reads of host
memory (CONTEXT_RECONCILE). FN is not a VF's to write. -/
def State.ctxCfgWrite (s : State) (r : Req) (n v : Nat) : WrRes × State :=
  if s.on (F.HIF_CTX_CFG.EN n) then (if bit v 0 then (.lost, s) else (.taken, s.ctxDisable n))
  else
    let vf := match r with | .fn f => f != 0 | _ => false
    let s := ((s.wr (F.HIF_CTX_CFG.MSIX n) (bits v 16 6)).wr (F.HIF_CTX_CFG.LOG2SZ n) (bits v 4 4)).wr (F.HIF_CTX_CFG.RECONCILE n)
      (bits v 1 1)
    let s := if vf then s else s.wr (F.HIF_CTX_CFG.FN n) (bits v 8 6)
    if !bit v 0 then (.taken, s.clr (F.HIF_CTX_CFG.HALTED n))
    else if !s.inService ∨ !s.served then (.lost, s)
    else if bit v 1 then (.taken, (s.setOn (F.HIF_CTX_CFG.EN n)).updCtx n (fun x => { x with await := true }))
    else (.taken, s.startFresh n)

/-- A write of ENG_SEQ_CTL (R77, R78). -/
def State.seqCtlWrite (s : State) (v : Nat) : WrRes × State :=
  let s := if bit v 1 then s.clr F.ENG_SEQ_CTL.WR_DISC else s
  if bits v 0 1 = s.rd F.ENG_SEQ_CTL.SPLIT then (.taken, s) else wrBool (s.seqModeWrite (bit v 0))

/-- A write of ENG_CTL_n (R112). -/
def State.engCtlWrite (s : State) (n v : Nat) : WrRes × State :=
  let s := s.wr (F.ENG_CTL.PRELOAD n) (bits v 2 1)
  if bit v 3 then wrBool (s.cacheInv n) else (.taken, s)

/-- A write of ENG_SPEC_n (R112). -/
def State.engSpecWrite (s : State) (n v : Nat) : WrRes × State :=
  let s := (s.wr (F.ENG_SPEC.EN n) (bits v 16 1)).wr (F.ENG_SPEC.LC n) (bits v 0 10)
  (.taken, if bit v 17 then s.predFlush n else s)

/-- A write of VSW_PORT_CFG_h_p (R142): discarded while the old or the new pacer is not idle. -/
def State.portCfgWrite (s : State) (h p v : Nat) : WrRes × State :=
  let t := ((s.wr (F.VSW_PORT_CFG.CLKSEL h p) (bits v 8 4)).wr (F.VSW_PORT_CFG.UNDERRUN h p) (bits v 6 1)).wr
    (F.VSW_PORT_CFG.PACER h p) (bits v 0 6)
  if s.pacerIdle h p && t.pacerIdle h p then
    let t := if bit v 7 then (t.fvpFlush h p).2 else t
    (.taken, (t.each ((chansOf h).filter (fun c => t.selPort c = some p)) (fun s c => s.restChan c)).flagPorts h)
  else (.lost, s)

/-- A write of CHN_CFG_c or CHN_DSK_c (R184): the bay agent refuses it for a busy channel. -/
def State.chnWrite (s : State) (c : Nat) (dsk : Bool) (v : Nat) : WrRes × State :=
  let p := s.chnCfgWrite c dsk v
  (if p.1 then .taken else if s.chIdle c then .excess else .refused, p.2)

/-- A write at offset o of interface n (R247–R255): a rate above the grade is beyond it (R3). -/
def State.dmcWrite (s : State) (n o v : Nat) : WrRes × State :=
  if 0x0C ≤ o ∧ o < 0x18 ∧ s.rateOver (bits v 0 4) then (.excess, s) else wrBool (s.dmcPut n o v)

/-- A write of a FAB register (R292, R304, R307, R355). What frequency a pin carries to a clock generator is not the writer's to
say: a free value here, an operand of FCG_APPLY. -/
def State.fabRegWrite (s : State) (off v : Nat) : WrRes × State :=
  if s.fabBlocked off then (.lost, s)
  else
    let q : Nat × State := if off < 0x2000F00 ∧ off % 16 = 0 ∧ bit v 1 then s.free 31 else (0, s)
    (.taken, q.2.fabWrite off v q.1)

/-- A write of CFG_LOAD_CTL (R345, R347). The boot pointers that the flash then holds are free values here, operands of
FLASH_PRIMARY and FLASH_GOLDEN. -/
def State.loadCtlWrite (s : State) (v : Nat) : WrRes × State :=
  let s := if bit v 2 && s.load.active && s.load.source == 3 then s.failLoad 0x0D else s
  if bit v 0 || bit v 1 then
    if !s.inSvc ∨ s.load.active ∨ s.load.due then (.lost, s)
    else
      let a := s.free 512
      let b := a.2.free 512
      (.taken, b.2.flashLoad (if bit v 0 then F.CFG_LOAD_CTL.FLASH_PRIMARY else F.CFG_LOAD_CTL.FLASH_GOLDEN)
        (if bit v 0 then 1 else 2) (BitVec.ofNat 512 a.1) (BitVec.ofNat 512 b.1))
  else (.taken, s)

/-- A write of CFG_HRING_CFG (R361): LOG2SZ is not written while EN = 1. -/
def State.hringCfgWrite (s : State) (v : Nat) : WrRes × State :=
  let s := if s.on F.CFG_HRING_CFG.EN then s else s.wr F.CFG_HRING_CFG.LOG2SZ (bits v 1 4)
  (.taken, (s.wr F.CFG_HRING_CFG.HTMO (bits v 16 16)).wr F.CFG_HRING_CFG.EN (bits v 0 1))

/-- A write of TMB_LCH_p_q_CFG (R407). -/
def State.lchRegWrite (s : State) (p q v : Nat) : WrRes × State :=
  let kept := s.on (F.TMB_LCH_CFG.ARM p q) &&
    (s.rd (F.TMB_LCH_CFG.LEN p q) != bits v 0 11 || s.rd (F.TMB_LCH_CFG.TRIG p q) != bits v 11 3)
  (if kept then .lost else .taken, s.lchWrite p q v)

/-- A write of SUP_CTL (R421, R438). -/
def State.supCtlWrite (s : State) (v : Nat) : WrRes × State :=
  let s := s.wr F.SUP_CTL.SPARE_EN (bits v 0 1)
  if s.on F.SUP_CTL.REINST then (.taken, s)
  else
    let s := s.wr F.SUP_CTL.REINST_U (bits v 2 8)
    (.taken, if bit v 1 then s.reinst else s)

/-- A write of SNP_CTL (R434, R435). -/
def State.snpCtlWrite (s : State) (v : Nat) : WrRes × State :=
  let s := (s.wr F.SNP_CTL.MODE (bits v 8 1)).wr F.SNP_CTL.SRC_EN (bits v 0 6)
  let s := if bit v 10 then s.clr F.SNP_STAT.HELD else s
  (.taken, if bit v 9 then s.raiseSnap 5 else s)

/-- A write of SEC_ATT_CTL (R458). -/
def State.attCtlWrite (s : State) (v : Nat) : WrRes × State :=
  let s := if bit v 1 then s.clr F.SEC_ATT_CTL.DONE else s
  (.taken, if bit v 0 then s.attReq else s)

/-- A write of SEC_PROG_CTL (R456). Whether VCCAUX holds and the read-back verifies are free values here, operands of
FUSE_PROGRAM. -/
def State.progCtlWrite (s : State) (r : Req) (v : Nat) : WrRes × State :=
  if !s.mayFuse r then (.lost, s)
  else if bit v 9 then
    let q := s.free 2
    (.taken, q.2.fuseGo (bit q.1 0) (bit q.1 1))
  else if bit v 8 then (.taken, s.fuseArmWrite (bits v 0 8))
  else (.taken, s.wr F.SEC_PROG_CTL.FIELD (bits v 0 8))

/-- A write of GPP_PIN_p, or of another GPP register (R495, R499, R500). -/
def State.gppRegWrite (s : State) (off v : Nat) : WrRes × State :=
  let held := decide (off < 0x2200180) && (s.pin ((off - 0x2200000) / 4)).causes % 8 != 0
  (if held then .lost else .taken, s.gppWrite off v)

/-- A write of DBG_ENG_CTL_n (R474, R486): the run-control fields are the port's. -/
def State.engDbgWrite (s : State) (r : Req) (n : Fin 104) (v : Nat) : WrRes × State :=
  let s := s.wr (F.DBG_ENG_CTL.TRC_EN n) (bits v 8 1)
  if r = .port then
    let s := ((s.wr (F.DBG_ENG_CTL.STEP_N n) (bits v 16 16)).wr (F.DBG_ENG_CTL.SVC n) (bits v 7 1)).wr (F.DBG_ENG_CTL.ALIGN n)
      (bits v 6 1)
    let s := s.wr (F.DBG_ENG_CTL.JOB n) (bits v 5 1)
    let s := if bit v 1 then outState (execDbgHalt n s) s else s
    let s := if bit v 4 then outState (execDbgForce n s) s else s
    let s := if bit v 3 then outState (execDbgStep n s) s else s
    (.taken, if bit v 2 then outState (execDbgResume n s) s else s)
  else (if v / 2 % 2 ^ 7 = 0 ∧ bits v 16 16 = 0 then .taken else .lost, s)

/-- A write of DBG_CMP_n_k_CFG (R474, R486): DEBUG is the port's. -/
def State.cmpCfgWrite (s : State) (r : Req) (n k v : Nat) : WrRes × State :=
  let s := ((s.wr (F.DBG_CMP_CFG.WITHIN n k) (bits v 16 16)).wr (F.DBG_CMP_CFG.LINK n k) (bits v 8 2)).wr (F.DBG_CMP_CFG.TRACE n k)
    (bits v 6 1)
  let s := (s.wr (F.DBG_CMP_CFG.SNAP n k) (bits v 5 1)).wr (F.DBG_CMP_CFG.KIND n k) (bits v 0 3)
  if r = .port then (.taken, s.wr (F.DBG_CMP_CFG.DEBUG n k) (bits v 4 1))
  else (if bits v 4 1 = s.rd (F.DBG_CMP_CFG.DEBUG n k) then .taken else .lost, s)

/-- A write of DBG_TRC_CTL_h (R484, R487). -/
def State.trcCtlWrite (s : State) (h v : Nat) : WrRes × State :=
  let s := (s.wr (F.DBG_TRC_CTL.DEST h) (bits v 2 2)).wr (F.DBG_TRC_CTL.MODE h) (bits v 1 1)
  (.taken, if bit v 0 then s.traceClear h else s)

/-! ## Pairs (R10) -/

/-- May the pair be written now? R28 discards writes of FW while an APPLY is pending, and calls it pending until its moment;
the model discards them, and those of ALIGN_SRC, as long as APPLY reads 1, through the relock (DESIGN CHOICE, log entry 36). -/
def State.pairOpen (s : State) (p : RegAt) : Bool :=
  match p.def_.name with
  | .GLB_ECLK_FW => !s.on (F.GLB_ECLK_CTL.APPLY p.i)
  | .HIF_FN_DB | .HIF_FN_EVR => !s.on (F.HIF_FN_CFG.EN p.i)
  | .HIF_CTX_SQ | .HIF_CTX_CQ | .HIF_CTX_LEDGER | .HIF_CTX_SEQBASE => !s.on (F.HIF_CTX_CFG.EN p.i)
  | .CFG_HRING => !s.on F.CFG_HRING_CFG.EN
  | .TMB_TRG_SEC => s.trgOpen p.i p.j
  | _ => true

/-- A write of _LO: held in the requester's latch. -/
def State.pairLoWrite (s : State) (r : Req) (p : RegAt) (v : Nat) : WrRes × State :=
  if s.pairOpen p then (.taken, s.setLatch r (fun l => { l with wrLo := some v })) else (.lost, s)

/-- A write of _HI: it commits all 64 bits, with the low word that is held or that the register holds. -/
def State.pairHiWrite (s : State) (r : Req) (p : RegAt) (v : Nat) : WrRes × State :=
  if !s.pairOpen p then (.lost, s)
  else
    let lo := (s.latch r).wrLo.getD (s.loadReg p.def_ p.addr 0 32)
    let x := lo + 2 ^ 32 * v
    let s := s.setLatch r (fun l => { l with wrLo := none })
    match p.def_.name with
    | .GLB_ECLK_FW => if s.fwOver (x % 2 ^ 48) then (.excess, s) else (.taken, s.storeReg p.def_ p.addr 0 64 x)
    | .TMB_INC => wrBool (s.tmbIncWrite x)
    | _ => (.taken, s.storeReg p.def_ p.addr 0 64 x)

/-! ## Any register -/

/-- A write of a 32-bit register that is no part of a pair. -/
def State.wordWrite (s : State) (r : Req) (p : RegAt) (v : Nat) : WrRes × State :=
  let plain := s.storeReg p.def_ p.addr 0 32 v
  match p.def_.name with
  | .GLB_ECLK_CTL => s.eclkCtlWrite p.i v
  | .GLB_BEHAVIOUR => s.behaviourWrite (bits v 0 4)
  | .HIF_FN_CFG => s.fnCfgWrite p.i v
  | .HIF_CTX_CFG => s.ctxCfgWrite r p.i v
  | .HIF_CTX_GEN => if s.on (F.HIF_CTX_CFG.EN p.i) then (.lost, s) else (.taken, plain)
  | .ENG_SEQ_CTL => s.seqCtlWrite v
  | .ENG_CTL => s.engCtlWrite p.i v
  | .ENG_MAP => wrBool (s.engMapWrite p.i (bits v 0 7))
  | .ENG_IRQ => (.taken, s.irqWrite p.i v)
  | .ENG_SPEC => s.engSpecWrite p.i v
  | .VSW_SEL => wrBool (s.selWrite (128 * p.i + p.j) v)
  | .VSW_PORT_CFG => s.portCfgWrite p.i p.j v
  | .CHN_CFG => s.chnWrite p.i false v
  | .CHN_DSK => s.chnWrite p.i true v
  | .CHN_SSG_CFG => wrBool (s.ssgCfgWrite p.i p.j false v)
  | .CHN_SSG_DLY => wrBool (s.ssgCfgWrite p.i p.j true v)
  | .FPU_FCC_CTL => (.taken, if bit v 0 then s.fccFlush p.i else s)
  | .FPU_FFS_CTL => (.taken, s.ffsWrite p.i v)
  | .BNK_PWR => (.taken, s.bankPwr p.i p.j v)
  | .CFG_LOAD_CTL => s.loadCtlWrite v
  | .CFG_HRING_CFG => s.hringCfgWrite v
  | .TMB_CTL => (.taken, (s.wr F.TMB_CTL.HO_TMO (bits v 16 16)).tmbModeWrite (bits v 0 2))
  | .TMB_STEP_SEC => wrBool (s.timeStep v)
  | .TMB_TRK_PHY => (.taken, s.phyWrite p.i v)
  | .TMB_LCH_CFG => s.lchRegWrite p.i p.j v
  | .TMB_TRG_CTL => wrBool (s.trgCtlWrite p.i p.j v)
  | .TMB_TRG_NS | .TMB_TRG_PER => if s.trgOpen p.i p.j then (.taken, plain) else (.lost, s)
  | .SUP_CTL => s.supCtlWrite v
  | .SNP_CTL => s.snpCtlWrite v
  | .SEC_ATT_CTL => s.attCtlWrite v
  | .SEC_PROG_CTL => s.progCtlWrite r v
  | .DBG_ENG_CTL => if h : p.i < 104 then s.engDbgWrite r ⟨p.i, h⟩ v else (.lost, s)
  | .DBG_CMP_CFG => s.cmpCfgWrite r p.i p.j v
  | .DBG_TRC_CTL => s.trcCtlWrite p.i v
  | _ => (.taken, plain)

/-- A write at a register's offset, or at one that no register has. -/
def State.regFileWrite (s : State) (r : Req) (off v : Nat) : WrRes × State :=
  if 0x1400000 ≤ off ∧ off < 0x1480000 then
    if (regAt off).isSome then s.dmcWrite ((off - 0x1400000) / 0x10000) (off % 0x10000) v else (.lost, s)
  else match regAt off with
  | none => (.lost, s)
  | some p =>
    if p.def_.wide then (if off = p.addr then s.pairLoWrite r p v else s.pairHiWrite r p v)
    else if 0x2000000 ≤ off ∧ off < 0x2200000 then s.fabRegWrite off v
    else if 0x2200000 ≤ off ∧ off < 0x2400000 then s.gppRegWrite off v
    else s.wordWrite r p v

/-! ## Windows -/

/-- A write in channel c's window (R187, R199, R200). -/
def State.chanWinWrite (s : State) (r : Req) (c a v : Nat) : WrRes × State :=
  if a < 0x800 then
    wrBool (if a % 32 = 28 then s.tsetCommit r c (a / 32) v else s.tsetHold r c (a / 32) (a % 32 / 4) v)
  else if a < 0x820 then wrBool (s.recHold r c ((a - 0x800) / 4) v)
  else if a = 0x820 then wrBool (s.recCommit r c v)
  else (.lost, s)

/-- A write in the sequence-memory windows (R79). -/
def State.seqWinWrite (s : State) (r : Req) (o v : Nat) : WrRes × State :=
  let h := o / 0x200000
  let e := o % 0x200000 / 16
  wrBool (if o % 16 = 12 then s.seqCommit r h e v else s.seqHold r h e (o % 16 / 4) v)

/-- A write of 32 bits at a BAR0 byte offset, a multiple of 4, by a requester. -/
def State.regWrite (s : State) (r : Req) (off v : Nat) : WrRes × State :=
  if off = 0x18 then
    if !s.mayReset r then (.lost, s)
    else if bit v 0 ∧ bits v 16 16 = 0xA5C3 then
      (.taken, s.deviceReset (if r = .port then 3 else 2) (some (bit v 1, bit v 2)))
    else (.taken, s)
  else if off = 0x20 then (.taken, if bit v 0 then outState (execFwLoadGo r s) s else s)
  else if !s.mayWriteAt r off then (.lost, s)
  else if 0x1600000 ≤ off ∧ off < 0x1800000 then (.taken, s.winWrite ((off - 0x1600000) / 0x100000) (off % 0x100000) 4 v)
  else if 0x1C08000 ≤ off ∧ off < 0x1C10000 then
    let o := off - 0x1C08000
    (if s.on (F.TMB_LCH_CFG.ARM (o / 0x2000) (o % 0x2000 / 0x800)) then .lost else .taken,
      s.lchBufWrite (o / 0x2000) (o % 0x2000 / 0x800) (o % 0x800) v)
  else if 0x2400000 ≤ off ∧ off < 0x2401000 then (.lost, s)
  else if 0x2410000 ≤ off ∧ off < 0x2416800 then
    (if off % 8 = 0 then .taken else .lost, s.stimWrite ((off - 0x2410000) / 0x100) (off % 0x100) 4 v (stimOrigin r))
  else if off < 0x3000000 then s.regFileWrite r off v
  else if off < 0x3400000 then s.seqWinWrite r (off - 0x3000000) v
  else if off < 0x3740000 then
    let o := off - 0x3400000
    if o % 0x8000 / 4 < 0x1140 then wrBool (s.engTableWrite (o / 0x8000) (o % 0x8000 / 4) v) else (.lost, s)
  else if 0x3800000 ≤ off ∧ off < 0x3900000 then s.chanWinWrite r ((off - 0x3800000) / 0x1000) (off % 0x1000) v
  else if 0x3900000 ≤ off ∧ off < 0x3940000 then
    let t := (off - 0x3900000) / 0x400
    if niExists t then (.taken, s.routeWrite t (off % 0x400 / 4) v) else (.lost, s)
  else (.lost, s)

/-! ## Reads -/

/-- A word of the PORT space (R485): registers, NONCE, KEY, SIG. -/
def State.portWord (s : State) (o : Nat) : Nat :=
  if o < 0x10 then s.regWord (0x4000000 + o)
  else if 0x100 ≤ o ∧ o < 0x120 then bits s.hj.nonce (8 * (o - 0x100)) 32
  else if (0x200 ≤ o ∧ o < 0x220) ∨ (0x1000 ≤ o ∧ o < 0x2EB0) then Memory.readN s.hj.buf o 4
  else 0

/-- A word of a slot's table window (R131); the reserved bits [7:5] of each lane byte read 0 (R8). -/
def State.engTableWord (s : State) (n w : Nat) : Nat :=
  if w < 0x1000 then s.scrWord n w
  else if w < 0x1100 then Memory.readN s.lmaps (n * 1024 + 4 * (w - 0x1000)) 4 &&& 0x1F1F1F1F
  else if w < 0x1140 then Memory.readN s.fsets (n * 256 + 4 * (w - 0x1100)) 4
  else 0

/-- The bits that word w of a timing set has (R175): edges of 17 bits, FMT, MODE; the others are reserved and read 0 (R8). -/
def tsetBits (w : Nat) : Nat := if w < 6 then 0x1FFFF else if w = 6 then 0x3F else 0

/-- A word of a channel's window (R199). -/
def State.chanWinWord (s : State) (c a : Nat) : Nat :=
  if a < 0x800 then s.tsetWord c (a / 32) (a % 32 / 4) &&& tsetBits (a % 32 / 4)
  else if a < 0x840 then bits (recBytes (s.calRec c)) (8 * (a - 0x800)) 32
  else 0

/-- A word of the trace window of half h (R484), a read of DRAM like another (R235, R239). -/
def State.traceWord (s : State) (h o : Nat) : Nat × State :=
  let a := 0x8000000 + 0x10000 * s.rd (F.DBG_TRC_WIN.BASE h) + o
  let q := (s.srNow (s.dramIf h a)).freeEcc
  let r := q.2.dramNow h (a / 64 * 64) (15 * 2 ^ (a % 64)) q.1
  match r.1 with
  | some v => (v / 256 ^ (a % 64) % 2 ^ 32, r.2)
  | none => (0xFFFFFFFF, r.2.setOn (F.NOC_ERR.HOST_ERR h))

/-- TMB_NOW (R409): FRAC latches NS and SEC of the reference half for the requester; the others return what is latched. -/
def State.nowRead (s : State) (r : Req) (off : Nat) : Nat × State :=
  let t := s.refTb
  if off = 0x1C00008 then (t.frac, s.setLatch r (fun l => { l with ns := t.ns, sec := t.sec }))
  else if off = 0x1C0000C then ((s.latch r).ns, s)
  else if off = 0x1C00010 then ((s.latch r).sec % 2 ^ 32, s)
  else ((s.latch r).sec / 2 ^ 32, s)

/-- GPP_PIN_p (R499): IN is the level at the pad, 0 for an analogue input. -/
def State.pinRead (s : State) (p : Nat) : Nat :=
  let v := s.regWord (0x2200000 + 4 * p)
  v % 2 ^ 31 + 2 ^ 31 * b2n (s.pinFunc p != 4 && s.padLevel p)

/-- GPP_ADC (R498): a pin channel whose pin is not in analogue mode reads VALID 0. -/
def State.adcRead (s : State) (ch : Nat) : Nat :=
  let v := s.regWord (0x2200300 + 4 * ch)
  if ch < 16 ∧ !s.adcPin (24 * (ch / 4) + 16 + ch % 4) then v % 2 ^ 31 else v

/-- A 32-bit read at a BAR0 byte offset by a requester that may read there; a peek clears nothing. -/
def State.regReadAt (s : State) (peek : Bool) (r : Req) (off : Nat) : Nat × State :=
  if 0x1600000 ≤ off ∧ off < 0x1800000 then
    s.winNow ((off - 0x1600000) / 0x100000) (off % 0x100000)
  else if 0x1C08000 ≤ off ∧ off < 0x1C10000 then (Memory.readN s.time.bufs (off - 0x1C08000) 4, s)
  else if 0x1C00008 ≤ off ∧ off < 0x1C00018 then s.nowRead r off
  else if 0x2200000 ≤ off ∧ off < 0x2200180 then (s.pinRead ((off - 0x2200000) / 4), s)
  else if 0x2200300 ≤ off ∧ off < 0x2200350 then (s.adcRead ((off - 0x2200300) / 4), s)
  else if 0x2400000 ≤ off ∧ off < 0x2401000 then
    (s.portWord (off - 0x2400000), (s.genericRead peek r (off + 0x1C00000)).2)
  else if 0x2420000 ≤ off ∧ off < 0x2440000 then s.traceWord ((off - 0x2420000) / 0x10000) (off % 0x10000)
  else if 0x2604000 ≤ off ∧ off < 0x2606000 then (bits s.report (8 * (off - 0x2604000)) 32, s)
  else if 0x2608000 ≤ off ∧ off < 0x2610000 then (Config.certWord ((off - 0x2608000) / 4) % 2 ^ 32, s)
  else if 0x2810000 ≤ off ∧ off < 0x281F700 then
    (bits (Table.get 0 s.snap.records ((off - 0x2810000) / 128)) (8 * (off % 128)) 32, s)
  else if off < 0x3000000 then s.genericRead peek r off
  else if off < 0x3400000 then
    let o := off - 0x3000000
    (bits (s.seqShown (o / 0x200000) (o % 0x200000 / 16)).toNat (8 * (o % 16)) 32 &&& (if o % 16 = 12 then 0xFFFFFFFC else 0xFFFFFFFF), s)
  else if off < 0x3740000 then
    let o := off - 0x3400000
    (s.engTableWord (o / 0x8000) (o % 0x8000 / 4), s)
  else if 0x3800000 ≤ off ∧ off < 0x3900000 then (s.chanWinWord ((off - 0x3800000) / 0x1000) (off % 0x1000), s)
  else if 0x3900000 ≤ off ∧ off < 0x3940000 then
    let t := (off - 0x3900000) / 0x400
    (if niExists t then s.routeRaw t (off % 0x400 / 4) &&& 0x80007FFF else 0, s)
  else (0, s)

/-- A read as the requester sees it: what it may not read is 0 (R444). -/
def State.regRead (s : State) (peek : Bool) (r : Req) (off : Nat) : Nat × State :=
  if s.mayRead r off then s.regReadAt peek r off else (0, s)

/-! ## The commands -/

/-- Offset off is the low word, or the high word, of a pair. -/
def isPairLo (off : Nat) : Bool := match regAt off with | some p => p.def_.wide && off == p.addr | none => false
def isPairHi (off : Nat) : Bool := match regAt off with | some p => p.def_.wide && off != p.addr | none => false

/-- A read command: its answer is what the requester's bus holds, for the DRAM window once its line has returned; `off` counts in the
PF's BAR0. -/
def State.busRead (s : State) (r : Req) (off : Nat) : State :=
  if s.por then s
  else if 0x1600000 ≤ off ∧ off < 0x1800000 ∧ s.mayRead r off then s.winRead r ((off - 0x1600000) / 0x100000) (off % 0x100000) 4
  else
    let q := s.regRead false r off
    q.2.setBus r q.1

/-- REGISTER_WRITE (R3, R9, R11, R20, R36, R444). -/
def execRegisterWrite (r : Req) (a : RegWord) (v : Word32) (s : State) : Out :=
  let off := barOff r (4 * a)
  .next (if s.por ∨ isPairLo off ∨ isPairHi off then s else (s.regWrite r off v.toNat).2)

/-- RC_READ (R11, R12): a set or an increment of the same cycle is a command after it. -/
def execRcRead (r : Req) (a : RegWord) (s : State) : Out :=
  let off := barOff r (4 * a)
  .next (if isPairLo off ∨ isPairHi off then s else s.busRead r off)

/-- PAIR_LO_READ (R10). -/
def execPairLoRead (r : Req) (a : RegWord) (s : State) : Out :=
  .next (if isPairLo (barOff r (4 * a)) then s.busRead r (barOff r (4 * a)) else s)

/-- PAIR_HI_READ (R10). -/
def execPairHiRead (r : Req) (a : RegWord) (s : State) : Out :=
  .next (if isPairHi (barOff r (4 * a)) then s.busRead r (barOff r (4 * a)) else s)

/-- PAIR_LO_WRITE (R10). -/
def execPairLoWrite (r : Req) (a : RegWord) (v : Word32) (s : State) : Out :=
  .next (if !s.por ∧ isPairLo (barOff r (4 * a)) then (s.regWrite r (barOff r (4 * a)) v.toNat).2 else s)

/-- PAIR_HI_WRITE (R10). -/
def execPairHiWrite (r : Req) (a : RegWord) (v : Word32) (s : State) : Out :=
  .next (if !s.por ∧ isPairHi (barOff r (4 * a)) then (s.regWrite r (barOff r (4 * a)) v.toNat).2 else s)

/-- BEHAVIOUR_LEVEL_WRITE (R5, R462). -/
def execBehaviourLevelWrite (r : Req) (level : Fin 16) (s : State) : Out :=
  .next (if s.mayWrite r .glb then (s.behaviourWrite level).2 else s)

/-! ## A register image (R52) -/

/-- The pairs of an image are executed in order, as BAR0 writes of the PF, until one is beyond the grade or refused. -/
def State.imagePairs (s : State) (img : Nat) : List Nat → WrRes × State
  | [] => (.taken, s)
  | k :: ks =>
    let off := bits img (64 * k) 32
    let p : WrRes × State := if off % 4 = 0 ∧ off < 0x4000000 then s.regWrite (.fn 0) off (bits img (64 * k + 32) 32) else (.lost, s)
    match p.1 with
    | .excess => p
    | .refused => p
    | _ => p.2.imagePairs img ks

/-- The first k pairs of a register image run; the job completes with the given status, or REJECTED at the pair that ends
it. -/
def State.runImage (s : State) (n img k st det : Nat) : State :=
  let p := s.imagePairs img (List.range k)
  match p.1 with
  | .excess => p.2.finishFront n 0x20 3
  | .refused => p.2.finishFront n 0x20 0
  | _ => p.2.finishFront n st det

/-- SETUP_REGISTER_IMAGE (R52): the pairs before a rejected one remain in force. -/
def execSetupRegisterImage (n : Fin 64) (img : Nat) (s : State) : Out :=
  .next (match s.setupAt n .dispatched [9] with
    | some j => s.runImage n img (dLen j.desc / 8) 0 0
    | none => s)

/-! ## Reads of host memory that fail (R527) -/

/-- The image of a SETUP job fails to arrive (R527): the rows or pairs before the error have been written and remain in force,
none where the write waits for an idle target. -/
def State.imageError (s : State) (n : Nat) (j : Job) (rows img : Nat) : State :=
  let d := j.desc
  let len := min (dLen d) (rows * rowBytes (dTable d))
  if dTable d = 9 then s.runImage n img (len / 8) 0x12 0x20F
  else
    let s := if j.phase = .running ∨ !s.setupReady d img then s
      else if dTable d ≤ 3 then s.setupSeq d len img else s.setupTable d len img
    s.finishFront n 0x12 0x20F

/-- HOST_READ_ERROR (R527, R64, R347). -/
def execHostReadError (x : HostRead) (s : State) : Out :=
  .next (match x with
    | .page f => if s.on (F.HIF_FN_CFG.EN f) then s.dmaErr f else s
    | .evci f =>
      if (s.fn f).waiting.isEmpty then s
      else
        let s := s.dmaErr f
        let k := (s.fn f).waiting.length
        let s := s.placeWaiting f
        if (s.fn f).waiting.length = k then (s.dropEvent f).placeWaiting f else s
    | .descriptor n | .readback n | .reconcile n =>
      if s.on (F.HIF_CTX_CFG.EN n) ∧ !s.on (F.HIF_CTX_CFG.HALTED n) then (s.dmaErr (s.ownerFn n)).haltCtx n 2 else s
    | .setupImage n rows img =>
      match (s.atWork n 1 .dispatched).or (s.atWork n 1 .running) with
      | some j => (s.dmaErr (s.ownerFn n)).imageError n j rows img
      | none => s
    | .cfgRing => if s.load.active ∧ s.load.source = 3 then (s.dmaErr 0).failLoad 0x0E else s)

/-! ## Register packets of the network (R95, R366, R378) -/

/-- A read at a window offset must wait for its DRAM interface (R243, R253). -/
def State.winHeld (s : State) (off : Nat) : Bool :=
  let h := (off - 0x1600000) / 0x100000
  let a := s.windowAddr h (off % 0x100000)
  decide (0x1600000 ≤ off) && decide (off < 0x1800000) && decide (a < s.usable h) && !dramReserved a && !s.dramRuns h a

/-- The requester as which a source of the network reads or writes the register at an offset (R20, R22, R366, R378): a supervisor, and
its half's Pruner and configuration controller; a bay controller that is not fenced, in its own half; the host; the debug port. No
other interface may. -/
def State.nocReq (s : State) (src off : Nat) : Option Req :=
  let h := niHalf src
  let l := niL src
  let sup := fun (g : Nat) => Req.sup (if g = 0 then 0 else 1)
  if 49 ≤ l ∧ l < 52 then some (sup h)
  else if 40 ≤ l ∧ l < 44 then
    (if s.isFenced (144 + 4 * h + (l - 40)) ∨ halfOfOff off ≠ some h then none
     else some (sup (if s.isFenced (216 + h) then 1 - h else h)))
  else if l = 53 then some (.fn 0) else if l = 54 then some .port else none

/-- REG_RD (R366, R378): 32 bits at a BAR0 offset, for the control hierarchy only. -/
def execRegRd (id : Fin 256) (s : State) : Out :=
  .next (s.onRx id 7 (fun p t =>
    let off := p.addr % 0x4000000 / 4 * 4
    match t.nocReq p.src off with
    | none => t.nack id p 0x06
    | some r =>
      if t.winHeld off then
        s.wakeDram (s.dramIf ((off - 0x1600000) / 0x100000) (s.windowAddr ((off - 0x1600000) / 0x100000) (off % 0x100000)))
      else
        let q := t.regRead false r off
        q.2.answer id p 0x44 0 q.1 0))

/-- REG_WR (R95, R366, R378): the fabric writes only the flags of ENG_FLAG_n, at the interface of slot n's bay. -/
def execRegWr (id : Fin 256) (s : State) : Out :=
  .next (s.onRx id 8 (fun p s =>
    let off := p.addr % 0x4000000 / 4 * 4
    let v := p.addr / 2 ^ 32
    if niIsEndpoint p.src then
      match regAt off with
      | some q =>
        if q.def_.name = .ENG_FLAG ∧ id.val = niOfBay (bayOfSlot q.i) then
          ((s.wr (F.ENG_FLAG.FLAG_LO q.i) (bits v 0 3)).wr (F.ENG_FLAG.FLAG_HI q.i) (bits v 4 4)).answer id p 0x41 0 p.addr 0
        else s.nack id p 0x06
      | none => s.nack id p 0x06
    else match s.nocReq p.src off with
      | none => s.nack id p 0x06
      | some r => (s.regWrite r off v).2.answer id p 0x41 0 p.addr 0))

end Sys2Proof.Machine
end

