-- ==== Sys2Proof/Machine/Hjelz.lean ====
section
/-! DEFINITION. Packets of the Hjelz port (R465–R471): request headers, their CRC, levels, statuses and accesses. -/

namespace Sys2Proof.Machine

/-! ## CRC and header (R467, R468) -/

/-- The port's CRC over the n lowest bits of v, bit 0 first, from c. -/
def crc8From (c v : Nat) : Nat → Nat
  | 0 => c
  | n + 1 =>
    let x := c * 2 % 256
    crc8From (if (v % 2 + c / 128) % 2 = 1 then x ^^^ 7 else x) (v / 2) n

def crc8 (n v : Nat) : Nat := crc8From 255 v n

/-- A CRC as it stands on the wire, crc[7] first. -/
def onWire (c : Nat) : Nat := ((List.range 8).map (fun i => bits c i 1 * 2 ^ (7 - i))).foldl (· + ·) 0

/-- A header after its SYNC, bit 0 the first on the wire: OP, SPACE, CONSUME, COUNT, ADDR, CRC. -/
abbrev Header := BitVec 62

def hOp (h : Header) : Nat := bits h.toNat 0 2
def hSpace (h : Header) : Nat := bits h.toNat 2 3
def hConsume (h : Header) : Bool := bit h.toNat 5
def hWords (h : Header) : Nat := bits h.toNat 6 8 + 1
def hAddr (h : Header) : Nat := bits h.toNat 14 40
def hCrcOk (h : Header) : Bool := bits h.toNat 54 8 == onWire (crc8 54 h.toNat)

/-! ## Levels (R470, R471) -/

/-- The lowest level that allows an access of the word at address a. -/
def portNeed (space : Nat) (write : Bool) (a : Nat) : Nat :=
  match space with
  | 1 =>
    let o := a % 0x4000000
    if !write then 1
    else if 0x3000000 ≤ o ∧ o < 0x3400000 ∧ inMonArea (o % 0x200000 / 16) then 3
    else match blkOf o with | .dbg | .eng | .engWin => 2 | _ => 3
  | 2 => if bankReserved (a % 0x2000000) then 3 else if write then 2 else 1
  | 3 => if dramReserved (a % 2 ^ 36) then 3 else if write then 2 else 1
  | 4 => if write then 2 else 1
  | 5 => 1
  | _ => 0

/-- The addresses of a request's words. -/
def wordAddrs (a n : Nat) : List Nat := (List.range n).map (fun i => a + 4 * i)

/-- The level does not permit the request. -/
def State.portRefuses (s : State) (space : Nat) (write consume : Bool) (a n : Nat) : Bool :=
  (wordAddrs a n).any (fun x => decide (s.portLevel < portNeed space write x)) ||
  (consume && space == 1 && decide (s.portLevel < 2))

/-- The request meets a register of the authorisation check that runs (R469, R472). -/
def State.portRetry (s : State) (space a n : Nat) : Bool :=
  space == 0 && s.authBusy && (wordAddrs a n).any (fun x =>
    x == 8 || (decide (0x200 ≤ x) && decide (x < 0x220)) || (decide (0x1000 ≤ x) && decide (x < 0x2EB0)))

/-- The request cannot be served: a reserved space, a write of TRACE, an address that is not word aligned. -/
def portReserved (space : Nat) (write : Bool) (a : Nat) : Bool :=
  decide (space ≥ 6) || (space == 5 && write) || a % 4 != 0

/-! ## One word -/

/-- What an access of one word gives: a value, or the reason of an ERROR (R485). -/
inductive PortRes
  | val (v : Nat)
  | err (reason : Nat)
  deriving DecidableEq, Repr

/-- Other agents give up a bank line: a writable copy elsewhere returns data that only its holder knows (a free value). -/
def State.portSnoop (s : State) (h line : Nat) (write : Bool) : State :=
  let l := s.holders h line
  let s := if l.any (·.2) then
      let q := s.free 512
      q.2.bankWrite h (64 * line) 64 q.1
    else s
  s.setHolders h line (if write then [] else l.map (fun (x : Nat × Bool) => (x.1, false)))

/-- A word of bank memory for the port: OFF and an uncorrectable word are errors, a bank in retention wakes. -/
def State.portBank (s : State) (a : Nat) (wr : Option Nat) : PortRes × State :=
  let h := a / 0x2000000 % 2
  let o := a % 0x2000000
  let b := bankOf o
  if !bankReserved o ∧ s.bankCur h b = 2 then (.err 1, s.setOn (F.BNK_ERR.OFF h))
  else
    let s := if !bankReserved o ∧ s.bankCur h b = 1 then s.bankMove h b 0 else s
    let s := if bankReserved o then s else s.portSnoop h (o / 64) wr.isSome
    match wr with
    | some v => (.val 0, s.bankDoWrite h ⟨bySup, reqCode .port, o, 4, some v, 0, .clean, 0⟩ v)
    | none => if s.bankUeAt h (o / 8) then (.err 1, s.noteUe h (o / 8)) else (.val (s.bankRead h o 4), s)

/-- A word of DRAM for the port, by device address (R235): the access runs through an exit from self-refresh that it starts. While a
loss of REFCLK holds the interface it does not complete within 1 ms (R253, R469). What a line shows as it is read is free. -/
def State.portDram (s : State) (a : Nat) (wr : Option Nat) : PortRes × State :=
  let h := a / 2 ^ 36
  let o := a % 2 ^ 36
  let n := s.dramIf h o
  if 2 ≤ h ∨ o ≥ s.usable h then (.err 1, s.dramAddrErr (h % 2) o)
  else
    let s := s.srNow n
    if s.mckGated n then (.err 2, s)
    else match wr with
      | some v => (.val 0, s.dramPut h o 4 v true)
      | none =>
        let q := s.freeEcc
        let r := q.2.dramNow h (o / 64 * 64) (15 * 2 ^ (o % 64)) q.1
        match r.1 with
        | some v => (.val (v / 256 ^ (o % 64) % 2 ^ 32), r.2)
        | none => (.err 1, r.2)

/-- A word of an engine's live state: save slot 7 of a slot in the monitor (R425, R475). -/
def State.portEngine (s : State) (a : Nat) (wr : Option Nat) : PortRes × State :=
  let n := bits a 8 7
  if n ≥ 104 then (.err 5, s)
  else if s.isFenced n then (.err 4, s)
  else if !s.inMon n then (.err 3, s)
  else
    let at_ := saveAddr n 7 + a % 256
    match wr with
    | some v => (.val 0, s.bankWrite (halfOfSlot n) at_ 4 v)
    | none => (.val (s.bankRead (halfOfSlot n) at_ 4), s)

/-- Word i of a read of the trace FIFO (R484): West's packets go before East's; a packet is popped with its last word read. -/
def State.portTrace (s : State) (consume last : Bool) (i : Nat) : PortRes × State :=
  let h := if (s.trc 0).fifo.isEmpty then 1 else 0
  match (s.trc h).fifo with
  | [] => (.val (bits (15 * 2 ^ 16) (32 * (i % 4)) 32), s)
  | p :: rest =>
    (.val (bits p (32 * (i % 4)) 32),
      if consume && (last || i % 4 == 3) then s.updTrc h (fun t => { t with fifo := rest }) else s)

/-- A write of a word of the PORT space (R472, R485). -/
def State.portWrite (s : State) (o v : Nat) : PortRes × State :=
  if o = 8 then
    let s := s.wr F.DBG_AUTH_CTL.REQ_LEVEL (bits v 8 2)
    let s := if bit v 1 then outState (execChallenge s) s else s
    let s := if bit v 2 then outState (execVerify s) s else s
    (.val 0, if bit v 3 then outState (execLogout s) s else s)
  else if o = 0x0C then
    if s.portLevel ≥ 2 then (.val 0, s.wr F.DBG_CFG.LOCK_HOLD_MAX (v % 2 ^ 16)) else (.err 6, s)
  else if (0x200 ≤ o ∧ o < 0x220) ∨ (0x1000 ≤ o ∧ o < 0x2EB0) then
    (.val 0, s.updHj (fun x => { x with buf := Memory.writeN x.buf o 4 v }))
  else if o < 8 ∨ (0x100 ≤ o ∧ o < 0x120) then (.val 0, s)
  else (.err 6, s)

/-- Read word i of a request at address a. -/
def State.portReadWord (s : State) (space : Nat) (consume last : Bool) (a i : Nat) : PortRes × State :=
  match space with
  | 0 => (.val (s.portWord a), s)
  | 1 =>
    let q := s.regRead (!consume) .port (a % 0x4000000)
    (.val q.1, q.2)
  | 2 => s.portBank (a % 0x4000000) none
  | 3 => s.portDram a none
  | 4 => s.portEngine a none
  | _ => s.portTrace consume last i

/-- Write one word; a register's own rules may discard it. -/
def State.portWriteWord (s : State) (space a v : Nat) : PortRes × State :=
  match space with
  | 0 => s.portWrite a v
  | 1 =>
    let q := s.regWrite .port (a % 0x4000000) v
    (if q.1 = .taken then .val 0 else .err 6, q.2)
  | 2 => s.portBank (a % 0x4000000) (some v)
  | 3 => s.portDram a (some v)
  | _ => s.portEngine a (some v)

/-! ## Whole requests (R469) -/

def State.portStatus (s : State) (st : Nat) : State := s.updHj (fun x => { x with status := some st, answer := [], busy := none })

/-- ERROR: the reason and the index of the failing word. -/
def State.portError (s : State) (reason k : Nat) : State :=
  ((s.wr F.DBG_PORT_STAT.ERR reason).wr F.DBG_PORT_STAT.WORD k).portStatus 0b1001

/-- Words are read in order; the access of word `slow` does not complete. -/
def State.portReads (s : State) (space : Nat) (consume : Bool) (a n : Nat) (slow : Option Nat) : List Nat → List Nat → State
  | [], acc =>
    let v := (acc.reverse.foldr (fun w t => w + 2 ^ 32 * t) 0)
    s.updHj (fun x => { x with status := some 0b1010, answer := acc.reverse ++ [crc8 (32 * n) v], busy := none })
  | i :: is, acc =>
    if slow = some i then s.updHj (fun x => { x with busy := some (i, none), status := none, answer := [] })
    else
      let q := s.portReadWord space consume (i + 1 == n) (a + 4 * i) i
      match q.1 with
      | .err e => q.2.portError e i
      | .val v => q.2.portReads space consume a n slow is (v :: acc)

/-- Words are written in order. A device reset among them ends the packet. -/
def State.portWrites (s : State) (space a : Nat) (slow : Option Nat) : List (Nat × Nat) → State
  | [] => s.portStatus 0b1010
  | (i, v) :: ws =>
    if slow = some i then s.updHj (fun x => { x with busy := some (i, some (space, a + 4 * i, v)), status := none, answer := [] })
    else
      let q := s.portWriteWord space (a + 4 * i) v
      if q.2.por then q.2
      else match q.1 with
        | .err e => q.2.portError e i
        | .val _ => q.2.portWrites space a slow ws

/-- The port takes a request header: no data is awaited and no access runs. -/
def State.portIdle (s : State) : Bool := !s.por && s.hj.write.isNone && s.hj.busy.isNone

/-- The answer to a header that is not served: REFUSED, RETRY or ERROR. -/
def State.portBar (s : State) (h : Header) (write : Bool) : Option State :=
  if s.portRefuses (hSpace h) write (hConsume h && !write) (hAddr h) (hWords h) then some (s.portStatus 0b0110)
  else if portReserved (hSpace h) write (hAddr h) then some (s.portError 5 0)
  else if s.portRetry (hSpace h) (hAddr h) (hWords h) then some (s.portStatus 0b1100)
  else none

/-- HJELZ_READ (R469–R471): `slow` names a word whose access does not complete within 1 ms (HJELZ_ACCESS_TIMEOUT). -/
def execHjelzRead (h : Header) (slow : Option Nat) (s : State) : Out :=
  .next (if !s.portIdle ∨ !hCrcOk h ∨ hOp h ≠ 1 then s
    else match s.portBar h false with
      | some t => t
      | none => s.portReads (hSpace h) (hConsume h) (hAddr h) (hWords h) slow (List.range (hWords h)) [])

/-- HJELZ_WRITE (R469, R470): the data is awaited. -/
def execHjelzWrite (h : Header) (s : State) : Out :=
  .next (if !s.portIdle ∨ !hCrcOk h ∨ hOp h ≠ 2 then s
    else match s.portBar h true with
      | some t => t
      | none => (s.portStatus 0b1010).updHj (fun x => { x with write := some (hSpace h, hAddr h, hWords h) }))

/-- HJELZ_WRITE_DATA (R468, R469): the words and their CRC. -/
def execHjelzWriteData (data : List Word32) (crc : Byte) (slow : Option Nat) (s : State) : Out :=
  .next (match s.hj.write with
    | none => s
    | some (space, a, n) =>
      if s.por ∨ data.length ≠ n then s
      else
        let s := s.updHj (fun x => { x with write := none })
        let v := data.foldr (fun w t => w.toNat + 2 ^ 32 * t) 0
        if crc.toNat ≠ crc8 (32 * n) v then (s.count F.DBG_PORT_STAT.CRC_ERR).portStatus 0b0101
        else s.portWrites space a slow (data.zipIdx.map (fun (e : Word32 × Nat) => (e.2, e.1.toNat))))

/-- HJELZ_ACCESS_TIMEOUT (R469): ERROR with reason TIMEOUT. A write may still take effect afterwards: whether it does is free. -/
def execHjelzAccessTimeout (s : State) : Out :=
  .next (match s.hj.busy with
    | none => s
    | some (k, w) =>
      let s := s.portError 2 k
      match w with
      | none => s
      | some (space, a, v) =>
        let q := s.free 1
        if bit q.1 0 then (q.2.portWriteWord space a v).2 else q.2)

/-- HJELZ_PACKET_GAP (R465): the packet is discarded. -/
def execHjelzPacketGap (s : State) : Out := .next (s.updHj (fun x => { x with write := none, busy := none }))

/-- HJELZ_LINE_RESET (R466): the packet and any busy run end; the authorised level stays. -/
def execHjelzLineReset (s : State) : Out := .next (s.updHj (fun x => { x with write := none, busy := none, status := none }))

/-- HJELZ_HEADER_REFUSED (R469): a bad CRC or a reserved OP gets no answer. -/
def execHjelzHeaderRefused (h : Header) (s : State) : Out :=
  .next (if !s.portIdle then s
    else
      let t := s.updHj (fun x => { x with status := none, answer := [] })
      if !hCrcOk h then t.count F.DBG_PORT_STAT.CRC_ERR
      else if hOp h = 0 ∨ hOp h = 3 then t else s)

end Sys2Proof.Machine
end

