-- ==== Sys2Proof/Machine/Dispatch.lean ====
section
/-! DEFINITION. One arm per command: a direct call of its meaning. -/

namespace Sys2Proof.Machine

def exec (i : Instr) (s : State) : Host.Outcome State Fault Refusal :=
  match i with
  | .registerWrite r a v => Sys2Proof.Machine.execRegisterWrite r a v s
  | .rcRead r a => Sys2Proof.Machine.execRcRead r a s
  | .pairLoRead r a => Sys2Proof.Machine.execPairLoRead r a s
  | .pairHiRead r a => Sys2Proof.Machine.execPairHiRead r a s
  | .pairLoWrite r a v => Sys2Proof.Machine.execPairLoWrite r a v s
  | .pairHiWrite r a v => Sys2Proof.Machine.execPairHiWrite r a v s
  | .behaviourLevelWrite r level => Sys2Proof.Machine.execBehaviourLevelWrite r level s
  | .eclkApply r h => Sys2Proof.Machine.execEclkApply r h s
  | .eclkApplyCancel r h => Sys2Proof.Machine.execEclkApplyCancel r h s
  | .eclkApplyTimeout h => Sys2Proof.Machine.execEclkApplyTimeout h s
  | .eclkAlignMoment h => Sys2Proof.Machine.execEclkAlignMoment h s
  | .eclkRelock h => Sys2Proof.Machine.execEclkRelock h s
  | .eclkLockLoss h => Sys2Proof.Machine.execEclkLockLoss h s
  | .refclkLoss => Sys2Proof.Machine.execRefclkLoss s
  | .refclkReturn => Sys2Proof.Machine.execRefclkReturn s
  | .agentFence a c more => Sys2Proof.Machine.execAgentFence a c more s
  | .agentReset a c more => Sys2Proof.Machine.execAgentReset a c more s
  | .agentConfigure a c more => Sys2Proof.Machine.execAgentConfigure a c more s
  | .agentCalibrate a c more => Sys2Proof.Machine.execAgentCalibrate a c more s
  | .hostReadError x => Sys2Proof.Machine.execHostReadError x s
  | .linkDown => Sys2Proof.Machine.execLinkDown s
  | .linkUp rate width flit => Sys2Proof.Machine.execLinkUp rate width flit s
  | .perst => Sys2Proof.Machine.execPerst s
  | .hotReset => Sys2Proof.Machine.execHotReset s
  | .flr f => Sys2Proof.Machine.execFlr f s
  | .d3hotEntry => Sys2Proof.Machine.execD3hotEntry s
  | .fnEnable f evci => Sys2Proof.Machine.execFnEnable f evci s
  | .contextStartFresh n => Sys2Proof.Machine.execContextStartFresh n s
  | .contextReconcile n entry db sq cq => Sys2Proof.Machine.execContextReconcile n entry db sq cq s
  | .contextDisable n => Sys2Proof.Machine.execContextDisable n s
  | .doorbellPoll f summary evci recs => Sys2Proof.Machine.execDoorbellPoll f summary evci recs s
  | .doorbellFullScan f recs => Sys2Proof.Machine.execDoorbellFullScan f recs s
  | .descriptorAccept n d => Sys2Proof.Machine.execDescriptorAccept n d s
  | .acceptBatch n => Sys2Proof.Machine.execAcceptBatch n s
  | .acceptReadbackDone n => Sys2Proof.Machine.execAcceptReadbackDone n s
  | .jobDispatch n d => Sys2Proof.Machine.execJobDispatch n d s
  | .pattern n => Sys2Proof.Machine.execPattern n s
  | .setupSequenceMemory n img => Sys2Proof.Machine.execSetupSequenceMemory n img s
  | .setupTimingSets n img => Sys2Proof.Machine.execSetupTimingSets n img s
  | .setupLaneMaps n img => Sys2Proof.Machine.execSetupLaneMaps n img s
  | .setupPinFunctionSets n img => Sys2Proof.Machine.execSetupPinFunctionSets n img s
  | .setupScrambleTable n img => Sys2Proof.Machine.execSetupScrambleTable n img s
  | .setupVectorSwitchSelections n img => Sys2Proof.Machine.execSetupVectorSwitchSelections n img s
  | .setupRegisterImage n img => Sys2Proof.Machine.execSetupRegisterImage n img s
  | .setupDeferredWrite n img => Sys2Proof.Machine.execSetupDeferredWrite n img s
  | .calibrateFullChannel n => Sys2Proof.Machine.execCalibrateFullChannel n s
  | .calibrateTemperatureUpdate n => Sys2Proof.Machine.execCalibrateTemperatureUpdate n s
  | .calibrateCompareLatency n meas => Sys2Proof.Machine.execCalibrateCompareLatency n meas s
  | .calibrateDramRetrain n outs => Sys2Proof.Machine.execCalibrateDramRetrain n outs s
  | .nop n => Sys2Proof.Machine.execNop n s
  | .abort n => Sys2Proof.Machine.execAbort n s
  | .pause n => Sys2Proof.Machine.execPause n s
  | .resume n => Sys2Proof.Machine.execResume n s
  | .rearm n => Sys2Proof.Machine.execRearm n s
  | .completionCommit n => Sys2Proof.Machine.execCompletionCommit n s
  | .evciReread f evci => Sys2Proof.Machine.execEvciReread f evci s
  | .engMapWrite r n le => Sys2Proof.Machine.execEngMapWrite r n le s
  | .seqModeChange r split => Sys2Proof.Machine.execSeqModeChange r split s
  | .seqCopyDone ceW ueW ueBoth => Sys2Proof.Machine.execSeqCopyDone ceW ueW ueBoth s
  | .seqWindowHold r h e w v => Sys2Proof.Machine.execSeqWindowHold r h e w v s
  | .seqWindowCommit r h e v => Sys2Proof.Machine.execSeqWindowCommit r h e v s
  | .seqFillComplete n w outs => Sys2Proof.Machine.execSeqFillComplete n w outs s
  | .seqSpineFillTimeout n w k => Sys2Proof.Machine.execSeqSpineFillTimeout n w k s
  | .preloadDone n outs => Sys2Proof.Machine.execPreloadDone n outs s
  | .cacheInvalidate r n => Sys2Proof.Machine.execCacheInvalidate r n s
  | .cacheInvalidateDone n => Sys2Proof.Machine.execCacheInvalidateDone n s
  | .engIrqWrite r n v => Sys2Proof.Machine.execEngIrqWrite r n v s
  | .predictorFlush r n => Sys2Proof.Machine.execPredictorFlush r n s
  | .next n w => Sys2Proof.Machine.execNext n w s
  | .jmp n w => Sys2Proof.Machine.execJmp n w s
  | .rep n w => Sys2Proof.Machine.execRep n w s
  | .mwait n w => Sys2Proof.Machine.execMwait n w s
  | .halt n w => Sys2Proof.Machine.execHalt n w s
  | .haltDrainDone n => Sys2Proof.Machine.execHaltDrainDone n s
  | .pauseOpcode n w => Sys2Proof.Machine.execPauseOpcode n w s
  | .sync n w => Sys2Proof.Machine.execSync n w s
  | .syncRelease c h ws => Sys2Proof.Machine.execSyncRelease c h ws s
  | .lock n w => Sys2Proof.Machine.execLock n w s
  | .lockResponse n w => Sys2Proof.Machine.execLockResponse n w s
  | .lockRetry n => Sys2Proof.Machine.execLockRetry n s
  | .unlock n w => Sys2Proof.Machine.execUnlock n w s
  | .save n w => Sys2Proof.Machine.execSave n w s
  | .restore n w => Sys2Proof.Machine.execRestore n w s
  | .iret n w => Sys2Proof.Machine.execIret n w s
  | .trap n w => Sys2Proof.Machine.execTrap n w s
  | .trace n w => Sys2Proof.Machine.execTrace n w s
  | .clrf n w => Sys2Proof.Machine.execClrf n w s
  | .br n w => Sys2Proof.Machine.execBr n w s
  | .call n w => Sys2Proof.Machine.execCall n w s
  | .ret n w => Sys2Proof.Machine.execRet n w s
  | .loop n w => Sys2Proof.Machine.execLoop n w s
  | .ldc n w => Sys2Proof.Machine.execLdc n w s
  | .waitt n w => Sys2Proof.Machine.execWaitt n w s
  | .illegalEntry n w => Sys2Proof.Machine.execIllegalEntry n w s
  | .matchWindowResolve n late => Sys2Proof.Machine.execMatchWindowResolve n late s
  | .interruptEntry n w => Sys2Proof.Machine.execInterruptEntry n w s
  | .watchdogExpire n => Sys2Proof.Machine.execWatchdogExpire n s
  | .tableFillDone n ok w => Sys2Proof.Machine.execTableFillDone n ok w s
  | .streamFetchDone n eccs ahead w => Sys2Proof.Machine.execStreamFetchDone n eccs ahead w s
  | .fvpWordAccept h p word w => Sys2Proof.Machine.execFvpWordAccept h p word w s
  | .fvpFlush r h p => Sys2Proof.Machine.execFvpFlush r h p s
  | .vectorTableWrite r n w v => Sys2Proof.Machine.execVectorTableWrite r n w v s
  | .vswSelWrite r c v => Sys2Proof.Machine.execVswSelWrite r c v s
  | .specResolve n late => Sys2Proof.Machine.execSpecResolve n late s
  | .sumpRelease n b => Sys2Proof.Machine.execSumpRelease n b s
  | .fabricResultWrite e taken tag dev addr len data => Sys2Proof.Machine.execFabricResultWrite e taken tag dev addr len data s
  | .fabricWriteRelease h => Sys2Proof.Machine.execFabricWriteRelease h s
  | .compareResult n cyc c hi lo strobe => Sys2Proof.Machine.execCompareResult n cyc c hi lo strobe s
  | .ssgEdgeTimeout b g strobe => Sys2Proof.Machine.execSsgEdgeTimeout b g strobe s
  | .failEntryDrain b k => Sys2Proof.Machine.execFailEntryDrain b k s
  | .fccEntryAccept b => Sys2Proof.Machine.execFccEntryAccept b s
  | .fccFlush r h => Sys2Proof.Machine.execFccFlush r h s
  | .fccWritebackAck h addr => Sys2Proof.Machine.execFccWritebackAck h addr s
  | .ffsCtlApply b taken => Sys2Proof.Machine.execFfsCtlApply b taken s
  | .jobStop c => Sys2Proof.Machine.execJobStop c s
  | .jobDrainDone c => Sys2Proof.Machine.execJobDrainDone c s
  | .chnCfgWrite r c dsk v => Sys2Proof.Machine.execChnCfgWrite r c dsk v s
  | .modeChangeDone c => Sys2Proof.Machine.execModeChangeDone c s
  | .tsetWindowHold r c k w v => Sys2Proof.Machine.execTsetWindowHold r c k w v s
  | .tsetCommit r c k v => Sys2Proof.Machine.execTsetCommit r c k v s
  | .ssgCfgWrite r b g dly v => Sys2Proof.Machine.execSsgCfgWrite r b g dly v s
  | .sensorSample temps => Sys2Proof.Machine.execSensorSample temps s
  | .tempRecompute b => Sys2Proof.Machine.execTempRecompute b s
  | .calChannelBegin n c sums sph => Sys2Proof.Machine.execCalChannelBegin n c sums sph s
  | .calIdleTimeout n c => Sys2Proof.Machine.execCalIdleTimeout n c s
  | .calRecordHold r c w v => Sys2Proof.Machine.execCalRecordHold r c w v s
  | .calRecordCommit r c v => Sys2Proof.Machine.execCalRecordCommit r c v s
  | .dramReadReq h line mask id full => Sys2Proof.Machine.execDramReadReq h line mask id full s
  | .dramWriteReq h line mask data full => Sys2Proof.Machine.execDramWriteReq h line mask data full s
  | .dramReadOrWriteReq h line data ctxs full => Sys2Proof.Machine.execDramReadOrWriteReq h line data ctxs full s
  | .dramSchedule n banks aged hits ecc => Sys2Proof.Machine.execDramSchedule n banks aged hits ecc s
  | .dramReadReturn n k ecc => Sys2Proof.Machine.execDramReadReturn n k ecc s
  | .fspSwitchReq r n urgent target => Sys2Proof.Machine.execFspSwitchReq r n urgent target s
  | .fspSwitchDone n => Sys2Proof.Machine.execFspSwitchDone n s
  | .fspRateWrite r n k rate => Sys2Proof.Machine.execFspRateWrite r n k rate s
  | .oscCheck n drift => Sys2Proof.Machine.execOscCheck n drift s
  | .retrainStep n => Sys2Proof.Machine.execRetrainStep n s
  | .retrainStepDone n ok last => Sys2Proof.Machine.execRetrainStepDone n ok last s
  | .dramRemoval n bad => Sys2Proof.Machine.execDramRemoval n bad s
  | .reservedAreaRestore h => Sys2Proof.Machine.execReservedAreaRestore h s
  | .selfRefreshEntry n => Sys2Proof.Machine.execSelfRefreshEntry n s
  | .srEnter r n => Sys2Proof.Machine.execSrEnter r n s
  | .srExit r n => Sys2Proof.Machine.execSrExit r n s
  | .srExitDone n drift => Sys2Proof.Machine.execSrExitDone n drift s
  | .dramWindowRead r h off len => Sys2Proof.Machine.execDramWindowRead r h off len s
  | .dramWindowWrite r h off len v => Sys2Proof.Machine.execDramWindowWrite r h off len v s
  | .dramInitSweep n => Sys2Proof.Machine.execDramInitSweep n s
  | .bankAccess h m r addr len wr ecc => Sys2Proof.Machine.execBankAccess h m r addr len wr ecc s
  | .bankCeWriteback h => Sys2Proof.Machine.execBankCeWriteback h s
  | .bankPwrWrite r h k v => Sys2Proof.Machine.execBankPwrWrite r h k v s
  | .bankPwrDone h b => Sys2Proof.Machine.execBankPwrDone h b s
  | .coppiceLoanStart h => Sys2Proof.Machine.execCoppiceLoanStart h s
  | .coppiceSwitchOver h => Sys2Proof.Machine.execCoppiceSwitchOver h s
  | .coppiceTestDone h ok => Sys2Proof.Machine.execCoppiceTestDone h ok s
  | .coppiceSwitchBack h => Sys2Proof.Machine.execCoppiceSwitchBack h s
  | .fcgApply r h g pinHz => Sys2Proof.Machine.execFcgApply r h g pinHz s
  | .fcgRelock h g => Sys2Proof.Machine.execFcgRelock h g s
  | .fcgLockLoss h g => Sys2Proof.Machine.execFcgLockLoss h g s
  | .rclkWrite q r which v => Sys2Proof.Machine.execRclkWrite q r which v s
  | .bramAccess t => Sys2Proof.Machine.execBramAccess t s
  | .sliceHold t => Sys2Proof.Machine.execSliceHold t s
  | .sliceLoad t => Sys2Proof.Machine.execSliceLoad t s
  | .sliceMac t => Sys2Proof.Machine.execSliceMac t s
  | .sliceMsu t => Sys2Proof.Machine.execSliceMsu t s
  | .sliceLoadc t => Sys2Proof.Machine.execSliceLoadc t s
  | .sliceAddc t => Sys2Proof.Machine.execSliceAddc t s
  | .sliceMacc t => Sys2Proof.Machine.execSliceMacc t s
  | .sliceClr t => Sys2Proof.Machine.execSliceClr t s
  | .neRxStallTimeout e => Sys2Proof.Machine.execNeRxStallTimeout e s
  | .neFence e c reconfig => Sys2Proof.Machine.execNeFence e c reconfig s
  | .neReleaseDone e => Sys2Proof.Machine.execNeReleaseDone e s
  | .flashBoot ptrA ptrB => Sys2Proof.Machine.execFlashBoot ptrA ptrB s
  | .cfgRingEntry e data => Sys2Proof.Machine.execCfgRingEntry e data s
  | .cfgStreamTimeout => Sys2Proof.Machine.execCfgStreamTimeout s
  | .flashPrimary r ptrA ptrB => Sys2Proof.Machine.execFlashPrimary r ptrA ptrB s
  | .flashGolden r ptrA ptrB => Sys2Proof.Machine.execFlashGolden r ptrA ptrB s
  | .cfgAbort r => Sys2Proof.Machine.execCfgAbort r s
  | .flashCommandTimeout => Sys2Proof.Machine.execFlashCommandTimeout s
  | .signatureVerified flash => Sys2Proof.Machine.execSignatureVerified flash s
  | .segmentWrite pinHz => Sys2Proof.Machine.execSegmentWrite pinHz s
  | .doneQualified high => Sys2Proof.Machine.execDoneQualified high s
  | .startUp late => Sys2Proof.Machine.execStartUp late s
  | .doneDrop => Sys2Proof.Machine.execDoneDrop s
  | .prunerFrameCheck h fa mismatch own other ok mine => Sys2Proof.Machine.execPrunerFrameCheck h fa mismatch own other ok mine s
  | .prunerCrossCheck h fa mismatch own other ok => Sys2Proof.Machine.execPrunerCrossCheck h fa mismatch own other ok s
  | .prunerScrubStep h x => Sys2Proof.Machine.execPrunerScrubStep h x s
  | .nocInject id fresh dest opc tag size attr addr data => Sys2Proof.Machine.execNocInject id fresh dest opc tag size attr addr data s
  | .nocEject k full bad => Sys2Proof.Machine.execNocEject k full bad s
  | .rd id ecc host => Sys2Proof.Machine.execRd id ecc host s
  | .wrReq id => Sys2Proof.Machine.execWrReq id s
  | .rdS id ecc => Sys2Proof.Machine.execRdS id ecc s
  | .rdM id ecc => Sys2Proof.Machine.execRdM id ecc s
  | .atomAcq id => Sys2Proof.Machine.execAtomAcq id s
  | .atomRel id => Sys2Proof.Machine.execAtomRel id s
  | .regRd id => Sys2Proof.Machine.execRegRd id s
  | .regWr id => Sys2Proof.Machine.execRegWr id s
  | .grant id => Sys2Proof.Machine.execGrant id s
  | .ack id => Sys2Proof.Machine.execAck id s
  | .nack id => Sys2Proof.Machine.execNack id s
  | .snpAck id => Sys2Proof.Machine.execSnpAck id s
  | .regData id => Sys2Proof.Machine.execRegData id s
  | .snpInv id data => Sys2Proof.Machine.execSnpInv id data s
  | .snpShr id data => Sys2Proof.Machine.execSnpShr id data s
  | .wdata id ecc => Sys2Proof.Machine.execWdata id ecc s
  | .rdata id => Sys2Proof.Machine.execRdata id s
  | .snpData id => Sys2Proof.Machine.execSnpData id s
  | .snoopTimeout h agent => Sys2Proof.Machine.execSnoopTimeout h agent s
  | .nocRspTimeout id tag => Sys2Proof.Machine.execNocRspTimeout id tag s
  | .fenceReq id fault c => Sys2Proof.Machine.execFenceReq id fault c s
  | .fenceAck id timeout => Sys2Proof.Machine.execFenceAck id timeout s
  | .niRelease id c => Sys2Proof.Machine.execNiRelease id c s
  | .routeTableWrite r t d v => Sys2Proof.Machine.execRouteTableWrite r t d v s
  | .linkFailed h stop dir lost => Sys2Proof.Machine.execLinkFailed h stop dir lost s
  | .secondRollover h => Sys2Proof.Machine.execSecondRollover h s
  | .pairSample drift => Sys2Proof.Machine.execPairSample drift s
  | .timebaseStepApply => Sys2Proof.Machine.execTimebaseStepApply s
  | .ptpOffset o => Sys2Proof.Machine.execPtpOffset o s
  | .gridStepDeferredApply expired => Sys2Proof.Machine.execGridStepDeferredApply expired s
  | .holdoverTimeout => Sys2Proof.Machine.execHoldoverTimeout s
  | .ptpMasterLost => Sys2Proof.Machine.execPtpMasterLost s
  | .oscRatioWindow => Sys2Proof.Machine.execOscRatioWindow s
  | .tmbModeWrite r m => Sys2Proof.Machine.execTmbModeWrite r m s
  | .tmbIncWrite r v => Sys2Proof.Machine.execTmbIncWrite r v s
  | .timeStepCommit r sec => Sys2Proof.Machine.execTimeStepCommit r sec s
  | .trunkFrameRx p len data => Sys2Proof.Machine.execTrunkFrameRx p len data s
  | .evfHalt p group seq sec ns => Sys2Proof.Machine.execEvfHalt p group seq sec ns s
  | .evfHaltAction k => Sys2Proof.Machine.execEvfHaltAction k s
  | .evfStart p group seq sec ns k => Sys2Proof.Machine.execEvfStart p group seq sec ns k s
  | .evfSync p group seq sec ns => Sys2Proof.Machine.execEvfSync p group seq sec ns s
  | .triggerArm r h k => Sys2Proof.Machine.execTriggerArm r h k s
  | .triggerPeriodicWrite r h k on => Sys2Proof.Machine.execTriggerPeriodicWrite r h k on s
  | .triggerFire h k => Sys2Proof.Machine.execTriggerFire h k s
  | .trigOutPulseEnd h k => Sys2Proof.Machine.execTrigOutPulseEnd h k s
  | .launchFrameSend p q sec ns frac => Sys2Proof.Machine.execLaunchFrameSend p q sec ns frac s
  | .startComparatorFire h c => Sys2Proof.Machine.execStartComparatorFire h c s
  | .alignedStart h ws => Sys2Proof.Machine.execAlignedStart h ws s
  | .trigInEdge k sec ns => Sys2Proof.Machine.execTrigInEdge k sec ns s
  | .heartbeat silent => Sys2Proof.Machine.execHeartbeat silent s
  | .engineFault n cache => Sys2Proof.Machine.execEngineFault n cache s
  | .channelGroupFault c => Sys2Proof.Machine.execChannelGroupFault c s
  | .vccChFail => Sys2Proof.Machine.execVccChFail s
  | .gateDrop u old => Sys2Proof.Machine.execGateDrop u old s
  | .reinstate r u => Sys2Proof.Machine.execReinstate r u s
  | .reinstateDone pass => Sys2Proof.Machine.execReinstateDone pass s
  | .substitutionDrainDone n => Sys2Proof.Machine.execSubstitutionDrainDone n s
  | .substitutionRestart c => Sys2Proof.Machine.execSubstitutionRestart c s
  | .echoSend h => Sys2Proof.Machine.execEchoSend h s
  | .echoPeriodCheck h echo wire => Sys2Proof.Machine.execEchoPeriodCheck h echo wire s
  | .echoRx h => Sys2Proof.Machine.execEchoRx h s
  | .custodyClaim h => Sys2Proof.Machine.execCustodyClaim h s
  | .custodyAdvance h e reach => Sys2Proof.Machine.execCustodyAdvance h e reach s
  | .advanceRetry h e reach => Sys2Proof.Machine.execAdvanceRetry h e reach s
  | .commitUnitWrite h => Sys2Proof.Machine.execCommitUnitWrite h s
  | .custodyReconcile host => Sys2Proof.Machine.execCustodyReconcile host s
  | .snpFire r => Sys2Proof.Machine.execSnpFire r s
  | .snapInEdge => Sys2Proof.Machine.execSnapInEdge s
  | .snapDeliver => Sys2Proof.Machine.execSnapDeliver s
  | .snpRelease r => Sys2Proof.Machine.execSnpRelease r s
  | .wearHour cycles hot ages => Sys2Proof.Machine.execWearHour cycles hot ages s
  | .powerOnReset => Sys2Proof.Machine.execPowerOnReset s
  | .resetN => Sys2Proof.Machine.execResetN s
  | .softwareDeviceReset r stest stestDram key => Sys2Proof.Machine.execSoftwareDeviceReset r stest stestDram key s
  | .resetRelease straps => Sys2Proof.Machine.execResetRelease straps s
  | .fwBootFlash dirA dirB primary golden => Sys2Proof.Machine.execFwBootFlash dirA dirB primary golden s
  | .fwLoadGo r => Sys2Proof.Machine.execFwLoadGo r s
  | .fwVerifyDone => Sys2Proof.Machine.execFwVerifyDone s
  | .fwEastVerifyDone copy => Sys2Proof.Machine.execFwEastVerifyDone copy s
  | .selftestDone t => Sys2Proof.Machine.execSelftestDone t s
  | .selftestRefclkTimeout => Sys2Proof.Machine.execSelftestRefclkTimeout s
  | .fuseArm r field => Sys2Proof.Machine.execFuseArm r field s
  | .fuseArmLapse => Sys2Proof.Machine.execFuseArmLapse s
  | .fuseProgram r volt verified => Sys2Proof.Machine.execFuseProgram r volt verified s
  | .attestReq r => Sys2Proof.Machine.execAttestReq r s
  | .attestDone unstable => Sys2Proof.Machine.execAttestDone unstable s
  | .avsStep target ack => Sys2Proof.Machine.execAvsStep target ack s
  | .hjelzLineReset => Sys2Proof.Machine.execHjelzLineReset s
  | .hjelzRead h slow => Sys2Proof.Machine.execHjelzRead h slow s
  | .hjelzWrite h => Sys2Proof.Machine.execHjelzWrite h s
  | .hjelzWriteData data crc slow => Sys2Proof.Machine.execHjelzWriteData data crc slow s
  | .hjelzAccessTimeout => Sys2Proof.Machine.execHjelzAccessTimeout s
  | .hjelzPacketGap => Sys2Proof.Machine.execHjelzPacketGap s
  | .challenge => Sys2Proof.Machine.execChallenge s
  | .verify => Sys2Proof.Machine.execVerify s
  | .authVerifyDone => Sys2Proof.Machine.execAuthVerifyDone s
  | .logout => Sys2Proof.Machine.execLogout s
  | .dbgHalt n => Sys2Proof.Machine.execDbgHalt n s
  | .dbgResume n => Sys2Proof.Machine.execDbgResume n s
  | .dbgStep n => Sys2Proof.Machine.execDbgStep n s
  | .dbgForce n => Sys2Proof.Machine.execDbgForce n s
  | .monitorEntry n w => Sys2Proof.Machine.execMonitorEntry n w s
  | .debugLockDefer n => Sys2Proof.Machine.execDebugLockDefer n s
  | .stimulusWrite r n off size v => Sys2Proof.Machine.execStimulusWrite r n off size v s
  | .traceClr r h => Sys2Proof.Machine.execTraceClr r h s
  | .pinFuncWrite r p v => Sys2Proof.Machine.execPinFuncWrite r p v s
  | .pinSwitchComplete p => Sys2Proof.Machine.execPinSwitchComplete p s
  | .gppHoldWrite r on => Sys2Proof.Machine.execGppHoldWrite r on s
  | .vccioLevelChange k level => Sys2Proof.Machine.execVccioLevelChange k level s
  | .adcConvert ch uv err => Sys2Proof.Machine.execAdcConvert ch uv err s
  | .d3hotExit => Sys2Proof.Machine.execD3hotExit s
  | .ppsOutEnd => Sys2Proof.Machine.execPpsOutEnd s
  | .snapOutEnd => Sys2Proof.Machine.execSnapOutEnd s
  | .hostConfigReady => Sys2Proof.Machine.execHostConfigReady s
  | .pcsBlockLockChange p lock => Sys2Proof.Machine.execPcsBlockLockChange p lock s
  | .hjelzHeaderRefused h => Sys2Proof.Machine.execHjelzHeaderRefused h s
  | .dramRefresh n bank busy mr4 => Sys2Proof.Machine.execDramRefresh n bank busy mr4 s
  | .regionalLineEdge lines pads driven => Sys2Proof.Machine.execRegionalLineEdge lines pads driven s
  | .vccChValid => Sys2Proof.Machine.execVccChValid s

end Sys2Proof.Machine
end

