-- ==== Sys2Proof/Machine/Idle.lean ====
section
/-! DEFINITION. What the block does when no command waits: one tick of TCLK passes (R24, R386), and each port's supervisor side takes one
time stamp from its queue (R400). -/

namespace Sys2Proof.Machine

/-- The supervisors take one entry of each port's time-stamp queue. -/
def State.takeStamps (s : State) : State := s.each (List.range 4) (fun s p => s.takeStamp p)

/-- One tick without a command; nothing moves while the device is in POR. -/
def State.idle (s : State) : State := if s.por then s else ((s.elapse 1).copyMoves).takeStamps

end Sys2Proof.Machine
end

