-- ==== Sys2Proof/Safety.lean ====
section
/-! DEFINITION. What claims say of states and steps: a step that answers a next state, what a command leaves unchanged, and the canonical
form of the state's tables and memories, which makes equal contents equal data. -/

namespace Sys2Proof.Machine

/-- A step answers a next state. -/
def Runs (s : State) : Prop := ∃ t, step s = .next t

/-- Every register field of t but the named ones reads as in s. -/
def State.keepsRegs (s t : State) (fs : List Fld) : Prop := ∀ g : Fld, g.key ∉ fs.map Fld.key → t.rd g = s.rd g

/-- t is s but for the named register fields: no memory, queue, table or other register has changed. -/
def State.onlyRegs (s t : State) (fs : List Fld) : Prop := t = { s with regs := t.regs } ∧ s.keepsRegs t fs

/-- The tables and memories that hold data are in canonical form. -/
def State.canonical (s : State) : Bool :=
  Memory.wf s.bankMem && Memory.wf s.dram && Memory.wf s.tsets && Memory.wf s.lmaps && Memory.wf s.fsets &&
  Table.wf (0 : Entry) s.seqMem && Table.wf false s.seqUnread && Table.wf none s.scr &&
  Table.wf 0 s.bus && Table.wf none s.holds && Table.wf none s.routes

end Sys2Proof.Machine
end

