-- ==== Sys2Proof/Certificates/Slice0/Obligations.lean ====
section
/-! DEFINITION. The statements for the provers, one definition each; OBLIGATIONS.json lists them with the rules they rest on. -/

open Sys2Proof Sys2Proof.Machine

/-- Reading the low word of a register pair latches its high word for the requester; reading the high word returns the
latch. For every requester that may read a register pair, named by the offset that its own BAR gives it (PAIR_LO_READ,
PAIR_HI_READ, R10), the pairs of TMB_NOW apart, whose reads latch the time: reading the low word answers the low word,
latches the high word for that requester and for no other, and changes no register; reading the high word answers that
requester's latch and changes nothing but the answer. -/
def Obligations.PairReadReturnsLatchedHighWord : Prop :=
  ∀ (s : State) (r : Req) (a : RegWord) (off : Nat) (p : RegAt),
    barOff r (4 * a.val) = off → s.por = false → regAt (off) = some p → p.def_.wide = true → s.mayRead r (off) = true →
    ¬ (0x1C00008 ≤ off ∧ off < 0x1C00018) →
    (off = p.addr → ∃ t, exec (.pairLoRead r a) s = .next t ∧
      Table.get 0 t.bus (reqCode r) = s.loadReg p.def_ p.addr 0 32 ∧
      (t.latch r).rdHi = s.loadReg p.def_ p.addr 32 32 ∧ (t.latch r).wrLo = (s.latch r).wrLo ∧
      (∀ q, q ≠ r → t.latch q = s.latch q) ∧ t = { s with latches := t.latches, bus := t.bus }) ∧
    (off ≠ p.addr → ∃ t, exec (.pairHiRead r a) s = .next t ∧
      Table.get 0 t.bus (reqCode r) = (s.latch r).rdHi ∧ t = { s with bus := t.bus })

/-- Writing the low word of a pair only fills the requester's latch; writing the high word commits all 64 bits at once.
For every requester that may write a register pair now (PAIR_LO_WRITE, PAIR_HI_WRITE, R10), the read-only pair
DMC_EADDR apart: a low-word write changes nothing but that requester's latch. A high-word write takes the latched low
word, or the low word the register holds where none is latched, empties the latch, gives every RW field its bits of
the 64-bit value at once and leaves every RO field and every other register as it was. The two pairs whose high-word
write has a check of its own (GLB_ECLK_FW, TMB_INC) are stated apart for the high word. -/
def Obligations.PairWriteCommitsAllBits : Prop :=
  ∀ (s : State) (r : Req) (a : RegWord) (v : Word32) (off : Nat) (p : RegAt),
    barOff r (4 * a.val) = off → s.por = false → regAt (off) = some p → p.def_.wide = true → s.mayWriteAt r (off) = true →
    s.pairOpen p = true → p.def_.name ≠ .DMC_EADDR →
    (off = p.addr → ∃ t, exec (.pairLoWrite r a v) s = .next t ∧
      (t.latch r).wrLo = some v.toNat ∧ (t.latch r).rdHi = (s.latch r).rdHi ∧
      (∀ q, q ≠ r → t.latch q = s.latch q) ∧ t = { s with latches := t.latches }) ∧
    (off ≠ p.addr → p.def_.name ≠ .GLB_ECLK_FW → p.def_.name ≠ .TMB_INC →
      ∃ t, exec (.pairHiWrite r a v) s = .next t ∧ (t.latch r).wrLo = none ∧
      (∀ f ∈ p.def_.fields, f.acc = .rw → t.rd (f.fld p.addr) =
        bits ((s.latch r).wrLo.getD (s.loadReg p.def_ p.addr 0 32) + 2 ^ 32 * v.toNat) f.lo f.w) ∧
      (∀ f ∈ p.def_.fields, f.acc = .ro → t.rd (f.fld p.addr) = s.rd (f.fld p.addr)) ∧
      t = { s with regs := t.regs, latches := t.latches } ∧
      s.keepsRegs t (p.def_.fields.map (fun f => f.fld p.addr)))

/-- Registers of one word that have no rule of their own for a write. -/
def plainRegs : List RegName :=
  [.HIF_FN_STAT, .ENG_FLAG, .ENG_WDOG, .ENG_ERR, .ENG_PERF, .VSW_ERR, .FPU_SPX_CTL, .FPU_SPX_RET, .CHN_STAT, .CHN_CAL_CTL,
   .FPU_CAP_CFG, .FPU_CAP_STAT, .BNK_COP_CTL, .BNK_ERR, .CFG_DONE, .CFG_PRN_CTL, .NOC_TMO, .NOC_ERR, .TMB_STAT,
   .TMB_STEP_NS, .TMB_SRV_CFG, .TMB_PPS, .TMB_PTP_CFG, .TMB_EVF_CFG, .TMB_TRK_CFG, .TMB_TRK_LAT, .TMB_TRK_ASYM, .SUP_STAT,
   .SUP_UNIT_STAT, .SEC_ATT_NONCE, .SEC_PROG_DATA, .DBG_CFG, .DBG_ENG_STIM, .DBG_CMP_A, .DBG_CMP_B, .DBG_TRC_WIN]

/-- A write of a register without a rule of its own acts field by field by access type and touches nothing else. For every
requester that may write it and every register of one word in the blocks SUP, CHN, NOC, SNP, ENG and FPU that has no
rule of its own (REGISTER_WRITE, R11): an RW field takes its bits of the value (a reserved encoding reads back as
written, R9), a W1C field loses the bits written 1, a W1S field gains them, RO and RC fields stay, and no other
register, memory or queue changes. -/
def Obligations.PlainWriteFollowsAccessTypes : Prop :=
  ∀ (s : State) (r : Req) (a : RegWord) (v : Word32) (off : Nat) (p : RegAt),
    barOff r (4 * a.val) = off → s.por = false → regAt (off) = some p → p.def_.wide = false → s.mayWriteAt r (off) = true →
    p.def_.name ∈ plainRegs →
    ∃ t, exec (.registerWrite r a v) s = .next t ∧
      (∀ f ∈ p.def_.fields, t.rd (f.fld p.addr) =
        match f.acc with
        | .rw | .wo => bits v.toNat f.lo f.w
        | .w1c => s.rd (f.fld p.addr) &&& (2 ^ f.w - 1 - bits v.toNat f.lo f.w)
        | .w1s => (s.rd (f.fld p.addr) ||| bits v.toNat f.lo f.w) % 2 ^ f.w
        | .ro | .rc => s.rd (f.fld p.addr)) ∧
      s.onlyRegs t (p.def_.fields.map (fun f => f.fld p.addr))

/-- A read of a register answers its value and clears its RC fields alone. For every requester that may read it and every
register of one word of BAR0 but GPP_PIN and GPP_ADC, whose answers follow the pad, and the time registers TMB_NOW
(RC_READ, R11, R12): the answer is the register's value as it was, WO fields as 0; every RC field then holds 0; every
other field, register, memory and queue is as it was. A read by a requester that may not read there answers 0 and
changes nothing else (R36, R444). -/
def Obligations.ReadClearsReadToClearFields : Prop :=
  (∀ (s : State) (r : Req) (a : RegWord) (off : Nat) (p : RegAt),
    barOff r (4 * a.val) = off → s.por = false → regAt (off) = some p → p.def_.wide = false → s.mayRead r (off) = true →
    p.def_.name ∉ [.GPP_PIN, .GPP_ADC, .TMB_NOW_FRAC, .TMB_NOW_NS] →
    ∃ t, exec (.rcRead r a) s = .next t ∧ Table.get 0 t.bus (reqCode r) = s.loadReg p.def_ p.addr 0 32 ∧
      (∀ f ∈ p.def_.fields, f.acc = .rc → t.rd (f.fld p.addr) = 0) ∧
      t = { s with regs := t.regs, bus := t.bus } ∧
      s.keepsRegs t ((p.def_.fields.filter (fun f => f.acc = .rc)).map (fun f => f.fld p.addr))) ∧
  (∀ (s : State) (r : Req) (a : RegWord) (off : Nat),
    barOff r (4 * a.val) = off → s.por = false → isPairLo (off) = false → isPairHi (off) = false → s.mayRead r (off) = false →
    ∃ t, exec (.rcRead r a) s = .next t ∧ Table.get 0 t.bus (reqCode r) = 0 ∧ t = { s with bus := t.bus })

/-- A register write by a requester that may not write there changes nothing. Whatever register a requester names,
GLB_RESET and GLB_FWLOAD apart, which have access rules of their own: while the requester may not write there (R20,
R36, R444, R470) a write of a word, of the low or of the high word of a pair changes no part of the state. The rows
that are writes of one register (BEHAVIOUR_LEVEL_WRITE, ECLK_APPLY, ECLK_APPLY_CANCEL, ENG_MAP_WRITE, TMB_INC_WRITE,
BANK_PWR_WRITE) change nothing either. -/
def Obligations.WritesWithoutAccessChangeNothing : Prop :=
  (∀ (s : State) (r : Req) (a : RegWord) (v : Word32) (off : Nat), barOff r (4 * a.val) = off →
    off ≠ 0x18 → off ≠ 0x20 → s.mayWriteAt r (off) = false →
    exec (.registerWrite r a v) s = .next s ∧ exec (.pairLoWrite r a v) s = .next s ∧
    exec (.pairHiWrite r a v) s = .next s) ∧
  (∀ (s : State) (r : Req), s.mayWrite r .glb = false → ∀ l, exec (.behaviourLevelWrite r l) s = .next s) ∧
  (∀ (s : State) (r : Req) (h : Fin 2), s.mayWrite r .glb (some h.val) = false →
    exec (.eclkApply r h) s = .next s ∧ exec (.eclkApplyCancel r h) s = .next s) ∧
  (∀ (s : State) (r : Req) (n : Fin 104) (le : Fin 128), s.mayWrite r .eng (some (n.val / 52)) = false →
    exec (.engMapWrite r n le) s = .next s) ∧
  (∀ (s : State) (r : Req) (v : BitVec 36), s.mayWrite r .tmb = false → exec (.tmbIncWrite r v) s = .next s) ∧
  (∀ (s : State) (r : Req) (h : Fin 2) (k : Fin 4) (v : Word32), s.mayWrite r .bnk (some h.val) = false →
    exec (.bankPwrWrite r h k v) s = .next s)

/-- A behaviour level is taken only while no context runs; an ECLK APPLY is taken only over a half at rest, and can be
abandoned. For a requester that may write block GLB: BEHAVIOUR_LEVEL_WRITE of a level from 1 to MAX while no context
is enabled sets LEVEL and nothing else, any other leaves the state as it is (R462). ECLK_APPLY over a half whose slots
are all at rest, none being pending, sets APPLY and marks it pending, and touches no other register, so FW, LOCKED and
LOCKLOSS stay; over a busy half it changes nothing (R28). ECLK_APPLY_CANCEL and ECLK_APPLY_TIMEOUT abandon a pending
APPLY of ALIGN_SRC 0b01 or 0b10: APPLY reads 0, ABANDONED is set, the PLL keeps its frequency word; with none such
pending they change nothing. -/
def Obligations.BehaviourLevelAndEclkApplyAnswerTheWriter : Prop :=
  (∀ (s : State) (r : Req) (l : Fin 16), s.mayWrite r .glb = true →
    ((∀ n, n < 64 → s.on (F.HIF_CTX_CFG.EN n) = false) → 1 ≤ l.val → l.val ≤ s.rd F.GLB_BEHAVIOUR.MAX →
      ∃ t, exec (.behaviourLevelWrite r l) s = .next t ∧ t.rd F.GLB_BEHAVIOUR.LEVEL = l.val ∧
        s.onlyRegs t [F.GLB_BEHAVIOUR.LEVEL]) ∧
    ((∃ n, n < 64 ∧ s.on (F.HIF_CTX_CFG.EN n) = true) ∨ l.val = 0 ∨ s.rd F.GLB_BEHAVIOUR.MAX < l.val →
      exec (.behaviourLevelWrite r l) s = .next s)) ∧
  (∀ (s : State) (r : Req) (h : Fin 2), s.mayWrite r .glb (some h.val) = true →
    (s.on (F.GLB_ECLK_CTL.APPLY h) = false → s.halfAtRest h = true →
      ∃ t, exec (.eclkApply r h) s = .next t ∧ t.rd (F.GLB_ECLK_CTL.APPLY h) = 1 ∧ t.applyPending h = true ∧
        (t.clk h).fw = (s.clk h).fw ∧ t = { s with regs := t.regs, clks := t.clks, time := t.time } ∧
        s.keepsRegs t [F.GLB_ECLK_CTL.APPLY h]) ∧
    (s.halfAtRest h = false → exec (.eclkApply r h) s = .next s) ∧
    (s.abandonable h = true → ∃ t, exec (.eclkApplyCancel r h) s = .next t ∧ t.rd (F.GLB_ECLK_CTL.APPLY h) = 0 ∧
      t.rd (F.GLB_ECLK_CTL.ABANDONED h) = 1 ∧ t.applyPending h = false ∧ (t.clk h).fw = (s.clk h).fw ∧
      t = { s with regs := t.regs, clks := t.clks } ∧
      s.keepsRegs t [F.GLB_ECLK_CTL.APPLY h, F.GLB_ECLK_CTL.ABANDONED h]) ∧
    (s.abandonable h = false → exec (.eclkApplyCancel r h) s = .next s)) ∧
  (∀ (s : State) (h : Fin 2),
    (s.abandonable h = true → ∃ t, exec (.eclkApplyTimeout h) s = .next t ∧ t.rd (F.GLB_ECLK_CTL.APPLY h) = 0 ∧
      t.rd (F.GLB_ECLK_CTL.ABANDONED h) = 1 ∧ t.applyPending h = false ∧ (t.clk h).fw = (s.clk h).fw ∧
      t = { s with regs := t.regs, clks := t.clks } ∧
      s.keepsRegs t [F.GLB_ECLK_CTL.APPLY h, F.GLB_ECLK_CTL.ABANDONED h]) ∧
    (s.abandonable h = false → exec (.eclkApplyTimeout h) s = .next s))

/-- At its moment an APPLY loads FW, gates ECLK and pauses the half's channels; the relock ends it; a lock loss is sticky.
ECLK_ALIGN_MOMENT of a pending APPLY whose moment has come (R28, R29): the PLL takes the frequency word of its
register, its modulator is re-seeded, ECLK is gated, LOCKED reads 0 and LOCKLOSS 1 (that a relock shows as a lock lost
is the model's reading, log entry 35), and every channel of the half takes the PAUSE role with no event left: one that
must not drive (R169) is off, the others have applied their policy; the other half's channels stay. ECLK_RELOCK of an
enabled, unlocked PLL with REFCLK present sets LOCKED and ends the gating; where an APPLY's relock ends, none being
pending, APPLY reads 0 and each channel of the half shows RATE_ERR exactly if it is serial and its rate is out of
range (R186). ECLK_LOCK_LOSS sets LOCKLOSS and clears LOCKED and changes nothing else (R27). -/
def Obligations.EclkRealignsPausesAndRelocks : Prop :=
  ∀ (s : State) (h : Fin 2),
    (s.applyPending h = true → s.alignMoment h = true →
      ∃ t, exec (.eclkAlignMoment h) s = .next t ∧ (t.clk h).fw = s.rd (F.GLB_ECLK_FW.FW h) ∧
        (t.clk h).seeds = (s.clk h).seeds + 1 ∧ (t.clk h).gated = true ∧ t.applyPending h = false ∧
        t.rd (F.GLB_ECLK_CTL.LOCKED h) = 0 ∧ t.rd (F.GLB_ECLK_CTL.LOCKLOSS h) = 1 ∧
        (∀ c, c < 256 → (if selH c = h.val then
            (t.chan c).role = 7 ∧ (t.chan c).events = [] ∧
            (if (s.updClk h (fun k => { k with stopped := false })).chanQuiet c = true then
              (t.chan c).dLevel = false ∧ (t.chan c).eLevel = false else (t.chan c).paused = true)
          else t.chan c = s.chan c)) ∧
        t = { s with regs := t.regs, clks := t.clks, time := t.time, chans := t.chans } ∧
        s.keepsRegs t [F.GLB_ECLK_CTL.LOCKED h, F.GLB_ECLK_CTL.LOCKLOSS h]) ∧
    (s.on (F.GLB_ECLK_CTL.EN h) = true → s.on (F.GLB_ECLK_CTL.LOCKED h) = false → (s.clk h).stopped = false →
      s.time.refLost = false →
      ∃ t, exec (.eclkRelock h) s = .next t ∧ t.rd (F.GLB_ECLK_CTL.LOCKED h) = 1 ∧ (t.clk h).gated = false ∧
        (t.clk h).fw = (s.clk h).fw ∧
        ((s.clk h).gated = true → s.applyPending h = false → t.rd (F.GLB_ECLK_CTL.APPLY h) = 0 ∧
          ∀ c, c < 256 → selH c = h.val → t.rd (F.CHN_STAT.RATE_ERR c) =
            (if s.serial c = true ∧ s.rateBad (s.clk h).fw (s.uic c) = true then 1 else 0)) ∧
        ((s.clk h).gated = false → s.keepsRegs t [F.GLB_ECLK_CTL.LOCKED h] ∧ t.chans = s.chans) ∧
        t = { s with regs := t.regs, clks := t.clks, chans := t.chans } ∧
        s.keepsRegs t (F.GLB_ECLK_CTL.LOCKED h :: F.GLB_ECLK_CTL.APPLY h ::
          (chansOf h).map (fun c => F.CHN_STAT.RATE_ERR c))) ∧
    (∃ t, exec (.eclkLockLoss h) s = .next t ∧ t.rd (F.GLB_ECLK_CTL.LOCKLOSS h) = 1 ∧
      t.rd (F.GLB_ECLK_CTL.LOCKED h) = 0 ∧ s.onlyRegs t [F.GLB_ECLK_CTL.LOCKLOSS h, F.GLB_ECLK_CTL.LOCKED h])

/-- A loss of REFCLK stops both PLLs, releases every driver, holds the DRAM and ends running jobs; its return gives the
time back. REFCLK_LOSS while REFCLK is present (R30, R394): both PLLs are stopped, LOCKED reads 0 and LOCKLOSS 1 in
both halves, every channel's drive enable and D are low with no event left (R170), every DRAM interface is held in
self-refresh, REFCLK_LOSS is set, and outside SWINC the timebase state is HOLDOVER. A second loss changes nothing.
REFCLK_RETURN after a loss: REFCLK counts as present again, no DRAM interface is held for it, both timebases hold the
same time and the PLLs stay stopped; without a loss it changes nothing. -/
def Obligations.RefclkLossAndReturn : Prop :=
  (∀ s : State, s.time.refLost = false → ∃ t, exec .refclkLoss s = .next t ∧ t.time.refLost = true ∧
    (∀ h, h < 2 → (t.clk h).stopped = true ∧ t.rd (F.GLB_ECLK_CTL.LOCKED h) = 0 ∧ t.rd (F.GLB_ECLK_CTL.LOCKLOSS h) = 1) ∧
    (∀ c, c < 256 → (t.chan c).eLevel = false ∧ (t.chan c).dLevel = false ∧ (t.chan c).events = []) ∧
    (∀ n, n < 8 → (t.dmc n).refHold = true) ∧ t.rd F.TMB_STAT.REFCLK_LOSS = 1 ∧
    (s.swinc = false → t.rd F.TMB_STAT.STATE = tHoldover) ∧ (s.swinc = true → t.rd F.TMB_STAT.STATE = s.rd F.TMB_STAT.STATE) ∧
    t.seqMem = s.seqMem ∧ t.tsets = s.tsets) ∧
  (∀ s : State, s.time.refLost = true → exec .refclkLoss s = .next s) ∧
  (∀ s : State, s.time.refLost = true → s.holder < 2 → ∃ t, exec .refclkReturn s = .next t ∧ t.time.refLost = false ∧
    (∀ n, n < 8 → (t.dmc n).refHold = false) ∧ t.tbase 0 = t.tbase 1 ∧ t.clks = s.clks ∧
    t.rd F.TMB_STAT.STATE = s.rd F.TMB_STAT.STATE ∧ t.bankMem = s.bankMem ∧ t.engs = s.engs) ∧
  (∀ s : State, s.time.refLost = false → exec .refclkReturn s = .next s)

/-- A block agent takes control actions only from its own hierarchy; a fence runs first and cancels what it must.
AGENT_FENCE, AGENT_RESET, AGENT_CONFIGURE and AGENT_CALIBRATE (R20-R22). From an issuer the agent does not accept, or
before the reset is released, each changes nothing. An accepted action that arrives with others still to come is kept
behind those received, and nothing else changes. Accepted with none to come and none waiting, a reset, configure or
calibrate is executed and leaves no action behind, and nothing but the list of actions may change (that these three
have no further effect of their own is the model's choice, log entry 29). A fence that arrives last empties the
agent's list, reports every waiting configure and calibrate as cancelled, and leaves a fenced slot or channel group
fenced. -/
def Obligations.ControlActionsAreOrderedAndFencesCancel : Prop :=
  ∀ (s : State) (a : Agent) (c : CtlFrom) (more : Bool),
    (s.por = true ∨ s.accepts a c = false →
      exec (.agentFence a c more) s = .next s ∧ exec (.agentReset a c more) s = .next s ∧
      exec (.agentConfigure a c more) s = .next s ∧ exec (.agentCalibrate a c more) s = .next s) ∧
    (s.por = false → s.accepts a c = true →
      (exec (.agentFence a c true) s = .next (s.setActions a (s.actions a ++ [⟨.fence, c⟩])) ∧
       exec (.agentReset a c true) s = .next (s.setActions a (s.actions a ++ [⟨.reset, c⟩])) ∧
       exec (.agentConfigure a c true) s = .next (s.setActions a (s.actions a ++ [⟨.configure, c⟩])) ∧
       exec (.agentCalibrate a c true) s = .next (s.setActions a (s.actions a ++ [⟨.calibrate, c⟩]))) ∧
      (s.actions a = [] →
        (∃ t, exec (.agentReset a c false) s = .next t ∧ (∀ b, t.actions b = s.actions b) ∧ t = { s with agents := t.agents }) ∧
        (∃ t, exec (.agentConfigure a c false) s = .next t ∧ (∀ b, t.actions b = s.actions b) ∧
          t = { s with agents := t.agents }) ∧
        (∃ t, exec (.agentCalibrate a c false) s = .next t ∧ (∀ b, t.actions b = s.actions b) ∧
          t = { s with agents := t.agents })) ∧
      (∃ t, exec (.agentFence a c false) s = .next t ∧ t.actions a = [] ∧
        (∀ y ∈ s.actions a, (y.kind = .configure ∨ y.kind = .calibrate) → (agentKey a, y) ∈ t.reports) ∧
        (∀ n, a = .slot n → t.isFenced n = true) ∧ (∀ g, a = .group g → t.isFenced (104 + g) = true)))

/-- The link goes down without stopping anything; on its return held writes leave in order; resets stop contexts and
functions. R69. LINK_DOWN clears UP and changes nothing else. LINK_UP sets UP, RATE, WIDTH, FLIT (always at 64 GT/s)
and SLOW (below 16 GT/s), sends the held writes that carry the present custody epoch, or none, to host memory in
order, and holds none back. PERST and HOT_RESET: every context reads EN 0, HALTED 0, REASON 3 and keeps no job, every
function reads EN 0, held writes are dropped, the link is down; PERST also ends the answering of configuration
requests. FLR of the PF does the same with the link left as it is; FLR of a VF stops exactly its own function and the
contexts whose FN names it, and leaves EN of every other function and context and the jobs of every other context. -/
def Obligations.HostLinkAndResetsStopWhatTheyMust : Prop :=
  ∀ s : State,
    (∃ t, exec .linkDown s = .next t ∧ t.rd F.HIF_LINK_STAT.UP = 0 ∧ s.onlyRegs t [F.HIF_LINK_STAT.UP]) ∧
    (∀ (rate : Fin 6) (width : Fin 4) (flit : Bool), ∃ t, exec (.linkUp rate width flit) s = .next t ∧
      t.rd F.HIF_LINK_STAT.UP = 1 ∧ t.rd F.HIF_LINK_STAT.RATE = rate.val ∧ t.rd F.HIF_LINK_STAT.WIDTH = 2 ^ width.val ∧
      t.rd F.HIF_LINK_STAT.FLIT = (if flit = true ∨ rate = 5 then 1 else 0) ∧
      t.rd F.HIF_LINK_STAT.SLOW = (if rate.val < 3 then 1 else 0) ∧
      t.out = s.out ++ (s.heldOut.filter (fun w => !w.epoch.any (fun e => e != s.rd F.SUP_CUST_EPOCH.CUR))).map HostSend.what ∧ t.heldOut = [] ∧
      t = { s with regs := t.regs, out := t.out, heldOut := t.heldOut } ∧
      s.keepsRegs t [F.HIF_LINK_STAT.UP, F.HIF_LINK_STAT.RATE, F.HIF_LINK_STAT.WIDTH, F.HIF_LINK_STAT.FLIT,
        F.HIF_LINK_STAT.SLOW, F.SUP_CUST_STALE.STALE]) ∧
    (∃ t, exec .perst s = .next t ∧ t.rd F.HIF_LINK_STAT.UP = 0 ∧ t.hostReady = false ∧ t.heldOut = [] ∧ t.seqMem = s.seqMem ∧
      (∀ n, n < 64 → t.rd (F.HIF_CTX_CFG.EN n) = 0 ∧ t.rd (F.HIF_CTX_CFG.HALTED n) = 0 ∧
        t.rd (F.HIF_CTX_STAT.REASON n) = 3 ∧ (t.ctx n).jobs = []) ∧
      (∀ f, f < 33 → t.rd (F.HIF_FN_CFG.EN f) = 0)) ∧
    (∃ t, exec .hotReset s = .next t ∧ t.rd F.HIF_LINK_STAT.UP = 0 ∧ t.hostReady = s.hostReady ∧ t.heldOut = [] ∧
      (∀ n, n < 64 → t.rd (F.HIF_CTX_CFG.EN n) = 0 ∧ t.rd (F.HIF_CTX_CFG.HALTED n) = 0 ∧
        t.rd (F.HIF_CTX_STAT.REASON n) = 3 ∧ (t.ctx n).jobs = []) ∧
      (∀ f, f < 33 → t.rd (F.HIF_FN_CFG.EN f) = 0)) ∧
    (∃ t, exec (.flr 0) s = .next t ∧ t.rd F.HIF_LINK_STAT.UP = s.rd F.HIF_LINK_STAT.UP ∧ t.heldOut = [] ∧
      (∀ n, n < 64 → t.rd (F.HIF_CTX_CFG.EN n) = 0 ∧ t.rd (F.HIF_CTX_STAT.REASON n) = 3 ∧ (t.ctx n).jobs = []) ∧
      (∀ f, f < 33 → t.rd (F.HIF_FN_CFG.EN f) = 0)) ∧
    (∀ f : Fin 33, f ≠ 0 → ∃ t, exec (.flr f) s = .next t ∧ t.heldOut = s.heldOut ∧
      (∀ n, n < 64 → if s.ownerFn n = f.val then
          t.rd (F.HIF_CTX_CFG.EN n) = 0 ∧ t.rd (F.HIF_CTX_CFG.HALTED n) = 0 ∧ t.rd (F.HIF_CTX_STAT.REASON n) = 3 ∧
          (t.ctx n).jobs = []
        else t.rd (F.HIF_CTX_CFG.EN n) = s.rd (F.HIF_CTX_CFG.EN n) ∧ (t.ctx n).jobs = (s.ctx n).jobs) ∧
      (∀ g, g < 33 → t.rd (F.HIF_FN_CFG.EN g) = if g = f.val then 0 else s.rd (F.HIF_FN_CFG.EN g)))

/-- Enabling a function empties its event ring; a fresh context starts below SEQBASE; reconciliation adopts the ledger.
FN_ENABLE in service of a function not enabled sets EN and takes the EVCI read as P, B and EVCI (R39), and nothing
else changes. CONTEXT_START_FRESH (R70) in service, EN and RECONCILE being 0: EN 1, HALTED 0, ACCEPTED and COMPLETED
are SEQBASE - 1 (SEQBASE 0 acts as 1), LGEN 0, no job is kept, and both the mirror of the lantern holder's half and,
with the link up and nothing held, the host ledger hold that entry. CONTEXT_DISABLE (R69) clears EN and HALTED and
keeps no job. CONTEXT_RECONCILE (R71) of a context with RECONCILE set and a ledger entry whose check is good: EN 1,
ACCEPTED as in the entry, COMPLETED moved over the completion records found in the ring, LGEN one more, and one job
for every sequence number left between them, in order. -/
def Obligations.FunctionsAndContextsStartAsTheirRulesSay : Prop :=
  ∀ s : State,
    (∀ (f : Fin 33) (evci : Word32), s.inService = true → s.on (F.HIF_FN_CFG.EN f) = false →
      ∃ t, exec (.fnEnable f evci) s = .next t ∧ t.rd (F.HIF_FN_CFG.EN f) = 1 ∧
        t.fn f = { FnSt.reset with p := evci.toNat, b := evci.toNat, evci := evci.toNat } ∧
        (∀ g, g ≠ f.val → t.fn g = s.fn g) ∧ t = { s with regs := t.regs, fns := t.fns } ∧
        s.keepsRegs t [F.HIF_FN_CFG.EN f]) ∧
    (∀ n : Fin 64, s.inService = true → s.served = true → s.on (F.HIF_CTX_CFG.EN n) = false →
      s.on (F.HIF_CTX_CFG.RECONCILE n) = false → s.holder < 2 →
      ∃ t, exec (.contextStartFresh n) s = .next t ∧ t.rd (F.HIF_CTX_CFG.EN n) = 1 ∧ t.rd (F.HIF_CTX_CFG.HALTED n) = 0 ∧
        t.rd (F.HIF_CTX_ACC.ACC n) = (s.seqBase n - 1) % 2 ^ 64 ∧ t.rd (F.HIF_CTX_CMP.CMP n) = (s.seqBase n - 1) % 2 ^ 64 ∧
        t.ctx n = CtxSt.reset ∧
        t.bankRead s.holder (mirrorAddr n) 32 =
          ledgerWord ((s.seqBase n - 1) % 2 ^ 64) ((s.seqBase n - 1) % 2 ^ 64) 0 (s.sup s.holder).epoch % 256 ^ 32 ∧
        (s.linkUp = true → s.heldOut = [] → (s.sup s.holder).epoch = s.rd F.SUP_CUST_EPOCH.CUR →
          t.out = s.out ++ [.write (s.ledgerAddr n) 32
            (ledgerWord ((s.seqBase n - 1) % 2 ^ 64) ((s.seqBase n - 1) % 2 ^ 64) 0 (s.sup s.holder).epoch)])) ∧
    (∀ n : Fin 64, ∃ t, exec (.contextDisable n) s = .next t ∧ t.rd (F.HIF_CTX_CFG.EN n) = 0 ∧
      t.rd (F.HIF_CTX_CFG.HALTED n) = 0 ∧ t.ctx n = CtxSt.reset ∧
      t.rd (F.HIF_CTX_ACC.ACC n) = s.rd (F.HIF_CTX_ACC.ACC n) ∧ t.out = s.out) ∧
    (∀ (n : Fin 64) (entry : BitVec 256) (db : Word64) (sq : List Desc) (cq : List (BitVec 256)),
      s.inService = true → s.served = true → s.on (F.HIF_CTX_CFG.EN n) = false → s.on (F.HIF_CTX_CFG.RECONCILE n) = true →
      ledgerOk entry.toNat = true →
      ∃ t, exec (.contextReconcile n entry db sq cq) s = .next t ∧ t.rd (F.HIF_CTX_CFG.EN n) = 1 ∧
        t.rd (F.HIF_CTX_ACC.ACC n) = bits entry.toNat 0 64 ∧
        t.rd (F.HIF_CTX_CMP.CMP n) = scanCq cq (s.ringN n) (bits entry.toNat 0 64)
          (bits entry.toNat 0 64 - bits entry.toNat 64 64) (bits entry.toNat 64 64) ∧
        (t.ctx n).lgen = (bits entry.toNat 128 32 + 1) % 2 ^ 32 ∧
        (t.ctx n).jobs.map Job.seq = (List.range (t.rd (F.HIF_CTX_ACC.ACC n) - t.rd (F.HIF_CTX_CMP.CMP n))).map
          (fun i => t.rd (F.HIF_CTX_CMP.CMP n) + 1 + i))

/-- A doorbell with the right GEN makes its descriptors due; only the next sequence number is accepted, and the ledger
shows it. R44-R48, R56-R58, R66. DOORBELL_POLL of a function that polls, with one flagged record of a live context:
with the context's GEN and at most N descriptors outstanding it takes PI and puts the due number of descriptors, at
most 16, at the head of the fetches; with another GEN it sets DB_STALE and keeps PI. It always takes the EVCI read.
DOORBELL_FULL_SCAN does the same after 64 polls, and restarts their count. DESCRIPTOR_ACCEPT of the descriptor due for
a context that is served and has no reconciliation open (R71): the next sequence number joins the batch with the
outcome of its checks; another one ends the fetches, joins nothing, and the sixteenth in a row halts the context with
REASON 1. ACCEPT_BATCH moves the batch to the accepted jobs and raises ACCEPTED by its length. ACCEPT_READBACK_DONE
permits every accepted job and writes no register. -/
def Obligations.DoorbellsFetchAndAcceptInSequence : Prop :=
  ∀ s : State,
    (∀ (f : Fin 33) (summary : Word64) (evci : Word32) (n : Fin 64) (w : Word64), s.polls f = true →
      bit summary.toNat n = true → s.dbServed f n = true →
      ∃ t, exec (.doorbellPoll f summary evci [(n, w)]) s = .next t ∧ (t.fn f).evci = evci.toNat ∧
        (t.fn f).polls = (s.fn f).polls + 1 ∧
        (bits w.toNat 32 16 = s.rd (F.HIF_CTX_GEN.GEN n) →
          (w.toNat % 2 ^ 32 + 2 ^ 33 - 1 - s.rd (F.HIF_CTX_CMP.CMP n) % 2 ^ 32) % 2 ^ 32 ≤ s.ringN n →
          (t.ctx n).pi = w.toNat % 2 ^ 32 ∧
          (t.fn f).fetchQ = (if t.toFetch n = 0 then [] else [(n.val, t.toFetch n)]) ∧ t.toFetch n ≤ 16) ∧
        (bits w.toNat 32 16 ≠ s.rd (F.HIF_CTX_GEN.GEN n) →
          t.rd (F.HIF_FN_STAT.DB_STALE f) = 1 ∧ (t.ctx n).pi = (s.ctx n).pi ∧ (t.fn f).fetchQ = [])) ∧
    (∀ (f : Fin 33) (n : Fin 64) (w : Word64), s.polls f = true → 64 ≤ (s.fn f).polls → s.dbServed f n = true →
      bits w.toNat 32 16 = s.rd (F.HIF_CTX_GEN.GEN n) →
      (w.toNat % 2 ^ 32 + 2 ^ 33 - 1 - s.rd (F.HIF_CTX_CMP.CMP n) % 2 ^ 32) % 2 ^ 32 ≤ s.ringN n →
      ∃ t, exec (.doorbellFullScan f [(n, w)]) s = .next t ∧ (t.fn f).polls = 0 ∧ (t.ctx n).pi = w.toNat % 2 ^ 32 ∧
        (t.fn f).fetchQ = (if t.toFetch n = 0 then [] else [(n.val, t.toFetch n)]) ∧
        t = { s with fns := t.fns, ctxs := t.ctxs }) ∧
    (∀ (n : Fin 64) (d : Desc) (k : Nat) (rest : List (Nat × Nat)), s.takesNew n = true →
      (s.fn (s.ownerFn n)).fetchQ = (n.val, k) :: rest →
      (dSeq d = s.rd (F.HIF_CTX_ACC.ACC n) + (s.ctx n).batch.length + 1 →
        ∃ t, exec (.descriptorAccept n d) s = .next t ∧ (t.ctx n).mism = 0 ∧
          (t.ctx n).batch = (s.ctx n).batch ++ [Job.fresh (dSeq d) d (checkDesc (s.ownerFn n) d)] ∧
          (t.fn (s.ownerFn n)).fetchQ = (if k ≤ 1 then rest else (n.val, k - 1) :: rest) ∧
          t = { s with fns := t.fns, ctxs := t.ctxs }) ∧
      (dSeq d ≠ s.rd (F.HIF_CTX_ACC.ACC n) + (s.ctx n).batch.length + 1 →
        ∃ t, exec (.descriptorAccept n d) s = .next t ∧
          ((s.ctx n).mism < 15 → (t.ctx n).mism = (s.ctx n).mism + 1 ∧ (t.ctx n).batch = (s.ctx n).batch ∧
            (t.fn (s.ownerFn n)).fetchQ = rest ∧ t = { s with fns := t.fns, ctxs := t.ctxs }) ∧
          (15 ≤ (s.ctx n).mism → t.rd (F.HIF_CTX_CFG.HALTED n) = 1 ∧ t.rd (F.HIF_CTX_STAT.REASON n) = 1))) ∧
    (∀ n : Fin 64, s.takesNew n = true → (s.ctx n).batch ≠ [] → (s.ctx n).jobs.all (·.permitted) = true →
      ∃ t, exec (.acceptBatch n) s = .next t ∧ (t.ctx n).batch = [] ∧ (t.ctx n).jobs = (s.ctx n).jobs ++ (s.ctx n).batch ∧
        t.rd (F.HIF_CTX_ACC.ACC n) = (s.rd (F.HIF_CTX_ACC.ACC n) + (s.ctx n).batch.length) % 2 ^ 64 ∧
        t.rd (F.HIF_CTX_CMP.CMP n) = s.rd (F.HIF_CTX_CMP.CMP n)) ∧
    (∀ n : Fin 64, s.ringUp n = true → ∃ t, exec (.acceptReadbackDone n) s = .next t ∧
      (t.ctx n).jobs.map Job.seq = (s.ctx n).jobs.map Job.seq ∧ (∀ j ∈ (t.ctx n).jobs, j.permitted = true) ∧
      (∀ m, m ≠ n.val → t.ctx m = s.ctx m) ∧ t = { s with ctxs := t.ctxs })

/-- The front job is dispatched once its descriptor still matches; a PATTERN sets up each of its engines; a NOP completes.
JOB_DISPATCH (R58, R59) of the front job of a served context that is permitted, not rejected, aborted or held, no
control descriptor, with no control action due, no copy of the sequence memory, no APPLY pending and ECLK running in
both halves: if the descriptor read again has the CRC it had, the job is dispatched (it carries HOLDOVER when the
timebase is in HOLDOVER); otherwise it is to complete REJECTED with SLOT_CHANGED. Only the context's record changes.
PATTERN (R51) of a dispatched job with every engine available and idle, every channel in service, its capture regions
and result area in range, nothing armed for debug and no start time: the job runs, and every slot that holds one of
its logical engines belongs to its context, starts at SEQ_ADDR with an empty stack and cycle count 0, and is in
PRELOAD when a slot of its gang has PRELOAD set (R82, R102), in RUN otherwise. A PATTERN on a missing engine, a fenced
one for which no spare comes, or a fenced channel is to complete FENCED_TARGET. NOP (R50) of a dispatched job makes it
ready to complete OK. -/
def Obligations.JobsDispatchPatternsStartTheirEngines : Prop :=
  ∀ (s : State) (n : Fin 64),
    (∀ (j : Job) (d : Desc), s.front n = some j → s.ringUp n = true → j.phase = .queued → j.permitted = true → j.reject = 0 →
      j.aborted = false → j.held = false → isCtl (dType j.desc) = false → (s.ctx n).jobs.any (·.ctlDue) = false →
      s.on F.ENG_SEQ_CTL.BUSY = false → (∀ h, h < 2 → s.eclkWaits h = false) →
      ∃ t, exec (.jobDispatch n d) s = .next t ∧ t = { s with ctxs := t.ctxs } ∧ (∀ m, m ≠ n.val → t.ctx m = s.ctx m) ∧
        (crc32c 64 d.toNat = j.crc → t.front n = some (if s.rd F.TMB_STAT.STATE = tHoldover
          then { j with phase := .dispatched, flags := j.flags ||| 4 } else { j with phase := .dispatched })) ∧
        (crc32c 64 d.toNat ≠ j.crc → j.status = none →
          t.front n = some { j with phase := .done, status := some 0x20, detail := 5 })) ∧
    (∀ j : Job, s.atWork n 2 .dispatched = some j → dStartAt j.desc = false →
      (∀ le ∈ jobLes j.desc, ∃ m, s.slotOf le = some m ∧ s.slotState m = stIdle ∧ s.on (F.DBG_ENG_STAT.ARMED m) = false ∧
        s.capBad m le = false) →
      (∀ c ∈ s.chansOfLes (jobLes j.desc), s.on (F.CHN_STAT.FENCED c) = false ∧ s.on (F.CHN_STAT.RATE_ERR c) = false) →
      dLeFirst j.desc % 2 ^ dGang j.desc = 0 → dLeCount j.desc % 2 ^ dGang j.desc = 0 →
      s.patternWaits j.desc = false → resReserved j.desc = false →
      64 + 32 * ((s.chansOfLes (jobLes j.desc)).length + (jobLes j.desc).length) ≤ dResSize j.desc →
      ∃ t, exec (.pattern n) s = .next t ∧ (∃ k, t.front n = some k ∧ k.phase = .running ∧ k.seq = j.seq ∧ k.status = j.status) ∧
        (∀ le ∈ jobLes j.desc, ∀ m, s.slotOf le = some m → (t.eng m).ctx = some n.val ∧ (t.eng m).lfsr = 1 ∧
          t.rd (F.ENG_STAT.PC m) = dSeqAddr j.desc ∧ t.rd (F.ENG_STAT.SP m) = 0 ∧ t.rd (F.ENG_CYC.CYC m) = 0 ∧
          ((∃ le2 ∈ jobLes j.desc, ∃ m2, le2 / 2 ^ dGang j.desc = le / 2 ^ dGang j.desc ∧ s.slotOf le2 = some m2 ∧
              s.on (F.ENG_CTL.PRELOAD m2) = true) → t.rd (F.ENG_STAT.STATE m) = stPreload) ∧
          ((∀ le2 ∈ jobLes j.desc, ∀ m2, le2 / 2 ^ dGang j.desc = le / 2 ^ dGang j.desc → s.slotOf le2 = some m2 →
              s.on (F.ENG_CTL.PRELOAD m2) = false) → t.rd (F.ENG_STAT.STATE m) = stRun))) ∧
    (∀ j : Job, s.atWork n 2 .dispatched = some j → j.status = none →
      ((∃ le ∈ jobLes j.desc, s.slotOf le = none) ∨ (∃ c ∈ s.chansOfLes (jobLes j.desc), s.on (F.CHN_STAT.FENCED c) = true) ∨
        (∃ le ∈ jobLes j.desc, ∃ m, s.slotOf le = some m ∧ s.slotState m = stFenced ∧ s.spareComes m = false)) →
      ∃ t, exec (.pattern n) s = .next t ∧ t.front n = some { j with phase := .done, status := some 0x21, detail := 0 } ∧
        t = { s with ctxs := t.ctxs }) ∧
    (∀ j : Job, s.atWork n 4 .dispatched = some j → j.status = none →
      ∃ t, exec (.nop n) s = .next t ∧ t.front n = some { j with phase := .done, status := some 0, detail := 0 } ∧
        (∀ m, m ≠ n.val → t.ctx m = s.ctx m) ∧ t = { s with ctxs := t.ctxs })

/-- A SETUP writes its image into the table it names when the target is idle, and waits, writing nothing, when it is not.
For a dispatched SETUP job at the front of a live context (R52). SETUP_SEQUENCE_MEMORY into both halves (TABLE 0x03):
every entry of the image stands in both halves at its address. SETUP_TIMING_SETS (R187), SETUP_LANE_MAPS,
SETUP_PIN_FUNCTION_SETS and SETUP_SCRAMBLE_TABLE (R131, R132): if the target is idle its bytes (of a lane map the low
5 bits of each, R127; for the scramble table its words, 24 bits each) are the image's and the job completes OK; if it
is busy no table changes and the job waits. SETUP_VECTOR_SWITCH_SELECTIONS (R134): if old and new sources are idle,
EN, SRC, LANE, ROT, MATCH and SITE of each channel are the image's. SETUP_DEFERRED_WRITE does for a waiting SETUP what
the row itself would, once its target is idle. SETUP_REGISTER_IMAGE executes its pairs in order as writes of the PF
and completes OK unless one is beyond the grade (REJECTED, GRADE_LIMIT) or refused (REJECTED). -/
def Obligations.SetupJobsWriteTheirTables : Prop :=
  ∀ (s : State) (n : Fin 64) (img : Nat) (j : Job), j.status = none →
    (s.setupAt n .dispatched [1, 2, 3] = some j → dTable j.desc = 3 → dOffset j.desc + dLen j.desc ≤ 0x200000 →
      dOffset j.desc % 16 = 0 →
      ∃ t, exec (.setupSequenceMemory n img) s = .next t ∧
        t.front n = some { j with phase := .done, status := some 0, detail := 0 } ∧
        (∀ i, i < dLen j.desc / 16 → Table.get 0 t.seqMem (dOffset j.desc / 16 + i) = imgEntry img i ∧
          Table.get 0 t.seqMem (0x20000 + dOffset j.desc / 16 + i) = imgEntry img i) ∧
        t = { s with ctxs := t.ctxs, seqMem := t.seqMem, seqUnread := t.seqUnread, engs := t.engs }) ∧
    (s.setupAt n .dispatched [4] = some j →
      (s.chIdle (dInst j.desc) = true → ∃ t, exec (.setupTimingSets n img) s = .next t ∧
        t.front n = some { j with phase := .done, status := some 0, detail := 0 } ∧
        t.tsets = Memory.writeN s.tsets (dInst j.desc * 2048 + dOffset j.desc) (dLen j.desc) img ∧
        t = { s with ctxs := t.ctxs, tsets := t.tsets }) ∧
      (s.chIdle (dInst j.desc) = false → ∃ t, exec (.setupTimingSets n img) s = .next t ∧
        t.front n = some { j with phase := .running } ∧ t = { s with ctxs := t.ctxs })) ∧
    (s.setupAt n .dispatched [5] = some j → s.atRest (dInst j.desc) = true →
      ∃ t, exec (.setupLaneMaps n img) s = .next t ∧ t.front n = some { j with phase := .done, status := some 0, detail := 0 } ∧
        t.lmaps = Memory.writeN s.lmaps (dInst j.desc * 1024 + dOffset j.desc) (dLen j.desc)
          (img &&& 0x1F * ((256 ^ dLen j.desc - 1) / 255)) ∧
        t = { s with ctxs := t.ctxs, lmaps := t.lmaps }) ∧
    (s.setupAt n .dispatched [6] = some j → s.atRest (dInst j.desc) = true →
      ∃ t, exec (.setupPinFunctionSets n img) s = .next t ∧
        t.front n = some { j with phase := .done, status := some 0, detail := 0 } ∧
        t.fsets = Memory.writeN s.fsets (dInst j.desc * 256 + dOffset j.desc) (dLen j.desc) img ∧
        t = { s with ctxs := t.ctxs, fsets := t.fsets }) ∧
    (s.setupAt n .dispatched [7] = some j → s.atRest (dInst j.desc) = true →
      ∃ t, exec (.setupScrambleTable n img) s = .next t ∧
        t.front n = some { j with phase := .done, status := some 0, detail := 0 } ∧
        (∀ i, i < dLen j.desc / 4 → t.scrWord (dInst j.desc) (dOffset j.desc / 4 + i) = imgWord img i % 2 ^ 24) ∧
        t = { s with ctxs := t.ctxs, scr := t.scr }) ∧
    (s.setupAt n .dispatched [8] = some j → s.setupReady j.desc img = true → dInst j.desc < 2 →
      dOffset j.desc + dLen j.desc ≤ 512 → dOffset j.desc % 4 = 0 →
      ∃ t, exec (.setupVectorSwitchSelections n img) s = .next t ∧
        t.front n = some { j with phase := .done, status := some 0, detail := 0 } ∧
        (∀ i, i < dLen j.desc / 4 →
          t.rd (F.VSW_SEL.EN (dInst j.desc) (dOffset j.desc / 4 + i)) = bits (imgWord img i) 31 1 ∧
          t.rd (F.VSW_SEL.SRC (dInst j.desc) (dOffset j.desc / 4 + i)) = bits (imgWord img i) 0 6 ∧
          t.rd (F.VSW_SEL.LANE (dInst j.desc) (dOffset j.desc / 4 + i)) = bits (imgWord img i) 8 5 ∧
          t.rd (F.VSW_SEL.ROT (dInst j.desc) (dOffset j.desc / 4 + i)) = bits (imgWord img i) 16 4 ∧
          t.rd (F.VSW_SEL.MATCH (dInst j.desc) (dOffset j.desc / 4 + i)) = bits (imgWord img i) 23 1 ∧
          t.rd (F.VSW_SEL.SITE (dInst j.desc) (dOffset j.desc / 4 + i)) = bits (imgWord img i) 24 4) ∧
        t = { s with ctxs := t.ctxs, regs := t.regs, chans := t.chans }) ∧
    (s.setupAt n .running [4, 5, 6, 7, 8] = some j → dTable j.desc = 4 → s.chIdle (dInst j.desc) = true →
      ∃ t, exec (.setupDeferredWrite n img) s = .next t ∧
        t.front n = some { j with phase := .done, status := some 0, detail := 0 } ∧
        t.tsets = Memory.writeN s.tsets (dInst j.desc * 2048 + dOffset j.desc) (dLen j.desc) img ∧
        t = { s with ctxs := t.ctxs, tsets := t.tsets }) ∧
    (s.setupAt n .dispatched [9] = some j →
      ∃ t, exec (.setupRegisterImage n img) s = .next t ∧
        t = (s.imagePairs img (List.range (dLen j.desc / 8))).2.finishFront n
          (match (s.imagePairs img (List.range (dLen j.desc / 8))).1 with | .excess => 0x20 | .refused => 0x20 | _ => 0)
          (match (s.imagePairs img (List.range (dLen j.desc / 8))).1 with | .excess => 3 | _ => 0))

/-- CALIBRATE jobs take their instances, measure them by their rules and complete with the status of each. For a
dispatched CALIBRATE job whose results may be written. CALIBRATE_FULL_CHANNEL (R193, R195) of channels in service: the
job runs, no channel has a status, and BUSY reads 1 in every bay that holds one. CALIBRATE_TEMPERATURE_UPDATE (R194)
of at least one channel: the job is ready to complete with one status for each channel in order; an idle channel in
service with a good sensor and no HOLD has the offsets of its record recomputed from its temperature.
CALIBRATE_COMPARE_LATENCY (R144) of one slot at rest with a matching channel, ECLK running and no APPLY pending (R28):
a measured A up to 510 makes LC max(8, A + 2) and the job OK; a larger one or none fails it with CAL_RANGE and leaves
LC. CALIBRATE_DRAM_RETRAIN (R248) of one interface in the interleave and running: a working setting completes OK and
marks the set-points trained with it valid; none sets RETR_FAIL and fails the job. CAL_CHANNEL_BEGIN of the channel
whose turn it is, idle and in service: a path without an edge sets CAL_FAIL and status NO_EDGE; four arrivals in range
and a good sensor give the record their bases and the present temperature. CAL_IDLE_TIMEOUT of a channel still busy
gives it status BUSY. -/
def Obligations.CalibrateJobsMeasureAndReport : Prop :=
  ∀ (s : State) (n : Fin 64),
    (∀ j : Job, s.atWork n 3 .dispatched = some j → resReserved j.desc = false →
      (dKind j.desc = 1 → (∀ c ∈ calItems j.desc, s.calOut c = false) →
        ∃ t, exec (.calibrateFullChannel n) s = .next t ∧ t.front n = some { j with phase := .running, calStat := [] } ∧
          (∀ b, b < 8 → (∃ c ∈ calItems j.desc, bayOfChan c = b) → t.rd (F.CHN_CAL_STAT.BUSY b) = 1) ∧
          t = { s with regs := t.regs, ctxs := t.ctxs } ∧
          s.keepsRegs t ((List.range 8).map (fun b => F.CHN_CAL_STAT.BUSY b))) ∧
      (dKind j.desc = 2 → 0 < dCount j.desc → j.status = none →
        ∃ t k, exec (.calibrateTemperatureUpdate n) s = .next t ∧ t.front n = some k ∧ k.phase = .done ∧
          k.calStat.map Prod.fst = calItems j.desc ∧
          (∀ c ∈ calItems j.desc, s.calOut c = false → s.sensBad (s.calRec c).sens = false →
            s.on (F.CHN_CAL_CTL.HOLD (bayOfChan c)) = false → s.chIdle c = true →
            (t.calRec c).ofs = (s.newOfs c (s.calRec c)).1)) ∧
      (dKind j.desc = 3 → (∀ h, h < 2 → s.eclkWaits h = false) → ∀ m, calItems j.desc = [m] → s.atRest m = true → j.status = none →
        (s.fedBy m).any (fun c => s.selPort c = none && s.on (F.VSW_SEL.MATCH (selH c) (selC c))) = true →
        (∀ a, a ≤ 510 → ∃ t, exec (.calibrateCompareLatency n [some a]) s = .next t ∧
          t.rd (F.ENG_SPEC.LC m) = max 8 (a + 2) ∧ t.front n = some { j with phase := .done, status := some 0, detail := 0 } ∧
          t = { s with regs := t.regs, ctxs := t.ctxs } ∧ s.keepsRegs t [F.ENG_SPEC.LC m]) ∧
        (∀ x : Option Nat, (∀ a, x = some a → 510 < a) → ∃ t, exec (.calibrateCompareLatency n [x]) s = .next t ∧
          t.front n = some { j with phase := .done, status := some 0x12, detail := 0x209 } ∧
          t = { s with ctxs := t.ctxs })) ∧
      (dKind j.desc = 4 → ∀ m, calItems j.desc = [m] → s.on (F.DMC_STAT.IN_INTLV m) = true → j.status = none →
        s.rd (F.DMC_STAT.STATE m) = 2 → (s.dmc m).entering = false →
        (∀ v, ∃ t, exec (.calibrateDramRetrain n [(true, v)]) s = .next t ∧
          t.front n = some { j with phase := .done, status := some 0, detail := 0 } ∧
          (∀ k, k < 3 → bit v k = true → s.rd (F.DMC_FSP.VALID m k) ≤ 1 → t.rd (F.DMC_FSP.VALID m k) = 1)) ∧
        (∀ v, ∃ t, exec (.calibrateDramRetrain n [(false, v)]) s = .next t ∧ t.rd (F.DMC_ERR.RETR_FAIL m) = 1 ∧
          (t.dmc m).noSet = true ∧
          t.front n = some { j with phase := .done, status := some 0x12, detail := 0x20A }))) ∧
    (∀ c : Fin 256, s.calNext n (bayOfChan c) = some c.val →
      (s.chIdle c = true → s.calOut c = false →
        (∀ (sums : List (Option Int)) (sph : Fin 64), (∃ p, p < 4 ∧ sums.getD p none = none) →
          ∃ t k, exec (.calChannelBegin n c sums sph) s = .next t ∧ t.rd (F.CHN_STAT.CAL_FAIL c) = 1 ∧
            t.front n = some k ∧ (c.val, 1) ∈ k.calStat) ∧
        (∀ (a0 a1 a2 a3 : Int) (sph : Fin 64), s.sensBad (s.calRec c).sens = false →
          (∀ a ∈ [a0, a1, a2, a3], 0 ≤ 65536 - roundConv a 4096 ∧ 65536 - roundConv a 4096 < 65536) →
          ∃ t, exec (.calChannelBegin n c [some a0, some a1, some a2, some a3] sph) s = .next t ∧
            (t.calRec c).base = [a0, a1, a2, a3].map (fun a => (65536 - roundConv a 4096).toNat) ∧
            (t.calRec c).tcal = toBits 12 (s.temp (s.calRec c).sens) ∧ (t.calRec c).tc = (s.calRec c).tc ∧
            (s.serial c = true → t.rd (F.CHN_DSK.SPH c) = sph.val))) ∧
      (s.chIdle c = false → ∃ t k, exec (.calIdleTimeout n c) s = .next t ∧ t.front n = some k ∧ (c.val, 4) ∈ k.calStat ∧
        t.calRecs = s.calRecs))

/-- ABORT, PAUSE, RESUME and REARM act on a queued or running job as their rules say and complete OK. For the control
descriptor of a served, live context whose action is due (R60, R61), with a target other than itself. A target still
queued (for PAUSE, RESUME and REARM also one dispatched whose own work has not begun, log entry 35): ABORT marks it to
complete ABORTED, PAUSE holds it, RESUME of a held one lets it go, REARM gives it the new START_TIME; nothing but the
context's record changes. A running PATTERN at the front with no status and an engine not halted: ABORT gives it
ABORTED and every engine of the job that was not stopped is stopped; PAUSE makes every gang leader in RUN, not stopped
and without outstanding branches, PAUSED, and marks one with outstanding branches to pause when they resolve. RESUME
of a paused one: no leader stays PAUSED. A target that no longer exists: NOEFFECT, and nothing else. In every case the
descriptor's action is no longer due and its status is OK. -/
def Obligations.ControlDescriptorsActOnTheirTarget : Prop :=
  ∀ (s : State) (n : Fin 64) (j k : Job), s.jobOf n j.seq = some j → dTarget j.desc ≠ j.seq →
    (s.dueCtl n 0x10 = some j → s.ctlTarget n j = some k → k.phase = .queued →
      ∃ t, exec (.abort n) s = .next t ∧ t.jobOf n k.seq = some { k with aborted := true } ∧
        t.jobOf n j.seq = some { j with ctlDue := false, status := some 0 } ∧ t = { s with ctxs := t.ctxs }) ∧
    (s.dueCtl n 0x10 = some j → s.ctlTarget n j = some k → s.front n = some k → k.phase = .running → dType k.desc = 2 →
      k.restart = false → k.status = none → s.allHalted n = false →
      ∃ t f, exec (.abort n) s = .next t ∧ t.front n = some f ∧ f.status = some 0x10 ∧ f.detail = 0 ∧
        (∀ m, m < 104 → (s.eng m).ctx = some n.val → (t.eng m).stopped = true) ∧
        (∀ m, m < 104 → (s.eng m).ctx ≠ some n.val → t.eng m = s.eng m)) ∧
    (s.dueCtl n 0x10 = some j → s.ctlTarget n j = none →
      ∃ t, exec (.abort n) s = .next t ∧
        t.jobOf n j.seq = some { j with ctlDue := false, status := some 0, flags := j.flags ||| 8 } ∧
        t = { s with ctxs := t.ctxs }) ∧
    (s.dueCtl n 0x11 = some j → s.ctlTarget n j = some k → k.unstarted = true → k.held = false →
      ∃ t, exec (.pause n) s = .next t ∧ t.jobOf n k.seq = some { k with held := true } ∧
        t.jobOf n j.seq = some { j with ctlDue := false, status := some 0 } ∧ t = { s with ctxs := t.ctxs }) ∧
    (s.dueCtl n 0x11 = some j → s.ctlTarget n j = some k → s.front n = some k → k.phase = .running → dType k.desc = 2 →
      k.paused = false → k.status = none → s.allHalted n = false →
      ∃ t f, exec (.pause n) s = .next t ∧ t.front n = some f ∧ f.paused = true ∧
        (∀ m, m < 104 → (s.eng m).ctx = some n.val → (s.eng m).leader = m →
          (s.branchesOut m = true → (t.eng m).pauseReq = true ∧ t.slotState m = s.slotState m) ∧
          (s.branchesOut m = false → s.slotState m = stRun → (s.eng m).halted = false → (s.eng m).stopped = false →
            t.slotState m = stPaused ∧ (t.eng m).resume = stRun))) ∧
    (s.dueCtl n 0x12 = some j → s.ctlTarget n j = some k → k.unstarted = true → k.held = true →
      ∃ t, exec (.resume n) s = .next t ∧ t.jobOf n k.seq = some { k with held := false } ∧
        t.jobOf n j.seq = some { j with ctlDue := false, status := some 0 } ∧ t = { s with ctxs := t.ctxs }) ∧
    (s.dueCtl n 0x12 = some j → s.ctlTarget n j = some k → s.front n = some k → k.phase = .running → k.paused = true →
      ∃ t f, exec (.resume n) s = .next t ∧ t.front n = some f ∧ f.paused = false ∧
        (∀ m, m < 104 → (s.eng m).ctx = some n.val → (s.eng m).leader = m → s.slotState m = stPaused →
          (s.eng m).resume = stRun → t.slotState m = stRun ∧ (t.eng m).wdog = (s.eng m).wdogP)) ∧
    (s.dueCtl n 0x13 = some j → s.ctlTarget n j = some k → k.unstarted = true →
      ∃ t, exec (.rearm n) s = .next t ∧ t.jobOf n k.seq = some { k with start := dStart j.desc } ∧
        t.jobOf n j.seq = some { j with ctlDue := false, status := some 0 } ∧ t = { s with ctxs := t.ctxs })

/-- A commit writes the completion record, then the ledger, and retires the job; a full event ring drops; failed host
reads report. COMPLETION_COMMIT (R66) of a front job that can complete, of a live context under a lantern holder of
the present epoch, with the link up, nothing held, and its results acknowledged (R241): the first thing to leave is
the completion record in the slot of its sequence number with its CRC, the next the ledger entry with COMPLETED at
that number; COMPLETED is that number and the job is gone. EVCI_REREAD (R64) of a function with one record waiting:
without room even now the record is dropped, EV_OVF is set and EV_DROP counts it; with none waiting nothing changes.
HOST_READ_ERROR (R527): a failed page read of an enabled function sets its DMA_ERR and nothing else; a failed
descriptor read of a live context also halts it with REASON 2; a failed read of a SETUP image makes that job ready to
complete RESOURCE_LOST with its DETAIL, the rows that had arrived (shown for timing sets of an idle channel, 32 bytes
each) remaining in force. -/
def Obligations.CompletionsAndEventsReachTheHostInOrder : Prop :=
  ∀ s : State,
    (∀ (n : Fin 64) (j : Job) (st det : Nat), s.front n = some j → j.outcome = some (st, det) → s.served = true →
      s.ctxLive n = true → s.linkUp = true → s.heldOut = [] → (s.sup s.holder).recon = false →
      (dResDev j.desc && s.dramUnacked (dResBase j.desc / 2 ^ 36 % 2) (dResBase j.desc % 2 ^ 36) (dResSize j.desc)) = false →
      (s.sup s.holder).epoch = s.rd F.SUP_CUST_EPOCH.CUR →
      ∃ t, exec (.completionCommit n) s = .next t ∧ t.rd (F.HIF_CTX_CMP.CMP n) = j.seq % 2 ^ 64 ∧
        (t.ctx n).jobs = (s.ctx n).jobs.tail ∧
        (s.out ++ [.write (s.cqAddr n + 32 * (j.seq % s.ringN n)) 32 (completionRecord j st det),
          .write (s.ledgerAddr n) 32 (ledgerWord (s.rd (F.HIF_CTX_ACC.ACC n)) (j.seq % 2 ^ 64) (s.ctx n).lgen
            (s.sup s.holder).epoch)]) <+: t.out ∧
        (∀ m, m ≠ n.val → t.ctx m = s.ctx m) ∧ t.engs = s.engs ∧ t.seqMem = s.seqMem) ∧
    (∀ (f : Fin 33) (evci : Word32) (e : EvRec), (s.fn f).waiting = [e] → (s.fn f).dropped = 0 →
      s.evSize f - 1 ≤ ((s.fn f).p + 2 ^ 32 - evci.toNat) % 2 ^ 32 →
      ∃ t, exec (.evciReread f evci) s = .next t ∧ (t.fn f).waiting = [] ∧ (t.fn f).dropped = 1 ∧ (t.fn f).p = (s.fn f).p ∧
        t.rd (F.HIF_FN_STAT.EV_OVF f) = 1 ∧
        t.rd (F.HIF_FN_STAT.EV_DROP f) = min (2 ^ 16 - 1) (s.rd (F.HIF_FN_STAT.EV_DROP f) + 1) ∧
        t = { s with regs := t.regs, fns := t.fns } ∧ s.keepsRegs t [F.HIF_FN_STAT.EV_OVF f, F.HIF_FN_STAT.EV_DROP f]) ∧
    (∀ (f : Fin 33) (evci : Word32), (s.fn f).waiting = [] → exec (.evciReread f evci) s = .next s) ∧
    (∀ f : Fin 33, s.on (F.HIF_FN_CFG.EN f) = true → ∃ t, exec (.hostReadError (.page f)) s = .next t ∧
      t.rd (F.HIF_FN_STAT.DMA_ERR f) = 1 ∧ s.onlyRegs t [F.HIF_FN_STAT.DMA_ERR f]) ∧
    (∀ n : Fin 64, s.on (F.HIF_CTX_CFG.EN n) = true → s.on (F.HIF_CTX_CFG.HALTED n) = false →
      ∃ t, exec (.hostReadError (.descriptor n)) s = .next t ∧ t.rd (F.HIF_FN_STAT.DMA_ERR (s.ownerFn n)) = 1 ∧
        t.rd (F.HIF_CTX_CFG.HALTED n) = 1 ∧ t.rd (F.HIF_CTX_STAT.REASON n) = 2 ∧ (t.ctx n).jobs = []) ∧
    (∀ (n : Fin 64) (j : Job), s.atWork n 1 .dispatched = some j → j.status = none →
      (∀ img, ∃ t, exec (.hostReadError (.setupImage n 0 img)) s = .next t ∧ t.rd (F.HIF_FN_STAT.DMA_ERR (s.ownerFn n)) = 1 ∧
        t.front n = some { j with phase := .done, status := some 0x12, detail := 0x20F } ∧
        t = { s with regs := t.regs, ctxs := t.ctxs } ∧ s.keepsRegs t [F.HIF_FN_STAT.DMA_ERR (s.ownerFn n)]) ∧
      (∀ rows img, dTable j.desc = 4 → s.chIdle (dInst j.desc) = true →
        ∃ t, exec (.hostReadError (.setupImage n rows img)) s = .next t ∧
          t.front n = some { j with phase := .done, status := some 0x12, detail := 0x20F } ∧
          t.tsets = Memory.writeN s.tsets (dInst j.desc * 2048 + dOffset j.desc) (min (dLen j.desc) (rows * 32)) img))

/-- The engine map, the mirror mode and the window of the sequence memory are written only as their rules allow. For a
requester that may write there. ENG_MAP_WRITE (R74) over a half whose slots are all at rest, naming a logical engine
of that half or none: the slot reads the value, and another slot that held the logical engine holds none; what belongs
to the engine may move with it (R75); over a busy half it changes nothing. SEQ_MODE_CHANGE (R78) with every slot at
rest and no copy running sets the mode, and BUSY exactly on the way from split to mirror; otherwise it changes
nothing. SEQ_COPY_DONE of a running copy that met no bad entry in West ends BUSY and leaves every East entry equal to
West's. SEQ_WINDOW_HOLD outside the monitor area holds the word for its requester alone and changes no entry;
SEQ_WINDOW_COMMIT (R79) puts the held words, or the present ones, and its own word into the entry, in both halves in
mirror mode, in its own half otherwise, and holds nothing more; during a copy both only set WR_DISC. In the monitor
area (R80) a function's window write changes nothing. -/
def Obligations.SequenceMemoryAndSpareMapWritesKeepTheirRules : Prop :=
  ∀ (s : State) (r : Req),
    ((∀ (n : Fin 104) (le : Fin 128), s.mayWrite r .eng (some (n.val / 52)) = true → s.halfAtRest (halfOfSlot n) = true →
        le.val < 0x60 → le.val / 48 = halfOfSlot n →
        ∃ t, exec (.engMapWrite r n le) s = .next t ∧ t.leOf n = le.val ∧
          (∀ m ∈ slotsOf (halfOfSlot n), m ≠ n.val → s.leOf m = le.val → t.leOf m = 0x7F) ∧
          t = { s with regs := t.regs, engs := t.engs, lmaps := t.lmaps, fsets := t.fsets, scr := t.scr }) ∧
      (∀ (n : Fin 104) (le : Fin 128), s.mayWrite r .eng (some (n.val / 52)) = true → s.halfAtRest (halfOfSlot n) = false → exec (.engMapWrite r n le) s = .next s) ∧
      (∀ split : Bool, s.mayWrite r .eng = true → s.halfAtRest 0 = true → s.halfAtRest 1 = true → s.on F.ENG_SEQ_CTL.BUSY = false →
        ∃ t, exec (.seqModeChange r split) s = .next t ∧ t.rd F.ENG_SEQ_CTL.SPLIT = (if split then 1 else 0) ∧
          t.on F.ENG_SEQ_CTL.BUSY = (s.on F.ENG_SEQ_CTL.SPLIT && !split) ∧
          t = { s with regs := t.regs, seqPos := t.seqPos } ∧ s.keepsRegs t [F.ENG_SEQ_CTL.SPLIT, F.ENG_SEQ_CTL.BUSY]) ∧
      (∀ split : Bool, s.mayWrite r .eng = true → s.halfAtRest 0 = false ∨ s.halfAtRest 1 = false ∨ s.on F.ENG_SEQ_CTL.BUSY = true →
        exec (.seqModeChange r split) s = .next s)) ∧
    (∀ ceW : List (Fin 0x20000), s.on F.ENG_SEQ_CTL.BUSY = true →
      (∀ a, a < 0x20000 → Table.get false s.seqUnread a = false) → s.canonical = true →
      ∃ t, exec (.seqCopyDone ceW [] []) s = .next t ∧ t.rd F.ENG_SEQ_CTL.BUSY = 0 ∧
        (∀ a, a < 0x20000 → Table.get 0 t.seqMem a = Table.get 0 s.seqMem a ∧
          Table.get 0 t.seqMem (0x20000 + a) = Table.get 0 s.seqMem a)) ∧
    (∀ (h : Fin 2) (e : Fin 0x20000) (v : Word32), s.mayWrite r .engWin (some h.val) = true →
        (s.on F.ENG_SEQ_CTL.BUSY = false → inMonArea e = false →
          (∀ w : Fin 3, ∃ t, exec (.seqWindowHold r h e w v) s = .next t ∧ t.held r (seqWord h e w) = some v.toNat ∧
            (∀ q x, q ≠ r → x < 2 ^ 26 → t.held q x = s.held q x) ∧ t = { s with holds := t.holds }) ∧
          (∃ t, exec (.seqWindowCommit r h e v) s = .next t ∧
            Table.get 0 t.seqMem (h.val * 0x20000 + e.val) = BitVec.ofNat 128
              (((s.held r (seqWord h e 0)).getD (bits (s.seqEntry h e).toNat 0 32)) +
               2 ^ 32 * ((s.held r (seqWord h e 1)).getD (bits (s.seqEntry h e).toNat 32 32)) +
               2 ^ 64 * ((s.held r (seqWord h e 2)).getD (bits (s.seqEntry h e).toNat 64 32)) + 2 ^ 96 * v.toNat) ∧
            (s.mirror = true → Table.get 0 t.seqMem ((1 - h.val) * 0x20000 + e.val) =
              Table.get 0 t.seqMem (h.val * 0x20000 + e.val)) ∧
            (s.mirror = false → Table.get 0 t.seqMem ((1 - h.val) * 0x20000 + e.val) =
              Table.get 0 s.seqMem ((1 - h.val) * 0x20000 + e.val)) ∧
            (∀ x, x ≠ e.val → x < 0x20000 → ∀ g, g < 2 →
              Table.get 0 t.seqMem (g * 0x20000 + x) = Table.get 0 s.seqMem (g * 0x20000 + x)) ∧
            (∀ w, w < 3 → t.held r (seqWord h e w) = none))) ∧
        (s.on F.ENG_SEQ_CTL.BUSY = true →
          (∃ t, exec (.seqWindowCommit r h e v) s = .next t ∧ t.rd F.ENG_SEQ_CTL.WR_DISC = 1 ∧
            s.onlyRegs t [F.ENG_SEQ_CTL.WR_DISC]) ∧
          (∀ w : Fin 3, ∃ t, exec (.seqWindowHold r h e w v) s = .next t ∧ t.rd F.ENG_SEQ_CTL.WR_DISC = 1 ∧
            s.onlyRegs t [F.ENG_SEQ_CTL.WR_DISC])) ∧
        (s.on F.ENG_SEQ_CTL.BUSY = false → inMonArea e = true → (∃ f, r = .fn f) →
          exec (.seqWindowCommit r h e v) s = .next s ∧ ∀ w : Fin 3, exec (.seqWindowHold r h e w v) s = .next s))

/-- A fill ends the miss or stops the engine on an unreadable entry; a preload starts the gang; invalidation and flush act
at their time. SEQ_FILL_COMPLETE (R81) of a missing slot in whose half no entry is marked: with clean check bits in
the line the gang's wait ends and no register of the sequence memory counts; in split mode an uncorrectable own copy
of the entry in D counts in UE, marks the entry unreadable and stops the engine, whose job is to complete
RESOURCE_LOST. SEQ_SPINE_FILL_TIMEOUT in mirror mode does so after 10 us for the entry of the line that did not come.
PRELOAD_DONE (R82) of a leader in PRELOAD that waits for no start time, with no unreadable entry, puts every slot of
its gang in RUN. CACHE_INVALIDATE (R112) of a slot at rest sets CACHE_INV, of a busy one changes nothing;
CACHE_INVALIDATE_DONE then leaves the cache empty and CACHE_INV 0. ENG_IRQ_WRITE takes EN and TTRIG, and IVB unless it
names the monitor area. PREDICTOR_FLUSH (R160) leaves every predictor entry of the slot cold. -/
def Obligations.CachesFillPreloadAndInvalidate : Prop :=
  ∀ s : State,
    (∀ (n : Fin 104) (w : Nat) (other : Ecc), s.missing? n = true → (∀ b, s.seqBad (halfOfSlot n) b = false) →
      (∃ t, exec (.seqFillComplete n w []) s = .next t ∧ (t.eng n).wait = .none ∧ t.seqMem = s.seqMem ∧
          t.seqUnread = s.seqUnread ∧ t.rd (seqCe (halfOfSlot n)) = s.rd (seqCe (halfOfSlot n)) ∧
          t.rd (seqUe (halfOfSlot n)) = s.rd (seqUe (halfOfSlot n))) ∧
      (s.mirror = false → ∀ c, (s.eng n).ctx = some c → ∀ j, s.front c = some j → j.status = none →
        ∃ t f, exec (.seqFillComplete n w [(⟨s.pc n % 16, Nat.mod_lt _ (by decide)⟩, .bad, other)]) s = .next t ∧
          t.rd (seqUe (halfOfSlot n)) = min (2 ^ 8 - 1) (s.rd (seqUe (halfOfSlot n)) + 1) ∧
          t.seqBad (halfOfSlot n) (s.pc n) = true ∧ (t.eng n).stopped = true ∧ t.front c = some f ∧
          f.status = some 0x12 ∧ f.detail = 0x204)) ∧
    (∀ (n : Fin 104) (w : Nat) (b : Fin 16), s.missing? n = true → s.mirror = true → ∀ c, (s.eng n).ctx = some c →
      ∀ j, s.front c = some j → j.status = none →
      ∃ t f, exec (.seqSpineFillTimeout n w b) s = .next t ∧ t.seqBad (halfOfSlot n) (s.pc n / 16 * 16 + b.val) = true ∧ (t.eng n).stopped = true ∧
        t.front c = some f ∧ f.status = some 0x12 ∧ f.detail = 0x204) ∧
    (∀ (n : Fin 104) (c : Nat), (s.eng n).ctx = some c → s.slotState n = stPreload → (s.eng n).leader = n.val →
      (s.eng n).stopped = false → (s.eng n).startAt = false → (s.eng n).late = false →
      (∀ b, s.seqBad (halfOfSlot n) b = false) →
      ∃ t, exec (.preloadDone n []) s = .next t ∧ (∀ m ∈ s.gang n, t.slotState m = stRun) ∧ t.seqMem = s.seqMem) ∧
    (∀ (r : Req) (n : Fin 104), s.mayWrite r .eng (some (n.val / 52)) = true →
      (s.atRest n = true → ∃ t, exec (.cacheInvalidate r n) s = .next t ∧ t.rd (F.ENG_CTL.CACHE_INV n) = 1 ∧
        s.onlyRegs t [F.ENG_CTL.CACHE_INV n]) ∧
      (s.atRest n = false → exec (.cacheInvalidate r n) s = .next s) ∧
      (∃ t, exec (.predictorFlush r n) s = .next t ∧ (t.eng n).pred = [] ∧ (∀ m, m ≠ n.val → t.eng m = s.eng m) ∧
        t = { s with engs := t.engs }) ∧
      (∀ v : Word32, ∃ t, exec (.engIrqWrite r n v) s = .next t ∧ t.rd (F.ENG_IRQ.EN n) = bits v.toNat 0 4 ∧
        t.rd (F.ENG_IRQ.TTRIG n) = bits v.toNat 17 3 ∧
        t.rd (F.ENG_IRQ.IVB n) = (if inMonArea (bits v.toNat 5 12 * 32) then s.rd (F.ENG_IRQ.IVB n) else bits v.toNat 5 12) ∧
        s.onlyRegs t [F.ENG_IRQ.EN n, F.ENG_IRQ.TTRIG n, F.ENG_IRQ.IVB n])) ∧
    (∀ n : Fin 104, s.on (F.ENG_CTL.CACHE_INV n) = true → ∃ t, exec (.cacheInvalidateDone n) s = .next t ∧
      t.rd (F.ENG_CTL.CACHE_INV n) = 0 ∧ (t.eng n).cache = [] ∧ t = { s with regs := t.regs, engs := t.engs } ∧
      s.keepsRegs t [F.ENG_CTL.CACHE_INV n])

/-- Every register outside the named blocks reads in t as in s. -/
def Sys2Proof.Machine.State.outside (s t : State) (bs : List Blk) : Prop := ∀ g : Fld, blkOf (g.key / 8) ∉ bs → t.rd g = s.rd g

/-- What an entry's vector may touch: the gang's and its channels' records, the strobe groups, the fail streams, the jobs, the
trace and the requests and answers of its DRAM buffer's controller, the port queues, the snapshot trigger. -/
def Sys2Proof.Machine.State.vectorOnly (s t : State) : Prop :=
  t = { s with regs := t.regs, bus := t.bus, ctxs := t.ctxs, engs := t.engs, chans := t.chans, ssgs := t.ssgs, bays := t.bays,
               snap := t.snap, trcs := t.trcs, dmcs := t.dmcs, ports := t.ports, nis := t.nis } ∧
  s.outside t [.eng, .vsw, .chn, .fpu, .dmc, .snp, .dbg]

/-- The entry in D of the gang that slot n leads may enter with opcode o. -/
def Sys2Proof.Machine.State.entersD (s : State) (n : Nat) (o : Op) : Prop :=
  s.running n = true ∧ (s.eng n).wait.standing = false ∧ s.irqBlocks n = false ∧ s.holdOf n = .go ∧
  eOp (s.entryAt n) = o ∧ s.illegalAt n = false ∧ codeReserved (s.entryAt n) = false ∧ s.portNotPaced n (s.entryAt n) = false ∧
  ∀ m ∈ s.gang n, s.wordBad m (s.entryAt n) = false

/-- Cycles that ENG_CYC counts before the entry enters: those of a hold that was in force, where they count (R113). -/
def Sys2Proof.Machine.State.heldCyc (s : State) (n w : Nat) : Nat :=
  if s.rd (F.ENG_STAT.STALL n) = 0 ∨ s.counts n = false then 0 else w

/-- No hold is in force for the entry in D. -/
def Sys2Proof.Machine.State.notHeld (s : State) (n : Nat) : Prop := s.rd (F.ENG_STAT.STALL n) = 0 ∧ (s.eng n).wait = .none

/-- The entry in D of gang n has issued its vector. -/
def Sys2Proof.Machine.State.issued (s t : State) (n w : Nat) : Prop :=
  s.vectorOnly t ∧ t.rd (F.ENG_STAT.STALL n) = 0 ∧
  (s.inMon n = false → (s.eng n).halted = false → t.cyc n = (s.cyc n + s.heldCyc n w + 1) % 2 ^ 64) ∧
  ∀ m ∈ s.gang n,
    ((t.eng m).x, (t.eng m).y) = aopStep (eAop (s.entryAt n)) (eImm (s.entryAt n)) (s.eng m).x (s.eng m).y ∧
    (t.eng m).lfsr = lfsrAfter (eDop (s.entryAt n)) (eImm (s.entryAt n)) (s.eng m).lfsr

/-- The gang continues after an entry that is no transfer. -/
def Sys2Proof.Machine.State.movedOn (s t : State) (n : Nat) : Prop :=
  ((s.eng n).liveRep = 0 → (s.eng n).liveDsc = 0 → t.pc n = seqWrap (s.pc n + 1)) ∧
  ((s.eng n).liveRep = 0 → (s.eng n).liveDsc = 1 → t.pc n = seqWrap (s.eng n).dst ∧ (t.eng n).dsc = 0) ∧
  ((s.eng n).liveRep = 0 → 1 < (s.eng n).liveDsc → t.pc n = seqWrap (s.pc n + 1) ∧ (t.eng n).dsc = (s.eng n).dsc - 1) ∧
  ((s.eng n).liveRep = 1 → t.pc n = seqWrap (s.pc n + 1) ∧ (t.eng n).repc = 0) ∧
  (1 < (s.eng n).liveRep → t.pc n = s.pc n ∧ (t.eng n).repc = (s.eng n).repc - 1)

/-- A stimulus packet of slot n on port p without its data word (R482). -/
def Sys2Proof.Machine.State.stimHead (s : State) (n p : Nat) : Nat :=
  (s.trc (halfOfSlot n)).seq % 256 + 2 ^ 9 * ((s.provTag n).getD 0 % 64) + 2 ^ 15 * b2n (s.provTag n).isSome + 2 ^ 20 * n +
  2 ^ 27 * (p % 32) + 2 ^ 32 * ((s.tbase (halfOfSlot n)).sec % 4) + 2 ^ 34 * ((s.tbase (halfOfSlot n)).ns % 2 ^ 30)

/-- NEXT, LDC, TRACE and CLRF issue their vector, step the generators and continue at the next entry, delay slot or
repetition. For an entry that may enter D (the gang runs and leads, nothing waits or interrupts, no hold applies, the
entry is legal), outside the delay slots of an IRET (R84-R88, R90, R94, R99, R115): every member's X, Y and LFSR take
the results of AOP and DOP; STALL reads 0; ENG_CYC counts the cycle and those of a hold that ended, but for the
monitor's and those before the first entry (R113); the gang continues at the next address, with one delay slot left at
the transfer's target, with repetitions left at the same entry. LDC k also sets counter k to IMM[31:0] and no other
counter. CLRF clears FAIL_STICKY in every member. TRACE on an enabled port, its destination the FIFO with room and
nothing lost, puts a packet with IMM behind those in the FIFO. Each leaves the tables, sequence and bank memory, DRAM,
the queue and every register outside the engine, vector switch, channel, fail, DRAM, snapshot and debug blocks as they
were, and NEXT, TRACE and CLRF every counter. -/
def Obligations.PlainEntriesIssueAndContinue : Prop :=
  ∀ (s : State) (n : Fin 104) (w : Nat), (s.eng n).iretDs = 0 →
    (s.entersD n .next → ∃ t, exec (.next n w) s = .next t ∧ s.issued t n w ∧ s.movedOn t n ∧
      (t.eng n).cnt = (s.eng n).cnt ∧ (t.eng n).stk = (s.eng n).stk) ∧
    (s.entersD n .ldc → ∃ t, exec (.ldc n w) s = .next t ∧ s.issued t n w ∧ s.movedOn t n ∧
      (∀ k, Table.get 0 (t.eng n).cnt k = if k = eK (s.entryAt n) then eImm (s.entryAt n) % 2 ^ 32
        else Table.get 0 (s.eng n).cnt k)) ∧
    (s.entersD n .clrf → ∃ t, exec (.clrf n w) s = .next t ∧ s.issued t n w ∧ s.movedOn t n ∧
      (∀ m ∈ s.gang n, (t.eng m).sticky = false) ∧ (t.eng n).cnt = (s.eng n).cnt) ∧
    (s.entersD n .trace → ∃ t, exec (.trace n w) s = .next t ∧ s.issued t n w ∧ s.movedOn t n ∧
      (t.eng n).cnt = (s.eng n).cnt ∧
      (s.on (F.DBG_ENG_CTL.TRC_EN n) = true → bit (s.rd (F.DBG_ENG_STIM.EN n)) (eSarg (s.entryAt n) % 32) = true →
        s.rd (F.DBG_TRC_CTL.DEST (halfOfSlot n)) = 2 → (s.trc (halfOfSlot n)).fifo.length < 256 →
        (s.trc (halfOfSlot n)).lost = 0 →
        ∃ l, (t.trc (halfOfSlot n)).fifo = (s.trc (halfOfSlot n)).fifo ++
          (s.stimHead n (eSarg (s.entryAt n) % 32) + 2 ^ 64 * eImm (s.entryAt n)) :: l))

/-- The gang runs two delay slots and then goes to an address. -/
def Sys2Proof.Machine.State.toTarget (s t : State) (n a : Nat) : Prop :=
  t.pc n = seqWrap (s.pc n + 1) ∧ (t.eng n).dsc = 2 ∧ (t.eng n).dst = seqWrap a ∧ (t.eng n).repc = 0 ∧ (t.eng n).held = false

/-- The entry in D of gang n waits, and nothing but its record and STALL has changed. -/
def Sys2Proof.Machine.State.waitsIn (s t : State) (n : Nat) (w : Wait) (stall : Nat) : Prop :=
  (t.eng n).wait = w ∧ t.rd (F.ENG_STAT.STALL n) = stall ∧ t.pc n = s.pc n ∧ t.cyc n = s.cyc n ∧
  (∀ m, m ≠ n → t.eng m = s.eng m) ∧ (t.eng n).x = (s.eng n).x ∧ (t.eng n).y = (s.eng n).y ∧ (t.eng n).vecs = (s.eng n).vecs ∧
  t = { s with regs := t.regs, engs := t.engs } ∧ s.keepsRegs t ((s.gang n).map F.ENG_STAT.STALL)

/-- The gang has stopped on a program error at the entry in D, and its job's outcome says so unless it had one. -/
def Sys2Proof.Machine.State.programStopped (s t : State) (n det : Nat) : Prop :=
  (t.eng n).stopped = true ∧ t.rd (F.ENG_ERR.ERR_PC n) = seqWrap (s.pc n) ∧ t.pc n = s.pc n ∧
  ∀ c j, (s.eng n).ctx = some c → s.front c = some j → j.status = none →
    ∃ k, t.front c = some k ∧ k.status = some 0x12 ∧ k.detail = det

/-- JMP, LOOP, REP, BR, CALL and RET issue their vector and set what follows: two delay slots and a target, or
repetitions. For an entry that may enter D (R86-R90, R95, R99): JMP has two delay slots and then SARG. LOOP k takes 1
from counter k (mod 2^32) and then goes to SARG, or past its delay slots when the counter is 0. REP repeats the next
entry SARG times. BR, CALL and RET on a condition that waits for no result go to their target when it holds and past
their delay slots when not; a taken CALL pushes the address of the entry after its second delay slot, a taken RET goes
to the popped address, and SP counts. A taken CALL on a stack of 16 and a taken RET on an empty one are not executed:
the engine stops, the flag of ENG_ERR and ERR_PC are set, and the job gets 0x12 with DETAIL 0x202 or 0x203. Without
speculation, an entry not held: BR on a match condition with the window's results usable goes by the window and closes
it, without them it waits with STALL 1. With speculation it is predicted, taken here as the loop that the predictor
foresees: one more branch is outstanding and PROV reads 1. -/
def Obligations.TransfersRunTwoDelaySlots : Prop :=
  ∀ (s : State) (n : Fin 104) (w : Nat), ∀ x, x = s.entryAt n →
    (s.entersD n .jmp → ∃ t, exec (.jmp n w) s = .next t ∧ s.issued t n w ∧ s.toTarget t n (eSarg x)) ∧
    (s.entersD n .loop → ∃ t, exec (.loop n w) s = .next t ∧ s.issued t n w ∧
      Table.get 0 (t.eng n).cnt (eK x) = (Table.get 0 (s.eng n).cnt (eK x) + 2 ^ 32 - 1) % 2 ^ 32 ∧
      (∀ k, k ≠ eK x → Table.get 0 (t.eng n).cnt k = Table.get 0 (s.eng n).cnt k) ∧
      s.toTarget t n (if Table.get 0 (t.eng n).cnt (eK x) = 0 then s.pc n + 3 else eSarg x)) ∧
    (s.entersD n .rep → ∃ t, exec (.rep n w) s = .next t ∧ s.issued t n w ∧ t.pc n = seqWrap (s.pc n + 1) ∧
      (t.eng n).repc = eSarg x ∧ (t.eng n).dsc = 0 ∧ (t.eng n).held = false) ∧
    (eScnd x ∉ [2, 3, 4] →
      (s.entersD n .br → ∃ t, exec (.br n w) s = .next t ∧ s.issued t n w ∧
        s.toTarget t n (if s.condVal n (eScnd x) (eK x) 0 then eSarg x else s.pc n + 3) ∧ (t.eng n).stk = (s.eng n).stk) ∧
      (s.entersD n .call →
        (s.condVal n (eScnd x) (eK x) 0 = false → ∃ t, exec (.call n w) s = .next t ∧ s.issued t n w ∧
          s.toTarget t n (s.pc n + 3) ∧ (t.eng n).stk = (s.eng n).stk) ∧
        (s.condVal n (eScnd x) (eK x) 0 = true → (s.eng n).stk.length < 16 → ∃ t, exec (.call n w) s = .next t ∧
          s.issued t n w ∧ s.toTarget t n (eSarg x) ∧ (t.eng n).stk = seqWrap (s.pc n + 3) :: (s.eng n).stk ∧
          t.rd (F.ENG_STAT.SP n) = (s.eng n).stk.length + 1) ∧
        (s.condVal n (eScnd x) (eK x) 0 = true → 16 ≤ (s.eng n).stk.length → ∃ t, exec (.call n w) s = .next t ∧
          t.rd (F.ENG_ERR.STACK_OVF n) = 1 ∧ s.programStopped t n 0x202)) ∧
      (s.entersD n .ret →
        (s.condVal n (eScnd x) (eK x) 0 = false → ∃ t, exec (.ret n w) s = .next t ∧ s.issued t n w ∧
          s.toTarget t n (s.pc n + 3) ∧ (t.eng n).stk = (s.eng n).stk) ∧
        (∀ a l, s.condVal n (eScnd x) (eK x) 0 = true → (s.eng n).stk = a :: l → ∃ t, exec (.ret n w) s = .next t ∧
          s.issued t n w ∧ s.toTarget t n a ∧ (t.eng n).stk = l ∧ t.rd (F.ENG_STAT.SP n) = l.length % 32) ∧
        (s.condVal n (eScnd x) (eK x) 0 = true → (s.eng n).stk = [] → ∃ t, exec (.ret n w) s = .next t ∧
          t.rd (F.ENG_ERR.STACK_UNF n) = 1 ∧ s.programStopped t n 0x203))) ∧
    (s.entersD n .br → (eScnd x = 2 ∨ eScnd x = 3) → s.winEmpty n (s.eng n).win = false → s.notHeld n →
      ((s.eng n).spec = false → s.winReady n (s.eng n).win = true → ∃ t, exec (.br n w) s = .next t ∧ s.issued t n w ∧
        (t.eng n).win = (s.eng n).winNext ∧
        s.toTarget t n (if s.condVal n (eScnd x) (eK x) (s.eng n).win then eSarg x else s.pc n + 3)) ∧
      ((s.eng n).spec = false → s.winReady n (s.eng n).win = false → ∃ t, exec (.br n w) s = .next t ∧ s.waitsIn t n .cond 1) ∧
      ((s.eng n).spec = true → ((s.eng n).brs.filter (·.isBr)).length < 64 → eSarg x ≤ s.pc n →
        ((s.eng n).predAt (s.pc n)).predictsLoop (s.pc n)
          (((s.eng n).predAt (s.pc n)).run + (s.eng n).loopsOut (s.pc n)) = true →
        ∃ t, exec (.br n w) s = .next t ∧ s.issued t n w ∧ s.toTarget t n (eSarg x) ∧
          (t.eng n).brs.length = (s.eng n).brs.length + 1 ∧ t.rd (F.ENG_STAT.PROV n) = 1))

/-- MWAIT waits for its window, HALT drains into IDLE, PAUSE stops in PAUSED, and a resolved window lets the waiting entry
go on. For an entry that may enter D and is not held. MWAIT (R86, R97): on an empty or usable window it continues and
closes the window; without speculation and results it waits with STALL 2; with speculation it closes the window and
continues. HALT and PAUSE on a condition that waits for no result (R91): not holding, they continue as NEXT; a taken
HALT keeps the address, marks every member halted with no semaphore held and drains with STALL 9; after a taken PAUSE
every member reads PAUSED, PC shows its address (R112), and the next entry is where the gang will go on.
HALT_DRAIN_DONE of a draining gang with no branch and no result outstanding: every member not fenced reads IDLE, STALL
0, and nothing but those fields and the leader's record changes. MATCH_WINDOW_RESOLVE of an entry that waits for a
condition whose results have arrived, no branch outstanding: it goes on; an MWAIT closes its window and continues, a
BR goes by the window, and a resolution later than its first cycle counts in LATE. -/
def Obligations.WaitsHaltsAndPausesHoldTheGang : Prop :=
  ∀ (s : State) (n : Fin 104) (w : Nat), ∀ x, x = s.entryAt n →
    (s.entersD n .mwait → s.notHeld n →
      (s.winEmpty n (s.eng n).win = true ∨ (s.eng n).spec = true ∨ s.winReady n (s.eng n).win = true →
        ∃ t, exec (.mwait n w) s = .next t ∧ s.issued t n w ∧ (t.eng n).win = (s.eng n).winNext ∧
          t.pc n = seqWrap (s.pc n + 1)) ∧
      (s.winEmpty n (s.eng n).win = false → (s.eng n).spec = false → s.winReady n (s.eng n).win = false →
        ∃ t, exec (.mwait n w) s = .next t ∧ s.waitsIn t n .cond 2)) ∧
    (eScnd x ∉ [2, 3, 4] →
      (s.entersD n .halt →
        (s.condVal n (eScnd x) 0 0 = false → ∃ t, exec (.halt n w) s = .next t ∧ s.issued t n w ∧ t.pc n = seqWrap (s.pc n + 1)) ∧
        (s.condVal n (eScnd x) 0 0 = true → ∃ t, exec (.halt n w) s = .next t ∧ t.pc n = s.pc n ∧
          t.rd (F.ENG_STAT.STALL n) = 9 ∧ (t.eng n).wait = .halt ∧
          ∀ m ∈ s.gang n, (t.eng m).halted = true ∧ (t.eng m).sem = none)) ∧
      (s.entersD n .pause →
        (s.condVal n (eScnd x) 0 0 = false → ∃ t, exec (.pauseOpcode n w) s = .next t ∧ s.issued t n w ∧
          t.pc n = seqWrap (s.pc n + 1)) ∧
        (s.condVal n (eScnd x) 0 0 = true → (s.eng n).npc = none → ∃ t, exec (.pauseOpcode n w) s = .next t ∧ s.issued t n w ∧
          t.pc n = seqWrap (s.pc n) ∧ (t.eng n).npc = some (seqWrap (s.pc n + 1)) ∧
          ∀ m ∈ s.gang n, t.slotState m = stPaused))) ∧
    ((s.eng n).wait = .halt → (s.eng n).brs = [] →
      (∀ m ∈ s.gang n, (s.eng m).sump = [] ∧ ∀ v ∈ (s.eng m).vecs, v.wait = []) →
      ∃ t, exec (.haltDrainDone n) s = .next t ∧ (t.eng n).wait = .none ∧
        (∀ m ∈ s.gang n, t.slotState m = (if s.slotState m = stFenced then stFenced else stIdle) ∧
          t.rd (F.ENG_STAT.STALL m) = 0) ∧
        (∀ m, m ≠ n.val → t.eng m = s.eng m) ∧ t = { s with regs := t.regs, engs := t.engs } ∧
        s.keepsRegs t ((s.gang n).map F.ENG_STAT.STATE ++ (s.gang n).map F.ENG_STAT.STALL)) ∧
    (∀ late v, s.running n = true → (s.eng n).wait = .cond → (s.eng n).brs = [] → s.waitedAt n x = some v →
      s.illegalAt n = false → s.inMon n = false → (s.eng n).halted = false →
      (eOp x = .mwait → ∃ t, exec (.matchWindowResolve n late) s = .next t ∧ (t.eng n).win = (s.eng n).winNext ∧
        (t.eng n).wait = .none ∧ t.rd (F.ENG_STAT.STALL n) = 0 ∧ t.pc n = seqWrap (s.pc n + 1) ∧
        t.cyc n = (s.cyc n + (v + late - s.now n) + 1) % 2 ^ 64 ∧
        t.rd (F.FPU_SPX_EVT.LATE n) = (if late = 0 then s.rd (F.FPU_SPX_EVT.LATE n)
          else min (2 ^ (F.FPU_SPX_EVT.LATE n).w - 1) (s.rd (F.FPU_SPX_EVT.LATE n) + 1)) ∧ s.vectorOnly t) ∧
      (eOp x = .br → (eScnd x = 2 ∨ eScnd x = 3) → s.winEmpty n (s.eng n).win = false →
        ∃ t, exec (.matchWindowResolve n late) s = .next t ∧ (t.eng n).win = (s.eng n).winNext ∧ (t.eng n).wait = .none ∧
          s.toTarget t n (if s.condVal n (eScnd x) (eK x) (s.eng n).win then eSarg x else s.pc n + 3) ∧ s.vectorOnly t))

/-- SYNC, WAITT and LOCK wait in D; the barrier, the trigger and the bank's answer release them; UNLOCK gives the
semaphore back. For an entry that may enter D. SYNC waits with STALL 4 and SYNC_RELEASE, once every leader of the job
in the half waits at a SYNC or has halted, lets every waiting gang go on past its SYNC, and changes nothing while one
does not (R92). WAITT k goes on when trigger k has fired and reached the engine, and waits with STALL 3 otherwise.
LOCK waits with STALL 5 (R93). LOCK_RESPONSE of a free semaphore: the word is HELD by the engine with COUNT one more,
LOCKED reads 1, the entry goes on; of a held one: no memory changes, under NEVER the entry goes on with LOCK_OK false,
otherwise it is to retry. LOCK_RETRY issues the attempt again unless an interrupt is due. UNLOCK by the owner clears
HELD, LOCKED reads 0, and the entry goes on; by another the engine stops with ILLEGAL, SEM_OWNER of the half is set,
and the job gets 0x12 with DETAIL 0x201. -/
def Obligations.BarriersSemaphoresAndTriggersHoldAndRelease : Prop :=
  ∀ (s : State) (n : Fin 104) (w : Nat), ∀ x, x = s.entryAt n →
    (s.entersD n .sync → s.notHeld n → ∃ t, exec (.sync n w) s = .next t ∧ s.waitsIn t n .sync 4) ∧
    (∀ (c : Fin 64) (h : Fin 2) (ws : List (Fin 104 × Nat)),
      ((∃ m ∈ s.jobLeaders c, halfOfSlot m = h.val ∧ s.atSync m = false) → exec (.syncRelease c h ws) s = .next s) ∧
      ((∀ m ∈ s.jobLeaders c, halfOfSlot m = h.val → s.atSync m = true) →
        ∃ t, exec (.syncRelease c h ws) s = .next t ∧
          ((∀ m ∈ s.jobLeaders c, (s.eng m).wait = .sync → (s.eng m).iretDs = 0) → s.vectorOnly t) ∧
          ∀ m ∈ s.jobLeaders c, halfOfSlot m = h.val → (s.eng m).wait = .sync → s.running m = true →
            s.illegalAt m = false → eOp (s.entryAt m) = .sync →
            (t.eng m).wait = .none ∧ t.rd (F.ENG_STAT.STALL m) = 0 ∧ t.pc m = seqWrap (s.pc m + 1))) ∧
    (s.entersD n .waitt → s.notHeld n →
      (s.trgFired n (eK x) = true → ∃ t, exec (.waitt n w) s = .next t ∧ s.issued t n w ∧ t.pc n = seqWrap (s.pc n + 1)) ∧
      (s.trgFired n (eK x) = false → ∃ t, exec (.waitt n w) s = .next t ∧ s.waitsIn t n (.waitt (eK x)) 3)) ∧
    (s.entersD n .lock → s.notHeld n → ∃ t, exec (.lock n w) s = .next t ∧ s.waitsIn t n .lock 5) ∧
    (s.running n = true → (s.eng n).wait = .lock → s.illegalAt n = false → eOp x = .lock → ∀ v,
      v = s.bankRead (halfOfSlot n) (semAddr (eSarg x)) 8 →
      (bit v 63 = false → ∃ t, exec (.lockResponse n w) s = .next t ∧
        t.bankRead (halfOfSlot n) (semAddr (eSarg x)) 8 = 2 ^ 63 + n.val * 2 ^ 32 + (v % 2 ^ 32 + 1) % 2 ^ 32 ∧
        t.rd (F.ENG_STAT.LOCKED n) = 1 ∧ (t.eng n).sem = some (eSarg x) ∧ (t.eng n).lockOk = true ∧
        (t.eng n).wait = .none ∧ t.rd (F.ENG_STAT.STALL n) = 0 ∧ t.pc n = seqWrap (s.pc n + 1)) ∧
      (bit v 63 = true → ∃ t, exec (.lockResponse n w) s = .next t ∧ t.bankMem = s.bankMem ∧ (t.eng n).lockOk = false ∧
        (eScnd x = 1 → (t.eng n).wait = .none ∧ t.pc n = seqWrap (s.pc n + 1)) ∧
        (eScnd x ≠ 1 → (t.eng n).wait = .lockRetry ∧ t = { s with engs := t.engs }))) ∧
    (s.running n = true → (s.eng n).wait = .lockRetry → s.irqBlocks n = false →
      ∃ t, exec (.lockRetry n) s = .next t ∧ (t.eng n) = { s.eng n with wait := .lock } ∧
        (∀ m, m ≠ n.val → t.eng m = s.eng m) ∧ t = { s with engs := t.engs }) ∧
    (s.entersD n .unlock → ∀ v, v = s.bankRead (halfOfSlot n) (semAddr (eSarg x)) 8 →
      (bit v 63 = true → bits v 60 3 = 0 → bits v 32 16 = n.val → ∃ t, exec (.unlock n w) s = .next t ∧ s.movedOn t n ∧
        t.bankRead (halfOfSlot n) (semAddr (eSarg x)) 8 = v % 2 ^ 63 ∧ t.rd (F.ENG_STAT.LOCKED n) = 0 ∧
        (t.eng n).sem = none ∧ (t.eng n).lockOk = false) ∧
      (bit v 63 = false ∨ bits v 60 3 ≠ 0 ∨ bits v 32 16 ≠ n.val → ∃ t, exec (.unlock n w) s = .next t ∧
        t.rd (F.BNK_ERR.SEM_OWNER (halfOfSlot n)) = 1 ∧ t.rd (F.ENG_ERR.ILLEGAL n) = 1 ∧ s.programStopped t n 0x201))

/-- SAVE and RESTORE move the state image, TRAP and INTERRUPT_ENTRY reach the handler, IRET returns; bad entries and the
watchdog stop. For an entry that may enter D. SAVE and RESTORE stand in D with STALL 8 (R109). When a SAVE in progress
ends, the image of every member is in its save slot and the gang goes on; a RESTORE of a good image loads X, Y, LFSR,
the counters and the stack, whatever the entry's AOP and DOP, and moves on; of an image with DSC 3 or SP above 16 it
stops the engine with 0x201. TRAP raises cause TRAP and goes on (R94). INTERRUPT_ENTRY at a free boundary takes the
cause c of highest priority: IRA is the address of the entry in D, IN_HANDLER 1, the handler's first entry IVB + 4c, a
window of its own, the transfer state held, two cycles lost, which count once the program has begun (R104, R105,
R113). IRET sets two delay slots; its second slot returns to IRA, clears IN_HANDLER and brings the interrupted window
back. ILLEGAL_ENTRY of a bad entry in D stops the gang with ILLEGAL, ERR_PC and the entry's DETAIL (R85, R125, R129,
R137). WATCHDOG_EXPIRE of a leader whose watchdog runs, its timebase too: the rest of the period goes by, the gang
stops and its job gets 0x13 with DETAIL 0 (R111). -/
def Obligations.InterruptsImagesAndStopsKeepTheGangsState : Prop :=
  ∀ (s : State) (n : Fin 104) (w : Nat), ∀ x, x = s.entryAt n →
    (s.entersD n .save → s.notHeld n → ∃ t, exec (.save n w) s = .next t ∧ s.waitsIn t n .saveRes 8) ∧
    (s.inTransfer n .save = true → s.illegalAt n = false → ∃ t, exec (.save n w) s = .next t ∧ s.movedOn t n ∧
      (t.eng n).wait = .none ∧ t.rd (F.ENG_STAT.STALL n) = 0 ∧
      (∀ m ∈ s.gang n, t.bankRead (halfOfSlot m) (saveAddr m (eSarg x)) 256 = s.saveImage n m % 256 ^ 256)) ∧
    (s.entersD n .restore → s.notHeld n → ∃ t, exec (.restore n w) s = .next t ∧ s.waitsIn t n .saveRes 8) ∧
    (s.inTransfer n .restore = true → s.illegalAt n = false →
      (imageBad (s.savedImage n (eSarg x)) = false → ∃ t, exec (.restore n w) s = .next t ∧ t.pc n = seqWrap (s.pc n + 1) ∧
        s.vectorOnly t ∧ (t.eng n).held = true ∧ (t.eng n).ira = bits (s.savedImage n (eSarg x)) 0 17 ∧
        (∀ k, k < 8 → Table.get 0 (t.eng n).cnt k = bits (s.savedImage n (eSarg x)) (128 + 32 * k) 32) ∧
        (t.eng n).stk.length = bits (s.savedImage n (eSarg x)) 96 5 ∧
        ∀ m ∈ s.gang n, (t.eng m).x = bits (s.savedImage m (eSarg x)) 896 24 ∧
          (t.eng m).y = bits (s.savedImage m (eSarg x)) 928 24 ∧ (t.eng m).lfsr = bits (s.savedImage m (eSarg x)) 960 64) ∧
      (imageBad (s.savedImage n (eSarg x)) = true → ∃ t, exec (.restore n w) s = .next t ∧
        t.rd (F.ENG_ERR.ILLEGAL n) = 1 ∧ s.programStopped t n 0x201)) ∧
    (s.entersD n .trap → (s.eng n).iretDs = 0 → ∃ t, exec (.trap n w) s = .next t ∧ s.issued t n w ∧ s.movedOn t n ∧
      bit (t.rd (F.ENG_IRQ.PEND n)) 4 = true) ∧
    (∀ c, s.running n = true → s.inMon n = false → s.boundaryFree n = true → topCause (s.takeable n) = some c → c ≠ 5 →
      s.notHeld n →
      ∃ t, exec (.interruptEntry n w) s = .next t ∧ (t.eng n).ira = s.pc n ∧ t.rd (F.ENG_STAT.IN_HANDLER n) = 1 ∧
        t.pc n = seqWrap (s.rd (F.ENG_IRQ.IVB n) * 32 + 4 * c) ∧ (t.eng n).win = (s.eng n).winNext ∧
        (t.eng n).winOuter = (s.eng n).win :: (s.eng n).winOuter ∧ (t.eng n).held = true ∧
        (s.counts n = true → t.cyc n = (s.cyc n + 2) % 2 ^ 64) ∧ s.vectorOnly t) ∧
    (s.entersD n .iret → ∃ t, exec (.iret n w) s = .next t ∧ s.issued t n w ∧ (t.eng n).iretDs = 2 ∧
      t.pc n = seqWrap (s.pc n + 1)) ∧
    (s.entersD n .next → (s.eng n).iretDs = 1 → s.inMon n = false → (s.eng n).svc = false →
      ∃ t, exec (.next n w) s = .next t ∧ s.issued t n w ∧ t.pc n = seqWrap (s.eng n).ira ∧
        t.rd (F.ENG_STAT.IN_HANDLER n) = 0 ∧ (t.eng n).win = (s.eng n).winOuter.headD (s.eng n).win ∧ (t.eng n).held = false) ∧
    (∀ det, s.badEntry n = some det → s.running n = true → (s.eng n).wait.standing = false → s.irqBlocks n = false →
      s.holdOf n ≠ .miss → s.holdOf n ≠ .prov →
      ∃ t, exec (.illegalEntry n w) s = .next t ∧ t.rd (F.ENG_ERR.ILLEGAL n) = 1 ∧ s.programStopped t n det) ∧
    (∀ c j, (s.eng n).ctx = some c → s.wdogRuns n = true → (s.tbase (halfOfSlot n)).inc ≠ 0 → s.front c = some j →
      j.status = none →
      ∃ t, exec (.watchdogExpire n) s = .next t ∧ (t.eng n).stopped = true ∧
        ∃ k, t.front c = some k ∧ k.status = some 0x13 ∧ k.detail = 0)

/-- The stream word of member m at half address a can be had: its interface runs, the line exists, no request of it is pending and
it is not poisoned. -/
def Sys2Proof.Machine.State.streamClear (s : State) (m a : Nat) : Prop :=
  let h := halfOfSlot m
  let l := a / 64 * 64
  let d := s.dmc (s.dramIf h l)
  s.dramRuns h l = true ∧ l + 64 ≤ s.usable h ∧ s.poisoned h l = false ∧ ∀ o ∈ d.q ++ d.held, o.line ≠ l

/-- A delivered TABLE or STREAM word is where its engine reads it; a port takes words while it has room; tables change at
rest only. TABLE_FILL_DONE and STREAM_FETCH_DONE for a gang that waits for such words (R123-R126): delivered, each
member that lacked one holds the line in its table cache, or (fetching nothing ahead) the word as DRAM shows it, among
at most 512, in its stream buffer, and the program counter stays; a word that cannot be had stops the gang with
ILLEGAL and DETAIL 0x206; a stream word whose interface rests wakes it. FVP_WORD_ACCEPT puts the word last in the
queue of a port that is not down, whose clock runs and that holds fewer than 16, and LEVEL counts it; otherwise
nothing changes (R138, R139). FVP_FLUSH by a requester that may write empties the queue of an idle pacer's port, and
changes nothing for a busy one (R142). VECTOR_TABLE_WRITE of a slot at rest writes the scramble word, lane map (its
reserved bits zero, R127) or pin function set word named, of a busy one sets TBL_BUSY alone (R131). VSW_SEL_WRITE
between idle sources writes the selection's six fields, and with EN = 0 the channel takes the role MASK; otherwise it
sets SEL_BUSY alone (R134, R172). -/
def Obligations.VectorWordsArriveAndTablesAreWrittenAtRest : Prop :=
  (∀ (s : State) (n : Fin 104) (ok : Bool) (ahead : Fin 512) (w : Nat),
    (s.waitsFor n 4 = true →
      (∀ m ∈ s.lacking n, s.tableHeld (halfOfSlot m) (s.tableAt n m) = false) →
      (ok = true → (∀ m ∈ s.lacking n, s.bankBad (halfOfSlot m) (s.tableAt n m) = false) →
        ∃ t, exec (.tableFillDone n ok w) s = .next t ∧ t.pc n = s.pc n ∧
          (∀ m ∈ s.lacking n, Table.get 0 (t.eng m).tcache (s.tableAt n m / 64 % 128) = 1 + s.tableAt n m / 8192) ∧
          t = { s with regs := t.regs, engs := t.engs, chans := t.chans, ssgs := t.ssgs, snap := t.snap } ∧
          s.outside t [.eng, .chn, .snp]) ∧
      (ok = false → ∃ t, exec (.tableFillDone n ok w) s = .next t ∧ t.rd (F.ENG_ERR.ILLEGAL n) = 1 ∧
        s.programStopped t n 0x206)) ∧
    (s.waitsFor n 5 = true →
      (∀ eccs : List Ecc, (∀ e ∈ eccs, e ≠ .bad) → (∀ m ∈ s.lacking n, s.streamClear m (s.streamAt n m)) →
        ∃ t, exec (.streamFetchDone n eccs ahead w) s = .next t ∧ t.pc n = s.pc n ∧
          (∀ m ∈ s.lacking n, (t.eng m).sbuf.length ≤ 512) ∧
          (ahead.val = 0 →
            (∀ m ∈ s.lacking n, (s.streamAt n m, s.dramPeek (halfOfSlot m) (s.streamAt n m) 8) ∈ (t.eng m).sbuf) ∧
            t = { s with regs := t.regs, engs := t.engs, chans := t.chans, ssgs := t.ssgs, snap := t.snap, dmcs := t.dmcs } ∧
            s.outside t [.eng, .chn, .snp, .dmc])) ∧
      (∀ m, s.lacking n = [m] → s.streamClear m (s.streamAt n m) → ∃ t, exec (.streamFetchDone n [.bad] ahead w) s = .next t ∧
        t.rd (F.ENG_ERR.ILLEGAL n) = 1 ∧ s.programStopped t n 0x206) ∧
      (∀ (eccs : List Ecc) (m : Nat), m ∈ s.lacking n → s.streamAt n m + 8 ≤ s.usable (halfOfSlot m) →
        s.dramRuns (halfOfSlot m) (s.streamAt n m / 64 * 64) = false →
        ∃ t, exec (.streamFetchDone n eccs ahead w) s = .next t ∧ t = { s with dmcs := t.dmcs }))) ∧
  (∀ (s : State) (r : Req) (h : Fin 2) (p : Fin 8) (word : Desc) (w : Nat),
    (s.portDown h p = false → s.gclkOn h (s.rd (F.VSW_PORT_CFG.CLKSEL h p)) = true → (s.portQ h p).length < 16 → ∃ t, exec (.fvpWordAccept h p word w) s = .next t ∧
      t.portQ h p = s.portQ h p ++ [word.toNat] ∧ t.rd (F.VSW_PORT_STAT.LEVEL h p) = (s.portQ h p).length + 1 ∧
      (∀ k, k ≠ h.val * 8 + p.val → Table.get [] t.ports k = Table.get [] s.ports k) ∧
      t = { s with regs := t.regs, engs := t.engs, chans := t.chans, ssgs := t.ssgs, snap := t.snap, ports := t.ports } ∧
      s.outside t [.eng, .vsw, .chn, .snp]) ∧
    (s.portDown h p = true ∨ 16 ≤ (s.portQ h p).length ∨ s.gclkOn h (s.rd (F.VSW_PORT_CFG.CLKSEL h p)) = false → exec (.fvpWordAccept h p word w) s = .next s) ∧
    (s.mayWrite r .vsw (some h.val) = true → s.pacerIdle h p = true → ∃ t, exec (.fvpFlush r h p) s = .next t ∧ t.portQ h p = [] ∧
      t.rd (F.VSW_PORT_STAT.LEVEL h p) = 0 ∧ (∀ k, k ≠ h.val * 8 + p.val → Table.get [] t.ports k = Table.get [] s.ports k) ∧
      t = { s with regs := t.regs, ports := t.ports } ∧ s.keepsRegs t [F.VSW_PORT_STAT.LEVEL h p]) ∧
    (s.pacerIdle h p = false → exec (.fvpFlush r h p) s = .next s)) ∧
  (∀ (s : State) (r : Req) (n : Fin 104) (w : Fin 0x1140) (v : Word32), s.mayWrite r .engWin (some (n.val / 52)) = true →
    (s.atRest n = true →
      (w.val < 0x1000 → ∃ t, exec (.vectorTableWrite r n w v) s = .next t ∧ t.scrWord n w = v.toNat % 2 ^ 24 ∧
        (∀ k, k ≠ n.val * 4096 + w.val → Table.get none t.scr k = Table.get none s.scr k) ∧ t = { s with scr := t.scr }) ∧
      (0x1000 ≤ w.val → w.val < 0x1100 → exec (.vectorTableWrite r n w v) s = .next { s with
        lmaps := Memory.writeN s.lmaps (n.val * 1024 + 4 * (w.val - 0x1000)) 4 (v.toNat &&& 0x1F1F1F1F) }) ∧
      (0x1100 ≤ w.val → exec (.vectorTableWrite r n w v) s = .next { s with
        fsets := Memory.writeN s.fsets (n.val * 256 + 4 * (w.val - 0x1100)) 4 v.toNat })) ∧
    (s.atRest n = false → ∃ t, exec (.vectorTableWrite r n w v) s = .next t ∧
      t.rd (F.VSW_ERR.TBL_BUSY (halfOfSlot n)) = 1 ∧ s.onlyRegs t [F.VSW_ERR.TBL_BUSY (halfOfSlot n)])) ∧
  (∀ (s : State) (r : Req) (c : Fin 256) (v : Word32), s.mayWrite r .vsw (some (c.val / 128)) = true →
    (s.selMay c v.toNat = true → ∃ t, exec (.vswSelWrite r c v) s = .next t ∧
      t.rd (F.VSW_SEL.EN (selH c) (selC c)) = bits v.toNat 31 1 ∧ t.rd (F.VSW_SEL.SITE (selH c) (selC c)) = bits v.toNat 24 4 ∧
      t.rd (F.VSW_SEL.MATCH (selH c) (selC c)) = bits v.toNat 23 1 ∧ t.rd (F.VSW_SEL.ROT (selH c) (selC c)) = bits v.toNat 16 4 ∧
      t.rd (F.VSW_SEL.LANE (selH c) (selC c)) = bits v.toNat 8 5 ∧ t.rd (F.VSW_SEL.SRC (selH c) (selC c)) = bits v.toNat 0 6 ∧
      (bits v.toNat 31 1 = 0 → (t.chan c).role = 0) ∧ (∀ d, d ≠ c.val → t.chan d = s.chan d) ∧
      t = { s with regs := t.regs, chans := t.chans } ∧
      s.keepsRegs t [F.VSW_SEL.EN (selH c) (selC c), F.VSW_SEL.SITE (selH c) (selC c), F.VSW_SEL.MATCH (selH c) (selC c),
        F.VSW_SEL.ROT (selH c) (selC c), F.VSW_SEL.LANE (selH c) (selC c), F.VSW_SEL.SRC (selH c) (selC c)]) ∧
    (s.selMay c v.toNat = false → ∃ t, exec (.vswSelWrite r c v) s = .next t ∧ t.rd (F.VSW_ERR.SEL_BUSY (selH c)) = 1 ∧
      s.onlyRegs t [F.VSW_ERR.SEL_BUSY (selH c)]))

/-- A confirmed branch leaves the order, a mispredicted one restores its checkpoint, sump records leave, fabric writes
wait for theirs. SPEC_RESOLVE of the oldest branch of a gang, its results in (R150-R152, R159, R160): foreseen, it
leaves the order, SPEC_BRANCHES counts, and no vector depends on its tag any more; otherwise, its delay slots done,
SPEC_MISPRED counts, no branch and no provisional vector remains in the gang, the counters, stack and generators are
those of the checkpoint, and the gang goes to the other way (unless a waiting PAUSE stops it there, R164); with its
delay slots still to run only the target changes. SUMP_RELEASE of the oldest confirmed record of a bay, under STALL
once the bay has room for its entries, removes exactly that record and USED counts it off (R156, R157, R220); without
room nothing changes. FABRIC_RESULT_WRITE of an open endpoint (R66, R165): into the ledger path it is refused with
nothing written; into the result area of a job while provisional records are with the fabric it is held; otherwise to
host memory it leaves. FABRIC_WRITE_RELEASE of a held write whose data is here and whose records have resolved drops
it with a count if one was squashed and the job is not committed, and lets it leave otherwise. -/
def Obligations.BranchesResolveAndProvisionalWritesWait : Prop :=
  (∀ (s : State) (n : Fin 104) (late : Nat) (b : Branch) (rest : List Branch),
    (s.eng n).brs = b :: rest → (s.eng n).leader = n.val → s.winArrived n b.win = true → b.isBr = true →
    (s.condVal n b.scnd 0 b.win = b.taken → (∀ q ∈ rest, q.effect = false) →
      ∃ t, exec (.specResolve n late) s = .next t ∧ (t.eng n).brs = rest ∧
        t.rd (F.FPU_SPX_BR.SPEC_BRANCHES n) = min (2 ^ 32 - 1) (s.rd (F.FPU_SPX_BR.SPEC_BRANCHES n) + 1) ∧
        (∀ m ∈ s.gang n, ∀ v ∈ (t.eng m).vecs, v.tag ≠ some b.tag) ∧ t.bankMem = s.bankMem ∧ t.seqMem = s.seqMem ∧
        s.outside t [.eng, .fpu, .chn, .dmc, .snp, .dbg]) ∧
    (∀ k, s.condVal n b.scnd 0 b.win ≠ b.taken → b.chk = some k → (k.gens.map (·.slot)).Nodup →
      ∃ t, exec (.specResolve n late) s = .next t ∧ (t.eng n).brs = [] ∧
        ((s.eng n).pauseReq = false → t.pc n = seqWrap b.other) ∧
        t.rd (F.FPU_SPX_MP.SPEC_MISPRED n) = min (2 ^ 32 - 1) (s.rd (F.FPU_SPX_MP.SPEC_MISPRED n) + 1) ∧
        (t.eng n).cnt = k.cnt ∧ (t.eng n).stk = k.stk ∧
        (∀ g ∈ k.gens, (t.eng g.slot).x = g.x ∧ (t.eng g.slot).y = g.y ∧ (t.eng g.slot).lfsr = g.lfsr) ∧
        (∀ m ∈ s.gang n, ∀ v ∈ (t.eng m).vecs, v.tag = none) ∧ t.bankMem = s.bankMem ∧ t.seqMem = s.seqMem) ∧
    (s.condVal n b.scnd 0 b.win ≠ b.taken → b.chk = none →
      ∃ t, exec (.specResolve n late) s = .next t ∧ (t.eng n).brs = rest ∧ (t.eng n).dst = b.other ∧
        ((s.eng n).pauseReq = false → t.pc n = s.pc n))) ∧
  (∀ (s : State) (n : Fin 104) (b : Fin 8) (r : SumpRec),
    (((s.eng n).sump.filter (fun q => q.conf && q.bay == b.val)).find? (fun q =>
      ((s.eng n).sump.filter (fun q => q.conf && q.bay == b.val)).all (fun p => decide (q.cyc ≤ p.cyc)))) = some r →
    ((∃ g, s.jobEngOf n = some g ∧ g.cap.ovf = 0 ∧ 16384 < s.rd (F.FPU_FP_STAT.USED b) + r.entries g.cap) →
      exec (.sumpRelease n b) s = .next s) ∧
    ((∀ g, s.jobEngOf n = some g → g.cap.ovf = 0 → s.rd (F.FPU_FP_STAT.USED b) + r.entries g.cap ≤ 16384) →
    ∃ t, exec (.sumpRelease n b) s = .next t ∧ (t.eng n).sump = (s.eng n).sump.erase r ∧
      t.rd (F.FPU_SPX_SUMP.USED n) = (s.rd (F.FPU_SPX_SUMP.USED n) - 1) % 2 ^ 11 ∧
      (∀ m, m ≠ n.val → t.eng m = s.eng m) ∧
      t = { s with regs := t.regs, engs := t.engs, bays := t.bays, ctxs := t.ctxs } ∧ s.outside t [.fpu])) ∧
  (∀ (s u : State) (e : Fin 64) (taken : List Nat) (tag : Fin 256) (dev : Bool) (addr : Word64) (len : Fin 65) (data : Desc),
    u = s.each (List.range 4) (fun s k => s.takeWords (4 * (e.val / 32) + k) (taken.getD k 0)) →
    s.on (F.FAB_NE_STAT.DOWN e) = false → s.niFenced (niOfEndpoint e) = false →
    (dev = false → s.ledgerPath addr.toNat len = true → ∃ t, exec (.fabricResultWrite e taken tag dev addr len data) s = .next t ∧
      (∃ p, (t.ni (niOfEndpoint e)).got = (s.ni (niOfEndpoint e)).got ++ [p] ∧ p.opc = 0x42 ∧ p.attr = 6) ∧
      t = { u with nis := t.nis }) ∧
    ((dev = true ∨ s.ledgerPath addr.toNat len = false) → s.resultArea dev addr.toNat len = true →
      (∃ k, k < 4 ∧ (u.bay (4 * (e.val / 32) + k)).deliv ≠ []) →
      ∃ t, exec (.fabricResultWrite e taken tag dev addr len data) s = .next t ∧
        t.fabHeld.length = s.fabHeld.length + 1 ∧ t = { u with fabHeld := t.fabHeld }) ∧
    (dev = false → s.ledgerPath addr.toNat len = false → s.resultArea dev addr.toNat len = false → s.linkUp = true →
      s.heldOut = [] → ∃ t, exec (.fabricResultWrite e taken tag dev addr len data) s = .next t ∧
        t.out = s.out ++ [.write addr.toNat len data.toNat] ∧ t = { u with out := t.out, nis := t.nis })) ∧
  (∀ (s : State) (h : Fin 2) (w : FabWr),
    s.fabHeld.find? (fun w => w.ep / 32 = h.val && w.here && w.waits.isEmpty) = some w →
    (w.squashed = true → s.resultArea w.dev w.addr w.len = true → ∃ t, exec (.fabricWriteRelease h) s = .next t ∧ t.fabHeld = s.fabHeld.erase w ∧
      t.rd (F.FPU_SPX_FAB.DROP h) = min (2 ^ (F.FPU_SPX_FAB.DROP h).w - 1) (s.rd (F.FPU_SPX_FAB.DROP h) + 1) ∧
      t = { s with regs := t.regs, fabHeld := t.fabHeld, nis := t.nis } ∧ s.keepsRegs t [F.FPU_SPX_FAB.DROP h]) ∧
    (w.squashed = false ∨ s.resultArea w.dev w.addr w.len = false → w.dev = false → s.linkUp = true → s.heldOut = [] →
      ∃ t, exec (.fabricWriteRelease h) s = .next t ∧ t.fabHeld = s.fabHeld.erase w ∧
        t.out = s.out ++ [.write w.addr w.len w.data] ∧ t = { s with fabHeld := t.fabHeld, out := t.out, nis := t.nis }))

/-- A channel's result ends its wait and counts; entries leave oldest first; the cache merges, fills and evicts lines.
COMPARE_RESULT of a channel that a vector which has left S awaits (R202-R211): while a strobe edge may still come,
only its edges are noted; otherwise the vector awaits it no more; a result neither discarded nor captured, on a
channel with MATCH fed by an engine, joins the match results as failed exactly if a position failed. The last result
of its site in the bay for a confirmed vector without other fails adds the failing positions to FCNT, saturating at
2^48 - 1, and sets VALID. SSG_EDGE_TIMEOUT closes the oldest open burst, adds its UIs without an edge to MISS and the
surplus edges to EXTRA and marks each member that compares in such a UI (R190). FAIL_ENTRY_DRAIN moves the oldest
entry of its engine to the queue while that has room (R213), and a capture record to its job's section (R212).
FCC_ENTRY_ACCEPT (R218) of an entry with an operation: a hit merges it and counts, a miss takes a free way, a full set
marks one line for write-back and keeps the entry. FCC_FLUSH marks every line; FCC_WRITEBACK_ACK frees an accepted
line, counts EVICT, and otherwise wakes its interface and waits (R219). -/
def Obligations.ResultsAreComparedAndStagedInOrder : Prop :=
  (∀ (s x : State) (n : Fin 104) (cyc : Nat) (c : Fin 256) (hi lo strobe : Wave) (v : Vec),
    s.vecOf n cyc = some v → c.val ∈ v.wait → leftS v.clk ((s.waitOut (s.leaderOf n) v.clk).now n) = true →
    x = (s.waitOut (s.leaderOf n) v.clk).noteStrobe c strobe →
    (x.resultOut c = false → (∃ k, k < x.positions c (eTset v.entry) ∧ x.posOpen c v k = true) →
      exec (.compareResult n cyc c hi lo strobe) s = .next x) ∧
    (x.resultOut c = true ∨ (∀ k, k < x.positions c (eTset v.entry) → x.posOpen c v k = false) →
      ∃ t, exec (.compareResult n cyc c hi lo strobe) s = .next t ∧
      t = { s with fresh := t.fresh, regs := t.regs, bus := t.bus, ctxs := t.ctxs, engs := t.engs, bays := t.bays,
                   chans := t.chans, ssgs := t.ssgs, dmcs := t.dmcs, trcs := t.trcs, snap := t.snap, nis := t.nis } ∧
      s.outside t [.eng, .chn, .fpu, .dmc, .snp, .dbg] ∧
      (∃ u, t.vecOf n cyc = some u ∧ u.wait = v.wait.filter (· ≠ c.val) ∧
        (x.resultOut c = false → eCapt v.entry = false → x.on (F.VSW_SEL.MATCH (selH c) (selC c)) = true → x.selPort c = none →
          u.res = v.res ++ [(x.siteOf c, decide ((x.compareMask n c v ⟨hi, lo⟩).1.1 ≠ 0))])) ∧
      (x.resultOut c = false → eCapt v.entry = false → x.matchOnly n (eFset v.entry) = false → v.tag = none → v.sump = [] →
        v.fails = [] → (∀ d ∈ v.wait, d ≠ c.val → bayOfChan d ≠ bayOfChan c ∨ x.siteOf d ≠ x.siteOf c) →
        (x.compareMask n c v ⟨hi, lo⟩).1.1 ≠ 0 →
        t.rd (F.FPU_FCNT.FCNT c) = min (2 ^ 48 - 1)
          (s.rd (F.FPU_FCNT.FCNT c) + popCount 16 (x.compareMask n c v ⟨hi, lo⟩).1.1) ∧
        t.rd (F.FPU_FF_INFO.VALID c) = 1 ∧ ((s.eng n).clrf ≤ v.clk → (t.eng n).sticky = true)))) ∧
  (∀ (s x : State) (b : Fin 8) (g : Fin 4) (strobe : Wave), s.on (F.CHN_SSG_CFG.EN b g) = true → x = s.noteEdges b g strobe →
    x.rd (F.CHN_SSG_STAT.EXTRA b g) = min (2 ^ (F.CHN_SSG_STAT.EXTRA b g).w - 1)
      (s.rd (F.CHN_SSG_STAT.EXTRA b g) + ((x.ssgRun b g).2 - (s.ssg b g).extra)) ∧
    ((x.ssgRun b g).1.find? (fun q => !q.burst.shut) = none → exec (.ssgEdgeTimeout b g strobe) s = .next x) ∧
    (∀ q, (x.ssgRun b g).1.find? (fun q => !q.burst.shut) = some q →
      ∃ t, exec (.ssgEdgeTimeout b g strobe) s = .next t ∧
      t.rd (F.CHN_SSG_STAT.MISS b g) = min (2 ^ (F.CHN_SSG_STAT.MISS b g).w - 1)
        (s.rd (F.CHN_SSG_STAT.MISS b g) + (q.burst.len * (s.ssgPar b g).uic - q.got.length)) ∧
      (q.got.length < q.burst.len * (s.ssgPar b g).uic → ∀ e ∈ q.burst.cmps,
        q.got.length < (e.2 + 1 - q.burst.first) * (s.ssgPar b g).uic → t.rd (F.CHN_STAT.SS_MISS e.1) = 1) ∧
      (∀ u ∈ (t.ssg b g).bursts, u.first = q.burst.first → u.shut = true) ∧
      t = { s with regs := t.regs, ssgs := t.ssgs } ∧ s.outside t [.chn])) ∧
  (∀ (s : State) (b : Fin 8) (k : Nat) (e : FailEnt), (s.bay b).buf[k]? = some e → s.entryFirst b e = true → e.isCap = false →
    (s.bay b).queue.length < 64 →
    ∃ t, exec (.failEntryDrain b k) s = .next t ∧ (t.bay b).buf = (s.bay b).buf.eraseIdx k ∧
      (t.bay b).queue = (s.bay b).queue ++ [e] ∧ t.rd (F.FPU_FP_STAT.USED b) = (s.rd (F.FPU_FP_STAT.USED b) - 1) %
        2 ^ (F.FPU_FP_STAT.USED b).w ∧
      (∀ a, a ≠ b.val → t.bay a = s.bay a) ∧ t = { s with regs := t.regs, bays := t.bays } ∧
      s.keepsRegs t [F.FPU_FP_STAT.USED b]) ∧
  (∀ (s : State) (b : Fin 8) (k : Nat) (e : FailEnt) (j : Job), (s.bay b).buf[k]? = some e → s.entryFirst b e = true →
    e.isCap = true → s.front e.ctx = some j → j.caps.length < j.capRoom →
    ∃ t q, exec (.failEntryDrain b k) s = .next t ∧ (t.bay b).buf = (s.bay b).buf.eraseIdx k ∧ (t.bay b).queue = (s.bay b).queue ∧
      t.front e.ctx = some q ∧ q.caps = j.caps ++ [(e.chs.headD (0, 0)).2] ∧ q.seq = j.seq ∧ q.status = j.status ∧
      t = { s with regs := t.regs, bays := t.bays, ctxs := t.ctxs } ∧ s.keepsRegs t [F.FPU_FP_STAT.USED b]) ∧
  (∀ (s : State) (b : Fin 8) (e : FailEnt) (rest : List FailEnt) (j : JobEng) (o : FccOp), (s.bay b).queue = e :: rest →
    (s.front e.ctx).bind (fun q => q.engs.find? (fun g => g.le = e.le)) = some j → (s.entryOp b e j).1 = some o →
    (∀ l, (s.fccOf (b.val / 4)).find? (fun l => l.takes o) = some l → ∃ t, exec (.fccEntryAccept b) s = .next t ∧
      (t.bay b).queue = rest ∧ t.rd (F.FPU_FCC_HIT.HIT (b.val / 4)) = min (2 ^ (F.FPU_FCC_HIT.HIT (b.val / 4)).w - 1)
        (s.rd (F.FPU_FCC_HIT.HIT (b.val / 4)) + 1) ∧
      (∃ m ∈ t.fccOf (b.val / 4), m.addr = l.addr ∧ m.isLog = l.isLog ∧ m.data = l.data ||| o.data ∧ m.mask = l.mask ||| o.mask)) ∧
    ((s.fccOf (b.val / 4)).find? (fun l => l.takes o) = none →
      ((s.fccOf (b.val / 4)).filter (fun l => fccSet l.addr = fccSet o.addr)).length < 16 →
      ∃ t, exec (.fccEntryAccept b) s = .next t ∧ (t.bay b).queue = rest ∧
        t.fccOf (b.val / 4) = s.fccOf (b.val / 4) ++ [⟨o.addr, o.isLog, o.data, o.mask, 2 ^ e.ctx, false⟩]) ∧
    ((s.fccOf (b.val / 4)).find? (fun l => l.takes o) = none →
      16 ≤ ((s.fccOf (b.val / 4)).filter (fun l => fccSet l.addr = fccSet o.addr)).length →
      (∀ l ∈ s.fccOf (b.val / 4), fccSet l.addr = fccSet o.addr → l.wb = false) →
      ∃ t, exec (.fccEntryAccept b) s = .next t ∧ (t.bay b).queue = e :: rest ∧
        (∃ l ∈ t.fccOf (b.val / 4), fccSet l.addr = fccSet o.addr ∧ l.wb = true) ∧
        (t.fccOf (b.val / 4)).length = (s.fccOf (b.val / 4)).length)) ∧
  (∀ (s : State) (r : Req) (h : Fin 2), s.mayWrite r .fpu (some h.val) = true → ∃ t, exec (.fccFlush r h) s = .next t ∧
    t.fccOf h = (s.fccOf h).map (fun l => { l with wb := true }) ∧
    t.rd (F.FPU_FCC_CTL.FLUSH h) = (if s.fccOf h = [] then 0 else 1) ∧ t = { s with regs := t.regs, fcc := t.fcc } ∧
    s.keepsRegs t [F.FPU_FCC_CTL.FLUSH h, F.FPU_FCC_STAT.LINES h]) ∧
  (∀ (s : State) (h : Fin 2) (addr : Nat) (l : FccLine), (s.fccOf h).find? (fun l => l.addr = addr && l.wb) = some l →
    (s.dramAccepts h l.addr (if l.isLog then 1 else 2) = true → ∃ t, exec (.fccWritebackAck h addr) s = .next t ∧
      t.fccOf h = (s.fccOf h).erase l ∧ t.rd (F.FPU_FCC_EVICT.EVICT h) = min (2 ^ (F.FPU_FCC_EVICT.EVICT h).w - 1)
        (s.rd (F.FPU_FCC_EVICT.EVICT h) + 1) ∧
      t = { s with regs := t.regs, fcc := t.fcc, dmcs := t.dmcs } ∧ s.outside t [.fpu, .dmc]) ∧
    (s.dramAccepts h l.addr (if l.isLog then 1 else 2) = false →
      exec (.fccWritebackAck h addr) s = .next (s.wakeDram (s.dramIf h l.addr))))

/-- A pending stream setting waits for an empty buffer; a still job frees its slots, then drains, is written and is ready
to commit. FFS_CTL_APPLY (R223, R232): the fabric takes words from the front of the bay's stream while its clock runs,
and LEVEL follows; a pending setting takes effect exactly if the buffer is empty, and is then pending no more;
disabling the stream discards what stands before the fabric (R225). JOB_STOP (R229) of a running PATTERN job whose
engines have all stopped with nothing left to resolve: the job is stopping, with its sequence number and status kept,
and each of its slots is free, without vectors, and reads IDLE unless it is FENCED or SPARE; while it is not still
nothing changes. JOB_DRAIN_DONE of a stopping job with no entry left in a buffer or queue and its lines taken by the
controllers: the job is done, without another cause and without a fenced port used with status 0 if it counted no fail
and 1 otherwise (R63); with a fenced port used it is 0x12 with DETAIL 0x205 (R141); a settled cause stays. -/
def Obligations.JobsEndInStepsAndStreamsTakeTheirSettings : Prop :=
  (∀ (s u : State) (b : Fin 8) (taken : Nat), u = s.takeWords b taken →
    u.ffsWords b = (s.ffsWords b).drop (if s.gclkOn (b.val / 4) (s.rd (F.FPU_FFS_CTL.CLKSEL b)) then taken else 0) ∧
    u.rd (F.FPU_FFS_STAT.LEVEL b) = (u.bay b).stream.length % 2 ^ (F.FPU_FFS_STAT.LEVEL b).w ∧
    (u.bay b).ffsPend = (s.bay b).ffsPend ∧ u = { s with regs := u.regs, bays := u.bays } ∧
    s.keepsRegs u [F.FPU_FFS_STAT.LEVEL b] ∧
    (∀ v, (u.bay b).ffsPend = some v → (u.bay b).stream = [] → ∃ t, exec (.ffsCtlApply b taken) s = .next t ∧
      t.rd (F.FPU_FFS_CTL.EN b) = bits v 0 1 ∧ t.rd (F.FPU_FFS_CTL.CLKSEL b) = bits v 1 4 ∧ (t.bay b).ffsPend = none ∧
      t.ffsWords b = (if s.on (F.FPU_FFS_CTL.EN b) && !bit v 0 then [] else u.ffsWords b) ∧
      t = { s with regs := t.regs, bays := t.bays } ∧ s.keepsRegs t [F.FPU_FFS_CTL.EN b, F.FPU_FFS_CTL.CLKSEL b,
        F.FPU_FFS_STAT.LEVEL b, F.FPU_FFS_STAT.DROP b]) ∧
    ((u.bay b).ffsPend = none ∨ (u.bay b).stream ≠ [] → exec (.ffsCtlApply b taken) s = .next u)) ∧
  (∀ (s : State) (c : Fin 64) (j : Job), s.front c = some j →
    (j.phase = .running → dType j.desc = 2 → j.restart = false → s.jobStill c = true →
      ∃ t, exec (.jobStop c) s = .next t ∧
        (∃ k, t.front c = some k ∧ k.phase = .stopping ∧ k.seq = j.seq ∧ k.status = j.status ∧ k.desc = j.desc) ∧
        (∀ n ∈ s.jobSlots c, (t.eng n).ctx = none ∧ (t.eng n).vecs = [] ∧
          (if s.slotState n = stFenced ∨ s.slotState n = stSpare then t.slotState n = s.slotState n
            else t.slotState n = stIdle)) ∧
        t = { s with regs := t.regs, ctxs := t.ctxs, engs := t.engs, bays := t.bays } ∧ s.outside t [.eng, .fpu]) ∧
    (s.jobStill c = false → exec (.jobStop c) s = .next s)) ∧
  (∀ (s : State) (c : Fin 64) (j : Job), s.front c = some j → j.phase = .stopping →
    (∀ b, b < 8 → (∀ e ∈ (s.bay b).buf, e.ctx ≠ c.val) ∧ ∀ e ∈ (s.bay b).queue, e.ctx ≠ c.val) →
    (∀ h, h < 2 → ∀ l ∈ s.fccOf h, bit l.ctxs c = true → s.dramAccepts h l.addr (if l.isLog then 1 else 2) = true) →
    ∃ t, exec (.jobDrainDone c) s = .next t ∧ t.engs = s.engs ∧ t.bankMem = s.bankMem ∧ t.dram = s.dram ∧
      ∃ k, t.front c = some k ∧ k.phase = .done ∧ k.seq = j.seq ∧
        (j.status = none → j.portUsed = false → k.status = some (if j.fails = 0 then 0 else 1) ∧ k.detail = 0) ∧
        (j.status = none → j.portUsed = true → k.status = some 0x12 ∧ k.detail = 0x205) ∧
        (j.settled = true → k.status = j.status ∧ k.detail = j.detail))

/-- UIs per cycle that a value of CHN_CFG_n asks for; the reserved code acts as the reset value (R9, R197). -/
def uicOf (v : Nat) : Nat := match bits v 2 2 with | 1 => 8 | 2 => 16 | _ => 4

/-- Channel, strobe-group, timing-set and record writes are taken only while the channel is idle; offsets follow the
sensors. For a requester that may write: CHN_CFG_WRITE of a busy channel or of a serial rate out of range sets
CFG_DISC alone (R184); otherwise MODE, UIC, TCOMP and LPBK are the value's, and a change of MODE or UIC sets MODE_CHG,
clears SER_LOCK and drives the channel low (R185). MODE_CHANGE_DONE clears MODE_CHG and SER_LOCK is 1 exactly in
serial mode. SSG_CFG_WRITE changes nothing unless the old and new source and members are idle; a window that does not
open before it closes leaves EN 0 (R188). TSET_WINDOW_HOLD holds the word for its requester; TSET_COMMIT writes the 32
bytes of held and present words and empties the holds; on a busy channel each sets TSET_BUSY alone (R187).
SENSOR_SAMPLE records every reading and marks the failed ones with 0x800 (R192). TEMP_RECOMPUTE changes nothing under
HOLD; an idle compensated channel with a good sensor takes its whole new offsets, other compensated ones move each by
at most one unit. CAL_RECORD_HOLD and CAL_RECORD_COMMIT write a record of an idle channel and take its offsets whole,
of a busy one they set CFG_DISC alone (R200). -/
def Obligations.ChannelSettingsChangeAtRestAndOffsetsFollowTheSensors : Prop :=
  (∀ (s : State) (r : Req) (c : Fin 256) (v : Word32), s.mayWrite r .chn (some (c.val / 128)) = true →
    (s.chIdle c = false ∨ (bits v.toNat 0 2 = 1 ∧ s.rateBad (s.clk (selH c)).fw (uicOf v.toNat) = true) →
      ∃ t, exec (.chnCfgWrite r c false v) s = .next t ∧ t.rd (F.CHN_STAT.CFG_DISC c) = 1 ∧
        s.onlyRegs t [F.CHN_STAT.CFG_DISC c]) ∧
    (s.chIdle c = true → (bits v.toNat 0 2 ≠ 1 ∨ s.rateBad (s.clk (selH c)).fw (uicOf v.toNat) = false) → ∃ t, exec (.chnCfgWrite r c false v) s = .next t ∧
      t.rd (F.CHN_CFG.MODE c) = bits v.toNat 0 2 ∧ t.rd (F.CHN_CFG.UIC c) = bits v.toNat 2 2 ∧
      t.rd (F.CHN_CFG.TCOMP c) = bits v.toNat 15 1 ∧ t.rd (F.CHN_CFG.LPBK c) = bits v.toNat 20 1 ∧
      (s.rd (F.CHN_CFG.MODE c) ≠ bits v.toNat 0 2 ∨ s.rd (F.CHN_CFG.UIC c) ≠ bits v.toNat 2 2 →
        t.rd (F.CHN_STAT.MODE_CHG c) = 1 ∧ t.rd (F.CHN_STAT.SER_LOCK c) = 0 ∧ (t.chan c).dLevel = false ∧
        (t.chan c).eLevel = false ∧ (t.chan c).events = []) ∧
      (∀ d, d ≠ c.val → t.chan d = s.chan d) ∧ t = { s with regs := t.regs, chans := t.chans } ∧ s.outside t [.chn])) ∧
  (∀ (s : State) (c : Fin 256), s.on (F.CHN_STAT.MODE_CHG c) = true → ∃ t, exec (.modeChangeDone c) s = .next t ∧
    t.rd (F.CHN_STAT.MODE_CHG c) = 0 ∧ t.rd (F.CHN_STAT.SER_LOCK c) = (if s.serial c then 1 else 0) ∧
    (∀ d, d ≠ c.val → t.chan d = s.chan d) ∧ t = { s with regs := t.regs, chans := t.chans } ∧
    s.keepsRegs t [F.CHN_STAT.MODE_CHG c, F.CHN_STAT.SER_LOCK c]) ∧
  (∀ (s : State) (r : Req) (b : Fin 8) (g : Fin 4) (v : Word32), s.mayWrite r .chn (some (b.val / 4)) = true →
    (s.chIdle (s.ssgSrc b g) = false → exec (.ssgCfgWrite r b g false v) s = .next s) ∧
    (s.chIdle (s.ssgSrc b g) = true → s.chIdle (32 * b.val + bits v.toNat 8 5) = true →
      (∀ c, c / 32 = b.val → s.on (F.CHN_CFG.SSM c) = true → s.rd (F.CHN_CFG.SSG c) = g.val → s.chIdle c = true) →
      ∃ t, exec (.ssgCfgWrite r b g false v) s = .next t ∧ t.rd (F.CHN_SSG_CFG.WIN_CLOSE b g) = bits v.toNat 24 8 ∧
        t.rd (F.CHN_SSG_CFG.WIN_OPEN b g) = bits v.toNat 16 8 ∧ t.rd (F.CHN_SSG_CFG.SRC b g) = bits v.toNat 8 5 ∧
        t.rd (F.CHN_SSG_CFG.EN b g) = (if bits v.toNat 16 8 < bits v.toNat 24 8 then bits v.toNat 7 1 else 0) ∧
        t = { s with regs := t.regs } ∧ s.outside t [.chn])) ∧
  (∀ (s : State) (r : Req) (c : Fin 256) (k : Fin 64) (w : Fin 7) (v : Word32), s.mayWrite r .win (some (c.val / 128)) = true →
    (s.chIdle c = true →
      (∃ t, exec (.tsetWindowHold r c k w v) s = .next t ∧ t.held r (chanWord c (32 * k + 4 * w)) = some v.toNat ∧
        t = { s with holds := t.holds }) ∧
      (∃ t, exec (.tsetCommit r c k v) s = .next t ∧ t.held r (chanWord c (32 * k + 4 * w)) = none ∧
        t.tsets = Memory.writeN s.tsets (c.val * 2048 + 32 * k.val) 32 (((List.range 7).map (fun i =>
          (s.held r (chanWord c (32 * k + 4 * i))).getD (s.tsetWord c k i) * 2 ^ (32 * i))).foldl (· + ·) (v.toNat * 2 ^ 224)) ∧
        t = { s with holds := t.holds, tsets := t.tsets })) ∧
    (s.chIdle c = false →
      (∃ t, exec (.tsetWindowHold r c k w v) s = .next t ∧ t.rd (F.CHN_STAT.TSET_BUSY c) = 1 ∧
        s.onlyRegs t [F.CHN_STAT.TSET_BUSY c]) ∧
      (∃ t, exec (.tsetCommit r c k v) s = .next t ∧ t.rd (F.CHN_STAT.TSET_BUSY c) = 1 ∧
        s.onlyRegs t [F.CHN_STAT.TSET_BUSY c]))) ∧
  (∀ (s : State) (temps : List (Option (BitVec 12))), temps.length ≤ 64 →
    ∃ t, exec (.sensorSample temps) s = .next t ∧
      (∀ i v, temps[i]? = some (some v) → t.rd (F.CHN_TSENS.TEMP (i / 8) (i % 8)) = v.toNat ∧ t.sensBad i = false) ∧
      (∀ i : Nat, temps[i]? = some none → t.rd (F.CHN_TSENS.TEMP (i / 8) (i % 8)) = 0x800 ∧ t.sensBad i = true) ∧
      t = { s with regs := t.regs } ∧ s.outside t [.chn]) ∧
  (∀ (s : State) (b : Fin 8),
    (s.on (F.CHN_CAL_CTL.HOLD b) = true → exec (.tempRecompute b) s = .next s) ∧
    (s.on (F.CHN_CAL_CTL.HOLD b) = false → ∃ t, exec (.tempRecompute b) s = .next t ∧
      (∀ c ∈ chansOfBay b, s.on (F.CHN_CFG.TCOMP c) = true → s.sensBad (s.calRec c).sens = false → t.calRec c =
        { s.calRec c with ofs := if s.chIdle c then (s.newOfs c (s.calRec c)).1
          else ((s.calRec c).ofs.zip (s.newOfs c (s.calRec c)).1).map (fun e => stepTo e.1 e.2) }) ∧
      (∀ c, c ∉ chansOfBay b ∨ s.on (F.CHN_CFG.TCOMP c) = false ∨ s.sensBad (s.calRec c).sens = true →
        t.calRec c = s.calRec c) ∧
      t = { s with regs := t.regs, calRecs := t.calRecs } ∧ s.outside t [.chn])) ∧
  (∀ (s : State) (r : Req) (c : Fin 256) (w : Fin 8) (v : Word32), s.mayWrite r .win (some (c.val / 128)) = true →
    (s.recOk c = true →
      (∃ t, exec (.calRecordHold r c w v) s = .next t ∧ t.held r (chanWord c (0x800 + 4 * w)) = some v.toNat ∧
        t = { s with holds := t.holds }) ∧
      (∃ t, exec (.calRecordCommit r c v) s = .next t ∧ (t.calRec c).sens = bits v.toNat 16 6 ∧
        (t.calRec c).tcal = bits v.toNat 0 12 ∧
        (t.calRec c).base = (List.range 4).map (fun p =>
          (s.held r (chanWord c (0x800 + 4 * (2 * p)))).getD (s.recWord c (2 * p)) % 2 ^ 16) ∧
        (s.on (F.CHN_CFG.TCOMP c) = false ∨ s.sensBad (bits v.toNat 16 6) = false →
          (t.calRec c).ofs = (s.newOfs c (t.calRec c)).1) ∧
        t.held r (chanWord c (0x800 + 4 * w)) = none ∧ (∀ d, d ≠ c.val → t.calRec d = s.calRec d) ∧
        t = { s with regs := t.regs, holds := t.holds, calRecs := t.calRecs } ∧ s.outside t [.chn])) ∧
    (s.recOk c = false →
      (∃ t, exec (.calRecordHold r c w v) s = .next t ∧ t.rd (F.CHN_STAT.CFG_DISC c) = 1 ∧
        s.onlyRegs t [F.CHN_STAT.CFG_DISC c]) ∧
      (∃ t, exec (.calRecordCommit r c v) s = .next t ∧ t.rd (F.CHN_STAT.CFG_DISC c) = 1 ∧
        s.onlyRegs t [F.CHN_STAT.CFG_DISC c])))

/-- A bank that is ON is read and written, RETENTION wakes, OFF answers an error; power moves take their time; loans keep
the data. BANK_ACCESS of at most 8 bytes or an aligned line (R259-R264, R378, R444). By the PF through BAR4, below the
reserved segment, without copies elsewhere: with its banks ON and good check bits a read answers the bytes and changes
nothing else, a write (of the supervisor, the Pruner or an engine too) puts them there and leaves every other byte;
with a bank OFF a read answers 0xFFFF_FFFF and sets OFF and HOST_ERR; with its one bank in RETENTION it waits and the
bank starts to move. In the reserved segment the PF reads 0 and writes nothing, the supervisor and the Pruner write;
an access across its border reads the part below it, and 0 above; beyond the half a read answers an error. Any other
access is split and leaves every byte outside it. BANK_CE_WRITEBACK writes the corrected word back. BANK_PWR_WRITE
starts each of the word's banks that stands elsewhere and is not on loan. BANK_PWR_DONE with no access waiting ends
the move; a bank turned OFF has lost its bytes below the reserved segment. COPPICE_LOAN_START (its supervisor not
fenced), SWITCH_OVER, TEST_DONE and SWITCH_BACK (R270-R273) step PHASE 0, 1, 2, 3, 0 with the bank of the loan, TESTS
counting; a failed test adopts the loan bank, sets COP_FAIL and LOAN_LOST and stops Coppice. -/
def Obligations.BankMemoryAnswersByPowerStateAndLoansKeepIt : Prop :=
  (∀ (s : State) (h : Fin 2) (addr : Fin 0x2000000) (len : Fin 65), s.por = false → 4 ≤ s.rd F.GLB_STATE.STATE → len.val ≠ 0 →
    (∀ v : Desc, addr.val + len.val ≤ 0x1FC0000 → (∀ l, (s.holders h l) = []) → s.bankJoins = [] →
      (∀ w ∈ wordsOf addr len, s.bankUeAt h w = false ∧ s.bankCur h (w % 64) = 0) →
      ∃ t, exec (.bankAccess h 0 (.fn 0) addr len (some v) .clean) s = .next t ∧
        (∀ k, k < bankKey h addr ∨ bankKey h addr + len.val ≤ k → Memory.read t.bankMem k = Memory.read s.bankMem k) ∧
        t = { s with bankMem := t.bankMem, bankUe := t.bankUe, banks := t.banks, engs := t.engs, joinNo := t.joinNo }) ∧
    ((len.val ≤ 8 ∨ (len.val = 64 ∧ addr.val % 64 = 0)) → addr.val + len.val ≤ 0x1FC0000 →
      (∀ l, (s.holders h l) = []) → (∀ w ∈ wordsOf addr len, s.bankUeAt h w = false) →
      ((∀ w ∈ wordsOf addr len, s.bankCur h (w % 64) = 0) →
        (∃ t, exec (.bankAccess h 0 (.fn 0) addr len none .clean) s = .next t ∧ Table.get 0 t.bus 0 = s.bankRead h addr len ∧
          t = { s with bus := t.bus }) ∧
        (∀ (m : Fin 5) (v : Desc), m.val ≠ 1 → ∃ t, exec (.bankAccess h m (.fn 0) addr len (some v) .clean) s = .next t ∧
          t.bankRead h addr len = v.toNat % 256 ^ len.val ∧
          (∀ k, k < bankKey h addr ∨ bankKey h addr + len.val ≤ k → Memory.read t.bankMem k = Memory.read s.bankMem k) ∧
          t = { s with bankMem := t.bankMem, bankUe := t.bankUe, banks := t.banks, engs := t.engs })) ∧
      ((∃ w ∈ wordsOf addr len, s.bankCur h (w % 64) = 2) →
        ∃ t, exec (.bankAccess h 0 (.fn 0) addr len none .clean) s = .next t ∧ Table.get 0 t.bus 0 = 0xFFFFFFFF ∧
          t.rd (F.BNK_ERR.OFF h) = 1 ∧ t.rd (F.NOC_ERR.HOST_ERR h) = 1 ∧ t = { s with regs := t.regs, bus := t.bus } ∧
          s.keepsRegs t [F.BNK_ERR.OFF h, F.NOC_ERR.HOST_ERR h]) ∧
      ((∀ w ∈ wordsOf addr len, w % 64 = bankOf addr) → s.bankCur h (bankOf addr) = 1 →
        ∃ t, exec (.bankAccess h 0 (.fn 0) addr len none .clean) s = .next t ∧ t.bankCur h (bankOf addr) = 3 ∧
          (t.bankH h).waits.length = (s.bankH h).waits.length + 1 ∧ Table.get 0 (t.bankH h).target (bankOf addr) = 1 ∧
          t = { s with regs := t.regs, banks := t.banks } ∧ s.outside t [.bnk])) ∧
    ((len.val ≤ 8 ∨ (len.val = 64 ∧ addr.val % 64 = 0)) → 0x1FC0000 ≤ addr.val → addr.val + len.val ≤ 0x2000000 →
      (∃ t, exec (.bankAccess h 0 (.fn 0) addr len none .clean) s = .next t ∧ Table.get 0 t.bus 0 = 0 ∧ t = { s with bus := t.bus }) ∧
      (∀ v : Desc, exec (.bankAccess h 0 (.fn 0) addr len (some v) .clean) s = .next s) ∧
      (∀ (m : Fin 5) (v : Desc), m.val = 2 ∨ m.val = 3 → ∃ t, exec (.bankAccess h m (.fn 0) addr len (some v) .clean) s = .next t ∧
        t.bankRead h addr len = v.toNat % 256 ^ len.val ∧
        (∀ k, k < bankKey h addr ∨ bankKey h addr + len.val ≤ k → Memory.read t.bankMem k = Memory.read s.bankMem k))) ∧
    (len.val ≤ 8 → addr.val < 0x1FC0000 → 0x1FC0000 < addr.val + len.val → (∀ l, (s.holders h l) = []) → s.bankJoins = [] →
      (∀ w ∈ wordsOf addr (0x1FC0000 - addr.val), s.bankUeAt h w = false ∧ s.bankCur h (w % 64) = 0) →
      ∃ t, exec (.bankAccess h 0 (.fn 0) addr len none .clean) s = .next t ∧
        Table.get 0 t.bus 0 = s.bankRead h addr (0x1FC0000 - addr.val) ∧ t = { s with bus := t.bus, joinNo := t.joinNo }) ∧
    (0x2000000 < addr.val + len.val → ∃ t, exec (.bankAccess h 0 (.fn 0) addr len none .clean) s = .next t ∧
      Table.get 0 t.bus 0 = 0xFFFFFFFF ∧ t.rd (F.NOC_ERR.HOST_ERR h) = 1 ∧ t = { s with regs := t.regs, bus := t.bus } ∧
      s.keepsRegs t [F.NOC_ERR.HOST_ERR h])) ∧
  (∀ (s : State) (h : Fin 2) (e : Nat × Nat) (rest : List (Nat × Nat)), (s.bankH h).writeback = e :: rest →
    ∃ t, exec (.bankCeWriteback h) s = .next t ∧ t.bankRead h e.1 8 = e.2 % 256 ^ 8 ∧ (t.bankH h).writeback = rest ∧
      t = { s with bankMem := t.bankMem, banks := t.banks }) ∧
  (∀ (s : State) (r : Req) (h : Fin 2) (k : Fin 4) (v : Word32), s.mayWrite r .bnk (some h.val) = true →
    ∃ t, exec (.bankPwrWrite r h k v) s = .next t ∧ t.rd (F.BNK_PWR.STATE h k) = v.toNat ∧
      (∀ i, i < 16 → s.onLoan h (16 * k.val + i) = false → Table.get 0 (s.bankH h).target (16 * k.val + i) = 0 →
        ∀ q, q = (if bits v.toNat (2 * i) 2 = 3 then 0 else bits v.toNat (2 * i) 2) →
        (s.bankCur h (16 * k.val + i) = q → t.bankCur h (16 * k.val + i) = q ∧
          Table.get 0 (t.bankH h).target (16 * k.val + i) = 0) ∧
        (s.bankCur h (16 * k.val + i) ≠ q → t.bankCur h (16 * k.val + i) = 3 ∧
          Table.get 0 (t.bankH h).target (16 * k.val + i) = 1 + q)) ∧
      t = { s with regs := t.regs, banks := t.banks } ∧ s.outside t [.bnk]) ∧
  (∀ (s : State) (h : Fin 2) (b : Fin 64) (c : Nat), Table.get 0 (s.bankH h).target b = c + 1 → c < 3 → (s.bankH h).waits = [] →
    ∃ t, exec (.bankPwrDone h b) s = .next t ∧ t.bankCur h b = c ∧ Table.get 0 (t.bankH h).target b = 0 ∧
      (c ≠ 2 → t.bankMem = s.bankMem ∧ t.engs = s.engs) ∧
      (c = 2 → ∀ a, a < 0x1FC0000 → bankOf a = b.val → Memory.read t.bankMem (bankKey h a) = 0) ∧
      t = { s with regs := t.regs, banks := t.banks, bankMem := t.bankMem, bankUe := t.bankUe, engs := t.engs } ∧
      s.outside t [.bnk]) ∧
  (∀ (s : State) (h : Fin 2),
    (∀ b, s.on (F.BNK_COP_CTL.EN h) = true → s.isFenced (216 + h.val) = false → s.on (F.BNK_COP_STAT.LOAN_LOST h) = false → s.rd (F.BNK_COP_STAT.PHASE h) = 0 →
      s.copNext h = some b → ∃ t, exec (.coppiceLoanStart h) s = .next t ∧ t.rd (F.BNK_COP_STAT.PHASE h) = 1 ∧
        t.rd (F.BNK_COP_STAT.BANK h) = b ∧ s.onlyRegs t [F.BNK_COP_STAT.PHASE h, F.BNK_COP_STAT.BANK h]) ∧
    (s.rd (F.BNK_COP_STAT.PHASE h) = 1 → (s.bankH h).stopped = false → ∃ t, exec (.coppiceSwitchOver h) s = .next t ∧
      t.rd (F.BNK_COP_STAT.PHASE h) = 2 ∧ s.onlyRegs t [F.BNK_COP_STAT.PHASE h]) ∧
    (s.rd (F.BNK_COP_STAT.PHASE h) = 2 →
      (∃ t, exec (.coppiceTestDone h true) s = .next t ∧ t.rd (F.BNK_COP_STAT.PHASE h) = 3 ∧
        s.onlyRegs t [F.BNK_COP_STAT.PHASE h]) ∧
      (∃ t, exec (.coppiceTestDone h false) s = .next t ∧ t.rd (F.BNK_COP_STAT.PHASE h) = 0 ∧
        t.rd (F.BNK_ERR.COP_FAIL h) = 1 ∧ t.rd (F.BNK_COP_STAT.LOAN_LOST h) = 1 ∧
        t.rd (F.BNK_COP_STAT.ADOPTED h) = s.rd (F.BNK_COP_STAT.BANK h) % 64 ∧ (t.bankH h).stopped = true ∧
        t.bankMem = s.bankMem)) ∧
    (s.rd (F.BNK_COP_STAT.PHASE h) = 3 → ∃ t, exec (.coppiceSwitchBack h) s = .next t ∧ t.rd (F.BNK_COP_STAT.PHASE h) = 0 ∧
      t.rd (F.BNK_COP_STAT.TESTS h) = min (2 ^ 16 - 1) (s.rd (F.BNK_COP_STAT.TESTS h) + 1) ∧
      (t.bankH h).next = (s.rd (F.BNK_COP_STAT.BANK h) + 1) % 64 ∧
      t = { s with regs := t.regs, banks := t.banks } ∧ s.outside t [.bnk]))

/-- A pending read of the line after a write of it has entered (R239). -/
def Sys2Proof.Machine.writeSince (line : Nat) (o : DramOp) : DramOp :=
  if o.line = line ∧ o.kind = 0 then { o with since := true } else o

/-- Requests queue in order and see earlier writes; a scheduled write changes its line; a bad read reports; the window
reads lines. A request of a line in range and open to its master reaches its interface with nothing waiting there
(R241, R242, R253). With MCK gated it waits and the exit starts. Else, with room and no write of the line pending, it
goes last in the queue, a read with the line as the queue's writes leave it; with 48 reads a read waits. In the
reserved area a master without full access writes nothing; a line out of range sets ADDR. DRAM_SCHEDULE in RUN (R243):
the request picked leaves the queue; a read is under way and counts; a write's masked bytes are in DRAM; a
read-OR-write ORs, unless its read is bad: then the mask alone stands, poisoned (R245). DRAM_READ_RETURN: the read is
under way no more; a bad one sets UE, counts, records its line; a corrected one sets CE likewise (R239). A window read
answers its bytes, or all ones with HOST_ERR. DRAM_REFRESH marks its bank and shows MR4, nothing in self-refresh
(R233). DRAM_WINDOW_READ of at most 8 aligned bytes: 0 in the reserved area, all ones with errors out of range, else
its line is read, or served at once from a covering write; DRAM_WINDOW_WRITE likewise writes nothing, sets the errors,
or queues its bytes (R256). DRAM_INIT_SWEEP changes nothing that can be seen (log entry 18). -/
def Obligations.DramRequestsQueueScheduleAndReturn : Prop :=
  (∀ (s : State) (h : Fin 2) (line : Fin 0x40000000) (full : Bool), lineAddr line + 64 ≤ s.usable h →
    (full = true ∨ dramReserved (lineAddr line) = false) →
    ∀ n, n = s.dramIf h (lineAddr line) → (s.dmc n).held = [] → (s.dmc n).entering = false →
    (∀ (mask : Word64) (id : Fin 0x110000), ∀ o, o = dramRd (lineAddr line) mask.toNat id none →
      (s.mckGated n = true → (s.dmc n).refHold = false → ∃ t, exec (.dramReadReq h line mask id full) s = .next t ∧
        t.dmc n = { s.dmc n with held := [o], exiting := true } ∧ (∀ m, m ≠ n → t.dmc m = s.dmc m) ∧ t = { s with dmcs := t.dmcs }) ∧
      (s.mckGated n = false → (s.dmc n).reads < 48 → (s.dmc n).youngest (lineAddr line) = none →
        ∃ t, exec (.dramReadReq h line mask id full) s = .next t ∧
        (t.dmc n).q = (s.dmc n).q ++ [{ o with data := s.lineView h (lineAddr line), bad := s.poisonView h (lineAddr line) }] ∧
        (t.dmc n).held = [] ∧ (∀ m, m ≠ n → t.dmc m = s.dmc m) ∧ t = { s with dmcs := t.dmcs }) ∧
      (s.mckGated n = false → 48 ≤ (s.dmc n).reads → ∃ t, exec (.dramReadReq h line mask id full) s = .next t ∧
        t.dmc n = { s.dmc n with held := [o] } ∧ (∀ m, m ≠ n → t.dmc m = s.dmc m) ∧ t = { s with dmcs := t.dmcs })) ∧
    (s.mckGated n = false → (s.dmc n).writes < 48 → (s.dmc n).youngest (lineAddr line) = none →
      (∀ (mask : Word64) (data : Desc), ∃ t, exec (.dramWriteReq h line mask data full) s = .next t ∧
        (t.dmc n).q = (s.dmc n).q.map (writeSince (lineAddr line)) ++ [dramWr 1 (lineAddr line) mask.toNat data.toNat []] ∧
        (t.dmc n).issued = (s.dmc n).issued.map (writeSince (lineAddr line)) ∧
        (∀ m, m ≠ n → t.dmc m = s.dmc m) ∧ t = { s with dmcs := t.dmcs }) ∧
      (∀ (data : Desc) (cs : Word64), ∃ t, exec (.dramReadOrWriteReq h line data cs full) s = .next t ∧
        (t.dmc n).q = (s.dmc n).q.map (writeSince (lineAddr line)) ++
          [dramWr 2 (lineAddr line) fullMask data.toNat (s.jobsOf cs.toNat)] ∧
        (t.dmc n).issued = (s.dmc n).issued.map (writeSince (lineAddr line)) ∧
        (∀ m, m ≠ n → t.dmc m = s.dmc m) ∧ t = { s with dmcs := t.dmcs }))) ∧
  (∀ (s : State) (h : Fin 2) (line : Fin 0x40000000) (mask : Word64) (data : Desc) (cs : Word64) (full : Bool),
    (lineAddr line + 64 ≤ s.usable h → dramReserved (lineAddr line) = true →
      exec (.dramWriteReq h line mask data false) s = .next s ∧ exec (.dramReadOrWriteReq h line data cs false) s = .next s) ∧
    (s.usable h < lineAddr line + 64 →
      (∀ id : Fin 0x110000, id.val < 2 ^ 20 → ∃ t, exec (.dramReadReq h line mask id full) s = .next t ∧
        t.rd (F.DMC_ERR.ADDR (s.dramIf h (lineAddr line))) = 1 ∧ s.onlyRegs t [F.DMC_ERR.ADDR (s.dramIf h (lineAddr line))]) ∧
      (∃ t, exec (.dramWriteReq h line mask data full) s = .next t ∧ t.rd (F.DMC_ERR.ADDR (s.dramIf h (lineAddr line))) = 1 ∧
        s.onlyRegs t [F.DMC_ERR.ADDR (s.dramIf h (lineAddr line))]) ∧
      (∃ t, exec (.dramReadOrWriteReq h line data cs full) s = .next t ∧
        t.rd (F.DMC_ERR.ADDR (s.dramIf h (lineAddr line))) = 1 ∧
        s.onlyRegs t [F.DMC_ERR.ADDR (s.dramIf h (lineAddr line))]))) ∧
  (∀ (s : State) (n : Fin 8) (banks : List (Fin 32)) (aged hits : List Nat) (e : Ecc) (i : Nat) (o : DramOp),
    s.rd (F.DMC_STAT.STATE n) = 2 → (s.dmc n).entering = false → (s.dmc n).drain = 0 → (s.dmc n).held = [] →
    s.dramPick n (banks.map (·.val)) aged hits = some i → (s.dmc n).q[i]? = some o →
    ∃ t, exec (.dramSchedule n banks aged hits e) s = .next t ∧
      (o.kind = 0 → (t.dmc n).q = (s.dmc n).q.eraseIdx i ∧ (t.dmc n).issued = (s.dmc n).issued ++ [o] ∧ t.dram = s.dram ∧
        t.rd (F.DMC_RD.RD n) = min (2 ^ 32 - 1) (s.rd (F.DMC_RD.RD n) + 1)) ∧
      ((∀ x ∈ (s.dmc n).q.eraseIdx i, x.line ≠ o.line) → (t.dmc n).q = (s.dmc n).q.eraseIdx i ∧ s.outside t [.dmc]) ∧
      (o.kind = 1 → t.dram = Memory.writeMasked s.dram (dramKey (n.val / 4) o.line) 64 o.mask o.data) ∧
      (o.kind = 2 → s.poisoned (n.val / 4) o.line = false → e ≠ .bad →
        t.dram = Memory.writeN s.dram (dramKey (n.val / 4) o.line) 64 (s.dramRead (n.val / 4) o.line 64 ||| o.data)) ∧
      (o.kind = 2 → s.poisoned (n.val / 4) o.line = true ∨ e = .bad →
        t.dram = Memory.writeN s.dram (dramKey (n.val / 4) o.line) 64 o.data ∧ t.poisoned (n.val / 4) o.line = true ∧
        t.rd (F.DMC_ERR.POISON_WR (s.dramIf (n.val / 4) o.line)) = 1) ∧
      (∀ m, m ≠ n.val → t.dmc m = s.dmc m) ∧
      t = { s with regs := t.regs, bus := t.bus, ctxs := t.ctxs, dram := t.dram, poison := t.poison, dmcs := t.dmcs, nis := t.nis }) ∧
  (∀ (s : State) (n : Fin 8) (k : Nat) (e : Ecc) (o : DramOp), (s.dmc n).issued[k]? = some o →
    ∃ t, exec (.dramReadReturn n k e) s = .next t ∧ (t.dmc n).issued = (s.dmc n).issued.eraseIdx k ∧
      (o.bad = true ∨ e = .bad → t.rd (F.DMC_ERR.UE n) = 1 ∧ t.rd (F.DMC_EADDR.EADDR n) = o.line % 2 ^ 64 ∧
        t.rd (F.DMC_UE.UE n) = min (2 ^ 32 - 1) (s.rd (F.DMC_UE.UE n) + 1) ∧
        (∀ r a len, o.win = some (r, a, len) → Table.get 0 t.bus r = 0xFFFFFFFF ∧ t.rd (F.NOC_ERR.HOST_ERR (n.val / 4)) = 1)) ∧
      (o.bad = false → e = .corrected → t.rd (F.DMC_ERR.CE n) = 1 ∧ t.rd (F.DMC_EADDR.EADDR n) = o.line % 2 ^ 64 ∧
        t.rd (F.DMC_CE.CE n) = min (2 ^ 32 - 1) (s.rd (F.DMC_CE.CE n) + 1)) ∧
      (o.bad = false → e = .clean → t.regs = s.regs) ∧
      (o.bad = false → e ≠ .bad → ∀ r a len, o.win = some (r, a, len) → Table.get 0 t.bus r = o.data / 256 ^ a % 256 ^ len) ∧
      (o.win = none → s.outside t [.dmc]) ∧
      t = { s with regs := t.regs, bus := t.bus, dmcs := t.dmcs, nis := t.nis }) ∧
  (∀ (s : State) (n : Fin 8) (b : Fin 32) (busy : Bool) (mr4 : BitVec 6),
    (s.mckGated n = true → exec (.dramRefresh n b busy mr4) s = .next s) ∧
    (s.mckGated n = false → ∃ t, exec (.dramRefresh n b busy mr4) s = .next t ∧
      Table.get 0 (t.dmc n).refresh b = (if busy then 1 else 0) ∧ (t.dmc n).q = (s.dmc n).q ∧
      t.rd (F.DMC_TEMP.MR4_A n) = mr4.toNat % 8 ∧ t.rd (F.DMC_TEMP.MR4_B n) = mr4.toNat / 8 ∧
      t = { s with regs := t.regs, dmcs := t.dmcs } ∧ s.keepsRegs t [F.DMC_TEMP.MR4_A n, F.DMC_TEMP.MR4_B n])) ∧
  (∀ (s : State) (r : Req) (h : Fin 2) (off : Fin 0x100000) (len : Fin 9), s.mayRead r 0x1600000 = true → len.val ≠ 0 →
    off.val % 8 + len.val ≤ 8 → ∀ a l n m, a = s.windowAddr h off → l = a / 64 * 64 → n = s.dramIf h l →
    m = (2 ^ len.val - 1) * 2 ^ (a % 64) →
    (a < s.usable h → dramReserved a = true → ∃ t, exec (.dramWindowRead r h off len) s = .next t ∧
      Table.get 0 t.bus (reqCode r) = 0 ∧ t = { s with bus := t.bus }) ∧
    (l + 64 ≤ s.usable h → dramReserved a = false → (s.dmc n).held = [] → (s.dmc n).entering = false → s.mckGated n = false →
      (s.dmc n).reads < 48 →
      ((s.dmc n).youngest l = none → ∃ t, exec (.dramWindowRead r h off len) s = .next t ∧
        (t.dmc n).q = (s.dmc n).q ++ [{ dramRd l m 0 (some (reqCode r, a % 64, len.val)) with
          data := s.lineView h l, bad := s.poisonView h l }] ∧ t = { s with dmcs := t.dmcs }) ∧
      (∀ y, (s.dmc n).youngest l = some y → y.kind = 1 → y.mask &&& m = m →
        ∃ t, exec (.dramWindowRead r h off len) s = .next t ∧ Table.get 0 t.bus (reqCode r) = s.dramPeek h a len ∧
          t.rd (F.DMC_FWD.FWD n) = min (2 ^ 32 - 1) (s.rd (F.DMC_FWD.FWD n) + 1) ∧
          t = { s with regs := t.regs, bus := t.bus, dmcs := t.dmcs } ∧ s.keepsRegs t [F.DMC_FWD.FWD n])) ∧
    (s.usable h ≤ a → ∃ t, exec (.dramWindowRead r h off len) s = .next t ∧ Table.get 0 t.bus (reqCode r) = 0xFFFFFFFF ∧
      t.rd (F.DMC_ERR.ADDR n) = 1 ∧ t.rd (F.NOC_ERR.HOST_ERR h) = 1 ∧ t = { s with regs := t.regs, bus := t.bus } ∧
      s.keepsRegs t [F.DMC_ERR.ADDR n, F.NOC_ERR.HOST_ERR h])) ∧
  (∀ (s : State) (r : Req) (h : Fin 2) (off : Fin 0x100000) (len : Fin 9) (v : Word64), s.mayWrite r .dmc (some h.val) = true →
    len.val ≠ 0 → off.val % 8 + len.val ≤ 8 → ∀ a l n, a = s.windowAddr h off → l = a / 64 * 64 → n = s.dramIf h l →
    (s.usable h ≤ a → ∃ t, exec (.dramWindowWrite r h off len v) s = .next t ∧ t.rd (F.DMC_ERR.ADDR (s.dramIf h a)) = 1 ∧
      t.rd (F.NOC_ERR.HOST_ERR h) = 1 ∧ s.onlyRegs t [F.DMC_ERR.ADDR (s.dramIf h a), F.NOC_ERR.HOST_ERR h]) ∧
    (l + 64 ≤ s.usable h → dramReserved l = true → exec (.dramWindowWrite r h off len v) s = .next s) ∧
    (l + 64 ≤ s.usable h → dramReserved l = false → (s.dmc n).held = [] → (s.dmc n).entering = false → s.mckGated n = false →
      (s.dmc n).writes < 48 → (s.dmc n).youngest l = none → ∃ t, exec (.dramWindowWrite r h off len v) s = .next t ∧
        (t.dmc n).q = (s.dmc n).q.map (writeSince l) ++ [dramWr 1 l ((2 ^ len.val - 1) * 2 ^ (a % 64))
          (v.toNat % 256 ^ len.val * 256 ^ (a % 64)) []] ∧
        (t.dmc n).issued = (s.dmc n).issued.map (writeSince l) ∧ t = { s with dmcs := t.dmcs })) ∧
  (∀ (s : State) (n : Fin 8), exec (.dramInitSweep n) s = .next s)

/-- A switch request is refused, held, deferred or started; steps end or fail an interface; self-refresh is entered at
rest and left. For a requester that may write. FSP_SWITCH_REQ (R247, R249, R254): with MCK gated it is held; one
pending keeps REQ; a set-point not valid or above the grade sets REFUSED with REQ 0; otherwise in RUN the interface is
SWITCHING with REQ 1 while its writes drain, in a retraining step it is deferred, or with URGENT the step is aborted
(RESULT 1) and the switch starts. FSP_SWITCH_DONE once drained: FSP_ACT is the request's target, REQ 0, MCK locked,
RUN. FSP_RATE_WRITE above the grade, of the active set-point or of a running switch's target (log entry 39) changes
nothing, of another one writes RATE and clears VALID. OSC_CHECK records DRIFT and starts a pass of 8 steps when it
exceeds THRESH (R248). RETRAIN_STEP starts a step; RETRAIN_STEP_DONE ends it, counts it, ends the pass with RESULT 0
at its last, with 2 if something was deferred to its end, and without a working setting leaves DEGRADED with RETR_FAIL
and RESULT 3. SELF_REFRESH_ENTRY with no read left and no job that references the half: SELF_REFRESH, once the writes
drained (R252). SR_ENTER requests an entry, after a step or switch, or at the exit while gated; SR_EXIT starts the
exit, now or after an entry or a REFCLK loss; SR_EXIT_DONE with nothing held and nothing drifted leaves RUN (R253). -/
def Obligations.DramSetPointsRetrainingAndSelfRefresh : Prop :=
  (∀ (s : State) (r : Req) (n : Fin 8) (urgent : Bool) (target : Fin 4), s.mayWrite r .dmc (some (n.val / 4)) = true →
    (s.rd (F.DMC_STAT.STATE n) = 5 → ∃ t, exec (.fspSwitchReq r n urgent target) s = .next t ∧
      t.dmc n = { s.dmc n with heldWr := (s.dmc n).heldWr ++ [(0x18, 8 * (if urgent then 1 else 0) + 4 + target.val)] } ∧
      t = { s with dmcs := t.dmcs }) ∧
    (s.rd (F.DMC_STAT.STATE n) ≠ 5 → s.on (F.DMC_FSP_CTL.REQ n) = true → ∃ t, exec (.fspSwitchReq r n urgent target) s = .next t ∧
      t.rd (F.DMC_FSP_CTL.TARGET n) = target.val ∧ s.onlyRegs t [F.DMC_FSP_CTL.TARGET n, F.DMC_FSP_CTL.URGENT n]) ∧
    (s.rd (F.DMC_STAT.STATE n) ≠ 5 → s.on (F.DMC_FSP_CTL.REQ n) = false → ∀ k, k = (if target.val = 3 then 1 else target.val) →
      (s.rd (F.DMC_FSP.VALID n k) = 0 ∨ s.rateAbove n k = true → ∃ t, exec (.fspSwitchReq r n urgent target) s = .next t ∧
        t.rd (F.DMC_FSP_CTL.REFUSED n) = 1 ∧ t.rd (F.DMC_FSP_CTL.REQ n) = 0 ∧ t.rd (F.DMC_FSP_CTL.TARGET n) = target.val ∧
        t.dmc n = { s.dmc n with deferred := false } ∧ t = { s with regs := t.regs, dmcs := t.dmcs } ∧
        s.keepsRegs t [F.DMC_FSP_CTL.REFUSED n, F.DMC_FSP_CTL.REQ n, F.DMC_FSP_CTL.TARGET n, F.DMC_FSP_CTL.URGENT n]) ∧
      (s.rd (F.DMC_FSP.VALID n k) ≠ 0 → s.rateAbove n k = false →
        ((s.dmc n).inStep = false → (s.dmc n).entering = false → s.rd (F.DMC_STAT.STATE n) = 2 →
          ∃ t, exec (.fspSwitchReq r n urgent target) s = .next t ∧
          t.rd (F.DMC_STAT.STATE n) = 4 ∧ t.rd (F.DMC_FSP_CTL.REQ n) = 1 ∧ (t.dmc n).switching = true ∧ (t.dmc n).target = k ∧
          (t.dmc n).stepsLeft = 0 ∧ (t.dmc n).drain = (s.dmc n).writes ∧
          ((s.dmc n).stepsLeft ≠ 0 → t.rd (F.DMC_TRAIN.RESULT n) = 2) ∧
          ((s.dmc n).writes = 0 → t.rd (F.DMC_STAT.MCK_LOCK n) = 0) ∧ t = { s with regs := t.regs, dmcs := t.dmcs }) ∧
        ((s.dmc n).inStep = true → s.rd (F.DMC_STAT.STATE n) = 3 → urgent = false →
          ∃ t, exec (.fspSwitchReq r n urgent target) s = .next t ∧ (t.dmc n).deferred = true ∧ (t.dmc n).target = k ∧
          t.rd (F.DMC_FSP_CTL.REQ n) = 1 ∧ (t.dmc n).inStep = true ∧ t = { s with regs := t.regs, dmcs := t.dmcs }) ∧
        ((s.dmc n).inStep = true → (s.dmc n).stepsLeft ≠ 0 → urgent = true → ∃ t, exec (.fspSwitchReq r n urgent target) s = .next t ∧
          t.rd (F.DMC_TRAIN.RESULT n) = 1 ∧ t.rd (F.DMC_STAT.STATE n) = 4 ∧ (t.dmc n).inStep = false ∧
          (t.dmc n).switching = true)))) ∧
  (∀ (s : State) (n : Fin 8), (s.dmc n).switching = true → (s.dmc n).drain = 0 → (s.dmc n).deferred = false →
    (s.dmc n).srAfter = false → ∃ t, exec (.fspSwitchDone n) s = .next t ∧ t.rd (F.DMC_STAT.FSP_ACT n) = (s.dmc n).target % 4 ∧
      t.rd (F.DMC_FSP_CTL.REQ n) = 0 ∧ t.rd (F.DMC_STAT.STATE n) = 2 ∧ t.rd (F.DMC_STAT.MCK_LOCK n) = 1 ∧
      (t.dmc n).switching = false ∧ t = { s with regs := t.regs, dmcs := t.dmcs } ∧
      s.keepsRegs t [F.DMC_STAT.FSP_ACT n, F.DMC_FSP_CTL.REQ n, F.DMC_STAT.STATE n, F.DMC_STAT.MCK_LOCK n]) ∧
  (∀ (s : State) (r : Req) (n : Fin 8) (k : Fin 3) (rate : Fin 16), s.mayWrite r .dmc (some (n.val / 4)) = true →
    (s.rateOver rate = true → exec (.fspRateWrite r n k rate) s = .next s) ∧
    (s.rateOver rate = false → s.rd (F.DMC_STAT.STATE n) = 5 → ∃ t, exec (.fspRateWrite r n k rate) s = .next t ∧
      t.dmc n = { s.dmc n with heldWr := (s.dmc n).heldWr ++ [(0x0C + 4 * k.val, rate.val)] } ∧ t = { s with dmcs := t.dmcs }) ∧
    (s.rd (F.DMC_STAT.STATE n) ≠ 5 → k.val = s.rd (F.DMC_STAT.FSP_ACT n) ∨ ((s.dmc n).switching = true ∧ k.val = (s.dmc n).target) →
      exec (.fspRateWrite r n k rate) s = .next s) ∧
    (s.rateOver rate = false → s.rd (F.DMC_STAT.STATE n) ≠ 5 → k.val ≠ s.rd (F.DMC_STAT.FSP_ACT n) →
      ((s.dmc n).switching = true → k.val ≠ (s.dmc n).target) → ∃ t, exec (.fspRateWrite r n k rate) s = .next t ∧
      t.rd (F.DMC_FSP.RATE n k) = rate.val ∧ t.rd (F.DMC_FSP.VALID n k) = 0 ∧
      s.onlyRegs t [F.DMC_FSP.RATE n k, F.DMC_FSP.VALID n k])) ∧
  (∀ (s : State) (n : Fin 8) (d : Byte), s.on (F.DMC_CTL.RETR_EN n) = true → s.rd (F.DMC_STAT.STATE n) = 2 →
    (s.dmc n).entering = false → ∃ t, exec (.oscCheck n d) s = .next t ∧ t.rd (F.DMC_TRAIN.DRIFT n) = d.toNat ∧
      (d.toInt.natAbs ≤ s.eff (F.DMC_RETR.THRESH n) → s.onlyRegs t [F.DMC_TRAIN.DRIFT n]) ∧
      (s.eff (F.DMC_RETR.THRESH n) < d.toInt.natAbs → (s.dmc n).stepsLeft = 0 → (t.dmc n).stepsLeft = 8 ∧
        t.rd (F.DMC_TRAIN.PASSES n) = min (2 ^ 16 - 1) (s.rd (F.DMC_TRAIN.PASSES n) + 1) ∧ t.rd (F.DMC_TRAIN.STEP n) = 0 ∧
        t = { s with regs := t.regs, dmcs := t.dmcs } ∧
        s.keepsRegs t [F.DMC_TRAIN.DRIFT n, F.DMC_TRAIN.PASSES n, F.DMC_TRAIN.STEP n])) ∧
  (∀ (s : State) (n : Fin 8), (s.dmc n).stepsLeft ≠ 0 → s.rd (F.DMC_STAT.STATE n) = 2 → (s.dmc n).entering = false →
    ∃ t, exec (.retrainStep n) s = .next t ∧ t.rd (F.DMC_STAT.STATE n) = 3 ∧ (t.dmc n).inStep = true ∧
      t = { s with regs := t.regs, dmcs := t.dmcs } ∧ s.keepsRegs t [F.DMC_STAT.STATE n]) ∧
  (∀ (s : State) (n : Fin 8) (last : Bool), (s.dmc n).inStep = true →
    (∃ t, exec (.retrainStepDone n false last) s = .next t ∧ t.rd (F.DMC_TRAIN.RESULT n) = 3 ∧ t.rd (F.DMC_ERR.RETR_FAIL n) = 1 ∧
      t.rd (F.DMC_STAT.STATE n) = 6 ∧ (t.dmc n).noSet = true ∧ (t.dmc n).inStep = false ∧
      t = { s with regs := t.regs, dmcs := t.dmcs } ∧
      s.keepsRegs t [F.DMC_TRAIN.RESULT n, F.DMC_ERR.RETR_FAIL n, F.DMC_STAT.STATE n]) ∧
    ((s.dmc n).deferred = true ∨ (s.dmc n).srAfter = true → ∃ t, exec (.retrainStepDone n true last) s = .next t ∧
      t.rd (F.DMC_TRAIN.RESULT n) = 2 ∧ (t.dmc n).inStep = false ∧ (t.dmc n).stepsLeft = 0 ∧
      t = { s with regs := t.regs, dmcs := t.dmcs }) ∧
    ((s.dmc n).deferred = false → (s.dmc n).srAfter = false → ∃ t, exec (.retrainStepDone n true last) s = .next t ∧
      t.rd (F.DMC_TRAIN.STEP n) = min 15 (s.rd (F.DMC_TRAIN.STEP n) + 1) ∧ t.rd (F.DMC_STAT.STATE n) = 2 ∧
      (t.dmc n).inStep = false ∧
      (last = true ∨ (s.dmc n).stepsLeft ≤ 1 → t.rd (F.DMC_TRAIN.RESULT n) = 0 ∧ (t.dmc n).stepsLeft = 0) ∧
      (last = false → 1 < (s.dmc n).stepsLeft → (t.dmc n).stepsLeft = (s.dmc n).stepsLeft - 1) ∧
      t = { s with regs := t.regs, dmcs := t.dmcs } ∧
      s.keepsRegs t [F.DMC_TRAIN.RESULT n, F.DMC_TRAIN.STEP n, F.DMC_STAT.STATE n])) ∧
  (∀ (s : State) (n : Fin 8), (s.on (F.DMC_SR.AUTO n) = true ∨ (s.dmc n).enterReq = true) → s.srMay n = true →
    (s.dmc n).reads = 0 → (s.dmc n).issued = [] → (s.dmc n).switching = false →
    ∃ t, exec (.selfRefreshEntry n) s = .next t ∧ (t.dmc n).stepsLeft = 0 ∧
      ((s.dmc n).writes = 0 → t.rd (F.DMC_STAT.STATE n) = 5 ∧ t.rd (F.DMC_SR.ENTER n) = 0 ∧ (t.dmc n).enterReq = false ∧
        (t.dmc n).entering = false) ∧
      ((s.dmc n).writes ≠ 0 → (t.dmc n).entering = true ∧ (t.dmc n).drain = (s.dmc n).writes ∧ t.rd (F.DMC_STAT.STATE n) = 2) ∧
      (t.dmc n).q = (s.dmc n).q ∧ t = { s with regs := t.regs, dmcs := t.dmcs } ∧
      s.keepsRegs t [F.DMC_STAT.STATE n, F.DMC_SR.ENTER n, F.DMC_TRAIN.RESULT n]) ∧
  (∀ (s : State) (r : Req) (n : Fin 8), s.mayWrite r .dmc (some (n.val / 4)) = true →
    (s.rd (F.DMC_STAT.STATE n) = 5 → ∃ t, exec (.srEnter r n) s = .next t ∧
      t.dmc n = { s.dmc n with heldWr := (s.dmc n).heldWr ++ [(0x21, 0)] } ∧ t = { s with dmcs := t.dmcs }) ∧
    (s.rd (F.DMC_STAT.STATE n) ≠ 5 → ∃ t, exec (.srEnter r n) s = .next t ∧ t.rd (F.DMC_SR.ENTER n) = 1 ∧
      (t.dmc n).enterReq = true ∧
      (s.rd (F.DMC_STAT.STATE n) = 3 ∨ s.rd (F.DMC_STAT.STATE n) = 4 → (t.dmc n).srAfter = true) ∧
      t = { s with regs := t.regs, dmcs := t.dmcs } ∧ s.keepsRegs t [F.DMC_SR.ENTER n]) ∧
    ((s.dmc n).entering = true ∨ (s.rd (F.DMC_STAT.STATE n) = 5 ∧ (s.dmc n).refHold = true) →
      ∃ t, exec (.srExit r n) s = .next t ∧ t.dmc n = { s.dmc n with wake := true } ∧ t = { s with dmcs := t.dmcs }) ∧
    ((s.dmc n).entering = false → s.rd (F.DMC_STAT.STATE n) = 5 → (s.dmc n).refHold = false →
      ∃ t, exec (.srExit r n) s = .next t ∧ t.dmc n = { s.dmc n with exiting := true } ∧ t = { s with dmcs := t.dmcs }) ∧
    ((s.dmc n).entering = false → s.rd (F.DMC_STAT.STATE n) ≠ 5 → exec (.srExit r n) s = .next s)) ∧
  (∀ (s : State) (n : Fin 8), s.rd (F.DMC_STAT.STATE n) = 5 → (s.dmc n).exiting = true → (s.dmc n).refHold = false →
    (s.dmc n).heldWr = [] → (s.dmc n).held = [] → (s.dmc n).deferred = false →
    ∃ t, exec (.srExitDone n 0) s = .next t ∧ t.rd (F.DMC_STAT.STATE n) = 2 ∧
      t.rd (F.DMC_SR.EXIT n) = 0 ∧ (t.dmc n).exiting = false ∧ t.rd (F.DMC_TRAIN.DRIFT n) = 0 ∧
      t.rd (F.DMC_STAT.MCK_LOCK n) = 1 ∧ t = { s with regs := t.regs, dmcs := t.dmcs } ∧
      s.keepsRegs t [F.DMC_STAT.STATE n, F.DMC_SR.EXIT n, F.DMC_TRAIN.DRIFT n, F.DMC_STAT.MCK_LOCK n])

/-- The first removal folds a half to three quarters and loses what moved; the second ends its DRAM; the image comes back.
DRAM_REMOVAL of an interface without a working setting that is still in its interleave (R250, R251): of four, the half
goes on with three, DEAD names the removed one, USABLE is three quarters of the full size, the interface is DEGRADED
and out of the interleave, its network interface fenced, every byte of the removed granules and of the top quarter is
lost, the lines of the removed granules read as poisoned until written, and the image is to be restored; of three, the
half has no interface left and USABLE 0. Without a failed setting nothing changes. RESERVED_AREA_RESTORE of a half
that a removal has folded (R237): while the other half's DRAM serves, every byte that the other half lists for a moved
granule of the retained image stands in this half's image, those granules are poisoned as the other half's are, and no
register outside DRAM and debug changes; otherwise the image stays; without a fold to restore after, nothing changes. -/
def Obligations.RemovingAnInterfaceFoldsItsHalf : Prop :=
  (∀ (s : State) (n : Fin 8) (bad : List Nat),
    ((s.dmc n).noSet = false → exec (.dramRemoval n bad) s = .next s) ∧
    ((s.dmc n).noSet = true → s.on (F.DMC_STAT.IN_INTLV n) = true → ∃ t, exec (.dramRemoval n bad) s = .next t ∧
      t.rd (F.DMC_STAT.IN_INTLV n) = 0 ∧ t.rd (F.DMC_STAT.STATE n) = 6 ∧
      t.rd (F.NOC_NI_STAT.STATE (n.val / 4) (44 + n.val % 4)) = 2 ∧ ((s.dmc n).held = [] → (t.dmc n).q = []) ∧ (t.dmc n).noSet = false ∧
      (s.rd (F.DMC_HALF.NIF (n.val / 4)) = 4 →
        t.rd (F.DMC_HALF.NIF (n.val / 4)) = 3 ∧ t.rd (F.DMC_HALF.DEAD (n.val / 4)) = n.val % 4 ∧
        t.rd (F.DMC_USABLE.USABLE (n.val / 4)) = s.fullU (n.val / 4) * 3 / 4 % 2 ^ 64 ∧
        (∀ a, a < 2 ^ 40 → (s.fullU (n.val / 4) * 3 / 4 ≤ a ∨ a / 256 % 4 = n.val % 4) →
          Memory.read t.dram (dramKey (n.val / 4) a) = 0) ∧
        (Table.get false s.startFold (n.val / 4) = false → ∀ l, l < 2 ^ 40 → l / 256 % 4 = n.val % 4 →
          t.poisoned (n.val / 4) l = true) ∧ Table.get false t.restoring (n.val / 4) = true) ∧
      (s.rd (F.DMC_HALF.NIF (n.val / 4)) ≠ 4 →
        t.rd (F.DMC_HALF.NIF (n.val / 4)) = 0 ∧ t.rd (F.DMC_USABLE.USABLE (n.val / 4)) = 0))) ∧
  (∀ (s : State) (h : Fin 2),
    (s.rd (F.DMC_HALF.NIF h) ≠ 3 ∨ Table.get false s.restoring h = false → exec (.reservedAreaRestore h) s = .next s) ∧
    (s.rd (F.DMC_HALF.NIF h) = 3 → Table.get false s.restoring h = true → ∃ t, exec (.reservedAreaRestore h) s = .next t ∧
      (s.rd (F.DMC_HALF.NIF (1 - h.val)) ≠ 0 → s.canonical = true → ∀ a, a < 0x8000000 → s.foldMoved h a = true →
        Memory.read t.dram (dramKey h a) = Memory.read s.dram (dramKey (1 - h.val) a)) ∧
      (s.rd (F.DMC_HALF.NIF (1 - h.val)) ≠ 0 → ∀ a, a < 0x8000000 → a % 64 = 0 → s.foldMoved h a = true →
        t.poisoned h a = s.poisoned (1 - h.val) a) ∧
      (s.rd (F.DMC_HALF.NIF (1 - h.val)) = 0 → t.dram = s.dram ∧ t.poison = s.poison) ∧
      Table.get false t.restoring h = false ∧
      t = { s with regs := t.regs, bus := t.bus, dram := t.dram, poison := t.poison, restoring := t.restoring, dmcs := t.dmcs,
                   trcs := t.trcs, nis := t.nis } ∧
      s.outside t [.dmc, .dbg]))

/-- A generator setting is loaded or refused, relocks and loses lock; regional registers take words; endpoints stall, are
fenced and released. FCG_APPLY by a requester that may write: nothing while APPLY reads 1; a setting within R291 is
loaded into the generator, its outputs are low and LOCKED reads 0, and with EN the relock pends (APPLY 1); any other
sets CFG_ERR and nothing else (R292). FCG_RELOCK of an enabled generator out of lock: LOCKED 1, APPLY 0, outputs free.
FCG_LOCK_LOSS of a locked one without BYPASS: LOCKLOSS 1, LOCKED 0, outputs low (R305). RCLK_WRITE stores register A,
B or C of a region and no other (R293, R306). NE_RX_STALL_TIMEOUT of an enabled endpoint that is not down sets
RX_STALL alone (R302). NE_FENCE by a controller that may: the endpoint is FENCED and DOWN, its unit fenced with CAUSE
10 for a load or 8 for software, its network interface FENCED with an empty receive queue; DRAM, sequence memory and
every register outside fabric, supervisor, network, bank, host-interface and snapshot blocks stay; of a fenced
endpoint only the epoch moves on (R304, R521). NE_RELEASE_DONE of a fenced, enabled endpoint with empty queues that no
fault holds, outside a load: FENCED, DOWN, the unit's STATE and CAUSE and the interface's STATE read 0, its queues are
empty. -/
def Obligations.FabricClocksRelockAndEndpointsAreFenced : Prop :=
  (∀ (s : State) (r : Req) (h : Fin 2) (g : Fin 4) (hz : Nat), s.mayWrite r .fab (some h.val) = true →
    (s.on (F.FAB_FCG_CFG.APPLY h g) = true → exec (.fcgApply r h g hz) s = .next s) ∧
    (s.on (F.FAB_FCG_CFG.APPLY h g) = false →
      (fcgOk (s.fcgWord h g) (s.rd (F.FAB_FCG_DIV.O h g)) hz = true → ∃ t, exec (.fcgApply r h g hz) s = .next t ∧
        (t.fcg h g).cfg = s.fcgWord h g ∧ (t.fcg h g).div = s.rd (F.FAB_FCG_DIV.O h g) ∧ (t.fcg h g).low = true ∧
        t.rd (F.FAB_FCG_STAT.LOCKED h g) = 0 ∧ (t.on (F.FAB_FCG_CFG.APPLY h g) = true ↔ s.on (F.FAB_FCG_CFG.EN h g) = true) ∧
        (∀ i, i ≠ 4 * h.val + g.val → Table.get FcgSt.reset t.fcgs i = Table.get FcgSt.reset s.fcgs i) ∧
        t = { s with regs := t.regs, fcgs := t.fcgs } ∧ s.keepsRegs t [F.FAB_FCG_STAT.LOCKED h g, F.FAB_FCG_CFG.APPLY h g]) ∧
      (fcgOk (s.fcgWord h g) (s.rd (F.FAB_FCG_DIV.O h g)) hz = false → ∃ t, exec (.fcgApply r h g hz) s = .next t ∧
        t.rd (F.FAB_FCG_STAT.CFG_ERR h g) = 1 ∧ s.onlyRegs t [F.FAB_FCG_STAT.CFG_ERR h g]))) ∧
  (∀ (s : State) (h : Fin 2) (g : Fin 4),
    (s.on (F.FAB_FCG_CFG.EN h g) = true → s.on (F.FAB_FCG_STAT.LOCKED h g) = false → ∃ t, exec (.fcgRelock h g) s = .next t ∧
      t.rd (F.FAB_FCG_STAT.LOCKED h g) = 1 ∧ t.rd (F.FAB_FCG_CFG.APPLY h g) = 0 ∧ (t.fcg h g).low = false ∧
      (t.fcg h g).cfg = (s.fcg h g).cfg ∧ (t.fcg h g).div = (s.fcg h g).div ∧ t = { s with regs := t.regs, fcgs := t.fcgs } ∧
      s.keepsRegs t [F.FAB_FCG_STAT.LOCKED h g, F.FAB_FCG_CFG.APPLY h g]) ∧
    (s.on (F.FAB_FCG_STAT.LOCKED h g) = true → bit (s.fcg h g).cfg 6 = false → ∃ t, exec (.fcgLockLoss h g) s = .next t ∧
      t.rd (F.FAB_FCG_STAT.LOCKLOSS h g) = 1 ∧ t.rd (F.FAB_FCG_STAT.LOCKED h g) = 0 ∧ (t.fcg h g).low = true ∧
      t = { s with regs := t.regs, fcgs := t.fcgs } ∧
      s.keepsRegs t [F.FAB_FCG_STAT.LOCKED h g, F.FAB_FCG_STAT.LOCKLOSS h g])) ∧
  (∀ (s : State) (q : Req) (r : Fin 32) (v : Word32), s.mayWrite q .fab (some (r.val / 16)) = true →
    (∃ t, exec (.rclkWrite q r 0 v) s = .next t ∧ t.rd (F.FAB_RCLK_A.SEL_0_7 r) = v.toNat ∧ s.onlyRegs t [F.FAB_RCLK_A.SEL_0_7 r]) ∧
    (∃ t, exec (.rclkWrite q r 1 v) s = .next t ∧ t.rd (F.FAB_RCLK_B.SEL_8_11 r) = v.toNat % 2 ^ 16 ∧
      s.onlyRegs t [F.FAB_RCLK_B.SEL_8_11 r]) ∧
    (∃ t, exec (.rclkWrite q r 2 v) s = .next t ∧ t.rd (F.FAB_RCLK_C.GATE_EN r) = bits v.toNat 16 12 ∧
      t.rd (F.FAB_RCLK_C.ON r) = bits v.toNat 0 12 ∧ s.onlyRegs t [F.FAB_RCLK_C.GATE_EN r, F.FAB_RCLK_C.ON r])) ∧
  (∀ (s : State) (e : Fin 64), s.on (F.FAB_NE_CFG.EN e) = true → s.on (F.FAB_NE_STAT.DOWN e) = false →
    ∃ t, exec (.neRxStallTimeout e) s = .next t ∧ t.rd (F.FAB_NE_STAT.RX_STALL e) = 1 ∧ s.onlyRegs t [F.FAB_NE_STAT.RX_STALL e]) ∧
  (∀ (s : State) (e : Fin 64) (c : CtlFrom) (load : Bool), s.por = false → s.mayEndpoint e c = true →
    (s.isFenced (152 + e.val) = true → ∃ t, exec (.neFence e c load) s = .next t ∧
      t.rd (F.SUP_UNIT_STAT.STATE (152 + e.val)) = s.rd (F.SUP_UNIT_STAT.STATE (152 + e.val)) ∧
      t.rd (F.SUP_UNIT_STAT.CAUSE (152 + e.val)) = s.rd (F.SUP_UNIT_STAT.CAUSE (152 + e.val)) ∧
      (t.ni (niOfEndpoint e)).rxq = (s.ni (niOfEndpoint e)).rxq ∧ (∀ i, i ≠ niOfEndpoint e → t.ni i = s.ni i) ∧
      s.outside t [.sup, .snp] ∧ t = { s with regs := t.regs, snap := t.snap, nis := t.nis }) ∧
    (s.isFenced (152 + e.val) = false → ∃ t, exec (.neFence e c load) s = .next t ∧
      t.rd (F.FAB_NE_STAT.FENCED e) = 1 ∧ t.rd (F.FAB_NE_STAT.DOWN e) = 1 ∧ t.rd (F.SUP_UNIT_STAT.STATE (152 + e.val)) = 1 ∧
      t.rd (F.SUP_UNIT_STAT.CAUSE (152 + e.val)) = (if load then 10 else 8) ∧ t.niState (niOfEndpoint e) = 2 ∧
      (t.ni (niOfEndpoint e)).rxq = [] ∧ t.dram = s.dram ∧ t.seqMem = s.seqMem ∧ t.pending = s.pending ∧
      s.outside t [.fab, .sup, .noc, .bnk, .hif, .snp])) ∧
  (∀ (s : State) (e : Fin 64), s.isFenced (152 + e.val) = true → s.on (F.FAB_NE_CFG.EN e) = true →
    (s.ni (niOfEndpoint e)).broken = false → s.qHeld (endpointQ e) = false → (s.ni (niOfEndpoint e)).rxq = [] → (s.ni (niOfEndpoint e)).txq = [] →
    ∃ t, exec (.neReleaseDone e) s = .next t ∧ t.rd (F.FAB_NE_STAT.FENCED e) = 0 ∧ t.rd (F.FAB_NE_STAT.DOWN e) = 0 ∧
      t.rd (F.SUP_UNIT_STAT.STATE (152 + e.val)) = 0 ∧ t.rd (F.SUP_UNIT_STAT.CAUSE (152 + e.val)) = 0 ∧
      t.niState (niOfEndpoint e) = 0 ∧ (t.ni (niOfEndpoint e)).outst = [] ∧
      t = { s with regs := t.regs, nis := t.nis, ownEp := t.ownEp } ∧
      s.keepsRegs t [F.FAB_NE_STAT.FENCED e, F.FAB_NE_STAT.DOWN e, F.SUP_UNIT_STAT.STATE (152 + e.val),
        F.SUP_UNIT_STAT.CAUSE (152 + e.val), F.NOC_NI_STAT.STATE (niHalf (niOfEndpoint e)) (niL (niOfEndpoint e))])

/-- The slice at tile k has an operation of the edge still to do, and OP names it. -/
def Sys2Proof.Machine.State.sliceRuns (s : State) (k op : Nat) : Prop :=
  s.siteMay k .slice = true ∧ s.sliceClocked k = true ∧ s.extended k = false ∧ s.before.inps k 32 3 = op

/-- The accumulator of the slice at tile k takes the sum v; no other slice changes. -/
def Sys2Proof.Machine.State.sliceTakes (s t : State) (k : Nat) (v : Int) : Prop :=
  (t.slice k).acc = sNat 40 v ∧
  (t.slice k).ovf = (decide (v < -(2 ^ 39) ∨ 2 ^ 39 ≤ v) || ((s.before.slice k).ovf && !s.before.inp k 37)) ∧
  (∀ m, m ≠ k → t.slice m = s.slice m) ∧ t = { s with slices := t.slices, edge := t.edge }

/-- The data input of flip-flop a of cell c of the cluster at tile k (R280). -/
def Sys2Proof.Machine.State.ffData (b : State) (k c a : Nat) : Bool :=
  if a = 0 then
    match bits (b.cfgW k (3 * c + 2)) 0 2 with
    | 0 => (b.lut b.net k c).1 | 1 => b.sumOut b.net k c | 2 => b.inp k (7 * c + 6) | _ => (b.lut b.net k c).2
  else
    match bits (b.cfgW k (3 * c + 2)) 2 2 with
    | 0 => (b.lut b.net k c).2 | 1 => b.inp k (7 * c + 6) | 2 => b.carryOut b.net k c | _ => (b.lut b.net k c).1

/-- Each OP gives a slice its sum; a clocked port writes its row; an edge moves the flip-flops of its lines and nothing
else. A slice at an active edge with CE = 1, RST = 0, in no EXTEND pair and not saturating (R322, R324, R325), with
product P, addend C and cascade CI as they stood before the edge: SLICE_HOLD keeps ACC; SLICE_LOAD gives P + CI,
SLICE_MAC ACC + P + CI, SLICE_MSU ACC - P + CI, SLICE_LOADC C + CI, SLICE_ADDC ACC + C + CI, SLICE_MACC ACC + P + C +
CI, SLICE_CLR 0, modulo 2^40; OVF is set by a sum outside 40 signed bits and cleared only by OVF_CLR; no other slice
and nothing else changes but the edge's record of sites done. RST = 1 clears ACC and CE = 0 keeps it, whatever OP.
BRAM_ACCESS of a true dual-port memory of which port A alone is clocked and enabled: A's row takes the bits its WE
selects, every other row stays; without a mask no row changes and, without pipeline or reset, the latch takes the
addressed bits (R313, R314); with no port clocked nothing changes. REGIONAL_LINE_EDGE: the lines that may have their
edge have it; where no cell sets flip-flops asynchronously, the moment before it is kept, and a flip-flop of a used
cluster keeps its value unless its line's active edge comes, and then takes SRVAL under SR, its data input under CE,
or holds (R280); block memories, slices and the configuration stay. -/
def Obligations.SlicesAccumulateBlockMemoriesWriteAndEdgesClock : Prop :=
  (∀ (s : State) (k : Fin 139520) (b : State) (p c ci : Int), b = s.before → p = b.product k → c = b.addend k →
    ci = b.cascAs k (b.cascIn (sliceBase k) (sliceM k)) → b.headExt k = false → s.sliceW k 11 2 ≠ 1 →
    (b.inp k 35 = true → b.inp k 36 = false →
      (s.sliceRuns k 0 → ∃ t, exec (.sliceHold k) s = .next t ∧ s.sliceTakes t k (b.accVal k)) ∧
      (s.sliceRuns k 1 → ∃ t, exec (.sliceLoad k) s = .next t ∧ s.sliceTakes t k (p + ci)) ∧
      (s.sliceRuns k 2 → ∃ t, exec (.sliceMac k) s = .next t ∧ s.sliceTakes t k (b.accVal k + p + ci)) ∧
      (s.sliceRuns k 3 → ∃ t, exec (.sliceMsu k) s = .next t ∧ s.sliceTakes t k (b.accVal k - p + ci)) ∧
      (s.sliceRuns k 4 → ∃ t, exec (.sliceLoadc k) s = .next t ∧ s.sliceTakes t k (c + ci)) ∧
      (s.sliceRuns k 5 → ∃ t, exec (.sliceAddc k) s = .next t ∧ s.sliceTakes t k (b.accVal k + c + ci)) ∧
      (s.sliceRuns k 6 → ∃ t, exec (.sliceMacc k) s = .next t ∧ s.sliceTakes t k (b.accVal k + p + c + ci)) ∧
      (s.sliceRuns k 7 → ∃ t, exec (.sliceClr k) s = .next t ∧ s.sliceTakes t k 0)) ∧
    (∀ (i : Instr) (op : Nat), (i, op) ∈ [(Instr.sliceHold k, 0), (.sliceLoad k, 1), (.sliceMac k, 2), (.sliceMsu k, 3),
      (.sliceLoadc k, 4), (.sliceAddc k, 5), (.sliceMacc k, 6), (.sliceClr k, 7)] → s.sliceRuns k op →
      (b.inp k 36 = true → ∃ t, exec i s = .next t ∧ (t.slice k).acc = 0 ∧ (∀ m, m ≠ k.val → t.slice m = s.slice m) ∧
        t = { s with slices := t.slices, edge := t.edge }) ∧
      (b.inp k 35 = false → b.inp k 36 = false → ∃ t, exec i s = .next t ∧ (t.slice k).acc = (b.slice k).acc ∧
        (∀ m, m ≠ k.val → t.slice m = s.slice m) ∧ t = { s with slices := t.slices, edge := t.edge }))) ∧
  (∀ (s : State) (k : Fin 139520) (b : State) (a : PortAcc), b = s.before → a = s.portAcc b k false →
    (s.bramEdges k = (false, false) → exec (.bramAccess k) s = .next s) ∧
    (s.siteMay k .bram = true → s.bramW k 0 3 ≠ 7 → s.bramEdges k = (true, false) → b.inp k 23 = true →
      ∃ t, exec (.bramAccess k) s = .next t ∧ t = { s with bramX := t.bramX, brams := t.brams, edge := t.edge } ∧
        (a.mask ≠ 0 → t.bramRow k a.row = a.put (s.bramRow k a.row) ∧ (∀ r, r ≠ a.row → t.bramRow k r = s.bramRow k r)) ∧
        (a.mask = 0 → t.bramX = s.bramX ∧
          (s.bramW k 10 1 = 0 → b.inp k 25 = false →
            (t.bram k).latA ^^^ s.bramSr k false = a.get (s.bramRow k a.row))))) ∧
  (∀ (s : State) (lines : List (Fin 512 × Bool)) (pads driven : BitVec 96) (es : List (Nat × Bool)) (b : State),
    es = (lines.map (fun e => (e.1.val, e.2))).filter s.edgeMay →
    b = { s with padKeep := (s.keep s.keepers).padKeep, padExt := pads.toNat, padOn := driven.toNat, fresh := s.fresh + 1, edge := ⟨es, s.ffX, s.brams, s.slices, s.ios, s.ghWait, []⟩ } →
    ∃ t, exec (.regionalLineEdge lines pads driven) s = .next t ∧ t.edge.lines = es ∧
      (∀ e ∈ es, Table.get false t.lineHi e.1 = e.2) ∧
      (∀ n, n ∉ es.map (·.1) → Table.get false t.lineHi n = Table.get false s.lineHi n) ∧
      ((∀ u k, bit (s.ctlSet u k) 5 = false) → t.edge = b.edge ∧ ∀ k ∈ s.usedTiles, colKind (tileX k) = .cluster → ∀ c a, c < 16 → a < 2 →
        ∀ w j, w = s.cfgW k (3 * c + 2) → j = bits w (10 + 3 * a) 1 →
        (b.clocked (tileQ k) (s.ctlSet k j % 16) (bit (s.ctlSet k j) 4) = false → t.ffQ k c a = s.ffQ k c a) ∧
        (b.clocked (tileQ k) (s.ctlSet k j % 16) (bit (s.ctlSet k j) 4) = true →
          t.ffQ k c a = if b.inp k (114 + j) then bit w (12 + 3 * a)
            else if b.inp k (112 + j) then b.ffData k c a else s.ffQ k c a)) ∧
      t = { s with padKeep := b.padKeep, padExt := b.padExt, padOn := b.padOn, fresh := b.fresh, edge := t.edge, ffX := t.ffX, ios := t.ios, lineHi := t.lineHi,
                   ghWait := t.ghWait, gateOff := t.gateOff })

/-- Only interface id's record has changed among the network interfaces. -/
def Sys2Proof.Machine.State.onlyNi (s t : State) (id : Nat) : Prop := ∀ m, m ≠ id → t.ni m = s.ni m

/-- The packet a block presents at interface id. -/
def presented (id dest opc tag size attr addr data : Nat) : Pkt :=
  { opc := opc, src := id, dest := dest, tag := tag, size := size, attr := attr % 4, route := 0, addr := addr, data := data }

/-- Interfaces check and inject packets, rings deliver them, fences drain and answer, and routes avoid failed links.
NOC_INJECT of a new packet at an interface neither fenced nor draining: an ill-formed one or a request under a TAG in
use completes locally with NACK 0x0B or 0x0A; a request that its route reaches is outstanding, counted in OUT, and
under way unless its path crosses a failed link (R366, R372, R377); a response that no route reaches is discarded and
counted in LATE (R371); an endpoint without its clock sends none (R301); a draining interface takes no request; a
fenced one only counts FTALK flits (R381); otherwise the head of the transmit queue leaves, but for a destination
whose new route waits for older requests (R375). NOC_EJECT of a packet that a stop found corrupted only counts in
NOC_CRC (R382); of a packet with none of its flow before it (R374, R376): no room counts RECIRC; at its stop it joins
the receive queue, and a fenced interface answers a request with NACK 0x01 by its own route, if it has one (R380); a
packet for the other half crosses its bridge. NOC_RSP_TIMEOUT completes a request with NACK 0x09 and counts TMO
(R377). FENCE_REQ leaves an OPEN interface DRAINING; FENCE_ACK leaves it FENCED with empty queues (R379); NI_RELEASE
leaves it OPEN, its queues and requests empty (R381). ROUTE_TABLE_WRITE by one that may write sets the entry alone,
with RT_RSV for a reserved one (R372, R375). LINK_FAILED marks the link, sets LINK_FAIL, and afterwards no valid route
of an interface crosses a failed link (R382, R383); a link already failed changes nothing. -/
def Obligations.PacketsAreInjectedEjectedFencedAndRouted : Prop :=
  (∀ (s : State) (id : Fin 256) (dest opc tag : Byte) (size : Fin 65) (attr : Byte) (addr : Word64) (data : Desc) (p : Pkt),
    p = presented id dest.toNat opc.toNat tag.toNat size attr.toNat addr.toNat data.toNat → niExists id = true →
    (s.niState id = 2 → ∃ t, exec (.nocInject id true dest opc tag size attr addr data) s = .next t ∧
      t.rd (F.NOC_NI_STAT.FTALK (niHalf id) (niL id)) =
        min (2 ^ 16 - 1) (s.rd (F.NOC_NI_STAT.FTALK (niHalf id) (niL id)) + flitsOf p) ∧
      s.onlyRegs t [F.NOC_NI_STAT.FTALK (niHalf id) (niL id)]) ∧
    (s.niState id ≠ 2 → s.niRuns id = false → exec (.nocInject id true dest opc tag size attr addr data) s = .next s) ∧
    (s.niState id ≠ 2 → s.niRuns id = true → badPkt p = true → ∃ t, exec (.nocInject id true dest opc tag size attr addr data) s = .next t ∧
      (t.ni id).got = (s.ni id).got ++ [reply id p 0x42 0x0B p.addr 0] ∧ s.onlyNi t id ∧ t = { s with nis := t.nis }) ∧
    (s.niState id ≠ 2 → s.niRuns id = true → badPkt p = false → isRequest p.opc = true → (s.ni id).outst.any (fun o => o.tag = p.tag) = true →
      ∃ t, exec (.nocInject id true dest opc tag size attr addr data) s = .next t ∧
        (t.ni id).got = (s.ni id).got ++ [reply id p 0x42 0x0A p.addr 0] ∧ s.onlyNi t id ∧ t = { s with nis := t.nis }) ∧
    (s.niState id = 1 → s.niRuns id = true → badPkt p = false → isRequest p.opc = true →
      (s.ni id).outst.any (fun o => o.tag = p.tag) = false →
      exec (.nocInject id true dest opc tag size attr addr data) s = .next s) ∧
    (∀ q v, s.niState id = 0 → s.niRuns id = true → badPkt p = false → isRequest p.opc = true →
      (s.ni id).outst.any (fun o => o.tag = p.tag) = false → (s.ni id).outst.length < 256 → s.mapDram p = some q →
      v = s.route id q.dest → routeReserved (s.routeRaw id q.dest) = false → bit v 31 = true →
      (s.ni id).stale.contains q.dest = false → ∃ t, exec (.nocInject id true dest opc tag size attr addr data) s = .next t ∧
        (t.ni id).outst = (s.ni id).outst ++ [q] ∧
        t.rd (F.NOC_NI_STAT.OUT (niHalf id) (niL id)) = (s.ni id).outst.length + 1 ∧
        t.flights = (if s.routeBroken id v then s.flights else s.flights ++ [flightOf id v q]) ∧ s.onlyNi t id ∧
        (p.opc ≠ 2 ∨ niIsEndpoint id = false → t.fabHeld = s.fabHeld) ∧
        t = { s with regs := t.regs, nis := t.nis, flights := t.flights, fabHeld := t.fabHeld } ∧
        s.keepsRegs t [F.NOC_NI_STAT.OUT (niHalf id) (niL id)]) ∧
    (s.niState id ≠ 2 → s.niRuns id = true → badPkt p = false → isResponse p.opc = true → niL p.dest < 44 →
      bit (s.route id p.dest) 31 = false → routeReserved (s.routeRaw id p.dest) = false →
      ∃ t, exec (.nocInject id true dest opc tag size attr addr data) s = .next t ∧
        t.rd (F.NOC_NI_ERR.LATE (niHalf id) (niL id)) =
          min (2 ^ 8 - 1) (s.rd (F.NOC_NI_ERR.LATE (niHalf id) (niL id)) + 1) ∧ t.rd (F.NOC_ERR.NO_ROUTE (niHalf id)) = 1 ∧
        s.onlyRegs t [F.NOC_NI_ERR.LATE (niHalf id) (niL id), F.NOC_ERR.NO_ROUTE (niHalf id)]) ∧
    (∀ q rest, s.niState id ≠ 2 → (s.ni id).txq = q :: rest → bit (s.route id q.dest) 31 = true →
      (s.staleRoute id q.dest = true → exec (.nocInject id false dest opc tag size attr addr data) s = .next s)) ∧
    (∀ q rest, s.niState id ≠ 2 → (s.ni id).txq = q :: rest → bit (s.route id q.dest) 31 = true →
      s.staleRoute id q.dest = false →
      ∃ t, exec (.nocInject id false dest opc tag size attr addr data) s = .next t ∧ (t.ni id).txq = rest ∧
        t.flights = (if s.routeBroken id (s.route id q.dest) then s.flights
          else s.flights ++ [flightOf id (s.route id q.dest) q]) ∧ s.onlyNi t id ∧
        t = { s with nis := t.nis, flights := t.flights })) ∧
  (∀ (s : State) (k : Nat) (f : Flight), s.flights[k]? = some f →
    (s.flights.take k).any (fun g => g.pkt.src == f.pkt.src && g.pkt.dest == f.pkt.dest && g.mgmt == f.mgmt &&
      netOf g.pkt.opc == netOf f.pkt.opc) = false →
    (∀ full, ∃ t, exec (.nocEject k full true) s = .next t ∧ t.flights = s.flights.eraseIdx k ∧
      t.rd (F.NOC_CRC.CRC f.half) = min (2 ^ 32 - 1) (s.rd (F.NOC_CRC.CRC f.half) + 1) ∧
      t = { s with regs := t.regs, flights := t.flights } ∧ s.keepsRegs t [F.NOC_CRC.CRC f.half]) ∧
    (∃ t, exec (.nocEject k true false) s = .next t ∧
      t.rd (F.NOC_STOP_STAT.RECIRC f.half) = min (2 ^ 32 - 1) (s.rd (F.NOC_STOP_STAT.RECIRC f.half) + 1) ∧
      s.onlyRegs t [F.NOC_STOP_STAT.RECIRC f.half]) ∧
    (f.xb = false → niExists f.pkt.dest = true → niHalf f.pkt.dest = f.half → niStop f.pkt.dest = f.stop →
      (s.niRoom f.pkt = false → ∃ t, exec (.nocEject k false false) s = .next t ∧
        t.rd (F.NOC_STOP_STAT.RECIRC f.half) = min (2 ^ 32 - 1) (s.rd (F.NOC_STOP_STAT.RECIRC f.half) + 1) ∧
        s.onlyRegs t [F.NOC_STOP_STAT.RECIRC f.half]) ∧
      (s.niState f.pkt.dest ≠ 2 → s.niRoom f.pkt = true → ∃ t, exec (.nocEject k false false) s = .next t ∧ t.flights = s.flights.eraseIdx k ∧
        (t.ni f.pkt.dest).rxq = (s.ni f.pkt.dest).rxq ++ [f.pkt] ∧ s.onlyNi t f.pkt.dest ∧
        t = { s with nis := t.nis, flights := t.flights }) ∧
      (∀ v, v = s.route f.pkt.dest f.pkt.src → s.niState f.pkt.dest = 2 → isRequest f.pkt.opc = true →
        (bit v 31 = true → s.routeBroken f.pkt.dest v = false → ∃ t, exec (.nocEject k false false) s = .next t ∧
          t.flights = s.flights.eraseIdx k ++ [{ flightOf f.pkt.dest v (reply f.pkt.dest f.pkt 0x42 0x01 f.pkt.addr 0) with
            mgmt := pktMgmt f.pkt }] ∧ t = { s with flights := t.flights }) ∧
        (bit v 31 = false ∨ s.routeBroken f.pkt.dest v = true → ∃ t, exec (.nocEject k false false) s = .next t ∧
          t.flights = s.flights.eraseIdx k ∧ t = { s with flights := t.flights }))) ∧
    (f.xb = true → f.stop = 18 + bits f.pkt.route 7 1 →
      (ringLinks (1 - f.half) f.stop (bits f.pkt.route 13 1) (bits f.pkt.route 8 5)).any s.linkFailed = false →
      ∃ t x, exec (.nocEject k false false) s = .next t ∧ t.flights = s.flights.eraseIdx k ++ [x] ∧ x.pkt = f.pkt ∧
        x.half = 1 - f.half ∧ x.xb = false ∧ t = { s with flights := t.flights })) ∧
  (∀ (s : State) (id : Fin 256) (tag : Byte) (o : Pkt), (s.ni id).outst.find? (fun o => o.tag = tag.toNat) = some o →
    ∃ t, exec (.nocRspTimeout id tag) s = .next t ∧ (t.ni id).outst = (s.ni id).outst.filter (fun q => q.tag ≠ tag.toNat) ∧
      (t.ni id).got = (s.ni id).got ++ [reply id { o with src := id } 0x42 0x09 o.addr 0] ∧ s.onlyNi t id ∧
      t.rd (F.NOC_NI_ERR.TMO (niHalf id) (niL id)) = min (2 ^ 8 - 1) (s.rd (F.NOC_NI_ERR.TMO (niHalf id) (niL id)) + 1) ∧
      (id.val ≠ 53 → t = { s with regs := t.regs, nis := t.nis } ∧
        s.keepsRegs t [F.NOC_NI_ERR.TMO (niHalf id) (niL id), F.NOC_NI_STAT.OUT (niHalf id) (niL id)]) ∧
      (id.val = 53 → t.rd (F.NOC_ERR.HOST_ERR 0) = 1 ∧ (o.opc = 1 ∨ o.opc = 7 → Table.get 0 t.bus 0 = 0xFFFFFFFF))) ∧
  (∀ (s : State) (id : Fin 256) (fault : Bool) (c : CtlFrom), niExists id = true → s.mayFenceNi id c = true →
    (s.niState id = 0 → ∃ t, exec (.fenceReq id fault c) s = .next t ∧ t.niState id = 1 ∧ (t.ni id).fault = fault ∧
      (t.ni id).fencer = some c ∧ (t.ni id).outst = (s.ni id).outst ∧ s.onlyNi t id ∧ t = { s with regs := t.regs, nis := t.nis } ∧
      s.keepsRegs t [F.NOC_NI_STAT.STATE (niHalf id) (niL id)]) ∧
    (s.niState id = 2 → (s.ni id).fencer = some c → ∃ t, exec (.niRelease id c) s = .next t ∧ t.niState id = 0 ∧
      (t.ni id).rxq = [] ∧ (t.ni id).txq = [] ∧ (t.ni id).outst = [] ∧ t.rd (F.NOC_NI_STAT.OUT (niHalf id) (niL id)) = 0 ∧
      s.onlyNi t id ∧ t = { s with regs := t.regs, nis := t.nis } ∧
      s.keepsRegs t [F.NOC_NI_STAT.STATE (niHalf id) (niL id), F.NOC_NI_STAT.OUT (niHalf id) (niL id)])) ∧
  (∀ (s : State) (id : Fin 256) (late : Bool), s.niState id = 1 → ((s.ni id).fault ∨ late ∨ (s.ni id).outst = []) →
    ∃ t, exec (.fenceAck id late) s = .next t ∧ t.niState id = 2 ∧ (t.ni id).rxq = [] ∧ (t.ni id).txq = [] ∧ s.onlyNi t id ∧
      t = { s with regs := t.regs, nis := t.nis, flights := t.flights } ∧ s.outside t [.noc, .fab]) ∧
  (∀ (s : State) (r : Req) (a d : Fin 256) (v : Word32), s.mayWrite r .win (some (a.val / 128)) = true → niExists a = true →
    ∃ t, exec (.routeTableWrite r a d v) s = .next t ∧ t.routeRaw a d = v.toNat ∧
      (∀ x y, y < 256 → (x, y) ≠ (a.val, d.val) → t.routeRaw x y = s.routeRaw x y) ∧
      (routeReserved v.toNat = true → t.rd (F.NOC_ERR.RT_RSV (niHalf a)) = 1 ∧ t.route a d = defaultRoute a d) ∧
      t = { s with regs := t.regs, routes := t.routes, nis := t.nis } ∧ s.keepsRegs t [F.NOC_ERR.RT_RSV (niHalf a)]) ∧
  (∀ (s : State) (h : Fin 2) (stop : Fin 20) (dir : Fin 2) (lost : List Nat),
    (s.linkFailed (h, stop, dir) = true → exec (.linkFailed h stop dir lost) s = .next s) ∧
    (s.linkFailed (h, stop, dir) = false → ∃ t, exec (.linkFailed h stop dir lost) s = .next t ∧
      t.linkFailed (h, stop, dir) = true ∧ t.rd (F.NOC_ERR.LINK_FAIL h) = 1 ∧
      (∀ a d, niExists a = true → niExists d = true → bit (t.route a d) 31 = true → t.routeBroken a (t.route a d) = false) ∧
      t.dram = s.dram ∧ t.bankMem = s.bankMem ∧ t.seqMem = s.seqMem ∧ t.engs = s.engs ∧ t.pending = s.pending))

/-- Interface id has taken request p from its receive queue and queued the answer a. -/
def Sys2Proof.Machine.State.answered (s t : State) (id : Nat) (p a : Pkt) : Prop :=
  (t.ni id).rxq = (s.ni id).rxq.erase p ∧ (t.ni id).txq = (s.ni id).txq ++ [a] ∧ s.onlyNi t id

/-- The first received packet of opcode o. -/
def Sys2Proof.Machine.State.firstRx (s : State) (id o : Nat) (p : Pkt) : Prop :=
  (s.ni id).rxq.find? (fun q => q.opc = o) = some p ∧ p.tag < 256

/-- The access of packet p reaches bank memory of half h at once: below the reserved area, no copy elsewhere, banks ON, words good. -/
def Sys2Proof.Machine.State.bankReady (s : State) (h : Nat) (p : Pkt) (wr : Option Nat) (coh : Nat) : Prop :=
  0 < p.size ∧ p.addr + p.size ≤ 0x1FC0000 ∧ s.bankJoins = [] ∧ s.snooped h (bankAccOf p wr coh .clean) = [] ∧
  (∀ w ∈ wordsOf p.addr p.size, s.bankCur h (w % 64) = 0 ∧ s.bankUeAt h w = false)

/-- RDATA with the bytes that p names of half h. -/
def Sys2Proof.Machine.State.bankData (s : State) (id h : Nat) (p : Pkt) : Pkt :=
  reply id p 0xC1 0 p.addr (s.bankRead h p.addr p.size * 256 ^ (p.addr % 64) % 2 ^ 512)

/-- Bank memory, DRAM, host interface and registers answer the requests that reach them, and refuse what they must. A
received request leaves the receive queue and is answered under its TAG to its source (R366). At bank memory, below
the reserved area, with the banks ON, no copy to snoop and no bad word: RD, RD_S and RD_M answer RDATA with the bytes,
and RD_S of a coherent source makes it a holder, RD_M the one holder with M (R261, R265); WR_REQ answers GRANT and
keeps the request; WDATA under its grant writes the bytes and no others, and answers ACK (R66). A fabric endpoint
hands requests to its logic while its clock runs (R301, R302). RD and WR_REQ at other interfaces than bank, DRAM and
host (and the debug port for WR_REQ), and RD_S, RD_M and atomics outside bank memory, answer NACK 0x06; a DRAM
controller takes a read into its queue; the host's data returns at once. ATOM_ACQ of a free semaphore by an endpoint
marks it HELD with KIND 1 and the endpoint and answers status 0, of a held one 1 (R268); ATOM_REL by its owner frees
it, by another answers NACK 0x08 with SEM_OWNER. REG_RD and REG_WR of an endpoint answer NACK 0x06, but for REG_WR of
the flags of a slot of its bay (R95, R378); of another they read and write the register as the requester it acts for,
if it has that right (R20). SNOOP_TIMEOUT sets SNP_TO and drops the agent's waits (R266). -/
def Obligations.RequestsAreServedWhereTheyArrive : Prop :=
  (∀ (s : State) (id : Fin 256) (p : Pkt) (h : Nat), h = niHalf id → niL id = 48 →
    (∀ host, s.firstRx id 1 p → s.bankReady h p none 0 → ∃ t, exec (.rd id .clean host) s = .next t ∧
      s.answered t id p (s.bankData id h p) ∧ t = { s with nis := t.nis, joinNo := t.joinNo }) ∧
    (s.firstRx id 3 p → s.coherent p.src = true → s.bankReady h p none 1 → ∃ t, exec (.rdS id .clean) s = .next t ∧
      s.answered t id p (s.bankData id h p) ∧ (p.src, false) ∈ t.holders h (p.addr / 64) ∧
      t = { s with nis := t.nis, dirc := t.dirc, joinNo := t.joinNo }) ∧
    (s.firstRx id 4 p → s.coherent p.src = true → s.bankReady h p none 2 → ∃ t, exec (.rdM id .clean) s = .next t ∧
      s.answered t id p (s.bankData id h p) ∧ t.holders h (p.addr / 64) = [(p.src, true)] ∧
      t = { s with nis := t.nis, dirc := t.dirc, engs := t.engs, joinNo := t.joinNo }) ∧
    (s.firstRx id 2 p → ∃ t, exec (.wrReq id) s = .next t ∧ s.answered t id p (reply id p 0x40 0 p.addr 0) ∧
      (t.ni id).grants = (s.ni id).grants ++ [p] ∧ t = { s with nis := t.nis }) ∧
    (∀ g v, s.firstRx id 0xC0 p → (s.ni id).grants.find? (fun g => g.opc = 2 && g.src = p.src && g.tag = p.tag) = some g →
      v = p.data / 256 ^ (p.addr % 64) % 256 ^ p.size → bit g.attr 1 = false → s.bankReady h p (some v) 0 →
      ∃ t, exec (.wdata id .clean) s = .next t ∧ s.answered t id p (reply id p 0x41 0 p.addr 0) ∧
        (t.ni id).grants = (s.ni id).grants.erase g ∧ t.bankMem = (s.bankWrite h p.addr p.size v).bankMem ∧
        t = { s with nis := t.nis, bankMem := t.bankMem, bankUe := t.bankUe, banks := t.banks, engs := t.engs,
                     joinNo := t.joinNo })) ∧
  (∀ (s : State) (id : Fin 256) (p : Pkt) (e : Ecc) (host : Desc),
    (niIsEndpoint id = true → s.niRuns id = true → ∀ (i : Instr) (o : Nat), (i, o) ∈ [(Instr.rd id e host, 1), (.wrReq id, 2),
      (.rdS id e, 3), (.rdM id e, 4), (.atomAcq id, 5), (.atomRel id, 6)] → s.firstRx id o p → ∃ t, exec i s = .next t ∧
        (t.ni id).rxq = (s.ni id).rxq.erase p ∧ (t.ni id).got = (s.ni id).got ++ [p] ∧ (t.ni id).txq = (s.ni id).txq ∧
        s.onlyNi t id ∧ t = { s with nis := t.nis }) ∧
    (niIsEndpoint id = true → s.niRuns id = false → ∀ (i : Instr) (o : Nat), (i, o) ∈ [(Instr.rd id e host, 1), (.wrReq id, 2),
      (.rdS id e, 3), (.rdM id e, 4), (.atomAcq id, 5), (.atomRel id, 6)] → s.firstRx id o p → exec i s = .next s) ∧
    (∀ n l, 44 ≤ niL id → niL id < 48 → n = 4 * niHalf id + (niL id - 44) → l = s.dramUnmap n p.addr / 64 * 64 →
      s.dramIf (n / 4) l = n → l + 64 ≤ s.usable (n / 4) → dramReserved l = false → (s.dmc n).reads < 48 → (s.dmc n).held = [] →
      s.mckGated n = false → (s.dmc n).entering = false → (s.dmc n).youngest l = none → s.firstRx id 1 p →
      ∃ t, exec (.rd id e host) s = .next t ∧ (t.ni id).rxq = (s.ni id).rxq.erase p ∧
        (t.dmc n).q = (s.dmc n).q ++ [{ dramRd l (lineMask (s.dramUnmap n p.addr) p.size) (nocReadId p.src p.tag) none with
          data := s.lineView (n / 4) l, bad := s.poisonView (n / 4) l }] ∧ t = { s with nis := t.nis, dmcs := t.dmcs }) ∧
    (niIsEndpoint id = false → niL id ≠ 48 → (niL id < 44 ∨ 48 < niL id) → id.val ≠ 53 →
      (s.firstRx id 1 p → ∃ t, exec (.rd id e host) s = .next t ∧ s.answered t id p (reply id p 0x42 0x06 p.addr 0) ∧
        t = { s with nis := t.nis }) ∧
      (id.val ≠ 54 → s.firstRx id 2 p → ∃ t, exec (.wrReq id) s = .next t ∧ s.answered t id p (reply id p 0x42 0x06 p.addr 0) ∧
        t = { s with nis := t.nis })) ∧
    (niIsEndpoint id = false → niL id ≠ 48 → ∀ (i : Instr) (o : Nat), (i, o) ∈ [(Instr.rdS id e, 3), (.rdM id e, 4), (.atomAcq id, 5), (.atomRel id, 6)] →
      s.firstRx id o p → ∃ t, exec i s = .next t ∧ s.answered t id p (reply id p 0x42 0x06 p.addr 0) ∧
        t = { s with nis := t.nis }) ∧
    (id.val = 53 → s.firstRx id 1 p → ∃ t, exec (.rd id e host) s = .next t ∧
      s.answered t id p (reply id p 0xC1 0 p.addr host.toNat) ∧ t = { s with nis := t.nis })) ∧
  (∀ (s : State) (id : Fin 256) (p : Pkt) (h k w : Nat), h = niHalf id → niL id = 48 → niIsEndpoint p.src = true → p.src < 256 →
    k < 1024 → p.addr = 0x1FDC000 + 8 * k → w = s.bankRead h (semAddr k) 8 →
    (s.firstRx id 5 p → bit w 63 = false → ∃ t, exec (.atomAcq id) s = .next t ∧
      s.answered t id p (reply id p 0x41 0 p.addr 0) ∧
      t.bankRead h (semAddr k) 8 = 2 ^ 63 + 2 ^ 60 + p.src * 2 ^ 32 + (w % 2 ^ 32 + 1) % 2 ^ 32 ∧
      t = { s with nis := t.nis, bankMem := t.bankMem }) ∧
    (s.firstRx id 5 p → bit w 63 = true → ∃ t, exec (.atomAcq id) s = .next t ∧
      s.answered t id p (reply id p 0x41 1 p.addr 0) ∧ t = { s with nis := t.nis }) ∧
    (s.firstRx id 6 p → bit w 63 = true → bits w 60 3 = 1 → bits w 32 16 = p.src → ∃ t, exec (.atomRel id) s = .next t ∧
      s.answered t id p (reply id p 0x41 0 p.addr 0) ∧ t.bankRead h (semAddr k) 8 = w % 2 ^ 63 ∧
      t = { s with nis := t.nis, bankMem := t.bankMem }) ∧
    (s.firstRx id 6 p → bit w 63 = false → ∃ t, exec (.atomRel id) s = .next t ∧
      s.answered t id p (reply id p 0x42 0x08 p.addr 0) ∧ t.rd (F.BNK_ERR.SEM_OWNER h) = 1 ∧
      t = { s with regs := t.regs, nis := t.nis } ∧ s.keepsRegs t [F.BNK_ERR.SEM_OWNER h])) ∧
  (∀ (s : State) (id : Fin 256) (p : Pkt), s.niRuns id = true →
    (niIsEndpoint p.src = true → s.firstRx id 7 p → ∃ t, exec (.regRd id) s = .next t ∧
      s.answered t id p (reply id p 0x42 0x06 p.addr 0) ∧ t = { s with nis := t.nis }) ∧
    (niIsEndpoint p.src = true → s.firstRx id 8 p → regAt (p.addr % 0x4000000 / 4 * 4) = none → ∃ t,
      exec (.regWr id) s = .next t ∧ s.answered t id p (reply id p 0x42 0x06 p.addr 0) ∧ t = { s with nis := t.nis }) ∧
    (∀ q, niIsEndpoint p.src = true → s.firstRx id 8 p → regAt (p.addr % 0x4000000 / 4 * 4) = some q →
      q.def_.name = .ENG_FLAG → id.val = niOfBay (bayOfSlot q.i) → ∃ t, exec (.regWr id) s = .next t ∧
        s.answered t id p (reply id p 0x41 0 p.addr 0) ∧ t.rd (F.ENG_FLAG.FLAG_LO q.i) = bits (p.addr / 2 ^ 32) 0 3 ∧
        t.rd (F.ENG_FLAG.FLAG_HI q.i) = bits (p.addr / 2 ^ 32) 4 4 ∧ t = { s with regs := t.regs, nis := t.nis } ∧
        s.keepsRegs t [F.ENG_FLAG.FLAG_LO q.i, F.ENG_FLAG.FLAG_HI q.i]) ∧
    (∀ u off, niIsEndpoint p.src = false → off = p.addr % 0x4000000 / 4 * 4 → s.takeRx id 7 = some (p, u) →
      (u.nocReq p.src off = none → ∃ t, exec (.regRd id) s = .next t ∧ t = u.nack id p 0x06) ∧
      (∀ r, u.nocReq p.src off = some r → u.winHeld off = false → ∃ t x, exec (.regRd id) s = .next t ∧
        x = u.regRead false r off ∧ t = x.2.answer id p 0x44 0 x.1 0)) ∧
    (∀ u off, niIsEndpoint p.src = false → off = p.addr % 0x4000000 / 4 * 4 → s.takeRx id 8 = some (p, u) →
      (u.nocReq p.src off = none → ∃ t, exec (.regWr id) s = .next t ∧ t = u.nack id p 0x06) ∧
      (∀ r, u.nocReq p.src off = some r → ∃ t x, exec (.regWr id) s = .next t ∧ x = u.regWrite r off (p.addr / 2 ^ 32) ∧
        t = x.2.answer id p 0x41 0 p.addr 0))) ∧
  (∀ (s : State) (h : Fin 2) (a : Fin 256), s.homes.any (fun q => q.half == h.val && q.wait.any (fun x => x.2 == a.val)) = true →
    ∃ t, exec (.snoopTimeout h a) s = .next t ∧ t.rd (F.BNK_ERR.SNP_TO h) = 1 ∧ t.dram = s.dram ∧ t.seqMem = s.seqMem ∧
      t.pending = s.pending)

/-- A response completes its request, a late one is counted; snoops are answered and their answers let the home go on. A
received response whose TAG is outstanding goes to the block (R366, R377): ACK, REG_DATA and RDATA end the request and
OUT follows; GRANT leaves it outstanding and lets its data go; NACK ends it, drops its grant and counts NACKS, and the
host's own read then reads all ones with HOST_ERR (R371, R378). One whose TAG is not outstanding is discarded and
counted in LATE, by an endpoint in its own LATE as well if a fence cut its request off (R304, R307), and nothing else
changes. SNP_INV and SNP_SHR at an agent that the home does not know as holder of M are answered SNP_ACK, at one that
it does with its data as SNP_DATA (R265). SNP_ACK and SNP_DATA at a home for whose line no request waits: the agent's
copy is gone, and SNP_DATA writes the line's 64 bytes into bank memory, no other byte of it and nothing of the other
half. -/
def Obligations.ResponsesCompleteRequestsAndSnoopsFreeTheirLines : Prop :=
  (∀ (s : State) (id : Fin 256) (p : Pkt) (n : Nat) (i : Instr), (i, n) ∈ [(Instr.ack id, 0x41), (.regData id, 0x44),
      (.rdata id, 0xC1), (.grant id, 0x40), (.nack id, 0x42)] → s.niRuns id = true → s.firstRx id n p →
    (s.ni id).outst.any (fun o => o.tag = p.tag) = false → (s.ni id).cut.contains p.tag = false → ∃ t, exec i s = .next t ∧
      (t.ni id).rxq = (s.ni id).rxq.erase p ∧ (t.ni id).got = (s.ni id).got ∧ (t.ni id).outst = (s.ni id).outst ∧
      t.rd (F.NOC_NI_ERR.LATE (niHalf id) (niL id)) = min (2 ^ 8 - 1) (s.rd (F.NOC_NI_ERR.LATE (niHalf id) (niL id)) + 1) ∧
      s.onlyNi t id ∧ t = { s with regs := t.regs, nis := t.nis } ∧ s.keepsRegs t [F.NOC_NI_ERR.LATE (niHalf id) (niL id)]) ∧
  (∀ (s : State) (id : Fin 256) (p : Pkt) (n : Nat) (i : Instr), (i, n) ∈ [(Instr.ack id, 0x41), (.regData id, 0x44),
      (.rdata id, 0xC1), (.grant id, 0x40), (.nack id, 0x42)] → s.niRuns id = true → s.firstRx id n p →
    (s.ni id).outst.any (fun o => o.tag = p.tag) = false → (s.ni id).cut.contains p.tag = true → ∃ t, exec i s = .next t ∧
      (t.ni id).rxq = (s.ni id).rxq.erase p ∧ (t.ni id).cut = (s.ni id).cut.erase p.tag ∧
      t.rd (F.NOC_NI_ERR.LATE (niHalf id) (niL id)) = min (2 ^ 8 - 1) (s.rd (F.NOC_NI_ERR.LATE (niHalf id) (niL id)) + 1) ∧
      (niIsEndpoint id = true → t.rd (F.FAB_NE_STAT.LATE (niEndpoint id)) =
        min (2 ^ 16 - 1) (s.rd (F.FAB_NE_STAT.LATE (niEndpoint id)) + 1)) ∧
      s.onlyNi t id ∧ t = { s with regs := t.regs, nis := t.nis } ∧
      s.keepsRegs t ((if niIsEndpoint id then [F.FAB_NE_STAT.LATE (niEndpoint id)] else []) ++
        [F.NOC_NI_ERR.LATE (niHalf id) (niL id)])) ∧
  (∀ (s : State) (id : Fin 256) (p : Pkt), s.niRuns id = true → (s.ni id).outst.any (fun o => o.tag = p.tag) = true →
    (∀ (n : Nat) (i : Instr), (i, n) ∈ [(Instr.ack id, 0x41), (.regData id, 0x44), (.rdata id, 0xC1)] → s.firstRx id n p →
      ∃ t, exec i s = .next t ∧ (t.ni id).rxq = (s.ni id).rxq.erase p ∧ (t.ni id).got = (s.ni id).got ++ [p] ∧
        (t.ni id).outst = (s.ni id).outst.filter (fun o => o.tag ≠ p.tag) ∧
        t.rd (F.NOC_NI_STAT.OUT (niHalf id) (niL id)) = (t.ni id).outst.length % 2 ^ 9 ∧
        s.onlyNi t id ∧ t = { s with regs := t.regs, nis := t.nis } ∧ s.keepsRegs t [F.NOC_NI_STAT.OUT (niHalf id) (niL id)]) ∧
    (s.firstRx id 0x40 p → ∃ t, exec (.grant id) s = .next t ∧ (t.ni id).got = (s.ni id).got ++ [p] ∧
      (t.ni id).rxq = (s.ni id).rxq.erase p ∧ (t.ni id).outst = (s.ni id).outst ∧
      (t.ni id).grants = (s.ni id).grants ++ [p] ∧ s.onlyNi t id ∧ t = { s with nis := t.nis }) ∧
    (s.firstRx id 0x42 p → ∃ t, exec (.nack id) s = .next t ∧ (t.ni id).got = (s.ni id).got ++ [p] ∧
      (t.ni id).outst = (s.ni id).outst.filter (fun o => o.tag ≠ p.tag) ∧
      (t.ni id).grants = (s.ni id).grants.filter (fun g => !(g.opc = 0x40 && g.tag = p.tag)) ∧
      t.rd (F.NOC_NI_ERR.NACKS (niHalf id) (niL id)) = min (2 ^ 16 - 1) (s.rd (F.NOC_NI_ERR.NACKS (niHalf id) (niL id)) + 1) ∧
      s.onlyNi t id ∧
      (id.val ≠ 53 → t = { s with regs := t.regs, nis := t.nis } ∧
        s.keepsRegs t [F.NOC_NI_ERR.NACKS (niHalf id) (niL id), F.NOC_NI_STAT.OUT (niHalf id) (niL id)]) ∧
      (id.val = 53 → t.rd (F.NOC_ERR.HOST_ERR 0) = 1 ∧
        (∀ o, s.outstOf id p.tag = some o → o.opc = 1 ∨ o.opc = 7 → Table.get 0 t.bus 0 = 0xFFFFFFFF)))) ∧
  (∀ (s : State) (id : Fin 256) (p : Pkt) (d : Desc) (n : Nat) (i : Instr), (i, n) ∈ [(Instr.snpInv id d, 0x80), (.snpShr id d, 0x81)] →
    s.niRuns id = true → s.firstRx id n p → ∃ t, exec i s = .next t ∧ t = { s with nis := t.nis } ∧
      ((s.holders (niHalf p.src) (p.addr / 64)).any (fun a => a.1 = id && a.2) = false →
        s.answered t id p (reply id p 0x43 0 p.addr 0)) ∧
      ((s.holders (niHalf p.src) (p.addr / 64)).any (fun a => a.1 = id && a.2) = true →
        s.answered t id p (reply id p 0xC2 0 p.addr d.toNat))) ∧
  (∀ (s : State) (id : Fin 256) (p : Pkt) (h l : Nat), h = niHalf id → l = p.addr / 64 → s.niRuns id = true →
    (∀ q ∈ s.homes, q.half = h → ∀ x ∈ q.wait, x.1 ≠ l) →
    (s.firstRx id 0x43 p → p.attr = 0 → ∃ t, exec (.snpAck id) s = .next t ∧ (t.ni id).rxq = (s.ni id).rxq.erase p ∧
      t.holders h l = (s.holders h l).filter (fun a => a.1 ≠ p.src) ∧ t = { s with nis := t.nis, dirc := t.dirc }) ∧
    (s.firstRx id 0xC2 p → ∃ t, exec (.snpData id) s = .next t ∧ (t.ni id).rxq = (s.ni id).rxq.erase p ∧
      t.holders h l = (s.holders h l).filter (fun a => a.1 ≠ p.src) ∧ t.bankMem = (s.bankWrite h (64 * l) 64 p.data).bankMem ∧
      t = { s with nis := t.nis, dirc := t.dirc, bankMem := t.bankMem, bankUe := t.bankUe }))

/-- Of each engine only its watchdog's count may differ. -/
def Sys2Proof.Machine.State.sameEngs (s t : State) : Prop := ∀ n, t.eng n = { s.eng n with wdog := (t.eng n).wdog }

/-- Time has gone by: the timebases, what follows their seconds, the watchdogs, the trace and its requests to DRAM, and the registers
of these. -/
def Sys2Proof.Machine.State.ticked (s t : State) : Prop :=
  t = { s with regs := t.regs, bus := t.bus, engs := t.engs, time := t.time, tb := t.tb, ticks := t.ticks, trcs := t.trcs,
               dmcs := t.dmcs, nis := t.nis } ∧ s.sameEngs t ∧ s.outside t [.tmb, .dmc, .dbg]

/-- Only the queue of changes to the timebase has grown, by c. -/
def Sys2Proof.Machine.State.queued (s t : State) (c : TimeChange) : Prop :=
  t.time.changes = s.time.changes ++ [c] ∧ t = { s with regs := t.regs, time := { s.time with changes := t.time.changes } }

/-- Seconds roll over, changes wait for a common tick, offsets step or slew, holdover freezes, and software's writes are
checked. SECOND_ROLLOVER lets the same number of ticks go by in both halves until the half's SEC has advanced by 1 and
its remainder is below one INC (R386). PAIR_SAMPLE with REFCLK writes DIFF and, beyond 16 ns, PAIR_ERR, and nothing
else (R387); while a snapshot's payload is held it waits (R14). TIMEBASE_STEP_APPLY takes the oldest change: a step
moves both halves by it and counts STEPS with STEPPED, a new INC is both halves' and TMB_INC's, MODE SWINC is state 4
(R387, R396). TMB_MODE_WRITE, TMB_INC_WRITE and TIME_STEP_COMMIT queue their change; an INC outside SWINC or its range
sets INC_DISC, a step whose NS part exceeds 999,999,999 ns sets STEP_DISC, and nothing else happens (R388, R395,
R396). PTP_OFFSET with the servo enabled: OFS takes it; SWINC stops there; TRACKING without syntonisation steps by an
offset of STEP_THR or more and otherwise queues INC = 2 ns - c of the PI rule with c in SRV_RATE (R390).
GRID_STEP_DEFERRED_APPLY makes the deferred step when it expires or nothing blocks it, and drops it when not
syntonised or in holdover (R392, R393). HOLDOVER_TIMEOUT and PTP_MASTER_LOST in ACQUIRE or TRACKING: HOLDOVER, and
every dispatched job carries the flag (R393); elsewhere nothing. OSC_RATIO_WINDOW changes the INC kept for a loss of
REFCLK alone (R394). -/
def Obligations.TimebaseTicksStepsAndFollowsTheServo : Prop :=
  (∀ (s : State) (h : Fin 2), 0 < (s.tbase h).inc → (s.tbase h).inc < 2 ^ 36 → (s.tbase h).units < secUnits →
    ∃ t k, exec (.secondRollover h) s = .next t ∧ t.ticks = s.ticks + k ∧ t.tbase 0 = (s.tbase 0).after k ∧
      t.tbase 1 = (s.tbase 1).after k ∧ (t.tbase h).sec = ((s.tbase h).sec + 1) % 2 ^ 48 ∧
      (t.tbase h).units < (s.tbase h).inc ∧ s.ticked t) ∧
  (∀ (s : State) (d : Int), s.snap.due = true → ∃ t, exec (.pairSample d) s = .next t ∧
    t = { s with time := { s.time with pairDue := some d } }) ∧
  (∀ (s : State) (d : Int), s.snap.due = false → s.time.refLost = false → ∃ t, exec (.pairSample d) s = .next t ∧
    t.rd F.TMB_PAIR.DIFF = toBits 32 (roundConv s.pairDiff (2 ^ 28)) ∧
    t.rd F.TMB_STAT.PAIR_ERR = (if 16 * 2 ^ 32 < s.pairDiff.natAbs then 1 else s.rd F.TMB_STAT.PAIR_ERR) ∧
    s.onlyRegs t [F.TMB_PAIR.DIFF, F.TMB_STAT.PAIR_ERR]) ∧
  (∀ (s : State) (rest : List TimeChange),
    (s.time.changes = [] → exec .timebaseStepApply s = .next s) ∧
    (∀ d, s.time.changes = .step d :: rest → ∃ t, exec .timebaseStepApply s = .next t ∧ t.time.changes = rest ∧
      t.tbase 0 = (s.tbase 0).step d ∧ t.tbase 1 = (s.tbase 1).step d ∧ t.rd F.TMB_STAT.STEPPED = 1 ∧
      t.rd F.TMB_STAT.STEPS = min (2 ^ 16 - 1) (s.rd F.TMB_STAT.STEPS + 1) ∧ s.ticked t) ∧
    (∀ v, s.time.changes = .inc v :: rest → ∃ t, exec .timebaseStepApply s = .next t ∧ t.time.changes = rest ∧
      t.rd F.TMB_INC.INC = v % 2 ^ 36 ∧ (t.tbase 0).inc = v % 2 ^ 36 ∧ (t.tbase 1).inc = v % 2 ^ 36 ∧
      (∀ h : Fin 2, (t.tbase h).sec = (s.tbase h).sec ∧ (t.tbase h).units = (s.tbase h).units) ∧
      s.keepsRegs t [F.TMB_INC.INC] ∧ s.ticked t) ∧
    (s.time.changes = .mode 2 :: rest → ∃ t, exec .timebaseStepApply s = .next t ∧ t.time.changes = rest ∧ t.time.mode = 2 ∧
      t.rd F.TMB_STAT.STATE = 4 ∧ t.rd F.TMB_STAT.SYNT = 0 ∧ t.tb = s.tb ∧ (s.rd F.TMB_STAT.STATE ≠ 3 → s.ticked t) ∧
      t = { s with regs := t.regs, time := t.time, out := t.out, heldOut := t.heldOut, fns := t.fns } ∧
      s.outside t [.tmb, .hif, .sup])) ∧
  (∀ (s : State) (r : Req), s.mayWrite r .tmb = true →
    (∀ m : Fin 4, (s.rd F.TMB_CTL.MODE = m.val → exec (.tmbModeWrite r m) s = .next s) ∧
      (s.rd F.TMB_CTL.MODE ≠ m.val → ∃ t, exec (.tmbModeWrite r m) s = .next t ∧ t.rd F.TMB_CTL.MODE = m.val ∧
        s.queued t (.mode m) ∧ s.keepsRegs t [F.TMB_CTL.MODE])) ∧
    (∀ v : BitVec 36,
      (s.rd F.TMB_CTL.MODE = 2 → 0x1E0000000 ≤ v.toNat → v.toNat ≤ 0x220000000 → ∃ t, exec (.tmbIncWrite r v) s = .next t ∧
        s.queued t (.inc v.toNat) ∧ t.regs = s.regs) ∧
      (s.rd F.TMB_CTL.MODE ≠ 2 ∨ v.toNat < 0x1E0000000 ∨ 0x220000000 < v.toNat → ∃ t, exec (.tmbIncWrite r v) s = .next t ∧
        t.rd F.TMB_STAT.INC_DISC = 1 ∧ s.onlyRegs t [F.TMB_STAT.INC_DISC])) ∧
    (∀ (sec : Word32) (n d : Int), n = fromBits 32 (s.rd F.TMB_STEP_NS.NS) → d = (fromBits 32 sec.toNat * 1000000000 + n) * 16 →
      (999999999 < n.natAbs → ∃ t, exec (.timeStepCommit r sec) s = .next t ∧ t.rd F.TMB_STAT.STEP_DISC = 1 ∧
        s.onlyRegs t [F.TMB_STAT.STEP_DISC]) ∧
      (n.natAbs ≤ 999999999 → ∃ t, exec (.timeStepCommit r sec) s = .next t ∧ t.regs = s.regs ∧
        s.queued t (.step (if s.syntonised then roundConv d 160 * 160 else d))))) ∧
  (∀ (s : State) (o : BitVec 32), s.on F.TMB_PTP_CFG.EN = true →
    (s.swinc = true → ∃ t, exec (.ptpOffset o) s = .next t ∧ t.rd F.TMB_SRV_OFS.OFS = o.toNat ∧ s.onlyRegs t [F.TMB_SRV_OFS.OFS]) ∧
    (s.swinc = false → s.syntonised = false → s.rd F.TMB_STAT.STATE = 2 → ∀ v : Int, v = fromBits 32 o.toNat →
      (s.stepThr ≤ v.natAbs → ∃ t, exec (.ptpOffset o) s = .next t ∧ t.rd F.TMB_SRV_OFS.OFS = o.toNat ∧ s.queued t (.step (-v)) ∧
        s.keepsRegs t [F.TMB_SRV_OFS.OFS]) ∧
      (v.natAbs < s.stepThr → ∀ i c : Int,
        i = clampTo (2 ^ 28) (s.time.integ + roundConv (v * 2 ^ 28) (2 ^ s.rd F.TMB_SRV_CFG.KI_SH)) →
        c = clampTo (2 ^ 28) (i + roundConv (v * 2 ^ 28) (2 ^ s.rd F.TMB_SRV_CFG.KP_SH)) →
        ∃ t, exec (.ptpOffset o) s = .next t ∧ t.rd F.TMB_SRV_RATE.RATE = toBits 32 c ∧ t.time.integ = i ∧
          t.time.changes = s.time.changes ++ [.inc (0x200000000 - c).toNat] ∧ t = { s with regs := t.regs, time := t.time } ∧
          s.keepsRegs t [F.TMB_SRV_OFS.OFS, F.TMB_SRV_RATE.RATE]))) ∧
  (∀ (s : State) (expired : Bool), (s.time.defer = none → exec (.gridStepDeferredApply expired) s = .next s) ∧
    (∀ n, s.time.defer = some n → ∃ t, exec (.gridStepDeferredApply expired) s = .next t ∧ t.regs = s.regs ∧
      t = { s with time := t.time } ∧
      (s.syntonised = true → s.rd F.TMB_STAT.STATE ≠ 3 → expired = true ∨ s.gridBlocked = false → t.time.defer = none ∧
        t.time.changes = s.time.changes ++ [.step (-160 * n)]) ∧
      (s.syntonised = true → s.rd F.TMB_STAT.STATE ≠ 3 → expired = false → s.gridBlocked = true → t = s) ∧
      (s.syntonised = false ∨ s.rd F.TMB_STAT.STATE = 3 → t.time.defer = none ∧ t.time.changes = s.time.changes))) ∧
  (∀ (s : State) (i : Instr), i = .holdoverTimeout ∨ (i = .ptpMasterLost ∧ s.on F.TMB_PTP_CFG.EN = true) →
    (s.rd F.TMB_STAT.STATE ≠ 1 → s.rd F.TMB_STAT.STATE ≠ 2 → exec i s = .next s) ∧
    (s.rd F.TMB_STAT.STATE = 1 ∨ s.rd F.TMB_STAT.STATE = 2 → ∃ t, exec i s = .next t ∧ t.rd F.TMB_STAT.STATE = 3 ∧
      (∀ n, n < 64 → (t.ctx n).jobs = (s.ctx n).jobs.map (fun j => if j.phase = .queued then j else j.flag 2)) ∧
      t.tb = s.tb ∧ t.engs = s.engs ∧ t.bankMem = s.bankMem ∧ t.dram = s.dram ∧ s.outside t [.tmb, .hif, .sup])) ∧
  (∀ s : State, (s.time.refLost = true → exec .oscRatioWindow s = .next s) ∧
    (s.time.refLost = false → ∃ t, exec .oscRatioWindow s = .next t ∧
      t = { s with fresh := s.fresh + 1, time := { s.time with oscInc := t.time.oscInc } }))

/-- Triggers are armed or refused, fire once or by period; inputs are stamped; firings and start comparators reach the
engines. For a requester that may write. TRIGGER_ARM of a disarmed trigger (R403): a target of 10^9 ns or more, or
PERIODIC with a reserved PER, sets ARM_ERR and nothing else; otherwise EN reads 1, FIRED and LATE 0 and it may fire.
TRIGGER_PERIODIC_WRITE sets PERIODIC, or ARM_ERR alone where PER is reserved and PERIODIC was 0. TRIGGER_FIRE of a
live trigger whose target can come: FIRED reads 1, FIRECNT counts, the firing is on its way to the engines of its
half; a one-shot one may not fire again, a periodic one takes its next target; LATE reads 1 when the target had passed
at arming; no engine has changed yet (R403, R404). TRIG_OUT_PULSE_END and PPS_OUT_END lower their pin and nothing
else; TRIG_IN_EDGE on a pin that serves it stores the stamp with VALID, and OVR where one was unread (R407).
START_COMPARATOR_FIRE marks the context's comparator of the half fired, and its engines still in PRELOAD late; without
such a comparator nothing happens (R406). ALIGNED_START takes the half's firings: while ECLK is stopped or REFCLK lost
nothing else happens; otherwise, with none on its way and no engine in WAITT (then they reach those), every waiting
engine of a job whose comparator fired runs, and those comparators are gone (R405, R406). -/
def Obligations.TriggersFireAndStartsReachTheEngines : Prop :=
  (∀ (s : State) (r : Req) (h : Fin 2) (k : Fin 8), s.mayWrite r .tmb (some h.val) = true →
    (s.on (F.TMB_TRG_CTL.EN h k) = false →
      (1000000000 ≤ s.trgNs h k ∨ (s.on (F.TMB_TRG_CTL.PERIODIC h k) = true ∧ s.perBad h k = true) →
        ∃ t, exec (.triggerArm r h k) s = .next t ∧ t.rd (F.TMB_TRG_CTL.ARM_ERR h k) = 1 ∧
          s.onlyRegs t [F.TMB_TRG_CTL.ARM_ERR h k]) ∧
      (s.trgNs h k < 1000000000 → (s.on (F.TMB_TRG_CTL.PERIODIC h k) = false ∨ s.perBad h k = false) →
        ∃ t, exec (.triggerArm r h k) s = .next t ∧ t.trgLive h k = true ∧ t.rd (F.TMB_TRG_CTL.FIRED h k) = 0 ∧
          t.rd (F.TMB_TRG_CTL.LATE h k) = 0 ∧ t.trgSec h k = s.trgSec h k ∧ t.trgNs h k = s.trgNs h k ∧
          t = { s with regs := t.regs, time := t.time } ∧
          s.keepsRegs t [F.TMB_TRG_CTL.EN h k, F.TMB_TRG_CTL.FIRED h k, F.TMB_TRG_CTL.LATE h k])) ∧
    (∀ on : Bool,
      (on = true → s.on (F.TMB_TRG_CTL.PERIODIC h k) = false → s.perBad h k = true →
        ∃ t, exec (.triggerPeriodicWrite r h k on) s = .next t ∧ t.rd (F.TMB_TRG_CTL.ARM_ERR h k) = 1 ∧
          s.onlyRegs t [F.TMB_TRG_CTL.ARM_ERR h k]) ∧
      (on = false ∨ s.on (F.TMB_TRG_CTL.PERIODIC h k) = true ∨ s.perBad h k = false →
        ∃ t, exec (.triggerPeriodicWrite r h k on) s = .next t ∧ t.on (F.TMB_TRG_CTL.PERIODIC h k) = on ∧
          s.onlyRegs t [F.TMB_TRG_CTL.PERIODIC h k]))) ∧
  (∀ (s : State) (h : Fin 2) (k : Fin 8),
    (s.trgLive h k = false → exec (.triggerFire h k) s = .next s) ∧
    (s.trgLive h k = true → s.canReach h (s.trgSec h k) (s.trgNs h k) = true → ∃ t, exec (.triggerFire h k) s = .next t ∧
      t.rd (F.TMB_TRG_CTL.FIRED h k) = 1 ∧
      t.rd (F.TMB_TRG_CNT.FIRECNT h k) = min (2 ^ 32 - 1) (s.rd (F.TMB_TRG_CNT.FIRECNT h k) + 1) ∧
      bit (Table.get 0 t.time.due h) k = true ∧
      (Table.get false s.time.lateArm (8 * h + k) = true → t.rd (F.TMB_TRG_CTL.LATE h k) = 1) ∧
      (s.on (F.TMB_TRG_CTL.PERIODIC h k) = false → t.trgLive h k = false ∧ t.trgSec h k = s.trgSec h k ∧
        t.trgNs h k = s.trgNs h k) ∧
      (s.on (F.TMB_TRG_CTL.PERIODIC h k) = true → s.perBad h k = false → ∀ n,
        n = nextTarget ((t.tbase h).sec * 1000000000 + (t.tbase h).ns) (s.trgSec h k * 1000000000 + s.trgNs h k)
          (s.rd (F.TMB_TRG_PER.PER h k)) →
        (t.tbase h).sec * 1000000000 + (t.tbase h).ns < n ∧ t.trgSec h k = n / 1000000000 % 2 ^ 48 ∧
          t.trgNs h k = n % 1000000000) ∧
      s.sameEngs t ∧ t.chans = s.chans ∧ s.outside t [.tmb, .dmc, .dbg, .snp]) ∧
    (∃ t, exec (.trigOutPulseEnd h k) s = .next t ∧ Table.get false t.time.trigOut (8 * h + k) = false ∧
      t = { s with time := { s.time with trigOut := t.time.trigOut } })) ∧
  (∀ (s : State) (k : Fin 8) (sec : BitVec 48) (ns : Fin 1000000000),
    (s.sigServed (32 + k.val) = false → exec (.trigInEdge k sec ns) s = .next s) ∧
    (s.sigServed (32 + k.val) = true → ∃ t, exec (.trigInEdge k sec ns) s = .next t ∧
    t.rd (F.TMB_TIN_NS.VALID k) = 1 ∧ t.rd (F.TMB_TIN_NS.NS k) = ns ∧ t.rd (F.TMB_TIN_SEC.SEC k) = sec.toNat ∧
    t.rd (F.TMB_TIN_NS.OVR k) = (if s.on (F.TMB_TIN_NS.VALID k) then 1 else s.rd (F.TMB_TIN_NS.OVR k)) ∧
    s.onlyRegs t [F.TMB_TIN_NS.VALID k, F.TMB_TIN_NS.NS k, F.TMB_TIN_SEC.SEC k, F.TMB_TIN_NS.OVR k])) ∧
  (∀ s : State, ∃ t, exec .ppsOutEnd s = .next t ∧ t.time.pps = false ∧ t = { s with time := { s.time with pps := false } }) ∧
  (∀ (s : State) (h : Fin 2) (c : Fin 64),
    (s.time.starts.find? (fun q => q.half == h.val && q.ctx == c.val && !q.fired) = none →
      exec (.startComparatorFire h c) s = .next s) ∧
    (∀ q, s.time.starts.find? (fun q => q.half == h.val && q.ctx == c.val && !q.fired) = some q →
      s.canReach h q.sec q.ns = true → ∃ t, exec (.startComparatorFire h c) s = .next t ∧
        (∀ p ∈ t.time.starts, p.half = h.val → p.ctx = c.val → p.fired = true) ∧
        t.time.starts.length = s.time.starts.length ∧
        (∀ n ∈ s.jobSlots c, halfOfSlot n = h.val → s.slotState n = stPreload → (t.eng n).late = true) ∧
        (∀ n, n ∉ s.jobSlots c → t.eng n = { s.eng n with wdog := (t.eng n).wdog }) ∧ s.outside t [.tmb, .dmc, .dbg])) ∧
  (∀ (s : State) (h : Fin 2) (ws : List (Fin 104 × Nat)),
    ((s.clk h).stopped = true ∨ (s.clk h).gated = true ∨ s.time.refLost = true → ∃ t, exec (.alignedStart h ws) s = .next t ∧
      Table.get 0 t.time.due h = 0 ∧ t = { s with time := { s.time with due := t.time.due, reached := t.time.reached } }) ∧
    ((s.clk h).stopped = false → (s.clk h).gated = false → s.time.refLost = false → Table.get 0 s.time.due h = 0 →
      (∀ n k, (s.eng n).wait ≠ .waitt k) → ∃ t, exec (.alignedStart h ws) s = .next t ∧
        (∀ q ∈ s.time.starts, q.half = h.val → q.fired = true → ∀ n ∈ s.jobSlots q.ctx, halfOfSlot n = h.val →
          s.slotState n = stWait → t.slotState n = stRun) ∧
        t.time.starts = s.time.starts.filter (fun q => !(q.half == h.val && q.fired)) ∧ t.tb = s.tb ∧ t.dram = s.dram ∧
        t.bankMem = s.bankMem ∧ s.outside t [.eng]))

/-- Frames are sorted and counted; accepted event frames halt, start or align; a due launch slot sends its frame with its
stamp. TRUNK_FRAME_RX: a port that is not up does nothing; a longer frame, another kind or an unsupported PTP message
counts RX_OTHER, an event frame with a reserved value counts REJ, a PTP message that enabled firmware takes may change
the port's role alone (its value is free), any other changes nothing by itself (R397, R398, R402; the headers are the
standards', log entry 22). EVF_HALT, EVF_START and EVF_SYNC on a port that is up count REJ alone unless the frame is
accepted; an accepted one counts ACC and its SEQ is the newest of its TYPE (R402): HALT keeps its action time, START
arms the trigger of both halves at its time or sets ARM_ERR, SYNC is a moment for a pending ECLK change that waits for
it. EVF_HALT_ACTION at a time that can come ends that HALT, and the front PATTERN job of a context in TMB_EVF_CTX,
running with no status and an engine not halted, has a status. LAUNCH_FRAME_SEND of a due slot: the slot's frame is
sent, SENT reads 1, ARM and TS_VALID 0, and with TS_REQ the egress stamp is queued for it; of another slot nothing
(R399, R400). PCS_BLOCK_LOCK_CHANGE of an enabled port sets LINK alone (R410). -/
def Obligations.TrunkPortsTakeEventFramesAndSendFrames : Prop :=
  (∀ (s : State) (p : Fin 4) (len data : Nat),
    (s.trkUp p = false → exec (.trunkFrameRx p len data) s = .next s) ∧
    (s.trkUp p = true → 1518 < len + 4 ∨ frameKind data = .other ∨
        (∃ a, frameKind data = .ptp a ∧ ptpOther data a = true) → ∃ t, exec (.trunkFrameRx p len data) s = .next t ∧
      t.rd (F.TMB_TRK_RXO.RX_OTHER p) = min (2 ^ 32 - 1) (s.rd (F.TMB_TRK_RXO.RX_OTHER p) + 1) ∧
      s.onlyRegs t [F.TMB_TRK_RXO.RX_OTHER p]) ∧
    (∀ a, s.trkUp p = true → len + 4 ≤ 1518 → frameKind data = .ptp a → ptpOther data a = false →
      (s.on F.TMB_PTP_CFG.EN = false → exec (.trunkFrameRx p len data) s = .next s) ∧
      (s.on F.TMB_PTP_CFG.EN = true → ∃ t, exec (.trunkFrameRx p len data) s = .next t ∧
        1 ≤ t.rd (F.TMB_TRK_CFG.ROLE p) ∧ t.rd (F.TMB_TRK_CFG.ROLE p) ≤ 4 ∧
        t = { s with regs := t.regs, fresh := s.fresh + 1 } ∧ s.keepsRegs t [F.TMB_TRK_CFG.ROLE p])) ∧
    (∀ a, s.trkUp p = true → len + 4 ≤ 1518 → frameKind data = .evf a →
      (evfReserved data a = false → exec (.trunkFrameRx p len data) s = .next s) ∧
      (evfReserved data a = true → ∃ t, exec (.trunkFrameRx p len data) s = .next t ∧
        t.rd F.TMB_EVF_STAT.REJ = min (2 ^ 16 - 1) (s.rd F.TMB_EVF_STAT.REJ + 1) ∧ s.onlyRegs t [F.TMB_EVF_STAT.REJ]))) ∧
  (∀ (s : State) (p : Fin 4) (g : BitVec 16) (q : Word32) (sec : BitVec 48) (ns : BitVec 30) (k : Fin 8) (i : Instr) (ty : Nat),
    (i, ty) ∈ [(Instr.evfHalt p g q sec ns, 1), (.evfStart p g q sec ns k, 2), (.evfSync p g q sec ns, 3)] →
    (s.trkUp p = false → exec i s = .next s) ∧
    (s.trkUp p = true → s.evfOk p ty g.toNat q.toNat = false → ∃ t, exec i s = .next t ∧
      t.rd F.TMB_EVF_STAT.REJ = min (2 ^ 16 - 1) (s.rd F.TMB_EVF_STAT.REJ + 1) ∧ s.onlyRegs t [F.TMB_EVF_STAT.REJ]) ∧
    (s.trkUp p = true → s.evfOk p ty g.toNat q.toNat = true → ∃ t, exec i s = .next t ∧
      t.rd F.TMB_EVF_STAT.ACC = min (2 ^ 16 - 1) (s.rd F.TMB_EVF_STAT.ACC + 1) ∧
      Table.get 0 t.time.evfSeq ty = 1 + q.toNat ∧ (∀ u, u ≠ ty → Table.get 0 t.time.evfSeq u = Table.get 0 s.time.evfSeq u) ∧
      t = { s with regs := t.regs, time := t.time } ∧
      (ty = 1 → t.time.halts = s.time.halts ++ [(sec.toNat, ns.toNat)] ∧ s.keepsRegs t [F.TMB_EVF_STAT.ACC]) ∧
      (ty = 2 → ∀ h : Fin 2, t.trgSec h k = sec.toNat ∧ t.trgNs h k = ns.toNat ∧
        (ns.toNat < 1000000000 → (s.on (F.TMB_TRG_CTL.PERIODIC h k) = false ∨ s.perBad h k = false) →
          t.trgLive h k = true ∧ t.rd (F.TMB_TRG_CTL.FIRED h k) = 0) ∧
        (s.on (F.TMB_TRG_CTL.PERIODIC h k) = true → s.perBad h k = true → t.on (F.TMB_TRG_CTL.EN h k) = false ∧
          t.rd (F.TMB_TRG_CTL.ARM_ERR h k) = 1)) ∧
      (ty = 3 → s.keepsRegs t [F.TMB_EVF_STAT.ACC] ∧
        (∀ h : Fin 2, s.applyPending h = true → s.eff (F.GLB_ECLK_CTL.ALIGN_SRC h) = 1 →
          t.time.syncs = s.time.syncs ++ [(sec.toNat, ns.toNat)])))) ∧
  (∀ (s : State) (k : Nat),
    (s.time.halts[k]? = none → exec (.evfHaltAction k) s = .next s) ∧
    (∀ q, s.time.halts[k]? = some q → s.canReach s.refHalf q.1 q.2 = true → ∃ t, exec (.evfHaltAction k) s = .next t ∧
      t.time.halts = s.time.halts.eraseIdx k ∧
      (s.rd F.TMB_EVF_CTX.CTX = 0 → s.ticked t) ∧
      (∀ n j, n < 64 → s.rd F.TMB_EVF_CTX.CTX = 2 ^ n → s.front n = some j → dType j.desc = 2 → j.phase = .running →
        j.restart = false → j.settled = false → s.allHalted n = false → ∃ f, t.front n = some f ∧ f.status.isSome = true))) ∧
  (∀ (s : State) (p q : Fin 4) (sec : BitVec 48) (ns : Fin 1000000000) (frac : Fin 16),
    (s.time.launch.contains (p.val, q.val) = false → exec (.launchFrameSend p q sec ns frac) s = .next s) ∧
    (s.time.launch.contains (p.val, q.val) = true → ∃ t, exec (.launchFrameSend p q sec ns frac) s = .next t ∧
      t.time.sent = s.time.sent ++ [s.launchFrame p q] ∧ t.time.launch = s.time.launch.erase (p.val, q.val) ∧
      t.rd (F.TMB_LCH_CFG.SENT p q) = 1 ∧ t.rd (F.TMB_LCH_CFG.ARM p q) = 0 ∧ t.rd (F.TMB_LCH_CFG.TS_VALID p q) = 0 ∧
      (s.on (F.TMB_LCH_CFG.TS_REQ p q) = false → t.time.tsq = s.time.tsq ∧
        s.keepsRegs t [F.TMB_LCH_CFG.SENT p q, F.TMB_LCH_CFG.ARM p q, F.TMB_LCH_CFG.TS_VALID p q]) ∧
      (∀ e, s.on (F.TMB_LCH_CFG.TS_REQ p q) = true → e = ns.val * 16 + frac.val + s.rd (F.TMB_TRK_LAT.EGR_LAT p) →
        (Table.get [] s.time.tsq p).length < 64 → Table.get [] t.time.tsq p = Table.get [] s.time.tsq p ++
          [⟨some q, (sec.toNat + e / 16000000000) % 2 ^ 48, e % 16000000000 / 16, e % 16⟩]) ∧
      t = { s with regs := t.regs, time := t.time } ∧ s.outside t [.tmb])) ∧
  (∀ (s : State) (p : Fin 4) (lock : Bool), s.on (F.TMB_TRK_PHY.EN p) = true →
    ∃ t, exec (.pcsBlockLockChange p lock) s = .next t ∧ t.on (F.TMB_TRK_STAT.LINK p) = lock ∧
      s.onlyRegs t [F.TMB_TRK_STAT.LINK p])

/-- A faulty unit is fenced with its cause and a new epoch, gates drop what it still says, and a self-test returns it.
With a controller that can act. ENGINE_FAULT of a slot in service sets PARITY or SEQ_UE and fences it with CAUSE 1 or
2: STATE reads FENCED in SUP and ENG, FEP is the next value but 0, no other unit is fenced by it; of a fenced slot
nothing; a corrected entry of its cache only counts in CE (R112, R414, R418, R419). HEARTBEAT with one unit silent,
firmware running: a slot is fenced with CAUSE 3 and HB_MISS, a bay controller only at its second miss in a row; with
none silent only the count of misses goes (R415). CHANNEL_GROUP_FAULT of a locked serial channel while ECLK runs:
SER_LOCK 0, its group fenced, with CAUSE 4 and every channel FENCED if it was not. VCC_CH_FAIL fences every channel
group a controller can reach; VCC_CH_VALID leaves every channel with E and D low and no event (R170, R503). GATE_DROP
counts FTALK of the unit for an output that the gate does not pass, and does nothing for one it passes (R419, R420).
REINSTATE by one that may write, with no reinstatement under way: a unit not fenced only stores REINST_U, a fenced
slot goes into SELFTEST with REINST 1, a DRAM interface sets REINST_FAIL. REINSTATE_DONE: a slot that passes is SPARE
and open, one that fails is fenced with REINST_FAIL (R421). -/
def Obligations.FaultsFenceUnitsAndReinstatementReturnsThem : Prop :=
  (∀ (s : State) (n : Fin 104), exec (.engineFault n (some .clean)) s = .next s ∧
    (∃ t, exec (.engineFault n (some .corrected)) s = .next t ∧
      t.rd (F.ENG_PERF.CE n) = min (2 ^ 16 - 1) (s.rd (F.ENG_PERF.CE n) + 1) ∧ s.onlyRegs t [F.ENG_PERF.CE n])) ∧
  (∀ (s : State) (n : Fin 104) (ue : Bool) (x : Option Ecc), x = (if ue then some .bad else none) →
    (s.isFenced n = true → exec (.engineFault n x) s = .next s) ∧
    (s.isFenced n = false → s.ctlAlive (unitBay n) = true → ∃ t, exec (.engineFault n x) s = .next t ∧
      t.rd (F.ENG_ERR.ERR_PC n) = s.rd (F.ENG_STAT.PC n) ∧
      t.rd (if ue then F.ENG_ERR.SEQ_UE n else F.ENG_ERR.PARITY n) = 1 ∧ t.rd (F.SUP_UNIT_STAT.STATE n) = 1 ∧
      t.rd (F.SUP_UNIT_STAT.CAUSE n) = (if ue then 2 else 1) ∧ t.slotState n = stFenced ∧ t.rd (F.ENG_MAP.FENCED n) = 1 ∧
      t.fep n = (if (s.fep n + 1) % 2 ^ 32 = 0 then 1 else (s.fep n + 1) % 2 ^ 32) ∧
      (∀ u, u ≠ n.val → t.isFenced u = s.isFenced u) ∧ t.dram = s.dram ∧ t.seqMem = s.seqMem ∧ t.pending = s.pending)) ∧
  (∀ s : State, s.firmwareUp = true →
    (∃ t, exec (.heartbeat []) s = .next t ∧ (∀ b, b < 8 → Table.get false t.hbMiss b = false) ∧ t = { s with hbMiss := t.hbMiss }) ∧
    (∀ n : Fin 104, s.isFenced n = false → s.ctlAlive (unitBay n) = true →
      ∃ t, exec (.heartbeat [⟨n, by omega⟩]) s = .next t ∧ t.rd (F.ENG_ERR.HB_MISS n) = 1 ∧ t.rd (F.SUP_UNIT_STAT.STATE n) = 1 ∧
        t.rd (F.SUP_UNIT_STAT.CAUSE n) = 3 ∧ t.slotState n = stFenced ∧ (∀ u, u ≠ n.val → t.isFenced u = s.isFenced u)) ∧
    (∀ b : Fin 8, s.isFenced 216 = false ∨ s.isFenced 217 = false → s.isFenced (144 + b.val) = false →
      (Table.get false s.hbMiss b = false → ∃ t, exec (.heartbeat [⟨144 + b, by omega⟩]) s = .next t ∧
        Table.get false t.hbMiss b = true ∧ t = { s with hbMiss := t.hbMiss }) ∧
      (Table.get false s.hbMiss b = true → ∃ t, exec (.heartbeat [⟨144 + b, by omega⟩]) s = .next t ∧
        t.isFenced (144 + b.val) = true ∧ t.rd (F.SUP_UNIT_STAT.CAUSE (144 + b.val)) = 3 ∧
        (∀ u, u ≠ 144 + b.val → t.isFenced u = s.isFenced u)))) ∧
  (∀ (s : State) (c : Fin 256), s.serial c = true → s.on (F.CHN_STAT.SER_LOCK c) = true →
    s.on (F.GLB_ECLK_CTL.LOCKED (selH c)) = true → ∃ t, exec (.channelGroupFault c) s = .next t ∧
      t.rd (F.CHN_STAT.SER_LOCK c) = 0 ∧ t.isFenced (104 + c.val / 8) = true ∧
      (s.isFenced (104 + c.val / 8) = false → t.rd (F.SUP_UNIT_STAT.CAUSE (104 + c.val / 8)) = 4 ∧
        (∀ i, i < 8 → t.rd (F.CHN_STAT.FENCED (c.val / 8 * 8 + i)) = 1)) ∧
      (∀ u, u ≠ 104 + c.val / 8 → t.isFenced u = s.isFenced u)) ∧
  (∀ s : State, (∃ t, exec .vccChFail s = .next t ∧ t.vccCh = false ∧
      (∀ g, g < 32 → s.ctlAlive (g / 4) = true → t.isFenced (104 + g) = true) ∧
      (∀ u, u < 104 ∨ 136 ≤ u → t.isFenced u = s.isFenced u)) ∧
    (s.vccCh = true → exec .vccChValid s = .next s) ∧
    (s.vccCh = false → ∃ t, exec .vccChValid s = .next t ∧ t.vccCh = true ∧
      (∀ c, c < 256 → (t.chan c).eLevel = false ∧ (t.chan c).dLevel = false ∧ (t.chan c).events = []) ∧
      t = { s with vccCh := true, chans := t.chans })) ∧
  (∀ (s : State) (u : Fin 218) (old : Option Word32) (e : Nat), e = (match old with | some x => x.toNat | none => s.ownFep u) →
    (s.gatePasses u e = true → exec (.gateDrop u old) s = .next s) ∧
    (s.gatePasses u e = false → ∃ t, exec (.gateDrop u old) s = .next t ∧
      t.rd (F.SUP_UNIT_STAT.FTALK u) = min (2 ^ 16 - 1) (s.rd (F.SUP_UNIT_STAT.FTALK u) + 1) ∧ t.engs = s.engs ∧ t.chans = s.chans ∧
      t.bankMem = s.bankMem ∧ t.dram = s.dram ∧ s.outside t [.sup, .hif])) ∧
  (∀ (s : State) (r : Req) (u : Fin 256), s.mayWrite r .sup = true → s.on F.SUP_CTL.REINST = false → u.val < 218 →
    (s.rd (F.SUP_UNIT_STAT.STATE u) ≠ 1 → ∃ t, exec (.reinstate r u) s = .next t ∧ t.rd F.SUP_CTL.REINST_U = u ∧
      s.onlyRegs t [F.SUP_CTL.REINST_U]) ∧
    (u.val < 104 → s.rd (F.SUP_UNIT_STAT.STATE u) = 1 → ∃ t, exec (.reinstate r u) s = .next t ∧ t.rd F.SUP_CTL.REINST_U = u ∧
      t.rd F.SUP_CTL.REINST = 1 ∧ t.rd (F.SUP_UNIT_STAT.STATE u) = 2 ∧
      s.onlyRegs t [F.SUP_CTL.REINST_U, F.SUP_CTL.REINST, F.SUP_UNIT_STAT.STATE u]) ∧
    (136 ≤ u.val → u.val < 144 → s.rd (F.SUP_UNIT_STAT.STATE u) = 1 → ∃ t, exec (.reinstate r u) s = .next t ∧
      t.rd F.SUP_STAT.REINST_FAIL = 1 ∧ t.rd F.SUP_CTL.REINST = 0 ∧
      s.onlyRegs t [F.SUP_CTL.REINST_U, F.SUP_STAT.REINST_FAIL, F.SUP_CTL.REINST])) ∧
  (∀ (s : State) (u : Nat), u = s.reinstU →
    (s.on F.SUP_CTL.REINST = false → ∀ p, exec (.reinstateDone p) s = .next s) ∧
    (s.on F.SUP_CTL.REINST = true → s.rd (F.SUP_UNIT_STAT.STATE u) = 2 →
      (∃ t, exec (.reinstateDone false) s = .next t ∧ t.isFenced u = true ∧ t.rd F.SUP_STAT.REINST_FAIL = 1 ∧
        t.rd F.SUP_CTL.REINST = 0 ∧ s.onlyRegs t [F.SUP_UNIT_STAT.STATE u, F.SUP_STAT.REINST_FAIL, F.SUP_CTL.REINST]) ∧
      (u < 104 → ∃ t, exec (.reinstateDone true) s = .next t ∧ t.isFenced u = false ∧ t.rd (F.SUP_UNIT_STAT.CAUSE u) = 0 ∧
        t.rd F.SUP_CTL.REINST = 0 ∧ t.slotState u = stSpare ∧ t.rd (F.ENG_MAP.LE u) = 0x7F ∧ t.rd (F.ENG_MAP.FENCED u) = 0 ∧
        (0 < t.fep u → t.gatePasses u (t.ownFep u) = true) ∧ (∀ m, m ≠ u → t.eng m = s.eng m))))

/-- A fenced slot's logical engine moves to a spare and its job restarts; supervisors echo, claim and advance custody by
epoch. SUBSTITUTION_DRAIN_DONE of a fenced slot without a job (R422, R423): a spare takes its logical engine, the slot
keeps none, and the substitution is over; without a spare it is over and no slot's LE changes; with a job not yet
drained nothing happens. SUBSTITUTION_RESTART of a job to run again, not paused, drained and moved whole: its slots
run, it is dispatched once more with RERUN and SPARED, and the substitution is over. ECHO_SEND counts the sequence
number and toggles the wire (R426). ECHO_PERIOD_CHECK of a serving pair: each path missed counts, one received ends
the silence, and at the third silent period the holder fences the standby (R428, R430). ECHO_RX where both claim: the
lower epoch drops its claim and is fenced. CUSTODY_CLAIM with no lantern yet, by the preferred supervisor with its
partner up: CUR 1, HOLDER and LANTERN_VALID (R427). CUSTODY_ADVANCE, and ADVANCE_RETRY of a failed one, of a standby
that declared silence: unreached sets ADV_FAIL and keeps the retry; reached with CUR + 1 it is the holder and the old
one is fenced; with another epoch custody stays (and a run that the failover held goes on, R518). COMMIT_UNIT_WRITE
under an old epoch counts STALE and drops the claim, and nothing else. CUSTODY_RECONCILE with no live context ends the
new holder's reconciliation and leaves every context as it is (R428, R429). -/
def Obligations.SparesSubstituteAndTheLanternMovesByEpoch : Prop :=
  (∀ (s : State) (n : Fin 104) (q : Subst), s.substs.find? (fun q => q.slot == n.val && !q.moved) = some q → s.served = true →
    (q.ctx = none → ∀ m, s.spareFor n = some m → m ≠ n.val → q.le < 128 →
      ∃ t, exec (.substitutionDrainDone n) s = .next t ∧ t.rd (F.ENG_MAP.LE n) = 0x7F ∧ t.rd (F.ENG_MAP.LE m) = q.le ∧
        t.slotState m = stIdle ∧ t.substs = s.substs.filter (fun p => p.slot ≠ n.val) ∧ t.dram = s.dram ∧ t.seqMem = s.seqMem) ∧
    (q.ctx = none → s.spareFor n = none → ∃ t, exec (.substitutionDrainDone n) s = .next t ∧
      (∀ m, t.rd (F.ENG_MAP.LE m) = s.rd (F.ENG_MAP.LE m)) ∧ t.substs = s.substs.filter (fun p => p.slot ≠ n.val) ∧
      t.engs = s.engs) ∧
    (∀ c, q.ctx = some c → s.drained c = false → exec (.substitutionDrainDone n) s = .next s)) ∧
  (∀ (s : State) (c : Fin 64) (j : Job), s.front c = some j → j.restart = true → j.paused = false → s.drained c = true →
    s.served = true → (∃ q ∈ s.substs, q.ctx = some c.val) → (∀ q ∈ s.substs, q.ctx = some c.val → q.moved = true) →
    ∃ t, exec (.substitutionRestart c) s = .next t ∧
      (∃ k, t.front c = some k ∧ k.redisp = j.redisp + 1 ∧ k.restart = false ∧ k.flags = (j.flags ||| 1) ||| 16 ∧ k.seq = j.seq) ∧
      (∀ le ∈ jobLes j.desc, ∀ m, s.slotOf le = some m → t.slotState m = stRun) ∧
      t.substs = s.substs.filter (fun q => q.ctx != some c.val)) ∧
  (∀ (s : State) (h : Fin 2), (s.sup h).booted = true → ∃ t, exec (.echoSend h) s = .next t ∧
    t.sup h = { s.sup h with seq := ((s.sup h).seq + 1) % 2 ^ 32, wire := !(s.sup h).wire } ∧ t = { s with sups := t.sups } ∧
    (∀ g, g ≠ h.val → t.sup g = s.sup g)) ∧
  (∀ (s : State) (h : Fin 2) (echo wire : Bool), s.supUp h = true → s.supUp (1 - h.val) = true →
    ∃ t, exec (.echoPeriodCheck h echo wire) s = .next t ∧
      t.rd (F.SUP_ECHO.MISS h) = (if echo then s.rd (F.SUP_ECHO.MISS h) else min (2 ^ 16 - 1) (s.rd (F.SUP_ECHO.MISS h) + 1)) ∧
      t.rd (F.SUP_ECHO.SB_MISS h) = (if wire then s.rd (F.SUP_ECHO.SB_MISS h) else min (2 ^ 16 - 1) (s.rd (F.SUP_ECHO.SB_MISS h) + 1)) ∧
      (t.sup h).silent = (if echo || wire then 0 else min 3 ((s.sup h).silent + 1)) ∧
      (echo = true ∨ wire = true ∨ (s.sup h).silent < 2 ∨ s.holder ≠ h.val → t.isFenced (217 - h.val) = false) ∧
      (echo = false → wire = false → 2 ≤ (s.sup h).silent → s.on F.SUP_STAT.LANTERN_VALID = true → s.holder = h.val →
        t.isFenced (217 - h.val) = true ∧ t.rd (F.SUP_UNIT_STAT.CAUSE (217 - h.val)) = 7)) ∧
  (∀ (s : State) (h : Fin 2),
    ((s.sup 0).claims = false ∨ (s.sup 1).claims = false → exec (.echoRx h) s = .next s) ∧
    (∀ w : Fin 2, (s.sup 0).booted = true → (s.sup 1).booted = true → (s.sup 0).claims = true → (s.sup 1).claims = true →
      (s.sup (1 - w.val)).epoch < (s.sup w).epoch → ∃ t, exec (.echoRx h) s = .next t ∧ (t.sup (1 - w.val)).claims = false ∧
        (t.sup w).claims = true ∧ t.isFenced (217 - w.val) = true ∧ t.isFenced (216 + w.val) = s.isFenced (216 + w.val))) ∧
  (∀ (s : State) (h : Fin 2), s.on F.SUP_STAT.LANTERN_VALID = false → s.rd F.SUP_CUST_EPOCH.CUR = 0 → s.custodyPref = h.val →
    s.supUp 0 = true → s.supUp 1 = true → ∃ t, exec (.custodyClaim h) s = .next t ∧ t.rd F.SUP_CUST_EPOCH.CUR = 1 ∧
      t.holder = h.val ∧ t.on F.SUP_STAT.LANTERN_VALID = true ∧ (t.sup h).claims = true ∧ (t.sup h).epoch = 1 ∧
      t = { s with regs := t.regs, sups := t.sups } ∧
      s.keepsRegs t [F.SUP_CUST_EPOCH.CUR, F.SUP_STAT.HOLDER, F.SUP_STAT.LANTERN_VALID, F.TMB_STAT.REF, F.TMB_INC.INC]) ∧
  (∀ (s : State) (h : Fin 2) (e : Word32) (i : Instr) (reach : Bool), s.mayAdvance h = true →
    (i = .custodyAdvance h e reach ∧ (s.sup h).retry = false) ∨ (i = .advanceRetry h e reach ∧ (s.sup h).retry = true) →
    (reach = false → ∃ t, exec i s = .next t ∧ t.rd F.SUP_STAT.ADV_FAIL = 1 ∧ (t.sup h).retry = true ∧ t.holder = s.holder ∧
      t = { s with regs := t.regs, sups := t.sups } ∧ s.keepsRegs t [F.SUP_STAT.ADV_FAIL]) ∧
    (reach = true → s.rd F.SUP_CUST_EPOCH.CUR ≠ 0xFFFFFFFF → e.toNat = s.rd F.SUP_CUST_EPOCH.CUR + 1 → ∃ t, exec i s = .next t ∧
      t.rd F.SUP_CUST_EPOCH.CUR = e.toNat ∧ t.holder = h.val ∧ (t.sup h).recon = true ∧ (t.sup h).epoch = e.toNat ∧
      t.isFenced (217 - h.val) = true) ∧
    (reach = true → s.rd F.SUP_CUST_EPOCH.CUR ≠ 0xFFFFFFFF → e.toNat ≠ s.rd F.SUP_CUST_EPOCH.CUR + 1 → ∃ t, exec i s = .next t ∧
      (t.sup h).retry = false ∧ (t.sup h).silent = 0 ∧ t.holder = s.holder ∧
      ((∀ n, n < 104 → (s.eng n).dbgHeld = none) → t = { s with sups := t.sups }))) ∧
  (∀ (s : State) (h : Fin 2),
    ((s.sup h).claims = true → (s.sup h).epoch ≠ s.rd F.SUP_CUST_EPOCH.CUR → ∃ t, exec (.commitUnitWrite h) s = .next t ∧
      t.rd F.SUP_CUST_STALE.STALE = min (2 ^ 32 - 1) (s.rd F.SUP_CUST_STALE.STALE + 1) ∧ (t.sup h).claims = false ∧
      t = { s with regs := t.regs, sups := t.sups } ∧ s.keepsRegs t [F.SUP_CUST_STALE.STALE]) ∧
    ((s.sup h).claims = true → (s.sup h).epoch = s.rd F.SUP_CUST_EPOCH.CUR → exec (.commitUnitWrite h) s = .next s)) ∧
  (∀ (s : State) (host : List (BitVec 256 × List (BitVec 256))), s.served = true → (s.sup s.holder).recon = true →
    (∀ n, n < 64 → s.ctxLive n = false) → ∃ t, exec (.custodyReconcile host) s = .next t ∧ (t.sup s.holder).recon = false ∧
      t.ctxs = s.ctxs ∧ t.bankMem = s.bankMem ∧ t.engs = s.engs ∧ s.outside t [.hif, .sup])

/-- An enabled source raises one snapshot at a time; every block latches its record; wear counters count and saturate.
SNP_FIRE (source 5, a requester that may write) and SNAP_IN_EDGE (source 2, on a pin that serves it) with their bit of
SRC_EN: with no snapshot within 64 ticks and none held, one is due from that source with the present time, HELD under
MODE; within 64 ticks of the last one MISSED counts; with the bit 0 nothing (R434, R439). SNP_RELEASE clears HELD
alone. SNAP_DELIVER of a due one: GEN counts, SRC and the time registers show it, 494 records are latched, each with
the new generation in its first word, SNAP_OUT is high, it is due no more, and a pairing sample that waited is taken
(R14); with none due nothing (R435, R436). SNAP_OUT_END lowers SNAP_OUT alone. WEAR_HOUR counts an hour of power, the
thermal cycles, and a hot hour, saturating, stores the 16 readings of the aging monitors, and changes nothing else
(R437). -/
def Obligations.SnapshotsAreRaisedLatchedAndHeldAndWearCounts : Prop :=
  (∀ (s : State) (r : Req) (i : Instr) (k : Nat), (i = .snpFire r ∧ k = 5 ∧ s.mayWrite r .snp = true) ∨ (i = .snapInEdge ∧ k = 2 ∧ s.sigServed 48 = true) →
    (bit (s.rd F.SNP_CTL.SRC_EN) k = false → exec i s = .next s) ∧
    (bit (s.rd F.SNP_CTL.SRC_EN) k = true → s.on F.SNP_STAT.HELD = false →
      (s.snap.lastTick = none ∨ ∃ x, s.snap.lastTick = some x ∧ x + 64 ≤ s.ticks) → ∃ t, exec i s = .next t ∧
        t.snap.due = true ∧ t.snap.srcs = 2 ^ k ∧ t.snap.ns = (s.tbase 0).ns ∧ t.snap.sec = (s.tbase 0).sec ∧
        t.snap.lastTick = some s.ticks ∧ (t.on F.SNP_STAT.HELD = s.on F.SNP_CTL.MODE) ∧ t.snap.records = s.snap.records ∧
        t = { s with regs := t.regs, snap := t.snap } ∧ s.keepsRegs t [F.SNP_STAT.HELD]) ∧
    (∀ x, bit (s.rd F.SNP_CTL.SRC_EN) k = true → s.snap.lastTick = some x → x < s.ticks → s.ticks < x + 64 →
      ∃ t, exec i s = .next t ∧ t.rd F.SNP_STAT.MISSED = min (2 ^ 16 - 1) (s.rd F.SNP_STAT.MISSED + 1) ∧
        s.onlyRegs t [F.SNP_STAT.MISSED])) ∧
  (∀ s : State, s.sigServed 48 = false → exec .snapInEdge s = .next s) ∧
  (∀ (s : State) (r : Req), s.mayWrite r .snp = true → ∃ t, exec (.snpRelease r) s = .next t ∧ t.rd F.SNP_STAT.HELD = 0 ∧
    s.onlyRegs t [F.SNP_STAT.HELD]) ∧
  (∀ s : State, (s.snap.due = false → exec .snapDeliver s = .next s) ∧
    (s.snap.due = true → ∃ t, exec .snapDeliver s = .next t ∧ t.rd F.SNP_GEN.GEN = (s.rd F.SNP_GEN.GEN + 1) % 2 ^ 32 ∧
      t.rd F.SNP_STAT.SRC = s.snap.srcs % 2 ^ 6 ∧ t.rd F.SNP_TIME_NS.NS = s.snap.ns % 2 ^ 30 ∧
      t.rd F.SNP_TIME_SEC.SEC = s.snap.sec % 2 ^ 48 ∧ t.snap.records.length = 494 ∧
      (∀ e ∈ t.snap.records, e.2 % 2 ^ 32 = t.rd F.SNP_GEN.GEN) ∧ t.snap.due = false ∧ t.snap.outHigh = true ∧
      t.time.pairDue = none ∧
      (s.time.pairDue = none → t = { s with regs := t.regs, snap := t.snap } ∧
        s.keepsRegs t [F.SNP_GEN.GEN, F.SNP_STAT.SRC, F.SNP_TIME_NS.NS, F.SNP_TIME_SEC.SEC]) ∧
      t = { s with regs := t.regs, snap := t.snap, tb := t.tb, time := t.time } ∧
      s.keepsRegs t [F.SNP_GEN.GEN, F.SNP_STAT.SRC, F.SNP_TIME_NS.NS, F.SNP_TIME_SEC.SEC, F.TMB_PAIR.DIFF, F.TMB_STAT.PAIR_ERR]) ∧
    (∃ t, exec .snapOutEnd s = .next t ∧ t = { s with snap := { s.snap with outHigh := false } })) ∧
  (∀ (s : State) (cycles : Nat) (hot : Bool) (ages : List (BitVec 16)), ages.length = 16 →
    ∃ t, exec (.wearHour cycles hot ages) s = .next t ∧
      t.rd F.SUP_WEAR_POH.POH = min (2 ^ 32 - 1) (s.rd F.SUP_WEAR_POH.POH + 1) ∧
      t.rd F.SUP_WEAR_CYC.CYC = min (2 ^ 32 - 1) (s.rd F.SUP_WEAR_CYC.CYC + cycles) ∧
      t.rd F.SUP_WEAR_HOT.HOT = min (2 ^ 32 - 1) (s.rd F.SUP_WEAR_HOT.HOT + b2n hot) ∧
      (∀ i, i < 16 → t.rd (F.SUP_AGE.SLOW i) = (ages.getD i 0).toNat) ∧
      s.onlyRegs t ([F.SUP_WEAR_POH.POH, F.SUP_WEAR_CYC.CYC, F.SUP_WEAR_HOT.HOT] ++ (List.range 16).map F.SUP_AGE.SLOW))

/-- A load starts from flash or ring, takes its bytes, is checked before it touches the fabric, and ends released or
failed with its reason. With no load under way. FLASH_BOOT while CONFIGURING from flash: a valid pointer copy starts
the primary load, none gives REASON 1 and AWAIT_IMAGE (R343). FLASH_PRIMARY and FLASH_GOLDEN by one that may write, in
service, start their load, or REASON 1 alone (R345). CFG_RING_ENTRY of an enabled ring with an entry: START where a
load may start begins one with the entry's bytes, a later entry adds its own, one without a load is counted in IGN; CI
moves on (R344). CFG_ABORT, CFG_STREAM_TIMEOUT of a ring load and FLASH_COMMAND_TIMEOUT of a flash load in service
that has not passed its checks end it with REASON 0x0D, 0x0A and 0x0B, the fabric untouched; a primary falls back to
golden (R347, R348). SIGNATURE_VERIFIED of a ring load: with bytes missing nothing happens; passed, it is checked,
PHASE reads 6, its quarters are fenced, and a FULL one holds both halves; a failing one in service ends with its
reason and the fabric untouched (R346, R349, R354). SEGMENT_WRITE of a checked PARTIAL from the ring: with bytes
missing that may come nothing; a wrong digest ends it with REASON 8 and the configuration of its quarters clear; the
last segment without a failure releases its quarters with REASON 0. -/
def Obligations.ImagesAreLoadedCheckedAndFail : Prop :=
  (∀ (s : State) (a b : BitVec 512), s.rd F.GLB_STATE.STATE = 5 → bit (s.rd F.GLB_STRAP.STRAPS) 0 = false → s.load.active = false →
    ((ptrValid a || ptrValid b) = true → ∃ t, exec (.flashBoot a b) s = .next t ∧ t.load.active = true ∧ t.load.source = 1 ∧
      t.load.boot = true ∧ t.rd F.CFG_LOAD_STATUS.PHASE = 3 ∧ t.rd F.CFG_LOAD_STATUS.SOURCE = 1 ∧
      t = { s with regs := t.regs, load := t.load } ∧ s.keepsRegs t [F.CFG_LOAD_STATUS.PHASE, F.CFG_LOAD_STATUS.SOURCE]) ∧
    ((ptrValid a || ptrValid b) = false → ∃ t, exec (.flashBoot a b) s = .next t ∧ t.rd F.CFG_LOAD_STATUS.REASON = 1 ∧
      t.rd F.GLB_STATE.STATE = 4 ∧ s.onlyRegs t [F.CFG_LOAD_STATUS.REASON, F.CFG_LOAD_STATUS.PHASE, F.GLB_STATE.STATE])) ∧
  (∀ (s : State) (r : Req) (a b : BitVec 512) (i : Instr) (f : Fld) (k : Nat),
    (i, f, k) ∈ [(Instr.flashPrimary r a b, F.CFG_LOAD_CTL.FLASH_PRIMARY, 1), (.flashGolden r a b, F.CFG_LOAD_CTL.FLASH_GOLDEN, 2)] →
    s.mayWrite r .cfg = true → s.inSvc = true → s.load.active = false → s.load.due = false →
    ((ptrValid a || ptrValid b) = true → ∃ t, exec i s = .next t ∧ t.rd f = 1 ∧ t.load.active = true ∧ t.load.source = k ∧
      t.load.service = true ∧ t = { s with regs := t.regs, load := t.load } ∧
      s.keepsRegs t [f, F.CFG_LOAD_STATUS.PHASE, F.CFG_LOAD_STATUS.SOURCE]) ∧
    ((ptrValid a || ptrValid b) = false → ∃ t, exec i s = .next t ∧ t.rd F.CFG_LOAD_STATUS.REASON = 1 ∧
      s.onlyRegs t [F.CFG_LOAD_STATUS.REASON])) ∧
  (∀ (s : State) (e : BitVec 128) (data len : Nat), s.on F.CFG_HRING_CFG.EN = true → s.linkUp = true →
    s.rd F.CFG_HRING_PI.PI ≠ s.rd F.CFG_HRING_CI.CI → len = bits e.toNat 64 32 →
    (bit e.toNat 97 = true → s.load.active = false → s.ringMay = true → len < 256 →
      ∃ t, exec (.cfgRingEntry e data) s = .next t ∧ t.rd F.CFG_HRING_CI.CI = (s.rd F.CFG_HRING_CI.CI + 1) % 2 ^ 16 ∧
        t.load.active = true ∧ t.load.source = 3 ∧ t.load.buf.len = len ∧ t.load.buf.bytes = data % 2 ^ (8 * len) ∧
        (s.inSvc = false → t.rd F.GLB_STATE.STATE = 5) ∧ t = { s with regs := t.regs, load := t.load } ∧
        s.outside t [.cfg, .glb]) ∧
    (bit e.toNat 97 = false → s.load.active = true → s.load.source = 3 → s.load.buf.len + len < 256 →
      ∃ t, exec (.cfgRingEntry e data) s = .next t ∧ t.rd F.CFG_HRING_CI.CI = (s.rd F.CFG_HRING_CI.CI + 1) % 2 ^ 16 ∧
        t.load.buf.len = s.load.buf.len + len ∧ t = { s with regs := t.regs, load := { s.load with buf := t.load.buf, last := t.load.last } } ∧
        s.keepsRegs t [F.CFG_HRING_CI.CI, F.CFG_HRING_CI.IGN]) ∧
    (bit e.toNat 97 = false → s.load.active = false → ∃ t, exec (.cfgRingEntry e data) s = .next t ∧
      t.rd F.CFG_HRING_CI.CI = (s.rd F.CFG_HRING_CI.CI + 1) % 2 ^ 16 ∧
      t.rd F.CFG_HRING_CI.IGN = min (2 ^ 16 - 1) (s.rd F.CFG_HRING_CI.IGN + len) ∧
      s.onlyRegs t [F.CFG_HRING_CI.CI, F.CFG_HRING_CI.IGN])) ∧
  (∀ s : State, s.load.active = true → s.load.checked = false → s.load.service = true → s.load.boot = false →
    (∀ (r : Req) (i : Instr) (why : Nat), (i = .cfgAbort r ∧ why = 0x0D ∧ s.mayWrite r .cfg = true) ∨
        (i = .cfgStreamTimeout ∧ why = 0x0A ∧ s.load.ended = false) → s.load.source = 3 →
      ∃ t, exec i s = .next t ∧ t.rd F.CFG_LOAD_STATUS.REASON = why ∧ t.load.active = false ∧
        t = { s with regs := t.regs, load := t.load } ∧ s.keepsRegs t [F.CFG_LOAD_STATUS.REASON, F.CFG_LOAD_STATUS.PHASE,
          F.CFG_LOAD_CTL.FLASH_PRIMARY, F.CFG_LOAD_CTL.FLASH_GOLDEN]) ∧
    (s.load.source = 1 ∨ s.load.source = 2 → ∃ t, exec .flashCommandTimeout s = .next t ∧
      t.rd F.CFG_LOAD_STATUS.REASON = 0x0B ∧ t.load.active = (s.load.source == 1) ∧ (s.load.source = 1 → t.load.source = 2) ∧
      t = { s with regs := t.regs, load := t.load } ∧ s.keepsRegs t [F.CFG_LOAD_STATUS.REASON, F.CFG_LOAD_STATUS.PHASE,
        F.CFG_LOAD_STATUS.SOURCE, F.CFG_LOAD_CTL.FLASH_PRIMARY, F.CFG_LOAD_CTL.FLASH_GOLDEN])) ∧
  (∀ (s : State) (flash : Img), s.load.active = true → s.load.checked = false → s.load.source = 3 →
    (s.headCheck = none → exec (.signatureVerified flash) s = .next s) ∧
    (∀ e, s.headCheck = some e → e ≠ 0 → e < 256 → s.load.service = true → s.load.boot = false → ∃ t,
      exec (.signatureVerified flash) s = .next t ∧ t.rd F.CFG_LOAD_STATUS.REASON = e ∧ t.load.active = false ∧
      t = { s with regs := t.regs, load := t.load }) ∧
    (s.headCheck = some 0 → ∃ t, exec (.signatureVerified flash) s = .next t ∧ t.load.checked = true ∧
      t.rd F.CFG_LOAD_STATUS.PHASE = 6 ∧ t.load.kind = imgField s.load.buf 6 1 ∧
      (∀ q, q < 128 → bit t.load.target q = true → t.qFenced q = true) ∧
      (t.load.kind ≠ 2 → t.rd (F.FAB_STAT.GHOLD 0) = 1 ∧ t.rd (F.FAB_STAT.GHOLD 1) = 1))) ∧
  (∀ (s : State) (hz n plen : Nat) (seg : Nat), s.load.active = true → s.load.checked = true → s.load.kind = 2 → s.load.source = 3 →
    s.load.boot = false → s.load.service = true → n = s.load.segs → plen = imgField s.load.buf (256 + 0x40 + 48 * n) 4 →
    seg = imgField s.load.buf s.load.pos (plen + 16) →
    (s.load.buf.len < s.load.pos + plen + 16 → s.load.last = false → exec (.segmentWrite hz) s = .next s) ∧
    (s.load.pos + plen + 16 ≤ s.load.buf.len →
      (Config.sha256 (plen + 16) seg ≠ imgField s.load.buf (256 + 0x50 + 48 * n) 32 → ∃ t, exec (.segmentWrite hz) s = .next t ∧
        t.rd F.CFG_LOAD_STATUS.REASON = 8 ∧ t.load.active = false ∧
        (∀ k w, w < 128 → tileQ k < 128 → bit s.load.target (tileQ k) = true → t.cfgW k w = 0) ∧ t.brams = s.brams) ∧
      (∀ (o : Nat × Bool) (rs : List CfgRec) (p : Nat × State),
        Config.sha256 (plen + 16) seg = imgField s.load.buf (256 + 0x50 + 48 * n) 32 →
        o = Config.openSegment ((Table.get none s.fuses (1 + imgField s.load.buf 7 1)).getD 0)
          (imgField s.load.buf 0x20 32 + 2 ^ 256 * imgField s.load.buf 0x10 8) (n + 2 ^ 32 * plen) seg → o.2 = true →
        parseRecs (plen / 8 + 1) plen o.1 = some rs → p = s.applyRecs hz true s.load.target rs → p.1 = 0 →
        imgField s.load.buf 0x0E 2 ≤ n + 1 → imgField s.load.buf 0x18 8 = s.load.pos + plen + 16 →
        ∃ t, exec (.segmentWrite hz) s = .next t ∧ t.rd F.CFG_LOAD_STATUS.REASON = 0 ∧ t.load.active = false ∧
          (∀ q, q < 128 → bit s.load.target q = true → t.qFenced q = false) ∧ t.fcfg = p.2.fcfg ∧ t.bramInit = p.2.bramInit)))

/-- The retained copy from which the Pruner of half h rewrites a frame: its half's, unless a fold has left it to be restored, or the
other half's (R237, R358). -/
def Sys2Proof.Machine.State.prunerCopy (s : State) (h fa : Nat) (own other : Bool) : Option Nat :=
  (if Table.get false s.restoring h then none else s.retCopy h fa own).or (s.retCopy (1 - h) fa other)

/-- The frame rewritten with v reads back right (R358). -/
def Sys2Proof.Machine.State.prunerReads (s : State) (fa v : Nat) (ok : Bool) : Bool :=
  ok && crc32c (frameLen fa) ((s.frameWrite fa v).frameNow fa) + 1 == Table.get 0 s.frameCrcs fa

/-- The frame has been rewritten with v and counted. -/
def Sys2Proof.Machine.State.repaired (s t : State) (h fa v : Nat) : Prop :=
  t.rd (F.CFG_PRN_STAT.REPAIRED h) = min (2 ^ 16 - 1) (s.rd (F.CFG_PRN_STAT.REPAIRED h) + 1) ∧
  t = { s.frameWrite fa v with regs := t.regs } ∧ s.keepsRegs t [F.CFG_PRN_STAT.REPAIRED h]

/-- The mismatch stands: it is counted, named and excluded, and nothing but its report and the frame has changed. -/
def Sys2Proof.Machine.State.stands (s t : State) (h fa : Nat) : Prop :=
  t.rd (F.CFG_PRN_STAT.STANDING h) = min (2 ^ 8 - 1) (s.rd (F.CFG_PRN_STAT.STANDING h) + 1) ∧
  t.rd (F.CFG_PRN_LAST.FA h) = fa ∧ t.prnExcl = s.prnExcl ++ [fa] ∧
  t = { s with regs := t.regs, out := t.out, heldOut := t.heldOut, fns := t.fns, snap := t.snap, fcfg := t.fcfg,
               bramInit := t.bramInit, prnExcl := t.prnExcl } ∧ s.outside t [.cfg, .hif, .sup, .snp, .glb]

/-- DONE qualifies, start-up releases the fabric and enters service, and a Pruner repairs a frame or reports it standing.
DONE_QUALIFIED in AWAIT_DONE with DONE released, high or ignored: LEVEL is the level and the load is qualified,
nothing else (R352). START_UP of a qualified load in AWAIT_DONE, its generators locked or their time over (R353): no
half holds its registers, no quarter is fenced, PHASE reads 1, and the device is in service or degraded; with neither
a qualified nor a due load, or before that, nothing happens. DONE_DROP in service sets DROP and clears LEVEL alone.
PRUNER_FRAME_CHECK of a retained frame of the half, under no load and not excluded, by a running Pruner (R358): a
match changes nothing; at a mismatch the frame is rewritten from the half's retained copy, or the other half's where
that is missing or not restored (R237), and, read back right, counts REPAIRED; otherwise, or with no copy (NOREF), it
counts STANDING, is named in LAST and excluded; in the Pruner's own frame that disables the Pruner and its partner
covers (R359). PRUNER_CROSS_CHECK does the same for a frame of the other half's Pruner. PRUNER_SCRUB_STEP: a late pass
sets PASS_LATE; a correctable sequence-memory word counts; an uncorrectable word of bank memory sets UE, counts and is
named in EADDR (R360); a Pruner that does not run does nothing. -/
def Obligations.DesignsStartAndPrunersCheckFrames : Prop :=
  (∀ (s : State) (high : Bool), s.rd F.GLB_STATE.STATE = 6 → s.on F.CFG_DONE.RELEASED = true →
    (high = true ∨ s.on F.CFG_DONE.IGNORE = true → ∃ t, exec (.doneQualified high) s = .next t ∧ t.on F.CFG_DONE.LEVEL = high ∧
      t.load.qualified = true ∧ t = { s with regs := t.regs, load := { s.load with qualified := true } } ∧
      s.keepsRegs t [F.CFG_DONE.LEVEL]) ∧
    (high = false → s.on F.CFG_DONE.IGNORE = false → exec (.doneQualified high) s = .next s)) ∧
  (∀ s : State,
    (s.load.due = false → (s.rd F.GLB_STATE.STATE ≠ 6 ∨ s.load.qualified = false) → ∀ late, exec (.startUp late) s = .next s) ∧
    (s.fcgsLocked = false → exec (.startUp false) s = .next s) ∧
    (∀ late, s.rd F.GLB_STATE.STATE = 6 → s.load.qualified = true → late = true ∨ s.fcgsLocked = true →
      ∃ t, exec (.startUp late) s = .next t ∧ t.rd (F.FAB_STAT.GHOLD 0) = 0 ∧
      t.rd (F.FAB_STAT.GHOLD 1) = 0 ∧ (∀ q, q < 128 → t.qHeld q = false) ∧ t.rd F.CFG_LOAD_STATUS.PHASE = 1 ∧
      (t.rd F.GLB_STATE.STATE = 7 ∨ t.rd F.GLB_STATE.STATE = 8) ∧ t.load.qualified = false ∧ t.fcfg = s.fcfg ∧ t.dram = s.dram ∧
      t.pending = s.pending) ∧
    (s.inSvc = true → ∃ t, exec .doneDrop s = .next t ∧ t.rd F.CFG_DONE.DROP = 1 ∧ t.rd F.CFG_DONE.LEVEL = 0 ∧
      s.onlyRegs t [F.CFG_DONE.DROP, F.CFG_DONE.LEVEL])) ∧
  (∀ (s : State) (h : Fin 2) (fa : Word32) (own other ok mine : Bool), s.prunerOn h = true → s.prunable fa.toNat = true →
    faQ fa.toNat / 64 = h.val → s.prnExcl.contains fa.toNat = false →
    exec (.prunerFrameCheck h fa false own other ok mine) s = .next s ∧
    (∀ v, s.prunerCopy h fa.toNat own other = some v → s.prunerReads fa.toNat v ok = true →
      ∃ t, exec (.prunerFrameCheck h fa true own other ok mine) s = .next t ∧ s.repaired t h fa.toNat v) ∧
    (∀ v, s.prunerCopy h fa.toNat own other = some v → s.prunerReads fa.toNat v ok = false →
      ∃ t, exec (.prunerFrameCheck h fa true own other ok mine) s = .next t ∧ s.stands t h fa.toNat ∧
      t.fcfg = (s.frameWrite fa.toNat v).fcfg ∧ t.bramInit = (s.frameWrite fa.toNat v).bramInit ∧
      (mine = true → t.rd (F.CFG_PRN_STAT.DISABLED h) = 1)) ∧
    (s.prunerCopy h fa.toNat own other = none → ∃ t, exec (.prunerFrameCheck h fa true own other ok mine) s = .next t ∧
      s.stands t h fa.toNat ∧ t.rd (F.CFG_PRN_STAT.NOREF h) = 1 ∧ t.fcfg = s.fcfg ∧ t.bramInit = s.bramInit ∧
      (mine = true → t.rd (F.CFG_PRN_STAT.DISABLED h) = 1))) ∧
  (∀ (s : State) (h o : Fin 2) (fa : Word32) (own other ok : Bool), o.val = 1 - h.val → s.on (F.CFG_PRN_CTL.EN h) = true →
    s.on (F.CFG_PRN_STAT.DISABLED h) = false → s.prunable fa.toNat = true → faQ fa.toNat / 64 = o.val →
    s.prnExcl.contains fa.toNat = false →
    exec (.prunerCrossCheck h fa false own other ok) s = .next s ∧
    (∀ v, s.prunerCopy o fa.toNat own other = some v → s.prunerReads fa.toNat v ok = true →
      ∃ t, exec (.prunerCrossCheck h fa true own other ok) s = .next t ∧ s.repaired t o fa.toNat v) ∧
    (s.prunerCopy o fa.toNat own other = none → s.on (F.CFG_PRN_STAT.DISABLED o) = false → ∃ t,
      exec (.prunerCrossCheck h fa true own other ok) s = .next t ∧ s.stands t o fa.toNat ∧
      t.rd (F.CFG_PRN_STAT.DISABLED o) = 1 ∧ t.rd (F.CFG_PRN_STAT.COVER h) = 1 ∧ t.fcfg = s.fcfg)) ∧
  (∀ (s : State) (h : Fin 2),
    (s.prunerOn h = false → ∀ x, exec (.prunerScrubStep h x) s = .next s) ∧
    (s.prunerOn h = true →
      (∃ t, exec (.prunerScrubStep h .late) s = .next t ∧ t.rd (F.CFG_PRN_STAT.PASS_LATE h) = 1 ∧
        s.onlyRegs t [F.CFG_PRN_STAT.PASS_LATE h]) ∧
      (∃ t, exec (.prunerScrubStep h (.seq .corrected)) s = .next t ∧ t.rd (seqCe h) = min (2 ^ (seqCe h).w - 1) (s.rd (seqCe h) + 1) ∧
        s.onlyRegs t [seqCe h]) ∧
      (∀ w, ∃ t, exec (.prunerScrubStep h (.bank w .bad)) s = .next t ∧ t.rd (F.BNK_ERR.UE h) = 1 ∧
        t.rd (F.BNK_UE.UE h) = min (2 ^ (F.BNK_UE.UE h).w - 1) (s.rd (F.BNK_UE.UE h) + 1) ∧
        s.onlyRegs t [F.BNK_ERR.UE h, F.BNK_UE.UE h, F.BNK_EADDR.EADDR h])))

/-- A new function takes the latch and completes, holds keep every pad, levels and conversions reach their registers.
PIN_FUNC_WRITE by one that may write (R494, R495): under a load, HOLD or D3hot latch only GPIO_OUT and WR_DISC change;
with no switch in progress a write that changes FUNC or SIG stores them, engages the latch and sets SWITCHING, and one
that does not starts no switch; while a switch is in progress it waits. PIN_SWITCH_COMPLETE of a pin with no write
waiting: SWITCHING 0 and the latch free of it, HELD following what else holds it; a pin that does not switch stays.
GPP_HOLD_WRITE of 1 from 0 and D3HOT_ENTRY leave every pin HELD, GPP_HOLD_WRITE of 0 from 1 and D3HOT_EXIT free each
from that cause, HELD following the others (R495). A pin of FUNC NONE shows the level of the surroundings where they
drive it; otherwise, before start-up under PREPULL, 1, and in service 1 under a pull-up, 0 under a pull-down, the kept
level under a keeper (R489, R492, R496). VCCIO_LEVEL_CHANGE stores the bank's level alone (R488). ADC_CONVERT of an
internal channel, or of a pin in ANALOG with its assignment in effect, stores the code clamped to 0-4095 with VALID;
of another pin it clears VALID alone (R498). No register outside the pin and fabric blocks changes. -/
def Obligations.PinsSwitchHoldAndMeasure : Prop :=
  (∀ (s : State) (r : Req) (p : Fin 96) (v : Word32), s.mayWrite r .gpp (some (p.val / 48)) = true →
    ((s.pin p).causes % 8 ≠ 0 → ∃ t, exec (.pinFuncWrite r p v) s = .next t ∧ t.rd (F.GPP_PIN.GPIO_OUT p) = bits v.toNat 25 1 ∧
      t.rd F.GPP_STAT.WR_DISC = 1 ∧ s.onlyRegs t [F.GPP_PIN.GPIO_OUT p, F.GPP_STAT.WR_DISC]) ∧
    ((s.pin p).causes % 8 = 0 → s.on (F.GPP_PIN.SWITCHING p) = true → ∃ t, exec (.pinFuncWrite r p v) s = .next t ∧
      (t.pin p).next = some v.toNat ∧ t.rd (F.GPP_PIN.FUNC p) = s.rd (F.GPP_PIN.FUNC p) ∧
      t.rd (F.GPP_PIN.SIG p) = s.rd (F.GPP_PIN.SIG p) ∧ t = { s with regs := t.regs, pins := t.pins, padKeep := t.padKeep } ∧ s.outside t [.gpp]) ∧
    ((s.pin p).causes % 8 = 0 → s.on (F.GPP_PIN.SWITCHING p) = false →
      bits v.toNat 0 4 ≠ s.rd (F.GPP_PIN.FUNC p) ∨ bits v.toNat 4 7 ≠ s.rd (F.GPP_PIN.SIG p) →
      ∃ t, exec (.pinFuncWrite r p v) s = .next t ∧ t.rd (F.GPP_PIN.FUNC p) = bits v.toNat 0 4 ∧
        t.rd (F.GPP_PIN.SIG p) = bits v.toNat 4 7 ∧ t.rd (F.GPP_PIN.SWITCHING p) = 1 ∧ t.rd (F.GPP_PIN.HELD p) = 1 ∧
        bit (t.pin p).causes 3 = true ∧ (∀ q, q ≠ p.val → t.pin q = s.pin q) ∧ t = { s with regs := t.regs, pins := t.pins, padKeep := t.padKeep } ∧
        s.outside t [.gpp, .fab]) ∧
    ((s.pin p).causes % 8 = 0 → s.on (F.GPP_PIN.SWITCHING p) = false → bits v.toNat 0 4 = s.rd (F.GPP_PIN.FUNC p) →
      bits v.toNat 4 7 = s.rd (F.GPP_PIN.SIG p) → ∃ t, exec (.pinFuncWrite r p v) s = .next t ∧ t.pins = s.pins ∧
        t.rd (F.GPP_PIN.DRIVE p) = bits v.toNat 18 2 ∧ t.rd (F.GPP_PIN.GPIO_OE p) = bits v.toNat 26 1 ∧
        s.onlyRegs { t with padKeep := s.padKeep } [F.GPP_PIN.GPIO_OE p, F.GPP_PIN.GPIO_OUT p, F.GPP_PIN.PULL p, F.GPP_PIN.SLEW p, F.GPP_PIN.DRIVE p,
          F.GPP_PIN.HYST p, F.GPP_PIN.THR p])) ∧
  (∀ (s : State) (p : Fin 96),
    (s.on (F.GPP_PIN.SWITCHING p) = false → exec (.pinSwitchComplete p) s = .next s) ∧
    (s.on (F.GPP_PIN.SWITCHING p) = true → (s.pin p).next = none → ∃ t, exec (.pinSwitchComplete p) s = .next t ∧
      t.rd (F.GPP_PIN.SWITCHING p) = 0 ∧ (t.pin p).causes = (s.pin p).causes &&& 7 ∧
      (t.on (F.GPP_PIN.HELD p) = ((t.pin p).causes != 0)) ∧ (∀ q, q ≠ p.val → t.pin q = s.pin q) ∧
      t = { s with regs := t.regs, pins := t.pins, padKeep := t.padKeep } ∧ s.outside t [.gpp])) ∧
  (∀ (s : State) (r : Req) (i : Instr) (c : Nat),
    ((i, c) = (.gppHoldWrite r true, 0) ∧ s.mayWrite r .gpp = true ∧ s.on F.GPP_CTL.HOLD = false) ∨ (i, c) = (.d3hotEntry, 1) → ∃ t, exec i s = .next t ∧
      (∀ p, p < 96 → t.rd (F.GPP_PIN.HELD p) = 1 ∧ bit (t.pin p).causes c = true) ∧
      (c = 0 → t.on F.GPP_CTL.HOLD = true) ∧ t = { s with regs := t.regs, pins := t.pins, padKeep := t.padKeep } ∧ s.outside t [.gpp]) ∧
  (∀ (s : State) (r : Req) (i : Instr) (c : Nat),
    ((i, c) = (.gppHoldWrite r false, 0) ∧ s.mayWrite r .gpp = true ∧ s.on F.GPP_CTL.HOLD = true) ∨ (i, c) = (.d3hotExit, 1) → ∃ t, exec i s = .next t ∧
      (∀ p, p < 96 → (t.pin p).causes = (s.pin p).causes &&& (15 - 2 ^ c) ∧
        t.on (F.GPP_PIN.HELD p) = ((t.pin p).causes != 0)) ∧
      (c = 0 → t.on F.GPP_CTL.HOLD = false) ∧ t = { s with regs := t.regs, pins := t.pins, padKeep := t.padKeep } ∧ s.outside t [.gpp]) ∧
  (∀ (s : State) (p : Fin 96), s.pinFunc p = 0 → s.pinLive p = true →
    (bit s.padOn p = true → s.padLevel p = bit s.padExt p) ∧
    (bit s.padOn p = false → bit (s.rd F.GLB_STRAP.STRAPS) 1 = true → s.rd F.GLB_STATE.STATE < 7 → s.padLevel p = true) ∧
    (bit s.padOn p = false → 7 ≤ s.rd F.GLB_STATE.STATE →
      (s.rd (F.GPP_PIN.PULL p) = 1 → s.padLevel p = true) ∧ (s.rd (F.GPP_PIN.PULL p) = 2 → s.padLevel p = false) ∧
      (s.rd (F.GPP_PIN.PULL p) = 3 → s.padLevel p = bit s.padKeep p))) ∧
  (∀ (s : State) (k : Fin 4) (level : Fin 6), ∃ t, exec (.vccioLevelChange k level) s = .next t ∧ t.rd (F.GPP_BANK.LEVEL k) = level ∧
    s.onlyRegs t [F.GPP_BANK.LEVEL k]) ∧
  (∀ (s : State) (ch : Fin 20) (uv : Int) (err : Fin 9) (p : Nat), p = 24 * (ch.val / 4) + 16 + ch.val % 4 →
    (16 ≤ ch.val ∨ (s.pinFunc p = 4 ∧ s.pinLive p = true) → ∃ t, exec (.adcConvert ch uv err) s = .next t ∧
      t.rd (F.GPP_ADC.VALID ch) = 1 ∧
      (t.rd (F.GPP_ADC.CODE ch) : Int) = max 0 (min 4095 (uv * 4096 / 1250000 + (err.val : Int) - 4)) ∧
      s.onlyRegs t [F.GPP_ADC.VALID ch, F.GPP_ADC.CODE ch]) ∧
    (ch.val < 16 → (s.pinFunc p ≠ 4 ∨ s.pinLive p = false) → ∃ t, exec (.adcConvert ch uv err) s = .next t ∧
      t.rd (F.GPP_ADC.VALID ch) = 0 ∧ s.onlyRegs t [F.GPP_ADC.VALID ch]))

/-- A device reset leaves the reset state with its cause, fuses and wear; release samples the straps; firmware is found,
checked and started. POWER_ON_RESET, RESET_N and SOFTWARE_DEVICE_RESET with the key 0xA5C3 by one that may reset
(R440, R441): the device is in POR with every register at its reset value but RST_CAUSE (0 power-on, 1 RESET_N, 2
software, 3 the port), what is fused in the part (its grade with FSP1's reset rate, R255), the fuse-backed SEC
registers and the wear record, which loses its remainders below 16 at power-on; memories are empty, the retention key
is new, fuses, queue and host memory's log stay. Another key, or a requester that may not: nothing. RESET_RELEASE
samples the straps, STEST and STEST_DRAM as replaced by the software reset, into GLB_STRAP; PHASE reads 0 or, with
BOOTSRC 1, 3 (R442, R447). HOST_CONFIG_READY records just that (R445). FW_BOOT_FLASH in BOOT, phase 0: a valid
directory copy starts verification of the primary; none gives REASON 1, AWAIT_FW and FAULT_N (R446). FW_LOAD_GO in
AWAIT_FW verifies the image in West's bank memory (R447). FW_VERIFY_DONE: a good image goes to East; a bad one gives
its REASON and the golden image, or AWAIT_FW (R449). FW_EAST_VERIFY_DONE: a good copy enters SELFTEST with both
supervisors running and DRAM in training, a first bad one is retried, a second fences unit 217 and goes on (R450). The
check of an image is the model's reading of R449 (log entry 30). -/
def Obligations.ResetsAndBootFollowTheirSteps : Prop :=
  (∀ (s : State) (i : Instr) (c : Nat) (ov : Option (Bool × Bool)),
    (i = .powerOnReset ∧ c = 0 ∧ ov = none) ∨ (i = .resetN ∧ c = 1 ∧ ov = none) ∨
      (∃ r a b, i = .softwareDeviceReset r a b 0xA5C3 ∧ s.mayReset r = true ∧ c = (if r = .port then 3 else 2) ∧ ov = some (a, b)) →
    ∃ t, exec i s = .next t ∧ t.por = true ∧ t.rd F.GLB_RST_CAUSE.CAUSE = c ∧ t.strapOver = ov ∧
      (∀ f, t.fused f = s.fused f) ∧ t.rd F.SEC_SLOTS.CONSENT = b2n (s.fused 0x13 && !s.fused 0x14) ∧
      t.rd F.SUP_WEAR_POH.POH = (if c = 0 then s.rd F.SUP_WEAR_POH.POH / 16 * 16 else s.rd F.SUP_WEAR_POH.POH) % 2 ^ 32 ∧
      t.rd F.SUP_WEAR_CYC.CYC = (if c = 0 then s.rd F.SUP_WEAR_CYC.CYC / 16 * 16 else s.rd F.SUP_WEAR_CYC.CYC) % 2 ^ 32 ∧
      t.rd F.SUP_WEAR_HOT.HOT = (if c = 0 then s.rd F.SUP_WEAR_HOT.HOT / 16 * 16 else s.rd F.SUP_WEAR_HOT.HOT) % 2 ^ 32 ∧
      t = { State.reset with
        pending := s.pending, fresh := s.fresh + 1, out := s.out, vccCh := s.vccCh, fuses := s.fuses, svn := s.svn,
        regs := t.regs, strapOver := ov, vcore := t.vcore, time := t.time, retKey := t.retKey } ∧
      (∀ f, f ∈ partFields → t.rd f = s.rd f % 2 ^ f.w) ∧ (∀ n, n < 8 → t.rd (F.DMC_FSP.RATE n 1) = if t.grade12 then 6 else 8) ∧
      State.reset.keepsRegs t ([F.GLB_RST_CAUSE.CAUSE, F.SUP_WEAR_POH.POH, F.SUP_WEAR_CYC.CYC, F.SUP_WEAR_HOT.HOT,
        F.SEC_SLOTS.ROOT_PRG, F.SEC_SLOTS.BSK_PRG, F.SEC_SLOTS.BSK_REV, F.SEC_SLOTS.DBG_PRG, F.SEC_SLOTS.DBG_REV,
        F.SEC_SLOTS.CONSENT, F.SEC_FW_SVN.SVN] ++ partFields ++ (List.range 8).map (fun n => F.DMC_FSP.RATE n 1))) ∧
  (∀ (s : State) (r : Req) (a b : Bool) (k : BitVec 16), k ≠ 0xA5C3 ∨ s.mayReset r = false →
    exec (.softwareDeviceReset r a b k) s = .next s) ∧
  (∀ (s : State) (v : BitVec 5), (s.por = false → exec (.resetRelease v) s = .next s) ∧
    (s.por = true → ∃ t, exec (.resetRelease v) s = .next t ∧ t.por = false ∧ t.strapOver = none ∧
      (s.strapOver = none → t.rd F.GLB_STRAP.STRAPS = v.toNat) ∧
      (∀ o, s.strapOver = some o → t.rd F.GLB_STRAP.STRAPS = v.toNat % 8 + 8 * b2n o.1 + 16 * b2n o.2) ∧
      t.rd F.GLB_BOOT_STAT.PHASE = (if v.toNat % 2 = 0 then 0 else 3) ∧
      t = { s with por := false, strapOver := none, regs := t.regs } ∧
      s.keepsRegs t [F.GLB_STRAP.STRAPS, F.GLB_BOOT_STAT.PHASE, F.TMB_STAT.SYNT])) ∧
  (∀ s : State, ∃ t, exec .hostConfigReady s = .next t ∧ (s.por = false → t.hostReady = true) ∧
    (s.por = true → t = s) ∧ t = { s with hostReady := t.hostReady }) ∧
  (∀ (s : State) (a b : BitVec 512) (p g : Img), s.por = false → s.rd F.GLB_STATE.STATE = 1 → s.rd F.GLB_BOOT_STAT.PHASE = 0 →
    ((dirValid a || dirValid b) = true → ∃ t, exec (.fwBootFlash a b p g) s = .next t ∧ t.rd F.GLB_BOOT_STAT.PHASE = 2 ∧
      t.rd F.GLB_BOOT_STAT.SOURCE = 1 ∧ t.rd F.GLB_STATE.FAULT = 0 ∧ t.boot.img = p ∧ t.boot.golden = some g ∧ t.boot.east = false ∧
      t = { s with regs := t.regs, boot := t.boot } ∧
      s.keepsRegs t [F.GLB_BOOT_STAT.PHASE, F.GLB_BOOT_STAT.SOURCE, F.GLB_STATE.FAULT]) ∧
    ((dirValid a || dirValid b) = false → ∃ t, exec (.fwBootFlash a b p g) s = .next t ∧ t.rd F.GLB_BOOT_STAT.PHASE = 3 ∧
      t.rd F.GLB_BOOT_STAT.REASON = 1 ∧ t.rd F.GLB_STATE.FAULT = 1 ∧ t = { s with regs := t.regs, boot := t.boot } ∧
      s.keepsRegs t [F.GLB_BOOT_STAT.PHASE, F.GLB_BOOT_STAT.REASON, F.GLB_STATE.FAULT, F.GLB_FWLOAD.GO])) ∧
  (∀ (s : State) (r : Req), s.mayReset r = true → s.rd F.GLB_STATE.STATE = 1 → s.rd F.GLB_BOOT_STAT.PHASE = 3 →
    ∃ t, exec (.fwLoadGo r) s = .next t ∧ t.rd F.GLB_FWLOAD.GO = 1 ∧ t.rd F.GLB_BOOT_STAT.PHASE = 2 ∧
      t.rd F.GLB_BOOT_STAT.SOURCE = 3 ∧ t.boot.img.bytes = s.bankRead 0 0 0x802000 ∧ t.boot.golden = none ∧ t.boot.east = false ∧
      t = { s with regs := t.regs, boot := t.boot } ∧
      s.keepsRegs t [F.GLB_FWLOAD.GO, F.GLB_BOOT_STAT.PHASE, F.GLB_BOOT_STAT.SOURCE, F.GLB_STATE.FAULT]) ∧
  (∀ s : State, s.rd F.GLB_BOOT_STAT.PHASE = 2 → s.boot.east = false →
    (s.fwCheck s.boot.img = 0 → ∃ t, exec .fwVerifyDone s = .next t ∧ t.rd F.GLB_BOOT_STAT.REASON = 0 ∧ t.boot.east = true ∧
      t.boot.hashW = fwHash s.boot.img ∧ t.boot.img = s.boot.img ∧ t = { s with regs := t.regs, boot := t.boot } ∧
      s.keepsRegs t [F.GLB_BOOT_STAT.REASON, F.GLB_BOOT_STAT.PRI_REASON]) ∧
    (∀ e, s.fwCheck s.boot.img = e → e ≠ 0 → e < 256 →
      (∀ g, s.boot.golden = some g → ∃ t, exec .fwVerifyDone s = .next t ∧ t.rd F.GLB_BOOT_STAT.REASON = e ∧
        t.rd F.GLB_BOOT_STAT.SOURCE = 2 ∧ t.rd F.GLB_BOOT_STAT.PHASE = 2 ∧ t.boot.img = g ∧ t.boot.golden = none ∧
        t = { s with regs := t.regs, boot := t.boot }) ∧
      (s.boot.golden = none → ∃ t, exec .fwVerifyDone s = .next t ∧ t.rd F.GLB_BOOT_STAT.REASON = e ∧
        t.rd F.GLB_BOOT_STAT.PHASE = 3 ∧ t.rd F.GLB_FWLOAD.GO = 0 ∧
        (s.rd F.GLB_BOOT_STAT.SOURCE ≠ 3 → t.rd F.GLB_STATE.FAULT = 1) ∧ t = { s with regs := t.regs, boot := t.boot }))) ∧
  (∀ (s : State) (copy : Option Img), s.rd F.GLB_BOOT_STAT.PHASE = 2 → s.boot.east = true →
    (s.fwCheck (copy.getD s.boot.img) = 0 → ∃ t, exec (.fwEastVerifyDone copy) s = .next t ∧ t.rd F.GLB_STATE.STATE = 2 ∧
      t.rd F.GLB_BOOT_STAT.PHASE = 4 ∧ t.rd F.GLB_BOOT_STAT.REASON_E = 0 ∧ t.rd F.GLB_FWLOAD.GO = 0 ∧
      (∀ n, n < 8 → t.rd (F.DMC_STAT.STATE n) = 1) ∧
      t.boot.hashE = fwHash (copy.getD s.boot.img) ∧ (t.sup 0).booted = true ∧ (s.isFenced 217 = false → (t.sup 1).booted = true) ∧
      t = { s with regs := t.regs, boot := t.boot, sups := t.sups }) ∧
    (∀ e, s.fwCheck (copy.getD s.boot.img) = e → e ≠ 0 → e < 256 →
      (s.boot.tries = 0 → ∃ t, exec (.fwEastVerifyDone copy) s = .next t ∧ t.rd F.GLB_BOOT_STAT.REASON_E = e ∧ t.boot.tries = 1 ∧
        t = { s with regs := t.regs, boot := t.boot } ∧ s.keepsRegs t [F.GLB_BOOT_STAT.REASON_E]) ∧
      (s.boot.tries ≠ 0 → ∃ t, exec (.fwEastVerifyDone copy) s = .next t ∧ t.isFenced 217 = true ∧ t.rd F.GLB_STATE.STATE = 2 ∧
        t.rd F.GLB_BOOT_STAT.PHASE = 4 ∧ (t.sup 0).booted = true ∧ t.sup 1 = s.sup 1)))

/-- Self-test leaves cleared memories and the next state or SAFE_HOLD, fuses program once, reports carry their fields, the
core supply steps. SELFTEST_DONE in SELFTEST with the reference and nothing failed (R443, R451): bank memory is empty,
every interface of one geometry is idle and in the interleave, its set-points valid by their rates and the grade, each
half has 4 (none where its geometries differ, R234), and the device awaits an image or configures by BOOTSRC; a grotto
failure is SAFE_HOLD with reason 2 and FAULT_N (R452, R464). SELFTEST_REFCLK_TIMEOUT without the reference is
SAFE_HOLD with reason 1. FUSE_ARM by the PF when it may: FIELD is stored, and a field that is not reserved is armed;
FUSE_ARM_LAPSE disarms. FUSE_PROGRAM (R456): STATUS 1 a field already programmed, 4 no arm or a reserved field, 3 the
voltage, 2 a bad read-back, 0 programmed with the data (a key or hash) or as a set bit; the arm and the data are gone;
no other fuse changes, and none at all when refused. ATTEST_REQ when none runs, from AWAIT_IMAGE on: BUSY and the
nonce and time taken. ATTEST_DONE: the report's magic, version, nonce and time, the instability flag, the signature
over its body; DONE 1, BUSY 0 (R458, R460, R461); without a request nothing. AVS_STEP with an acknowledging regulator
moves the core supply one step of at most 10 mV toward a target in 650-800 mV (R504). -/
def Obligations.SelfTestFusesAndReportsEndAsStated : Prop :=
  (∀ (s : State) (x : SelfTest), s.rd F.GLB_STATE.STATE = 2 → s.time.refLost = false →
    (x.other = 0 → x.units = [] → x.banks = [] → x.links = [] → s.substs = [] → (s.isFenced 216 && s.isFenced 217) = false →
      (∀ n, n < 8 → x.geom.getD n 0 = x.geom.getD (n / 4 * 4) 0) → ∃ t, exec (.selftestDone x) s = .next t ∧ t.rd F.GLB_STATE.STATE = (if bit (s.rd F.GLB_STRAP.STRAPS) 0 then 4 else 5) ∧
        t.rd F.GLB_STEST_SUM.FAILED = 0 ∧ t.rd F.GLB_STEST_SUM.MS = min x.ms 0xFFF ∧ t.bankMem = [] ∧
        (∀ n, n < 8 → t.rd (F.DMC_STAT.STATE n) = 2 ∧ t.rd (F.DMC_STAT.FSP_ACT n) = 1 ∧ t.rd (F.DMC_STAT.IN_INTLV n) = 1 ∧
          t.rd (F.DMC_STAT.MCK_LOCK n) = 1 ∧ ∀ k, k < 3 → t.rd (F.DMC_FSP.VALID n k) =
            b2n (!(F.DMC_FSP.RATE n k).reserved (s.rd (F.DMC_FSP.RATE n k)) && !s.rateAbove n k)) ∧
        (∀ h, h < 2 → t.rd (F.DMC_HALF.NIF h) = 4 ∧ t.rd (F.DMC_USABLE.USABLE h) = t.fullU h % 2 ^ (F.DMC_USABLE.USABLE h).w) ∧
        t = { s with regs := t.regs, bankMem := [], bankUe := [], seqUnread := [], seqMem := t.seqMem, startFold := [], restoring := [] }) ∧
    (x.other = 0 → x.units = [] → x.banks = [] → x.links = [] → (s.isFenced 216 && s.isFenced 217) = false → ∀ h i, h < 2 → i < 4 →
      x.geom.getD (4 * h + i) 0 ≠ x.geom.getD (4 * h) 0 → ∃ t, exec (.selftestDone x) s = .next t ∧
        t.rd F.GLB_STATE.STATE = (if bit (s.rd F.GLB_STRAP.STRAPS) 0 then 4 else 5) ∧
        t.rd (F.DMC_HALF.NIF h) = 0 ∧ t.rd (F.DMC_USABLE.USABLE h) = 0) ∧
    (bit x.other.toNat 0 = true → ∃ t, exec (.selftestDone x) s = .next t ∧ t.rd F.GLB_STATE.STATE = 3 ∧
      t.rd F.GLB_STATE.HOLD_REASON = 2 ∧ t.rd F.GLB_STATE.FAULT = 1)) ∧
  (∀ s : State,
    (s.rd F.GLB_STATE.STATE = 2 → s.time.refLost = true → ∃ t, exec .selftestRefclkTimeout s = .next t ∧
      t.rd F.GLB_STATE.STATE = 3 ∧ t.rd F.GLB_STATE.HOLD_REASON = 1 ∧ t.rd F.GLB_STATE.FAULT = 1 ∧
      t = { s with regs := t.regs } ∧ s.outside t [.glb, .dmc]) ∧
    (s.rd F.GLB_STATE.STATE ≠ 2 ∨ s.time.refLost = false → exec .selftestRefclkTimeout s = .next s)) ∧
  (∀ (s : State) (r : Req) (f : BitVec 8), s.mayFuse r = true → ∃ t, exec (.fuseArm r f) s = .next t ∧
    t.rd F.SEC_PROG_CTL.FIELD = f.toNat ∧ (f.toNat = 0 ∨ 0x15 ≤ f.toNat → s.onlyRegs t [F.SEC_PROG_CTL.FIELD]) ∧
    (f.toNat ≠ 0 → f.toNat < 0x15 → t.rd F.SEC_PROG_CTL.ARM = 1 ∧ t.fuseArm = true ∧
      t = { s with regs := t.regs, fuseArm := true } ∧ s.keepsRegs t [F.SEC_PROG_CTL.FIELD, F.SEC_PROG_CTL.ARM])) ∧
  (∀ s : State, ∃ t, exec .fuseArmLapse s = .next t ∧ t.rd F.SEC_PROG_CTL.ARM = 0 ∧
    t = { s with regs := t.regs, fuseArm := false } ∧ s.keepsRegs t [F.SEC_PROG_CTL.ARM]) ∧
  (∀ (s : State) (r : Req) (volt ok : Bool) (f k : Nat), s.mayFuse r = true → f = s.rd F.SEC_PROG_CTL.FIELD →
    k = (if s.fused f then 1 else if s.fuseArm = false ∨ f = 0 ∨ 0x15 ≤ f then 4 else if volt = false then 3 else if ok then 0 else 2) →
    ∃ t, exec (.fuseProgram r volt ok) s = .next t ∧ t.rd F.SEC_PROG_CTL.STATUS = k ∧ t.rd F.SEC_PROG_CTL.ARM = 0 ∧
      t.fuseArm = false ∧ (∀ j, j < 8 → t.rd (F.SEC_PROG_DATA.DATA j) = 0) ∧ (k ≠ 0 → k ≠ 2 → t.fuses = s.fuses) ∧
      (∀ g, g ≠ f → Table.get none t.fuses g = Table.get none s.fuses g) ∧
      (k = 0 → Table.get none t.fuses f = some (if f ≤ 6 ∨ (0x0B ≤ f ∧ f ≤ 0x0E) then s.progData else 1)) ∧
      t.rd F.SEC_SLOTS.CONSENT = b2n (t.fused 0x13 && !t.fused 0x14) ∧
      (s.portLevel = 3 → (t.fused 0x13 && !t.fused 0x14) = false → t.portLevel = 0) ∧
      t = { s with regs := t.regs, fuses := t.fuses, fuseArm := false, fresh := t.fresh } ∧ s.outside t [.sec, .dbg]) ∧
  (∀ (s : State) (r : Req), s.mayWrite r .sec = true → s.on F.SEC_ATT_CTL.BUSY = false → 4 ≤ s.rd F.GLB_STATE.STATE →
    ∃ t a, exec (.attestReq r) s = .next t ∧ t.rd F.SEC_ATT_CTL.BUSY = 1 ∧ t.attest = some a ∧
      a.sec = (s.tbase s.holder).sec ∧ a.ns = (s.tbase s.holder).ns ∧
      (∀ j, j < 8 → (∀ i, i < 8 → s.rd (F.SEC_ATT_NONCE.NONCE i) < 2 ^ 32) → bits a.nonce (32 * j) 32 = s.rd (F.SEC_ATT_NONCE.NONCE j)) ∧
      t = { s with regs := t.regs, attest := t.attest } ∧ s.keepsRegs t [F.SEC_ATT_CTL.BUSY, F.SEC_ATT_CTL.REQ]) ∧
  (∀ (s : State) (unstable : Bool), (s.attest = none → exec (.attestDone unstable) s = .next s) ∧
    (∀ a, s.attest = some a → ∃ t, exec (.attestDone unstable) s = .next t ∧ t.attest = none ∧ t.rd F.SEC_ATT_CTL.BUSY = 0 ∧
      t.rd F.SEC_ATT_CTL.REQ = 0 ∧ t.rd F.SEC_ATT_CTL.DONE = 1 ∧ bits t.report 0 32 = 0x41624B50 ∧ bits t.report 32 16 = 1 ∧
      bit t.report 50 = unstable ∧ bits t.report 64 32 = 8368 ∧ bits t.report 128 256 = a.nonce % 2 ^ 256 ∧
      bits t.report 576 48 = a.sec % 2 ^ 48 ∧ bits t.report 640 32 = a.ns % 2 ^ 32 ∧
      bits t.report 1280 256 = s.cfgMeas % 2 ^ 256 ∧ bits t.report 4096 62848 = Config.sign (bits t.report 0 4096) % 2 ^ 62848 ∧
      t = { s with regs := t.regs, attest := none, report := t.report, fresh := t.fresh } ∧
      s.keepsRegs t [F.SEC_ATT_CTL.BUSY, F.SEC_ATT_CTL.REQ, F.SEC_ATT_CTL.DONE])) ∧
  (∀ (s : State) (x : Nat), s.por = false → 2 ≤ s.rd F.GLB_STATE.STATE → s.supUp 0 = true →
    exec (.avsStep x false) s = .next s ∧
    ∃ t, exec (.avsStep x true) s = .next t ∧ t = { s with vcore := t.vcore } ∧
      (t.vcore : Int) - s.vcore = max (-10) (min 10 ((max 650 (min 800 x) : Nat) - (s.vcore : Int))))

/-- A port request is checked, refused, delayed or performed, and its status, CRC and errors say which.
HJELZ_HEADER_REFUSED at an idle port: a bad CRC counts in CRC_ERR and gets no answer, a reserved OP gets none;
otherwise nothing. HJELZ_READ and HJELZ_WRITE of a header with a good CRC at an idle port (R469, R470): below the
level the space needs, REFUSED; a reserved space, a write of TRACE or an unaligned address, ERROR with reason 5 at
word 0; an authorisation register while a check runs, RETRY; else a one-word read of the PORT space answers ACCEPT
with the word and its CRC, and a write is accepted and its data awaited. HJELZ_WRITE_DATA of the awaited length: a bad
CRC is CRC_BAD, counts, and writes no word; a good one of one word to KEY or SIG stores its four bytes and is ACCEPT.
HJELZ_ACCESS_TIMEOUT of a running access: ERROR with reason 2 at its word; a read changes nothing else.
HJELZ_PACKET_GAP and HJELZ_LINE_RESET end the packet and any busy run and leave the level (R465, R466). A read of a
word that does not complete makes the port busy at that word. -/
def Obligations.PortRequestsAreAnsweredByTheirRules : Prop :=
  (∀ (s : State) (h : BitVec 62), (s.portIdle = false → exec (.hjelzHeaderRefused h) s = .next s) ∧
    (s.portIdle = true →
      (hCrcOk h = false → ∃ t, exec (.hjelzHeaderRefused h) s = .next t ∧ t.hj.status = none ∧ t.hj.answer = [] ∧
        t.rd F.DBG_PORT_STAT.CRC_ERR = min 255 (s.rd F.DBG_PORT_STAT.CRC_ERR + 1) ∧ t = { s with regs := t.regs, hj := t.hj } ∧
        s.keepsRegs t [F.DBG_PORT_STAT.CRC_ERR]) ∧
      (hCrcOk h = true → hOp h = 0 ∨ hOp h = 3 → ∃ t, exec (.hjelzHeaderRefused h) s = .next t ∧ t.hj.status = none ∧
        t = { s with hj := t.hj }) ∧
      (hCrcOk h = true → hOp h = 1 ∨ hOp h = 2 → exec (.hjelzHeaderRefused h) s = .next s))) ∧
  (∀ (s : State) (h : BitVec 62) (slow : Option Nat) (w : Bool) (i : Instr),
    (i = .hjelzRead h slow ∧ w = false ∧ hOp h = 1) ∨ (i = .hjelzWrite h ∧ w = true ∧ hOp h = 2) →
    s.portIdle = true → hCrcOk h = true →
    (s.portRefuses (hSpace h) w (hConsume h && !w) (hAddr h) (hWords h) = true → ∃ t, exec i s = .next t ∧
      t.hj.status = some 0b0110 ∧ t = { s with hj := t.hj }) ∧
    (s.portRefuses (hSpace h) w (hConsume h && !w) (hAddr h) (hWords h) = false →
      (6 ≤ hSpace h ∨ (hSpace h = 5 ∧ w = true) ∨ hAddr h % 4 ≠ 0 → ∃ t, exec i s = .next t ∧ t.hj.status = some 0b1001 ∧
        t.rd F.DBG_PORT_STAT.ERR = 5 ∧ t.rd F.DBG_PORT_STAT.WORD = 0 ∧ t = { s with regs := t.regs, hj := t.hj } ∧
        s.keepsRegs t [F.DBG_PORT_STAT.ERR, F.DBG_PORT_STAT.WORD]) ∧
      (hSpace h = 0 → hAddr h % 4 = 0 →
        (s.portRetry 0 (hAddr h) (hWords h) = true → ∃ t, exec i s = .next t ∧ t.hj.status = some 0b1100 ∧ t = { s with hj := t.hj }) ∧
        (s.portRetry 0 (hAddr h) (hWords h) = false →
          (w = true → ∃ t, exec i s = .next t ∧ t.hj.status = some 0b1010 ∧ t.hj.write = some (0, hAddr h, hWords h) ∧
            t = { s with hj := t.hj }) ∧
          (w = false → hWords h = 1 → slow = none → ∃ t, exec i s = .next t ∧ t.hj.status = some 0b1010 ∧
            t.hj.answer = [s.portWord (hAddr h), crc8 32 (s.portWord (hAddr h))] ∧ t = { s with hj := t.hj }) ∧
          (w = false → slow = some 0 → ∃ t, exec i s = .next t ∧ t.hj.busy = some (0, none) ∧ t.hj.status = none ∧
            t = { s with hj := t.hj }))))) ∧
  (∀ (s : State) (data : List Word32) (crc : Byte) (slow : Option Nat) (p a n v : Nat), s.por = false →
    s.hj.write = some (p, a, n) → data.length = n → v = data.foldr (fun w t => w.toNat + 2 ^ 32 * t) 0 →
    (crc.toNat ≠ crc8 (32 * n) v → ∃ t, exec (.hjelzWriteData data crc slow) s = .next t ∧ t.hj.status = some 0b0101 ∧
      t.hj.write = none ∧ t.rd F.DBG_PORT_STAT.CRC_ERR = min 255 (s.rd F.DBG_PORT_STAT.CRC_ERR + 1) ∧
      t = { s with regs := t.regs, hj := t.hj } ∧ s.keepsRegs t [F.DBG_PORT_STAT.CRC_ERR]) ∧
    (crc.toNat = crc8 (32 * n) v → p = 0 → n = 1 → slow = none → (0x200 ≤ a ∧ a < 0x220) ∨ (0x1000 ≤ a ∧ a < 0x2EB0) →
      ∃ t, exec (.hjelzWriteData data crc slow) s = .next t ∧ t.hj.status = some 0b1010 ∧ t.hj.write = none ∧
        Memory.readN t.hj.buf a 4 = v ∧ (∀ b, b < a ∨ a + 4 ≤ b → Memory.read t.hj.buf b = Memory.read s.hj.buf b) ∧
        t = { s with hj := t.hj })) ∧
  (∀ s : State, (s.hj.busy = none → exec .hjelzAccessTimeout s = .next s) ∧
    (∀ k w, s.hj.busy = some (k, w) → k < 256 → ∃ t, exec .hjelzAccessTimeout s = .next t ∧
      (w = none → t.hj.status = some 0b1001 ∧ t.rd F.DBG_PORT_STAT.ERR = 2 ∧ t.rd F.DBG_PORT_STAT.WORD = k ∧ t.hj.busy = none ∧
        t = { s with regs := t.regs, hj := t.hj } ∧ s.keepsRegs t [F.DBG_PORT_STAT.ERR, F.DBG_PORT_STAT.WORD]))) ∧
  (∀ (s : State) (i : Instr), i = .hjelzPacketGap ∨ i = .hjelzLineReset → ∃ t, exec i s = .next t ∧ t.hj.write = none ∧
    t.hj.busy = none ∧ t.portLevel = s.portLevel ∧ t = { s with hj := { s.hj with write := none, busy := none, status := t.hj.status } })

/-- Levels are granted and lost, gangs halt, enter the monitor, resume, step and are forced, stimulus writes and CLR reach
the trace. Out of POR with no check running (R472, R473): CHALLENGE in a back-off gives RESULT 6, else a fresh nonce;
VERIFY uses the nonce up and sets BUSY; LOGOUT gives L0. AUTH_VERIFY_DONE of a running check: RESULT 2 no nonce, 3
unknown key, 4 signature, 5 no consent, each with L0, one more failure and a back-off from now; else RESULT 1, the
slot and the level asked. By the port at L2 (R474-R478): DBG_HALT arms an idle slot, and makes the request pending in
every member of a gang outside the monitor; DBG_RESUME and DBG_STEP of a gang in the monitor without a job-wide exit
lead every member out of it, to the address saved in slot 7, RUN or PAUSED (then PC shows the last entry), with no or
STEP_N entries to go (0 acts as 1, R9), or are held during a failover of its half (R518); DBG_FORCE of a deferred
request marks the gang; below L2 nothing. DEBUG_LOCK_DEFER marks a pending request of a locked gang. MONITOR_ENTRY at
a free boundary with DEBUG to take: every member is in the monitor at its first entry, the request is taken, IRA is
the interrupted address, saved in slot 7. STIMULUS_WRITE (R481): a wrong size or offset counts in LOST, a disabled
port discards it, else with the PORT destination one packet with its origin, slot, port and data joins the FIFO.
TRACE_CLR empties FIFO and pointer, and a SYNC packet follows with the PORT destination (R487). -/
def Obligations.DebugLevelsRunControlAndTraceFollowTheirRules : Prop :=
  (∀ s : State, s.por = false → s.on F.DBG_AUTH_CTL.BUSY = false →
    (s.ticks < s.hj.backoff → ∃ t, exec .challenge s = .next t ∧ t.rd F.DBG_AUTH_CTL.RESULT = 6 ∧ s.onlyRegs t [F.DBG_AUTH_CTL.RESULT]) ∧
    (s.hj.backoff ≤ s.ticks → ∃ t, exec .challenge s = .next t ∧ t.hj.nonce < 2 ^ 256 ∧ t.hj.fresh = some s.ticks ∧
      t = { s with fresh := s.fresh + 1, hj := { s.hj with nonce := t.hj.nonce, fresh := t.hj.fresh } }) ∧
    (∃ t, exec .verify s = .next t ∧ t.rd F.DBG_AUTH_CTL.BUSY = 1 ∧ t.hj.fresh = none ∧
      (∀ k, s.hj.fresh = some k → t.hj.check = if s.ticks ≤ k + 5000000000 then some s.hj.nonce else none) ∧
      (s.hj.fresh = none → t.hj.check = none) ∧ t = { s with regs := t.regs, hj := { s.hj with fresh := none, check := t.hj.check } } ∧
      s.keepsRegs t [F.DBG_AUTH_CTL.BUSY]) ∧
    (∃ t, exec .logout s = .next t ∧ t.portLevel = 0 ∧ s.onlyRegs t [F.DBG_PORT_STAT.LEVEL])) ∧
  (∀ (s : State) (key : Nat), (s.on F.DBG_AUTH_CTL.BUSY = false → exec .authVerifyDone s = .next s) ∧
    (s.on F.DBG_AUTH_CTL.BUSY = true → key = Memory.readN s.hj.buf 0x200 32 → ∃ t, exec .authVerifyDone s = .next t ∧
      t.rd F.DBG_AUTH_CTL.BUSY = 0 ∧ t.hj.check = none ∧ t = { s with regs := t.regs, hj := t.hj } ∧
      s.keepsRegs t [F.DBG_AUTH_CTL.BUSY, F.DBG_AUTH_CTL.RESULT, F.DBG_AUTH_CTL.SLOT, F.DBG_PORT_STAT.LEVEL, F.DBG_PORT_STAT.AUTH_FAIL] ∧
      (∀ r, r = (match s.hj.check with
          | none => 2
          | some v => match s.dbgKeySlot (Config.sha256 32 key) with
            | none => 3
            | some _ => if Config.sigOk key (s.authMessage v) (Memory.readN s.hj.buf 0x1000 7856) = false then 4
              else if s.rd F.DBG_AUTH_CTL.REQ_LEVEL = 3 ∧ (s.fused 0x13 && !s.fused 0x14) = false then 5 else 1) →
        t.rd F.DBG_AUTH_CTL.RESULT = r ∧
        (r ≠ 1 → t.portLevel = 0 ∧ t.rd F.DBG_PORT_STAT.AUTH_FAIL = min 255 (s.rd F.DBG_PORT_STAT.AUTH_FAIL + 1) ∧
          t.hj.fails = s.hj.fails + 1 ∧ t.hj.backoff = s.ticks + 50000000 * 2 ^ (min (s.hj.fails + 1) 8 - 1)) ∧
        (r = 1 → t.hj.fails = 0 ∧ t.hj.backoff = s.hj.backoff ∧
          (s.rd F.GLB_STATE.STATE ≠ 3 → t.portLevel = s.rd F.DBG_AUTH_CTL.REQ_LEVEL % 4) ∧
          (s.rd F.GLB_STATE.STATE = 3 → s.rd F.GLB_STATE.HOLD_REASON = 2 → t.portLevel = 0))))) ∧
  (∀ (s : State) (n : Fin 104) (l : Nat), l = s.leaderOf n → l < 104 →
    (s.mayRun = false → exec (.dbgHalt n) s = .next s ∧ exec (.dbgResume n) s = .next s ∧ exec (.dbgStep n) s = .next s ∧
      exec (.dbgForce n) s = .next s) ∧
    (s.mayRun = true →
      (s.slotState n = 0 → ∃ t, exec (.dbgHalt n) s = .next t ∧ t.rd (F.DBG_ENG_STAT.ARMED n) = 1 ∧
        s.onlyRegs t [F.DBG_ENG_STAT.ARMED n]) ∧
      (s.slotState n ≠ 0 → (s.eng n).ctx.isSome = true → s.inMon n = false → s.on (F.DBG_ENG_CTL.JOB n) = false →
        ∃ t, exec (.dbgHalt n) s = .next t ∧ t = { s with regs := t.regs, engs := t.engs } ∧ s.outside t [.eng, .dbg] ∧
          ∀ m ∈ s.gang l, t.rd (F.DBG_ENG_STAT.PENDING m) = 1 ∧ bit (t.rd (F.ENG_IRQ.PEND m)) 5 = true ∧ (t.eng m).dbgReq = true) ∧
      (s.inMon n = true → (s.eng n).ctx.isSome = true →
        (s.on (F.DBG_ENG_CTL.ALIGN l) && s.on (F.DBG_ENG_CTL.JOB l)) = false →
        ∀ (i : Instr) (k : Nat), (i = .dbgResume n ∧ k = 0) ∨ (i = .dbgStep n ∧ k = s.eff (F.DBG_ENG_CTL.STEP_N n)) →
          (s.failover (halfOfSlot l) = true → exec i s = .next (s.updEng l (fun e => { e with dbgHeld := some k }))) ∧
          (s.failover (halfOfSlot l) = false → ∃ t, exec i s = .next t ∧ (t.eng l).dbgStep = k ∧ s.outside t [.eng, .dbg] ∧
            t = { s with regs := t.regs, engs := t.engs } ∧
            ((s.eng l).monBack = 4 → (s.eng l).lastCyc ≠ 0 → (s.eng l).npc = none → (t.eng l).npc = some (bits (s.savedImage l 7) 0 17)) ∧
            ∀ m ∈ s.gang l, t.inMon m = false ∧ t.slotState m = (if (s.eng l).monBack = 4 then 4 else 3) ∧
              ((s.eng l).monBack ≠ 4 → t.pc m = bits (s.savedImage l 7) 0 17))) ∧
      (s.on (F.DBG_ENG_STAT.DEFERRED_LOCKED n) = true → ∃ t, exec (.dbgForce n) s = .next t ∧ t = { s with engs := t.engs } ∧
        (∀ m ∈ s.gang l, (t.eng m).dbgForce = true) ∧ ∀ m, m ∉ s.gang l → t.eng m = s.eng m))) ∧
  (∀ (s : State) (n : Fin 104),
    (s.running n = true → s.on (F.DBG_ENG_STAT.PENDING n) = true → s.on (F.ENG_STAT.LOCKED n) = true → ∃ t,
      exec (.debugLockDefer n) s = .next t ∧ (∀ m ∈ s.gang n, t.rd (F.DBG_ENG_STAT.DEFERRED_LOCKED m) = 1) ∧
      s.onlyRegs t ((s.gang n).map F.DBG_ENG_STAT.DEFERRED_LOCKED)) ∧
    (∀ w : Nat, s.running n = true → s.inMon n = false → s.boundaryFree n = true → bit (s.takeable n) 5 = true →
      (∀ c, (s.eng n).ctx = some c → ∀ l ∈ s.jobLeaders c, (s.eng l).dbgAlign = false) → ∃ t,
      exec (.monitorEntry n w) s = .next t ∧ (t.eng n).ira = s.pc n ∧ (t.eng n).dbgForce = false ∧
        (s.gang n = [n.val] → bits (t.savedImage n 7) 0 17 = s.pc n % 2 ^ 17) ∧
        ∀ m ∈ s.gang n, t.inMon m = true ∧ t.slotState m = stMonitor ∧ t.pc m = 0x1FC00 ∧ (t.eng m).dbgReq = false ∧
          t.rd (F.DBG_ENG_STAT.PENDING m) = 0 ∧ t.rd (F.DBG_ENG_STAT.ENTRY m) = (s.eng n).dbgEntry % 2 ^ 4)) ∧
  (∀ (s : State) (r : Option Req) (n : Fin 104) (off : Fin 256) (size : Fin 65) (v : Desc) (h o : Nat), h = halfOfSlot n →
    ((∃ q, r = some q ∧ s.mayWrite q .dbg (some h) = true ∧ o = stimOrigin q) ∨ (r = none ∧ s.por = false ∧ o = 3)) →
    (off.val % 8 ≠ 0 ∨ (size.val ≠ 4 ∧ size.val ≠ 8) → ∃ t, exec (.stimulusWrite r n off size v) s = .next t ∧
      t.rd (F.DBG_TRC_STAT.LOST h) = min (2 ^ 32 - 1) (s.rd (F.DBG_TRC_STAT.LOST h) + 1) ∧ s.onlyRegs t [F.DBG_TRC_STAT.LOST h]) ∧
    (off.val % 8 = 0 → size.val = 4 ∨ size.val = 8 →
      (s.on (F.DBG_ENG_CTL.TRC_EN n) = false ∨ bit (s.rd (F.DBG_ENG_STIM.EN n)) (off.val / 8) = false →
        exec (.stimulusWrite r n off size v) s = .next s) ∧
      (s.on (F.DBG_ENG_CTL.TRC_EN n) = true → bit (s.rd (F.DBG_ENG_STIM.EN n)) (off.val / 8) = true →
        s.rd (F.DBG_TRC_CTL.DEST h) = 2 → (s.trc h).fifo.length < 256 → (s.trc h).lost = 0 → ∃ t p,
        exec (.stimulusWrite r n off size v) s = .next t ∧ (t.trc h).fifo = (s.trc h).fifo ++ [p] ∧ bits p 16 4 = o ∧
          bits p 20 7 = n.val ∧ bits p 27 5 = off.val / 8 ∧ bits p 64 64 = v.toNat % 2 ^ (8 * size.val) ∧
          t = { s with trcs := t.trcs }))) ∧
  (∀ (s : State) (r : Req) (h : Fin 2), s.mayWrite r .dbg (some h.val) = true → s.rd (F.DBG_TRC_CTL.DEST h) ≠ 1 → ∃ t,
    exec (.traceClr r h) s = .next t ∧ t.rd (F.DBG_TRC_WP.WP h) = 0 ∧ t.rd (F.DBG_TRC_WP.WRAPPED h) = 0 ∧
      (s.rd (F.DBG_TRC_CTL.DEST h) ≠ 2 → (t.trc h).fifo = []) ∧
      (s.rd (F.DBG_TRC_CTL.DEST h) = 2 → (s.trc h).lost = 0 → ∃ p, (t.trc h).fifo = [p] ∧ bits p 16 4 = 6 ∧
        bits p 64 64 = (s.tbase h).sec % 2 ^ 64) ∧ t = { s with regs := t.regs, trcs := t.trcs } ∧
      s.keepsRegs t [F.DBG_TRC_WP.WP h, F.DBG_TRC_WP.WRAPPED h])

/-- Sequence addresses wrap from 0x1_FFFF to 0x0_0000, for sequential fetch and for a return address. A NEXT entry at
address 0x1_FFFF, outside repetitions, delay slots and an ending handler, is followed by address 0 (sequential fetch),
and at any other address by the next one. A CALL at address a that is taken with room on the stack pushes the return
address a + 3, which from 0x1_FFFD on is a + 3 less 0x2_0000. -/
def Obligations.SequenceAddressesWrap : Prop :=
  ∀ (s : State) (n : Fin 104) (w : Nat), s.pc n < 0x20000 →
    (s.entersD n .next → (s.eng n).iretDs = 0 → (s.eng n).liveRep = 0 → (s.eng n).liveDsc = 0 → ∃ t, exec (.next n w) s = .next t ∧
      (s.pc n = 0x1FFFF → t.pc n = 0) ∧ (s.pc n < 0x1FFFF → t.pc n = s.pc n + 1)) ∧
    (s.entersD n .call → eScnd (s.entryAt n) ∉ [2, 3, 4] → s.condVal n (eScnd (s.entryAt n)) (eK (s.entryAt n)) 0 = true →
      (s.eng n).stk.length < 16 → ∃ t a, exec (.call n w) s = .next t ∧ (t.eng n).stk = a :: (s.eng n).stk ∧
      (s.pc n < 0x1FFFD → a = s.pc n + 3) ∧ (0x1FFFD ≤ s.pc n → a + 0x20000 = s.pc n + 3))

/-- The scrambled address takes its low 12 bits from the table and flips its high 12 by it; after a device reset it is X.
For X of 24 bits and T the table entry of X[11:0], of 24 bits: XS[11:0] is T[11:0], and XS[23:12] is X[23:12] XOR
T[23:12]. An entry holds the 24 bits put into it and leaves every other entry of every slot. After every device reset
T[i] = i in every slot, and XS = X. -/
def Obligations.ScrambleReplacesLowBitsAndFlipsHigh : Prop :=
  (∀ (s : State) (n x T : Nat), x < 2 ^ 24 → T = s.scrWord n (x % 4096) → T < 2 ^ 24 →
    bits (s.xsOf n x) 0 12 = bits T 0 12 ∧ bits (s.xsOf n x) 12 12 = (bits x 12 12 ^^^ bits T 12 12) ∧ s.xsOf n x < 2 ^ 24) ∧
  (∀ (s : State) (n i v : Nat), i < 4096 → (s.scrPut n i v).scrWord n i = v % 2 ^ 24 ∧
    ∀ m j, j < 4096 → (m, j) ≠ (n, i) → (s.scrPut n i v).scrWord m j = s.scrWord m j) ∧
  (∀ (s : State) (c : Nat) (ov : Option (Bool × Bool)) (n x : Nat), (s.deviceReset c ov).scrWord n x = x ∧
    (x < 2 ^ 24 → (s.deviceReset c ov).xsOf n x = x))

/-- One pass of the loop of R468. -/
def portCrcStep (crc : BitVec 8) (b : Bool) : BitVec 8 :=
  let fb := b != crc.getLsbD 7
  if fb then (crc <<< 1) ^^^ 7 else crc <<< 1

/-- The port's CRC is the loop of R468 over the covered bits in wire order, and stands on the wire with crc[7] first. For
n covered bits, bit 0 first, the port's CRC is what the loop gives: from 0xFF, for each bit the feedback is the bit
XOR crc[7], the register shifts left by one, and 0x07 is XORed in when the feedback is 1. On the wire bit i of a CRC
is crc[7 - i]. A header's CRC is right just when its last 8 bits are the CRC of its first 54 (OP to ADDR) with crc[7]
first. -/
def Obligations.PortCrcFollowsItsLoop : Prop :=
  (∀ n v : Nat, crc8 n v = ((List.range n).foldl (fun c i => portCrcStep c (v.testBit i)) 0xFF).toNat) ∧
  (∀ c i : Nat, c < 256 → i < 8 → (onWire c).testBit i = c.testBit (7 - i)) ∧
  (∀ h : BitVec 62, hCrcOk h = true ↔ ∀ i, i < 8 → h.getLsbD (54 + i) =
    ((List.range 54).foldl (fun c j => portCrcStep c (h.getLsbD j)) 0xFF).getLsbD (7 - i))

/-- After every device reset the 96 logical engines hold the default slots of the 104, twelve to a bay, each bay's
thirteenth slot a spare. After every device reset LE(12b + s) occupies PE(13b + s) for b = 0 to 7 and s = 0 to 11, and
PE(13b + 12) is a spare: it holds no logical engine. Slot 13b + s lies in bay b, and in West for b below 4, in East
from there on, so that LE0 to LE47 belong to West and LE48 to LE95 to East. No other slot holds a logical engine. -/
def Obligations.DefaultSpareMapAfterEveryReset : Prop :=
  ∀ (s : State) (c : Nat) (ov : Option (Bool × Bool)) (b k : Nat), b < 8 → k < 12 →
    (s.deviceReset c ov).slotOf (12 * b + k) = some (13 * b + k) ∧ (s.deviceReset c ov).leOf (13 * b + k) = 12 * b + k ∧
    (s.deviceReset c ov).leOf (13 * b + 12) = 0x7F ∧ bayOfSlot (13 * b + k) = b ∧
    halfOfSlot (13 * b + k) = (if 12 * b + k < 48 then 0 else 1) ∧ 13 * b + 12 < 104 ∧ (12 * b + k < 48 ↔ b < 4)

/-- A step runs the command at the front of the queue on the state with the queue's rest; an empty queue lets one tick
pass. For every command, state and rest of a queue: the step at the state with the command in front is its execution
on the state with the rest. With an empty queue the step is the model's idle tick (log entry 8, DESIGN CHOICE). -/
def Obligations.StepRunsTheCommandInFront : Prop :=
  ∀ (c : Instr) (s : State) (q : List Instr),
    step { s with pending := c :: q } = exec c { s with pending := q } ∧
    step { s with pending := [] } = .next ({ s with pending := [] } : State).idle

/-- Every command, in every state, answers a next state, and no command touches the queue of the commands that wait.
Whatever the state and the operands, the execution of a command answers a next state: none faults and none is refused.
The queue of waiting commands is the environment's: no command adds to it, drops from it or reorders it, a device
reset included (log entry 1, DESIGN CHOICE). -/
def Obligations.EveryCommandCompletesAndLeavesTheQueue : Prop :=
  ∀ (c : Instr) (s : State), ∃ t, exec c s = .next t ∧ t.pending = s.pending

/-- The state after reset is in POR with STATE 1, empty memories in canonical form and the reset values of its registers.
In the state after reset the device is in POR, no command waits, nothing has been written to host memory, the memories
and tables are empty and in canonical form, and registers read their reset values: GLB_STATE.STATE 1, no hold reason,
PART 0x9256 and FAMILY 0x0050, LOCK_HOLD_MAX 4,096, the port's level 0, every slot's SVC 1, every context disabled, no
unit fenced. -/
def Obligations.ResetStateHoldsItsValuesInCanonicalForm : Prop :=
  State.reset.por = true ∧ State.reset.pending = [] ∧ State.reset.out = [] ∧ State.reset.bankMem = [] ∧ State.reset.seqMem = [] ∧
  State.reset.dram = [] ∧ State.reset.canonical = true ∧ State.reset.rd F.GLB_STATE.STATE = 1 ∧
  State.reset.rd F.GLB_STATE.HOLD_REASON = 0 ∧ State.reset.rd F.GLB_ID.PART = 0x9256 ∧ State.reset.rd F.GLB_ID.FAMILY = 0x50 ∧
  State.reset.rd F.DBG_CFG.LOCK_HOLD_MAX = 4096 ∧ State.reset.portLevel = 0 ∧
  (∀ n, n < 104 → State.reset.rd (F.DBG_ENG_CTL.SVC n) = 1) ∧ (∀ c, c < 64 → State.reset.rd (F.HIF_CTX_CFG.EN c) = 0) ∧
  (∀ u, u < 218 → State.reset.isFenced u = false)

/-- Every step keeps the canonical form of the memories and tables, so that equal contents stay equal data. From every
state whose memories and tables (bank memory, DRAM, timing sets, lane maps, pin function sets, sequence memory and its
unreadable marks, scramble tables, bus values, held words, routes) are in canonical form (addresses strictly rising,
no entry equal to what an unlisted address reads as), a step, on a command or idle, gives a state in which they are. -/
def Obligations.CanonicalFormIsKeptByEveryStep : Prop :=
  ∀ s t : State, s.canonical = true → step s = .next t → t.canonical = true

/-- No step changes a fuse field that has been programmed, and the fused security version never falls. Whatever the
command, from whomever, in whatever state, device resets included: a fuse field that holds a value holds it after the
step, so a revoke bit, a withdrawn consent and a key hash stand for good (R441, R455, R456), and the fused FW_SVN is
not lowered (R449). -/
def Obligations.ProgrammedFusesAndTheFusedVersionOnlyGain : Prop :=
  ∀ (s t : State), step s = .next t →
    (∀ f v, Table.get none s.fuses f = some v → Table.get none t.fuses f = some v) ∧ s.svn ≤ t.svn
end

