-- ==== Sys2Proof/Laws/Table.lean ====
section
/-! SUPPORT. Laws of tables and byte memories: reading after writing, and that every operation keeps the canonical form. -/

namespace Sys2Proof.Machine

variable {α : Type}

@[simp] theorem Table.get_nil (d : α) (k : Nat) : Table.get d [] k = d := rfl

@[simp] theorem Table.get_cons (d : α) (j : Nat) (v : α) (t : Table α) (k : Nat) :
    Table.get d ((j, v) :: t) k = if j = k then v else Table.get d t k := rfl

theorem Table.erase_cons (j : Nat) (v : α) (t : Table α) (k : Nat) :
    Table.erase ((j, v) :: t) k = if j = k then Table.erase t k else (j, v) :: Table.erase t k := by
  by_cases h : j = k <;> simp [Table.erase, h]

theorem Table.get_erase_same (d : α) (t : Table α) (k : Nat) : Table.get d (Table.erase t k) k = d := by
  induction t with
  | nil => rfl
  | cons e t ih =>
    obtain ⟨j, v⟩ := e
    rw [Table.erase_cons]
    split
    · exact ih
    · next h => simp [h, ih]

theorem Table.get_erase_ne (d : α) (t : Table α) {k l : Nat} (h : l ≠ k) :
    Table.get d (Table.erase t k) l = Table.get d t l := by
  induction t with
  | nil => rfl
  | cons e t ih =>
    obtain ⟨j, v⟩ := e
    rw [Table.erase_cons]
    split
    · next hj => rw [ih, Table.get_cons, if_neg (by rw [hj]; exact Ne.symm h)]
    · rw [Table.get_cons, Table.get_cons, ih]

theorem Table.get_insert_same (d : α) (t : Table α) (k : Nat) (v : α) (h : ∀ e ∈ t, e.1 ≠ k) :
    Table.get d (Table.insert k v t) k = v := by
  induction t with
  | nil => simp [Table.insert]
  | cons e t ih =>
    obtain ⟨j, u⟩ := e
    have hj : j ≠ k := h (j, u) (by simp)
    unfold Table.insert
    split
    · simp
    · simp [hj, ih (fun e he => h e (by simp [he]))]

theorem Table.get_insert_ne (d : α) (t : Table α) {k l : Nat} (v : α) (h : l ≠ k) :
    Table.get d (Table.insert k v t) l = Table.get d t l := by
  induction t with
  | nil => simp [Table.insert, Ne.symm h]
  | cons e t ih =>
    obtain ⟨j, u⟩ := e
    unfold Table.insert
    split
    · simp [Ne.symm h]
    · simp [ih]

theorem Table.erase_keys (t : Table α) (k : Nat) : ∀ e ∈ Table.erase t k, e.1 ≠ k := by
  intro e he
  simp [Table.erase] at he
  exact he.2

/-- A key that has been written reads the value written, whatever the table held. -/
@[simp] theorem Table.get_set_same [DecidableEq α] (d : α) (t : Table α) (k : Nat) (v : α) :
    Table.get d (Table.set d t k v) k = v := by
  unfold Table.set
  split
  · next h => rw [h]; exact Table.get_erase_same d t k
  · exact Table.get_insert_same d _ k v (Table.erase_keys t k)

/-- Another key reads as before, under any default. -/
theorem Table.get_set_ne [DecidableEq α] (d e : α) (t : Table α) {k l : Nat} (v : α) (h : l ≠ k) :
    Table.get e (Table.set d t k v) l = Table.get e t l := by
  unfold Table.set
  split
  · exact Table.get_erase_ne e t h
  · rw [Table.get_insert_ne e _ v h, Table.get_erase_ne e t h]

/-! ## The canonical form -/

/-- Rising keys, said of the list: the head's key is below every other, and the tail rises. -/
theorem Table.rising_cons (e : Nat × α) (t : Table α) :
    Table.rising (e :: t) = true ↔ (∀ x ∈ t, e.1 < x.1) ∧ Table.rising t = true := by
  induction t generalizing e with
  | nil => simp [Table.rising]
  | cons a t ih =>
    simp only [Table.rising, Bool.and_eq_true, decide_eq_true_eq, List.mem_cons, forall_eq_or_imp]
    constructor
    · rintro ⟨h, ht⟩
      exact ⟨⟨h, fun x hx => Nat.lt_trans h (((ih a).1 ht).1 x hx)⟩, ht⟩
    · rintro ⟨⟨h, _⟩, ht⟩
      exact ⟨h, ht⟩

theorem Table.rising_filter (p : Nat × α → Bool) (t : Table α) (h : Table.rising t = true) :
    Table.rising (t.filter p) = true := by
  induction t with
  | nil => exact h
  | cons e t ih =>
    rw [Table.rising_cons] at h
    by_cases hp : p e = true
    · rw [List.filter_cons_of_pos hp, Table.rising_cons]
      exact ⟨fun x hx => h.1 x (List.mem_filter.1 hx).1, ih h.2⟩
    · rw [List.filter_cons_of_neg hp]
      exact ih h.2

theorem Table.mem_insert (k : Nat) (v : α) (t : Table α) (x : Nat × α) :
    x ∈ Table.insert k v t ↔ x = (k, v) ∨ x ∈ t := by
  induction t with
  | nil => simp [Table.insert]
  | cons e t ih =>
    obtain ⟨j, u⟩ := e
    unfold Table.insert
    split
    · simp
    · simp only [List.mem_cons, ih]
      exact or_left_comm

theorem Table.rising_insert (k : Nat) (v : α) (t : Table α) (h : Table.rising t = true) (hk : ∀ e ∈ t, e.1 ≠ k) :
    Table.rising (Table.insert k v t) = true := by
  induction t with
  | nil => rfl
  | cons e t ih =>
    obtain ⟨j, u⟩ := e
    have hj := (Table.rising_cons _ _).1 h
    unfold Table.insert
    split
    · next hlt =>
      rw [Table.rising_cons]
      refine ⟨fun x hx => ?_, h⟩
      rcases List.mem_cons.1 hx with rfl | hx
      · exact hlt
      · exact Nat.lt_trans hlt (hj.1 x hx)
    · next hge =>
      rw [Table.rising_cons]
      refine ⟨fun x hx => ?_, ih hj.2 (fun e he => hk e (by simp [he]))⟩
      rcases (Table.mem_insert k v t x).1 hx with rfl | hx
      · have : j ≠ k := hk (j, u) (by simp)
        simp only at hge ⊢
        omega
      · exact hj.1 x hx

/-- A filter keeps the canonical form. -/
theorem Table.wf_filter [DecidableEq α] (d : α) (p : Nat × α → Bool) (t : Table α) (h : Table.wf d t = true) :
    Table.wf d (t.filter p) = true := by
  simp only [Table.wf, Bool.and_eq_true, List.all_eq_true, List.mem_filter] at h ⊢
  exact ⟨Table.rising_filter p t h.1, fun e he => h.2 e he.1⟩

/-- A write keeps the canonical form. -/
theorem Table.wf_set [DecidableEq α] (d : α) (t : Table α) (k : Nat) (v : α) (h : Table.wf d t = true) :
    Table.wf d (Table.set d t k v) = true := by
  unfold Table.set
  split
  · exact Table.wf_filter d _ t h
  · next hv =>
    have he : Table.wf d (Table.erase t k) = true := Table.wf_filter d _ t h
    simp only [Table.wf, Bool.and_eq_true, List.all_eq_true] at he ⊢
    refine ⟨Table.rising_insert k v _ he.1 (Table.erase_keys t k), fun e hm => ?_⟩
    rcases (Table.mem_insert k v _ e).1 hm with rfl | hm
    · simpa using hv
    · exact he.2 e hm

theorem Table.wf_upd [DecidableEq α] (d : α) (t : Table α) (k : Nat) (f : α → α) (h : Table.wf d t = true) :
    Table.wf d (Table.upd d t k f) = true := Table.wf_set d t k _ h

@[simp] theorem Table.get_upd_same [DecidableEq α] (d : α) (t : Table α) (k : Nat) (f : α → α) :
    Table.get d (Table.upd d t k f) k = f (Table.get d t k) := by simp [Table.upd]

theorem Table.get_upd_ne [DecidableEq α] (d e : α) (t : Table α) {k l : Nat} (f : α → α) (h : l ≠ k) :
    Table.get e (Table.upd d t k f) l = Table.get e t l := Table.get_set_ne d e t _ h

/-! ## Byte memories -/

@[simp] theorem Memory.read_write_same (m : Memory) (a : Nat) (v : Byte) : Memory.read (Memory.write m a v) a = v :=
  Table.get_set_same 0 m a v

theorem Memory.read_write_ne (m : Memory) {a b : Nat} (v : Byte) (h : b ≠ a) :
    Memory.read (Memory.write m a v) b = Memory.read m b := Table.get_set_ne 0 0 m v h

theorem Memory.wf_write (m : Memory) (a : Nat) (v : Byte) (h : Memory.wf m = true) :
    Memory.wf (Memory.write m a v) = true := Table.wf_set 0 m a v h

/-- A write of n bytes leaves every byte outside them. -/
theorem Memory.read_writeN_ne (m : Memory) (a n v b : Nat) (h : b < a ∨ a + n ≤ b) :
    Memory.read (Memory.writeN m a n v) b = Memory.read m b := by
  induction n generalizing m a v with
  | zero => rfl
  | succ n ih =>
    unfold Memory.writeN
    rw [ih _ _ _ (by omega), Memory.read_write_ne _ _ (by omega)]

theorem Memory.wf_writeN (m : Memory) (a n v : Nat) (h : Memory.wf m = true) : Memory.wf (Memory.writeN m a n v) = true := by
  induction n generalizing m a v with
  | zero => exact h
  | succ n ih => exact ih _ _ _ (Memory.wf_write m a _ h)

theorem Memory.wf_writeMasked (m : Memory) (a n mask v : Nat) (h : Memory.wf m = true) :
    Memory.wf (Memory.writeMasked m a n mask v) = true := by
  induction n generalizing m a mask v with
  | zero => exact h
  | succ n ih =>
    unfold Memory.writeMasked
    apply ih
    split
    · exact Memory.wf_write m a _ h
    · exact h

/-- What is written is what is read: the low n bytes of v. -/
theorem Memory.readN_writeN (m : Memory) (a n v : Nat) : Memory.readN (Memory.writeN m a n v) a n = v % 256 ^ n := by
  induction n generalizing m a v with
  | zero => simp [Memory.readN, Nat.mod_one]
  | succ n ih =>
    unfold Memory.writeN Memory.readN
    rw [ih, Memory.read_writeN_ne _ _ _ _ _ (Or.inl (Nat.lt_succ_self a)), Memory.read_write_same]
    have e : (2 : Nat) ^ 8 = 256 := by decide
    rw [BitVec.toNat_ofNat, e, Nat.pow_succ', Nat.mod_mul]

theorem Memory.readN_lt (m : Memory) (a n : Nat) : Memory.readN m a n < 256 ^ n := by
  induction n generalizing a with
  | zero => simp [Memory.readN]
  | succ n ih =>
    have h := ih (a + 1)
    have b := (Memory.read m a).isLt
    unfold Memory.readN
    rw [Nat.pow_succ']
    omega

/-- A read of two neighbouring ranges is the read of both together. -/
theorem Memory.readN_add (m : Memory) (a n k : Nat) :
    Memory.readN m a (n + k) = Memory.readN m a n + 256 ^ n * Memory.readN m (a + n) k := by
  induction n generalizing a with
  | zero => simp [Memory.readN]
  | succ n ih =>
    have e : n + 1 + k = (n + k) + 1 := by omega
    rw [e, show Memory.readN m a (n + k + 1) = (Memory.read m a).toNat + 256 * Memory.readN m (a + 1) (n + k) from rfl,
      show Memory.readN m a (n + 1) = (Memory.read m a).toNat + 256 * Memory.readN m (a + 1) n from rfl]
    rw [ih, Nat.pow_succ', show a + 1 + n = a + (n + 1) by omega, Nat.mul_add, Nat.mul_assoc, Nat.add_assoc]

theorem Memory.readN_take (m : Memory) (a n k : Nat) : Memory.readN m a (n + k) % 256 ^ n = Memory.readN m a n := by
  rw [Memory.readN_add, Nat.add_mul_mod_self_left, Nat.mod_eq_of_lt (Memory.readN_lt m a n)]

/-- Whole lines one after another are one read. -/
theorem Memory.readN_lines (m : Memory) (a : Nat) (f : Nat → Nat) (hf : ∀ i, f i = Memory.readN m (a + 64 * i) 64) (b : Nat)
    (hb : b = 256 ^ 64) (k : Nat) : ((List.range k).map f).foldr (fun x v => x + b * v) 0 = Memory.readN m a (64 * k) := by
  induction k generalizing a f with
  | zero => simp [Memory.readN]
  | succ k ih =>
    rw [List.range_succ_eq_map, List.map_cons, List.map_map, List.foldr_cons,
      ih (a + 64) (f ∘ Nat.succ) (fun i => by rw [Function.comp, hf, show a + 64 * Nat.succ i = a + 64 + 64 * i by omega]),
      show 64 * (k + 1) = 64 + 64 * k by omega, Memory.readN_add, hf]
    rw [← hb, Nat.mul_zero, Nat.add_zero]

end Sys2Proof.Machine
end

