-- ==== Sys2Proof/Laws/State.lean ====
section
/-! SUPPORT. One lemma for each field of State and each update of it: an update changes its own field and no other; and what the
register store reads after a write. -/

namespace Sys2Proof.Machine

/-! ## wr changes regs -/

@[simp] theorem State.wr_pending (s : State) (f : Fld) (v : Nat) : (s.wr f v).pending = s.pending := rfl
@[simp] theorem State.wr_por (s : State) (f : Fld) (v : Nat) : (s.wr f v).por = s.por := rfl
@[simp] theorem State.wr_ticks (s : State) (f : Fld) (v : Nat) : (s.wr f v).ticks = s.ticks := rfl
@[simp] theorem State.wr_fresh (s : State) (f : Fld) (v : Nat) : (s.wr f v).fresh = s.fresh := rfl
@[simp] theorem State.wr_regs (s : State) (f : Fld) (v : Nat) : (s.wr f v).regs = Table.set f.rst s.regs f.key (v % 2 ^ f.w) := rfl
@[simp] theorem State.wr_latches (s : State) (f : Fld) (v : Nat) : (s.wr f v).latches = s.latches := rfl
@[simp] theorem State.wr_holds (s : State) (f : Fld) (v : Nat) : (s.wr f v).holds = s.holds := rfl
@[simp] theorem State.wr_bus (s : State) (f : Fld) (v : Nat) : (s.wr f v).bus = s.bus := rfl
@[simp] theorem State.wr_out (s : State) (f : Fld) (v : Nat) : (s.wr f v).out = s.out := rfl
@[simp] theorem State.wr_heldOut (s : State) (f : Fld) (v : Nat) : (s.wr f v).heldOut = s.heldOut := rfl
@[simp] theorem State.wr_fns (s : State) (f : Fld) (v : Nat) : (s.wr f v).fns = s.fns := rfl
@[simp] theorem State.wr_ctxs (s : State) (f : Fld) (v : Nat) : (s.wr f v).ctxs = s.ctxs := rfl
@[simp] theorem State.wr_clks (s : State) (f : Fld) (v : Nat) : (s.wr f v).clks = s.clks := rfl
@[simp] theorem State.wr_agents (s : State) (f : Fld) (v : Nat) : (s.wr f v).agents = s.agents := rfl
@[simp] theorem State.wr_reports (s : State) (f : Fld) (v : Nat) : (s.wr f v).reports = s.reports := rfl
@[simp] theorem State.wr_engs (s : State) (f : Fld) (v : Nat) : (s.wr f v).engs = s.engs := rfl
@[simp] theorem State.wr_bays (s : State) (f : Fld) (v : Nat) : (s.wr f v).bays = s.bays := rfl
@[simp] theorem State.wr_fcc (s : State) (f : Fld) (v : Nat) : (s.wr f v).fcc = s.fcc := rfl
@[simp] theorem State.wr_chans (s : State) (f : Fld) (v : Nat) : (s.wr f v).chans = s.chans := rfl
@[simp] theorem State.wr_ssgs (s : State) (f : Fld) (v : Nat) : (s.wr f v).ssgs = s.ssgs := rfl
@[simp] theorem State.wr_seqMem (s : State) (f : Fld) (v : Nat) : (s.wr f v).seqMem = s.seqMem := rfl
@[simp] theorem State.wr_seqUnread (s : State) (f : Fld) (v : Nat) : (s.wr f v).seqUnread = s.seqUnread := rfl
@[simp] theorem State.wr_seqPos (s : State) (f : Fld) (v : Nat) : (s.wr f v).seqPos = s.seqPos := rfl
@[simp] theorem State.wr_fsets (s : State) (f : Fld) (v : Nat) : (s.wr f v).fsets = s.fsets := rfl
@[simp] theorem State.wr_lmaps (s : State) (f : Fld) (v : Nat) : (s.wr f v).lmaps = s.lmaps := rfl
@[simp] theorem State.wr_scr (s : State) (f : Fld) (v : Nat) : (s.wr f v).scr = s.scr := rfl
@[simp] theorem State.wr_tsets (s : State) (f : Fld) (v : Nat) : (s.wr f v).tsets = s.tsets := rfl
@[simp] theorem State.wr_calRecs (s : State) (f : Fld) (v : Nat) : (s.wr f v).calRecs = s.calRecs := rfl
@[simp] theorem State.wr_ports (s : State) (f : Fld) (v : Nat) : (s.wr f v).ports = s.ports := rfl
@[simp] theorem State.wr_bankMem (s : State) (f : Fld) (v : Nat) : (s.wr f v).bankMem = s.bankMem := rfl
@[simp] theorem State.wr_banks (s : State) (f : Fld) (v : Nat) : (s.wr f v).banks = s.banks := rfl
@[simp] theorem State.wr_dram (s : State) (f : Fld) (v : Nat) : (s.wr f v).dram = s.dram := rfl
@[simp] theorem State.wr_poison (s : State) (f : Fld) (v : Nat) : (s.wr f v).poison = s.poison := rfl
@[simp] theorem State.wr_startFold (s : State) (f : Fld) (v : Nat) : (s.wr f v).startFold = s.startFold := rfl
@[simp] theorem State.wr_restoring (s : State) (f : Fld) (v : Nat) : (s.wr f v).restoring = s.restoring := rfl
@[simp] theorem State.wr_dmcs (s : State) (f : Fld) (v : Nat) : (s.wr f v).dmcs = s.dmcs := rfl
@[simp] theorem State.wr_tb (s : State) (f : Fld) (v : Nat) : (s.wr f v).tb = s.tb := rfl
@[simp] theorem State.wr_trcs (s : State) (f : Fld) (v : Nat) : (s.wr f v).trcs = s.trcs := rfl
@[simp] theorem State.wr_sups (s : State) (f : Fld) (v : Nat) : (s.wr f v).sups = s.sups := rfl
@[simp] theorem State.wr_vccCh (s : State) (f : Fld) (v : Nat) : (s.wr f v).vccCh = s.vccCh := rfl
@[simp] theorem State.wr_drives (s : State) (f : Fld) (v : Nat) : (s.wr f v).drives = s.drives := rfl
@[simp] theorem State.wr_hbMiss (s : State) (f : Fld) (v : Nat) : (s.wr f v).hbMiss = s.hbMiss := rfl
@[simp] theorem State.wr_ownEp (s : State) (f : Fld) (v : Nat) : (s.wr f v).ownEp = s.ownEp := rfl
@[simp] theorem State.wr_talk (s : State) (f : Fld) (v : Nat) : (s.wr f v).talk = s.talk := rfl
@[simp] theorem State.wr_substs (s : State) (f : Fld) (v : Nat) : (s.wr f v).substs = s.substs := rfl
@[simp] theorem State.wr_snap (s : State) (f : Fld) (v : Nat) : (s.wr f v).snap = s.snap := rfl
@[simp] theorem State.wr_time (s : State) (f : Fld) (v : Nat) : (s.wr f v).time = s.time := rfl
@[simp] theorem State.wr_hostReady (s : State) (f : Fld) (v : Nat) : (s.wr f v).hostReady = s.hostReady := rfl
@[simp] theorem State.wr_nis (s : State) (f : Fld) (v : Nat) : (s.wr f v).nis = s.nis := rfl
@[simp] theorem State.wr_flights (s : State) (f : Fld) (v : Nat) : (s.wr f v).flights = s.flights := rfl
@[simp] theorem State.wr_routes (s : State) (f : Fld) (v : Nat) : (s.wr f v).routes = s.routes := rfl
@[simp] theorem State.wr_dirc (s : State) (f : Fld) (v : Nat) : (s.wr f v).dirc = s.dirc := rfl
@[simp] theorem State.wr_bankJoins (s : State) (f : Fld) (v : Nat) : (s.wr f v).bankJoins = s.bankJoins := rfl
@[simp] theorem State.wr_joinNo (s : State) (f : Fld) (v : Nat) : (s.wr f v).joinNo = s.joinNo := rfl
@[simp] theorem State.wr_homes (s : State) (f : Fld) (v : Nat) : (s.wr f v).homes = s.homes := rfl
@[simp] theorem State.wr_fabHeld (s : State) (f : Fld) (v : Nat) : (s.wr f v).fabHeld = s.fabHeld := rfl
@[simp] theorem State.wr_bankUe (s : State) (f : Fld) (v : Nat) : (s.wr f v).bankUe = s.bankUe := rfl
@[simp] theorem State.wr_fcfg (s : State) (f : Fld) (v : Nat) : (s.wr f v).fcfg = s.fcfg := rfl
@[simp] theorem State.wr_bramInit (s : State) (f : Fld) (v : Nat) : (s.wr f v).bramInit = s.bramInit := rfl
@[simp] theorem State.wr_bramX (s : State) (f : Fld) (v : Nat) : (s.wr f v).bramX = s.bramX := rfl
@[simp] theorem State.wr_ffX (s : State) (f : Fld) (v : Nat) : (s.wr f v).ffX = s.ffX := rfl
@[simp] theorem State.wr_brams (s : State) (f : Fld) (v : Nat) : (s.wr f v).brams = s.brams := rfl
@[simp] theorem State.wr_slices (s : State) (f : Fld) (v : Nat) : (s.wr f v).slices = s.slices := rfl
@[simp] theorem State.wr_ios (s : State) (f : Fld) (v : Nat) : (s.wr f v).ios = s.ios := rfl
@[simp] theorem State.wr_ghWait (s : State) (f : Fld) (v : Nat) : (s.wr f v).ghWait = s.ghWait := rfl
@[simp] theorem State.wr_fcgs (s : State) (f : Fld) (v : Nat) : (s.wr f v).fcgs = s.fcgs := rfl
@[simp] theorem State.wr_load (s : State) (f : Fld) (v : Nat) : (s.wr f v).load = s.load := rfl
@[simp] theorem State.wr_fuses (s : State) (f : Fld) (v : Nat) : (s.wr f v).fuses = s.fuses := rfl
@[simp] theorem State.wr_svn (s : State) (f : Fld) (v : Nat) : (s.wr f v).svn = s.svn := rfl
@[simp] theorem State.wr_fuseArm (s : State) (f : Fld) (v : Nat) : (s.wr f v).fuseArm = s.fuseArm := rfl
@[simp] theorem State.wr_boot (s : State) (f : Fld) (v : Nat) : (s.wr f v).boot = s.boot := rfl
@[simp] theorem State.wr_strapOver (s : State) (f : Fld) (v : Nat) : (s.wr f v).strapOver = s.strapOver := rfl
@[simp] theorem State.wr_attest (s : State) (f : Fld) (v : Nat) : (s.wr f v).attest = s.attest := rfl
@[simp] theorem State.wr_report (s : State) (f : Fld) (v : Nat) : (s.wr f v).report = s.report := rfl
@[simp] theorem State.wr_cfgMeas (s : State) (f : Fld) (v : Nat) : (s.wr f v).cfgMeas = s.cfgMeas := rfl
@[simp] theorem State.wr_prChain (s : State) (f : Fld) (v : Nat) : (s.wr f v).prChain = s.prChain := rfl
@[simp] theorem State.wr_vcore (s : State) (f : Fld) (v : Nat) : (s.wr f v).vcore = s.vcore := rfl
@[simp] theorem State.wr_hj (s : State) (f : Fld) (v : Nat) : (s.wr f v).hj = s.hj := rfl
@[simp] theorem State.wr_edge (s : State) (f : Fld) (v : Nat) : (s.wr f v).edge = s.edge := rfl
@[simp] theorem State.wr_lineHi (s : State) (f : Fld) (v : Nat) : (s.wr f v).lineHi = s.lineHi := rfl
@[simp] theorem State.wr_gateOff (s : State) (f : Fld) (v : Nat) : (s.wr f v).gateOff = s.gateOff := rfl
@[simp] theorem State.wr_pins (s : State) (f : Fld) (v : Nat) : (s.wr f v).pins = s.pins := rfl
@[simp] theorem State.wr_padExt (s : State) (f : Fld) (v : Nat) : (s.wr f v).padExt = s.padExt := rfl
@[simp] theorem State.wr_retKey (s : State) (f : Fld) (v : Nat) : (s.wr f v).retKey = s.retKey := rfl
@[simp] theorem State.wr_frameCrcs (s : State) (f : Fld) (v : Nat) : (s.wr f v).frameCrcs = s.frameCrcs := rfl
@[simp] theorem State.wr_prnExcl (s : State) (f : Fld) (v : Nat) : (s.wr f v).prnExcl = s.prnExcl := rfl

/-! ## updSup changes sups -/

@[simp] theorem State.updSup_pending (s : State) (h : Nat) (f : SupSt → SupSt) : (s.updSup h f).pending = s.pending := rfl
@[simp] theorem State.updSup_por (s : State) (h : Nat) (f : SupSt → SupSt) : (s.updSup h f).por = s.por := rfl
@[simp] theorem State.updSup_ticks (s : State) (h : Nat) (f : SupSt → SupSt) : (s.updSup h f).ticks = s.ticks := rfl
@[simp] theorem State.updSup_fresh (s : State) (h : Nat) (f : SupSt → SupSt) : (s.updSup h f).fresh = s.fresh := rfl
@[simp] theorem State.updSup_regs (s : State) (h : Nat) (f : SupSt → SupSt) : (s.updSup h f).regs = s.regs := rfl
@[simp] theorem State.updSup_latches (s : State) (h : Nat) (f : SupSt → SupSt) : (s.updSup h f).latches = s.latches := rfl
@[simp] theorem State.updSup_holds (s : State) (h : Nat) (f : SupSt → SupSt) : (s.updSup h f).holds = s.holds := rfl
@[simp] theorem State.updSup_bus (s : State) (h : Nat) (f : SupSt → SupSt) : (s.updSup h f).bus = s.bus := rfl
@[simp] theorem State.updSup_out (s : State) (h : Nat) (f : SupSt → SupSt) : (s.updSup h f).out = s.out := rfl
@[simp] theorem State.updSup_heldOut (s : State) (h : Nat) (f : SupSt → SupSt) : (s.updSup h f).heldOut = s.heldOut := rfl
@[simp] theorem State.updSup_fns (s : State) (h : Nat) (f : SupSt → SupSt) : (s.updSup h f).fns = s.fns := rfl
@[simp] theorem State.updSup_ctxs (s : State) (h : Nat) (f : SupSt → SupSt) : (s.updSup h f).ctxs = s.ctxs := rfl
@[simp] theorem State.updSup_clks (s : State) (h : Nat) (f : SupSt → SupSt) : (s.updSup h f).clks = s.clks := rfl
@[simp] theorem State.updSup_agents (s : State) (h : Nat) (f : SupSt → SupSt) : (s.updSup h f).agents = s.agents := rfl
@[simp] theorem State.updSup_reports (s : State) (h : Nat) (f : SupSt → SupSt) : (s.updSup h f).reports = s.reports := rfl
@[simp] theorem State.updSup_engs (s : State) (h : Nat) (f : SupSt → SupSt) : (s.updSup h f).engs = s.engs := rfl
@[simp] theorem State.updSup_bays (s : State) (h : Nat) (f : SupSt → SupSt) : (s.updSup h f).bays = s.bays := rfl
@[simp] theorem State.updSup_fcc (s : State) (h : Nat) (f : SupSt → SupSt) : (s.updSup h f).fcc = s.fcc := rfl
@[simp] theorem State.updSup_chans (s : State) (h : Nat) (f : SupSt → SupSt) : (s.updSup h f).chans = s.chans := rfl
@[simp] theorem State.updSup_ssgs (s : State) (h : Nat) (f : SupSt → SupSt) : (s.updSup h f).ssgs = s.ssgs := rfl
@[simp] theorem State.updSup_seqMem (s : State) (h : Nat) (f : SupSt → SupSt) : (s.updSup h f).seqMem = s.seqMem := rfl
@[simp] theorem State.updSup_seqUnread (s : State) (h : Nat) (f : SupSt → SupSt) : (s.updSup h f).seqUnread = s.seqUnread := rfl
@[simp] theorem State.updSup_seqPos (s : State) (h : Nat) (f : SupSt → SupSt) : (s.updSup h f).seqPos = s.seqPos := rfl
@[simp] theorem State.updSup_fsets (s : State) (h : Nat) (f : SupSt → SupSt) : (s.updSup h f).fsets = s.fsets := rfl
@[simp] theorem State.updSup_lmaps (s : State) (h : Nat) (f : SupSt → SupSt) : (s.updSup h f).lmaps = s.lmaps := rfl
@[simp] theorem State.updSup_scr (s : State) (h : Nat) (f : SupSt → SupSt) : (s.updSup h f).scr = s.scr := rfl
@[simp] theorem State.updSup_tsets (s : State) (h : Nat) (f : SupSt → SupSt) : (s.updSup h f).tsets = s.tsets := rfl
@[simp] theorem State.updSup_calRecs (s : State) (h : Nat) (f : SupSt → SupSt) : (s.updSup h f).calRecs = s.calRecs := rfl
@[simp] theorem State.updSup_ports (s : State) (h : Nat) (f : SupSt → SupSt) : (s.updSup h f).ports = s.ports := rfl
@[simp] theorem State.updSup_bankMem (s : State) (h : Nat) (f : SupSt → SupSt) : (s.updSup h f).bankMem = s.bankMem := rfl
@[simp] theorem State.updSup_banks (s : State) (h : Nat) (f : SupSt → SupSt) : (s.updSup h f).banks = s.banks := rfl
@[simp] theorem State.updSup_dram (s : State) (h : Nat) (f : SupSt → SupSt) : (s.updSup h f).dram = s.dram := rfl
@[simp] theorem State.updSup_poison (s : State) (h : Nat) (f : SupSt → SupSt) : (s.updSup h f).poison = s.poison := rfl
@[simp] theorem State.updSup_startFold (s : State) (h : Nat) (f : SupSt → SupSt) : (s.updSup h f).startFold = s.startFold := rfl
@[simp] theorem State.updSup_restoring (s : State) (h : Nat) (f : SupSt → SupSt) : (s.updSup h f).restoring = s.restoring := rfl
@[simp] theorem State.updSup_dmcs (s : State) (h : Nat) (f : SupSt → SupSt) : (s.updSup h f).dmcs = s.dmcs := rfl
@[simp] theorem State.updSup_tb (s : State) (h : Nat) (f : SupSt → SupSt) : (s.updSup h f).tb = s.tb := rfl
@[simp] theorem State.updSup_trcs (s : State) (h : Nat) (f : SupSt → SupSt) : (s.updSup h f).trcs = s.trcs := rfl
@[simp] theorem State.updSup_sups (s : State) (h : Nat) (f : SupSt → SupSt) : (s.updSup h f).sups = Table.upd SupSt.reset s.sups h f := rfl
@[simp] theorem State.updSup_vccCh (s : State) (h : Nat) (f : SupSt → SupSt) : (s.updSup h f).vccCh = s.vccCh := rfl
@[simp] theorem State.updSup_drives (s : State) (h : Nat) (f : SupSt → SupSt) : (s.updSup h f).drives = s.drives := rfl
@[simp] theorem State.updSup_hbMiss (s : State) (h : Nat) (f : SupSt → SupSt) : (s.updSup h f).hbMiss = s.hbMiss := rfl
@[simp] theorem State.updSup_ownEp (s : State) (h : Nat) (f : SupSt → SupSt) : (s.updSup h f).ownEp = s.ownEp := rfl
@[simp] theorem State.updSup_talk (s : State) (h : Nat) (f : SupSt → SupSt) : (s.updSup h f).talk = s.talk := rfl
@[simp] theorem State.updSup_substs (s : State) (h : Nat) (f : SupSt → SupSt) : (s.updSup h f).substs = s.substs := rfl
@[simp] theorem State.updSup_snap (s : State) (h : Nat) (f : SupSt → SupSt) : (s.updSup h f).snap = s.snap := rfl
@[simp] theorem State.updSup_time (s : State) (h : Nat) (f : SupSt → SupSt) : (s.updSup h f).time = s.time := rfl
@[simp] theorem State.updSup_hostReady (s : State) (h : Nat) (f : SupSt → SupSt) : (s.updSup h f).hostReady = s.hostReady := rfl
@[simp] theorem State.updSup_nis (s : State) (h : Nat) (f : SupSt → SupSt) : (s.updSup h f).nis = s.nis := rfl
@[simp] theorem State.updSup_flights (s : State) (h : Nat) (f : SupSt → SupSt) : (s.updSup h f).flights = s.flights := rfl
@[simp] theorem State.updSup_routes (s : State) (h : Nat) (f : SupSt → SupSt) : (s.updSup h f).routes = s.routes := rfl
@[simp] theorem State.updSup_dirc (s : State) (h : Nat) (f : SupSt → SupSt) : (s.updSup h f).dirc = s.dirc := rfl
@[simp] theorem State.updSup_bankJoins (s : State) (h : Nat) (f : SupSt → SupSt) : (s.updSup h f).bankJoins = s.bankJoins := rfl
@[simp] theorem State.updSup_joinNo (s : State) (h : Nat) (f : SupSt → SupSt) : (s.updSup h f).joinNo = s.joinNo := rfl
@[simp] theorem State.updSup_homes (s : State) (h : Nat) (f : SupSt → SupSt) : (s.updSup h f).homes = s.homes := rfl
@[simp] theorem State.updSup_fabHeld (s : State) (h : Nat) (f : SupSt → SupSt) : (s.updSup h f).fabHeld = s.fabHeld := rfl
@[simp] theorem State.updSup_bankUe (s : State) (h : Nat) (f : SupSt → SupSt) : (s.updSup h f).bankUe = s.bankUe := rfl
@[simp] theorem State.updSup_fcfg (s : State) (h : Nat) (f : SupSt → SupSt) : (s.updSup h f).fcfg = s.fcfg := rfl
@[simp] theorem State.updSup_bramInit (s : State) (h : Nat) (f : SupSt → SupSt) : (s.updSup h f).bramInit = s.bramInit := rfl
@[simp] theorem State.updSup_bramX (s : State) (h : Nat) (f : SupSt → SupSt) : (s.updSup h f).bramX = s.bramX := rfl
@[simp] theorem State.updSup_ffX (s : State) (h : Nat) (f : SupSt → SupSt) : (s.updSup h f).ffX = s.ffX := rfl
@[simp] theorem State.updSup_brams (s : State) (h : Nat) (f : SupSt → SupSt) : (s.updSup h f).brams = s.brams := rfl
@[simp] theorem State.updSup_slices (s : State) (h : Nat) (f : SupSt → SupSt) : (s.updSup h f).slices = s.slices := rfl
@[simp] theorem State.updSup_ios (s : State) (h : Nat) (f : SupSt → SupSt) : (s.updSup h f).ios = s.ios := rfl
@[simp] theorem State.updSup_ghWait (s : State) (h : Nat) (f : SupSt → SupSt) : (s.updSup h f).ghWait = s.ghWait := rfl
@[simp] theorem State.updSup_fcgs (s : State) (h : Nat) (f : SupSt → SupSt) : (s.updSup h f).fcgs = s.fcgs := rfl
@[simp] theorem State.updSup_load (s : State) (h : Nat) (f : SupSt → SupSt) : (s.updSup h f).load = s.load := rfl
@[simp] theorem State.updSup_fuses (s : State) (h : Nat) (f : SupSt → SupSt) : (s.updSup h f).fuses = s.fuses := rfl
@[simp] theorem State.updSup_svn (s : State) (h : Nat) (f : SupSt → SupSt) : (s.updSup h f).svn = s.svn := rfl
@[simp] theorem State.updSup_fuseArm (s : State) (h : Nat) (f : SupSt → SupSt) : (s.updSup h f).fuseArm = s.fuseArm := rfl
@[simp] theorem State.updSup_boot (s : State) (h : Nat) (f : SupSt → SupSt) : (s.updSup h f).boot = s.boot := rfl
@[simp] theorem State.updSup_strapOver (s : State) (h : Nat) (f : SupSt → SupSt) : (s.updSup h f).strapOver = s.strapOver := rfl
@[simp] theorem State.updSup_attest (s : State) (h : Nat) (f : SupSt → SupSt) : (s.updSup h f).attest = s.attest := rfl
@[simp] theorem State.updSup_report (s : State) (h : Nat) (f : SupSt → SupSt) : (s.updSup h f).report = s.report := rfl
@[simp] theorem State.updSup_cfgMeas (s : State) (h : Nat) (f : SupSt → SupSt) : (s.updSup h f).cfgMeas = s.cfgMeas := rfl
@[simp] theorem State.updSup_prChain (s : State) (h : Nat) (f : SupSt → SupSt) : (s.updSup h f).prChain = s.prChain := rfl
@[simp] theorem State.updSup_vcore (s : State) (h : Nat) (f : SupSt → SupSt) : (s.updSup h f).vcore = s.vcore := rfl
@[simp] theorem State.updSup_hj (s : State) (h : Nat) (f : SupSt → SupSt) : (s.updSup h f).hj = s.hj := rfl
@[simp] theorem State.updSup_edge (s : State) (h : Nat) (f : SupSt → SupSt) : (s.updSup h f).edge = s.edge := rfl
@[simp] theorem State.updSup_lineHi (s : State) (h : Nat) (f : SupSt → SupSt) : (s.updSup h f).lineHi = s.lineHi := rfl
@[simp] theorem State.updSup_gateOff (s : State) (h : Nat) (f : SupSt → SupSt) : (s.updSup h f).gateOff = s.gateOff := rfl
@[simp] theorem State.updSup_pins (s : State) (h : Nat) (f : SupSt → SupSt) : (s.updSup h f).pins = s.pins := rfl
@[simp] theorem State.updSup_padExt (s : State) (h : Nat) (f : SupSt → SupSt) : (s.updSup h f).padExt = s.padExt := rfl
@[simp] theorem State.updSup_retKey (s : State) (h : Nat) (f : SupSt → SupSt) : (s.updSup h f).retKey = s.retKey := rfl
@[simp] theorem State.updSup_frameCrcs (s : State) (h : Nat) (f : SupSt → SupSt) : (s.updSup h f).frameCrcs = s.frameCrcs := rfl
@[simp] theorem State.updSup_prnExcl (s : State) (h : Nat) (f : SupSt → SupSt) : (s.updSup h f).prnExcl = s.prnExcl := rfl

/-! ## updFn changes fns -/

@[simp] theorem State.updFn_pending (s : State) (f : Nat) (g : FnSt → FnSt) : (s.updFn f g).pending = s.pending := rfl
@[simp] theorem State.updFn_por (s : State) (f : Nat) (g : FnSt → FnSt) : (s.updFn f g).por = s.por := rfl
@[simp] theorem State.updFn_ticks (s : State) (f : Nat) (g : FnSt → FnSt) : (s.updFn f g).ticks = s.ticks := rfl
@[simp] theorem State.updFn_fresh (s : State) (f : Nat) (g : FnSt → FnSt) : (s.updFn f g).fresh = s.fresh := rfl
@[simp] theorem State.updFn_regs (s : State) (f : Nat) (g : FnSt → FnSt) : (s.updFn f g).regs = s.regs := rfl
@[simp] theorem State.updFn_latches (s : State) (f : Nat) (g : FnSt → FnSt) : (s.updFn f g).latches = s.latches := rfl
@[simp] theorem State.updFn_holds (s : State) (f : Nat) (g : FnSt → FnSt) : (s.updFn f g).holds = s.holds := rfl
@[simp] theorem State.updFn_bus (s : State) (f : Nat) (g : FnSt → FnSt) : (s.updFn f g).bus = s.bus := rfl
@[simp] theorem State.updFn_out (s : State) (f : Nat) (g : FnSt → FnSt) : (s.updFn f g).out = s.out := rfl
@[simp] theorem State.updFn_heldOut (s : State) (f : Nat) (g : FnSt → FnSt) : (s.updFn f g).heldOut = s.heldOut := rfl
@[simp] theorem State.updFn_fns (s : State) (f : Nat) (g : FnSt → FnSt) : (s.updFn f g).fns = Table.upd FnSt.reset s.fns f g := rfl
@[simp] theorem State.updFn_ctxs (s : State) (f : Nat) (g : FnSt → FnSt) : (s.updFn f g).ctxs = s.ctxs := rfl
@[simp] theorem State.updFn_clks (s : State) (f : Nat) (g : FnSt → FnSt) : (s.updFn f g).clks = s.clks := rfl
@[simp] theorem State.updFn_agents (s : State) (f : Nat) (g : FnSt → FnSt) : (s.updFn f g).agents = s.agents := rfl
@[simp] theorem State.updFn_reports (s : State) (f : Nat) (g : FnSt → FnSt) : (s.updFn f g).reports = s.reports := rfl
@[simp] theorem State.updFn_engs (s : State) (f : Nat) (g : FnSt → FnSt) : (s.updFn f g).engs = s.engs := rfl
@[simp] theorem State.updFn_bays (s : State) (f : Nat) (g : FnSt → FnSt) : (s.updFn f g).bays = s.bays := rfl
@[simp] theorem State.updFn_fcc (s : State) (f : Nat) (g : FnSt → FnSt) : (s.updFn f g).fcc = s.fcc := rfl
@[simp] theorem State.updFn_chans (s : State) (f : Nat) (g : FnSt → FnSt) : (s.updFn f g).chans = s.chans := rfl
@[simp] theorem State.updFn_ssgs (s : State) (f : Nat) (g : FnSt → FnSt) : (s.updFn f g).ssgs = s.ssgs := rfl
@[simp] theorem State.updFn_seqMem (s : State) (f : Nat) (g : FnSt → FnSt) : (s.updFn f g).seqMem = s.seqMem := rfl
@[simp] theorem State.updFn_seqUnread (s : State) (f : Nat) (g : FnSt → FnSt) : (s.updFn f g).seqUnread = s.seqUnread := rfl
@[simp] theorem State.updFn_seqPos (s : State) (f : Nat) (g : FnSt → FnSt) : (s.updFn f g).seqPos = s.seqPos := rfl
@[simp] theorem State.updFn_fsets (s : State) (f : Nat) (g : FnSt → FnSt) : (s.updFn f g).fsets = s.fsets := rfl
@[simp] theorem State.updFn_lmaps (s : State) (f : Nat) (g : FnSt → FnSt) : (s.updFn f g).lmaps = s.lmaps := rfl
@[simp] theorem State.updFn_scr (s : State) (f : Nat) (g : FnSt → FnSt) : (s.updFn f g).scr = s.scr := rfl
@[simp] theorem State.updFn_tsets (s : State) (f : Nat) (g : FnSt → FnSt) : (s.updFn f g).tsets = s.tsets := rfl
@[simp] theorem State.updFn_calRecs (s : State) (f : Nat) (g : FnSt → FnSt) : (s.updFn f g).calRecs = s.calRecs := rfl
@[simp] theorem State.updFn_ports (s : State) (f : Nat) (g : FnSt → FnSt) : (s.updFn f g).ports = s.ports := rfl
@[simp] theorem State.updFn_bankMem (s : State) (f : Nat) (g : FnSt → FnSt) : (s.updFn f g).bankMem = s.bankMem := rfl
@[simp] theorem State.updFn_banks (s : State) (f : Nat) (g : FnSt → FnSt) : (s.updFn f g).banks = s.banks := rfl
@[simp] theorem State.updFn_dram (s : State) (f : Nat) (g : FnSt → FnSt) : (s.updFn f g).dram = s.dram := rfl
@[simp] theorem State.updFn_poison (s : State) (f : Nat) (g : FnSt → FnSt) : (s.updFn f g).poison = s.poison := rfl
@[simp] theorem State.updFn_startFold (s : State) (f : Nat) (g : FnSt → FnSt) : (s.updFn f g).startFold = s.startFold := rfl
@[simp] theorem State.updFn_restoring (s : State) (f : Nat) (g : FnSt → FnSt) : (s.updFn f g).restoring = s.restoring := rfl
@[simp] theorem State.updFn_dmcs (s : State) (f : Nat) (g : FnSt → FnSt) : (s.updFn f g).dmcs = s.dmcs := rfl
@[simp] theorem State.updFn_tb (s : State) (f : Nat) (g : FnSt → FnSt) : (s.updFn f g).tb = s.tb := rfl
@[simp] theorem State.updFn_trcs (s : State) (f : Nat) (g : FnSt → FnSt) : (s.updFn f g).trcs = s.trcs := rfl
@[simp] theorem State.updFn_sups (s : State) (f : Nat) (g : FnSt → FnSt) : (s.updFn f g).sups = s.sups := rfl
@[simp] theorem State.updFn_vccCh (s : State) (f : Nat) (g : FnSt → FnSt) : (s.updFn f g).vccCh = s.vccCh := rfl
@[simp] theorem State.updFn_drives (s : State) (f : Nat) (g : FnSt → FnSt) : (s.updFn f g).drives = s.drives := rfl
@[simp] theorem State.updFn_hbMiss (s : State) (f : Nat) (g : FnSt → FnSt) : (s.updFn f g).hbMiss = s.hbMiss := rfl
@[simp] theorem State.updFn_ownEp (s : State) (f : Nat) (g : FnSt → FnSt) : (s.updFn f g).ownEp = s.ownEp := rfl
@[simp] theorem State.updFn_talk (s : State) (f : Nat) (g : FnSt → FnSt) : (s.updFn f g).talk = s.talk := rfl
@[simp] theorem State.updFn_substs (s : State) (f : Nat) (g : FnSt → FnSt) : (s.updFn f g).substs = s.substs := rfl
@[simp] theorem State.updFn_snap (s : State) (f : Nat) (g : FnSt → FnSt) : (s.updFn f g).snap = s.snap := rfl
@[simp] theorem State.updFn_time (s : State) (f : Nat) (g : FnSt → FnSt) : (s.updFn f g).time = s.time := rfl
@[simp] theorem State.updFn_hostReady (s : State) (f : Nat) (g : FnSt → FnSt) : (s.updFn f g).hostReady = s.hostReady := rfl
@[simp] theorem State.updFn_nis (s : State) (f : Nat) (g : FnSt → FnSt) : (s.updFn f g).nis = s.nis := rfl
@[simp] theorem State.updFn_flights (s : State) (f : Nat) (g : FnSt → FnSt) : (s.updFn f g).flights = s.flights := rfl
@[simp] theorem State.updFn_routes (s : State) (f : Nat) (g : FnSt → FnSt) : (s.updFn f g).routes = s.routes := rfl
@[simp] theorem State.updFn_dirc (s : State) (f : Nat) (g : FnSt → FnSt) : (s.updFn f g).dirc = s.dirc := rfl
@[simp] theorem State.updFn_bankJoins (s : State) (f : Nat) (g : FnSt → FnSt) : (s.updFn f g).bankJoins = s.bankJoins := rfl
@[simp] theorem State.updFn_joinNo (s : State) (f : Nat) (g : FnSt → FnSt) : (s.updFn f g).joinNo = s.joinNo := rfl
@[simp] theorem State.updFn_homes (s : State) (f : Nat) (g : FnSt → FnSt) : (s.updFn f g).homes = s.homes := rfl
@[simp] theorem State.updFn_fabHeld (s : State) (f : Nat) (g : FnSt → FnSt) : (s.updFn f g).fabHeld = s.fabHeld := rfl
@[simp] theorem State.updFn_bankUe (s : State) (f : Nat) (g : FnSt → FnSt) : (s.updFn f g).bankUe = s.bankUe := rfl
@[simp] theorem State.updFn_fcfg (s : State) (f : Nat) (g : FnSt → FnSt) : (s.updFn f g).fcfg = s.fcfg := rfl
@[simp] theorem State.updFn_bramInit (s : State) (f : Nat) (g : FnSt → FnSt) : (s.updFn f g).bramInit = s.bramInit := rfl
@[simp] theorem State.updFn_bramX (s : State) (f : Nat) (g : FnSt → FnSt) : (s.updFn f g).bramX = s.bramX := rfl
@[simp] theorem State.updFn_ffX (s : State) (f : Nat) (g : FnSt → FnSt) : (s.updFn f g).ffX = s.ffX := rfl
@[simp] theorem State.updFn_brams (s : State) (f : Nat) (g : FnSt → FnSt) : (s.updFn f g).brams = s.brams := rfl
@[simp] theorem State.updFn_slices (s : State) (f : Nat) (g : FnSt → FnSt) : (s.updFn f g).slices = s.slices := rfl
@[simp] theorem State.updFn_ios (s : State) (f : Nat) (g : FnSt → FnSt) : (s.updFn f g).ios = s.ios := rfl
@[simp] theorem State.updFn_ghWait (s : State) (f : Nat) (g : FnSt → FnSt) : (s.updFn f g).ghWait = s.ghWait := rfl
@[simp] theorem State.updFn_fcgs (s : State) (f : Nat) (g : FnSt → FnSt) : (s.updFn f g).fcgs = s.fcgs := rfl
@[simp] theorem State.updFn_load (s : State) (f : Nat) (g : FnSt → FnSt) : (s.updFn f g).load = s.load := rfl
@[simp] theorem State.updFn_fuses (s : State) (f : Nat) (g : FnSt → FnSt) : (s.updFn f g).fuses = s.fuses := rfl
@[simp] theorem State.updFn_svn (s : State) (f : Nat) (g : FnSt → FnSt) : (s.updFn f g).svn = s.svn := rfl
@[simp] theorem State.updFn_fuseArm (s : State) (f : Nat) (g : FnSt → FnSt) : (s.updFn f g).fuseArm = s.fuseArm := rfl
@[simp] theorem State.updFn_boot (s : State) (f : Nat) (g : FnSt → FnSt) : (s.updFn f g).boot = s.boot := rfl
@[simp] theorem State.updFn_strapOver (s : State) (f : Nat) (g : FnSt → FnSt) : (s.updFn f g).strapOver = s.strapOver := rfl
@[simp] theorem State.updFn_attest (s : State) (f : Nat) (g : FnSt → FnSt) : (s.updFn f g).attest = s.attest := rfl
@[simp] theorem State.updFn_report (s : State) (f : Nat) (g : FnSt → FnSt) : (s.updFn f g).report = s.report := rfl
@[simp] theorem State.updFn_cfgMeas (s : State) (f : Nat) (g : FnSt → FnSt) : (s.updFn f g).cfgMeas = s.cfgMeas := rfl
@[simp] theorem State.updFn_prChain (s : State) (f : Nat) (g : FnSt → FnSt) : (s.updFn f g).prChain = s.prChain := rfl
@[simp] theorem State.updFn_vcore (s : State) (f : Nat) (g : FnSt → FnSt) : (s.updFn f g).vcore = s.vcore := rfl
@[simp] theorem State.updFn_hj (s : State) (f : Nat) (g : FnSt → FnSt) : (s.updFn f g).hj = s.hj := rfl
@[simp] theorem State.updFn_edge (s : State) (f : Nat) (g : FnSt → FnSt) : (s.updFn f g).edge = s.edge := rfl
@[simp] theorem State.updFn_lineHi (s : State) (f : Nat) (g : FnSt → FnSt) : (s.updFn f g).lineHi = s.lineHi := rfl
@[simp] theorem State.updFn_gateOff (s : State) (f : Nat) (g : FnSt → FnSt) : (s.updFn f g).gateOff = s.gateOff := rfl
@[simp] theorem State.updFn_pins (s : State) (f : Nat) (g : FnSt → FnSt) : (s.updFn f g).pins = s.pins := rfl
@[simp] theorem State.updFn_padExt (s : State) (f : Nat) (g : FnSt → FnSt) : (s.updFn f g).padExt = s.padExt := rfl
@[simp] theorem State.updFn_retKey (s : State) (f : Nat) (g : FnSt → FnSt) : (s.updFn f g).retKey = s.retKey := rfl
@[simp] theorem State.updFn_frameCrcs (s : State) (f : Nat) (g : FnSt → FnSt) : (s.updFn f g).frameCrcs = s.frameCrcs := rfl
@[simp] theorem State.updFn_prnExcl (s : State) (f : Nat) (g : FnSt → FnSt) : (s.updFn f g).prnExcl = s.prnExcl := rfl

/-! ## updCtx changes ctxs -/

@[simp] theorem State.updCtx_pending (s : State) (n : Nat) (g : CtxSt → CtxSt) : (s.updCtx n g).pending = s.pending := rfl
@[simp] theorem State.updCtx_por (s : State) (n : Nat) (g : CtxSt → CtxSt) : (s.updCtx n g).por = s.por := rfl
@[simp] theorem State.updCtx_ticks (s : State) (n : Nat) (g : CtxSt → CtxSt) : (s.updCtx n g).ticks = s.ticks := rfl
@[simp] theorem State.updCtx_fresh (s : State) (n : Nat) (g : CtxSt → CtxSt) : (s.updCtx n g).fresh = s.fresh := rfl
@[simp] theorem State.updCtx_regs (s : State) (n : Nat) (g : CtxSt → CtxSt) : (s.updCtx n g).regs = s.regs := rfl
@[simp] theorem State.updCtx_latches (s : State) (n : Nat) (g : CtxSt → CtxSt) : (s.updCtx n g).latches = s.latches := rfl
@[simp] theorem State.updCtx_holds (s : State) (n : Nat) (g : CtxSt → CtxSt) : (s.updCtx n g).holds = s.holds := rfl
@[simp] theorem State.updCtx_bus (s : State) (n : Nat) (g : CtxSt → CtxSt) : (s.updCtx n g).bus = s.bus := rfl
@[simp] theorem State.updCtx_out (s : State) (n : Nat) (g : CtxSt → CtxSt) : (s.updCtx n g).out = s.out := rfl
@[simp] theorem State.updCtx_heldOut (s : State) (n : Nat) (g : CtxSt → CtxSt) : (s.updCtx n g).heldOut = s.heldOut := rfl
@[simp] theorem State.updCtx_fns (s : State) (n : Nat) (g : CtxSt → CtxSt) : (s.updCtx n g).fns = s.fns := rfl
@[simp] theorem State.updCtx_ctxs (s : State) (n : Nat) (g : CtxSt → CtxSt) : (s.updCtx n g).ctxs = Table.upd CtxSt.reset s.ctxs n g := rfl
@[simp] theorem State.updCtx_clks (s : State) (n : Nat) (g : CtxSt → CtxSt) : (s.updCtx n g).clks = s.clks := rfl
@[simp] theorem State.updCtx_agents (s : State) (n : Nat) (g : CtxSt → CtxSt) : (s.updCtx n g).agents = s.agents := rfl
@[simp] theorem State.updCtx_reports (s : State) (n : Nat) (g : CtxSt → CtxSt) : (s.updCtx n g).reports = s.reports := rfl
@[simp] theorem State.updCtx_engs (s : State) (n : Nat) (g : CtxSt → CtxSt) : (s.updCtx n g).engs = s.engs := rfl
@[simp] theorem State.updCtx_bays (s : State) (n : Nat) (g : CtxSt → CtxSt) : (s.updCtx n g).bays = s.bays := rfl
@[simp] theorem State.updCtx_fcc (s : State) (n : Nat) (g : CtxSt → CtxSt) : (s.updCtx n g).fcc = s.fcc := rfl
@[simp] theorem State.updCtx_chans (s : State) (n : Nat) (g : CtxSt → CtxSt) : (s.updCtx n g).chans = s.chans := rfl
@[simp] theorem State.updCtx_ssgs (s : State) (n : Nat) (g : CtxSt → CtxSt) : (s.updCtx n g).ssgs = s.ssgs := rfl
@[simp] theorem State.updCtx_seqMem (s : State) (n : Nat) (g : CtxSt → CtxSt) : (s.updCtx n g).seqMem = s.seqMem := rfl
@[simp] theorem State.updCtx_seqUnread (s : State) (n : Nat) (g : CtxSt → CtxSt) : (s.updCtx n g).seqUnread = s.seqUnread := rfl
@[simp] theorem State.updCtx_seqPos (s : State) (n : Nat) (g : CtxSt → CtxSt) : (s.updCtx n g).seqPos = s.seqPos := rfl
@[simp] theorem State.updCtx_fsets (s : State) (n : Nat) (g : CtxSt → CtxSt) : (s.updCtx n g).fsets = s.fsets := rfl
@[simp] theorem State.updCtx_lmaps (s : State) (n : Nat) (g : CtxSt → CtxSt) : (s.updCtx n g).lmaps = s.lmaps := rfl
@[simp] theorem State.updCtx_scr (s : State) (n : Nat) (g : CtxSt → CtxSt) : (s.updCtx n g).scr = s.scr := rfl
@[simp] theorem State.updCtx_tsets (s : State) (n : Nat) (g : CtxSt → CtxSt) : (s.updCtx n g).tsets = s.tsets := rfl
@[simp] theorem State.updCtx_calRecs (s : State) (n : Nat) (g : CtxSt → CtxSt) : (s.updCtx n g).calRecs = s.calRecs := rfl
@[simp] theorem State.updCtx_ports (s : State) (n : Nat) (g : CtxSt → CtxSt) : (s.updCtx n g).ports = s.ports := rfl
@[simp] theorem State.updCtx_bankMem (s : State) (n : Nat) (g : CtxSt → CtxSt) : (s.updCtx n g).bankMem = s.bankMem := rfl
@[simp] theorem State.updCtx_banks (s : State) (n : Nat) (g : CtxSt → CtxSt) : (s.updCtx n g).banks = s.banks := rfl
@[simp] theorem State.updCtx_dram (s : State) (n : Nat) (g : CtxSt → CtxSt) : (s.updCtx n g).dram = s.dram := rfl
@[simp] theorem State.updCtx_poison (s : State) (n : Nat) (g : CtxSt → CtxSt) : (s.updCtx n g).poison = s.poison := rfl
@[simp] theorem State.updCtx_startFold (s : State) (n : Nat) (g : CtxSt → CtxSt) : (s.updCtx n g).startFold = s.startFold := rfl
@[simp] theorem State.updCtx_restoring (s : State) (n : Nat) (g : CtxSt → CtxSt) : (s.updCtx n g).restoring = s.restoring := rfl
@[simp] theorem State.updCtx_dmcs (s : State) (n : Nat) (g : CtxSt → CtxSt) : (s.updCtx n g).dmcs = s.dmcs := rfl
@[simp] theorem State.updCtx_tb (s : State) (n : Nat) (g : CtxSt → CtxSt) : (s.updCtx n g).tb = s.tb := rfl
@[simp] theorem State.updCtx_trcs (s : State) (n : Nat) (g : CtxSt → CtxSt) : (s.updCtx n g).trcs = s.trcs := rfl
@[simp] theorem State.updCtx_sups (s : State) (n : Nat) (g : CtxSt → CtxSt) : (s.updCtx n g).sups = s.sups := rfl
@[simp] theorem State.updCtx_vccCh (s : State) (n : Nat) (g : CtxSt → CtxSt) : (s.updCtx n g).vccCh = s.vccCh := rfl
@[simp] theorem State.updCtx_drives (s : State) (n : Nat) (g : CtxSt → CtxSt) : (s.updCtx n g).drives = s.drives := rfl
@[simp] theorem State.updCtx_hbMiss (s : State) (n : Nat) (g : CtxSt → CtxSt) : (s.updCtx n g).hbMiss = s.hbMiss := rfl
@[simp] theorem State.updCtx_ownEp (s : State) (n : Nat) (g : CtxSt → CtxSt) : (s.updCtx n g).ownEp = s.ownEp := rfl
@[simp] theorem State.updCtx_talk (s : State) (n : Nat) (g : CtxSt → CtxSt) : (s.updCtx n g).talk = s.talk := rfl
@[simp] theorem State.updCtx_substs (s : State) (n : Nat) (g : CtxSt → CtxSt) : (s.updCtx n g).substs = s.substs := rfl
@[simp] theorem State.updCtx_snap (s : State) (n : Nat) (g : CtxSt → CtxSt) : (s.updCtx n g).snap = s.snap := rfl
@[simp] theorem State.updCtx_time (s : State) (n : Nat) (g : CtxSt → CtxSt) : (s.updCtx n g).time = s.time := rfl
@[simp] theorem State.updCtx_hostReady (s : State) (n : Nat) (g : CtxSt → CtxSt) : (s.updCtx n g).hostReady = s.hostReady := rfl
@[simp] theorem State.updCtx_nis (s : State) (n : Nat) (g : CtxSt → CtxSt) : (s.updCtx n g).nis = s.nis := rfl
@[simp] theorem State.updCtx_flights (s : State) (n : Nat) (g : CtxSt → CtxSt) : (s.updCtx n g).flights = s.flights := rfl
@[simp] theorem State.updCtx_routes (s : State) (n : Nat) (g : CtxSt → CtxSt) : (s.updCtx n g).routes = s.routes := rfl
@[simp] theorem State.updCtx_dirc (s : State) (n : Nat) (g : CtxSt → CtxSt) : (s.updCtx n g).dirc = s.dirc := rfl
@[simp] theorem State.updCtx_bankJoins (s : State) (n : Nat) (g : CtxSt → CtxSt) : (s.updCtx n g).bankJoins = s.bankJoins := rfl
@[simp] theorem State.updCtx_joinNo (s : State) (n : Nat) (g : CtxSt → CtxSt) : (s.updCtx n g).joinNo = s.joinNo := rfl
@[simp] theorem State.updCtx_homes (s : State) (n : Nat) (g : CtxSt → CtxSt) : (s.updCtx n g).homes = s.homes := rfl
@[simp] theorem State.updCtx_fabHeld (s : State) (n : Nat) (g : CtxSt → CtxSt) : (s.updCtx n g).fabHeld = s.fabHeld := rfl
@[simp] theorem State.updCtx_bankUe (s : State) (n : Nat) (g : CtxSt → CtxSt) : (s.updCtx n g).bankUe = s.bankUe := rfl
@[simp] theorem State.updCtx_fcfg (s : State) (n : Nat) (g : CtxSt → CtxSt) : (s.updCtx n g).fcfg = s.fcfg := rfl
@[simp] theorem State.updCtx_bramInit (s : State) (n : Nat) (g : CtxSt → CtxSt) : (s.updCtx n g).bramInit = s.bramInit := rfl
@[simp] theorem State.updCtx_bramX (s : State) (n : Nat) (g : CtxSt → CtxSt) : (s.updCtx n g).bramX = s.bramX := rfl
@[simp] theorem State.updCtx_ffX (s : State) (n : Nat) (g : CtxSt → CtxSt) : (s.updCtx n g).ffX = s.ffX := rfl
@[simp] theorem State.updCtx_brams (s : State) (n : Nat) (g : CtxSt → CtxSt) : (s.updCtx n g).brams = s.brams := rfl
@[simp] theorem State.updCtx_slices (s : State) (n : Nat) (g : CtxSt → CtxSt) : (s.updCtx n g).slices = s.slices := rfl
@[simp] theorem State.updCtx_ios (s : State) (n : Nat) (g : CtxSt → CtxSt) : (s.updCtx n g).ios = s.ios := rfl
@[simp] theorem State.updCtx_ghWait (s : State) (n : Nat) (g : CtxSt → CtxSt) : (s.updCtx n g).ghWait = s.ghWait := rfl
@[simp] theorem State.updCtx_fcgs (s : State) (n : Nat) (g : CtxSt → CtxSt) : (s.updCtx n g).fcgs = s.fcgs := rfl
@[simp] theorem State.updCtx_load (s : State) (n : Nat) (g : CtxSt → CtxSt) : (s.updCtx n g).load = s.load := rfl
@[simp] theorem State.updCtx_fuses (s : State) (n : Nat) (g : CtxSt → CtxSt) : (s.updCtx n g).fuses = s.fuses := rfl
@[simp] theorem State.updCtx_svn (s : State) (n : Nat) (g : CtxSt → CtxSt) : (s.updCtx n g).svn = s.svn := rfl
@[simp] theorem State.updCtx_fuseArm (s : State) (n : Nat) (g : CtxSt → CtxSt) : (s.updCtx n g).fuseArm = s.fuseArm := rfl
@[simp] theorem State.updCtx_boot (s : State) (n : Nat) (g : CtxSt → CtxSt) : (s.updCtx n g).boot = s.boot := rfl
@[simp] theorem State.updCtx_strapOver (s : State) (n : Nat) (g : CtxSt → CtxSt) : (s.updCtx n g).strapOver = s.strapOver := rfl
@[simp] theorem State.updCtx_attest (s : State) (n : Nat) (g : CtxSt → CtxSt) : (s.updCtx n g).attest = s.attest := rfl
@[simp] theorem State.updCtx_report (s : State) (n : Nat) (g : CtxSt → CtxSt) : (s.updCtx n g).report = s.report := rfl
@[simp] theorem State.updCtx_cfgMeas (s : State) (n : Nat) (g : CtxSt → CtxSt) : (s.updCtx n g).cfgMeas = s.cfgMeas := rfl
@[simp] theorem State.updCtx_prChain (s : State) (n : Nat) (g : CtxSt → CtxSt) : (s.updCtx n g).prChain = s.prChain := rfl
@[simp] theorem State.updCtx_vcore (s : State) (n : Nat) (g : CtxSt → CtxSt) : (s.updCtx n g).vcore = s.vcore := rfl
@[simp] theorem State.updCtx_hj (s : State) (n : Nat) (g : CtxSt → CtxSt) : (s.updCtx n g).hj = s.hj := rfl
@[simp] theorem State.updCtx_edge (s : State) (n : Nat) (g : CtxSt → CtxSt) : (s.updCtx n g).edge = s.edge := rfl
@[simp] theorem State.updCtx_lineHi (s : State) (n : Nat) (g : CtxSt → CtxSt) : (s.updCtx n g).lineHi = s.lineHi := rfl
@[simp] theorem State.updCtx_gateOff (s : State) (n : Nat) (g : CtxSt → CtxSt) : (s.updCtx n g).gateOff = s.gateOff := rfl
@[simp] theorem State.updCtx_pins (s : State) (n : Nat) (g : CtxSt → CtxSt) : (s.updCtx n g).pins = s.pins := rfl
@[simp] theorem State.updCtx_padExt (s : State) (n : Nat) (g : CtxSt → CtxSt) : (s.updCtx n g).padExt = s.padExt := rfl
@[simp] theorem State.updCtx_retKey (s : State) (n : Nat) (g : CtxSt → CtxSt) : (s.updCtx n g).retKey = s.retKey := rfl
@[simp] theorem State.updCtx_frameCrcs (s : State) (n : Nat) (g : CtxSt → CtxSt) : (s.updCtx n g).frameCrcs = s.frameCrcs := rfl
@[simp] theorem State.updCtx_prnExcl (s : State) (n : Nat) (g : CtxSt → CtxSt) : (s.updCtx n g).prnExcl = s.prnExcl := rfl

/-! ## updEng changes engs -/

@[simp] theorem State.updEng_pending (s : State) (n : Nat) (f : Engine → Engine) : (s.updEng n f).pending = s.pending := rfl
@[simp] theorem State.updEng_por (s : State) (n : Nat) (f : Engine → Engine) : (s.updEng n f).por = s.por := rfl
@[simp] theorem State.updEng_ticks (s : State) (n : Nat) (f : Engine → Engine) : (s.updEng n f).ticks = s.ticks := rfl
@[simp] theorem State.updEng_fresh (s : State) (n : Nat) (f : Engine → Engine) : (s.updEng n f).fresh = s.fresh := rfl
@[simp] theorem State.updEng_regs (s : State) (n : Nat) (f : Engine → Engine) : (s.updEng n f).regs = s.regs := rfl
@[simp] theorem State.updEng_latches (s : State) (n : Nat) (f : Engine → Engine) : (s.updEng n f).latches = s.latches := rfl
@[simp] theorem State.updEng_holds (s : State) (n : Nat) (f : Engine → Engine) : (s.updEng n f).holds = s.holds := rfl
@[simp] theorem State.updEng_bus (s : State) (n : Nat) (f : Engine → Engine) : (s.updEng n f).bus = s.bus := rfl
@[simp] theorem State.updEng_out (s : State) (n : Nat) (f : Engine → Engine) : (s.updEng n f).out = s.out := rfl
@[simp] theorem State.updEng_heldOut (s : State) (n : Nat) (f : Engine → Engine) : (s.updEng n f).heldOut = s.heldOut := rfl
@[simp] theorem State.updEng_fns (s : State) (n : Nat) (f : Engine → Engine) : (s.updEng n f).fns = s.fns := rfl
@[simp] theorem State.updEng_ctxs (s : State) (n : Nat) (f : Engine → Engine) : (s.updEng n f).ctxs = s.ctxs := rfl
@[simp] theorem State.updEng_clks (s : State) (n : Nat) (f : Engine → Engine) : (s.updEng n f).clks = s.clks := rfl
@[simp] theorem State.updEng_agents (s : State) (n : Nat) (f : Engine → Engine) : (s.updEng n f).agents = s.agents := rfl
@[simp] theorem State.updEng_reports (s : State) (n : Nat) (f : Engine → Engine) : (s.updEng n f).reports = s.reports := rfl
@[simp] theorem State.updEng_engs (s : State) (n : Nat) (f : Engine → Engine) : (s.updEng n f).engs = Table.upd Engine.reset s.engs n f := rfl
@[simp] theorem State.updEng_bays (s : State) (n : Nat) (f : Engine → Engine) : (s.updEng n f).bays = s.bays := rfl
@[simp] theorem State.updEng_fcc (s : State) (n : Nat) (f : Engine → Engine) : (s.updEng n f).fcc = s.fcc := rfl
@[simp] theorem State.updEng_chans (s : State) (n : Nat) (f : Engine → Engine) : (s.updEng n f).chans = s.chans := rfl
@[simp] theorem State.updEng_ssgs (s : State) (n : Nat) (f : Engine → Engine) : (s.updEng n f).ssgs = s.ssgs := rfl
@[simp] theorem State.updEng_seqMem (s : State) (n : Nat) (f : Engine → Engine) : (s.updEng n f).seqMem = s.seqMem := rfl
@[simp] theorem State.updEng_seqUnread (s : State) (n : Nat) (f : Engine → Engine) : (s.updEng n f).seqUnread = s.seqUnread := rfl
@[simp] theorem State.updEng_seqPos (s : State) (n : Nat) (f : Engine → Engine) : (s.updEng n f).seqPos = s.seqPos := rfl
@[simp] theorem State.updEng_fsets (s : State) (n : Nat) (f : Engine → Engine) : (s.updEng n f).fsets = s.fsets := rfl
@[simp] theorem State.updEng_lmaps (s : State) (n : Nat) (f : Engine → Engine) : (s.updEng n f).lmaps = s.lmaps := rfl
@[simp] theorem State.updEng_scr (s : State) (n : Nat) (f : Engine → Engine) : (s.updEng n f).scr = s.scr := rfl
@[simp] theorem State.updEng_tsets (s : State) (n : Nat) (f : Engine → Engine) : (s.updEng n f).tsets = s.tsets := rfl
@[simp] theorem State.updEng_calRecs (s : State) (n : Nat) (f : Engine → Engine) : (s.updEng n f).calRecs = s.calRecs := rfl
@[simp] theorem State.updEng_ports (s : State) (n : Nat) (f : Engine → Engine) : (s.updEng n f).ports = s.ports := rfl
@[simp] theorem State.updEng_bankMem (s : State) (n : Nat) (f : Engine → Engine) : (s.updEng n f).bankMem = s.bankMem := rfl
@[simp] theorem State.updEng_banks (s : State) (n : Nat) (f : Engine → Engine) : (s.updEng n f).banks = s.banks := rfl
@[simp] theorem State.updEng_dram (s : State) (n : Nat) (f : Engine → Engine) : (s.updEng n f).dram = s.dram := rfl
@[simp] theorem State.updEng_poison (s : State) (n : Nat) (f : Engine → Engine) : (s.updEng n f).poison = s.poison := rfl
@[simp] theorem State.updEng_startFold (s : State) (n : Nat) (f : Engine → Engine) : (s.updEng n f).startFold = s.startFold := rfl
@[simp] theorem State.updEng_restoring (s : State) (n : Nat) (f : Engine → Engine) : (s.updEng n f).restoring = s.restoring := rfl
@[simp] theorem State.updEng_dmcs (s : State) (n : Nat) (f : Engine → Engine) : (s.updEng n f).dmcs = s.dmcs := rfl
@[simp] theorem State.updEng_tb (s : State) (n : Nat) (f : Engine → Engine) : (s.updEng n f).tb = s.tb := rfl
@[simp] theorem State.updEng_trcs (s : State) (n : Nat) (f : Engine → Engine) : (s.updEng n f).trcs = s.trcs := rfl
@[simp] theorem State.updEng_sups (s : State) (n : Nat) (f : Engine → Engine) : (s.updEng n f).sups = s.sups := rfl
@[simp] theorem State.updEng_vccCh (s : State) (n : Nat) (f : Engine → Engine) : (s.updEng n f).vccCh = s.vccCh := rfl
@[simp] theorem State.updEng_drives (s : State) (n : Nat) (f : Engine → Engine) : (s.updEng n f).drives = s.drives := rfl
@[simp] theorem State.updEng_hbMiss (s : State) (n : Nat) (f : Engine → Engine) : (s.updEng n f).hbMiss = s.hbMiss := rfl
@[simp] theorem State.updEng_ownEp (s : State) (n : Nat) (f : Engine → Engine) : (s.updEng n f).ownEp = s.ownEp := rfl
@[simp] theorem State.updEng_talk (s : State) (n : Nat) (f : Engine → Engine) : (s.updEng n f).talk = s.talk := rfl
@[simp] theorem State.updEng_substs (s : State) (n : Nat) (f : Engine → Engine) : (s.updEng n f).substs = s.substs := rfl
@[simp] theorem State.updEng_snap (s : State) (n : Nat) (f : Engine → Engine) : (s.updEng n f).snap = s.snap := rfl
@[simp] theorem State.updEng_time (s : State) (n : Nat) (f : Engine → Engine) : (s.updEng n f).time = s.time := rfl
@[simp] theorem State.updEng_hostReady (s : State) (n : Nat) (f : Engine → Engine) : (s.updEng n f).hostReady = s.hostReady := rfl
@[simp] theorem State.updEng_nis (s : State) (n : Nat) (f : Engine → Engine) : (s.updEng n f).nis = s.nis := rfl
@[simp] theorem State.updEng_flights (s : State) (n : Nat) (f : Engine → Engine) : (s.updEng n f).flights = s.flights := rfl
@[simp] theorem State.updEng_routes (s : State) (n : Nat) (f : Engine → Engine) : (s.updEng n f).routes = s.routes := rfl
@[simp] theorem State.updEng_dirc (s : State) (n : Nat) (f : Engine → Engine) : (s.updEng n f).dirc = s.dirc := rfl
@[simp] theorem State.updEng_bankJoins (s : State) (n : Nat) (f : Engine → Engine) : (s.updEng n f).bankJoins = s.bankJoins := rfl
@[simp] theorem State.updEng_joinNo (s : State) (n : Nat) (f : Engine → Engine) : (s.updEng n f).joinNo = s.joinNo := rfl
@[simp] theorem State.updEng_homes (s : State) (n : Nat) (f : Engine → Engine) : (s.updEng n f).homes = s.homes := rfl
@[simp] theorem State.updEng_fabHeld (s : State) (n : Nat) (f : Engine → Engine) : (s.updEng n f).fabHeld = s.fabHeld := rfl
@[simp] theorem State.updEng_bankUe (s : State) (n : Nat) (f : Engine → Engine) : (s.updEng n f).bankUe = s.bankUe := rfl
@[simp] theorem State.updEng_fcfg (s : State) (n : Nat) (f : Engine → Engine) : (s.updEng n f).fcfg = s.fcfg := rfl
@[simp] theorem State.updEng_bramInit (s : State) (n : Nat) (f : Engine → Engine) : (s.updEng n f).bramInit = s.bramInit := rfl
@[simp] theorem State.updEng_bramX (s : State) (n : Nat) (f : Engine → Engine) : (s.updEng n f).bramX = s.bramX := rfl
@[simp] theorem State.updEng_ffX (s : State) (n : Nat) (f : Engine → Engine) : (s.updEng n f).ffX = s.ffX := rfl
@[simp] theorem State.updEng_brams (s : State) (n : Nat) (f : Engine → Engine) : (s.updEng n f).brams = s.brams := rfl
@[simp] theorem State.updEng_slices (s : State) (n : Nat) (f : Engine → Engine) : (s.updEng n f).slices = s.slices := rfl
@[simp] theorem State.updEng_ios (s : State) (n : Nat) (f : Engine → Engine) : (s.updEng n f).ios = s.ios := rfl
@[simp] theorem State.updEng_ghWait (s : State) (n : Nat) (f : Engine → Engine) : (s.updEng n f).ghWait = s.ghWait := rfl
@[simp] theorem State.updEng_fcgs (s : State) (n : Nat) (f : Engine → Engine) : (s.updEng n f).fcgs = s.fcgs := rfl
@[simp] theorem State.updEng_load (s : State) (n : Nat) (f : Engine → Engine) : (s.updEng n f).load = s.load := rfl
@[simp] theorem State.updEng_fuses (s : State) (n : Nat) (f : Engine → Engine) : (s.updEng n f).fuses = s.fuses := rfl
@[simp] theorem State.updEng_svn (s : State) (n : Nat) (f : Engine → Engine) : (s.updEng n f).svn = s.svn := rfl
@[simp] theorem State.updEng_fuseArm (s : State) (n : Nat) (f : Engine → Engine) : (s.updEng n f).fuseArm = s.fuseArm := rfl
@[simp] theorem State.updEng_boot (s : State) (n : Nat) (f : Engine → Engine) : (s.updEng n f).boot = s.boot := rfl
@[simp] theorem State.updEng_strapOver (s : State) (n : Nat) (f : Engine → Engine) : (s.updEng n f).strapOver = s.strapOver := rfl
@[simp] theorem State.updEng_attest (s : State) (n : Nat) (f : Engine → Engine) : (s.updEng n f).attest = s.attest := rfl
@[simp] theorem State.updEng_report (s : State) (n : Nat) (f : Engine → Engine) : (s.updEng n f).report = s.report := rfl
@[simp] theorem State.updEng_cfgMeas (s : State) (n : Nat) (f : Engine → Engine) : (s.updEng n f).cfgMeas = s.cfgMeas := rfl
@[simp] theorem State.updEng_prChain (s : State) (n : Nat) (f : Engine → Engine) : (s.updEng n f).prChain = s.prChain := rfl
@[simp] theorem State.updEng_vcore (s : State) (n : Nat) (f : Engine → Engine) : (s.updEng n f).vcore = s.vcore := rfl
@[simp] theorem State.updEng_hj (s : State) (n : Nat) (f : Engine → Engine) : (s.updEng n f).hj = s.hj := rfl
@[simp] theorem State.updEng_edge (s : State) (n : Nat) (f : Engine → Engine) : (s.updEng n f).edge = s.edge := rfl
@[simp] theorem State.updEng_lineHi (s : State) (n : Nat) (f : Engine → Engine) : (s.updEng n f).lineHi = s.lineHi := rfl
@[simp] theorem State.updEng_gateOff (s : State) (n : Nat) (f : Engine → Engine) : (s.updEng n f).gateOff = s.gateOff := rfl
@[simp] theorem State.updEng_pins (s : State) (n : Nat) (f : Engine → Engine) : (s.updEng n f).pins = s.pins := rfl
@[simp] theorem State.updEng_padExt (s : State) (n : Nat) (f : Engine → Engine) : (s.updEng n f).padExt = s.padExt := rfl
@[simp] theorem State.updEng_retKey (s : State) (n : Nat) (f : Engine → Engine) : (s.updEng n f).retKey = s.retKey := rfl
@[simp] theorem State.updEng_frameCrcs (s : State) (n : Nat) (f : Engine → Engine) : (s.updEng n f).frameCrcs = s.frameCrcs := rfl
@[simp] theorem State.updEng_prnExcl (s : State) (n : Nat) (f : Engine → Engine) : (s.updEng n f).prnExcl = s.prnExcl := rfl

/-! ## updChan changes chans -/

@[simp] theorem State.updChan_pending (s : State) (c : Nat) (f : ChanSt → ChanSt) : (s.updChan c f).pending = s.pending := rfl
@[simp] theorem State.updChan_por (s : State) (c : Nat) (f : ChanSt → ChanSt) : (s.updChan c f).por = s.por := rfl
@[simp] theorem State.updChan_ticks (s : State) (c : Nat) (f : ChanSt → ChanSt) : (s.updChan c f).ticks = s.ticks := rfl
@[simp] theorem State.updChan_fresh (s : State) (c : Nat) (f : ChanSt → ChanSt) : (s.updChan c f).fresh = s.fresh := rfl
@[simp] theorem State.updChan_regs (s : State) (c : Nat) (f : ChanSt → ChanSt) : (s.updChan c f).regs = s.regs := rfl
@[simp] theorem State.updChan_latches (s : State) (c : Nat) (f : ChanSt → ChanSt) : (s.updChan c f).latches = s.latches := rfl
@[simp] theorem State.updChan_holds (s : State) (c : Nat) (f : ChanSt → ChanSt) : (s.updChan c f).holds = s.holds := rfl
@[simp] theorem State.updChan_bus (s : State) (c : Nat) (f : ChanSt → ChanSt) : (s.updChan c f).bus = s.bus := rfl
@[simp] theorem State.updChan_out (s : State) (c : Nat) (f : ChanSt → ChanSt) : (s.updChan c f).out = s.out := rfl
@[simp] theorem State.updChan_heldOut (s : State) (c : Nat) (f : ChanSt → ChanSt) : (s.updChan c f).heldOut = s.heldOut := rfl
@[simp] theorem State.updChan_fns (s : State) (c : Nat) (f : ChanSt → ChanSt) : (s.updChan c f).fns = s.fns := rfl
@[simp] theorem State.updChan_ctxs (s : State) (c : Nat) (f : ChanSt → ChanSt) : (s.updChan c f).ctxs = s.ctxs := rfl
@[simp] theorem State.updChan_clks (s : State) (c : Nat) (f : ChanSt → ChanSt) : (s.updChan c f).clks = s.clks := rfl
@[simp] theorem State.updChan_agents (s : State) (c : Nat) (f : ChanSt → ChanSt) : (s.updChan c f).agents = s.agents := rfl
@[simp] theorem State.updChan_reports (s : State) (c : Nat) (f : ChanSt → ChanSt) : (s.updChan c f).reports = s.reports := rfl
@[simp] theorem State.updChan_engs (s : State) (c : Nat) (f : ChanSt → ChanSt) : (s.updChan c f).engs = s.engs := rfl
@[simp] theorem State.updChan_bays (s : State) (c : Nat) (f : ChanSt → ChanSt) : (s.updChan c f).bays = s.bays := rfl
@[simp] theorem State.updChan_fcc (s : State) (c : Nat) (f : ChanSt → ChanSt) : (s.updChan c f).fcc = s.fcc := rfl
@[simp] theorem State.updChan_chans (s : State) (c : Nat) (f : ChanSt → ChanSt) : (s.updChan c f).chans = Table.upd ChanSt.reset s.chans c f := rfl
@[simp] theorem State.updChan_ssgs (s : State) (c : Nat) (f : ChanSt → ChanSt) : (s.updChan c f).ssgs = s.ssgs := rfl
@[simp] theorem State.updChan_seqMem (s : State) (c : Nat) (f : ChanSt → ChanSt) : (s.updChan c f).seqMem = s.seqMem := rfl
@[simp] theorem State.updChan_seqUnread (s : State) (c : Nat) (f : ChanSt → ChanSt) : (s.updChan c f).seqUnread = s.seqUnread := rfl
@[simp] theorem State.updChan_seqPos (s : State) (c : Nat) (f : ChanSt → ChanSt) : (s.updChan c f).seqPos = s.seqPos := rfl
@[simp] theorem State.updChan_fsets (s : State) (c : Nat) (f : ChanSt → ChanSt) : (s.updChan c f).fsets = s.fsets := rfl
@[simp] theorem State.updChan_lmaps (s : State) (c : Nat) (f : ChanSt → ChanSt) : (s.updChan c f).lmaps = s.lmaps := rfl
@[simp] theorem State.updChan_scr (s : State) (c : Nat) (f : ChanSt → ChanSt) : (s.updChan c f).scr = s.scr := rfl
@[simp] theorem State.updChan_tsets (s : State) (c : Nat) (f : ChanSt → ChanSt) : (s.updChan c f).tsets = s.tsets := rfl
@[simp] theorem State.updChan_calRecs (s : State) (c : Nat) (f : ChanSt → ChanSt) : (s.updChan c f).calRecs = s.calRecs := rfl
@[simp] theorem State.updChan_ports (s : State) (c : Nat) (f : ChanSt → ChanSt) : (s.updChan c f).ports = s.ports := rfl
@[simp] theorem State.updChan_bankMem (s : State) (c : Nat) (f : ChanSt → ChanSt) : (s.updChan c f).bankMem = s.bankMem := rfl
@[simp] theorem State.updChan_banks (s : State) (c : Nat) (f : ChanSt → ChanSt) : (s.updChan c f).banks = s.banks := rfl
@[simp] theorem State.updChan_dram (s : State) (c : Nat) (f : ChanSt → ChanSt) : (s.updChan c f).dram = s.dram := rfl
@[simp] theorem State.updChan_poison (s : State) (c : Nat) (f : ChanSt → ChanSt) : (s.updChan c f).poison = s.poison := rfl
@[simp] theorem State.updChan_startFold (s : State) (c : Nat) (f : ChanSt → ChanSt) : (s.updChan c f).startFold = s.startFold := rfl
@[simp] theorem State.updChan_restoring (s : State) (c : Nat) (f : ChanSt → ChanSt) : (s.updChan c f).restoring = s.restoring := rfl
@[simp] theorem State.updChan_dmcs (s : State) (c : Nat) (f : ChanSt → ChanSt) : (s.updChan c f).dmcs = s.dmcs := rfl
@[simp] theorem State.updChan_tb (s : State) (c : Nat) (f : ChanSt → ChanSt) : (s.updChan c f).tb = s.tb := rfl
@[simp] theorem State.updChan_trcs (s : State) (c : Nat) (f : ChanSt → ChanSt) : (s.updChan c f).trcs = s.trcs := rfl
@[simp] theorem State.updChan_sups (s : State) (c : Nat) (f : ChanSt → ChanSt) : (s.updChan c f).sups = s.sups := rfl
@[simp] theorem State.updChan_vccCh (s : State) (c : Nat) (f : ChanSt → ChanSt) : (s.updChan c f).vccCh = s.vccCh := rfl
@[simp] theorem State.updChan_drives (s : State) (c : Nat) (f : ChanSt → ChanSt) : (s.updChan c f).drives = s.drives := rfl
@[simp] theorem State.updChan_hbMiss (s : State) (c : Nat) (f : ChanSt → ChanSt) : (s.updChan c f).hbMiss = s.hbMiss := rfl
@[simp] theorem State.updChan_ownEp (s : State) (c : Nat) (f : ChanSt → ChanSt) : (s.updChan c f).ownEp = s.ownEp := rfl
@[simp] theorem State.updChan_talk (s : State) (c : Nat) (f : ChanSt → ChanSt) : (s.updChan c f).talk = s.talk := rfl
@[simp] theorem State.updChan_substs (s : State) (c : Nat) (f : ChanSt → ChanSt) : (s.updChan c f).substs = s.substs := rfl
@[simp] theorem State.updChan_snap (s : State) (c : Nat) (f : ChanSt → ChanSt) : (s.updChan c f).snap = s.snap := rfl
@[simp] theorem State.updChan_time (s : State) (c : Nat) (f : ChanSt → ChanSt) : (s.updChan c f).time = s.time := rfl
@[simp] theorem State.updChan_hostReady (s : State) (c : Nat) (f : ChanSt → ChanSt) : (s.updChan c f).hostReady = s.hostReady := rfl
@[simp] theorem State.updChan_nis (s : State) (c : Nat) (f : ChanSt → ChanSt) : (s.updChan c f).nis = s.nis := rfl
@[simp] theorem State.updChan_flights (s : State) (c : Nat) (f : ChanSt → ChanSt) : (s.updChan c f).flights = s.flights := rfl
@[simp] theorem State.updChan_routes (s : State) (c : Nat) (f : ChanSt → ChanSt) : (s.updChan c f).routes = s.routes := rfl
@[simp] theorem State.updChan_dirc (s : State) (c : Nat) (f : ChanSt → ChanSt) : (s.updChan c f).dirc = s.dirc := rfl
@[simp] theorem State.updChan_bankJoins (s : State) (c : Nat) (f : ChanSt → ChanSt) : (s.updChan c f).bankJoins = s.bankJoins := rfl
@[simp] theorem State.updChan_joinNo (s : State) (c : Nat) (f : ChanSt → ChanSt) : (s.updChan c f).joinNo = s.joinNo := rfl
@[simp] theorem State.updChan_homes (s : State) (c : Nat) (f : ChanSt → ChanSt) : (s.updChan c f).homes = s.homes := rfl
@[simp] theorem State.updChan_fabHeld (s : State) (c : Nat) (f : ChanSt → ChanSt) : (s.updChan c f).fabHeld = s.fabHeld := rfl
@[simp] theorem State.updChan_bankUe (s : State) (c : Nat) (f : ChanSt → ChanSt) : (s.updChan c f).bankUe = s.bankUe := rfl
@[simp] theorem State.updChan_fcfg (s : State) (c : Nat) (f : ChanSt → ChanSt) : (s.updChan c f).fcfg = s.fcfg := rfl
@[simp] theorem State.updChan_bramInit (s : State) (c : Nat) (f : ChanSt → ChanSt) : (s.updChan c f).bramInit = s.bramInit := rfl
@[simp] theorem State.updChan_bramX (s : State) (c : Nat) (f : ChanSt → ChanSt) : (s.updChan c f).bramX = s.bramX := rfl
@[simp] theorem State.updChan_ffX (s : State) (c : Nat) (f : ChanSt → ChanSt) : (s.updChan c f).ffX = s.ffX := rfl
@[simp] theorem State.updChan_brams (s : State) (c : Nat) (f : ChanSt → ChanSt) : (s.updChan c f).brams = s.brams := rfl
@[simp] theorem State.updChan_slices (s : State) (c : Nat) (f : ChanSt → ChanSt) : (s.updChan c f).slices = s.slices := rfl
@[simp] theorem State.updChan_ios (s : State) (c : Nat) (f : ChanSt → ChanSt) : (s.updChan c f).ios = s.ios := rfl
@[simp] theorem State.updChan_ghWait (s : State) (c : Nat) (f : ChanSt → ChanSt) : (s.updChan c f).ghWait = s.ghWait := rfl
@[simp] theorem State.updChan_fcgs (s : State) (c : Nat) (f : ChanSt → ChanSt) : (s.updChan c f).fcgs = s.fcgs := rfl
@[simp] theorem State.updChan_load (s : State) (c : Nat) (f : ChanSt → ChanSt) : (s.updChan c f).load = s.load := rfl
@[simp] theorem State.updChan_fuses (s : State) (c : Nat) (f : ChanSt → ChanSt) : (s.updChan c f).fuses = s.fuses := rfl
@[simp] theorem State.updChan_svn (s : State) (c : Nat) (f : ChanSt → ChanSt) : (s.updChan c f).svn = s.svn := rfl
@[simp] theorem State.updChan_fuseArm (s : State) (c : Nat) (f : ChanSt → ChanSt) : (s.updChan c f).fuseArm = s.fuseArm := rfl
@[simp] theorem State.updChan_boot (s : State) (c : Nat) (f : ChanSt → ChanSt) : (s.updChan c f).boot = s.boot := rfl
@[simp] theorem State.updChan_strapOver (s : State) (c : Nat) (f : ChanSt → ChanSt) : (s.updChan c f).strapOver = s.strapOver := rfl
@[simp] theorem State.updChan_attest (s : State) (c : Nat) (f : ChanSt → ChanSt) : (s.updChan c f).attest = s.attest := rfl
@[simp] theorem State.updChan_report (s : State) (c : Nat) (f : ChanSt → ChanSt) : (s.updChan c f).report = s.report := rfl
@[simp] theorem State.updChan_cfgMeas (s : State) (c : Nat) (f : ChanSt → ChanSt) : (s.updChan c f).cfgMeas = s.cfgMeas := rfl
@[simp] theorem State.updChan_prChain (s : State) (c : Nat) (f : ChanSt → ChanSt) : (s.updChan c f).prChain = s.prChain := rfl
@[simp] theorem State.updChan_vcore (s : State) (c : Nat) (f : ChanSt → ChanSt) : (s.updChan c f).vcore = s.vcore := rfl
@[simp] theorem State.updChan_hj (s : State) (c : Nat) (f : ChanSt → ChanSt) : (s.updChan c f).hj = s.hj := rfl
@[simp] theorem State.updChan_edge (s : State) (c : Nat) (f : ChanSt → ChanSt) : (s.updChan c f).edge = s.edge := rfl
@[simp] theorem State.updChan_lineHi (s : State) (c : Nat) (f : ChanSt → ChanSt) : (s.updChan c f).lineHi = s.lineHi := rfl
@[simp] theorem State.updChan_gateOff (s : State) (c : Nat) (f : ChanSt → ChanSt) : (s.updChan c f).gateOff = s.gateOff := rfl
@[simp] theorem State.updChan_pins (s : State) (c : Nat) (f : ChanSt → ChanSt) : (s.updChan c f).pins = s.pins := rfl
@[simp] theorem State.updChan_padExt (s : State) (c : Nat) (f : ChanSt → ChanSt) : (s.updChan c f).padExt = s.padExt := rfl
@[simp] theorem State.updChan_retKey (s : State) (c : Nat) (f : ChanSt → ChanSt) : (s.updChan c f).retKey = s.retKey := rfl
@[simp] theorem State.updChan_frameCrcs (s : State) (c : Nat) (f : ChanSt → ChanSt) : (s.updChan c f).frameCrcs = s.frameCrcs := rfl
@[simp] theorem State.updChan_prnExcl (s : State) (c : Nat) (f : ChanSt → ChanSt) : (s.updChan c f).prnExcl = s.prnExcl := rfl

/-! ## updBay changes bays -/

@[simp] theorem State.updBay_pending (s : State) (b : Nat) (f : BaySt → BaySt) : (s.updBay b f).pending = s.pending := rfl
@[simp] theorem State.updBay_por (s : State) (b : Nat) (f : BaySt → BaySt) : (s.updBay b f).por = s.por := rfl
@[simp] theorem State.updBay_ticks (s : State) (b : Nat) (f : BaySt → BaySt) : (s.updBay b f).ticks = s.ticks := rfl
@[simp] theorem State.updBay_fresh (s : State) (b : Nat) (f : BaySt → BaySt) : (s.updBay b f).fresh = s.fresh := rfl
@[simp] theorem State.updBay_regs (s : State) (b : Nat) (f : BaySt → BaySt) : (s.updBay b f).regs = s.regs := rfl
@[simp] theorem State.updBay_latches (s : State) (b : Nat) (f : BaySt → BaySt) : (s.updBay b f).latches = s.latches := rfl
@[simp] theorem State.updBay_holds (s : State) (b : Nat) (f : BaySt → BaySt) : (s.updBay b f).holds = s.holds := rfl
@[simp] theorem State.updBay_bus (s : State) (b : Nat) (f : BaySt → BaySt) : (s.updBay b f).bus = s.bus := rfl
@[simp] theorem State.updBay_out (s : State) (b : Nat) (f : BaySt → BaySt) : (s.updBay b f).out = s.out := rfl
@[simp] theorem State.updBay_heldOut (s : State) (b : Nat) (f : BaySt → BaySt) : (s.updBay b f).heldOut = s.heldOut := rfl
@[simp] theorem State.updBay_fns (s : State) (b : Nat) (f : BaySt → BaySt) : (s.updBay b f).fns = s.fns := rfl
@[simp] theorem State.updBay_ctxs (s : State) (b : Nat) (f : BaySt → BaySt) : (s.updBay b f).ctxs = s.ctxs := rfl
@[simp] theorem State.updBay_clks (s : State) (b : Nat) (f : BaySt → BaySt) : (s.updBay b f).clks = s.clks := rfl
@[simp] theorem State.updBay_agents (s : State) (b : Nat) (f : BaySt → BaySt) : (s.updBay b f).agents = s.agents := rfl
@[simp] theorem State.updBay_reports (s : State) (b : Nat) (f : BaySt → BaySt) : (s.updBay b f).reports = s.reports := rfl
@[simp] theorem State.updBay_engs (s : State) (b : Nat) (f : BaySt → BaySt) : (s.updBay b f).engs = s.engs := rfl
@[simp] theorem State.updBay_bays (s : State) (b : Nat) (f : BaySt → BaySt) : (s.updBay b f).bays = Table.upd BaySt.reset s.bays b f := rfl
@[simp] theorem State.updBay_fcc (s : State) (b : Nat) (f : BaySt → BaySt) : (s.updBay b f).fcc = s.fcc := rfl
@[simp] theorem State.updBay_chans (s : State) (b : Nat) (f : BaySt → BaySt) : (s.updBay b f).chans = s.chans := rfl
@[simp] theorem State.updBay_ssgs (s : State) (b : Nat) (f : BaySt → BaySt) : (s.updBay b f).ssgs = s.ssgs := rfl
@[simp] theorem State.updBay_seqMem (s : State) (b : Nat) (f : BaySt → BaySt) : (s.updBay b f).seqMem = s.seqMem := rfl
@[simp] theorem State.updBay_seqUnread (s : State) (b : Nat) (f : BaySt → BaySt) : (s.updBay b f).seqUnread = s.seqUnread := rfl
@[simp] theorem State.updBay_seqPos (s : State) (b : Nat) (f : BaySt → BaySt) : (s.updBay b f).seqPos = s.seqPos := rfl
@[simp] theorem State.updBay_fsets (s : State) (b : Nat) (f : BaySt → BaySt) : (s.updBay b f).fsets = s.fsets := rfl
@[simp] theorem State.updBay_lmaps (s : State) (b : Nat) (f : BaySt → BaySt) : (s.updBay b f).lmaps = s.lmaps := rfl
@[simp] theorem State.updBay_scr (s : State) (b : Nat) (f : BaySt → BaySt) : (s.updBay b f).scr = s.scr := rfl
@[simp] theorem State.updBay_tsets (s : State) (b : Nat) (f : BaySt → BaySt) : (s.updBay b f).tsets = s.tsets := rfl
@[simp] theorem State.updBay_calRecs (s : State) (b : Nat) (f : BaySt → BaySt) : (s.updBay b f).calRecs = s.calRecs := rfl
@[simp] theorem State.updBay_ports (s : State) (b : Nat) (f : BaySt → BaySt) : (s.updBay b f).ports = s.ports := rfl
@[simp] theorem State.updBay_bankMem (s : State) (b : Nat) (f : BaySt → BaySt) : (s.updBay b f).bankMem = s.bankMem := rfl
@[simp] theorem State.updBay_banks (s : State) (b : Nat) (f : BaySt → BaySt) : (s.updBay b f).banks = s.banks := rfl
@[simp] theorem State.updBay_dram (s : State) (b : Nat) (f : BaySt → BaySt) : (s.updBay b f).dram = s.dram := rfl
@[simp] theorem State.updBay_poison (s : State) (b : Nat) (f : BaySt → BaySt) : (s.updBay b f).poison = s.poison := rfl
@[simp] theorem State.updBay_startFold (s : State) (b : Nat) (f : BaySt → BaySt) : (s.updBay b f).startFold = s.startFold := rfl
@[simp] theorem State.updBay_restoring (s : State) (b : Nat) (f : BaySt → BaySt) : (s.updBay b f).restoring = s.restoring := rfl
@[simp] theorem State.updBay_dmcs (s : State) (b : Nat) (f : BaySt → BaySt) : (s.updBay b f).dmcs = s.dmcs := rfl
@[simp] theorem State.updBay_tb (s : State) (b : Nat) (f : BaySt → BaySt) : (s.updBay b f).tb = s.tb := rfl
@[simp] theorem State.updBay_trcs (s : State) (b : Nat) (f : BaySt → BaySt) : (s.updBay b f).trcs = s.trcs := rfl
@[simp] theorem State.updBay_sups (s : State) (b : Nat) (f : BaySt → BaySt) : (s.updBay b f).sups = s.sups := rfl
@[simp] theorem State.updBay_vccCh (s : State) (b : Nat) (f : BaySt → BaySt) : (s.updBay b f).vccCh = s.vccCh := rfl
@[simp] theorem State.updBay_drives (s : State) (b : Nat) (f : BaySt → BaySt) : (s.updBay b f).drives = s.drives := rfl
@[simp] theorem State.updBay_hbMiss (s : State) (b : Nat) (f : BaySt → BaySt) : (s.updBay b f).hbMiss = s.hbMiss := rfl
@[simp] theorem State.updBay_ownEp (s : State) (b : Nat) (f : BaySt → BaySt) : (s.updBay b f).ownEp = s.ownEp := rfl
@[simp] theorem State.updBay_talk (s : State) (b : Nat) (f : BaySt → BaySt) : (s.updBay b f).talk = s.talk := rfl
@[simp] theorem State.updBay_substs (s : State) (b : Nat) (f : BaySt → BaySt) : (s.updBay b f).substs = s.substs := rfl
@[simp] theorem State.updBay_snap (s : State) (b : Nat) (f : BaySt → BaySt) : (s.updBay b f).snap = s.snap := rfl
@[simp] theorem State.updBay_time (s : State) (b : Nat) (f : BaySt → BaySt) : (s.updBay b f).time = s.time := rfl
@[simp] theorem State.updBay_hostReady (s : State) (b : Nat) (f : BaySt → BaySt) : (s.updBay b f).hostReady = s.hostReady := rfl
@[simp] theorem State.updBay_nis (s : State) (b : Nat) (f : BaySt → BaySt) : (s.updBay b f).nis = s.nis := rfl
@[simp] theorem State.updBay_flights (s : State) (b : Nat) (f : BaySt → BaySt) : (s.updBay b f).flights = s.flights := rfl
@[simp] theorem State.updBay_routes (s : State) (b : Nat) (f : BaySt → BaySt) : (s.updBay b f).routes = s.routes := rfl
@[simp] theorem State.updBay_dirc (s : State) (b : Nat) (f : BaySt → BaySt) : (s.updBay b f).dirc = s.dirc := rfl
@[simp] theorem State.updBay_bankJoins (s : State) (b : Nat) (f : BaySt → BaySt) : (s.updBay b f).bankJoins = s.bankJoins := rfl
@[simp] theorem State.updBay_joinNo (s : State) (b : Nat) (f : BaySt → BaySt) : (s.updBay b f).joinNo = s.joinNo := rfl
@[simp] theorem State.updBay_homes (s : State) (b : Nat) (f : BaySt → BaySt) : (s.updBay b f).homes = s.homes := rfl
@[simp] theorem State.updBay_fabHeld (s : State) (b : Nat) (f : BaySt → BaySt) : (s.updBay b f).fabHeld = s.fabHeld := rfl
@[simp] theorem State.updBay_bankUe (s : State) (b : Nat) (f : BaySt → BaySt) : (s.updBay b f).bankUe = s.bankUe := rfl
@[simp] theorem State.updBay_fcfg (s : State) (b : Nat) (f : BaySt → BaySt) : (s.updBay b f).fcfg = s.fcfg := rfl
@[simp] theorem State.updBay_bramInit (s : State) (b : Nat) (f : BaySt → BaySt) : (s.updBay b f).bramInit = s.bramInit := rfl
@[simp] theorem State.updBay_bramX (s : State) (b : Nat) (f : BaySt → BaySt) : (s.updBay b f).bramX = s.bramX := rfl
@[simp] theorem State.updBay_ffX (s : State) (b : Nat) (f : BaySt → BaySt) : (s.updBay b f).ffX = s.ffX := rfl
@[simp] theorem State.updBay_brams (s : State) (b : Nat) (f : BaySt → BaySt) : (s.updBay b f).brams = s.brams := rfl
@[simp] theorem State.updBay_slices (s : State) (b : Nat) (f : BaySt → BaySt) : (s.updBay b f).slices = s.slices := rfl
@[simp] theorem State.updBay_ios (s : State) (b : Nat) (f : BaySt → BaySt) : (s.updBay b f).ios = s.ios := rfl
@[simp] theorem State.updBay_ghWait (s : State) (b : Nat) (f : BaySt → BaySt) : (s.updBay b f).ghWait = s.ghWait := rfl
@[simp] theorem State.updBay_fcgs (s : State) (b : Nat) (f : BaySt → BaySt) : (s.updBay b f).fcgs = s.fcgs := rfl
@[simp] theorem State.updBay_load (s : State) (b : Nat) (f : BaySt → BaySt) : (s.updBay b f).load = s.load := rfl
@[simp] theorem State.updBay_fuses (s : State) (b : Nat) (f : BaySt → BaySt) : (s.updBay b f).fuses = s.fuses := rfl
@[simp] theorem State.updBay_svn (s : State) (b : Nat) (f : BaySt → BaySt) : (s.updBay b f).svn = s.svn := rfl
@[simp] theorem State.updBay_fuseArm (s : State) (b : Nat) (f : BaySt → BaySt) : (s.updBay b f).fuseArm = s.fuseArm := rfl
@[simp] theorem State.updBay_boot (s : State) (b : Nat) (f : BaySt → BaySt) : (s.updBay b f).boot = s.boot := rfl
@[simp] theorem State.updBay_strapOver (s : State) (b : Nat) (f : BaySt → BaySt) : (s.updBay b f).strapOver = s.strapOver := rfl
@[simp] theorem State.updBay_attest (s : State) (b : Nat) (f : BaySt → BaySt) : (s.updBay b f).attest = s.attest := rfl
@[simp] theorem State.updBay_report (s : State) (b : Nat) (f : BaySt → BaySt) : (s.updBay b f).report = s.report := rfl
@[simp] theorem State.updBay_cfgMeas (s : State) (b : Nat) (f : BaySt → BaySt) : (s.updBay b f).cfgMeas = s.cfgMeas := rfl
@[simp] theorem State.updBay_prChain (s : State) (b : Nat) (f : BaySt → BaySt) : (s.updBay b f).prChain = s.prChain := rfl
@[simp] theorem State.updBay_vcore (s : State) (b : Nat) (f : BaySt → BaySt) : (s.updBay b f).vcore = s.vcore := rfl
@[simp] theorem State.updBay_hj (s : State) (b : Nat) (f : BaySt → BaySt) : (s.updBay b f).hj = s.hj := rfl
@[simp] theorem State.updBay_edge (s : State) (b : Nat) (f : BaySt → BaySt) : (s.updBay b f).edge = s.edge := rfl
@[simp] theorem State.updBay_lineHi (s : State) (b : Nat) (f : BaySt → BaySt) : (s.updBay b f).lineHi = s.lineHi := rfl
@[simp] theorem State.updBay_gateOff (s : State) (b : Nat) (f : BaySt → BaySt) : (s.updBay b f).gateOff = s.gateOff := rfl
@[simp] theorem State.updBay_pins (s : State) (b : Nat) (f : BaySt → BaySt) : (s.updBay b f).pins = s.pins := rfl
@[simp] theorem State.updBay_padExt (s : State) (b : Nat) (f : BaySt → BaySt) : (s.updBay b f).padExt = s.padExt := rfl
@[simp] theorem State.updBay_retKey (s : State) (b : Nat) (f : BaySt → BaySt) : (s.updBay b f).retKey = s.retKey := rfl
@[simp] theorem State.updBay_frameCrcs (s : State) (b : Nat) (f : BaySt → BaySt) : (s.updBay b f).frameCrcs = s.frameCrcs := rfl
@[simp] theorem State.updBay_prnExcl (s : State) (b : Nat) (f : BaySt → BaySt) : (s.updBay b f).prnExcl = s.prnExcl := rfl

/-! ## bankWrite changes bankMem -/

@[simp] theorem State.bankWrite_pending (s : State) (h a n v : Nat) : (s.bankWrite h a n v).pending = s.pending := rfl
@[simp] theorem State.bankWrite_por (s : State) (h a n v : Nat) : (s.bankWrite h a n v).por = s.por := rfl
@[simp] theorem State.bankWrite_ticks (s : State) (h a n v : Nat) : (s.bankWrite h a n v).ticks = s.ticks := rfl
@[simp] theorem State.bankWrite_fresh (s : State) (h a n v : Nat) : (s.bankWrite h a n v).fresh = s.fresh := rfl
@[simp] theorem State.bankWrite_regs (s : State) (h a n v : Nat) : (s.bankWrite h a n v).regs = s.regs := rfl
@[simp] theorem State.bankWrite_latches (s : State) (h a n v : Nat) : (s.bankWrite h a n v).latches = s.latches := rfl
@[simp] theorem State.bankWrite_holds (s : State) (h a n v : Nat) : (s.bankWrite h a n v).holds = s.holds := rfl
@[simp] theorem State.bankWrite_bus (s : State) (h a n v : Nat) : (s.bankWrite h a n v).bus = s.bus := rfl
@[simp] theorem State.bankWrite_out (s : State) (h a n v : Nat) : (s.bankWrite h a n v).out = s.out := rfl
@[simp] theorem State.bankWrite_heldOut (s : State) (h a n v : Nat) : (s.bankWrite h a n v).heldOut = s.heldOut := rfl
@[simp] theorem State.bankWrite_fns (s : State) (h a n v : Nat) : (s.bankWrite h a n v).fns = s.fns := rfl
@[simp] theorem State.bankWrite_ctxs (s : State) (h a n v : Nat) : (s.bankWrite h a n v).ctxs = s.ctxs := rfl
@[simp] theorem State.bankWrite_clks (s : State) (h a n v : Nat) : (s.bankWrite h a n v).clks = s.clks := rfl
@[simp] theorem State.bankWrite_agents (s : State) (h a n v : Nat) : (s.bankWrite h a n v).agents = s.agents := rfl
@[simp] theorem State.bankWrite_reports (s : State) (h a n v : Nat) : (s.bankWrite h a n v).reports = s.reports := rfl
@[simp] theorem State.bankWrite_engs (s : State) (h a n v : Nat) : (s.bankWrite h a n v).engs = s.engs := rfl
@[simp] theorem State.bankWrite_bays (s : State) (h a n v : Nat) : (s.bankWrite h a n v).bays = s.bays := rfl
@[simp] theorem State.bankWrite_fcc (s : State) (h a n v : Nat) : (s.bankWrite h a n v).fcc = s.fcc := rfl
@[simp] theorem State.bankWrite_chans (s : State) (h a n v : Nat) : (s.bankWrite h a n v).chans = s.chans := rfl
@[simp] theorem State.bankWrite_ssgs (s : State) (h a n v : Nat) : (s.bankWrite h a n v).ssgs = s.ssgs := rfl
@[simp] theorem State.bankWrite_seqMem (s : State) (h a n v : Nat) : (s.bankWrite h a n v).seqMem = s.seqMem := rfl
@[simp] theorem State.bankWrite_seqUnread (s : State) (h a n v : Nat) : (s.bankWrite h a n v).seqUnread = s.seqUnread := rfl
@[simp] theorem State.bankWrite_seqPos (s : State) (h a n v : Nat) : (s.bankWrite h a n v).seqPos = s.seqPos := rfl
@[simp] theorem State.bankWrite_fsets (s : State) (h a n v : Nat) : (s.bankWrite h a n v).fsets = s.fsets := rfl
@[simp] theorem State.bankWrite_lmaps (s : State) (h a n v : Nat) : (s.bankWrite h a n v).lmaps = s.lmaps := rfl
@[simp] theorem State.bankWrite_scr (s : State) (h a n v : Nat) : (s.bankWrite h a n v).scr = s.scr := rfl
@[simp] theorem State.bankWrite_tsets (s : State) (h a n v : Nat) : (s.bankWrite h a n v).tsets = s.tsets := rfl
@[simp] theorem State.bankWrite_calRecs (s : State) (h a n v : Nat) : (s.bankWrite h a n v).calRecs = s.calRecs := rfl
@[simp] theorem State.bankWrite_ports (s : State) (h a n v : Nat) : (s.bankWrite h a n v).ports = s.ports := rfl
@[simp] theorem State.bankWrite_bankMem (s : State) (h a n v : Nat) : (s.bankWrite h a n v).bankMem = Memory.writeN s.bankMem (bankKey h a) n v := rfl
@[simp] theorem State.bankWrite_banks (s : State) (h a n v : Nat) : (s.bankWrite h a n v).banks = s.banks := rfl
@[simp] theorem State.bankWrite_dram (s : State) (h a n v : Nat) : (s.bankWrite h a n v).dram = s.dram := rfl
@[simp] theorem State.bankWrite_poison (s : State) (h a n v : Nat) : (s.bankWrite h a n v).poison = s.poison := rfl
@[simp] theorem State.bankWrite_startFold (s : State) (h a n v : Nat) : (s.bankWrite h a n v).startFold = s.startFold := rfl
@[simp] theorem State.bankWrite_restoring (s : State) (h a n v : Nat) : (s.bankWrite h a n v).restoring = s.restoring := rfl
@[simp] theorem State.bankWrite_dmcs (s : State) (h a n v : Nat) : (s.bankWrite h a n v).dmcs = s.dmcs := rfl
@[simp] theorem State.bankWrite_tb (s : State) (h a n v : Nat) : (s.bankWrite h a n v).tb = s.tb := rfl
@[simp] theorem State.bankWrite_trcs (s : State) (h a n v : Nat) : (s.bankWrite h a n v).trcs = s.trcs := rfl
@[simp] theorem State.bankWrite_sups (s : State) (h a n v : Nat) : (s.bankWrite h a n v).sups = s.sups := rfl
@[simp] theorem State.bankWrite_vccCh (s : State) (h a n v : Nat) : (s.bankWrite h a n v).vccCh = s.vccCh := rfl
@[simp] theorem State.bankWrite_drives (s : State) (h a n v : Nat) : (s.bankWrite h a n v).drives = s.drives := rfl
@[simp] theorem State.bankWrite_hbMiss (s : State) (h a n v : Nat) : (s.bankWrite h a n v).hbMiss = s.hbMiss := rfl
@[simp] theorem State.bankWrite_ownEp (s : State) (h a n v : Nat) : (s.bankWrite h a n v).ownEp = s.ownEp := rfl
@[simp] theorem State.bankWrite_talk (s : State) (h a n v : Nat) : (s.bankWrite h a n v).talk = s.talk := rfl
@[simp] theorem State.bankWrite_substs (s : State) (h a n v : Nat) : (s.bankWrite h a n v).substs = s.substs := rfl
@[simp] theorem State.bankWrite_snap (s : State) (h a n v : Nat) : (s.bankWrite h a n v).snap = s.snap := rfl
@[simp] theorem State.bankWrite_time (s : State) (h a n v : Nat) : (s.bankWrite h a n v).time = s.time := rfl
@[simp] theorem State.bankWrite_hostReady (s : State) (h a n v : Nat) : (s.bankWrite h a n v).hostReady = s.hostReady := rfl
@[simp] theorem State.bankWrite_nis (s : State) (h a n v : Nat) : (s.bankWrite h a n v).nis = s.nis := rfl
@[simp] theorem State.bankWrite_flights (s : State) (h a n v : Nat) : (s.bankWrite h a n v).flights = s.flights := rfl
@[simp] theorem State.bankWrite_routes (s : State) (h a n v : Nat) : (s.bankWrite h a n v).routes = s.routes := rfl
@[simp] theorem State.bankWrite_dirc (s : State) (h a n v : Nat) : (s.bankWrite h a n v).dirc = s.dirc := rfl
@[simp] theorem State.bankWrite_bankJoins (s : State) (h a n v : Nat) : (s.bankWrite h a n v).bankJoins = s.bankJoins := rfl
@[simp] theorem State.bankWrite_joinNo (s : State) (h a n v : Nat) : (s.bankWrite h a n v).joinNo = s.joinNo := rfl
@[simp] theorem State.bankWrite_homes (s : State) (h a n v : Nat) : (s.bankWrite h a n v).homes = s.homes := rfl
@[simp] theorem State.bankWrite_fabHeld (s : State) (h a n v : Nat) : (s.bankWrite h a n v).fabHeld = s.fabHeld := rfl
@[simp] theorem State.bankWrite_bankUe (s : State) (h a n v : Nat) : (s.bankWrite h a n v).bankUe = s.bankUe := rfl
@[simp] theorem State.bankWrite_fcfg (s : State) (h a n v : Nat) : (s.bankWrite h a n v).fcfg = s.fcfg := rfl
@[simp] theorem State.bankWrite_bramInit (s : State) (h a n v : Nat) : (s.bankWrite h a n v).bramInit = s.bramInit := rfl
@[simp] theorem State.bankWrite_bramX (s : State) (h a n v : Nat) : (s.bankWrite h a n v).bramX = s.bramX := rfl
@[simp] theorem State.bankWrite_ffX (s : State) (h a n v : Nat) : (s.bankWrite h a n v).ffX = s.ffX := rfl
@[simp] theorem State.bankWrite_brams (s : State) (h a n v : Nat) : (s.bankWrite h a n v).brams = s.brams := rfl
@[simp] theorem State.bankWrite_slices (s : State) (h a n v : Nat) : (s.bankWrite h a n v).slices = s.slices := rfl
@[simp] theorem State.bankWrite_ios (s : State) (h a n v : Nat) : (s.bankWrite h a n v).ios = s.ios := rfl
@[simp] theorem State.bankWrite_ghWait (s : State) (h a n v : Nat) : (s.bankWrite h a n v).ghWait = s.ghWait := rfl
@[simp] theorem State.bankWrite_fcgs (s : State) (h a n v : Nat) : (s.bankWrite h a n v).fcgs = s.fcgs := rfl
@[simp] theorem State.bankWrite_load (s : State) (h a n v : Nat) : (s.bankWrite h a n v).load = s.load := rfl
@[simp] theorem State.bankWrite_fuses (s : State) (h a n v : Nat) : (s.bankWrite h a n v).fuses = s.fuses := rfl
@[simp] theorem State.bankWrite_svn (s : State) (h a n v : Nat) : (s.bankWrite h a n v).svn = s.svn := rfl
@[simp] theorem State.bankWrite_fuseArm (s : State) (h a n v : Nat) : (s.bankWrite h a n v).fuseArm = s.fuseArm := rfl
@[simp] theorem State.bankWrite_boot (s : State) (h a n v : Nat) : (s.bankWrite h a n v).boot = s.boot := rfl
@[simp] theorem State.bankWrite_strapOver (s : State) (h a n v : Nat) : (s.bankWrite h a n v).strapOver = s.strapOver := rfl
@[simp] theorem State.bankWrite_attest (s : State) (h a n v : Nat) : (s.bankWrite h a n v).attest = s.attest := rfl
@[simp] theorem State.bankWrite_report (s : State) (h a n v : Nat) : (s.bankWrite h a n v).report = s.report := rfl
@[simp] theorem State.bankWrite_cfgMeas (s : State) (h a n v : Nat) : (s.bankWrite h a n v).cfgMeas = s.cfgMeas := rfl
@[simp] theorem State.bankWrite_prChain (s : State) (h a n v : Nat) : (s.bankWrite h a n v).prChain = s.prChain := rfl
@[simp] theorem State.bankWrite_vcore (s : State) (h a n v : Nat) : (s.bankWrite h a n v).vcore = s.vcore := rfl
@[simp] theorem State.bankWrite_hj (s : State) (h a n v : Nat) : (s.bankWrite h a n v).hj = s.hj := rfl
@[simp] theorem State.bankWrite_edge (s : State) (h a n v : Nat) : (s.bankWrite h a n v).edge = s.edge := rfl
@[simp] theorem State.bankWrite_lineHi (s : State) (h a n v : Nat) : (s.bankWrite h a n v).lineHi = s.lineHi := rfl
@[simp] theorem State.bankWrite_gateOff (s : State) (h a n v : Nat) : (s.bankWrite h a n v).gateOff = s.gateOff := rfl
@[simp] theorem State.bankWrite_pins (s : State) (h a n v : Nat) : (s.bankWrite h a n v).pins = s.pins := rfl
@[simp] theorem State.bankWrite_padExt (s : State) (h a n v : Nat) : (s.bankWrite h a n v).padExt = s.padExt := rfl
@[simp] theorem State.bankWrite_retKey (s : State) (h a n v : Nat) : (s.bankWrite h a n v).retKey = s.retKey := rfl
@[simp] theorem State.bankWrite_frameCrcs (s : State) (h a n v : Nat) : (s.bankWrite h a n v).frameCrcs = s.frameCrcs := rfl
@[simp] theorem State.bankWrite_prnExcl (s : State) (h a n v : Nat) : (s.bankWrite h a n v).prnExcl = s.prnExcl := rfl

/-! ## dramWrite changes dram -/

@[simp] theorem State.dramWrite_pending (s : State) (h a n v : Nat) : (s.dramWrite h a n v).pending = s.pending := rfl
@[simp] theorem State.dramWrite_por (s : State) (h a n v : Nat) : (s.dramWrite h a n v).por = s.por := rfl
@[simp] theorem State.dramWrite_ticks (s : State) (h a n v : Nat) : (s.dramWrite h a n v).ticks = s.ticks := rfl
@[simp] theorem State.dramWrite_fresh (s : State) (h a n v : Nat) : (s.dramWrite h a n v).fresh = s.fresh := rfl
@[simp] theorem State.dramWrite_regs (s : State) (h a n v : Nat) : (s.dramWrite h a n v).regs = s.regs := rfl
@[simp] theorem State.dramWrite_latches (s : State) (h a n v : Nat) : (s.dramWrite h a n v).latches = s.latches := rfl
@[simp] theorem State.dramWrite_holds (s : State) (h a n v : Nat) : (s.dramWrite h a n v).holds = s.holds := rfl
@[simp] theorem State.dramWrite_bus (s : State) (h a n v : Nat) : (s.dramWrite h a n v).bus = s.bus := rfl
@[simp] theorem State.dramWrite_out (s : State) (h a n v : Nat) : (s.dramWrite h a n v).out = s.out := rfl
@[simp] theorem State.dramWrite_heldOut (s : State) (h a n v : Nat) : (s.dramWrite h a n v).heldOut = s.heldOut := rfl
@[simp] theorem State.dramWrite_fns (s : State) (h a n v : Nat) : (s.dramWrite h a n v).fns = s.fns := rfl
@[simp] theorem State.dramWrite_ctxs (s : State) (h a n v : Nat) : (s.dramWrite h a n v).ctxs = s.ctxs := rfl
@[simp] theorem State.dramWrite_clks (s : State) (h a n v : Nat) : (s.dramWrite h a n v).clks = s.clks := rfl
@[simp] theorem State.dramWrite_agents (s : State) (h a n v : Nat) : (s.dramWrite h a n v).agents = s.agents := rfl
@[simp] theorem State.dramWrite_reports (s : State) (h a n v : Nat) : (s.dramWrite h a n v).reports = s.reports := rfl
@[simp] theorem State.dramWrite_engs (s : State) (h a n v : Nat) : (s.dramWrite h a n v).engs = s.engs := rfl
@[simp] theorem State.dramWrite_bays (s : State) (h a n v : Nat) : (s.dramWrite h a n v).bays = s.bays := rfl
@[simp] theorem State.dramWrite_fcc (s : State) (h a n v : Nat) : (s.dramWrite h a n v).fcc = s.fcc := rfl
@[simp] theorem State.dramWrite_chans (s : State) (h a n v : Nat) : (s.dramWrite h a n v).chans = s.chans := rfl
@[simp] theorem State.dramWrite_ssgs (s : State) (h a n v : Nat) : (s.dramWrite h a n v).ssgs = s.ssgs := rfl
@[simp] theorem State.dramWrite_seqMem (s : State) (h a n v : Nat) : (s.dramWrite h a n v).seqMem = s.seqMem := rfl
@[simp] theorem State.dramWrite_seqUnread (s : State) (h a n v : Nat) : (s.dramWrite h a n v).seqUnread = s.seqUnread := rfl
@[simp] theorem State.dramWrite_seqPos (s : State) (h a n v : Nat) : (s.dramWrite h a n v).seqPos = s.seqPos := rfl
@[simp] theorem State.dramWrite_fsets (s : State) (h a n v : Nat) : (s.dramWrite h a n v).fsets = s.fsets := rfl
@[simp] theorem State.dramWrite_lmaps (s : State) (h a n v : Nat) : (s.dramWrite h a n v).lmaps = s.lmaps := rfl
@[simp] theorem State.dramWrite_scr (s : State) (h a n v : Nat) : (s.dramWrite h a n v).scr = s.scr := rfl
@[simp] theorem State.dramWrite_tsets (s : State) (h a n v : Nat) : (s.dramWrite h a n v).tsets = s.tsets := rfl
@[simp] theorem State.dramWrite_calRecs (s : State) (h a n v : Nat) : (s.dramWrite h a n v).calRecs = s.calRecs := rfl
@[simp] theorem State.dramWrite_ports (s : State) (h a n v : Nat) : (s.dramWrite h a n v).ports = s.ports := rfl
@[simp] theorem State.dramWrite_bankMem (s : State) (h a n v : Nat) : (s.dramWrite h a n v).bankMem = s.bankMem := rfl
@[simp] theorem State.dramWrite_banks (s : State) (h a n v : Nat) : (s.dramWrite h a n v).banks = s.banks := rfl
@[simp] theorem State.dramWrite_dram (s : State) (h a n v : Nat) : (s.dramWrite h a n v).dram = Memory.writeN s.dram (dramKey h a) n v := rfl
@[simp] theorem State.dramWrite_poison (s : State) (h a n v : Nat) : (s.dramWrite h a n v).poison = s.poison := rfl
@[simp] theorem State.dramWrite_startFold (s : State) (h a n v : Nat) : (s.dramWrite h a n v).startFold = s.startFold := rfl
@[simp] theorem State.dramWrite_restoring (s : State) (h a n v : Nat) : (s.dramWrite h a n v).restoring = s.restoring := rfl
@[simp] theorem State.dramWrite_dmcs (s : State) (h a n v : Nat) : (s.dramWrite h a n v).dmcs = s.dmcs := rfl
@[simp] theorem State.dramWrite_tb (s : State) (h a n v : Nat) : (s.dramWrite h a n v).tb = s.tb := rfl
@[simp] theorem State.dramWrite_trcs (s : State) (h a n v : Nat) : (s.dramWrite h a n v).trcs = s.trcs := rfl
@[simp] theorem State.dramWrite_sups (s : State) (h a n v : Nat) : (s.dramWrite h a n v).sups = s.sups := rfl
@[simp] theorem State.dramWrite_vccCh (s : State) (h a n v : Nat) : (s.dramWrite h a n v).vccCh = s.vccCh := rfl
@[simp] theorem State.dramWrite_drives (s : State) (h a n v : Nat) : (s.dramWrite h a n v).drives = s.drives := rfl
@[simp] theorem State.dramWrite_hbMiss (s : State) (h a n v : Nat) : (s.dramWrite h a n v).hbMiss = s.hbMiss := rfl
@[simp] theorem State.dramWrite_ownEp (s : State) (h a n v : Nat) : (s.dramWrite h a n v).ownEp = s.ownEp := rfl
@[simp] theorem State.dramWrite_talk (s : State) (h a n v : Nat) : (s.dramWrite h a n v).talk = s.talk := rfl
@[simp] theorem State.dramWrite_substs (s : State) (h a n v : Nat) : (s.dramWrite h a n v).substs = s.substs := rfl
@[simp] theorem State.dramWrite_snap (s : State) (h a n v : Nat) : (s.dramWrite h a n v).snap = s.snap := rfl
@[simp] theorem State.dramWrite_time (s : State) (h a n v : Nat) : (s.dramWrite h a n v).time = s.time := rfl
@[simp] theorem State.dramWrite_hostReady (s : State) (h a n v : Nat) : (s.dramWrite h a n v).hostReady = s.hostReady := rfl
@[simp] theorem State.dramWrite_nis (s : State) (h a n v : Nat) : (s.dramWrite h a n v).nis = s.nis := rfl
@[simp] theorem State.dramWrite_flights (s : State) (h a n v : Nat) : (s.dramWrite h a n v).flights = s.flights := rfl
@[simp] theorem State.dramWrite_routes (s : State) (h a n v : Nat) : (s.dramWrite h a n v).routes = s.routes := rfl
@[simp] theorem State.dramWrite_dirc (s : State) (h a n v : Nat) : (s.dramWrite h a n v).dirc = s.dirc := rfl
@[simp] theorem State.dramWrite_bankJoins (s : State) (h a n v : Nat) : (s.dramWrite h a n v).bankJoins = s.bankJoins := rfl
@[simp] theorem State.dramWrite_joinNo (s : State) (h a n v : Nat) : (s.dramWrite h a n v).joinNo = s.joinNo := rfl
@[simp] theorem State.dramWrite_homes (s : State) (h a n v : Nat) : (s.dramWrite h a n v).homes = s.homes := rfl
@[simp] theorem State.dramWrite_fabHeld (s : State) (h a n v : Nat) : (s.dramWrite h a n v).fabHeld = s.fabHeld := rfl
@[simp] theorem State.dramWrite_bankUe (s : State) (h a n v : Nat) : (s.dramWrite h a n v).bankUe = s.bankUe := rfl
@[simp] theorem State.dramWrite_fcfg (s : State) (h a n v : Nat) : (s.dramWrite h a n v).fcfg = s.fcfg := rfl
@[simp] theorem State.dramWrite_bramInit (s : State) (h a n v : Nat) : (s.dramWrite h a n v).bramInit = s.bramInit := rfl
@[simp] theorem State.dramWrite_bramX (s : State) (h a n v : Nat) : (s.dramWrite h a n v).bramX = s.bramX := rfl
@[simp] theorem State.dramWrite_ffX (s : State) (h a n v : Nat) : (s.dramWrite h a n v).ffX = s.ffX := rfl
@[simp] theorem State.dramWrite_brams (s : State) (h a n v : Nat) : (s.dramWrite h a n v).brams = s.brams := rfl
@[simp] theorem State.dramWrite_slices (s : State) (h a n v : Nat) : (s.dramWrite h a n v).slices = s.slices := rfl
@[simp] theorem State.dramWrite_ios (s : State) (h a n v : Nat) : (s.dramWrite h a n v).ios = s.ios := rfl
@[simp] theorem State.dramWrite_ghWait (s : State) (h a n v : Nat) : (s.dramWrite h a n v).ghWait = s.ghWait := rfl
@[simp] theorem State.dramWrite_fcgs (s : State) (h a n v : Nat) : (s.dramWrite h a n v).fcgs = s.fcgs := rfl
@[simp] theorem State.dramWrite_load (s : State) (h a n v : Nat) : (s.dramWrite h a n v).load = s.load := rfl
@[simp] theorem State.dramWrite_fuses (s : State) (h a n v : Nat) : (s.dramWrite h a n v).fuses = s.fuses := rfl
@[simp] theorem State.dramWrite_svn (s : State) (h a n v : Nat) : (s.dramWrite h a n v).svn = s.svn := rfl
@[simp] theorem State.dramWrite_fuseArm (s : State) (h a n v : Nat) : (s.dramWrite h a n v).fuseArm = s.fuseArm := rfl
@[simp] theorem State.dramWrite_boot (s : State) (h a n v : Nat) : (s.dramWrite h a n v).boot = s.boot := rfl
@[simp] theorem State.dramWrite_strapOver (s : State) (h a n v : Nat) : (s.dramWrite h a n v).strapOver = s.strapOver := rfl
@[simp] theorem State.dramWrite_attest (s : State) (h a n v : Nat) : (s.dramWrite h a n v).attest = s.attest := rfl
@[simp] theorem State.dramWrite_report (s : State) (h a n v : Nat) : (s.dramWrite h a n v).report = s.report := rfl
@[simp] theorem State.dramWrite_cfgMeas (s : State) (h a n v : Nat) : (s.dramWrite h a n v).cfgMeas = s.cfgMeas := rfl
@[simp] theorem State.dramWrite_prChain (s : State) (h a n v : Nat) : (s.dramWrite h a n v).prChain = s.prChain := rfl
@[simp] theorem State.dramWrite_vcore (s : State) (h a n v : Nat) : (s.dramWrite h a n v).vcore = s.vcore := rfl
@[simp] theorem State.dramWrite_hj (s : State) (h a n v : Nat) : (s.dramWrite h a n v).hj = s.hj := rfl
@[simp] theorem State.dramWrite_edge (s : State) (h a n v : Nat) : (s.dramWrite h a n v).edge = s.edge := rfl
@[simp] theorem State.dramWrite_lineHi (s : State) (h a n v : Nat) : (s.dramWrite h a n v).lineHi = s.lineHi := rfl
@[simp] theorem State.dramWrite_gateOff (s : State) (h a n v : Nat) : (s.dramWrite h a n v).gateOff = s.gateOff := rfl
@[simp] theorem State.dramWrite_pins (s : State) (h a n v : Nat) : (s.dramWrite h a n v).pins = s.pins := rfl
@[simp] theorem State.dramWrite_padExt (s : State) (h a n v : Nat) : (s.dramWrite h a n v).padExt = s.padExt := rfl
@[simp] theorem State.dramWrite_retKey (s : State) (h a n v : Nat) : (s.dramWrite h a n v).retKey = s.retKey := rfl
@[simp] theorem State.dramWrite_frameCrcs (s : State) (h a n v : Nat) : (s.dramWrite h a n v).frameCrcs = s.frameCrcs := rfl
@[simp] theorem State.dramWrite_prnExcl (s : State) (h a n v : Nat) : (s.dramWrite h a n v).prnExcl = s.prnExcl := rfl

/-! ## setLatch changes latches -/

@[simp] theorem State.setLatch_pending (s : State) (r : Req) (f : Latch → Latch) : (s.setLatch r f).pending = s.pending := rfl
@[simp] theorem State.setLatch_por (s : State) (r : Req) (f : Latch → Latch) : (s.setLatch r f).por = s.por := rfl
@[simp] theorem State.setLatch_ticks (s : State) (r : Req) (f : Latch → Latch) : (s.setLatch r f).ticks = s.ticks := rfl
@[simp] theorem State.setLatch_fresh (s : State) (r : Req) (f : Latch → Latch) : (s.setLatch r f).fresh = s.fresh := rfl
@[simp] theorem State.setLatch_regs (s : State) (r : Req) (f : Latch → Latch) : (s.setLatch r f).regs = s.regs := rfl
@[simp] theorem State.setLatch_latches (s : State) (r : Req) (f : Latch → Latch) : (s.setLatch r f).latches = Table.upd Latch.reset s.latches (reqCode r) f := rfl
@[simp] theorem State.setLatch_holds (s : State) (r : Req) (f : Latch → Latch) : (s.setLatch r f).holds = s.holds := rfl
@[simp] theorem State.setLatch_bus (s : State) (r : Req) (f : Latch → Latch) : (s.setLatch r f).bus = s.bus := rfl
@[simp] theorem State.setLatch_out (s : State) (r : Req) (f : Latch → Latch) : (s.setLatch r f).out = s.out := rfl
@[simp] theorem State.setLatch_heldOut (s : State) (r : Req) (f : Latch → Latch) : (s.setLatch r f).heldOut = s.heldOut := rfl
@[simp] theorem State.setLatch_fns (s : State) (r : Req) (f : Latch → Latch) : (s.setLatch r f).fns = s.fns := rfl
@[simp] theorem State.setLatch_ctxs (s : State) (r : Req) (f : Latch → Latch) : (s.setLatch r f).ctxs = s.ctxs := rfl
@[simp] theorem State.setLatch_clks (s : State) (r : Req) (f : Latch → Latch) : (s.setLatch r f).clks = s.clks := rfl
@[simp] theorem State.setLatch_agents (s : State) (r : Req) (f : Latch → Latch) : (s.setLatch r f).agents = s.agents := rfl
@[simp] theorem State.setLatch_reports (s : State) (r : Req) (f : Latch → Latch) : (s.setLatch r f).reports = s.reports := rfl
@[simp] theorem State.setLatch_engs (s : State) (r : Req) (f : Latch → Latch) : (s.setLatch r f).engs = s.engs := rfl
@[simp] theorem State.setLatch_bays (s : State) (r : Req) (f : Latch → Latch) : (s.setLatch r f).bays = s.bays := rfl
@[simp] theorem State.setLatch_fcc (s : State) (r : Req) (f : Latch → Latch) : (s.setLatch r f).fcc = s.fcc := rfl
@[simp] theorem State.setLatch_chans (s : State) (r : Req) (f : Latch → Latch) : (s.setLatch r f).chans = s.chans := rfl
@[simp] theorem State.setLatch_ssgs (s : State) (r : Req) (f : Latch → Latch) : (s.setLatch r f).ssgs = s.ssgs := rfl
@[simp] theorem State.setLatch_seqMem (s : State) (r : Req) (f : Latch → Latch) : (s.setLatch r f).seqMem = s.seqMem := rfl
@[simp] theorem State.setLatch_seqUnread (s : State) (r : Req) (f : Latch → Latch) : (s.setLatch r f).seqUnread = s.seqUnread := rfl
@[simp] theorem State.setLatch_seqPos (s : State) (r : Req) (f : Latch → Latch) : (s.setLatch r f).seqPos = s.seqPos := rfl
@[simp] theorem State.setLatch_fsets (s : State) (r : Req) (f : Latch → Latch) : (s.setLatch r f).fsets = s.fsets := rfl
@[simp] theorem State.setLatch_lmaps (s : State) (r : Req) (f : Latch → Latch) : (s.setLatch r f).lmaps = s.lmaps := rfl
@[simp] theorem State.setLatch_scr (s : State) (r : Req) (f : Latch → Latch) : (s.setLatch r f).scr = s.scr := rfl
@[simp] theorem State.setLatch_tsets (s : State) (r : Req) (f : Latch → Latch) : (s.setLatch r f).tsets = s.tsets := rfl
@[simp] theorem State.setLatch_calRecs (s : State) (r : Req) (f : Latch → Latch) : (s.setLatch r f).calRecs = s.calRecs := rfl
@[simp] theorem State.setLatch_ports (s : State) (r : Req) (f : Latch → Latch) : (s.setLatch r f).ports = s.ports := rfl
@[simp] theorem State.setLatch_bankMem (s : State) (r : Req) (f : Latch → Latch) : (s.setLatch r f).bankMem = s.bankMem := rfl
@[simp] theorem State.setLatch_banks (s : State) (r : Req) (f : Latch → Latch) : (s.setLatch r f).banks = s.banks := rfl
@[simp] theorem State.setLatch_dram (s : State) (r : Req) (f : Latch → Latch) : (s.setLatch r f).dram = s.dram := rfl
@[simp] theorem State.setLatch_poison (s : State) (r : Req) (f : Latch → Latch) : (s.setLatch r f).poison = s.poison := rfl
@[simp] theorem State.setLatch_startFold (s : State) (r : Req) (f : Latch → Latch) : (s.setLatch r f).startFold = s.startFold := rfl
@[simp] theorem State.setLatch_restoring (s : State) (r : Req) (f : Latch → Latch) : (s.setLatch r f).restoring = s.restoring := rfl
@[simp] theorem State.setLatch_dmcs (s : State) (r : Req) (f : Latch → Latch) : (s.setLatch r f).dmcs = s.dmcs := rfl
@[simp] theorem State.setLatch_tb (s : State) (r : Req) (f : Latch → Latch) : (s.setLatch r f).tb = s.tb := rfl
@[simp] theorem State.setLatch_trcs (s : State) (r : Req) (f : Latch → Latch) : (s.setLatch r f).trcs = s.trcs := rfl
@[simp] theorem State.setLatch_sups (s : State) (r : Req) (f : Latch → Latch) : (s.setLatch r f).sups = s.sups := rfl
@[simp] theorem State.setLatch_vccCh (s : State) (r : Req) (f : Latch → Latch) : (s.setLatch r f).vccCh = s.vccCh := rfl
@[simp] theorem State.setLatch_drives (s : State) (r : Req) (f : Latch → Latch) : (s.setLatch r f).drives = s.drives := rfl
@[simp] theorem State.setLatch_hbMiss (s : State) (r : Req) (f : Latch → Latch) : (s.setLatch r f).hbMiss = s.hbMiss := rfl
@[simp] theorem State.setLatch_ownEp (s : State) (r : Req) (f : Latch → Latch) : (s.setLatch r f).ownEp = s.ownEp := rfl
@[simp] theorem State.setLatch_talk (s : State) (r : Req) (f : Latch → Latch) : (s.setLatch r f).talk = s.talk := rfl
@[simp] theorem State.setLatch_substs (s : State) (r : Req) (f : Latch → Latch) : (s.setLatch r f).substs = s.substs := rfl
@[simp] theorem State.setLatch_snap (s : State) (r : Req) (f : Latch → Latch) : (s.setLatch r f).snap = s.snap := rfl
@[simp] theorem State.setLatch_time (s : State) (r : Req) (f : Latch → Latch) : (s.setLatch r f).time = s.time := rfl
@[simp] theorem State.setLatch_hostReady (s : State) (r : Req) (f : Latch → Latch) : (s.setLatch r f).hostReady = s.hostReady := rfl
@[simp] theorem State.setLatch_nis (s : State) (r : Req) (f : Latch → Latch) : (s.setLatch r f).nis = s.nis := rfl
@[simp] theorem State.setLatch_flights (s : State) (r : Req) (f : Latch → Latch) : (s.setLatch r f).flights = s.flights := rfl
@[simp] theorem State.setLatch_routes (s : State) (r : Req) (f : Latch → Latch) : (s.setLatch r f).routes = s.routes := rfl
@[simp] theorem State.setLatch_dirc (s : State) (r : Req) (f : Latch → Latch) : (s.setLatch r f).dirc = s.dirc := rfl
@[simp] theorem State.setLatch_bankJoins (s : State) (r : Req) (f : Latch → Latch) : (s.setLatch r f).bankJoins = s.bankJoins := rfl
@[simp] theorem State.setLatch_joinNo (s : State) (r : Req) (f : Latch → Latch) : (s.setLatch r f).joinNo = s.joinNo := rfl
@[simp] theorem State.setLatch_homes (s : State) (r : Req) (f : Latch → Latch) : (s.setLatch r f).homes = s.homes := rfl
@[simp] theorem State.setLatch_fabHeld (s : State) (r : Req) (f : Latch → Latch) : (s.setLatch r f).fabHeld = s.fabHeld := rfl
@[simp] theorem State.setLatch_bankUe (s : State) (r : Req) (f : Latch → Latch) : (s.setLatch r f).bankUe = s.bankUe := rfl
@[simp] theorem State.setLatch_fcfg (s : State) (r : Req) (f : Latch → Latch) : (s.setLatch r f).fcfg = s.fcfg := rfl
@[simp] theorem State.setLatch_bramInit (s : State) (r : Req) (f : Latch → Latch) : (s.setLatch r f).bramInit = s.bramInit := rfl
@[simp] theorem State.setLatch_bramX (s : State) (r : Req) (f : Latch → Latch) : (s.setLatch r f).bramX = s.bramX := rfl
@[simp] theorem State.setLatch_ffX (s : State) (r : Req) (f : Latch → Latch) : (s.setLatch r f).ffX = s.ffX := rfl
@[simp] theorem State.setLatch_brams (s : State) (r : Req) (f : Latch → Latch) : (s.setLatch r f).brams = s.brams := rfl
@[simp] theorem State.setLatch_slices (s : State) (r : Req) (f : Latch → Latch) : (s.setLatch r f).slices = s.slices := rfl
@[simp] theorem State.setLatch_ios (s : State) (r : Req) (f : Latch → Latch) : (s.setLatch r f).ios = s.ios := rfl
@[simp] theorem State.setLatch_ghWait (s : State) (r : Req) (f : Latch → Latch) : (s.setLatch r f).ghWait = s.ghWait := rfl
@[simp] theorem State.setLatch_fcgs (s : State) (r : Req) (f : Latch → Latch) : (s.setLatch r f).fcgs = s.fcgs := rfl
@[simp] theorem State.setLatch_load (s : State) (r : Req) (f : Latch → Latch) : (s.setLatch r f).load = s.load := rfl
@[simp] theorem State.setLatch_fuses (s : State) (r : Req) (f : Latch → Latch) : (s.setLatch r f).fuses = s.fuses := rfl
@[simp] theorem State.setLatch_svn (s : State) (r : Req) (f : Latch → Latch) : (s.setLatch r f).svn = s.svn := rfl
@[simp] theorem State.setLatch_fuseArm (s : State) (r : Req) (f : Latch → Latch) : (s.setLatch r f).fuseArm = s.fuseArm := rfl
@[simp] theorem State.setLatch_boot (s : State) (r : Req) (f : Latch → Latch) : (s.setLatch r f).boot = s.boot := rfl
@[simp] theorem State.setLatch_strapOver (s : State) (r : Req) (f : Latch → Latch) : (s.setLatch r f).strapOver = s.strapOver := rfl
@[simp] theorem State.setLatch_attest (s : State) (r : Req) (f : Latch → Latch) : (s.setLatch r f).attest = s.attest := rfl
@[simp] theorem State.setLatch_report (s : State) (r : Req) (f : Latch → Latch) : (s.setLatch r f).report = s.report := rfl
@[simp] theorem State.setLatch_cfgMeas (s : State) (r : Req) (f : Latch → Latch) : (s.setLatch r f).cfgMeas = s.cfgMeas := rfl
@[simp] theorem State.setLatch_prChain (s : State) (r : Req) (f : Latch → Latch) : (s.setLatch r f).prChain = s.prChain := rfl
@[simp] theorem State.setLatch_vcore (s : State) (r : Req) (f : Latch → Latch) : (s.setLatch r f).vcore = s.vcore := rfl
@[simp] theorem State.setLatch_hj (s : State) (r : Req) (f : Latch → Latch) : (s.setLatch r f).hj = s.hj := rfl
@[simp] theorem State.setLatch_edge (s : State) (r : Req) (f : Latch → Latch) : (s.setLatch r f).edge = s.edge := rfl
@[simp] theorem State.setLatch_lineHi (s : State) (r : Req) (f : Latch → Latch) : (s.setLatch r f).lineHi = s.lineHi := rfl
@[simp] theorem State.setLatch_gateOff (s : State) (r : Req) (f : Latch → Latch) : (s.setLatch r f).gateOff = s.gateOff := rfl
@[simp] theorem State.setLatch_pins (s : State) (r : Req) (f : Latch → Latch) : (s.setLatch r f).pins = s.pins := rfl
@[simp] theorem State.setLatch_padExt (s : State) (r : Req) (f : Latch → Latch) : (s.setLatch r f).padExt = s.padExt := rfl
@[simp] theorem State.setLatch_retKey (s : State) (r : Req) (f : Latch → Latch) : (s.setLatch r f).retKey = s.retKey := rfl
@[simp] theorem State.setLatch_frameCrcs (s : State) (r : Req) (f : Latch → Latch) : (s.setLatch r f).frameCrcs = s.frameCrcs := rfl
@[simp] theorem State.setLatch_prnExcl (s : State) (r : Req) (f : Latch → Latch) : (s.setLatch r f).prnExcl = s.prnExcl := rfl

/-! ## setBus changes bus -/

@[simp] theorem State.setBus_pending (s : State) (r : Req) (v : Nat) : (s.setBus r v).pending = s.pending := rfl
@[simp] theorem State.setBus_por (s : State) (r : Req) (v : Nat) : (s.setBus r v).por = s.por := rfl
@[simp] theorem State.setBus_ticks (s : State) (r : Req) (v : Nat) : (s.setBus r v).ticks = s.ticks := rfl
@[simp] theorem State.setBus_fresh (s : State) (r : Req) (v : Nat) : (s.setBus r v).fresh = s.fresh := rfl
@[simp] theorem State.setBus_regs (s : State) (r : Req) (v : Nat) : (s.setBus r v).regs = s.regs := rfl
@[simp] theorem State.setBus_latches (s : State) (r : Req) (v : Nat) : (s.setBus r v).latches = s.latches := rfl
@[simp] theorem State.setBus_holds (s : State) (r : Req) (v : Nat) : (s.setBus r v).holds = s.holds := rfl
@[simp] theorem State.setBus_bus (s : State) (r : Req) (v : Nat) : (s.setBus r v).bus = Table.set 0 s.bus (reqCode r) v := rfl
@[simp] theorem State.setBus_out (s : State) (r : Req) (v : Nat) : (s.setBus r v).out = s.out := rfl
@[simp] theorem State.setBus_heldOut (s : State) (r : Req) (v : Nat) : (s.setBus r v).heldOut = s.heldOut := rfl
@[simp] theorem State.setBus_fns (s : State) (r : Req) (v : Nat) : (s.setBus r v).fns = s.fns := rfl
@[simp] theorem State.setBus_ctxs (s : State) (r : Req) (v : Nat) : (s.setBus r v).ctxs = s.ctxs := rfl
@[simp] theorem State.setBus_clks (s : State) (r : Req) (v : Nat) : (s.setBus r v).clks = s.clks := rfl
@[simp] theorem State.setBus_agents (s : State) (r : Req) (v : Nat) : (s.setBus r v).agents = s.agents := rfl
@[simp] theorem State.setBus_reports (s : State) (r : Req) (v : Nat) : (s.setBus r v).reports = s.reports := rfl
@[simp] theorem State.setBus_engs (s : State) (r : Req) (v : Nat) : (s.setBus r v).engs = s.engs := rfl
@[simp] theorem State.setBus_bays (s : State) (r : Req) (v : Nat) : (s.setBus r v).bays = s.bays := rfl
@[simp] theorem State.setBus_fcc (s : State) (r : Req) (v : Nat) : (s.setBus r v).fcc = s.fcc := rfl
@[simp] theorem State.setBus_chans (s : State) (r : Req) (v : Nat) : (s.setBus r v).chans = s.chans := rfl
@[simp] theorem State.setBus_ssgs (s : State) (r : Req) (v : Nat) : (s.setBus r v).ssgs = s.ssgs := rfl
@[simp] theorem State.setBus_seqMem (s : State) (r : Req) (v : Nat) : (s.setBus r v).seqMem = s.seqMem := rfl
@[simp] theorem State.setBus_seqUnread (s : State) (r : Req) (v : Nat) : (s.setBus r v).seqUnread = s.seqUnread := rfl
@[simp] theorem State.setBus_seqPos (s : State) (r : Req) (v : Nat) : (s.setBus r v).seqPos = s.seqPos := rfl
@[simp] theorem State.setBus_fsets (s : State) (r : Req) (v : Nat) : (s.setBus r v).fsets = s.fsets := rfl
@[simp] theorem State.setBus_lmaps (s : State) (r : Req) (v : Nat) : (s.setBus r v).lmaps = s.lmaps := rfl
@[simp] theorem State.setBus_scr (s : State) (r : Req) (v : Nat) : (s.setBus r v).scr = s.scr := rfl
@[simp] theorem State.setBus_tsets (s : State) (r : Req) (v : Nat) : (s.setBus r v).tsets = s.tsets := rfl
@[simp] theorem State.setBus_calRecs (s : State) (r : Req) (v : Nat) : (s.setBus r v).calRecs = s.calRecs := rfl
@[simp] theorem State.setBus_ports (s : State) (r : Req) (v : Nat) : (s.setBus r v).ports = s.ports := rfl
@[simp] theorem State.setBus_bankMem (s : State) (r : Req) (v : Nat) : (s.setBus r v).bankMem = s.bankMem := rfl
@[simp] theorem State.setBus_banks (s : State) (r : Req) (v : Nat) : (s.setBus r v).banks = s.banks := rfl
@[simp] theorem State.setBus_dram (s : State) (r : Req) (v : Nat) : (s.setBus r v).dram = s.dram := rfl
@[simp] theorem State.setBus_poison (s : State) (r : Req) (v : Nat) : (s.setBus r v).poison = s.poison := rfl
@[simp] theorem State.setBus_startFold (s : State) (r : Req) (v : Nat) : (s.setBus r v).startFold = s.startFold := rfl
@[simp] theorem State.setBus_restoring (s : State) (r : Req) (v : Nat) : (s.setBus r v).restoring = s.restoring := rfl
@[simp] theorem State.setBus_dmcs (s : State) (r : Req) (v : Nat) : (s.setBus r v).dmcs = s.dmcs := rfl
@[simp] theorem State.setBus_tb (s : State) (r : Req) (v : Nat) : (s.setBus r v).tb = s.tb := rfl
@[simp] theorem State.setBus_trcs (s : State) (r : Req) (v : Nat) : (s.setBus r v).trcs = s.trcs := rfl
@[simp] theorem State.setBus_sups (s : State) (r : Req) (v : Nat) : (s.setBus r v).sups = s.sups := rfl
@[simp] theorem State.setBus_vccCh (s : State) (r : Req) (v : Nat) : (s.setBus r v).vccCh = s.vccCh := rfl
@[simp] theorem State.setBus_drives (s : State) (r : Req) (v : Nat) : (s.setBus r v).drives = s.drives := rfl
@[simp] theorem State.setBus_hbMiss (s : State) (r : Req) (v : Nat) : (s.setBus r v).hbMiss = s.hbMiss := rfl
@[simp] theorem State.setBus_ownEp (s : State) (r : Req) (v : Nat) : (s.setBus r v).ownEp = s.ownEp := rfl
@[simp] theorem State.setBus_talk (s : State) (r : Req) (v : Nat) : (s.setBus r v).talk = s.talk := rfl
@[simp] theorem State.setBus_substs (s : State) (r : Req) (v : Nat) : (s.setBus r v).substs = s.substs := rfl
@[simp] theorem State.setBus_snap (s : State) (r : Req) (v : Nat) : (s.setBus r v).snap = s.snap := rfl
@[simp] theorem State.setBus_time (s : State) (r : Req) (v : Nat) : (s.setBus r v).time = s.time := rfl
@[simp] theorem State.setBus_hostReady (s : State) (r : Req) (v : Nat) : (s.setBus r v).hostReady = s.hostReady := rfl
@[simp] theorem State.setBus_nis (s : State) (r : Req) (v : Nat) : (s.setBus r v).nis = s.nis := rfl
@[simp] theorem State.setBus_flights (s : State) (r : Req) (v : Nat) : (s.setBus r v).flights = s.flights := rfl
@[simp] theorem State.setBus_routes (s : State) (r : Req) (v : Nat) : (s.setBus r v).routes = s.routes := rfl
@[simp] theorem State.setBus_dirc (s : State) (r : Req) (v : Nat) : (s.setBus r v).dirc = s.dirc := rfl
@[simp] theorem State.setBus_bankJoins (s : State) (r : Req) (v : Nat) : (s.setBus r v).bankJoins = s.bankJoins := rfl
@[simp] theorem State.setBus_joinNo (s : State) (r : Req) (v : Nat) : (s.setBus r v).joinNo = s.joinNo := rfl
@[simp] theorem State.setBus_homes (s : State) (r : Req) (v : Nat) : (s.setBus r v).homes = s.homes := rfl
@[simp] theorem State.setBus_fabHeld (s : State) (r : Req) (v : Nat) : (s.setBus r v).fabHeld = s.fabHeld := rfl
@[simp] theorem State.setBus_bankUe (s : State) (r : Req) (v : Nat) : (s.setBus r v).bankUe = s.bankUe := rfl
@[simp] theorem State.setBus_fcfg (s : State) (r : Req) (v : Nat) : (s.setBus r v).fcfg = s.fcfg := rfl
@[simp] theorem State.setBus_bramInit (s : State) (r : Req) (v : Nat) : (s.setBus r v).bramInit = s.bramInit := rfl
@[simp] theorem State.setBus_bramX (s : State) (r : Req) (v : Nat) : (s.setBus r v).bramX = s.bramX := rfl
@[simp] theorem State.setBus_ffX (s : State) (r : Req) (v : Nat) : (s.setBus r v).ffX = s.ffX := rfl
@[simp] theorem State.setBus_brams (s : State) (r : Req) (v : Nat) : (s.setBus r v).brams = s.brams := rfl
@[simp] theorem State.setBus_slices (s : State) (r : Req) (v : Nat) : (s.setBus r v).slices = s.slices := rfl
@[simp] theorem State.setBus_ios (s : State) (r : Req) (v : Nat) : (s.setBus r v).ios = s.ios := rfl
@[simp] theorem State.setBus_ghWait (s : State) (r : Req) (v : Nat) : (s.setBus r v).ghWait = s.ghWait := rfl
@[simp] theorem State.setBus_fcgs (s : State) (r : Req) (v : Nat) : (s.setBus r v).fcgs = s.fcgs := rfl
@[simp] theorem State.setBus_load (s : State) (r : Req) (v : Nat) : (s.setBus r v).load = s.load := rfl
@[simp] theorem State.setBus_fuses (s : State) (r : Req) (v : Nat) : (s.setBus r v).fuses = s.fuses := rfl
@[simp] theorem State.setBus_svn (s : State) (r : Req) (v : Nat) : (s.setBus r v).svn = s.svn := rfl
@[simp] theorem State.setBus_fuseArm (s : State) (r : Req) (v : Nat) : (s.setBus r v).fuseArm = s.fuseArm := rfl
@[simp] theorem State.setBus_boot (s : State) (r : Req) (v : Nat) : (s.setBus r v).boot = s.boot := rfl
@[simp] theorem State.setBus_strapOver (s : State) (r : Req) (v : Nat) : (s.setBus r v).strapOver = s.strapOver := rfl
@[simp] theorem State.setBus_attest (s : State) (r : Req) (v : Nat) : (s.setBus r v).attest = s.attest := rfl
@[simp] theorem State.setBus_report (s : State) (r : Req) (v : Nat) : (s.setBus r v).report = s.report := rfl
@[simp] theorem State.setBus_cfgMeas (s : State) (r : Req) (v : Nat) : (s.setBus r v).cfgMeas = s.cfgMeas := rfl
@[simp] theorem State.setBus_prChain (s : State) (r : Req) (v : Nat) : (s.setBus r v).prChain = s.prChain := rfl
@[simp] theorem State.setBus_vcore (s : State) (r : Req) (v : Nat) : (s.setBus r v).vcore = s.vcore := rfl
@[simp] theorem State.setBus_hj (s : State) (r : Req) (v : Nat) : (s.setBus r v).hj = s.hj := rfl
@[simp] theorem State.setBus_edge (s : State) (r : Req) (v : Nat) : (s.setBus r v).edge = s.edge := rfl
@[simp] theorem State.setBus_lineHi (s : State) (r : Req) (v : Nat) : (s.setBus r v).lineHi = s.lineHi := rfl
@[simp] theorem State.setBus_gateOff (s : State) (r : Req) (v : Nat) : (s.setBus r v).gateOff = s.gateOff := rfl
@[simp] theorem State.setBus_pins (s : State) (r : Req) (v : Nat) : (s.setBus r v).pins = s.pins := rfl
@[simp] theorem State.setBus_padExt (s : State) (r : Req) (v : Nat) : (s.setBus r v).padExt = s.padExt := rfl
@[simp] theorem State.setBus_retKey (s : State) (r : Req) (v : Nat) : (s.setBus r v).retKey = s.retKey := rfl
@[simp] theorem State.setBus_frameCrcs (s : State) (r : Req) (v : Nat) : (s.setBus r v).frameCrcs = s.frameCrcs := rfl
@[simp] theorem State.setBus_prnExcl (s : State) (r : Req) (v : Nat) : (s.setBus r v).prnExcl = s.prnExcl := rfl

/-! ## setHeld changes holds -/

@[simp] theorem State.setHeld_pending (s : State) (r : Req) (word : Nat) (v : Option Nat) : (s.setHeld r word v).pending = s.pending := rfl
@[simp] theorem State.setHeld_por (s : State) (r : Req) (word : Nat) (v : Option Nat) : (s.setHeld r word v).por = s.por := rfl
@[simp] theorem State.setHeld_ticks (s : State) (r : Req) (word : Nat) (v : Option Nat) : (s.setHeld r word v).ticks = s.ticks := rfl
@[simp] theorem State.setHeld_fresh (s : State) (r : Req) (word : Nat) (v : Option Nat) : (s.setHeld r word v).fresh = s.fresh := rfl
@[simp] theorem State.setHeld_regs (s : State) (r : Req) (word : Nat) (v : Option Nat) : (s.setHeld r word v).regs = s.regs := rfl
@[simp] theorem State.setHeld_latches (s : State) (r : Req) (word : Nat) (v : Option Nat) : (s.setHeld r word v).latches = s.latches := rfl
@[simp] theorem State.setHeld_holds (s : State) (r : Req) (word : Nat) (v : Option Nat) : (s.setHeld r word v).holds = Table.set none s.holds (reqCode r * 2 ^ 26 + word) v := rfl
@[simp] theorem State.setHeld_bus (s : State) (r : Req) (word : Nat) (v : Option Nat) : (s.setHeld r word v).bus = s.bus := rfl
@[simp] theorem State.setHeld_out (s : State) (r : Req) (word : Nat) (v : Option Nat) : (s.setHeld r word v).out = s.out := rfl
@[simp] theorem State.setHeld_heldOut (s : State) (r : Req) (word : Nat) (v : Option Nat) : (s.setHeld r word v).heldOut = s.heldOut := rfl
@[simp] theorem State.setHeld_fns (s : State) (r : Req) (word : Nat) (v : Option Nat) : (s.setHeld r word v).fns = s.fns := rfl
@[simp] theorem State.setHeld_ctxs (s : State) (r : Req) (word : Nat) (v : Option Nat) : (s.setHeld r word v).ctxs = s.ctxs := rfl
@[simp] theorem State.setHeld_clks (s : State) (r : Req) (word : Nat) (v : Option Nat) : (s.setHeld r word v).clks = s.clks := rfl
@[simp] theorem State.setHeld_agents (s : State) (r : Req) (word : Nat) (v : Option Nat) : (s.setHeld r word v).agents = s.agents := rfl
@[simp] theorem State.setHeld_reports (s : State) (r : Req) (word : Nat) (v : Option Nat) : (s.setHeld r word v).reports = s.reports := rfl
@[simp] theorem State.setHeld_engs (s : State) (r : Req) (word : Nat) (v : Option Nat) : (s.setHeld r word v).engs = s.engs := rfl
@[simp] theorem State.setHeld_bays (s : State) (r : Req) (word : Nat) (v : Option Nat) : (s.setHeld r word v).bays = s.bays := rfl
@[simp] theorem State.setHeld_fcc (s : State) (r : Req) (word : Nat) (v : Option Nat) : (s.setHeld r word v).fcc = s.fcc := rfl
@[simp] theorem State.setHeld_chans (s : State) (r : Req) (word : Nat) (v : Option Nat) : (s.setHeld r word v).chans = s.chans := rfl
@[simp] theorem State.setHeld_ssgs (s : State) (r : Req) (word : Nat) (v : Option Nat) : (s.setHeld r word v).ssgs = s.ssgs := rfl
@[simp] theorem State.setHeld_seqMem (s : State) (r : Req) (word : Nat) (v : Option Nat) : (s.setHeld r word v).seqMem = s.seqMem := rfl
@[simp] theorem State.setHeld_seqUnread (s : State) (r : Req) (word : Nat) (v : Option Nat) : (s.setHeld r word v).seqUnread = s.seqUnread := rfl
@[simp] theorem State.setHeld_seqPos (s : State) (r : Req) (word : Nat) (v : Option Nat) : (s.setHeld r word v).seqPos = s.seqPos := rfl
@[simp] theorem State.setHeld_fsets (s : State) (r : Req) (word : Nat) (v : Option Nat) : (s.setHeld r word v).fsets = s.fsets := rfl
@[simp] theorem State.setHeld_lmaps (s : State) (r : Req) (word : Nat) (v : Option Nat) : (s.setHeld r word v).lmaps = s.lmaps := rfl
@[simp] theorem State.setHeld_scr (s : State) (r : Req) (word : Nat) (v : Option Nat) : (s.setHeld r word v).scr = s.scr := rfl
@[simp] theorem State.setHeld_tsets (s : State) (r : Req) (word : Nat) (v : Option Nat) : (s.setHeld r word v).tsets = s.tsets := rfl
@[simp] theorem State.setHeld_calRecs (s : State) (r : Req) (word : Nat) (v : Option Nat) : (s.setHeld r word v).calRecs = s.calRecs := rfl
@[simp] theorem State.setHeld_ports (s : State) (r : Req) (word : Nat) (v : Option Nat) : (s.setHeld r word v).ports = s.ports := rfl
@[simp] theorem State.setHeld_bankMem (s : State) (r : Req) (word : Nat) (v : Option Nat) : (s.setHeld r word v).bankMem = s.bankMem := rfl
@[simp] theorem State.setHeld_banks (s : State) (r : Req) (word : Nat) (v : Option Nat) : (s.setHeld r word v).banks = s.banks := rfl
@[simp] theorem State.setHeld_dram (s : State) (r : Req) (word : Nat) (v : Option Nat) : (s.setHeld r word v).dram = s.dram := rfl
@[simp] theorem State.setHeld_poison (s : State) (r : Req) (word : Nat) (v : Option Nat) : (s.setHeld r word v).poison = s.poison := rfl
@[simp] theorem State.setHeld_startFold (s : State) (r : Req) (word : Nat) (v : Option Nat) : (s.setHeld r word v).startFold = s.startFold := rfl
@[simp] theorem State.setHeld_restoring (s : State) (r : Req) (word : Nat) (v : Option Nat) : (s.setHeld r word v).restoring = s.restoring := rfl
@[simp] theorem State.setHeld_dmcs (s : State) (r : Req) (word : Nat) (v : Option Nat) : (s.setHeld r word v).dmcs = s.dmcs := rfl
@[simp] theorem State.setHeld_tb (s : State) (r : Req) (word : Nat) (v : Option Nat) : (s.setHeld r word v).tb = s.tb := rfl
@[simp] theorem State.setHeld_trcs (s : State) (r : Req) (word : Nat) (v : Option Nat) : (s.setHeld r word v).trcs = s.trcs := rfl
@[simp] theorem State.setHeld_sups (s : State) (r : Req) (word : Nat) (v : Option Nat) : (s.setHeld r word v).sups = s.sups := rfl
@[simp] theorem State.setHeld_vccCh (s : State) (r : Req) (word : Nat) (v : Option Nat) : (s.setHeld r word v).vccCh = s.vccCh := rfl
@[simp] theorem State.setHeld_drives (s : State) (r : Req) (word : Nat) (v : Option Nat) : (s.setHeld r word v).drives = s.drives := rfl
@[simp] theorem State.setHeld_hbMiss (s : State) (r : Req) (word : Nat) (v : Option Nat) : (s.setHeld r word v).hbMiss = s.hbMiss := rfl
@[simp] theorem State.setHeld_ownEp (s : State) (r : Req) (word : Nat) (v : Option Nat) : (s.setHeld r word v).ownEp = s.ownEp := rfl
@[simp] theorem State.setHeld_talk (s : State) (r : Req) (word : Nat) (v : Option Nat) : (s.setHeld r word v).talk = s.talk := rfl
@[simp] theorem State.setHeld_substs (s : State) (r : Req) (word : Nat) (v : Option Nat) : (s.setHeld r word v).substs = s.substs := rfl
@[simp] theorem State.setHeld_snap (s : State) (r : Req) (word : Nat) (v : Option Nat) : (s.setHeld r word v).snap = s.snap := rfl
@[simp] theorem State.setHeld_time (s : State) (r : Req) (word : Nat) (v : Option Nat) : (s.setHeld r word v).time = s.time := rfl
@[simp] theorem State.setHeld_hostReady (s : State) (r : Req) (word : Nat) (v : Option Nat) : (s.setHeld r word v).hostReady = s.hostReady := rfl
@[simp] theorem State.setHeld_nis (s : State) (r : Req) (word : Nat) (v : Option Nat) : (s.setHeld r word v).nis = s.nis := rfl
@[simp] theorem State.setHeld_flights (s : State) (r : Req) (word : Nat) (v : Option Nat) : (s.setHeld r word v).flights = s.flights := rfl
@[simp] theorem State.setHeld_routes (s : State) (r : Req) (word : Nat) (v : Option Nat) : (s.setHeld r word v).routes = s.routes := rfl
@[simp] theorem State.setHeld_dirc (s : State) (r : Req) (word : Nat) (v : Option Nat) : (s.setHeld r word v).dirc = s.dirc := rfl
@[simp] theorem State.setHeld_bankJoins (s : State) (r : Req) (word : Nat) (v : Option Nat) : (s.setHeld r word v).bankJoins = s.bankJoins := rfl
@[simp] theorem State.setHeld_joinNo (s : State) (r : Req) (word : Nat) (v : Option Nat) : (s.setHeld r word v).joinNo = s.joinNo := rfl
@[simp] theorem State.setHeld_homes (s : State) (r : Req) (word : Nat) (v : Option Nat) : (s.setHeld r word v).homes = s.homes := rfl
@[simp] theorem State.setHeld_fabHeld (s : State) (r : Req) (word : Nat) (v : Option Nat) : (s.setHeld r word v).fabHeld = s.fabHeld := rfl
@[simp] theorem State.setHeld_bankUe (s : State) (r : Req) (word : Nat) (v : Option Nat) : (s.setHeld r word v).bankUe = s.bankUe := rfl
@[simp] theorem State.setHeld_fcfg (s : State) (r : Req) (word : Nat) (v : Option Nat) : (s.setHeld r word v).fcfg = s.fcfg := rfl
@[simp] theorem State.setHeld_bramInit (s : State) (r : Req) (word : Nat) (v : Option Nat) : (s.setHeld r word v).bramInit = s.bramInit := rfl
@[simp] theorem State.setHeld_bramX (s : State) (r : Req) (word : Nat) (v : Option Nat) : (s.setHeld r word v).bramX = s.bramX := rfl
@[simp] theorem State.setHeld_ffX (s : State) (r : Req) (word : Nat) (v : Option Nat) : (s.setHeld r word v).ffX = s.ffX := rfl
@[simp] theorem State.setHeld_brams (s : State) (r : Req) (word : Nat) (v : Option Nat) : (s.setHeld r word v).brams = s.brams := rfl
@[simp] theorem State.setHeld_slices (s : State) (r : Req) (word : Nat) (v : Option Nat) : (s.setHeld r word v).slices = s.slices := rfl
@[simp] theorem State.setHeld_ios (s : State) (r : Req) (word : Nat) (v : Option Nat) : (s.setHeld r word v).ios = s.ios := rfl
@[simp] theorem State.setHeld_ghWait (s : State) (r : Req) (word : Nat) (v : Option Nat) : (s.setHeld r word v).ghWait = s.ghWait := rfl
@[simp] theorem State.setHeld_fcgs (s : State) (r : Req) (word : Nat) (v : Option Nat) : (s.setHeld r word v).fcgs = s.fcgs := rfl
@[simp] theorem State.setHeld_load (s : State) (r : Req) (word : Nat) (v : Option Nat) : (s.setHeld r word v).load = s.load := rfl
@[simp] theorem State.setHeld_fuses (s : State) (r : Req) (word : Nat) (v : Option Nat) : (s.setHeld r word v).fuses = s.fuses := rfl
@[simp] theorem State.setHeld_svn (s : State) (r : Req) (word : Nat) (v : Option Nat) : (s.setHeld r word v).svn = s.svn := rfl
@[simp] theorem State.setHeld_fuseArm (s : State) (r : Req) (word : Nat) (v : Option Nat) : (s.setHeld r word v).fuseArm = s.fuseArm := rfl
@[simp] theorem State.setHeld_boot (s : State) (r : Req) (word : Nat) (v : Option Nat) : (s.setHeld r word v).boot = s.boot := rfl
@[simp] theorem State.setHeld_strapOver (s : State) (r : Req) (word : Nat) (v : Option Nat) : (s.setHeld r word v).strapOver = s.strapOver := rfl
@[simp] theorem State.setHeld_attest (s : State) (r : Req) (word : Nat) (v : Option Nat) : (s.setHeld r word v).attest = s.attest := rfl
@[simp] theorem State.setHeld_report (s : State) (r : Req) (word : Nat) (v : Option Nat) : (s.setHeld r word v).report = s.report := rfl
@[simp] theorem State.setHeld_cfgMeas (s : State) (r : Req) (word : Nat) (v : Option Nat) : (s.setHeld r word v).cfgMeas = s.cfgMeas := rfl
@[simp] theorem State.setHeld_prChain (s : State) (r : Req) (word : Nat) (v : Option Nat) : (s.setHeld r word v).prChain = s.prChain := rfl
@[simp] theorem State.setHeld_vcore (s : State) (r : Req) (word : Nat) (v : Option Nat) : (s.setHeld r word v).vcore = s.vcore := rfl
@[simp] theorem State.setHeld_hj (s : State) (r : Req) (word : Nat) (v : Option Nat) : (s.setHeld r word v).hj = s.hj := rfl
@[simp] theorem State.setHeld_edge (s : State) (r : Req) (word : Nat) (v : Option Nat) : (s.setHeld r word v).edge = s.edge := rfl
@[simp] theorem State.setHeld_lineHi (s : State) (r : Req) (word : Nat) (v : Option Nat) : (s.setHeld r word v).lineHi = s.lineHi := rfl
@[simp] theorem State.setHeld_gateOff (s : State) (r : Req) (word : Nat) (v : Option Nat) : (s.setHeld r word v).gateOff = s.gateOff := rfl
@[simp] theorem State.setHeld_pins (s : State) (r : Req) (word : Nat) (v : Option Nat) : (s.setHeld r word v).pins = s.pins := rfl
@[simp] theorem State.setHeld_padExt (s : State) (r : Req) (word : Nat) (v : Option Nat) : (s.setHeld r word v).padExt = s.padExt := rfl
@[simp] theorem State.setHeld_retKey (s : State) (r : Req) (word : Nat) (v : Option Nat) : (s.setHeld r word v).retKey = s.retKey := rfl
@[simp] theorem State.setHeld_frameCrcs (s : State) (r : Req) (word : Nat) (v : Option Nat) : (s.setHeld r word v).frameCrcs = s.frameCrcs := rfl
@[simp] theorem State.setHeld_prnExcl (s : State) (r : Req) (word : Nat) (v : Option Nat) : (s.setHeld r word v).prnExcl = s.prnExcl := rfl

/-! ## updClk changes clks -/

@[simp] theorem State.updClk_pending (s : State) (h : Nat) (f : ClkHalf → ClkHalf) : (s.updClk h f).pending = s.pending := rfl
@[simp] theorem State.updClk_por (s : State) (h : Nat) (f : ClkHalf → ClkHalf) : (s.updClk h f).por = s.por := rfl
@[simp] theorem State.updClk_ticks (s : State) (h : Nat) (f : ClkHalf → ClkHalf) : (s.updClk h f).ticks = s.ticks := rfl
@[simp] theorem State.updClk_fresh (s : State) (h : Nat) (f : ClkHalf → ClkHalf) : (s.updClk h f).fresh = s.fresh := rfl
@[simp] theorem State.updClk_regs (s : State) (h : Nat) (f : ClkHalf → ClkHalf) : (s.updClk h f).regs = s.regs := rfl
@[simp] theorem State.updClk_latches (s : State) (h : Nat) (f : ClkHalf → ClkHalf) : (s.updClk h f).latches = s.latches := rfl
@[simp] theorem State.updClk_holds (s : State) (h : Nat) (f : ClkHalf → ClkHalf) : (s.updClk h f).holds = s.holds := rfl
@[simp] theorem State.updClk_bus (s : State) (h : Nat) (f : ClkHalf → ClkHalf) : (s.updClk h f).bus = s.bus := rfl
@[simp] theorem State.updClk_out (s : State) (h : Nat) (f : ClkHalf → ClkHalf) : (s.updClk h f).out = s.out := rfl
@[simp] theorem State.updClk_heldOut (s : State) (h : Nat) (f : ClkHalf → ClkHalf) : (s.updClk h f).heldOut = s.heldOut := rfl
@[simp] theorem State.updClk_fns (s : State) (h : Nat) (f : ClkHalf → ClkHalf) : (s.updClk h f).fns = s.fns := rfl
@[simp] theorem State.updClk_ctxs (s : State) (h : Nat) (f : ClkHalf → ClkHalf) : (s.updClk h f).ctxs = s.ctxs := rfl
@[simp] theorem State.updClk_clks (s : State) (h : Nat) (f : ClkHalf → ClkHalf) : (s.updClk h f).clks = Table.upd ClkHalf.reset s.clks h f := rfl
@[simp] theorem State.updClk_agents (s : State) (h : Nat) (f : ClkHalf → ClkHalf) : (s.updClk h f).agents = s.agents := rfl
@[simp] theorem State.updClk_reports (s : State) (h : Nat) (f : ClkHalf → ClkHalf) : (s.updClk h f).reports = s.reports := rfl
@[simp] theorem State.updClk_engs (s : State) (h : Nat) (f : ClkHalf → ClkHalf) : (s.updClk h f).engs = s.engs := rfl
@[simp] theorem State.updClk_bays (s : State) (h : Nat) (f : ClkHalf → ClkHalf) : (s.updClk h f).bays = s.bays := rfl
@[simp] theorem State.updClk_fcc (s : State) (h : Nat) (f : ClkHalf → ClkHalf) : (s.updClk h f).fcc = s.fcc := rfl
@[simp] theorem State.updClk_chans (s : State) (h : Nat) (f : ClkHalf → ClkHalf) : (s.updClk h f).chans = s.chans := rfl
@[simp] theorem State.updClk_ssgs (s : State) (h : Nat) (f : ClkHalf → ClkHalf) : (s.updClk h f).ssgs = s.ssgs := rfl
@[simp] theorem State.updClk_seqMem (s : State) (h : Nat) (f : ClkHalf → ClkHalf) : (s.updClk h f).seqMem = s.seqMem := rfl
@[simp] theorem State.updClk_seqUnread (s : State) (h : Nat) (f : ClkHalf → ClkHalf) : (s.updClk h f).seqUnread = s.seqUnread := rfl
@[simp] theorem State.updClk_seqPos (s : State) (h : Nat) (f : ClkHalf → ClkHalf) : (s.updClk h f).seqPos = s.seqPos := rfl
@[simp] theorem State.updClk_fsets (s : State) (h : Nat) (f : ClkHalf → ClkHalf) : (s.updClk h f).fsets = s.fsets := rfl
@[simp] theorem State.updClk_lmaps (s : State) (h : Nat) (f : ClkHalf → ClkHalf) : (s.updClk h f).lmaps = s.lmaps := rfl
@[simp] theorem State.updClk_scr (s : State) (h : Nat) (f : ClkHalf → ClkHalf) : (s.updClk h f).scr = s.scr := rfl
@[simp] theorem State.updClk_tsets (s : State) (h : Nat) (f : ClkHalf → ClkHalf) : (s.updClk h f).tsets = s.tsets := rfl
@[simp] theorem State.updClk_calRecs (s : State) (h : Nat) (f : ClkHalf → ClkHalf) : (s.updClk h f).calRecs = s.calRecs := rfl
@[simp] theorem State.updClk_ports (s : State) (h : Nat) (f : ClkHalf → ClkHalf) : (s.updClk h f).ports = s.ports := rfl
@[simp] theorem State.updClk_bankMem (s : State) (h : Nat) (f : ClkHalf → ClkHalf) : (s.updClk h f).bankMem = s.bankMem := rfl
@[simp] theorem State.updClk_banks (s : State) (h : Nat) (f : ClkHalf → ClkHalf) : (s.updClk h f).banks = s.banks := rfl
@[simp] theorem State.updClk_dram (s : State) (h : Nat) (f : ClkHalf → ClkHalf) : (s.updClk h f).dram = s.dram := rfl
@[simp] theorem State.updClk_poison (s : State) (h : Nat) (f : ClkHalf → ClkHalf) : (s.updClk h f).poison = s.poison := rfl
@[simp] theorem State.updClk_startFold (s : State) (h : Nat) (f : ClkHalf → ClkHalf) : (s.updClk h f).startFold = s.startFold := rfl
@[simp] theorem State.updClk_restoring (s : State) (h : Nat) (f : ClkHalf → ClkHalf) : (s.updClk h f).restoring = s.restoring := rfl
@[simp] theorem State.updClk_dmcs (s : State) (h : Nat) (f : ClkHalf → ClkHalf) : (s.updClk h f).dmcs = s.dmcs := rfl
@[simp] theorem State.updClk_tb (s : State) (h : Nat) (f : ClkHalf → ClkHalf) : (s.updClk h f).tb = s.tb := rfl
@[simp] theorem State.updClk_trcs (s : State) (h : Nat) (f : ClkHalf → ClkHalf) : (s.updClk h f).trcs = s.trcs := rfl
@[simp] theorem State.updClk_sups (s : State) (h : Nat) (f : ClkHalf → ClkHalf) : (s.updClk h f).sups = s.sups := rfl
@[simp] theorem State.updClk_vccCh (s : State) (h : Nat) (f : ClkHalf → ClkHalf) : (s.updClk h f).vccCh = s.vccCh := rfl
@[simp] theorem State.updClk_drives (s : State) (h : Nat) (f : ClkHalf → ClkHalf) : (s.updClk h f).drives = s.drives := rfl
@[simp] theorem State.updClk_hbMiss (s : State) (h : Nat) (f : ClkHalf → ClkHalf) : (s.updClk h f).hbMiss = s.hbMiss := rfl
@[simp] theorem State.updClk_ownEp (s : State) (h : Nat) (f : ClkHalf → ClkHalf) : (s.updClk h f).ownEp = s.ownEp := rfl
@[simp] theorem State.updClk_talk (s : State) (h : Nat) (f : ClkHalf → ClkHalf) : (s.updClk h f).talk = s.talk := rfl
@[simp] theorem State.updClk_substs (s : State) (h : Nat) (f : ClkHalf → ClkHalf) : (s.updClk h f).substs = s.substs := rfl
@[simp] theorem State.updClk_snap (s : State) (h : Nat) (f : ClkHalf → ClkHalf) : (s.updClk h f).snap = s.snap := rfl
@[simp] theorem State.updClk_time (s : State) (h : Nat) (f : ClkHalf → ClkHalf) : (s.updClk h f).time = s.time := rfl
@[simp] theorem State.updClk_hostReady (s : State) (h : Nat) (f : ClkHalf → ClkHalf) : (s.updClk h f).hostReady = s.hostReady := rfl
@[simp] theorem State.updClk_nis (s : State) (h : Nat) (f : ClkHalf → ClkHalf) : (s.updClk h f).nis = s.nis := rfl
@[simp] theorem State.updClk_flights (s : State) (h : Nat) (f : ClkHalf → ClkHalf) : (s.updClk h f).flights = s.flights := rfl
@[simp] theorem State.updClk_routes (s : State) (h : Nat) (f : ClkHalf → ClkHalf) : (s.updClk h f).routes = s.routes := rfl
@[simp] theorem State.updClk_dirc (s : State) (h : Nat) (f : ClkHalf → ClkHalf) : (s.updClk h f).dirc = s.dirc := rfl
@[simp] theorem State.updClk_bankJoins (s : State) (h : Nat) (f : ClkHalf → ClkHalf) : (s.updClk h f).bankJoins = s.bankJoins := rfl
@[simp] theorem State.updClk_joinNo (s : State) (h : Nat) (f : ClkHalf → ClkHalf) : (s.updClk h f).joinNo = s.joinNo := rfl
@[simp] theorem State.updClk_homes (s : State) (h : Nat) (f : ClkHalf → ClkHalf) : (s.updClk h f).homes = s.homes := rfl
@[simp] theorem State.updClk_fabHeld (s : State) (h : Nat) (f : ClkHalf → ClkHalf) : (s.updClk h f).fabHeld = s.fabHeld := rfl
@[simp] theorem State.updClk_bankUe (s : State) (h : Nat) (f : ClkHalf → ClkHalf) : (s.updClk h f).bankUe = s.bankUe := rfl
@[simp] theorem State.updClk_fcfg (s : State) (h : Nat) (f : ClkHalf → ClkHalf) : (s.updClk h f).fcfg = s.fcfg := rfl
@[simp] theorem State.updClk_bramInit (s : State) (h : Nat) (f : ClkHalf → ClkHalf) : (s.updClk h f).bramInit = s.bramInit := rfl
@[simp] theorem State.updClk_bramX (s : State) (h : Nat) (f : ClkHalf → ClkHalf) : (s.updClk h f).bramX = s.bramX := rfl
@[simp] theorem State.updClk_ffX (s : State) (h : Nat) (f : ClkHalf → ClkHalf) : (s.updClk h f).ffX = s.ffX := rfl
@[simp] theorem State.updClk_brams (s : State) (h : Nat) (f : ClkHalf → ClkHalf) : (s.updClk h f).brams = s.brams := rfl
@[simp] theorem State.updClk_slices (s : State) (h : Nat) (f : ClkHalf → ClkHalf) : (s.updClk h f).slices = s.slices := rfl
@[simp] theorem State.updClk_ios (s : State) (h : Nat) (f : ClkHalf → ClkHalf) : (s.updClk h f).ios = s.ios := rfl
@[simp] theorem State.updClk_ghWait (s : State) (h : Nat) (f : ClkHalf → ClkHalf) : (s.updClk h f).ghWait = s.ghWait := rfl
@[simp] theorem State.updClk_fcgs (s : State) (h : Nat) (f : ClkHalf → ClkHalf) : (s.updClk h f).fcgs = s.fcgs := rfl
@[simp] theorem State.updClk_load (s : State) (h : Nat) (f : ClkHalf → ClkHalf) : (s.updClk h f).load = s.load := rfl
@[simp] theorem State.updClk_fuses (s : State) (h : Nat) (f : ClkHalf → ClkHalf) : (s.updClk h f).fuses = s.fuses := rfl
@[simp] theorem State.updClk_svn (s : State) (h : Nat) (f : ClkHalf → ClkHalf) : (s.updClk h f).svn = s.svn := rfl
@[simp] theorem State.updClk_fuseArm (s : State) (h : Nat) (f : ClkHalf → ClkHalf) : (s.updClk h f).fuseArm = s.fuseArm := rfl
@[simp] theorem State.updClk_boot (s : State) (h : Nat) (f : ClkHalf → ClkHalf) : (s.updClk h f).boot = s.boot := rfl
@[simp] theorem State.updClk_strapOver (s : State) (h : Nat) (f : ClkHalf → ClkHalf) : (s.updClk h f).strapOver = s.strapOver := rfl
@[simp] theorem State.updClk_attest (s : State) (h : Nat) (f : ClkHalf → ClkHalf) : (s.updClk h f).attest = s.attest := rfl
@[simp] theorem State.updClk_report (s : State) (h : Nat) (f : ClkHalf → ClkHalf) : (s.updClk h f).report = s.report := rfl
@[simp] theorem State.updClk_cfgMeas (s : State) (h : Nat) (f : ClkHalf → ClkHalf) : (s.updClk h f).cfgMeas = s.cfgMeas := rfl
@[simp] theorem State.updClk_prChain (s : State) (h : Nat) (f : ClkHalf → ClkHalf) : (s.updClk h f).prChain = s.prChain := rfl
@[simp] theorem State.updClk_vcore (s : State) (h : Nat) (f : ClkHalf → ClkHalf) : (s.updClk h f).vcore = s.vcore := rfl
@[simp] theorem State.updClk_hj (s : State) (h : Nat) (f : ClkHalf → ClkHalf) : (s.updClk h f).hj = s.hj := rfl
@[simp] theorem State.updClk_edge (s : State) (h : Nat) (f : ClkHalf → ClkHalf) : (s.updClk h f).edge = s.edge := rfl
@[simp] theorem State.updClk_lineHi (s : State) (h : Nat) (f : ClkHalf → ClkHalf) : (s.updClk h f).lineHi = s.lineHi := rfl
@[simp] theorem State.updClk_gateOff (s : State) (h : Nat) (f : ClkHalf → ClkHalf) : (s.updClk h f).gateOff = s.gateOff := rfl
@[simp] theorem State.updClk_pins (s : State) (h : Nat) (f : ClkHalf → ClkHalf) : (s.updClk h f).pins = s.pins := rfl
@[simp] theorem State.updClk_padExt (s : State) (h : Nat) (f : ClkHalf → ClkHalf) : (s.updClk h f).padExt = s.padExt := rfl
@[simp] theorem State.updClk_retKey (s : State) (h : Nat) (f : ClkHalf → ClkHalf) : (s.updClk h f).retKey = s.retKey := rfl
@[simp] theorem State.updClk_frameCrcs (s : State) (h : Nat) (f : ClkHalf → ClkHalf) : (s.updClk h f).frameCrcs = s.frameCrcs := rfl
@[simp] theorem State.updClk_prnExcl (s : State) (h : Nat) (f : ClkHalf → ClkHalf) : (s.updClk h f).prnExcl = s.prnExcl := rfl

/-! ## updDmc changes dmcs -/

@[simp] theorem State.updDmc_pending (s : State) (n : Nat) (f : DmcSt → DmcSt) : (s.updDmc n f).pending = s.pending := rfl
@[simp] theorem State.updDmc_por (s : State) (n : Nat) (f : DmcSt → DmcSt) : (s.updDmc n f).por = s.por := rfl
@[simp] theorem State.updDmc_ticks (s : State) (n : Nat) (f : DmcSt → DmcSt) : (s.updDmc n f).ticks = s.ticks := rfl
@[simp] theorem State.updDmc_fresh (s : State) (n : Nat) (f : DmcSt → DmcSt) : (s.updDmc n f).fresh = s.fresh := rfl
@[simp] theorem State.updDmc_regs (s : State) (n : Nat) (f : DmcSt → DmcSt) : (s.updDmc n f).regs = s.regs := rfl
@[simp] theorem State.updDmc_latches (s : State) (n : Nat) (f : DmcSt → DmcSt) : (s.updDmc n f).latches = s.latches := rfl
@[simp] theorem State.updDmc_holds (s : State) (n : Nat) (f : DmcSt → DmcSt) : (s.updDmc n f).holds = s.holds := rfl
@[simp] theorem State.updDmc_bus (s : State) (n : Nat) (f : DmcSt → DmcSt) : (s.updDmc n f).bus = s.bus := rfl
@[simp] theorem State.updDmc_out (s : State) (n : Nat) (f : DmcSt → DmcSt) : (s.updDmc n f).out = s.out := rfl
@[simp] theorem State.updDmc_heldOut (s : State) (n : Nat) (f : DmcSt → DmcSt) : (s.updDmc n f).heldOut = s.heldOut := rfl
@[simp] theorem State.updDmc_fns (s : State) (n : Nat) (f : DmcSt → DmcSt) : (s.updDmc n f).fns = s.fns := rfl
@[simp] theorem State.updDmc_ctxs (s : State) (n : Nat) (f : DmcSt → DmcSt) : (s.updDmc n f).ctxs = s.ctxs := rfl
@[simp] theorem State.updDmc_clks (s : State) (n : Nat) (f : DmcSt → DmcSt) : (s.updDmc n f).clks = s.clks := rfl
@[simp] theorem State.updDmc_agents (s : State) (n : Nat) (f : DmcSt → DmcSt) : (s.updDmc n f).agents = s.agents := rfl
@[simp] theorem State.updDmc_reports (s : State) (n : Nat) (f : DmcSt → DmcSt) : (s.updDmc n f).reports = s.reports := rfl
@[simp] theorem State.updDmc_engs (s : State) (n : Nat) (f : DmcSt → DmcSt) : (s.updDmc n f).engs = s.engs := rfl
@[simp] theorem State.updDmc_bays (s : State) (n : Nat) (f : DmcSt → DmcSt) : (s.updDmc n f).bays = s.bays := rfl
@[simp] theorem State.updDmc_fcc (s : State) (n : Nat) (f : DmcSt → DmcSt) : (s.updDmc n f).fcc = s.fcc := rfl
@[simp] theorem State.updDmc_chans (s : State) (n : Nat) (f : DmcSt → DmcSt) : (s.updDmc n f).chans = s.chans := rfl
@[simp] theorem State.updDmc_ssgs (s : State) (n : Nat) (f : DmcSt → DmcSt) : (s.updDmc n f).ssgs = s.ssgs := rfl
@[simp] theorem State.updDmc_seqMem (s : State) (n : Nat) (f : DmcSt → DmcSt) : (s.updDmc n f).seqMem = s.seqMem := rfl
@[simp] theorem State.updDmc_seqUnread (s : State) (n : Nat) (f : DmcSt → DmcSt) : (s.updDmc n f).seqUnread = s.seqUnread := rfl
@[simp] theorem State.updDmc_seqPos (s : State) (n : Nat) (f : DmcSt → DmcSt) : (s.updDmc n f).seqPos = s.seqPos := rfl
@[simp] theorem State.updDmc_fsets (s : State) (n : Nat) (f : DmcSt → DmcSt) : (s.updDmc n f).fsets = s.fsets := rfl
@[simp] theorem State.updDmc_lmaps (s : State) (n : Nat) (f : DmcSt → DmcSt) : (s.updDmc n f).lmaps = s.lmaps := rfl
@[simp] theorem State.updDmc_scr (s : State) (n : Nat) (f : DmcSt → DmcSt) : (s.updDmc n f).scr = s.scr := rfl
@[simp] theorem State.updDmc_tsets (s : State) (n : Nat) (f : DmcSt → DmcSt) : (s.updDmc n f).tsets = s.tsets := rfl
@[simp] theorem State.updDmc_calRecs (s : State) (n : Nat) (f : DmcSt → DmcSt) : (s.updDmc n f).calRecs = s.calRecs := rfl
@[simp] theorem State.updDmc_ports (s : State) (n : Nat) (f : DmcSt → DmcSt) : (s.updDmc n f).ports = s.ports := rfl
@[simp] theorem State.updDmc_bankMem (s : State) (n : Nat) (f : DmcSt → DmcSt) : (s.updDmc n f).bankMem = s.bankMem := rfl
@[simp] theorem State.updDmc_banks (s : State) (n : Nat) (f : DmcSt → DmcSt) : (s.updDmc n f).banks = s.banks := rfl
@[simp] theorem State.updDmc_dram (s : State) (n : Nat) (f : DmcSt → DmcSt) : (s.updDmc n f).dram = s.dram := rfl
@[simp] theorem State.updDmc_poison (s : State) (n : Nat) (f : DmcSt → DmcSt) : (s.updDmc n f).poison = s.poison := rfl
@[simp] theorem State.updDmc_startFold (s : State) (n : Nat) (f : DmcSt → DmcSt) : (s.updDmc n f).startFold = s.startFold := rfl
@[simp] theorem State.updDmc_restoring (s : State) (n : Nat) (f : DmcSt → DmcSt) : (s.updDmc n f).restoring = s.restoring := rfl
@[simp] theorem State.updDmc_dmcs (s : State) (n : Nat) (f : DmcSt → DmcSt) : (s.updDmc n f).dmcs = Table.upd DmcSt.reset s.dmcs n f := rfl
@[simp] theorem State.updDmc_tb (s : State) (n : Nat) (f : DmcSt → DmcSt) : (s.updDmc n f).tb = s.tb := rfl
@[simp] theorem State.updDmc_trcs (s : State) (n : Nat) (f : DmcSt → DmcSt) : (s.updDmc n f).trcs = s.trcs := rfl
@[simp] theorem State.updDmc_sups (s : State) (n : Nat) (f : DmcSt → DmcSt) : (s.updDmc n f).sups = s.sups := rfl
@[simp] theorem State.updDmc_vccCh (s : State) (n : Nat) (f : DmcSt → DmcSt) : (s.updDmc n f).vccCh = s.vccCh := rfl
@[simp] theorem State.updDmc_drives (s : State) (n : Nat) (f : DmcSt → DmcSt) : (s.updDmc n f).drives = s.drives := rfl
@[simp] theorem State.updDmc_hbMiss (s : State) (n : Nat) (f : DmcSt → DmcSt) : (s.updDmc n f).hbMiss = s.hbMiss := rfl
@[simp] theorem State.updDmc_ownEp (s : State) (n : Nat) (f : DmcSt → DmcSt) : (s.updDmc n f).ownEp = s.ownEp := rfl
@[simp] theorem State.updDmc_talk (s : State) (n : Nat) (f : DmcSt → DmcSt) : (s.updDmc n f).talk = s.talk := rfl
@[simp] theorem State.updDmc_substs (s : State) (n : Nat) (f : DmcSt → DmcSt) : (s.updDmc n f).substs = s.substs := rfl
@[simp] theorem State.updDmc_snap (s : State) (n : Nat) (f : DmcSt → DmcSt) : (s.updDmc n f).snap = s.snap := rfl
@[simp] theorem State.updDmc_time (s : State) (n : Nat) (f : DmcSt → DmcSt) : (s.updDmc n f).time = s.time := rfl
@[simp] theorem State.updDmc_hostReady (s : State) (n : Nat) (f : DmcSt → DmcSt) : (s.updDmc n f).hostReady = s.hostReady := rfl
@[simp] theorem State.updDmc_nis (s : State) (n : Nat) (f : DmcSt → DmcSt) : (s.updDmc n f).nis = s.nis := rfl
@[simp] theorem State.updDmc_flights (s : State) (n : Nat) (f : DmcSt → DmcSt) : (s.updDmc n f).flights = s.flights := rfl
@[simp] theorem State.updDmc_routes (s : State) (n : Nat) (f : DmcSt → DmcSt) : (s.updDmc n f).routes = s.routes := rfl
@[simp] theorem State.updDmc_dirc (s : State) (n : Nat) (f : DmcSt → DmcSt) : (s.updDmc n f).dirc = s.dirc := rfl
@[simp] theorem State.updDmc_bankJoins (s : State) (n : Nat) (f : DmcSt → DmcSt) : (s.updDmc n f).bankJoins = s.bankJoins := rfl
@[simp] theorem State.updDmc_joinNo (s : State) (n : Nat) (f : DmcSt → DmcSt) : (s.updDmc n f).joinNo = s.joinNo := rfl
@[simp] theorem State.updDmc_homes (s : State) (n : Nat) (f : DmcSt → DmcSt) : (s.updDmc n f).homes = s.homes := rfl
@[simp] theorem State.updDmc_fabHeld (s : State) (n : Nat) (f : DmcSt → DmcSt) : (s.updDmc n f).fabHeld = s.fabHeld := rfl
@[simp] theorem State.updDmc_bankUe (s : State) (n : Nat) (f : DmcSt → DmcSt) : (s.updDmc n f).bankUe = s.bankUe := rfl
@[simp] theorem State.updDmc_fcfg (s : State) (n : Nat) (f : DmcSt → DmcSt) : (s.updDmc n f).fcfg = s.fcfg := rfl
@[simp] theorem State.updDmc_bramInit (s : State) (n : Nat) (f : DmcSt → DmcSt) : (s.updDmc n f).bramInit = s.bramInit := rfl
@[simp] theorem State.updDmc_bramX (s : State) (n : Nat) (f : DmcSt → DmcSt) : (s.updDmc n f).bramX = s.bramX := rfl
@[simp] theorem State.updDmc_ffX (s : State) (n : Nat) (f : DmcSt → DmcSt) : (s.updDmc n f).ffX = s.ffX := rfl
@[simp] theorem State.updDmc_brams (s : State) (n : Nat) (f : DmcSt → DmcSt) : (s.updDmc n f).brams = s.brams := rfl
@[simp] theorem State.updDmc_slices (s : State) (n : Nat) (f : DmcSt → DmcSt) : (s.updDmc n f).slices = s.slices := rfl
@[simp] theorem State.updDmc_ios (s : State) (n : Nat) (f : DmcSt → DmcSt) : (s.updDmc n f).ios = s.ios := rfl
@[simp] theorem State.updDmc_ghWait (s : State) (n : Nat) (f : DmcSt → DmcSt) : (s.updDmc n f).ghWait = s.ghWait := rfl
@[simp] theorem State.updDmc_fcgs (s : State) (n : Nat) (f : DmcSt → DmcSt) : (s.updDmc n f).fcgs = s.fcgs := rfl
@[simp] theorem State.updDmc_load (s : State) (n : Nat) (f : DmcSt → DmcSt) : (s.updDmc n f).load = s.load := rfl
@[simp] theorem State.updDmc_fuses (s : State) (n : Nat) (f : DmcSt → DmcSt) : (s.updDmc n f).fuses = s.fuses := rfl
@[simp] theorem State.updDmc_svn (s : State) (n : Nat) (f : DmcSt → DmcSt) : (s.updDmc n f).svn = s.svn := rfl
@[simp] theorem State.updDmc_fuseArm (s : State) (n : Nat) (f : DmcSt → DmcSt) : (s.updDmc n f).fuseArm = s.fuseArm := rfl
@[simp] theorem State.updDmc_boot (s : State) (n : Nat) (f : DmcSt → DmcSt) : (s.updDmc n f).boot = s.boot := rfl
@[simp] theorem State.updDmc_strapOver (s : State) (n : Nat) (f : DmcSt → DmcSt) : (s.updDmc n f).strapOver = s.strapOver := rfl
@[simp] theorem State.updDmc_attest (s : State) (n : Nat) (f : DmcSt → DmcSt) : (s.updDmc n f).attest = s.attest := rfl
@[simp] theorem State.updDmc_report (s : State) (n : Nat) (f : DmcSt → DmcSt) : (s.updDmc n f).report = s.report := rfl
@[simp] theorem State.updDmc_cfgMeas (s : State) (n : Nat) (f : DmcSt → DmcSt) : (s.updDmc n f).cfgMeas = s.cfgMeas := rfl
@[simp] theorem State.updDmc_prChain (s : State) (n : Nat) (f : DmcSt → DmcSt) : (s.updDmc n f).prChain = s.prChain := rfl
@[simp] theorem State.updDmc_vcore (s : State) (n : Nat) (f : DmcSt → DmcSt) : (s.updDmc n f).vcore = s.vcore := rfl
@[simp] theorem State.updDmc_hj (s : State) (n : Nat) (f : DmcSt → DmcSt) : (s.updDmc n f).hj = s.hj := rfl
@[simp] theorem State.updDmc_edge (s : State) (n : Nat) (f : DmcSt → DmcSt) : (s.updDmc n f).edge = s.edge := rfl
@[simp] theorem State.updDmc_lineHi (s : State) (n : Nat) (f : DmcSt → DmcSt) : (s.updDmc n f).lineHi = s.lineHi := rfl
@[simp] theorem State.updDmc_gateOff (s : State) (n : Nat) (f : DmcSt → DmcSt) : (s.updDmc n f).gateOff = s.gateOff := rfl
@[simp] theorem State.updDmc_pins (s : State) (n : Nat) (f : DmcSt → DmcSt) : (s.updDmc n f).pins = s.pins := rfl
@[simp] theorem State.updDmc_padExt (s : State) (n : Nat) (f : DmcSt → DmcSt) : (s.updDmc n f).padExt = s.padExt := rfl
@[simp] theorem State.updDmc_retKey (s : State) (n : Nat) (f : DmcSt → DmcSt) : (s.updDmc n f).retKey = s.retKey := rfl
@[simp] theorem State.updDmc_frameCrcs (s : State) (n : Nat) (f : DmcSt → DmcSt) : (s.updDmc n f).frameCrcs = s.frameCrcs := rfl
@[simp] theorem State.updDmc_prnExcl (s : State) (n : Nat) (f : DmcSt → DmcSt) : (s.updDmc n f).prnExcl = s.prnExcl := rfl

/-! ## updTime changes time -/

@[simp] theorem State.updTime_pending (s : State) (f : TimeSt → TimeSt) : (s.updTime f).pending = s.pending := rfl
@[simp] theorem State.updTime_por (s : State) (f : TimeSt → TimeSt) : (s.updTime f).por = s.por := rfl
@[simp] theorem State.updTime_ticks (s : State) (f : TimeSt → TimeSt) : (s.updTime f).ticks = s.ticks := rfl
@[simp] theorem State.updTime_fresh (s : State) (f : TimeSt → TimeSt) : (s.updTime f).fresh = s.fresh := rfl
@[simp] theorem State.updTime_regs (s : State) (f : TimeSt → TimeSt) : (s.updTime f).regs = s.regs := rfl
@[simp] theorem State.updTime_latches (s : State) (f : TimeSt → TimeSt) : (s.updTime f).latches = s.latches := rfl
@[simp] theorem State.updTime_holds (s : State) (f : TimeSt → TimeSt) : (s.updTime f).holds = s.holds := rfl
@[simp] theorem State.updTime_bus (s : State) (f : TimeSt → TimeSt) : (s.updTime f).bus = s.bus := rfl
@[simp] theorem State.updTime_out (s : State) (f : TimeSt → TimeSt) : (s.updTime f).out = s.out := rfl
@[simp] theorem State.updTime_heldOut (s : State) (f : TimeSt → TimeSt) : (s.updTime f).heldOut = s.heldOut := rfl
@[simp] theorem State.updTime_fns (s : State) (f : TimeSt → TimeSt) : (s.updTime f).fns = s.fns := rfl
@[simp] theorem State.updTime_ctxs (s : State) (f : TimeSt → TimeSt) : (s.updTime f).ctxs = s.ctxs := rfl
@[simp] theorem State.updTime_clks (s : State) (f : TimeSt → TimeSt) : (s.updTime f).clks = s.clks := rfl
@[simp] theorem State.updTime_agents (s : State) (f : TimeSt → TimeSt) : (s.updTime f).agents = s.agents := rfl
@[simp] theorem State.updTime_reports (s : State) (f : TimeSt → TimeSt) : (s.updTime f).reports = s.reports := rfl
@[simp] theorem State.updTime_engs (s : State) (f : TimeSt → TimeSt) : (s.updTime f).engs = s.engs := rfl
@[simp] theorem State.updTime_bays (s : State) (f : TimeSt → TimeSt) : (s.updTime f).bays = s.bays := rfl
@[simp] theorem State.updTime_fcc (s : State) (f : TimeSt → TimeSt) : (s.updTime f).fcc = s.fcc := rfl
@[simp] theorem State.updTime_chans (s : State) (f : TimeSt → TimeSt) : (s.updTime f).chans = s.chans := rfl
@[simp] theorem State.updTime_ssgs (s : State) (f : TimeSt → TimeSt) : (s.updTime f).ssgs = s.ssgs := rfl
@[simp] theorem State.updTime_seqMem (s : State) (f : TimeSt → TimeSt) : (s.updTime f).seqMem = s.seqMem := rfl
@[simp] theorem State.updTime_seqUnread (s : State) (f : TimeSt → TimeSt) : (s.updTime f).seqUnread = s.seqUnread := rfl
@[simp] theorem State.updTime_seqPos (s : State) (f : TimeSt → TimeSt) : (s.updTime f).seqPos = s.seqPos := rfl
@[simp] theorem State.updTime_fsets (s : State) (f : TimeSt → TimeSt) : (s.updTime f).fsets = s.fsets := rfl
@[simp] theorem State.updTime_lmaps (s : State) (f : TimeSt → TimeSt) : (s.updTime f).lmaps = s.lmaps := rfl
@[simp] theorem State.updTime_scr (s : State) (f : TimeSt → TimeSt) : (s.updTime f).scr = s.scr := rfl
@[simp] theorem State.updTime_tsets (s : State) (f : TimeSt → TimeSt) : (s.updTime f).tsets = s.tsets := rfl
@[simp] theorem State.updTime_calRecs (s : State) (f : TimeSt → TimeSt) : (s.updTime f).calRecs = s.calRecs := rfl
@[simp] theorem State.updTime_ports (s : State) (f : TimeSt → TimeSt) : (s.updTime f).ports = s.ports := rfl
@[simp] theorem State.updTime_bankMem (s : State) (f : TimeSt → TimeSt) : (s.updTime f).bankMem = s.bankMem := rfl
@[simp] theorem State.updTime_banks (s : State) (f : TimeSt → TimeSt) : (s.updTime f).banks = s.banks := rfl
@[simp] theorem State.updTime_dram (s : State) (f : TimeSt → TimeSt) : (s.updTime f).dram = s.dram := rfl
@[simp] theorem State.updTime_poison (s : State) (f : TimeSt → TimeSt) : (s.updTime f).poison = s.poison := rfl
@[simp] theorem State.updTime_startFold (s : State) (f : TimeSt → TimeSt) : (s.updTime f).startFold = s.startFold := rfl
@[simp] theorem State.updTime_restoring (s : State) (f : TimeSt → TimeSt) : (s.updTime f).restoring = s.restoring := rfl
@[simp] theorem State.updTime_dmcs (s : State) (f : TimeSt → TimeSt) : (s.updTime f).dmcs = s.dmcs := rfl
@[simp] theorem State.updTime_tb (s : State) (f : TimeSt → TimeSt) : (s.updTime f).tb = s.tb := rfl
@[simp] theorem State.updTime_trcs (s : State) (f : TimeSt → TimeSt) : (s.updTime f).trcs = s.trcs := rfl
@[simp] theorem State.updTime_sups (s : State) (f : TimeSt → TimeSt) : (s.updTime f).sups = s.sups := rfl
@[simp] theorem State.updTime_vccCh (s : State) (f : TimeSt → TimeSt) : (s.updTime f).vccCh = s.vccCh := rfl
@[simp] theorem State.updTime_drives (s : State) (f : TimeSt → TimeSt) : (s.updTime f).drives = s.drives := rfl
@[simp] theorem State.updTime_hbMiss (s : State) (f : TimeSt → TimeSt) : (s.updTime f).hbMiss = s.hbMiss := rfl
@[simp] theorem State.updTime_ownEp (s : State) (f : TimeSt → TimeSt) : (s.updTime f).ownEp = s.ownEp := rfl
@[simp] theorem State.updTime_talk (s : State) (f : TimeSt → TimeSt) : (s.updTime f).talk = s.talk := rfl
@[simp] theorem State.updTime_substs (s : State) (f : TimeSt → TimeSt) : (s.updTime f).substs = s.substs := rfl
@[simp] theorem State.updTime_snap (s : State) (f : TimeSt → TimeSt) : (s.updTime f).snap = s.snap := rfl
@[simp] theorem State.updTime_time (s : State) (f : TimeSt → TimeSt) : (s.updTime f).time = f s.time := rfl
@[simp] theorem State.updTime_hostReady (s : State) (f : TimeSt → TimeSt) : (s.updTime f).hostReady = s.hostReady := rfl
@[simp] theorem State.updTime_nis (s : State) (f : TimeSt → TimeSt) : (s.updTime f).nis = s.nis := rfl
@[simp] theorem State.updTime_flights (s : State) (f : TimeSt → TimeSt) : (s.updTime f).flights = s.flights := rfl
@[simp] theorem State.updTime_routes (s : State) (f : TimeSt → TimeSt) : (s.updTime f).routes = s.routes := rfl
@[simp] theorem State.updTime_dirc (s : State) (f : TimeSt → TimeSt) : (s.updTime f).dirc = s.dirc := rfl
@[simp] theorem State.updTime_bankJoins (s : State) (f : TimeSt → TimeSt) : (s.updTime f).bankJoins = s.bankJoins := rfl
@[simp] theorem State.updTime_joinNo (s : State) (f : TimeSt → TimeSt) : (s.updTime f).joinNo = s.joinNo := rfl
@[simp] theorem State.updTime_homes (s : State) (f : TimeSt → TimeSt) : (s.updTime f).homes = s.homes := rfl
@[simp] theorem State.updTime_fabHeld (s : State) (f : TimeSt → TimeSt) : (s.updTime f).fabHeld = s.fabHeld := rfl
@[simp] theorem State.updTime_bankUe (s : State) (f : TimeSt → TimeSt) : (s.updTime f).bankUe = s.bankUe := rfl
@[simp] theorem State.updTime_fcfg (s : State) (f : TimeSt → TimeSt) : (s.updTime f).fcfg = s.fcfg := rfl
@[simp] theorem State.updTime_bramInit (s : State) (f : TimeSt → TimeSt) : (s.updTime f).bramInit = s.bramInit := rfl
@[simp] theorem State.updTime_bramX (s : State) (f : TimeSt → TimeSt) : (s.updTime f).bramX = s.bramX := rfl
@[simp] theorem State.updTime_ffX (s : State) (f : TimeSt → TimeSt) : (s.updTime f).ffX = s.ffX := rfl
@[simp] theorem State.updTime_brams (s : State) (f : TimeSt → TimeSt) : (s.updTime f).brams = s.brams := rfl
@[simp] theorem State.updTime_slices (s : State) (f : TimeSt → TimeSt) : (s.updTime f).slices = s.slices := rfl
@[simp] theorem State.updTime_ios (s : State) (f : TimeSt → TimeSt) : (s.updTime f).ios = s.ios := rfl
@[simp] theorem State.updTime_ghWait (s : State) (f : TimeSt → TimeSt) : (s.updTime f).ghWait = s.ghWait := rfl
@[simp] theorem State.updTime_fcgs (s : State) (f : TimeSt → TimeSt) : (s.updTime f).fcgs = s.fcgs := rfl
@[simp] theorem State.updTime_load (s : State) (f : TimeSt → TimeSt) : (s.updTime f).load = s.load := rfl
@[simp] theorem State.updTime_fuses (s : State) (f : TimeSt → TimeSt) : (s.updTime f).fuses = s.fuses := rfl
@[simp] theorem State.updTime_svn (s : State) (f : TimeSt → TimeSt) : (s.updTime f).svn = s.svn := rfl
@[simp] theorem State.updTime_fuseArm (s : State) (f : TimeSt → TimeSt) : (s.updTime f).fuseArm = s.fuseArm := rfl
@[simp] theorem State.updTime_boot (s : State) (f : TimeSt → TimeSt) : (s.updTime f).boot = s.boot := rfl
@[simp] theorem State.updTime_strapOver (s : State) (f : TimeSt → TimeSt) : (s.updTime f).strapOver = s.strapOver := rfl
@[simp] theorem State.updTime_attest (s : State) (f : TimeSt → TimeSt) : (s.updTime f).attest = s.attest := rfl
@[simp] theorem State.updTime_report (s : State) (f : TimeSt → TimeSt) : (s.updTime f).report = s.report := rfl
@[simp] theorem State.updTime_cfgMeas (s : State) (f : TimeSt → TimeSt) : (s.updTime f).cfgMeas = s.cfgMeas := rfl
@[simp] theorem State.updTime_prChain (s : State) (f : TimeSt → TimeSt) : (s.updTime f).prChain = s.prChain := rfl
@[simp] theorem State.updTime_vcore (s : State) (f : TimeSt → TimeSt) : (s.updTime f).vcore = s.vcore := rfl
@[simp] theorem State.updTime_hj (s : State) (f : TimeSt → TimeSt) : (s.updTime f).hj = s.hj := rfl
@[simp] theorem State.updTime_edge (s : State) (f : TimeSt → TimeSt) : (s.updTime f).edge = s.edge := rfl
@[simp] theorem State.updTime_lineHi (s : State) (f : TimeSt → TimeSt) : (s.updTime f).lineHi = s.lineHi := rfl
@[simp] theorem State.updTime_gateOff (s : State) (f : TimeSt → TimeSt) : (s.updTime f).gateOff = s.gateOff := rfl
@[simp] theorem State.updTime_pins (s : State) (f : TimeSt → TimeSt) : (s.updTime f).pins = s.pins := rfl
@[simp] theorem State.updTime_padExt (s : State) (f : TimeSt → TimeSt) : (s.updTime f).padExt = s.padExt := rfl
@[simp] theorem State.updTime_retKey (s : State) (f : TimeSt → TimeSt) : (s.updTime f).retKey = s.retKey := rfl
@[simp] theorem State.updTime_frameCrcs (s : State) (f : TimeSt → TimeSt) : (s.updTime f).frameCrcs = s.frameCrcs := rfl
@[simp] theorem State.updTime_prnExcl (s : State) (f : TimeSt → TimeSt) : (s.updTime f).prnExcl = s.prnExcl := rfl

/-! ## setTb changes tb -/

@[simp] theorem State.setTb_pending (s : State) (h : Nat) (t : Tb) : (s.setTb h t).pending = s.pending := rfl
@[simp] theorem State.setTb_por (s : State) (h : Nat) (t : Tb) : (s.setTb h t).por = s.por := rfl
@[simp] theorem State.setTb_ticks (s : State) (h : Nat) (t : Tb) : (s.setTb h t).ticks = s.ticks := rfl
@[simp] theorem State.setTb_fresh (s : State) (h : Nat) (t : Tb) : (s.setTb h t).fresh = s.fresh := rfl
@[simp] theorem State.setTb_regs (s : State) (h : Nat) (t : Tb) : (s.setTb h t).regs = s.regs := rfl
@[simp] theorem State.setTb_latches (s : State) (h : Nat) (t : Tb) : (s.setTb h t).latches = s.latches := rfl
@[simp] theorem State.setTb_holds (s : State) (h : Nat) (t : Tb) : (s.setTb h t).holds = s.holds := rfl
@[simp] theorem State.setTb_bus (s : State) (h : Nat) (t : Tb) : (s.setTb h t).bus = s.bus := rfl
@[simp] theorem State.setTb_out (s : State) (h : Nat) (t : Tb) : (s.setTb h t).out = s.out := rfl
@[simp] theorem State.setTb_heldOut (s : State) (h : Nat) (t : Tb) : (s.setTb h t).heldOut = s.heldOut := rfl
@[simp] theorem State.setTb_fns (s : State) (h : Nat) (t : Tb) : (s.setTb h t).fns = s.fns := rfl
@[simp] theorem State.setTb_ctxs (s : State) (h : Nat) (t : Tb) : (s.setTb h t).ctxs = s.ctxs := rfl
@[simp] theorem State.setTb_clks (s : State) (h : Nat) (t : Tb) : (s.setTb h t).clks = s.clks := rfl
@[simp] theorem State.setTb_agents (s : State) (h : Nat) (t : Tb) : (s.setTb h t).agents = s.agents := rfl
@[simp] theorem State.setTb_reports (s : State) (h : Nat) (t : Tb) : (s.setTb h t).reports = s.reports := rfl
@[simp] theorem State.setTb_engs (s : State) (h : Nat) (t : Tb) : (s.setTb h t).engs = s.engs := rfl
@[simp] theorem State.setTb_bays (s : State) (h : Nat) (t : Tb) : (s.setTb h t).bays = s.bays := rfl
@[simp] theorem State.setTb_fcc (s : State) (h : Nat) (t : Tb) : (s.setTb h t).fcc = s.fcc := rfl
@[simp] theorem State.setTb_chans (s : State) (h : Nat) (t : Tb) : (s.setTb h t).chans = s.chans := rfl
@[simp] theorem State.setTb_ssgs (s : State) (h : Nat) (t : Tb) : (s.setTb h t).ssgs = s.ssgs := rfl
@[simp] theorem State.setTb_seqMem (s : State) (h : Nat) (t : Tb) : (s.setTb h t).seqMem = s.seqMem := rfl
@[simp] theorem State.setTb_seqUnread (s : State) (h : Nat) (t : Tb) : (s.setTb h t).seqUnread = s.seqUnread := rfl
@[simp] theorem State.setTb_seqPos (s : State) (h : Nat) (t : Tb) : (s.setTb h t).seqPos = s.seqPos := rfl
@[simp] theorem State.setTb_fsets (s : State) (h : Nat) (t : Tb) : (s.setTb h t).fsets = s.fsets := rfl
@[simp] theorem State.setTb_lmaps (s : State) (h : Nat) (t : Tb) : (s.setTb h t).lmaps = s.lmaps := rfl
@[simp] theorem State.setTb_scr (s : State) (h : Nat) (t : Tb) : (s.setTb h t).scr = s.scr := rfl
@[simp] theorem State.setTb_tsets (s : State) (h : Nat) (t : Tb) : (s.setTb h t).tsets = s.tsets := rfl
@[simp] theorem State.setTb_calRecs (s : State) (h : Nat) (t : Tb) : (s.setTb h t).calRecs = s.calRecs := rfl
@[simp] theorem State.setTb_ports (s : State) (h : Nat) (t : Tb) : (s.setTb h t).ports = s.ports := rfl
@[simp] theorem State.setTb_bankMem (s : State) (h : Nat) (t : Tb) : (s.setTb h t).bankMem = s.bankMem := rfl
@[simp] theorem State.setTb_banks (s : State) (h : Nat) (t : Tb) : (s.setTb h t).banks = s.banks := rfl
@[simp] theorem State.setTb_dram (s : State) (h : Nat) (t : Tb) : (s.setTb h t).dram = s.dram := rfl
@[simp] theorem State.setTb_poison (s : State) (h : Nat) (t : Tb) : (s.setTb h t).poison = s.poison := rfl
@[simp] theorem State.setTb_startFold (s : State) (h : Nat) (t : Tb) : (s.setTb h t).startFold = s.startFold := rfl
@[simp] theorem State.setTb_restoring (s : State) (h : Nat) (t : Tb) : (s.setTb h t).restoring = s.restoring := rfl
@[simp] theorem State.setTb_dmcs (s : State) (h : Nat) (t : Tb) : (s.setTb h t).dmcs = s.dmcs := rfl
@[simp] theorem State.setTb_tb (s : State) (h : Nat) (t : Tb) : (s.setTb h t).tb = Table.set Tb.reset s.tb h t := rfl
@[simp] theorem State.setTb_trcs (s : State) (h : Nat) (t : Tb) : (s.setTb h t).trcs = s.trcs := rfl
@[simp] theorem State.setTb_sups (s : State) (h : Nat) (t : Tb) : (s.setTb h t).sups = s.sups := rfl
@[simp] theorem State.setTb_vccCh (s : State) (h : Nat) (t : Tb) : (s.setTb h t).vccCh = s.vccCh := rfl
@[simp] theorem State.setTb_drives (s : State) (h : Nat) (t : Tb) : (s.setTb h t).drives = s.drives := rfl
@[simp] theorem State.setTb_hbMiss (s : State) (h : Nat) (t : Tb) : (s.setTb h t).hbMiss = s.hbMiss := rfl
@[simp] theorem State.setTb_ownEp (s : State) (h : Nat) (t : Tb) : (s.setTb h t).ownEp = s.ownEp := rfl
@[simp] theorem State.setTb_talk (s : State) (h : Nat) (t : Tb) : (s.setTb h t).talk = s.talk := rfl
@[simp] theorem State.setTb_substs (s : State) (h : Nat) (t : Tb) : (s.setTb h t).substs = s.substs := rfl
@[simp] theorem State.setTb_snap (s : State) (h : Nat) (t : Tb) : (s.setTb h t).snap = s.snap := rfl
@[simp] theorem State.setTb_time (s : State) (h : Nat) (t : Tb) : (s.setTb h t).time = s.time := rfl
@[simp] theorem State.setTb_hostReady (s : State) (h : Nat) (t : Tb) : (s.setTb h t).hostReady = s.hostReady := rfl
@[simp] theorem State.setTb_nis (s : State) (h : Nat) (t : Tb) : (s.setTb h t).nis = s.nis := rfl
@[simp] theorem State.setTb_flights (s : State) (h : Nat) (t : Tb) : (s.setTb h t).flights = s.flights := rfl
@[simp] theorem State.setTb_routes (s : State) (h : Nat) (t : Tb) : (s.setTb h t).routes = s.routes := rfl
@[simp] theorem State.setTb_dirc (s : State) (h : Nat) (t : Tb) : (s.setTb h t).dirc = s.dirc := rfl
@[simp] theorem State.setTb_bankJoins (s : State) (h : Nat) (t : Tb) : (s.setTb h t).bankJoins = s.bankJoins := rfl
@[simp] theorem State.setTb_joinNo (s : State) (h : Nat) (t : Tb) : (s.setTb h t).joinNo = s.joinNo := rfl
@[simp] theorem State.setTb_homes (s : State) (h : Nat) (t : Tb) : (s.setTb h t).homes = s.homes := rfl
@[simp] theorem State.setTb_fabHeld (s : State) (h : Nat) (t : Tb) : (s.setTb h t).fabHeld = s.fabHeld := rfl
@[simp] theorem State.setTb_bankUe (s : State) (h : Nat) (t : Tb) : (s.setTb h t).bankUe = s.bankUe := rfl
@[simp] theorem State.setTb_fcfg (s : State) (h : Nat) (t : Tb) : (s.setTb h t).fcfg = s.fcfg := rfl
@[simp] theorem State.setTb_bramInit (s : State) (h : Nat) (t : Tb) : (s.setTb h t).bramInit = s.bramInit := rfl
@[simp] theorem State.setTb_bramX (s : State) (h : Nat) (t : Tb) : (s.setTb h t).bramX = s.bramX := rfl
@[simp] theorem State.setTb_ffX (s : State) (h : Nat) (t : Tb) : (s.setTb h t).ffX = s.ffX := rfl
@[simp] theorem State.setTb_brams (s : State) (h : Nat) (t : Tb) : (s.setTb h t).brams = s.brams := rfl
@[simp] theorem State.setTb_slices (s : State) (h : Nat) (t : Tb) : (s.setTb h t).slices = s.slices := rfl
@[simp] theorem State.setTb_ios (s : State) (h : Nat) (t : Tb) : (s.setTb h t).ios = s.ios := rfl
@[simp] theorem State.setTb_ghWait (s : State) (h : Nat) (t : Tb) : (s.setTb h t).ghWait = s.ghWait := rfl
@[simp] theorem State.setTb_fcgs (s : State) (h : Nat) (t : Tb) : (s.setTb h t).fcgs = s.fcgs := rfl
@[simp] theorem State.setTb_load (s : State) (h : Nat) (t : Tb) : (s.setTb h t).load = s.load := rfl
@[simp] theorem State.setTb_fuses (s : State) (h : Nat) (t : Tb) : (s.setTb h t).fuses = s.fuses := rfl
@[simp] theorem State.setTb_svn (s : State) (h : Nat) (t : Tb) : (s.setTb h t).svn = s.svn := rfl
@[simp] theorem State.setTb_fuseArm (s : State) (h : Nat) (t : Tb) : (s.setTb h t).fuseArm = s.fuseArm := rfl
@[simp] theorem State.setTb_boot (s : State) (h : Nat) (t : Tb) : (s.setTb h t).boot = s.boot := rfl
@[simp] theorem State.setTb_strapOver (s : State) (h : Nat) (t : Tb) : (s.setTb h t).strapOver = s.strapOver := rfl
@[simp] theorem State.setTb_attest (s : State) (h : Nat) (t : Tb) : (s.setTb h t).attest = s.attest := rfl
@[simp] theorem State.setTb_report (s : State) (h : Nat) (t : Tb) : (s.setTb h t).report = s.report := rfl
@[simp] theorem State.setTb_cfgMeas (s : State) (h : Nat) (t : Tb) : (s.setTb h t).cfgMeas = s.cfgMeas := rfl
@[simp] theorem State.setTb_prChain (s : State) (h : Nat) (t : Tb) : (s.setTb h t).prChain = s.prChain := rfl
@[simp] theorem State.setTb_vcore (s : State) (h : Nat) (t : Tb) : (s.setTb h t).vcore = s.vcore := rfl
@[simp] theorem State.setTb_hj (s : State) (h : Nat) (t : Tb) : (s.setTb h t).hj = s.hj := rfl
@[simp] theorem State.setTb_edge (s : State) (h : Nat) (t : Tb) : (s.setTb h t).edge = s.edge := rfl
@[simp] theorem State.setTb_lineHi (s : State) (h : Nat) (t : Tb) : (s.setTb h t).lineHi = s.lineHi := rfl
@[simp] theorem State.setTb_gateOff (s : State) (h : Nat) (t : Tb) : (s.setTb h t).gateOff = s.gateOff := rfl
@[simp] theorem State.setTb_pins (s : State) (h : Nat) (t : Tb) : (s.setTb h t).pins = s.pins := rfl
@[simp] theorem State.setTb_padExt (s : State) (h : Nat) (t : Tb) : (s.setTb h t).padExt = s.padExt := rfl
@[simp] theorem State.setTb_retKey (s : State) (h : Nat) (t : Tb) : (s.setTb h t).retKey = s.retKey := rfl
@[simp] theorem State.setTb_frameCrcs (s : State) (h : Nat) (t : Tb) : (s.setTb h t).frameCrcs = s.frameCrcs := rfl
@[simp] theorem State.setTb_prnExcl (s : State) (h : Nat) (t : Tb) : (s.setTb h t).prnExcl = s.prnExcl := rfl

/-! ## updNi changes nis -/

@[simp] theorem State.updNi_pending (s : State) (id : Nat) (f : NiSt → NiSt) : (s.updNi id f).pending = s.pending := rfl
@[simp] theorem State.updNi_por (s : State) (id : Nat) (f : NiSt → NiSt) : (s.updNi id f).por = s.por := rfl
@[simp] theorem State.updNi_ticks (s : State) (id : Nat) (f : NiSt → NiSt) : (s.updNi id f).ticks = s.ticks := rfl
@[simp] theorem State.updNi_fresh (s : State) (id : Nat) (f : NiSt → NiSt) : (s.updNi id f).fresh = s.fresh := rfl
@[simp] theorem State.updNi_regs (s : State) (id : Nat) (f : NiSt → NiSt) : (s.updNi id f).regs = s.regs := rfl
@[simp] theorem State.updNi_latches (s : State) (id : Nat) (f : NiSt → NiSt) : (s.updNi id f).latches = s.latches := rfl
@[simp] theorem State.updNi_holds (s : State) (id : Nat) (f : NiSt → NiSt) : (s.updNi id f).holds = s.holds := rfl
@[simp] theorem State.updNi_bus (s : State) (id : Nat) (f : NiSt → NiSt) : (s.updNi id f).bus = s.bus := rfl
@[simp] theorem State.updNi_out (s : State) (id : Nat) (f : NiSt → NiSt) : (s.updNi id f).out = s.out := rfl
@[simp] theorem State.updNi_heldOut (s : State) (id : Nat) (f : NiSt → NiSt) : (s.updNi id f).heldOut = s.heldOut := rfl
@[simp] theorem State.updNi_fns (s : State) (id : Nat) (f : NiSt → NiSt) : (s.updNi id f).fns = s.fns := rfl
@[simp] theorem State.updNi_ctxs (s : State) (id : Nat) (f : NiSt → NiSt) : (s.updNi id f).ctxs = s.ctxs := rfl
@[simp] theorem State.updNi_clks (s : State) (id : Nat) (f : NiSt → NiSt) : (s.updNi id f).clks = s.clks := rfl
@[simp] theorem State.updNi_agents (s : State) (id : Nat) (f : NiSt → NiSt) : (s.updNi id f).agents = s.agents := rfl
@[simp] theorem State.updNi_reports (s : State) (id : Nat) (f : NiSt → NiSt) : (s.updNi id f).reports = s.reports := rfl
@[simp] theorem State.updNi_engs (s : State) (id : Nat) (f : NiSt → NiSt) : (s.updNi id f).engs = s.engs := rfl
@[simp] theorem State.updNi_bays (s : State) (id : Nat) (f : NiSt → NiSt) : (s.updNi id f).bays = s.bays := rfl
@[simp] theorem State.updNi_fcc (s : State) (id : Nat) (f : NiSt → NiSt) : (s.updNi id f).fcc = s.fcc := rfl
@[simp] theorem State.updNi_chans (s : State) (id : Nat) (f : NiSt → NiSt) : (s.updNi id f).chans = s.chans := rfl
@[simp] theorem State.updNi_ssgs (s : State) (id : Nat) (f : NiSt → NiSt) : (s.updNi id f).ssgs = s.ssgs := rfl
@[simp] theorem State.updNi_seqMem (s : State) (id : Nat) (f : NiSt → NiSt) : (s.updNi id f).seqMem = s.seqMem := rfl
@[simp] theorem State.updNi_seqUnread (s : State) (id : Nat) (f : NiSt → NiSt) : (s.updNi id f).seqUnread = s.seqUnread := rfl
@[simp] theorem State.updNi_seqPos (s : State) (id : Nat) (f : NiSt → NiSt) : (s.updNi id f).seqPos = s.seqPos := rfl
@[simp] theorem State.updNi_fsets (s : State) (id : Nat) (f : NiSt → NiSt) : (s.updNi id f).fsets = s.fsets := rfl
@[simp] theorem State.updNi_lmaps (s : State) (id : Nat) (f : NiSt → NiSt) : (s.updNi id f).lmaps = s.lmaps := rfl
@[simp] theorem State.updNi_scr (s : State) (id : Nat) (f : NiSt → NiSt) : (s.updNi id f).scr = s.scr := rfl
@[simp] theorem State.updNi_tsets (s : State) (id : Nat) (f : NiSt → NiSt) : (s.updNi id f).tsets = s.tsets := rfl
@[simp] theorem State.updNi_calRecs (s : State) (id : Nat) (f : NiSt → NiSt) : (s.updNi id f).calRecs = s.calRecs := rfl
@[simp] theorem State.updNi_ports (s : State) (id : Nat) (f : NiSt → NiSt) : (s.updNi id f).ports = s.ports := rfl
@[simp] theorem State.updNi_bankMem (s : State) (id : Nat) (f : NiSt → NiSt) : (s.updNi id f).bankMem = s.bankMem := rfl
@[simp] theorem State.updNi_banks (s : State) (id : Nat) (f : NiSt → NiSt) : (s.updNi id f).banks = s.banks := rfl
@[simp] theorem State.updNi_dram (s : State) (id : Nat) (f : NiSt → NiSt) : (s.updNi id f).dram = s.dram := rfl
@[simp] theorem State.updNi_poison (s : State) (id : Nat) (f : NiSt → NiSt) : (s.updNi id f).poison = s.poison := rfl
@[simp] theorem State.updNi_startFold (s : State) (id : Nat) (f : NiSt → NiSt) : (s.updNi id f).startFold = s.startFold := rfl
@[simp] theorem State.updNi_restoring (s : State) (id : Nat) (f : NiSt → NiSt) : (s.updNi id f).restoring = s.restoring := rfl
@[simp] theorem State.updNi_dmcs (s : State) (id : Nat) (f : NiSt → NiSt) : (s.updNi id f).dmcs = s.dmcs := rfl
@[simp] theorem State.updNi_tb (s : State) (id : Nat) (f : NiSt → NiSt) : (s.updNi id f).tb = s.tb := rfl
@[simp] theorem State.updNi_trcs (s : State) (id : Nat) (f : NiSt → NiSt) : (s.updNi id f).trcs = s.trcs := rfl
@[simp] theorem State.updNi_sups (s : State) (id : Nat) (f : NiSt → NiSt) : (s.updNi id f).sups = s.sups := rfl
@[simp] theorem State.updNi_vccCh (s : State) (id : Nat) (f : NiSt → NiSt) : (s.updNi id f).vccCh = s.vccCh := rfl
@[simp] theorem State.updNi_drives (s : State) (id : Nat) (f : NiSt → NiSt) : (s.updNi id f).drives = s.drives := rfl
@[simp] theorem State.updNi_hbMiss (s : State) (id : Nat) (f : NiSt → NiSt) : (s.updNi id f).hbMiss = s.hbMiss := rfl
@[simp] theorem State.updNi_ownEp (s : State) (id : Nat) (f : NiSt → NiSt) : (s.updNi id f).ownEp = s.ownEp := rfl
@[simp] theorem State.updNi_talk (s : State) (id : Nat) (f : NiSt → NiSt) : (s.updNi id f).talk = s.talk := rfl
@[simp] theorem State.updNi_substs (s : State) (id : Nat) (f : NiSt → NiSt) : (s.updNi id f).substs = s.substs := rfl
@[simp] theorem State.updNi_snap (s : State) (id : Nat) (f : NiSt → NiSt) : (s.updNi id f).snap = s.snap := rfl
@[simp] theorem State.updNi_time (s : State) (id : Nat) (f : NiSt → NiSt) : (s.updNi id f).time = s.time := rfl
@[simp] theorem State.updNi_hostReady (s : State) (id : Nat) (f : NiSt → NiSt) : (s.updNi id f).hostReady = s.hostReady := rfl
@[simp] theorem State.updNi_nis (s : State) (id : Nat) (f : NiSt → NiSt) : (s.updNi id f).nis = Table.upd NiSt.reset s.nis id f := rfl
@[simp] theorem State.updNi_flights (s : State) (id : Nat) (f : NiSt → NiSt) : (s.updNi id f).flights = s.flights := rfl
@[simp] theorem State.updNi_routes (s : State) (id : Nat) (f : NiSt → NiSt) : (s.updNi id f).routes = s.routes := rfl
@[simp] theorem State.updNi_dirc (s : State) (id : Nat) (f : NiSt → NiSt) : (s.updNi id f).dirc = s.dirc := rfl
@[simp] theorem State.updNi_bankJoins (s : State) (id : Nat) (f : NiSt → NiSt) : (s.updNi id f).bankJoins = s.bankJoins := rfl
@[simp] theorem State.updNi_joinNo (s : State) (id : Nat) (f : NiSt → NiSt) : (s.updNi id f).joinNo = s.joinNo := rfl
@[simp] theorem State.updNi_homes (s : State) (id : Nat) (f : NiSt → NiSt) : (s.updNi id f).homes = s.homes := rfl
@[simp] theorem State.updNi_fabHeld (s : State) (id : Nat) (f : NiSt → NiSt) : (s.updNi id f).fabHeld = s.fabHeld := rfl
@[simp] theorem State.updNi_bankUe (s : State) (id : Nat) (f : NiSt → NiSt) : (s.updNi id f).bankUe = s.bankUe := rfl
@[simp] theorem State.updNi_fcfg (s : State) (id : Nat) (f : NiSt → NiSt) : (s.updNi id f).fcfg = s.fcfg := rfl
@[simp] theorem State.updNi_bramInit (s : State) (id : Nat) (f : NiSt → NiSt) : (s.updNi id f).bramInit = s.bramInit := rfl
@[simp] theorem State.updNi_bramX (s : State) (id : Nat) (f : NiSt → NiSt) : (s.updNi id f).bramX = s.bramX := rfl
@[simp] theorem State.updNi_ffX (s : State) (id : Nat) (f : NiSt → NiSt) : (s.updNi id f).ffX = s.ffX := rfl
@[simp] theorem State.updNi_brams (s : State) (id : Nat) (f : NiSt → NiSt) : (s.updNi id f).brams = s.brams := rfl
@[simp] theorem State.updNi_slices (s : State) (id : Nat) (f : NiSt → NiSt) : (s.updNi id f).slices = s.slices := rfl
@[simp] theorem State.updNi_ios (s : State) (id : Nat) (f : NiSt → NiSt) : (s.updNi id f).ios = s.ios := rfl
@[simp] theorem State.updNi_ghWait (s : State) (id : Nat) (f : NiSt → NiSt) : (s.updNi id f).ghWait = s.ghWait := rfl
@[simp] theorem State.updNi_fcgs (s : State) (id : Nat) (f : NiSt → NiSt) : (s.updNi id f).fcgs = s.fcgs := rfl
@[simp] theorem State.updNi_load (s : State) (id : Nat) (f : NiSt → NiSt) : (s.updNi id f).load = s.load := rfl
@[simp] theorem State.updNi_fuses (s : State) (id : Nat) (f : NiSt → NiSt) : (s.updNi id f).fuses = s.fuses := rfl
@[simp] theorem State.updNi_svn (s : State) (id : Nat) (f : NiSt → NiSt) : (s.updNi id f).svn = s.svn := rfl
@[simp] theorem State.updNi_fuseArm (s : State) (id : Nat) (f : NiSt → NiSt) : (s.updNi id f).fuseArm = s.fuseArm := rfl
@[simp] theorem State.updNi_boot (s : State) (id : Nat) (f : NiSt → NiSt) : (s.updNi id f).boot = s.boot := rfl
@[simp] theorem State.updNi_strapOver (s : State) (id : Nat) (f : NiSt → NiSt) : (s.updNi id f).strapOver = s.strapOver := rfl
@[simp] theorem State.updNi_attest (s : State) (id : Nat) (f : NiSt → NiSt) : (s.updNi id f).attest = s.attest := rfl
@[simp] theorem State.updNi_report (s : State) (id : Nat) (f : NiSt → NiSt) : (s.updNi id f).report = s.report := rfl
@[simp] theorem State.updNi_cfgMeas (s : State) (id : Nat) (f : NiSt → NiSt) : (s.updNi id f).cfgMeas = s.cfgMeas := rfl
@[simp] theorem State.updNi_prChain (s : State) (id : Nat) (f : NiSt → NiSt) : (s.updNi id f).prChain = s.prChain := rfl
@[simp] theorem State.updNi_vcore (s : State) (id : Nat) (f : NiSt → NiSt) : (s.updNi id f).vcore = s.vcore := rfl
@[simp] theorem State.updNi_hj (s : State) (id : Nat) (f : NiSt → NiSt) : (s.updNi id f).hj = s.hj := rfl
@[simp] theorem State.updNi_edge (s : State) (id : Nat) (f : NiSt → NiSt) : (s.updNi id f).edge = s.edge := rfl
@[simp] theorem State.updNi_lineHi (s : State) (id : Nat) (f : NiSt → NiSt) : (s.updNi id f).lineHi = s.lineHi := rfl
@[simp] theorem State.updNi_gateOff (s : State) (id : Nat) (f : NiSt → NiSt) : (s.updNi id f).gateOff = s.gateOff := rfl
@[simp] theorem State.updNi_pins (s : State) (id : Nat) (f : NiSt → NiSt) : (s.updNi id f).pins = s.pins := rfl
@[simp] theorem State.updNi_padExt (s : State) (id : Nat) (f : NiSt → NiSt) : (s.updNi id f).padExt = s.padExt := rfl
@[simp] theorem State.updNi_retKey (s : State) (id : Nat) (f : NiSt → NiSt) : (s.updNi id f).retKey = s.retKey := rfl
@[simp] theorem State.updNi_frameCrcs (s : State) (id : Nat) (f : NiSt → NiSt) : (s.updNi id f).frameCrcs = s.frameCrcs := rfl
@[simp] theorem State.updNi_prnExcl (s : State) (id : Nat) (f : NiSt → NiSt) : (s.updNi id f).prnExcl = s.prnExcl := rfl

/-! ## updBank changes banks -/

@[simp] theorem State.updBank_pending (s : State) (h : Nat) (f : BankHalf → BankHalf) : (s.updBank h f).pending = s.pending := rfl
@[simp] theorem State.updBank_por (s : State) (h : Nat) (f : BankHalf → BankHalf) : (s.updBank h f).por = s.por := rfl
@[simp] theorem State.updBank_ticks (s : State) (h : Nat) (f : BankHalf → BankHalf) : (s.updBank h f).ticks = s.ticks := rfl
@[simp] theorem State.updBank_fresh (s : State) (h : Nat) (f : BankHalf → BankHalf) : (s.updBank h f).fresh = s.fresh := rfl
@[simp] theorem State.updBank_regs (s : State) (h : Nat) (f : BankHalf → BankHalf) : (s.updBank h f).regs = s.regs := rfl
@[simp] theorem State.updBank_latches (s : State) (h : Nat) (f : BankHalf → BankHalf) : (s.updBank h f).latches = s.latches := rfl
@[simp] theorem State.updBank_holds (s : State) (h : Nat) (f : BankHalf → BankHalf) : (s.updBank h f).holds = s.holds := rfl
@[simp] theorem State.updBank_bus (s : State) (h : Nat) (f : BankHalf → BankHalf) : (s.updBank h f).bus = s.bus := rfl
@[simp] theorem State.updBank_out (s : State) (h : Nat) (f : BankHalf → BankHalf) : (s.updBank h f).out = s.out := rfl
@[simp] theorem State.updBank_heldOut (s : State) (h : Nat) (f : BankHalf → BankHalf) : (s.updBank h f).heldOut = s.heldOut := rfl
@[simp] theorem State.updBank_fns (s : State) (h : Nat) (f : BankHalf → BankHalf) : (s.updBank h f).fns = s.fns := rfl
@[simp] theorem State.updBank_ctxs (s : State) (h : Nat) (f : BankHalf → BankHalf) : (s.updBank h f).ctxs = s.ctxs := rfl
@[simp] theorem State.updBank_clks (s : State) (h : Nat) (f : BankHalf → BankHalf) : (s.updBank h f).clks = s.clks := rfl
@[simp] theorem State.updBank_agents (s : State) (h : Nat) (f : BankHalf → BankHalf) : (s.updBank h f).agents = s.agents := rfl
@[simp] theorem State.updBank_reports (s : State) (h : Nat) (f : BankHalf → BankHalf) : (s.updBank h f).reports = s.reports := rfl
@[simp] theorem State.updBank_engs (s : State) (h : Nat) (f : BankHalf → BankHalf) : (s.updBank h f).engs = s.engs := rfl
@[simp] theorem State.updBank_bays (s : State) (h : Nat) (f : BankHalf → BankHalf) : (s.updBank h f).bays = s.bays := rfl
@[simp] theorem State.updBank_fcc (s : State) (h : Nat) (f : BankHalf → BankHalf) : (s.updBank h f).fcc = s.fcc := rfl
@[simp] theorem State.updBank_chans (s : State) (h : Nat) (f : BankHalf → BankHalf) : (s.updBank h f).chans = s.chans := rfl
@[simp] theorem State.updBank_ssgs (s : State) (h : Nat) (f : BankHalf → BankHalf) : (s.updBank h f).ssgs = s.ssgs := rfl
@[simp] theorem State.updBank_seqMem (s : State) (h : Nat) (f : BankHalf → BankHalf) : (s.updBank h f).seqMem = s.seqMem := rfl
@[simp] theorem State.updBank_seqUnread (s : State) (h : Nat) (f : BankHalf → BankHalf) : (s.updBank h f).seqUnread = s.seqUnread := rfl
@[simp] theorem State.updBank_seqPos (s : State) (h : Nat) (f : BankHalf → BankHalf) : (s.updBank h f).seqPos = s.seqPos := rfl
@[simp] theorem State.updBank_fsets (s : State) (h : Nat) (f : BankHalf → BankHalf) : (s.updBank h f).fsets = s.fsets := rfl
@[simp] theorem State.updBank_lmaps (s : State) (h : Nat) (f : BankHalf → BankHalf) : (s.updBank h f).lmaps = s.lmaps := rfl
@[simp] theorem State.updBank_scr (s : State) (h : Nat) (f : BankHalf → BankHalf) : (s.updBank h f).scr = s.scr := rfl
@[simp] theorem State.updBank_tsets (s : State) (h : Nat) (f : BankHalf → BankHalf) : (s.updBank h f).tsets = s.tsets := rfl
@[simp] theorem State.updBank_calRecs (s : State) (h : Nat) (f : BankHalf → BankHalf) : (s.updBank h f).calRecs = s.calRecs := rfl
@[simp] theorem State.updBank_ports (s : State) (h : Nat) (f : BankHalf → BankHalf) : (s.updBank h f).ports = s.ports := rfl
@[simp] theorem State.updBank_bankMem (s : State) (h : Nat) (f : BankHalf → BankHalf) : (s.updBank h f).bankMem = s.bankMem := rfl
@[simp] theorem State.updBank_banks (s : State) (h : Nat) (f : BankHalf → BankHalf) : (s.updBank h f).banks = Table.upd BankHalf.reset s.banks h f := rfl
@[simp] theorem State.updBank_dram (s : State) (h : Nat) (f : BankHalf → BankHalf) : (s.updBank h f).dram = s.dram := rfl
@[simp] theorem State.updBank_poison (s : State) (h : Nat) (f : BankHalf → BankHalf) : (s.updBank h f).poison = s.poison := rfl
@[simp] theorem State.updBank_startFold (s : State) (h : Nat) (f : BankHalf → BankHalf) : (s.updBank h f).startFold = s.startFold := rfl
@[simp] theorem State.updBank_restoring (s : State) (h : Nat) (f : BankHalf → BankHalf) : (s.updBank h f).restoring = s.restoring := rfl
@[simp] theorem State.updBank_dmcs (s : State) (h : Nat) (f : BankHalf → BankHalf) : (s.updBank h f).dmcs = s.dmcs := rfl
@[simp] theorem State.updBank_tb (s : State) (h : Nat) (f : BankHalf → BankHalf) : (s.updBank h f).tb = s.tb := rfl
@[simp] theorem State.updBank_trcs (s : State) (h : Nat) (f : BankHalf → BankHalf) : (s.updBank h f).trcs = s.trcs := rfl
@[simp] theorem State.updBank_sups (s : State) (h : Nat) (f : BankHalf → BankHalf) : (s.updBank h f).sups = s.sups := rfl
@[simp] theorem State.updBank_vccCh (s : State) (h : Nat) (f : BankHalf → BankHalf) : (s.updBank h f).vccCh = s.vccCh := rfl
@[simp] theorem State.updBank_drives (s : State) (h : Nat) (f : BankHalf → BankHalf) : (s.updBank h f).drives = s.drives := rfl
@[simp] theorem State.updBank_hbMiss (s : State) (h : Nat) (f : BankHalf → BankHalf) : (s.updBank h f).hbMiss = s.hbMiss := rfl
@[simp] theorem State.updBank_ownEp (s : State) (h : Nat) (f : BankHalf → BankHalf) : (s.updBank h f).ownEp = s.ownEp := rfl
@[simp] theorem State.updBank_talk (s : State) (h : Nat) (f : BankHalf → BankHalf) : (s.updBank h f).talk = s.talk := rfl
@[simp] theorem State.updBank_substs (s : State) (h : Nat) (f : BankHalf → BankHalf) : (s.updBank h f).substs = s.substs := rfl
@[simp] theorem State.updBank_snap (s : State) (h : Nat) (f : BankHalf → BankHalf) : (s.updBank h f).snap = s.snap := rfl
@[simp] theorem State.updBank_time (s : State) (h : Nat) (f : BankHalf → BankHalf) : (s.updBank h f).time = s.time := rfl
@[simp] theorem State.updBank_hostReady (s : State) (h : Nat) (f : BankHalf → BankHalf) : (s.updBank h f).hostReady = s.hostReady := rfl
@[simp] theorem State.updBank_nis (s : State) (h : Nat) (f : BankHalf → BankHalf) : (s.updBank h f).nis = s.nis := rfl
@[simp] theorem State.updBank_flights (s : State) (h : Nat) (f : BankHalf → BankHalf) : (s.updBank h f).flights = s.flights := rfl
@[simp] theorem State.updBank_routes (s : State) (h : Nat) (f : BankHalf → BankHalf) : (s.updBank h f).routes = s.routes := rfl
@[simp] theorem State.updBank_dirc (s : State) (h : Nat) (f : BankHalf → BankHalf) : (s.updBank h f).dirc = s.dirc := rfl
@[simp] theorem State.updBank_bankJoins (s : State) (h : Nat) (f : BankHalf → BankHalf) : (s.updBank h f).bankJoins = s.bankJoins := rfl
@[simp] theorem State.updBank_joinNo (s : State) (h : Nat) (f : BankHalf → BankHalf) : (s.updBank h f).joinNo = s.joinNo := rfl
@[simp] theorem State.updBank_homes (s : State) (h : Nat) (f : BankHalf → BankHalf) : (s.updBank h f).homes = s.homes := rfl
@[simp] theorem State.updBank_fabHeld (s : State) (h : Nat) (f : BankHalf → BankHalf) : (s.updBank h f).fabHeld = s.fabHeld := rfl
@[simp] theorem State.updBank_bankUe (s : State) (h : Nat) (f : BankHalf → BankHalf) : (s.updBank h f).bankUe = s.bankUe := rfl
@[simp] theorem State.updBank_fcfg (s : State) (h : Nat) (f : BankHalf → BankHalf) : (s.updBank h f).fcfg = s.fcfg := rfl
@[simp] theorem State.updBank_bramInit (s : State) (h : Nat) (f : BankHalf → BankHalf) : (s.updBank h f).bramInit = s.bramInit := rfl
@[simp] theorem State.updBank_bramX (s : State) (h : Nat) (f : BankHalf → BankHalf) : (s.updBank h f).bramX = s.bramX := rfl
@[simp] theorem State.updBank_ffX (s : State) (h : Nat) (f : BankHalf → BankHalf) : (s.updBank h f).ffX = s.ffX := rfl
@[simp] theorem State.updBank_brams (s : State) (h : Nat) (f : BankHalf → BankHalf) : (s.updBank h f).brams = s.brams := rfl
@[simp] theorem State.updBank_slices (s : State) (h : Nat) (f : BankHalf → BankHalf) : (s.updBank h f).slices = s.slices := rfl
@[simp] theorem State.updBank_ios (s : State) (h : Nat) (f : BankHalf → BankHalf) : (s.updBank h f).ios = s.ios := rfl
@[simp] theorem State.updBank_ghWait (s : State) (h : Nat) (f : BankHalf → BankHalf) : (s.updBank h f).ghWait = s.ghWait := rfl
@[simp] theorem State.updBank_fcgs (s : State) (h : Nat) (f : BankHalf → BankHalf) : (s.updBank h f).fcgs = s.fcgs := rfl
@[simp] theorem State.updBank_load (s : State) (h : Nat) (f : BankHalf → BankHalf) : (s.updBank h f).load = s.load := rfl
@[simp] theorem State.updBank_fuses (s : State) (h : Nat) (f : BankHalf → BankHalf) : (s.updBank h f).fuses = s.fuses := rfl
@[simp] theorem State.updBank_svn (s : State) (h : Nat) (f : BankHalf → BankHalf) : (s.updBank h f).svn = s.svn := rfl
@[simp] theorem State.updBank_fuseArm (s : State) (h : Nat) (f : BankHalf → BankHalf) : (s.updBank h f).fuseArm = s.fuseArm := rfl
@[simp] theorem State.updBank_boot (s : State) (h : Nat) (f : BankHalf → BankHalf) : (s.updBank h f).boot = s.boot := rfl
@[simp] theorem State.updBank_strapOver (s : State) (h : Nat) (f : BankHalf → BankHalf) : (s.updBank h f).strapOver = s.strapOver := rfl
@[simp] theorem State.updBank_attest (s : State) (h : Nat) (f : BankHalf → BankHalf) : (s.updBank h f).attest = s.attest := rfl
@[simp] theorem State.updBank_report (s : State) (h : Nat) (f : BankHalf → BankHalf) : (s.updBank h f).report = s.report := rfl
@[simp] theorem State.updBank_cfgMeas (s : State) (h : Nat) (f : BankHalf → BankHalf) : (s.updBank h f).cfgMeas = s.cfgMeas := rfl
@[simp] theorem State.updBank_prChain (s : State) (h : Nat) (f : BankHalf → BankHalf) : (s.updBank h f).prChain = s.prChain := rfl
@[simp] theorem State.updBank_vcore (s : State) (h : Nat) (f : BankHalf → BankHalf) : (s.updBank h f).vcore = s.vcore := rfl
@[simp] theorem State.updBank_hj (s : State) (h : Nat) (f : BankHalf → BankHalf) : (s.updBank h f).hj = s.hj := rfl
@[simp] theorem State.updBank_edge (s : State) (h : Nat) (f : BankHalf → BankHalf) : (s.updBank h f).edge = s.edge := rfl
@[simp] theorem State.updBank_lineHi (s : State) (h : Nat) (f : BankHalf → BankHalf) : (s.updBank h f).lineHi = s.lineHi := rfl
@[simp] theorem State.updBank_gateOff (s : State) (h : Nat) (f : BankHalf → BankHalf) : (s.updBank h f).gateOff = s.gateOff := rfl
@[simp] theorem State.updBank_pins (s : State) (h : Nat) (f : BankHalf → BankHalf) : (s.updBank h f).pins = s.pins := rfl
@[simp] theorem State.updBank_padExt (s : State) (h : Nat) (f : BankHalf → BankHalf) : (s.updBank h f).padExt = s.padExt := rfl
@[simp] theorem State.updBank_retKey (s : State) (h : Nat) (f : BankHalf → BankHalf) : (s.updBank h f).retKey = s.retKey := rfl
@[simp] theorem State.updBank_frameCrcs (s : State) (h : Nat) (f : BankHalf → BankHalf) : (s.updBank h f).frameCrcs = s.frameCrcs := rfl
@[simp] theorem State.updBank_prnExcl (s : State) (h : Nat) (f : BankHalf → BankHalf) : (s.updBank h f).prnExcl = s.prnExcl := rfl

/-! ## updHj changes hj -/

@[simp] theorem State.updHj_pending (s : State) (f : HjSt → HjSt) : (s.updHj f).pending = s.pending := rfl
@[simp] theorem State.updHj_por (s : State) (f : HjSt → HjSt) : (s.updHj f).por = s.por := rfl
@[simp] theorem State.updHj_ticks (s : State) (f : HjSt → HjSt) : (s.updHj f).ticks = s.ticks := rfl
@[simp] theorem State.updHj_fresh (s : State) (f : HjSt → HjSt) : (s.updHj f).fresh = s.fresh := rfl
@[simp] theorem State.updHj_regs (s : State) (f : HjSt → HjSt) : (s.updHj f).regs = s.regs := rfl
@[simp] theorem State.updHj_latches (s : State) (f : HjSt → HjSt) : (s.updHj f).latches = s.latches := rfl
@[simp] theorem State.updHj_holds (s : State) (f : HjSt → HjSt) : (s.updHj f).holds = s.holds := rfl
@[simp] theorem State.updHj_bus (s : State) (f : HjSt → HjSt) : (s.updHj f).bus = s.bus := rfl
@[simp] theorem State.updHj_out (s : State) (f : HjSt → HjSt) : (s.updHj f).out = s.out := rfl
@[simp] theorem State.updHj_heldOut (s : State) (f : HjSt → HjSt) : (s.updHj f).heldOut = s.heldOut := rfl
@[simp] theorem State.updHj_fns (s : State) (f : HjSt → HjSt) : (s.updHj f).fns = s.fns := rfl
@[simp] theorem State.updHj_ctxs (s : State) (f : HjSt → HjSt) : (s.updHj f).ctxs = s.ctxs := rfl
@[simp] theorem State.updHj_clks (s : State) (f : HjSt → HjSt) : (s.updHj f).clks = s.clks := rfl
@[simp] theorem State.updHj_agents (s : State) (f : HjSt → HjSt) : (s.updHj f).agents = s.agents := rfl
@[simp] theorem State.updHj_reports (s : State) (f : HjSt → HjSt) : (s.updHj f).reports = s.reports := rfl
@[simp] theorem State.updHj_engs (s : State) (f : HjSt → HjSt) : (s.updHj f).engs = s.engs := rfl
@[simp] theorem State.updHj_bays (s : State) (f : HjSt → HjSt) : (s.updHj f).bays = s.bays := rfl
@[simp] theorem State.updHj_fcc (s : State) (f : HjSt → HjSt) : (s.updHj f).fcc = s.fcc := rfl
@[simp] theorem State.updHj_chans (s : State) (f : HjSt → HjSt) : (s.updHj f).chans = s.chans := rfl
@[simp] theorem State.updHj_ssgs (s : State) (f : HjSt → HjSt) : (s.updHj f).ssgs = s.ssgs := rfl
@[simp] theorem State.updHj_seqMem (s : State) (f : HjSt → HjSt) : (s.updHj f).seqMem = s.seqMem := rfl
@[simp] theorem State.updHj_seqUnread (s : State) (f : HjSt → HjSt) : (s.updHj f).seqUnread = s.seqUnread := rfl
@[simp] theorem State.updHj_seqPos (s : State) (f : HjSt → HjSt) : (s.updHj f).seqPos = s.seqPos := rfl
@[simp] theorem State.updHj_fsets (s : State) (f : HjSt → HjSt) : (s.updHj f).fsets = s.fsets := rfl
@[simp] theorem State.updHj_lmaps (s : State) (f : HjSt → HjSt) : (s.updHj f).lmaps = s.lmaps := rfl
@[simp] theorem State.updHj_scr (s : State) (f : HjSt → HjSt) : (s.updHj f).scr = s.scr := rfl
@[simp] theorem State.updHj_tsets (s : State) (f : HjSt → HjSt) : (s.updHj f).tsets = s.tsets := rfl
@[simp] theorem State.updHj_calRecs (s : State) (f : HjSt → HjSt) : (s.updHj f).calRecs = s.calRecs := rfl
@[simp] theorem State.updHj_ports (s : State) (f : HjSt → HjSt) : (s.updHj f).ports = s.ports := rfl
@[simp] theorem State.updHj_bankMem (s : State) (f : HjSt → HjSt) : (s.updHj f).bankMem = s.bankMem := rfl
@[simp] theorem State.updHj_banks (s : State) (f : HjSt → HjSt) : (s.updHj f).banks = s.banks := rfl
@[simp] theorem State.updHj_dram (s : State) (f : HjSt → HjSt) : (s.updHj f).dram = s.dram := rfl
@[simp] theorem State.updHj_poison (s : State) (f : HjSt → HjSt) : (s.updHj f).poison = s.poison := rfl
@[simp] theorem State.updHj_startFold (s : State) (f : HjSt → HjSt) : (s.updHj f).startFold = s.startFold := rfl
@[simp] theorem State.updHj_restoring (s : State) (f : HjSt → HjSt) : (s.updHj f).restoring = s.restoring := rfl
@[simp] theorem State.updHj_dmcs (s : State) (f : HjSt → HjSt) : (s.updHj f).dmcs = s.dmcs := rfl
@[simp] theorem State.updHj_tb (s : State) (f : HjSt → HjSt) : (s.updHj f).tb = s.tb := rfl
@[simp] theorem State.updHj_trcs (s : State) (f : HjSt → HjSt) : (s.updHj f).trcs = s.trcs := rfl
@[simp] theorem State.updHj_sups (s : State) (f : HjSt → HjSt) : (s.updHj f).sups = s.sups := rfl
@[simp] theorem State.updHj_vccCh (s : State) (f : HjSt → HjSt) : (s.updHj f).vccCh = s.vccCh := rfl
@[simp] theorem State.updHj_drives (s : State) (f : HjSt → HjSt) : (s.updHj f).drives = s.drives := rfl
@[simp] theorem State.updHj_hbMiss (s : State) (f : HjSt → HjSt) : (s.updHj f).hbMiss = s.hbMiss := rfl
@[simp] theorem State.updHj_ownEp (s : State) (f : HjSt → HjSt) : (s.updHj f).ownEp = s.ownEp := rfl
@[simp] theorem State.updHj_talk (s : State) (f : HjSt → HjSt) : (s.updHj f).talk = s.talk := rfl
@[simp] theorem State.updHj_substs (s : State) (f : HjSt → HjSt) : (s.updHj f).substs = s.substs := rfl
@[simp] theorem State.updHj_snap (s : State) (f : HjSt → HjSt) : (s.updHj f).snap = s.snap := rfl
@[simp] theorem State.updHj_time (s : State) (f : HjSt → HjSt) : (s.updHj f).time = s.time := rfl
@[simp] theorem State.updHj_hostReady (s : State) (f : HjSt → HjSt) : (s.updHj f).hostReady = s.hostReady := rfl
@[simp] theorem State.updHj_nis (s : State) (f : HjSt → HjSt) : (s.updHj f).nis = s.nis := rfl
@[simp] theorem State.updHj_flights (s : State) (f : HjSt → HjSt) : (s.updHj f).flights = s.flights := rfl
@[simp] theorem State.updHj_routes (s : State) (f : HjSt → HjSt) : (s.updHj f).routes = s.routes := rfl
@[simp] theorem State.updHj_dirc (s : State) (f : HjSt → HjSt) : (s.updHj f).dirc = s.dirc := rfl
@[simp] theorem State.updHj_bankJoins (s : State) (f : HjSt → HjSt) : (s.updHj f).bankJoins = s.bankJoins := rfl
@[simp] theorem State.updHj_joinNo (s : State) (f : HjSt → HjSt) : (s.updHj f).joinNo = s.joinNo := rfl
@[simp] theorem State.updHj_homes (s : State) (f : HjSt → HjSt) : (s.updHj f).homes = s.homes := rfl
@[simp] theorem State.updHj_fabHeld (s : State) (f : HjSt → HjSt) : (s.updHj f).fabHeld = s.fabHeld := rfl
@[simp] theorem State.updHj_bankUe (s : State) (f : HjSt → HjSt) : (s.updHj f).bankUe = s.bankUe := rfl
@[simp] theorem State.updHj_fcfg (s : State) (f : HjSt → HjSt) : (s.updHj f).fcfg = s.fcfg := rfl
@[simp] theorem State.updHj_bramInit (s : State) (f : HjSt → HjSt) : (s.updHj f).bramInit = s.bramInit := rfl
@[simp] theorem State.updHj_bramX (s : State) (f : HjSt → HjSt) : (s.updHj f).bramX = s.bramX := rfl
@[simp] theorem State.updHj_ffX (s : State) (f : HjSt → HjSt) : (s.updHj f).ffX = s.ffX := rfl
@[simp] theorem State.updHj_brams (s : State) (f : HjSt → HjSt) : (s.updHj f).brams = s.brams := rfl
@[simp] theorem State.updHj_slices (s : State) (f : HjSt → HjSt) : (s.updHj f).slices = s.slices := rfl
@[simp] theorem State.updHj_ios (s : State) (f : HjSt → HjSt) : (s.updHj f).ios = s.ios := rfl
@[simp] theorem State.updHj_ghWait (s : State) (f : HjSt → HjSt) : (s.updHj f).ghWait = s.ghWait := rfl
@[simp] theorem State.updHj_fcgs (s : State) (f : HjSt → HjSt) : (s.updHj f).fcgs = s.fcgs := rfl
@[simp] theorem State.updHj_load (s : State) (f : HjSt → HjSt) : (s.updHj f).load = s.load := rfl
@[simp] theorem State.updHj_fuses (s : State) (f : HjSt → HjSt) : (s.updHj f).fuses = s.fuses := rfl
@[simp] theorem State.updHj_svn (s : State) (f : HjSt → HjSt) : (s.updHj f).svn = s.svn := rfl
@[simp] theorem State.updHj_fuseArm (s : State) (f : HjSt → HjSt) : (s.updHj f).fuseArm = s.fuseArm := rfl
@[simp] theorem State.updHj_boot (s : State) (f : HjSt → HjSt) : (s.updHj f).boot = s.boot := rfl
@[simp] theorem State.updHj_strapOver (s : State) (f : HjSt → HjSt) : (s.updHj f).strapOver = s.strapOver := rfl
@[simp] theorem State.updHj_attest (s : State) (f : HjSt → HjSt) : (s.updHj f).attest = s.attest := rfl
@[simp] theorem State.updHj_report (s : State) (f : HjSt → HjSt) : (s.updHj f).report = s.report := rfl
@[simp] theorem State.updHj_cfgMeas (s : State) (f : HjSt → HjSt) : (s.updHj f).cfgMeas = s.cfgMeas := rfl
@[simp] theorem State.updHj_prChain (s : State) (f : HjSt → HjSt) : (s.updHj f).prChain = s.prChain := rfl
@[simp] theorem State.updHj_vcore (s : State) (f : HjSt → HjSt) : (s.updHj f).vcore = s.vcore := rfl
@[simp] theorem State.updHj_hj (s : State) (f : HjSt → HjSt) : (s.updHj f).hj = f s.hj := rfl
@[simp] theorem State.updHj_edge (s : State) (f : HjSt → HjSt) : (s.updHj f).edge = s.edge := rfl
@[simp] theorem State.updHj_lineHi (s : State) (f : HjSt → HjSt) : (s.updHj f).lineHi = s.lineHi := rfl
@[simp] theorem State.updHj_gateOff (s : State) (f : HjSt → HjSt) : (s.updHj f).gateOff = s.gateOff := rfl
@[simp] theorem State.updHj_pins (s : State) (f : HjSt → HjSt) : (s.updHj f).pins = s.pins := rfl
@[simp] theorem State.updHj_padExt (s : State) (f : HjSt → HjSt) : (s.updHj f).padExt = s.padExt := rfl
@[simp] theorem State.updHj_retKey (s : State) (f : HjSt → HjSt) : (s.updHj f).retKey = s.retKey := rfl
@[simp] theorem State.updHj_frameCrcs (s : State) (f : HjSt → HjSt) : (s.updHj f).frameCrcs = s.frameCrcs := rfl
@[simp] theorem State.updHj_prnExcl (s : State) (f : HjSt → HjSt) : (s.updHj f).prnExcl = s.prnExcl := rfl

/-! ## updTrc changes trcs -/

@[simp] theorem State.updTrc_pending (s : State) (h : Nat) (f : TraceSt → TraceSt) : (s.updTrc h f).pending = s.pending := rfl
@[simp] theorem State.updTrc_por (s : State) (h : Nat) (f : TraceSt → TraceSt) : (s.updTrc h f).por = s.por := rfl
@[simp] theorem State.updTrc_ticks (s : State) (h : Nat) (f : TraceSt → TraceSt) : (s.updTrc h f).ticks = s.ticks := rfl
@[simp] theorem State.updTrc_fresh (s : State) (h : Nat) (f : TraceSt → TraceSt) : (s.updTrc h f).fresh = s.fresh := rfl
@[simp] theorem State.updTrc_regs (s : State) (h : Nat) (f : TraceSt → TraceSt) : (s.updTrc h f).regs = s.regs := rfl
@[simp] theorem State.updTrc_latches (s : State) (h : Nat) (f : TraceSt → TraceSt) : (s.updTrc h f).latches = s.latches := rfl
@[simp] theorem State.updTrc_holds (s : State) (h : Nat) (f : TraceSt → TraceSt) : (s.updTrc h f).holds = s.holds := rfl
@[simp] theorem State.updTrc_bus (s : State) (h : Nat) (f : TraceSt → TraceSt) : (s.updTrc h f).bus = s.bus := rfl
@[simp] theorem State.updTrc_out (s : State) (h : Nat) (f : TraceSt → TraceSt) : (s.updTrc h f).out = s.out := rfl
@[simp] theorem State.updTrc_heldOut (s : State) (h : Nat) (f : TraceSt → TraceSt) : (s.updTrc h f).heldOut = s.heldOut := rfl
@[simp] theorem State.updTrc_fns (s : State) (h : Nat) (f : TraceSt → TraceSt) : (s.updTrc h f).fns = s.fns := rfl
@[simp] theorem State.updTrc_ctxs (s : State) (h : Nat) (f : TraceSt → TraceSt) : (s.updTrc h f).ctxs = s.ctxs := rfl
@[simp] theorem State.updTrc_clks (s : State) (h : Nat) (f : TraceSt → TraceSt) : (s.updTrc h f).clks = s.clks := rfl
@[simp] theorem State.updTrc_agents (s : State) (h : Nat) (f : TraceSt → TraceSt) : (s.updTrc h f).agents = s.agents := rfl
@[simp] theorem State.updTrc_reports (s : State) (h : Nat) (f : TraceSt → TraceSt) : (s.updTrc h f).reports = s.reports := rfl
@[simp] theorem State.updTrc_engs (s : State) (h : Nat) (f : TraceSt → TraceSt) : (s.updTrc h f).engs = s.engs := rfl
@[simp] theorem State.updTrc_bays (s : State) (h : Nat) (f : TraceSt → TraceSt) : (s.updTrc h f).bays = s.bays := rfl
@[simp] theorem State.updTrc_fcc (s : State) (h : Nat) (f : TraceSt → TraceSt) : (s.updTrc h f).fcc = s.fcc := rfl
@[simp] theorem State.updTrc_chans (s : State) (h : Nat) (f : TraceSt → TraceSt) : (s.updTrc h f).chans = s.chans := rfl
@[simp] theorem State.updTrc_ssgs (s : State) (h : Nat) (f : TraceSt → TraceSt) : (s.updTrc h f).ssgs = s.ssgs := rfl
@[simp] theorem State.updTrc_seqMem (s : State) (h : Nat) (f : TraceSt → TraceSt) : (s.updTrc h f).seqMem = s.seqMem := rfl
@[simp] theorem State.updTrc_seqUnread (s : State) (h : Nat) (f : TraceSt → TraceSt) : (s.updTrc h f).seqUnread = s.seqUnread := rfl
@[simp] theorem State.updTrc_seqPos (s : State) (h : Nat) (f : TraceSt → TraceSt) : (s.updTrc h f).seqPos = s.seqPos := rfl
@[simp] theorem State.updTrc_fsets (s : State) (h : Nat) (f : TraceSt → TraceSt) : (s.updTrc h f).fsets = s.fsets := rfl
@[simp] theorem State.updTrc_lmaps (s : State) (h : Nat) (f : TraceSt → TraceSt) : (s.updTrc h f).lmaps = s.lmaps := rfl
@[simp] theorem State.updTrc_scr (s : State) (h : Nat) (f : TraceSt → TraceSt) : (s.updTrc h f).scr = s.scr := rfl
@[simp] theorem State.updTrc_tsets (s : State) (h : Nat) (f : TraceSt → TraceSt) : (s.updTrc h f).tsets = s.tsets := rfl
@[simp] theorem State.updTrc_calRecs (s : State) (h : Nat) (f : TraceSt → TraceSt) : (s.updTrc h f).calRecs = s.calRecs := rfl
@[simp] theorem State.updTrc_ports (s : State) (h : Nat) (f : TraceSt → TraceSt) : (s.updTrc h f).ports = s.ports := rfl
@[simp] theorem State.updTrc_bankMem (s : State) (h : Nat) (f : TraceSt → TraceSt) : (s.updTrc h f).bankMem = s.bankMem := rfl
@[simp] theorem State.updTrc_banks (s : State) (h : Nat) (f : TraceSt → TraceSt) : (s.updTrc h f).banks = s.banks := rfl
@[simp] theorem State.updTrc_dram (s : State) (h : Nat) (f : TraceSt → TraceSt) : (s.updTrc h f).dram = s.dram := rfl
@[simp] theorem State.updTrc_poison (s : State) (h : Nat) (f : TraceSt → TraceSt) : (s.updTrc h f).poison = s.poison := rfl
@[simp] theorem State.updTrc_startFold (s : State) (h : Nat) (f : TraceSt → TraceSt) : (s.updTrc h f).startFold = s.startFold := rfl
@[simp] theorem State.updTrc_restoring (s : State) (h : Nat) (f : TraceSt → TraceSt) : (s.updTrc h f).restoring = s.restoring := rfl
@[simp] theorem State.updTrc_dmcs (s : State) (h : Nat) (f : TraceSt → TraceSt) : (s.updTrc h f).dmcs = s.dmcs := rfl
@[simp] theorem State.updTrc_tb (s : State) (h : Nat) (f : TraceSt → TraceSt) : (s.updTrc h f).tb = s.tb := rfl
@[simp] theorem State.updTrc_trcs (s : State) (h : Nat) (f : TraceSt → TraceSt) : (s.updTrc h f).trcs = Table.upd TraceSt.reset s.trcs h f := rfl
@[simp] theorem State.updTrc_sups (s : State) (h : Nat) (f : TraceSt → TraceSt) : (s.updTrc h f).sups = s.sups := rfl
@[simp] theorem State.updTrc_vccCh (s : State) (h : Nat) (f : TraceSt → TraceSt) : (s.updTrc h f).vccCh = s.vccCh := rfl
@[simp] theorem State.updTrc_drives (s : State) (h : Nat) (f : TraceSt → TraceSt) : (s.updTrc h f).drives = s.drives := rfl
@[simp] theorem State.updTrc_hbMiss (s : State) (h : Nat) (f : TraceSt → TraceSt) : (s.updTrc h f).hbMiss = s.hbMiss := rfl
@[simp] theorem State.updTrc_ownEp (s : State) (h : Nat) (f : TraceSt → TraceSt) : (s.updTrc h f).ownEp = s.ownEp := rfl
@[simp] theorem State.updTrc_talk (s : State) (h : Nat) (f : TraceSt → TraceSt) : (s.updTrc h f).talk = s.talk := rfl
@[simp] theorem State.updTrc_substs (s : State) (h : Nat) (f : TraceSt → TraceSt) : (s.updTrc h f).substs = s.substs := rfl
@[simp] theorem State.updTrc_snap (s : State) (h : Nat) (f : TraceSt → TraceSt) : (s.updTrc h f).snap = s.snap := rfl
@[simp] theorem State.updTrc_time (s : State) (h : Nat) (f : TraceSt → TraceSt) : (s.updTrc h f).time = s.time := rfl
@[simp] theorem State.updTrc_hostReady (s : State) (h : Nat) (f : TraceSt → TraceSt) : (s.updTrc h f).hostReady = s.hostReady := rfl
@[simp] theorem State.updTrc_nis (s : State) (h : Nat) (f : TraceSt → TraceSt) : (s.updTrc h f).nis = s.nis := rfl
@[simp] theorem State.updTrc_flights (s : State) (h : Nat) (f : TraceSt → TraceSt) : (s.updTrc h f).flights = s.flights := rfl
@[simp] theorem State.updTrc_routes (s : State) (h : Nat) (f : TraceSt → TraceSt) : (s.updTrc h f).routes = s.routes := rfl
@[simp] theorem State.updTrc_dirc (s : State) (h : Nat) (f : TraceSt → TraceSt) : (s.updTrc h f).dirc = s.dirc := rfl
@[simp] theorem State.updTrc_bankJoins (s : State) (h : Nat) (f : TraceSt → TraceSt) : (s.updTrc h f).bankJoins = s.bankJoins := rfl
@[simp] theorem State.updTrc_joinNo (s : State) (h : Nat) (f : TraceSt → TraceSt) : (s.updTrc h f).joinNo = s.joinNo := rfl
@[simp] theorem State.updTrc_homes (s : State) (h : Nat) (f : TraceSt → TraceSt) : (s.updTrc h f).homes = s.homes := rfl
@[simp] theorem State.updTrc_fabHeld (s : State) (h : Nat) (f : TraceSt → TraceSt) : (s.updTrc h f).fabHeld = s.fabHeld := rfl
@[simp] theorem State.updTrc_bankUe (s : State) (h : Nat) (f : TraceSt → TraceSt) : (s.updTrc h f).bankUe = s.bankUe := rfl
@[simp] theorem State.updTrc_fcfg (s : State) (h : Nat) (f : TraceSt → TraceSt) : (s.updTrc h f).fcfg = s.fcfg := rfl
@[simp] theorem State.updTrc_bramInit (s : State) (h : Nat) (f : TraceSt → TraceSt) : (s.updTrc h f).bramInit = s.bramInit := rfl
@[simp] theorem State.updTrc_bramX (s : State) (h : Nat) (f : TraceSt → TraceSt) : (s.updTrc h f).bramX = s.bramX := rfl
@[simp] theorem State.updTrc_ffX (s : State) (h : Nat) (f : TraceSt → TraceSt) : (s.updTrc h f).ffX = s.ffX := rfl
@[simp] theorem State.updTrc_brams (s : State) (h : Nat) (f : TraceSt → TraceSt) : (s.updTrc h f).brams = s.brams := rfl
@[simp] theorem State.updTrc_slices (s : State) (h : Nat) (f : TraceSt → TraceSt) : (s.updTrc h f).slices = s.slices := rfl
@[simp] theorem State.updTrc_ios (s : State) (h : Nat) (f : TraceSt → TraceSt) : (s.updTrc h f).ios = s.ios := rfl
@[simp] theorem State.updTrc_ghWait (s : State) (h : Nat) (f : TraceSt → TraceSt) : (s.updTrc h f).ghWait = s.ghWait := rfl
@[simp] theorem State.updTrc_fcgs (s : State) (h : Nat) (f : TraceSt → TraceSt) : (s.updTrc h f).fcgs = s.fcgs := rfl
@[simp] theorem State.updTrc_load (s : State) (h : Nat) (f : TraceSt → TraceSt) : (s.updTrc h f).load = s.load := rfl
@[simp] theorem State.updTrc_fuses (s : State) (h : Nat) (f : TraceSt → TraceSt) : (s.updTrc h f).fuses = s.fuses := rfl
@[simp] theorem State.updTrc_svn (s : State) (h : Nat) (f : TraceSt → TraceSt) : (s.updTrc h f).svn = s.svn := rfl
@[simp] theorem State.updTrc_fuseArm (s : State) (h : Nat) (f : TraceSt → TraceSt) : (s.updTrc h f).fuseArm = s.fuseArm := rfl
@[simp] theorem State.updTrc_boot (s : State) (h : Nat) (f : TraceSt → TraceSt) : (s.updTrc h f).boot = s.boot := rfl
@[simp] theorem State.updTrc_strapOver (s : State) (h : Nat) (f : TraceSt → TraceSt) : (s.updTrc h f).strapOver = s.strapOver := rfl
@[simp] theorem State.updTrc_attest (s : State) (h : Nat) (f : TraceSt → TraceSt) : (s.updTrc h f).attest = s.attest := rfl
@[simp] theorem State.updTrc_report (s : State) (h : Nat) (f : TraceSt → TraceSt) : (s.updTrc h f).report = s.report := rfl
@[simp] theorem State.updTrc_cfgMeas (s : State) (h : Nat) (f : TraceSt → TraceSt) : (s.updTrc h f).cfgMeas = s.cfgMeas := rfl
@[simp] theorem State.updTrc_prChain (s : State) (h : Nat) (f : TraceSt → TraceSt) : (s.updTrc h f).prChain = s.prChain := rfl
@[simp] theorem State.updTrc_vcore (s : State) (h : Nat) (f : TraceSt → TraceSt) : (s.updTrc h f).vcore = s.vcore := rfl
@[simp] theorem State.updTrc_hj (s : State) (h : Nat) (f : TraceSt → TraceSt) : (s.updTrc h f).hj = s.hj := rfl
@[simp] theorem State.updTrc_edge (s : State) (h : Nat) (f : TraceSt → TraceSt) : (s.updTrc h f).edge = s.edge := rfl
@[simp] theorem State.updTrc_lineHi (s : State) (h : Nat) (f : TraceSt → TraceSt) : (s.updTrc h f).lineHi = s.lineHi := rfl
@[simp] theorem State.updTrc_gateOff (s : State) (h : Nat) (f : TraceSt → TraceSt) : (s.updTrc h f).gateOff = s.gateOff := rfl
@[simp] theorem State.updTrc_pins (s : State) (h : Nat) (f : TraceSt → TraceSt) : (s.updTrc h f).pins = s.pins := rfl
@[simp] theorem State.updTrc_padExt (s : State) (h : Nat) (f : TraceSt → TraceSt) : (s.updTrc h f).padExt = s.padExt := rfl
@[simp] theorem State.updTrc_retKey (s : State) (h : Nat) (f : TraceSt → TraceSt) : (s.updTrc h f).retKey = s.retKey := rfl
@[simp] theorem State.updTrc_frameCrcs (s : State) (h : Nat) (f : TraceSt → TraceSt) : (s.updTrc h f).frameCrcs = s.frameCrcs := rfl
@[simp] theorem State.updTrc_prnExcl (s : State) (h : Nat) (f : TraceSt → TraceSt) : (s.updTrc h f).prnExcl = s.prnExcl := rfl

/-! ## updFcg changes fcgs -/

@[simp] theorem State.updFcg_pending (s : State) (h g : Nat) (f : FcgSt → FcgSt) : (s.updFcg h g f).pending = s.pending := rfl
@[simp] theorem State.updFcg_por (s : State) (h g : Nat) (f : FcgSt → FcgSt) : (s.updFcg h g f).por = s.por := rfl
@[simp] theorem State.updFcg_ticks (s : State) (h g : Nat) (f : FcgSt → FcgSt) : (s.updFcg h g f).ticks = s.ticks := rfl
@[simp] theorem State.updFcg_fresh (s : State) (h g : Nat) (f : FcgSt → FcgSt) : (s.updFcg h g f).fresh = s.fresh := rfl
@[simp] theorem State.updFcg_regs (s : State) (h g : Nat) (f : FcgSt → FcgSt) : (s.updFcg h g f).regs = s.regs := rfl
@[simp] theorem State.updFcg_latches (s : State) (h g : Nat) (f : FcgSt → FcgSt) : (s.updFcg h g f).latches = s.latches := rfl
@[simp] theorem State.updFcg_holds (s : State) (h g : Nat) (f : FcgSt → FcgSt) : (s.updFcg h g f).holds = s.holds := rfl
@[simp] theorem State.updFcg_bus (s : State) (h g : Nat) (f : FcgSt → FcgSt) : (s.updFcg h g f).bus = s.bus := rfl
@[simp] theorem State.updFcg_out (s : State) (h g : Nat) (f : FcgSt → FcgSt) : (s.updFcg h g f).out = s.out := rfl
@[simp] theorem State.updFcg_heldOut (s : State) (h g : Nat) (f : FcgSt → FcgSt) : (s.updFcg h g f).heldOut = s.heldOut := rfl
@[simp] theorem State.updFcg_fns (s : State) (h g : Nat) (f : FcgSt → FcgSt) : (s.updFcg h g f).fns = s.fns := rfl
@[simp] theorem State.updFcg_ctxs (s : State) (h g : Nat) (f : FcgSt → FcgSt) : (s.updFcg h g f).ctxs = s.ctxs := rfl
@[simp] theorem State.updFcg_clks (s : State) (h g : Nat) (f : FcgSt → FcgSt) : (s.updFcg h g f).clks = s.clks := rfl
@[simp] theorem State.updFcg_agents (s : State) (h g : Nat) (f : FcgSt → FcgSt) : (s.updFcg h g f).agents = s.agents := rfl
@[simp] theorem State.updFcg_reports (s : State) (h g : Nat) (f : FcgSt → FcgSt) : (s.updFcg h g f).reports = s.reports := rfl
@[simp] theorem State.updFcg_engs (s : State) (h g : Nat) (f : FcgSt → FcgSt) : (s.updFcg h g f).engs = s.engs := rfl
@[simp] theorem State.updFcg_bays (s : State) (h g : Nat) (f : FcgSt → FcgSt) : (s.updFcg h g f).bays = s.bays := rfl
@[simp] theorem State.updFcg_fcc (s : State) (h g : Nat) (f : FcgSt → FcgSt) : (s.updFcg h g f).fcc = s.fcc := rfl
@[simp] theorem State.updFcg_chans (s : State) (h g : Nat) (f : FcgSt → FcgSt) : (s.updFcg h g f).chans = s.chans := rfl
@[simp] theorem State.updFcg_ssgs (s : State) (h g : Nat) (f : FcgSt → FcgSt) : (s.updFcg h g f).ssgs = s.ssgs := rfl
@[simp] theorem State.updFcg_seqMem (s : State) (h g : Nat) (f : FcgSt → FcgSt) : (s.updFcg h g f).seqMem = s.seqMem := rfl
@[simp] theorem State.updFcg_seqUnread (s : State) (h g : Nat) (f : FcgSt → FcgSt) : (s.updFcg h g f).seqUnread = s.seqUnread := rfl
@[simp] theorem State.updFcg_seqPos (s : State) (h g : Nat) (f : FcgSt → FcgSt) : (s.updFcg h g f).seqPos = s.seqPos := rfl
@[simp] theorem State.updFcg_fsets (s : State) (h g : Nat) (f : FcgSt → FcgSt) : (s.updFcg h g f).fsets = s.fsets := rfl
@[simp] theorem State.updFcg_lmaps (s : State) (h g : Nat) (f : FcgSt → FcgSt) : (s.updFcg h g f).lmaps = s.lmaps := rfl
@[simp] theorem State.updFcg_scr (s : State) (h g : Nat) (f : FcgSt → FcgSt) : (s.updFcg h g f).scr = s.scr := rfl
@[simp] theorem State.updFcg_tsets (s : State) (h g : Nat) (f : FcgSt → FcgSt) : (s.updFcg h g f).tsets = s.tsets := rfl
@[simp] theorem State.updFcg_calRecs (s : State) (h g : Nat) (f : FcgSt → FcgSt) : (s.updFcg h g f).calRecs = s.calRecs := rfl
@[simp] theorem State.updFcg_ports (s : State) (h g : Nat) (f : FcgSt → FcgSt) : (s.updFcg h g f).ports = s.ports := rfl
@[simp] theorem State.updFcg_bankMem (s : State) (h g : Nat) (f : FcgSt → FcgSt) : (s.updFcg h g f).bankMem = s.bankMem := rfl
@[simp] theorem State.updFcg_banks (s : State) (h g : Nat) (f : FcgSt → FcgSt) : (s.updFcg h g f).banks = s.banks := rfl
@[simp] theorem State.updFcg_dram (s : State) (h g : Nat) (f : FcgSt → FcgSt) : (s.updFcg h g f).dram = s.dram := rfl
@[simp] theorem State.updFcg_poison (s : State) (h g : Nat) (f : FcgSt → FcgSt) : (s.updFcg h g f).poison = s.poison := rfl
@[simp] theorem State.updFcg_startFold (s : State) (h g : Nat) (f : FcgSt → FcgSt) : (s.updFcg h g f).startFold = s.startFold := rfl
@[simp] theorem State.updFcg_restoring (s : State) (h g : Nat) (f : FcgSt → FcgSt) : (s.updFcg h g f).restoring = s.restoring := rfl
@[simp] theorem State.updFcg_dmcs (s : State) (h g : Nat) (f : FcgSt → FcgSt) : (s.updFcg h g f).dmcs = s.dmcs := rfl
@[simp] theorem State.updFcg_tb (s : State) (h g : Nat) (f : FcgSt → FcgSt) : (s.updFcg h g f).tb = s.tb := rfl
@[simp] theorem State.updFcg_trcs (s : State) (h g : Nat) (f : FcgSt → FcgSt) : (s.updFcg h g f).trcs = s.trcs := rfl
@[simp] theorem State.updFcg_sups (s : State) (h g : Nat) (f : FcgSt → FcgSt) : (s.updFcg h g f).sups = s.sups := rfl
@[simp] theorem State.updFcg_vccCh (s : State) (h g : Nat) (f : FcgSt → FcgSt) : (s.updFcg h g f).vccCh = s.vccCh := rfl
@[simp] theorem State.updFcg_drives (s : State) (h g : Nat) (f : FcgSt → FcgSt) : (s.updFcg h g f).drives = s.drives := rfl
@[simp] theorem State.updFcg_hbMiss (s : State) (h g : Nat) (f : FcgSt → FcgSt) : (s.updFcg h g f).hbMiss = s.hbMiss := rfl
@[simp] theorem State.updFcg_ownEp (s : State) (h g : Nat) (f : FcgSt → FcgSt) : (s.updFcg h g f).ownEp = s.ownEp := rfl
@[simp] theorem State.updFcg_talk (s : State) (h g : Nat) (f : FcgSt → FcgSt) : (s.updFcg h g f).talk = s.talk := rfl
@[simp] theorem State.updFcg_substs (s : State) (h g : Nat) (f : FcgSt → FcgSt) : (s.updFcg h g f).substs = s.substs := rfl
@[simp] theorem State.updFcg_snap (s : State) (h g : Nat) (f : FcgSt → FcgSt) : (s.updFcg h g f).snap = s.snap := rfl
@[simp] theorem State.updFcg_time (s : State) (h g : Nat) (f : FcgSt → FcgSt) : (s.updFcg h g f).time = s.time := rfl
@[simp] theorem State.updFcg_hostReady (s : State) (h g : Nat) (f : FcgSt → FcgSt) : (s.updFcg h g f).hostReady = s.hostReady := rfl
@[simp] theorem State.updFcg_nis (s : State) (h g : Nat) (f : FcgSt → FcgSt) : (s.updFcg h g f).nis = s.nis := rfl
@[simp] theorem State.updFcg_flights (s : State) (h g : Nat) (f : FcgSt → FcgSt) : (s.updFcg h g f).flights = s.flights := rfl
@[simp] theorem State.updFcg_routes (s : State) (h g : Nat) (f : FcgSt → FcgSt) : (s.updFcg h g f).routes = s.routes := rfl
@[simp] theorem State.updFcg_dirc (s : State) (h g : Nat) (f : FcgSt → FcgSt) : (s.updFcg h g f).dirc = s.dirc := rfl
@[simp] theorem State.updFcg_bankJoins (s : State) (h g : Nat) (f : FcgSt → FcgSt) : (s.updFcg h g f).bankJoins = s.bankJoins := rfl
@[simp] theorem State.updFcg_joinNo (s : State) (h g : Nat) (f : FcgSt → FcgSt) : (s.updFcg h g f).joinNo = s.joinNo := rfl
@[simp] theorem State.updFcg_homes (s : State) (h g : Nat) (f : FcgSt → FcgSt) : (s.updFcg h g f).homes = s.homes := rfl
@[simp] theorem State.updFcg_fabHeld (s : State) (h g : Nat) (f : FcgSt → FcgSt) : (s.updFcg h g f).fabHeld = s.fabHeld := rfl
@[simp] theorem State.updFcg_bankUe (s : State) (h g : Nat) (f : FcgSt → FcgSt) : (s.updFcg h g f).bankUe = s.bankUe := rfl
@[simp] theorem State.updFcg_fcfg (s : State) (h g : Nat) (f : FcgSt → FcgSt) : (s.updFcg h g f).fcfg = s.fcfg := rfl
@[simp] theorem State.updFcg_bramInit (s : State) (h g : Nat) (f : FcgSt → FcgSt) : (s.updFcg h g f).bramInit = s.bramInit := rfl
@[simp] theorem State.updFcg_bramX (s : State) (h g : Nat) (f : FcgSt → FcgSt) : (s.updFcg h g f).bramX = s.bramX := rfl
@[simp] theorem State.updFcg_ffX (s : State) (h g : Nat) (f : FcgSt → FcgSt) : (s.updFcg h g f).ffX = s.ffX := rfl
@[simp] theorem State.updFcg_brams (s : State) (h g : Nat) (f : FcgSt → FcgSt) : (s.updFcg h g f).brams = s.brams := rfl
@[simp] theorem State.updFcg_slices (s : State) (h g : Nat) (f : FcgSt → FcgSt) : (s.updFcg h g f).slices = s.slices := rfl
@[simp] theorem State.updFcg_ios (s : State) (h g : Nat) (f : FcgSt → FcgSt) : (s.updFcg h g f).ios = s.ios := rfl
@[simp] theorem State.updFcg_ghWait (s : State) (h g : Nat) (f : FcgSt → FcgSt) : (s.updFcg h g f).ghWait = s.ghWait := rfl
@[simp] theorem State.updFcg_fcgs (s : State) (h g : Nat) (f : FcgSt → FcgSt) : (s.updFcg h g f).fcgs = Table.upd FcgSt.reset s.fcgs (4 * h + g) f := rfl
@[simp] theorem State.updFcg_load (s : State) (h g : Nat) (f : FcgSt → FcgSt) : (s.updFcg h g f).load = s.load := rfl
@[simp] theorem State.updFcg_fuses (s : State) (h g : Nat) (f : FcgSt → FcgSt) : (s.updFcg h g f).fuses = s.fuses := rfl
@[simp] theorem State.updFcg_svn (s : State) (h g : Nat) (f : FcgSt → FcgSt) : (s.updFcg h g f).svn = s.svn := rfl
@[simp] theorem State.updFcg_fuseArm (s : State) (h g : Nat) (f : FcgSt → FcgSt) : (s.updFcg h g f).fuseArm = s.fuseArm := rfl
@[simp] theorem State.updFcg_boot (s : State) (h g : Nat) (f : FcgSt → FcgSt) : (s.updFcg h g f).boot = s.boot := rfl
@[simp] theorem State.updFcg_strapOver (s : State) (h g : Nat) (f : FcgSt → FcgSt) : (s.updFcg h g f).strapOver = s.strapOver := rfl
@[simp] theorem State.updFcg_attest (s : State) (h g : Nat) (f : FcgSt → FcgSt) : (s.updFcg h g f).attest = s.attest := rfl
@[simp] theorem State.updFcg_report (s : State) (h g : Nat) (f : FcgSt → FcgSt) : (s.updFcg h g f).report = s.report := rfl
@[simp] theorem State.updFcg_cfgMeas (s : State) (h g : Nat) (f : FcgSt → FcgSt) : (s.updFcg h g f).cfgMeas = s.cfgMeas := rfl
@[simp] theorem State.updFcg_prChain (s : State) (h g : Nat) (f : FcgSt → FcgSt) : (s.updFcg h g f).prChain = s.prChain := rfl
@[simp] theorem State.updFcg_vcore (s : State) (h g : Nat) (f : FcgSt → FcgSt) : (s.updFcg h g f).vcore = s.vcore := rfl
@[simp] theorem State.updFcg_hj (s : State) (h g : Nat) (f : FcgSt → FcgSt) : (s.updFcg h g f).hj = s.hj := rfl
@[simp] theorem State.updFcg_edge (s : State) (h g : Nat) (f : FcgSt → FcgSt) : (s.updFcg h g f).edge = s.edge := rfl
@[simp] theorem State.updFcg_lineHi (s : State) (h g : Nat) (f : FcgSt → FcgSt) : (s.updFcg h g f).lineHi = s.lineHi := rfl
@[simp] theorem State.updFcg_gateOff (s : State) (h g : Nat) (f : FcgSt → FcgSt) : (s.updFcg h g f).gateOff = s.gateOff := rfl
@[simp] theorem State.updFcg_pins (s : State) (h g : Nat) (f : FcgSt → FcgSt) : (s.updFcg h g f).pins = s.pins := rfl
@[simp] theorem State.updFcg_padExt (s : State) (h g : Nat) (f : FcgSt → FcgSt) : (s.updFcg h g f).padExt = s.padExt := rfl
@[simp] theorem State.updFcg_retKey (s : State) (h g : Nat) (f : FcgSt → FcgSt) : (s.updFcg h g f).retKey = s.retKey := rfl
@[simp] theorem State.updFcg_frameCrcs (s : State) (h g : Nat) (f : FcgSt → FcgSt) : (s.updFcg h g f).frameCrcs = s.frameCrcs := rfl
@[simp] theorem State.updFcg_prnExcl (s : State) (h g : Nat) (f : FcgSt → FcgSt) : (s.updFcg h g f).prnExcl = s.prnExcl := rfl

/-! ## updPin changes pins -/

@[simp] theorem State.updPin_pending (s : State) (p : Nat) (f : PinSt → PinSt) : (s.updPin p f).pending = s.pending := rfl
@[simp] theorem State.updPin_por (s : State) (p : Nat) (f : PinSt → PinSt) : (s.updPin p f).por = s.por := rfl
@[simp] theorem State.updPin_ticks (s : State) (p : Nat) (f : PinSt → PinSt) : (s.updPin p f).ticks = s.ticks := rfl
@[simp] theorem State.updPin_fresh (s : State) (p : Nat) (f : PinSt → PinSt) : (s.updPin p f).fresh = s.fresh := rfl
@[simp] theorem State.updPin_regs (s : State) (p : Nat) (f : PinSt → PinSt) : (s.updPin p f).regs = s.regs := rfl
@[simp] theorem State.updPin_latches (s : State) (p : Nat) (f : PinSt → PinSt) : (s.updPin p f).latches = s.latches := rfl
@[simp] theorem State.updPin_holds (s : State) (p : Nat) (f : PinSt → PinSt) : (s.updPin p f).holds = s.holds := rfl
@[simp] theorem State.updPin_bus (s : State) (p : Nat) (f : PinSt → PinSt) : (s.updPin p f).bus = s.bus := rfl
@[simp] theorem State.updPin_out (s : State) (p : Nat) (f : PinSt → PinSt) : (s.updPin p f).out = s.out := rfl
@[simp] theorem State.updPin_heldOut (s : State) (p : Nat) (f : PinSt → PinSt) : (s.updPin p f).heldOut = s.heldOut := rfl
@[simp] theorem State.updPin_fns (s : State) (p : Nat) (f : PinSt → PinSt) : (s.updPin p f).fns = s.fns := rfl
@[simp] theorem State.updPin_ctxs (s : State) (p : Nat) (f : PinSt → PinSt) : (s.updPin p f).ctxs = s.ctxs := rfl
@[simp] theorem State.updPin_clks (s : State) (p : Nat) (f : PinSt → PinSt) : (s.updPin p f).clks = s.clks := rfl
@[simp] theorem State.updPin_agents (s : State) (p : Nat) (f : PinSt → PinSt) : (s.updPin p f).agents = s.agents := rfl
@[simp] theorem State.updPin_reports (s : State) (p : Nat) (f : PinSt → PinSt) : (s.updPin p f).reports = s.reports := rfl
@[simp] theorem State.updPin_engs (s : State) (p : Nat) (f : PinSt → PinSt) : (s.updPin p f).engs = s.engs := rfl
@[simp] theorem State.updPin_bays (s : State) (p : Nat) (f : PinSt → PinSt) : (s.updPin p f).bays = s.bays := rfl
@[simp] theorem State.updPin_fcc (s : State) (p : Nat) (f : PinSt → PinSt) : (s.updPin p f).fcc = s.fcc := rfl
@[simp] theorem State.updPin_chans (s : State) (p : Nat) (f : PinSt → PinSt) : (s.updPin p f).chans = s.chans := rfl
@[simp] theorem State.updPin_ssgs (s : State) (p : Nat) (f : PinSt → PinSt) : (s.updPin p f).ssgs = s.ssgs := rfl
@[simp] theorem State.updPin_seqMem (s : State) (p : Nat) (f : PinSt → PinSt) : (s.updPin p f).seqMem = s.seqMem := rfl
@[simp] theorem State.updPin_seqUnread (s : State) (p : Nat) (f : PinSt → PinSt) : (s.updPin p f).seqUnread = s.seqUnread := rfl
@[simp] theorem State.updPin_seqPos (s : State) (p : Nat) (f : PinSt → PinSt) : (s.updPin p f).seqPos = s.seqPos := rfl
@[simp] theorem State.updPin_fsets (s : State) (p : Nat) (f : PinSt → PinSt) : (s.updPin p f).fsets = s.fsets := rfl
@[simp] theorem State.updPin_lmaps (s : State) (p : Nat) (f : PinSt → PinSt) : (s.updPin p f).lmaps = s.lmaps := rfl
@[simp] theorem State.updPin_scr (s : State) (p : Nat) (f : PinSt → PinSt) : (s.updPin p f).scr = s.scr := rfl
@[simp] theorem State.updPin_tsets (s : State) (p : Nat) (f : PinSt → PinSt) : (s.updPin p f).tsets = s.tsets := rfl
@[simp] theorem State.updPin_calRecs (s : State) (p : Nat) (f : PinSt → PinSt) : (s.updPin p f).calRecs = s.calRecs := rfl
@[simp] theorem State.updPin_ports (s : State) (p : Nat) (f : PinSt → PinSt) : (s.updPin p f).ports = s.ports := rfl
@[simp] theorem State.updPin_bankMem (s : State) (p : Nat) (f : PinSt → PinSt) : (s.updPin p f).bankMem = s.bankMem := rfl
@[simp] theorem State.updPin_banks (s : State) (p : Nat) (f : PinSt → PinSt) : (s.updPin p f).banks = s.banks := rfl
@[simp] theorem State.updPin_dram (s : State) (p : Nat) (f : PinSt → PinSt) : (s.updPin p f).dram = s.dram := rfl
@[simp] theorem State.updPin_poison (s : State) (p : Nat) (f : PinSt → PinSt) : (s.updPin p f).poison = s.poison := rfl
@[simp] theorem State.updPin_startFold (s : State) (p : Nat) (f : PinSt → PinSt) : (s.updPin p f).startFold = s.startFold := rfl
@[simp] theorem State.updPin_restoring (s : State) (p : Nat) (f : PinSt → PinSt) : (s.updPin p f).restoring = s.restoring := rfl
@[simp] theorem State.updPin_dmcs (s : State) (p : Nat) (f : PinSt → PinSt) : (s.updPin p f).dmcs = s.dmcs := rfl
@[simp] theorem State.updPin_tb (s : State) (p : Nat) (f : PinSt → PinSt) : (s.updPin p f).tb = s.tb := rfl
@[simp] theorem State.updPin_trcs (s : State) (p : Nat) (f : PinSt → PinSt) : (s.updPin p f).trcs = s.trcs := rfl
@[simp] theorem State.updPin_sups (s : State) (p : Nat) (f : PinSt → PinSt) : (s.updPin p f).sups = s.sups := rfl
@[simp] theorem State.updPin_vccCh (s : State) (p : Nat) (f : PinSt → PinSt) : (s.updPin p f).vccCh = s.vccCh := rfl
@[simp] theorem State.updPin_drives (s : State) (p : Nat) (f : PinSt → PinSt) : (s.updPin p f).drives = s.drives := rfl
@[simp] theorem State.updPin_hbMiss (s : State) (p : Nat) (f : PinSt → PinSt) : (s.updPin p f).hbMiss = s.hbMiss := rfl
@[simp] theorem State.updPin_ownEp (s : State) (p : Nat) (f : PinSt → PinSt) : (s.updPin p f).ownEp = s.ownEp := rfl
@[simp] theorem State.updPin_talk (s : State) (p : Nat) (f : PinSt → PinSt) : (s.updPin p f).talk = s.talk := rfl
@[simp] theorem State.updPin_substs (s : State) (p : Nat) (f : PinSt → PinSt) : (s.updPin p f).substs = s.substs := rfl
@[simp] theorem State.updPin_snap (s : State) (p : Nat) (f : PinSt → PinSt) : (s.updPin p f).snap = s.snap := rfl
@[simp] theorem State.updPin_time (s : State) (p : Nat) (f : PinSt → PinSt) : (s.updPin p f).time = s.time := rfl
@[simp] theorem State.updPin_hostReady (s : State) (p : Nat) (f : PinSt → PinSt) : (s.updPin p f).hostReady = s.hostReady := rfl
@[simp] theorem State.updPin_nis (s : State) (p : Nat) (f : PinSt → PinSt) : (s.updPin p f).nis = s.nis := rfl
@[simp] theorem State.updPin_flights (s : State) (p : Nat) (f : PinSt → PinSt) : (s.updPin p f).flights = s.flights := rfl
@[simp] theorem State.updPin_routes (s : State) (p : Nat) (f : PinSt → PinSt) : (s.updPin p f).routes = s.routes := rfl
@[simp] theorem State.updPin_dirc (s : State) (p : Nat) (f : PinSt → PinSt) : (s.updPin p f).dirc = s.dirc := rfl
@[simp] theorem State.updPin_bankJoins (s : State) (p : Nat) (f : PinSt → PinSt) : (s.updPin p f).bankJoins = s.bankJoins := rfl
@[simp] theorem State.updPin_joinNo (s : State) (p : Nat) (f : PinSt → PinSt) : (s.updPin p f).joinNo = s.joinNo := rfl
@[simp] theorem State.updPin_homes (s : State) (p : Nat) (f : PinSt → PinSt) : (s.updPin p f).homes = s.homes := rfl
@[simp] theorem State.updPin_fabHeld (s : State) (p : Nat) (f : PinSt → PinSt) : (s.updPin p f).fabHeld = s.fabHeld := rfl
@[simp] theorem State.updPin_bankUe (s : State) (p : Nat) (f : PinSt → PinSt) : (s.updPin p f).bankUe = s.bankUe := rfl
@[simp] theorem State.updPin_fcfg (s : State) (p : Nat) (f : PinSt → PinSt) : (s.updPin p f).fcfg = s.fcfg := rfl
@[simp] theorem State.updPin_bramInit (s : State) (p : Nat) (f : PinSt → PinSt) : (s.updPin p f).bramInit = s.bramInit := rfl
@[simp] theorem State.updPin_bramX (s : State) (p : Nat) (f : PinSt → PinSt) : (s.updPin p f).bramX = s.bramX := rfl
@[simp] theorem State.updPin_ffX (s : State) (p : Nat) (f : PinSt → PinSt) : (s.updPin p f).ffX = s.ffX := rfl
@[simp] theorem State.updPin_brams (s : State) (p : Nat) (f : PinSt → PinSt) : (s.updPin p f).brams = s.brams := rfl
@[simp] theorem State.updPin_slices (s : State) (p : Nat) (f : PinSt → PinSt) : (s.updPin p f).slices = s.slices := rfl
@[simp] theorem State.updPin_ios (s : State) (p : Nat) (f : PinSt → PinSt) : (s.updPin p f).ios = s.ios := rfl
@[simp] theorem State.updPin_ghWait (s : State) (p : Nat) (f : PinSt → PinSt) : (s.updPin p f).ghWait = s.ghWait := rfl
@[simp] theorem State.updPin_fcgs (s : State) (p : Nat) (f : PinSt → PinSt) : (s.updPin p f).fcgs = s.fcgs := rfl
@[simp] theorem State.updPin_load (s : State) (p : Nat) (f : PinSt → PinSt) : (s.updPin p f).load = s.load := rfl
@[simp] theorem State.updPin_fuses (s : State) (p : Nat) (f : PinSt → PinSt) : (s.updPin p f).fuses = s.fuses := rfl
@[simp] theorem State.updPin_svn (s : State) (p : Nat) (f : PinSt → PinSt) : (s.updPin p f).svn = s.svn := rfl
@[simp] theorem State.updPin_fuseArm (s : State) (p : Nat) (f : PinSt → PinSt) : (s.updPin p f).fuseArm = s.fuseArm := rfl
@[simp] theorem State.updPin_boot (s : State) (p : Nat) (f : PinSt → PinSt) : (s.updPin p f).boot = s.boot := rfl
@[simp] theorem State.updPin_strapOver (s : State) (p : Nat) (f : PinSt → PinSt) : (s.updPin p f).strapOver = s.strapOver := rfl
@[simp] theorem State.updPin_attest (s : State) (p : Nat) (f : PinSt → PinSt) : (s.updPin p f).attest = s.attest := rfl
@[simp] theorem State.updPin_report (s : State) (p : Nat) (f : PinSt → PinSt) : (s.updPin p f).report = s.report := rfl
@[simp] theorem State.updPin_cfgMeas (s : State) (p : Nat) (f : PinSt → PinSt) : (s.updPin p f).cfgMeas = s.cfgMeas := rfl
@[simp] theorem State.updPin_prChain (s : State) (p : Nat) (f : PinSt → PinSt) : (s.updPin p f).prChain = s.prChain := rfl
@[simp] theorem State.updPin_vcore (s : State) (p : Nat) (f : PinSt → PinSt) : (s.updPin p f).vcore = s.vcore := rfl
@[simp] theorem State.updPin_hj (s : State) (p : Nat) (f : PinSt → PinSt) : (s.updPin p f).hj = s.hj := rfl
@[simp] theorem State.updPin_edge (s : State) (p : Nat) (f : PinSt → PinSt) : (s.updPin p f).edge = s.edge := rfl
@[simp] theorem State.updPin_lineHi (s : State) (p : Nat) (f : PinSt → PinSt) : (s.updPin p f).lineHi = s.lineHi := rfl
@[simp] theorem State.updPin_gateOff (s : State) (p : Nat) (f : PinSt → PinSt) : (s.updPin p f).gateOff = s.gateOff := rfl
@[simp] theorem State.updPin_pins (s : State) (p : Nat) (f : PinSt → PinSt) : (s.updPin p f).pins = Table.upd PinSt.reset s.pins p f := rfl
@[simp] theorem State.updPin_padExt (s : State) (p : Nat) (f : PinSt → PinSt) : (s.updPin p f).padExt = s.padExt := rfl
@[simp] theorem State.updPin_retKey (s : State) (p : Nat) (f : PinSt → PinSt) : (s.updPin p f).retKey = s.retKey := rfl
@[simp] theorem State.updPin_frameCrcs (s : State) (p : Nat) (f : PinSt → PinSt) : (s.updPin p f).frameCrcs = s.frameCrcs := rfl
@[simp] theorem State.updPin_prnExcl (s : State) (p : Nat) (f : PinSt → PinSt) : (s.updPin p f).prnExcl = s.prnExcl := rfl

/-! ## The register store -/

/-- A field that has been written reads what was written, cut to its width. -/
@[simp] theorem State.rd_wr_same (s : State) (f : Fld) (v : Nat) : (s.wr f v).rd f = v % 2 ^ f.w := by
  simp [State.rd]

/-- A field with another bit address reads as before. -/
theorem State.rd_wr_ne (s : State) {f g : Fld} (v : Nat) (h : g.key ≠ f.key) : (s.wr f v).rd g = s.rd g := by
  simp [State.rd, Table.get_set_ne _ _ _ _ h]

@[simp] theorem State.setOn_eq (s : State) (f : Fld) : s.setOn f = s.wr f 1 := rfl
@[simp] theorem State.clr_eq (s : State) (f : Fld) : s.clr f = s.wr f 0 := rfl
theorem State.count_eq (s : State) (f : Fld) (n : Nat) : s.count f n = s.wr f (min (2 ^ f.w - 1) (s.rd f + n)) := rfl
theorem State.peak_eq (s : State) (f : Fld) (v : Nat) : s.peak f v = s.wr f (max (s.rd f) v) := rfl
@[simp] theorem State.on_iff (s : State) (f : Fld) : s.on f = true ↔ s.rd f = 1 := by simp [State.on]
@[simp] theorem State.when_true (s : State) (f : State → State) : s.when true f = f s := rfl
@[simp] theorem State.when_false (s : State) (f : State → State) : s.when false f = s := rfl

/-! ## Changes for each element of a list -/

@[simp] theorem State.each_nil {α : Type} (s : State) (f : State → α → State) : s.each [] f = s := rfl

@[simp] theorem State.each_cons {α : Type} (s : State) (a : α) (l : List α) (f : State → α → State) :
    s.each (a :: l) f = (f s a).each l f := rfl

/-- What every single change keeps, the whole list keeps. -/
theorem State.each_keeps {α : Type} (P : State → Prop) (s : State) (l : List α) (f : State → α → State)
    (h : ∀ s a, P s → P (f s a)) (hs : P s) : P (s.each l f) := by
  induction l generalizing s with
  | nil => exact hs
  | cons a l ih => exact ih (f s a) (h s a hs)

/-- What every single change leaves alone, the whole list leaves alone. -/
theorem State.each_same {α β : Type} (g : State → β) (s : State) (l : List α) (f : State → α → State)
    (h : ∀ s a, g (f s a) = g s) : g (s.each l f) = g s :=
  State.each_keeps (fun t => g t = g s) s l f (fun t a ht => (h t a).trans ht) rfl

/-! ## Free values -/

@[simp] theorem State.free_fst (s : State) (w : Nat) : (s.free w).1 = Config.freeBits s.fresh % 2 ^ w := rfl
@[simp] theorem State.free_snd (s : State) (w : Nat) : (s.free w).2 = { s with fresh := s.fresh + 1 } := rfl


end Sys2Proof.Machine
end

