-- ==== Sys2Proof/Laws/Changes.lean ====
section
/-! SUPPORT. What an operation may change: the parts of State, the relation Changes between a state and a later one, and how it
composes. Every operation of the machine has one lemma of this form in Laws/Operations.lean, which says once everything the operation
can touch. -/

namespace Sys2Proof.Machine

set_option Elab.async false

/-! ## Canonical form, operation by operation -/

theorem Table.wf_nil {α : Type} [DecidableEq α] (d : α) : Table.wf d ([] : Table α) = true := rfl
theorem Memory.wf_nil : Memory.wf [] = true := rfl

theorem Memory.wf_filter (p : Nat × Byte → Bool) (m : Memory) (h : Memory.wf m = true) : Memory.wf (m.filter p) = true :=
  Table.wf_filter 0 p m h

/-- A fold of steps that each keep a property keeps it. -/
theorem foldl_keeps {α β : Type} (P : β → Prop) (f : β → α → β) (hf : ∀ b a, P b → P (f b a)) (l : List α) (b : β) (h : P b) :
    P (l.foldl f b) := by
  induction l generalizing b with
  | nil => exact h
  | cons a l ih => exact ih _ (hf b a h)

theorem Table.wf_foldl_set {α β : Type} [DecidableEq α] (d : α) (k : β → Nat) (v : β → α) (l : List β) (t : Table α)
    (h : Table.wf d t = true) : Table.wf d (l.foldl (fun t e => Table.set d t (k e) (v e)) t) = true :=
  foldl_keeps (fun t => Table.wf d t = true) _ (fun t e ht => Table.wf_set d t (k e) (v e) ht) l t h

theorem Memory.wf_copyN (m : Memory) (a b n : Nat) (h : Memory.wf m = true) : Memory.wf (Memory.copyN m a b n) = true :=
  foldl_keeps (fun m => Memory.wf m = true) _ (fun m e hm => Memory.wf_write m _ _ hm) _ _ (Memory.wf_filter _ m h)

theorem Table.rising_map_add {α : Type} (k : Nat) (t : Table α) (h : Table.rising t = true) :
    Table.rising (t.map (fun e => (e.1 + k, e.2))) = true := by
  induction t with
  | nil => rfl
  | cons a t ih =>
    cases t with
    | nil => rfl
    | cons b t =>
      simp only [Table.rising, List.map_cons, Bool.and_eq_true, decide_eq_true_eq] at h ⊢
      exact ⟨by omega, ih h.2⟩

theorem Table.rising_append {α : Type} (k : Nat) (t u : Table α) (ht : Table.rising t = true) (hu : Table.rising u = true)
    (h1 : ∀ e ∈ t, e.1 < k) (h2 : ∀ e ∈ u, k ≤ e.1) : Table.rising (t ++ u) = true := by
  induction t with
  | nil => exact hu
  | cons a t ih =>
    have ih' := fun q => ih q (fun e he => h1 e (List.mem_cons_of_mem _ he))
    cases t with
    | nil =>
      cases u with
      | nil => rfl
      | cons b u =>
        simp only [List.cons_append, List.nil_append, Table.rising, Bool.and_eq_true, decide_eq_true_eq]
        have := h1 a (List.mem_cons_self ..)
        have := h2 b (List.mem_cons_self ..)
        exact ⟨by omega, hu⟩
    | cons b t =>
      simp only [Table.rising, List.cons_append, Bool.and_eq_true, decide_eq_true_eq] at ht ⊢
      exact ⟨ht.1, ih' ht.2⟩

/-- Both halves of a mirrored table rise, the second above the first. -/
theorem mirrorTable_wf {α : Type} [DecidableEq α] (d : α) (t : Table α) (h : Table.wf d t = true) :
    Table.wf d (mirrorTable t) = true := by
  have hw := Table.wf_filter d (fun x => decide (x.1 < 0x20000)) t h
  have hk : ∀ e ∈ t.filter (fun e => decide (e.1 < 0x20000)), e.1 < 0x20000 := by
    intro e he
    exact of_decide_eq_true (List.mem_filter.mp he).2
  simp only [Table.wf, Bool.and_eq_true, List.all_eq_true] at hw
  simp only [mirrorTable, Table.wf, Bool.and_eq_true, List.all_eq_true, List.mem_append, List.mem_map]
  refine ⟨Table.rising_append 0x20000 _ _ hw.1 (Table.rising_map_add 0x20000 _ hw.1) hk ?_, ?_⟩
  · intro e he
    obtain ⟨x, -, rfl⟩ := List.mem_map.mp he
    exact Nat.le_add_left _ _
  · rintro e (he | ⟨x, hx, rfl⟩)
    · exact hw.2 e he
    · exact hw.2 x hx

/-! ## The parts of State: one bit per field -/

abbrev Part.pending : Nat := 2 ^ 0
abbrev Part.por : Nat := 2 ^ 1
abbrev Part.ticks : Nat := 2 ^ 2
abbrev Part.fresh : Nat := 2 ^ 3
abbrev Part.regs : Nat := 2 ^ 4
abbrev Part.latches : Nat := 2 ^ 5
abbrev Part.holds : Nat := 2 ^ 6
abbrev Part.bus : Nat := 2 ^ 7
abbrev Part.out : Nat := 2 ^ 8
abbrev Part.heldOut : Nat := 2 ^ 9
abbrev Part.fns : Nat := 2 ^ 10
abbrev Part.ctxs : Nat := 2 ^ 11
abbrev Part.clks : Nat := 2 ^ 12
abbrev Part.agents : Nat := 2 ^ 13
abbrev Part.reports : Nat := 2 ^ 14
abbrev Part.engs : Nat := 2 ^ 15
abbrev Part.bays : Nat := 2 ^ 16
abbrev Part.fcc : Nat := 2 ^ 17
abbrev Part.chans : Nat := 2 ^ 18
abbrev Part.ssgs : Nat := 2 ^ 19
abbrev Part.seqMem : Nat := 2 ^ 20
abbrev Part.seqUnread : Nat := 2 ^ 21
abbrev Part.seqPos : Nat := 2 ^ 22
abbrev Part.fsets : Nat := 2 ^ 23
abbrev Part.lmaps : Nat := 2 ^ 24
abbrev Part.scr : Nat := 2 ^ 25
abbrev Part.tsets : Nat := 2 ^ 26
abbrev Part.calRecs : Nat := 2 ^ 27
abbrev Part.ports : Nat := 2 ^ 28
abbrev Part.bankMem : Nat := 2 ^ 29
abbrev Part.banks : Nat := 2 ^ 30
abbrev Part.dram : Nat := 2 ^ 31
abbrev Part.poison : Nat := 2 ^ 32
abbrev Part.startFold : Nat := 2 ^ 33
abbrev Part.restoring : Nat := 2 ^ 34
abbrev Part.dmcs : Nat := 2 ^ 35
abbrev Part.tb : Nat := 2 ^ 36
abbrev Part.trcs : Nat := 2 ^ 37
abbrev Part.sups : Nat := 2 ^ 38
abbrev Part.vccCh : Nat := 2 ^ 39
abbrev Part.drives : Nat := 2 ^ 40
abbrev Part.hbMiss : Nat := 2 ^ 41
abbrev Part.ownEp : Nat := 2 ^ 42
abbrev Part.talk : Nat := 2 ^ 43
abbrev Part.substs : Nat := 2 ^ 44
abbrev Part.snap : Nat := 2 ^ 45
abbrev Part.time : Nat := 2 ^ 46
abbrev Part.hostReady : Nat := 2 ^ 47
abbrev Part.nis : Nat := 2 ^ 48
abbrev Part.flights : Nat := 2 ^ 49
abbrev Part.routes : Nat := 2 ^ 50
abbrev Part.dirc : Nat := 2 ^ 51
abbrev Part.bankJoins : Nat := 2 ^ 52
abbrev Part.joinNo : Nat := 2 ^ 53
abbrev Part.homes : Nat := 2 ^ 54
abbrev Part.fabHeld : Nat := 2 ^ 55
abbrev Part.bankUe : Nat := 2 ^ 56
abbrev Part.fcfg : Nat := 2 ^ 57
abbrev Part.bramInit : Nat := 2 ^ 58
abbrev Part.bramX : Nat := 2 ^ 59
abbrev Part.ffX : Nat := 2 ^ 60
abbrev Part.brams : Nat := 2 ^ 61
abbrev Part.slices : Nat := 2 ^ 62
abbrev Part.ios : Nat := 2 ^ 63
abbrev Part.ghWait : Nat := 2 ^ 64
abbrev Part.fcgs : Nat := 2 ^ 65
abbrev Part.load : Nat := 2 ^ 66
abbrev Part.fuses : Nat := 2 ^ 67
abbrev Part.svn : Nat := 2 ^ 68
abbrev Part.fuseArm : Nat := 2 ^ 69
abbrev Part.boot : Nat := 2 ^ 70
abbrev Part.strapOver : Nat := 2 ^ 71
abbrev Part.attest : Nat := 2 ^ 72
abbrev Part.report : Nat := 2 ^ 73
abbrev Part.cfgMeas : Nat := 2 ^ 74
abbrev Part.prChain : Nat := 2 ^ 75
abbrev Part.vcore : Nat := 2 ^ 76
abbrev Part.hj : Nat := 2 ^ 77
abbrev Part.edge : Nat := 2 ^ 78
abbrev Part.lineHi : Nat := 2 ^ 79
abbrev Part.gateOff : Nat := 2 ^ 80
abbrev Part.pins : Nat := 2 ^ 81
abbrev Part.padExt : Nat := 2 ^ 82
abbrev Part.padOn : Nat := 2 ^ 83
abbrev Part.padKeep : Nat := 2 ^ 84
abbrev Part.retKey : Nat := 2 ^ 85
abbrev Part.frameCrcs : Nat := 2 ^ 86
abbrev Part.prnExcl : Nat := 2 ^ 87
abbrev Part.byReset : Nat := 2 ^ 88 - 1 - (Part.pending ||| Part.out ||| Part.vccCh ||| Part.fuses ||| Part.svn)

/-- t differs from s at most in the parts of m; the tables keep their canonical form, a fuse that holds a value keeps it, and the
fused security version does not fall. -/
structure Changes (m : Nat) (s t : State) : Prop where
  pending : m.testBit 0 = false → t.pending = s.pending
  por : m.testBit 1 = false → t.por = s.por
  ticks : m.testBit 2 = false → t.ticks = s.ticks
  fresh : m.testBit 3 = false → t.fresh = s.fresh
  regs : m.testBit 4 = false → t.regs = s.regs
  latches : m.testBit 5 = false → t.latches = s.latches
  holds : m.testBit 6 = false → t.holds = s.holds
  bus : m.testBit 7 = false → t.bus = s.bus
  out : m.testBit 8 = false → t.out = s.out
  heldOut : m.testBit 9 = false → t.heldOut = s.heldOut
  fns : m.testBit 10 = false → t.fns = s.fns
  ctxs : m.testBit 11 = false → t.ctxs = s.ctxs
  clks : m.testBit 12 = false → t.clks = s.clks
  agents : m.testBit 13 = false → t.agents = s.agents
  reports : m.testBit 14 = false → t.reports = s.reports
  engs : m.testBit 15 = false → t.engs = s.engs
  bays : m.testBit 16 = false → t.bays = s.bays
  fcc : m.testBit 17 = false → t.fcc = s.fcc
  chans : m.testBit 18 = false → t.chans = s.chans
  ssgs : m.testBit 19 = false → t.ssgs = s.ssgs
  seqMem : m.testBit 20 = false → t.seqMem = s.seqMem
  seqUnread : m.testBit 21 = false → t.seqUnread = s.seqUnread
  seqPos : m.testBit 22 = false → t.seqPos = s.seqPos
  fsets : m.testBit 23 = false → t.fsets = s.fsets
  lmaps : m.testBit 24 = false → t.lmaps = s.lmaps
  scr : m.testBit 25 = false → t.scr = s.scr
  tsets : m.testBit 26 = false → t.tsets = s.tsets
  calRecs : m.testBit 27 = false → t.calRecs = s.calRecs
  ports : m.testBit 28 = false → t.ports = s.ports
  bankMem : m.testBit 29 = false → t.bankMem = s.bankMem
  banks : m.testBit 30 = false → t.banks = s.banks
  dram : m.testBit 31 = false → t.dram = s.dram
  poison : m.testBit 32 = false → t.poison = s.poison
  startFold : m.testBit 33 = false → t.startFold = s.startFold
  restoring : m.testBit 34 = false → t.restoring = s.restoring
  dmcs : m.testBit 35 = false → t.dmcs = s.dmcs
  tb : m.testBit 36 = false → t.tb = s.tb
  trcs : m.testBit 37 = false → t.trcs = s.trcs
  sups : m.testBit 38 = false → t.sups = s.sups
  vccCh : m.testBit 39 = false → t.vccCh = s.vccCh
  drives : m.testBit 40 = false → t.drives = s.drives
  hbMiss : m.testBit 41 = false → t.hbMiss = s.hbMiss
  ownEp : m.testBit 42 = false → t.ownEp = s.ownEp
  talk : m.testBit 43 = false → t.talk = s.talk
  substs : m.testBit 44 = false → t.substs = s.substs
  snap : m.testBit 45 = false → t.snap = s.snap
  time : m.testBit 46 = false → t.time = s.time
  hostReady : m.testBit 47 = false → t.hostReady = s.hostReady
  nis : m.testBit 48 = false → t.nis = s.nis
  flights : m.testBit 49 = false → t.flights = s.flights
  routes : m.testBit 50 = false → t.routes = s.routes
  dirc : m.testBit 51 = false → t.dirc = s.dirc
  bankJoins : m.testBit 52 = false → t.bankJoins = s.bankJoins
  joinNo : m.testBit 53 = false → t.joinNo = s.joinNo
  homes : m.testBit 54 = false → t.homes = s.homes
  fabHeld : m.testBit 55 = false → t.fabHeld = s.fabHeld
  bankUe : m.testBit 56 = false → t.bankUe = s.bankUe
  fcfg : m.testBit 57 = false → t.fcfg = s.fcfg
  bramInit : m.testBit 58 = false → t.bramInit = s.bramInit
  bramX : m.testBit 59 = false → t.bramX = s.bramX
  ffX : m.testBit 60 = false → t.ffX = s.ffX
  brams : m.testBit 61 = false → t.brams = s.brams
  slices : m.testBit 62 = false → t.slices = s.slices
  ios : m.testBit 63 = false → t.ios = s.ios
  ghWait : m.testBit 64 = false → t.ghWait = s.ghWait
  fcgs : m.testBit 65 = false → t.fcgs = s.fcgs
  load : m.testBit 66 = false → t.load = s.load
  fuses : m.testBit 67 = false → t.fuses = s.fuses
  svn : m.testBit 68 = false → t.svn = s.svn
  fuseArm : m.testBit 69 = false → t.fuseArm = s.fuseArm
  boot : m.testBit 70 = false → t.boot = s.boot
  strapOver : m.testBit 71 = false → t.strapOver = s.strapOver
  attest : m.testBit 72 = false → t.attest = s.attest
  report : m.testBit 73 = false → t.report = s.report
  cfgMeas : m.testBit 74 = false → t.cfgMeas = s.cfgMeas
  prChain : m.testBit 75 = false → t.prChain = s.prChain
  vcore : m.testBit 76 = false → t.vcore = s.vcore
  hj : m.testBit 77 = false → t.hj = s.hj
  edge : m.testBit 78 = false → t.edge = s.edge
  lineHi : m.testBit 79 = false → t.lineHi = s.lineHi
  gateOff : m.testBit 80 = false → t.gateOff = s.gateOff
  pins : m.testBit 81 = false → t.pins = s.pins
  padExt : m.testBit 82 = false → t.padExt = s.padExt
  padOn : m.testBit 83 = false → t.padOn = s.padOn
  padKeep : m.testBit 84 = false → t.padKeep = s.padKeep
  retKey : m.testBit 85 = false → t.retKey = s.retKey
  frameCrcs : m.testBit 86 = false → t.frameCrcs = s.frameCrcs
  prnExcl : m.testBit 87 = false → t.prnExcl = s.prnExcl
  canonical : s.canonical = true → t.canonical = true
  keepsFuses : ∀ f v, Table.get none s.fuses f = some v → Table.get none t.fuses f = some v
  gainsSvn : s.svn ≤ t.svn

theorem Changes.refl (m : Nat) (s : State) : Changes m s s := by
  constructor <;> intros <;> first | rfl | assumption | exact Nat.le_refl _

theorem Part.bit_sub {k m i : Nat} (h : k ||| m = m) (hi : m.testBit i = false) : k.testBit i = false := by
  have e : (k ||| m).testBit i = false := by rw [h]; exact hi
  rw [Nat.testBit_or] at e
  exact (Bool.or_eq_false_iff.mp e).1

/-- One operation after another. -/
theorem Changes.then {m k : Nat} {r s t : State} (h : Changes m r s) (g : Changes k s t)
    (e : k ||| m = m := by exact rfl) : Changes m r t where
  pending b := (g.pending (Part.bit_sub e b)).trans (h.pending b)
  por b := (g.por (Part.bit_sub e b)).trans (h.por b)
  ticks b := (g.ticks (Part.bit_sub e b)).trans (h.ticks b)
  fresh b := (g.fresh (Part.bit_sub e b)).trans (h.fresh b)
  regs b := (g.regs (Part.bit_sub e b)).trans (h.regs b)
  latches b := (g.latches (Part.bit_sub e b)).trans (h.latches b)
  holds b := (g.holds (Part.bit_sub e b)).trans (h.holds b)
  bus b := (g.bus (Part.bit_sub e b)).trans (h.bus b)
  out b := (g.out (Part.bit_sub e b)).trans (h.out b)
  heldOut b := (g.heldOut (Part.bit_sub e b)).trans (h.heldOut b)
  fns b := (g.fns (Part.bit_sub e b)).trans (h.fns b)
  ctxs b := (g.ctxs (Part.bit_sub e b)).trans (h.ctxs b)
  clks b := (g.clks (Part.bit_sub e b)).trans (h.clks b)
  agents b := (g.agents (Part.bit_sub e b)).trans (h.agents b)
  reports b := (g.reports (Part.bit_sub e b)).trans (h.reports b)
  engs b := (g.engs (Part.bit_sub e b)).trans (h.engs b)
  bays b := (g.bays (Part.bit_sub e b)).trans (h.bays b)
  fcc b := (g.fcc (Part.bit_sub e b)).trans (h.fcc b)
  chans b := (g.chans (Part.bit_sub e b)).trans (h.chans b)
  ssgs b := (g.ssgs (Part.bit_sub e b)).trans (h.ssgs b)
  seqMem b := (g.seqMem (Part.bit_sub e b)).trans (h.seqMem b)
  seqUnread b := (g.seqUnread (Part.bit_sub e b)).trans (h.seqUnread b)
  seqPos b := (g.seqPos (Part.bit_sub e b)).trans (h.seqPos b)
  fsets b := (g.fsets (Part.bit_sub e b)).trans (h.fsets b)
  lmaps b := (g.lmaps (Part.bit_sub e b)).trans (h.lmaps b)
  scr b := (g.scr (Part.bit_sub e b)).trans (h.scr b)
  tsets b := (g.tsets (Part.bit_sub e b)).trans (h.tsets b)
  calRecs b := (g.calRecs (Part.bit_sub e b)).trans (h.calRecs b)
  ports b := (g.ports (Part.bit_sub e b)).trans (h.ports b)
  bankMem b := (g.bankMem (Part.bit_sub e b)).trans (h.bankMem b)
  banks b := (g.banks (Part.bit_sub e b)).trans (h.banks b)
  dram b := (g.dram (Part.bit_sub e b)).trans (h.dram b)
  poison b := (g.poison (Part.bit_sub e b)).trans (h.poison b)
  startFold b := (g.startFold (Part.bit_sub e b)).trans (h.startFold b)
  restoring b := (g.restoring (Part.bit_sub e b)).trans (h.restoring b)
  dmcs b := (g.dmcs (Part.bit_sub e b)).trans (h.dmcs b)
  tb b := (g.tb (Part.bit_sub e b)).trans (h.tb b)
  trcs b := (g.trcs (Part.bit_sub e b)).trans (h.trcs b)
  sups b := (g.sups (Part.bit_sub e b)).trans (h.sups b)
  vccCh b := (g.vccCh (Part.bit_sub e b)).trans (h.vccCh b)
  drives b := (g.drives (Part.bit_sub e b)).trans (h.drives b)
  hbMiss b := (g.hbMiss (Part.bit_sub e b)).trans (h.hbMiss b)
  ownEp b := (g.ownEp (Part.bit_sub e b)).trans (h.ownEp b)
  talk b := (g.talk (Part.bit_sub e b)).trans (h.talk b)
  substs b := (g.substs (Part.bit_sub e b)).trans (h.substs b)
  snap b := (g.snap (Part.bit_sub e b)).trans (h.snap b)
  time b := (g.time (Part.bit_sub e b)).trans (h.time b)
  hostReady b := (g.hostReady (Part.bit_sub e b)).trans (h.hostReady b)
  nis b := (g.nis (Part.bit_sub e b)).trans (h.nis b)
  flights b := (g.flights (Part.bit_sub e b)).trans (h.flights b)
  routes b := (g.routes (Part.bit_sub e b)).trans (h.routes b)
  dirc b := (g.dirc (Part.bit_sub e b)).trans (h.dirc b)
  bankJoins b := (g.bankJoins (Part.bit_sub e b)).trans (h.bankJoins b)
  joinNo b := (g.joinNo (Part.bit_sub e b)).trans (h.joinNo b)
  homes b := (g.homes (Part.bit_sub e b)).trans (h.homes b)
  fabHeld b := (g.fabHeld (Part.bit_sub e b)).trans (h.fabHeld b)
  bankUe b := (g.bankUe (Part.bit_sub e b)).trans (h.bankUe b)
  fcfg b := (g.fcfg (Part.bit_sub e b)).trans (h.fcfg b)
  bramInit b := (g.bramInit (Part.bit_sub e b)).trans (h.bramInit b)
  bramX b := (g.bramX (Part.bit_sub e b)).trans (h.bramX b)
  ffX b := (g.ffX (Part.bit_sub e b)).trans (h.ffX b)
  brams b := (g.brams (Part.bit_sub e b)).trans (h.brams b)
  slices b := (g.slices (Part.bit_sub e b)).trans (h.slices b)
  ios b := (g.ios (Part.bit_sub e b)).trans (h.ios b)
  ghWait b := (g.ghWait (Part.bit_sub e b)).trans (h.ghWait b)
  fcgs b := (g.fcgs (Part.bit_sub e b)).trans (h.fcgs b)
  load b := (g.load (Part.bit_sub e b)).trans (h.load b)
  fuses b := (g.fuses (Part.bit_sub e b)).trans (h.fuses b)
  svn b := (g.svn (Part.bit_sub e b)).trans (h.svn b)
  fuseArm b := (g.fuseArm (Part.bit_sub e b)).trans (h.fuseArm b)
  boot b := (g.boot (Part.bit_sub e b)).trans (h.boot b)
  strapOver b := (g.strapOver (Part.bit_sub e b)).trans (h.strapOver b)
  attest b := (g.attest (Part.bit_sub e b)).trans (h.attest b)
  report b := (g.report (Part.bit_sub e b)).trans (h.report b)
  cfgMeas b := (g.cfgMeas (Part.bit_sub e b)).trans (h.cfgMeas b)
  prChain b := (g.prChain (Part.bit_sub e b)).trans (h.prChain b)
  vcore b := (g.vcore (Part.bit_sub e b)).trans (h.vcore b)
  hj b := (g.hj (Part.bit_sub e b)).trans (h.hj b)
  edge b := (g.edge (Part.bit_sub e b)).trans (h.edge b)
  lineHi b := (g.lineHi (Part.bit_sub e b)).trans (h.lineHi b)
  gateOff b := (g.gateOff (Part.bit_sub e b)).trans (h.gateOff b)
  pins b := (g.pins (Part.bit_sub e b)).trans (h.pins b)
  padExt b := (g.padExt (Part.bit_sub e b)).trans (h.padExt b)
  padOn b := (g.padOn (Part.bit_sub e b)).trans (h.padOn b)
  padKeep b := (g.padKeep (Part.bit_sub e b)).trans (h.padKeep b)
  retKey b := (g.retKey (Part.bit_sub e b)).trans (h.retKey b)
  frameCrcs b := (g.frameCrcs (Part.bit_sub e b)).trans (h.frameCrcs b)
  prnExcl b := (g.prnExcl (Part.bit_sub e b)).trans (h.prnExcl b)
  canonical c := g.canonical (h.canonical c)
  keepsFuses f v q := g.keepsFuses f v (h.keepsFuses f v q)
  gainsSvn := Nat.le_trans h.gainsSvn g.gainsSvn

theorem Changes.mono {m k : Nat} {s t : State} (g : Changes k s t) (e : k ||| m = m := by exact rfl) : Changes m s t :=
  (Changes.refl m s).then g e

theorem Changes.trans {m : Nat} {r s t : State} (h : Changes m r s) (g : Changes m s t) : Changes m r t :=
  h.then g (Nat.or_self m)

/-- b with the parts of m taken from t. -/
def State.merge (m : Nat) (b t : State) : State where
  pending := if m.testBit 0 = false then b.pending else t.pending
  por := if m.testBit 1 = false then b.por else t.por
  ticks := if m.testBit 2 = false then b.ticks else t.ticks
  fresh := if m.testBit 3 = false then b.fresh else t.fresh
  regs := if m.testBit 4 = false then b.regs else t.regs
  latches := if m.testBit 5 = false then b.latches else t.latches
  holds := if m.testBit 6 = false then b.holds else t.holds
  bus := if m.testBit 7 = false then b.bus else t.bus
  out := if m.testBit 8 = false then b.out else t.out
  heldOut := if m.testBit 9 = false then b.heldOut else t.heldOut
  fns := if m.testBit 10 = false then b.fns else t.fns
  ctxs := if m.testBit 11 = false then b.ctxs else t.ctxs
  clks := if m.testBit 12 = false then b.clks else t.clks
  agents := if m.testBit 13 = false then b.agents else t.agents
  reports := if m.testBit 14 = false then b.reports else t.reports
  engs := if m.testBit 15 = false then b.engs else t.engs
  bays := if m.testBit 16 = false then b.bays else t.bays
  fcc := if m.testBit 17 = false then b.fcc else t.fcc
  chans := if m.testBit 18 = false then b.chans else t.chans
  ssgs := if m.testBit 19 = false then b.ssgs else t.ssgs
  seqMem := if m.testBit 20 = false then b.seqMem else t.seqMem
  seqUnread := if m.testBit 21 = false then b.seqUnread else t.seqUnread
  seqPos := if m.testBit 22 = false then b.seqPos else t.seqPos
  fsets := if m.testBit 23 = false then b.fsets else t.fsets
  lmaps := if m.testBit 24 = false then b.lmaps else t.lmaps
  scr := if m.testBit 25 = false then b.scr else t.scr
  tsets := if m.testBit 26 = false then b.tsets else t.tsets
  calRecs := if m.testBit 27 = false then b.calRecs else t.calRecs
  ports := if m.testBit 28 = false then b.ports else t.ports
  bankMem := if m.testBit 29 = false then b.bankMem else t.bankMem
  banks := if m.testBit 30 = false then b.banks else t.banks
  dram := if m.testBit 31 = false then b.dram else t.dram
  poison := if m.testBit 32 = false then b.poison else t.poison
  startFold := if m.testBit 33 = false then b.startFold else t.startFold
  restoring := if m.testBit 34 = false then b.restoring else t.restoring
  dmcs := if m.testBit 35 = false then b.dmcs else t.dmcs
  tb := if m.testBit 36 = false then b.tb else t.tb
  trcs := if m.testBit 37 = false then b.trcs else t.trcs
  sups := if m.testBit 38 = false then b.sups else t.sups
  vccCh := if m.testBit 39 = false then b.vccCh else t.vccCh
  drives := if m.testBit 40 = false then b.drives else t.drives
  hbMiss := if m.testBit 41 = false then b.hbMiss else t.hbMiss
  ownEp := if m.testBit 42 = false then b.ownEp else t.ownEp
  talk := if m.testBit 43 = false then b.talk else t.talk
  substs := if m.testBit 44 = false then b.substs else t.substs
  snap := if m.testBit 45 = false then b.snap else t.snap
  time := if m.testBit 46 = false then b.time else t.time
  hostReady := if m.testBit 47 = false then b.hostReady else t.hostReady
  nis := if m.testBit 48 = false then b.nis else t.nis
  flights := if m.testBit 49 = false then b.flights else t.flights
  routes := if m.testBit 50 = false then b.routes else t.routes
  dirc := if m.testBit 51 = false then b.dirc else t.dirc
  bankJoins := if m.testBit 52 = false then b.bankJoins else t.bankJoins
  joinNo := if m.testBit 53 = false then b.joinNo else t.joinNo
  homes := if m.testBit 54 = false then b.homes else t.homes
  fabHeld := if m.testBit 55 = false then b.fabHeld else t.fabHeld
  bankUe := if m.testBit 56 = false then b.bankUe else t.bankUe
  fcfg := if m.testBit 57 = false then b.fcfg else t.fcfg
  bramInit := if m.testBit 58 = false then b.bramInit else t.bramInit
  bramX := if m.testBit 59 = false then b.bramX else t.bramX
  ffX := if m.testBit 60 = false then b.ffX else t.ffX
  brams := if m.testBit 61 = false then b.brams else t.brams
  slices := if m.testBit 62 = false then b.slices else t.slices
  ios := if m.testBit 63 = false then b.ios else t.ios
  ghWait := if m.testBit 64 = false then b.ghWait else t.ghWait
  fcgs := if m.testBit 65 = false then b.fcgs else t.fcgs
  load := if m.testBit 66 = false then b.load else t.load
  fuses := if m.testBit 67 = false then b.fuses else t.fuses
  svn := if m.testBit 68 = false then b.svn else t.svn
  fuseArm := if m.testBit 69 = false then b.fuseArm else t.fuseArm
  boot := if m.testBit 70 = false then b.boot else t.boot
  strapOver := if m.testBit 71 = false then b.strapOver else t.strapOver
  attest := if m.testBit 72 = false then b.attest else t.attest
  report := if m.testBit 73 = false then b.report else t.report
  cfgMeas := if m.testBit 74 = false then b.cfgMeas else t.cfgMeas
  prChain := if m.testBit 75 = false then b.prChain else t.prChain
  vcore := if m.testBit 76 = false then b.vcore else t.vcore
  hj := if m.testBit 77 = false then b.hj else t.hj
  edge := if m.testBit 78 = false then b.edge else t.edge
  lineHi := if m.testBit 79 = false then b.lineHi else t.lineHi
  gateOff := if m.testBit 80 = false then b.gateOff else t.gateOff
  pins := if m.testBit 81 = false then b.pins else t.pins
  padExt := if m.testBit 82 = false then b.padExt else t.padExt
  padOn := if m.testBit 83 = false then b.padOn else t.padOn
  padKeep := if m.testBit 84 = false then b.padKeep else t.padKeep
  retKey := if m.testBit 85 = false then b.retKey else t.retKey
  frameCrcs := if m.testBit 86 = false then b.frameCrcs else t.frameCrcs
  prnExcl := if m.testBit 87 = false then b.prnExcl else t.prnExcl

/-- A record update that touches no table of the canonical form and no fuse. -/
theorem Changes.put {m : Nat} {r b t : State} (h : Changes m r b) (e : t = b.merge m t)
    (hc : b.canonical = true → t.canonical = true) (hf : t.fuses = b.fuses) (hs : t.svn = b.svn) : Changes m r t where
  pending q := ((congrArg State.pending e).trans (if_pos q)).trans (h.pending q)
  por q := ((congrArg State.por e).trans (if_pos q)).trans (h.por q)
  ticks q := ((congrArg State.ticks e).trans (if_pos q)).trans (h.ticks q)
  fresh q := ((congrArg State.fresh e).trans (if_pos q)).trans (h.fresh q)
  regs q := ((congrArg State.regs e).trans (if_pos q)).trans (h.regs q)
  latches q := ((congrArg State.latches e).trans (if_pos q)).trans (h.latches q)
  holds q := ((congrArg State.holds e).trans (if_pos q)).trans (h.holds q)
  bus q := ((congrArg State.bus e).trans (if_pos q)).trans (h.bus q)
  out q := ((congrArg State.out e).trans (if_pos q)).trans (h.out q)
  heldOut q := ((congrArg State.heldOut e).trans (if_pos q)).trans (h.heldOut q)
  fns q := ((congrArg State.fns e).trans (if_pos q)).trans (h.fns q)
  ctxs q := ((congrArg State.ctxs e).trans (if_pos q)).trans (h.ctxs q)
  clks q := ((congrArg State.clks e).trans (if_pos q)).trans (h.clks q)
  agents q := ((congrArg State.agents e).trans (if_pos q)).trans (h.agents q)
  reports q := ((congrArg State.reports e).trans (if_pos q)).trans (h.reports q)
  engs q := ((congrArg State.engs e).trans (if_pos q)).trans (h.engs q)
  bays q := ((congrArg State.bays e).trans (if_pos q)).trans (h.bays q)
  fcc q := ((congrArg State.fcc e).trans (if_pos q)).trans (h.fcc q)
  chans q := ((congrArg State.chans e).trans (if_pos q)).trans (h.chans q)
  ssgs q := ((congrArg State.ssgs e).trans (if_pos q)).trans (h.ssgs q)
  seqMem q := ((congrArg State.seqMem e).trans (if_pos q)).trans (h.seqMem q)
  seqUnread q := ((congrArg State.seqUnread e).trans (if_pos q)).trans (h.seqUnread q)
  seqPos q := ((congrArg State.seqPos e).trans (if_pos q)).trans (h.seqPos q)
  fsets q := ((congrArg State.fsets e).trans (if_pos q)).trans (h.fsets q)
  lmaps q := ((congrArg State.lmaps e).trans (if_pos q)).trans (h.lmaps q)
  scr q := ((congrArg State.scr e).trans (if_pos q)).trans (h.scr q)
  tsets q := ((congrArg State.tsets e).trans (if_pos q)).trans (h.tsets q)
  calRecs q := ((congrArg State.calRecs e).trans (if_pos q)).trans (h.calRecs q)
  ports q := ((congrArg State.ports e).trans (if_pos q)).trans (h.ports q)
  bankMem q := ((congrArg State.bankMem e).trans (if_pos q)).trans (h.bankMem q)
  banks q := ((congrArg State.banks e).trans (if_pos q)).trans (h.banks q)
  dram q := ((congrArg State.dram e).trans (if_pos q)).trans (h.dram q)
  poison q := ((congrArg State.poison e).trans (if_pos q)).trans (h.poison q)
  startFold q := ((congrArg State.startFold e).trans (if_pos q)).trans (h.startFold q)
  restoring q := ((congrArg State.restoring e).trans (if_pos q)).trans (h.restoring q)
  dmcs q := ((congrArg State.dmcs e).trans (if_pos q)).trans (h.dmcs q)
  tb q := ((congrArg State.tb e).trans (if_pos q)).trans (h.tb q)
  trcs q := ((congrArg State.trcs e).trans (if_pos q)).trans (h.trcs q)
  sups q := ((congrArg State.sups e).trans (if_pos q)).trans (h.sups q)
  vccCh q := ((congrArg State.vccCh e).trans (if_pos q)).trans (h.vccCh q)
  drives q := ((congrArg State.drives e).trans (if_pos q)).trans (h.drives q)
  hbMiss q := ((congrArg State.hbMiss e).trans (if_pos q)).trans (h.hbMiss q)
  ownEp q := ((congrArg State.ownEp e).trans (if_pos q)).trans (h.ownEp q)
  talk q := ((congrArg State.talk e).trans (if_pos q)).trans (h.talk q)
  substs q := ((congrArg State.substs e).trans (if_pos q)).trans (h.substs q)
  snap q := ((congrArg State.snap e).trans (if_pos q)).trans (h.snap q)
  time q := ((congrArg State.time e).trans (if_pos q)).trans (h.time q)
  hostReady q := ((congrArg State.hostReady e).trans (if_pos q)).trans (h.hostReady q)
  nis q := ((congrArg State.nis e).trans (if_pos q)).trans (h.nis q)
  flights q := ((congrArg State.flights e).trans (if_pos q)).trans (h.flights q)
  routes q := ((congrArg State.routes e).trans (if_pos q)).trans (h.routes q)
  dirc q := ((congrArg State.dirc e).trans (if_pos q)).trans (h.dirc q)
  bankJoins q := ((congrArg State.bankJoins e).trans (if_pos q)).trans (h.bankJoins q)
  joinNo q := ((congrArg State.joinNo e).trans (if_pos q)).trans (h.joinNo q)
  homes q := ((congrArg State.homes e).trans (if_pos q)).trans (h.homes q)
  fabHeld q := ((congrArg State.fabHeld e).trans (if_pos q)).trans (h.fabHeld q)
  bankUe q := ((congrArg State.bankUe e).trans (if_pos q)).trans (h.bankUe q)
  fcfg q := ((congrArg State.fcfg e).trans (if_pos q)).trans (h.fcfg q)
  bramInit q := ((congrArg State.bramInit e).trans (if_pos q)).trans (h.bramInit q)
  bramX q := ((congrArg State.bramX e).trans (if_pos q)).trans (h.bramX q)
  ffX q := ((congrArg State.ffX e).trans (if_pos q)).trans (h.ffX q)
  brams q := ((congrArg State.brams e).trans (if_pos q)).trans (h.brams q)
  slices q := ((congrArg State.slices e).trans (if_pos q)).trans (h.slices q)
  ios q := ((congrArg State.ios e).trans (if_pos q)).trans (h.ios q)
  ghWait q := ((congrArg State.ghWait e).trans (if_pos q)).trans (h.ghWait q)
  fcgs q := ((congrArg State.fcgs e).trans (if_pos q)).trans (h.fcgs q)
  load q := ((congrArg State.load e).trans (if_pos q)).trans (h.load q)
  fuses q := ((congrArg State.fuses e).trans (if_pos q)).trans (h.fuses q)
  svn q := ((congrArg State.svn e).trans (if_pos q)).trans (h.svn q)
  fuseArm q := ((congrArg State.fuseArm e).trans (if_pos q)).trans (h.fuseArm q)
  boot q := ((congrArg State.boot e).trans (if_pos q)).trans (h.boot q)
  strapOver q := ((congrArg State.strapOver e).trans (if_pos q)).trans (h.strapOver q)
  attest q := ((congrArg State.attest e).trans (if_pos q)).trans (h.attest q)
  report q := ((congrArg State.report e).trans (if_pos q)).trans (h.report q)
  cfgMeas q := ((congrArg State.cfgMeas e).trans (if_pos q)).trans (h.cfgMeas q)
  prChain q := ((congrArg State.prChain e).trans (if_pos q)).trans (h.prChain q)
  vcore q := ((congrArg State.vcore e).trans (if_pos q)).trans (h.vcore q)
  hj q := ((congrArg State.hj e).trans (if_pos q)).trans (h.hj q)
  edge q := ((congrArg State.edge e).trans (if_pos q)).trans (h.edge q)
  lineHi q := ((congrArg State.lineHi e).trans (if_pos q)).trans (h.lineHi q)
  gateOff q := ((congrArg State.gateOff e).trans (if_pos q)).trans (h.gateOff q)
  pins q := ((congrArg State.pins e).trans (if_pos q)).trans (h.pins q)
  padExt q := ((congrArg State.padExt e).trans (if_pos q)).trans (h.padExt q)
  padOn q := ((congrArg State.padOn e).trans (if_pos q)).trans (h.padOn q)
  padKeep q := ((congrArg State.padKeep e).trans (if_pos q)).trans (h.padKeep q)
  retKey q := ((congrArg State.retKey e).trans (if_pos q)).trans (h.retKey q)
  frameCrcs q := ((congrArg State.frameCrcs e).trans (if_pos q)).trans (h.frameCrcs q)
  prnExcl q := ((congrArg State.prnExcl e).trans (if_pos q)).trans (h.prnExcl q)
  canonical c := hc (h.canonical c)
  keepsFuses f v q := by rw [hf]; exact h.keepsFuses f v q
  gainsSvn := by rw [hs]; exact h.gainsSvn

/-- Equal parts make equal states. -/
theorem State.eq_of_parts {s t : State}
    (h0 : s.pending = t.pending)
    (h1 : s.por = t.por)
    (h2 : s.ticks = t.ticks)
    (h3 : s.fresh = t.fresh)
    (h4 : s.regs = t.regs)
    (h5 : s.latches = t.latches)
    (h6 : s.holds = t.holds)
    (h7 : s.bus = t.bus)
    (h8 : s.out = t.out)
    (h9 : s.heldOut = t.heldOut)
    (h10 : s.fns = t.fns)
    (h11 : s.ctxs = t.ctxs)
    (h12 : s.clks = t.clks)
    (h13 : s.agents = t.agents)
    (h14 : s.reports = t.reports)
    (h15 : s.engs = t.engs)
    (h16 : s.bays = t.bays)
    (h17 : s.fcc = t.fcc)
    (h18 : s.chans = t.chans)
    (h19 : s.ssgs = t.ssgs)
    (h20 : s.seqMem = t.seqMem)
    (h21 : s.seqUnread = t.seqUnread)
    (h22 : s.seqPos = t.seqPos)
    (h23 : s.fsets = t.fsets)
    (h24 : s.lmaps = t.lmaps)
    (h25 : s.scr = t.scr)
    (h26 : s.tsets = t.tsets)
    (h27 : s.calRecs = t.calRecs)
    (h28 : s.ports = t.ports)
    (h29 : s.bankMem = t.bankMem)
    (h30 : s.banks = t.banks)
    (h31 : s.dram = t.dram)
    (h32 : s.poison = t.poison)
    (h33 : s.startFold = t.startFold)
    (h34 : s.restoring = t.restoring)
    (h35 : s.dmcs = t.dmcs)
    (h36 : s.tb = t.tb)
    (h37 : s.trcs = t.trcs)
    (h38 : s.sups = t.sups)
    (h39 : s.vccCh = t.vccCh)
    (h40 : s.drives = t.drives)
    (h41 : s.hbMiss = t.hbMiss)
    (h42 : s.ownEp = t.ownEp)
    (h43 : s.talk = t.talk)
    (h44 : s.substs = t.substs)
    (h45 : s.snap = t.snap)
    (h46 : s.time = t.time)
    (h47 : s.hostReady = t.hostReady)
    (h48 : s.nis = t.nis)
    (h49 : s.flights = t.flights)
    (h50 : s.routes = t.routes)
    (h51 : s.dirc = t.dirc)
    (h52 : s.bankJoins = t.bankJoins)
    (h53 : s.joinNo = t.joinNo)
    (h54 : s.homes = t.homes)
    (h55 : s.fabHeld = t.fabHeld)
    (h56 : s.bankUe = t.bankUe)
    (h57 : s.fcfg = t.fcfg)
    (h58 : s.bramInit = t.bramInit)
    (h59 : s.bramX = t.bramX)
    (h60 : s.ffX = t.ffX)
    (h61 : s.brams = t.brams)
    (h62 : s.slices = t.slices)
    (h63 : s.ios = t.ios)
    (h64 : s.ghWait = t.ghWait)
    (h65 : s.fcgs = t.fcgs)
    (h66 : s.load = t.load)
    (h67 : s.fuses = t.fuses)
    (h68 : s.svn = t.svn)
    (h69 : s.fuseArm = t.fuseArm)
    (h70 : s.boot = t.boot)
    (h71 : s.strapOver = t.strapOver)
    (h72 : s.attest = t.attest)
    (h73 : s.report = t.report)
    (h74 : s.cfgMeas = t.cfgMeas)
    (h75 : s.prChain = t.prChain)
    (h76 : s.vcore = t.vcore)
    (h77 : s.hj = t.hj)
    (h78 : s.edge = t.edge)
    (h79 : s.lineHi = t.lineHi)
    (h80 : s.gateOff = t.gateOff)
    (h81 : s.pins = t.pins)
    (h82 : s.padExt = t.padExt)
    (h83 : s.padOn = t.padOn)
    (h84 : s.padKeep = t.padKeep)
    (h85 : s.retKey = t.retKey)
    (h86 : s.frameCrcs = t.frameCrcs)
    (h87 : s.prnExcl = t.prnExcl) : s = t := by
  cases s
  cases t
  cases h0
  cases h1
  cases h2
  cases h3
  cases h4
  cases h5
  cases h6
  cases h7
  cases h8
  cases h9
  cases h10
  cases h11
  cases h12
  cases h13
  cases h14
  cases h15
  cases h16
  cases h17
  cases h18
  cases h19
  cases h20
  cases h21
  cases h22
  cases h23
  cases h24
  cases h25
  cases h26
  cases h27
  cases h28
  cases h29
  cases h30
  cases h31
  cases h32
  cases h33
  cases h34
  cases h35
  cases h36
  cases h37
  cases h38
  cases h39
  cases h40
  cases h41
  cases h42
  cases h43
  cases h44
  cases h45
  cases h46
  cases h47
  cases h48
  cases h49
  cases h50
  cases h51
  cases h52
  cases h53
  cases h54
  cases h55
  cases h56
  cases h57
  cases h58
  cases h59
  cases h60
  cases h61
  cases h62
  cases h63
  cases h64
  cases h65
  cases h66
  cases h67
  cases h68
  cases h69
  cases h70
  cases h71
  cases h72
  cases h73
  cases h74
  cases h75
  cases h76
  cases h77
  cases h78
  cases h79
  cases h80
  cases h81
  cases h82
  cases h83
  cases h84
  cases h85
  cases h86
  cases h87
  rfl

theorem Changes.pick {α : Type} {m i : Nat} {a b : α} (h : m.testBit i = false → b = a) :
    b = if m.testBit i = false then a else b := by
  split
  · exact h (by assumption)
  · rfl

/-- A later state is the earlier one with the changed parts taken over. -/
theorem Changes.merge_eq {m : Nat} {s t : State} (h : Changes m s t) : t = s.merge m t :=
  State.eq_of_parts
    (Changes.pick h.pending)
    (Changes.pick h.por)
    (Changes.pick h.ticks)
    (Changes.pick h.fresh)
    (Changes.pick h.regs)
    (Changes.pick h.latches)
    (Changes.pick h.holds)
    (Changes.pick h.bus)
    (Changes.pick h.out)
    (Changes.pick h.heldOut)
    (Changes.pick h.fns)
    (Changes.pick h.ctxs)
    (Changes.pick h.clks)
    (Changes.pick h.agents)
    (Changes.pick h.reports)
    (Changes.pick h.engs)
    (Changes.pick h.bays)
    (Changes.pick h.fcc)
    (Changes.pick h.chans)
    (Changes.pick h.ssgs)
    (Changes.pick h.seqMem)
    (Changes.pick h.seqUnread)
    (Changes.pick h.seqPos)
    (Changes.pick h.fsets)
    (Changes.pick h.lmaps)
    (Changes.pick h.scr)
    (Changes.pick h.tsets)
    (Changes.pick h.calRecs)
    (Changes.pick h.ports)
    (Changes.pick h.bankMem)
    (Changes.pick h.banks)
    (Changes.pick h.dram)
    (Changes.pick h.poison)
    (Changes.pick h.startFold)
    (Changes.pick h.restoring)
    (Changes.pick h.dmcs)
    (Changes.pick h.tb)
    (Changes.pick h.trcs)
    (Changes.pick h.sups)
    (Changes.pick h.vccCh)
    (Changes.pick h.drives)
    (Changes.pick h.hbMiss)
    (Changes.pick h.ownEp)
    (Changes.pick h.talk)
    (Changes.pick h.substs)
    (Changes.pick h.snap)
    (Changes.pick h.time)
    (Changes.pick h.hostReady)
    (Changes.pick h.nis)
    (Changes.pick h.flights)
    (Changes.pick h.routes)
    (Changes.pick h.dirc)
    (Changes.pick h.bankJoins)
    (Changes.pick h.joinNo)
    (Changes.pick h.homes)
    (Changes.pick h.fabHeld)
    (Changes.pick h.bankUe)
    (Changes.pick h.fcfg)
    (Changes.pick h.bramInit)
    (Changes.pick h.bramX)
    (Changes.pick h.ffX)
    (Changes.pick h.brams)
    (Changes.pick h.slices)
    (Changes.pick h.ios)
    (Changes.pick h.ghWait)
    (Changes.pick h.fcgs)
    (Changes.pick h.load)
    (Changes.pick h.fuses)
    (Changes.pick h.svn)
    (Changes.pick h.fuseArm)
    (Changes.pick h.boot)
    (Changes.pick h.strapOver)
    (Changes.pick h.attest)
    (Changes.pick h.report)
    (Changes.pick h.cfgMeas)
    (Changes.pick h.prChain)
    (Changes.pick h.vcore)
    (Changes.pick h.hj)
    (Changes.pick h.edge)
    (Changes.pick h.lineHi)
    (Changes.pick h.gateOff)
    (Changes.pick h.pins)
    (Changes.pick h.padExt)
    (Changes.pick h.padOn)
    (Changes.pick h.padKeep)
    (Changes.pick h.retKey)
    (Changes.pick h.frameCrcs)
    (Changes.pick h.prnExcl)

/-- Tables that keep their form one by one keep it together. -/
theorem State.canonical_of {b t : State} (bankMem : Memory.wf b.bankMem = true → Memory.wf t.bankMem = true := by exact fun h => h)
    (dram : Memory.wf b.dram = true → Memory.wf t.dram = true := by exact fun h => h)
    (tsets : Memory.wf b.tsets = true → Memory.wf t.tsets = true := by exact fun h => h)
    (lmaps : Memory.wf b.lmaps = true → Memory.wf t.lmaps = true := by exact fun h => h)
    (fsets : Memory.wf b.fsets = true → Memory.wf t.fsets = true := by exact fun h => h)
    (seqMem : Table.wf (0 : Entry) b.seqMem = true → Table.wf (0 : Entry) t.seqMem = true := by exact fun h => h)
    (seqUnread : Table.wf false b.seqUnread = true → Table.wf false t.seqUnread = true := by exact fun h => h)
    (scr : Table.wf none b.scr = true → Table.wf none t.scr = true := by exact fun h => h)
    (bus : Table.wf 0 b.bus = true → Table.wf 0 t.bus = true := by exact fun h => h)
    (holds : Table.wf none b.holds = true → Table.wf none t.holds = true := by exact fun h => h)
    (routes : Table.wf none b.routes = true → Table.wf none t.routes = true := by exact fun h => h)
    (h : b.canonical = true) : t.canonical = true := by
  simp only [State.canonical, Bool.and_eq_true] at h ⊢
  obtain ⟨⟨⟨⟨⟨⟨⟨⟨⟨⟨h1, h2⟩, h3⟩, h4⟩, h5⟩, h6⟩, h7⟩, h8⟩, h9⟩, h10⟩, h11⟩ := h
  exact ⟨⟨⟨⟨⟨⟨⟨⟨⟨⟨bankMem h1, dram h2⟩, tsets h3⟩, lmaps h4⟩, fsets h5⟩, seqMem h6⟩, seqUnread h7⟩, scr h8⟩, bus h9⟩,
    holds h10⟩, routes h11⟩

/-! ## One field written -/

theorem Changes.set_pending {m : Nat} {r b : State} {v : List Instr} (h : Changes m r b)
    (e : Part.pending ||| m = m := by exact rfl) : Changes m r { b with pending := v } :=
  h.then (Changes.put (m := Part.pending) (Changes.refl _ b) rfl (fun c => c) rfl rfl) e
theorem Changes.set_por {m : Nat} {r b : State} {v : Bool} (h : Changes m r b)
    (e : Part.por ||| m = m := by exact rfl) : Changes m r { b with por := v } :=
  h.then (Changes.put (m := Part.por) (Changes.refl _ b) rfl (fun c => c) rfl rfl) e
theorem Changes.set_ticks {m : Nat} {r b : State} {v : Nat} (h : Changes m r b)
    (e : Part.ticks ||| m = m := by exact rfl) : Changes m r { b with ticks := v } :=
  h.then (Changes.put (m := Part.ticks) (Changes.refl _ b) rfl (fun c => c) rfl rfl) e
theorem Changes.set_fresh {m : Nat} {r b : State} {v : Nat} (h : Changes m r b)
    (e : Part.fresh ||| m = m := by exact rfl) : Changes m r { b with fresh := v } :=
  h.then (Changes.put (m := Part.fresh) (Changes.refl _ b) rfl (fun c => c) rfl rfl) e
theorem Changes.set_regs {m : Nat} {r b : State} {v : Table Nat} (h : Changes m r b)
    (e : Part.regs ||| m = m := by exact rfl) : Changes m r { b with regs := v } :=
  h.then (Changes.put (m := Part.regs) (Changes.refl _ b) rfl (fun c => c) rfl rfl) e
theorem Changes.set_latches {m : Nat} {r b : State} {v : Table Latch} (h : Changes m r b)
    (e : Part.latches ||| m = m := by exact rfl) : Changes m r { b with latches := v } :=
  h.then (Changes.put (m := Part.latches) (Changes.refl _ b) rfl (fun c => c) rfl rfl) e
theorem Changes.set_holds {m : Nat} {r b : State} {v : Table (Option Nat)} (h : Changes m r b) (w : Table.wf none b.holds = true → Table.wf none v = true)
    (e : Part.holds ||| m = m := by exact rfl) : Changes m r { b with holds := v } :=
  h.then (Changes.put (m := Part.holds) (Changes.refl _ b) rfl (State.canonical_of (holds := w)) rfl rfl) e
theorem Changes.set_bus {m : Nat} {r b : State} {v : Table Nat} (h : Changes m r b) (w : Table.wf 0 b.bus = true → Table.wf 0 v = true)
    (e : Part.bus ||| m = m := by exact rfl) : Changes m r { b with bus := v } :=
  h.then (Changes.put (m := Part.bus) (Changes.refl _ b) rfl (State.canonical_of (bus := w)) rfl rfl) e
theorem Changes.set_out {m : Nat} {r b : State} {v : List HostOut} (h : Changes m r b)
    (e : Part.out ||| m = m := by exact rfl) : Changes m r { b with out := v } :=
  h.then (Changes.put (m := Part.out) (Changes.refl _ b) rfl (fun c => c) rfl rfl) e
theorem Changes.set_heldOut {m : Nat} {r b : State} {v : List HostSend} (h : Changes m r b)
    (e : Part.heldOut ||| m = m := by exact rfl) : Changes m r { b with heldOut := v } :=
  h.then (Changes.put (m := Part.heldOut) (Changes.refl _ b) rfl (fun c => c) rfl rfl) e
theorem Changes.set_fns {m : Nat} {r b : State} {v : Table FnSt} (h : Changes m r b)
    (e : Part.fns ||| m = m := by exact rfl) : Changes m r { b with fns := v } :=
  h.then (Changes.put (m := Part.fns) (Changes.refl _ b) rfl (fun c => c) rfl rfl) e
theorem Changes.set_ctxs {m : Nat} {r b : State} {v : Table CtxSt} (h : Changes m r b)
    (e : Part.ctxs ||| m = m := by exact rfl) : Changes m r { b with ctxs := v } :=
  h.then (Changes.put (m := Part.ctxs) (Changes.refl _ b) rfl (fun c => c) rfl rfl) e
theorem Changes.set_clks {m : Nat} {r b : State} {v : Table ClkHalf} (h : Changes m r b)
    (e : Part.clks ||| m = m := by exact rfl) : Changes m r { b with clks := v } :=
  h.then (Changes.put (m := Part.clks) (Changes.refl _ b) rfl (fun c => c) rfl rfl) e
theorem Changes.set_agents {m : Nat} {r b : State} {v : Table (List CtlAction)} (h : Changes m r b)
    (e : Part.agents ||| m = m := by exact rfl) : Changes m r { b with agents := v } :=
  h.then (Changes.put (m := Part.agents) (Changes.refl _ b) rfl (fun c => c) rfl rfl) e
theorem Changes.set_reports {m : Nat} {r b : State} {v : List (Nat × CtlAction)} (h : Changes m r b)
    (e : Part.reports ||| m = m := by exact rfl) : Changes m r { b with reports := v } :=
  h.then (Changes.put (m := Part.reports) (Changes.refl _ b) rfl (fun c => c) rfl rfl) e
theorem Changes.set_engs {m : Nat} {r b : State} {v : Table Engine} (h : Changes m r b)
    (e : Part.engs ||| m = m := by exact rfl) : Changes m r { b with engs := v } :=
  h.then (Changes.put (m := Part.engs) (Changes.refl _ b) rfl (fun c => c) rfl rfl) e
theorem Changes.set_bays {m : Nat} {r b : State} {v : Table BaySt} (h : Changes m r b)
    (e : Part.bays ||| m = m := by exact rfl) : Changes m r { b with bays := v } :=
  h.then (Changes.put (m := Part.bays) (Changes.refl _ b) rfl (fun c => c) rfl rfl) e
theorem Changes.set_fcc {m : Nat} {r b : State} {v : Table (List FccLine)} (h : Changes m r b)
    (e : Part.fcc ||| m = m := by exact rfl) : Changes m r { b with fcc := v } :=
  h.then (Changes.put (m := Part.fcc) (Changes.refl _ b) rfl (fun c => c) rfl rfl) e
theorem Changes.set_chans {m : Nat} {r b : State} {v : Table ChanSt} (h : Changes m r b)
    (e : Part.chans ||| m = m := by exact rfl) : Changes m r { b with chans := v } :=
  h.then (Changes.put (m := Part.chans) (Changes.refl _ b) rfl (fun c => c) rfl rfl) e
theorem Changes.set_ssgs {m : Nat} {r b : State} {v : Table SsgSt} (h : Changes m r b)
    (e : Part.ssgs ||| m = m := by exact rfl) : Changes m r { b with ssgs := v } :=
  h.then (Changes.put (m := Part.ssgs) (Changes.refl _ b) rfl (fun c => c) rfl rfl) e
theorem Changes.set_seqMem {m : Nat} {r b : State} {v : Table Entry} (h : Changes m r b) (w : Table.wf (0 : Entry) b.seqMem = true → Table.wf (0 : Entry) v = true)
    (e : Part.seqMem ||| m = m := by exact rfl) : Changes m r { b with seqMem := v } :=
  h.then (Changes.put (m := Part.seqMem) (Changes.refl _ b) rfl (State.canonical_of (seqMem := w)) rfl rfl) e
theorem Changes.set_seqUnread {m : Nat} {r b : State} {v : Table Bool} (h : Changes m r b) (w : Table.wf false b.seqUnread = true → Table.wf false v = true)
    (e : Part.seqUnread ||| m = m := by exact rfl) : Changes m r { b with seqUnread := v } :=
  h.then (Changes.put (m := Part.seqUnread) (Changes.refl _ b) rfl (State.canonical_of (seqUnread := w)) rfl rfl) e
theorem Changes.set_seqPos {m : Nat} {r b : State} {v : Nat} (h : Changes m r b)
    (e : Part.seqPos ||| m = m := by exact rfl) : Changes m r { b with seqPos := v } :=
  h.then (Changes.put (m := Part.seqPos) (Changes.refl _ b) rfl (fun c => c) rfl rfl) e
theorem Changes.set_fsets {m : Nat} {r b : State} {v : Memory} (h : Changes m r b) (w : Memory.wf b.fsets = true → Memory.wf v = true)
    (e : Part.fsets ||| m = m := by exact rfl) : Changes m r { b with fsets := v } :=
  h.then (Changes.put (m := Part.fsets) (Changes.refl _ b) rfl (State.canonical_of (fsets := w)) rfl rfl) e
theorem Changes.set_lmaps {m : Nat} {r b : State} {v : Memory} (h : Changes m r b) (w : Memory.wf b.lmaps = true → Memory.wf v = true)
    (e : Part.lmaps ||| m = m := by exact rfl) : Changes m r { b with lmaps := v } :=
  h.then (Changes.put (m := Part.lmaps) (Changes.refl _ b) rfl (State.canonical_of (lmaps := w)) rfl rfl) e
theorem Changes.set_scr {m : Nat} {r b : State} {v : Table (Option Nat)} (h : Changes m r b) (w : Table.wf none b.scr = true → Table.wf none v = true)
    (e : Part.scr ||| m = m := by exact rfl) : Changes m r { b with scr := v } :=
  h.then (Changes.put (m := Part.scr) (Changes.refl _ b) rfl (State.canonical_of (scr := w)) rfl rfl) e
theorem Changes.set_tsets {m : Nat} {r b : State} {v : Memory} (h : Changes m r b) (w : Memory.wf b.tsets = true → Memory.wf v = true)
    (e : Part.tsets ||| m = m := by exact rfl) : Changes m r { b with tsets := v } :=
  h.then (Changes.put (m := Part.tsets) (Changes.refl _ b) rfl (State.canonical_of (tsets := w)) rfl rfl) e
theorem Changes.set_calRecs {m : Nat} {r b : State} {v : Table (Option CalRec)} (h : Changes m r b)
    (e : Part.calRecs ||| m = m := by exact rfl) : Changes m r { b with calRecs := v } :=
  h.then (Changes.put (m := Part.calRecs) (Changes.refl _ b) rfl (fun c => c) rfl rfl) e
theorem Changes.set_ports {m : Nat} {r b : State} {v : Table (List Nat)} (h : Changes m r b)
    (e : Part.ports ||| m = m := by exact rfl) : Changes m r { b with ports := v } :=
  h.then (Changes.put (m := Part.ports) (Changes.refl _ b) rfl (fun c => c) rfl rfl) e
theorem Changes.set_bankMem {m : Nat} {r b : State} {v : Memory} (h : Changes m r b) (w : Memory.wf b.bankMem = true → Memory.wf v = true)
    (e : Part.bankMem ||| m = m := by exact rfl) : Changes m r { b with bankMem := v } :=
  h.then (Changes.put (m := Part.bankMem) (Changes.refl _ b) rfl (State.canonical_of (bankMem := w)) rfl rfl) e
theorem Changes.set_banks {m : Nat} {r b : State} {v : Table BankHalf} (h : Changes m r b)
    (e : Part.banks ||| m = m := by exact rfl) : Changes m r { b with banks := v } :=
  h.then (Changes.put (m := Part.banks) (Changes.refl _ b) rfl (fun c => c) rfl rfl) e
theorem Changes.set_dram {m : Nat} {r b : State} {v : Memory} (h : Changes m r b) (w : Memory.wf b.dram = true → Memory.wf v = true)
    (e : Part.dram ||| m = m := by exact rfl) : Changes m r { b with dram := v } :=
  h.then (Changes.put (m := Part.dram) (Changes.refl _ b) rfl (State.canonical_of (dram := w)) rfl rfl) e
theorem Changes.set_poison {m : Nat} {r b : State} {v : Table Bool} (h : Changes m r b)
    (e : Part.poison ||| m = m := by exact rfl) : Changes m r { b with poison := v } :=
  h.then (Changes.put (m := Part.poison) (Changes.refl _ b) rfl (fun c => c) rfl rfl) e
theorem Changes.set_startFold {m : Nat} {r b : State} {v : Table Bool} (h : Changes m r b)
    (e : Part.startFold ||| m = m := by exact rfl) : Changes m r { b with startFold := v } :=
  h.then (Changes.put (m := Part.startFold) (Changes.refl _ b) rfl (fun c => c) rfl rfl) e
theorem Changes.set_restoring {m : Nat} {r b : State} {v : Table Bool} (h : Changes m r b)
    (e : Part.restoring ||| m = m := by exact rfl) : Changes m r { b with restoring := v } :=
  h.then (Changes.put (m := Part.restoring) (Changes.refl _ b) rfl (fun c => c) rfl rfl) e
theorem Changes.set_dmcs {m : Nat} {r b : State} {v : Table DmcSt} (h : Changes m r b)
    (e : Part.dmcs ||| m = m := by exact rfl) : Changes m r { b with dmcs := v } :=
  h.then (Changes.put (m := Part.dmcs) (Changes.refl _ b) rfl (fun c => c) rfl rfl) e
theorem Changes.set_tb {m : Nat} {r b : State} {v : Table Tb} (h : Changes m r b)
    (e : Part.tb ||| m = m := by exact rfl) : Changes m r { b with tb := v } :=
  h.then (Changes.put (m := Part.tb) (Changes.refl _ b) rfl (fun c => c) rfl rfl) e
theorem Changes.set_trcs {m : Nat} {r b : State} {v : Table TraceSt} (h : Changes m r b)
    (e : Part.trcs ||| m = m := by exact rfl) : Changes m r { b with trcs := v } :=
  h.then (Changes.put (m := Part.trcs) (Changes.refl _ b) rfl (fun c => c) rfl rfl) e
theorem Changes.set_sups {m : Nat} {r b : State} {v : Table SupSt} (h : Changes m r b)
    (e : Part.sups ||| m = m := by exact rfl) : Changes m r { b with sups := v } :=
  h.then (Changes.put (m := Part.sups) (Changes.refl _ b) rfl (fun c => c) rfl rfl) e
theorem Changes.set_vccCh {m : Nat} {r b : State} {v : Bool} (h : Changes m r b)
    (e : Part.vccCh ||| m = m := by exact rfl) : Changes m r { b with vccCh := v } :=
  h.then (Changes.put (m := Part.vccCh) (Changes.refl _ b) rfl (fun c => c) rfl rfl) e
theorem Changes.set_drives {m : Nat} {r b : State} {v : Bool} (h : Changes m r b)
    (e : Part.drives ||| m = m := by exact rfl) : Changes m r { b with drives := v } :=
  h.then (Changes.put (m := Part.drives) (Changes.refl _ b) rfl (fun c => c) rfl rfl) e
theorem Changes.set_hbMiss {m : Nat} {r b : State} {v : Table Bool} (h : Changes m r b)
    (e : Part.hbMiss ||| m = m := by exact rfl) : Changes m r { b with hbMiss := v } :=
  h.then (Changes.put (m := Part.hbMiss) (Changes.refl _ b) rfl (fun c => c) rfl rfl) e
theorem Changes.set_ownEp {m : Nat} {r b : State} {v : Table Nat} (h : Changes m r b)
    (e : Part.ownEp ||| m = m := by exact rfl) : Changes m r { b with ownEp := v } :=
  h.then (Changes.put (m := Part.ownEp) (Changes.refl _ b) rfl (fun c => c) rfl rfl) e
theorem Changes.set_talk {m : Nat} {r b : State} {v : Table Nat} (h : Changes m r b)
    (e : Part.talk ||| m = m := by exact rfl) : Changes m r { b with talk := v } :=
  h.then (Changes.put (m := Part.talk) (Changes.refl _ b) rfl (fun c => c) rfl rfl) e
theorem Changes.set_substs {m : Nat} {r b : State} {v : List Subst} (h : Changes m r b)
    (e : Part.substs ||| m = m := by exact rfl) : Changes m r { b with substs := v } :=
  h.then (Changes.put (m := Part.substs) (Changes.refl _ b) rfl (fun c => c) rfl rfl) e
theorem Changes.set_snap {m : Nat} {r b : State} {v : SnapSt} (h : Changes m r b)
    (e : Part.snap ||| m = m := by exact rfl) : Changes m r { b with snap := v } :=
  h.then (Changes.put (m := Part.snap) (Changes.refl _ b) rfl (fun c => c) rfl rfl) e
theorem Changes.set_time {m : Nat} {r b : State} {v : TimeSt} (h : Changes m r b)
    (e : Part.time ||| m = m := by exact rfl) : Changes m r { b with time := v } :=
  h.then (Changes.put (m := Part.time) (Changes.refl _ b) rfl (fun c => c) rfl rfl) e
theorem Changes.set_hostReady {m : Nat} {r b : State} {v : Bool} (h : Changes m r b)
    (e : Part.hostReady ||| m = m := by exact rfl) : Changes m r { b with hostReady := v } :=
  h.then (Changes.put (m := Part.hostReady) (Changes.refl _ b) rfl (fun c => c) rfl rfl) e
theorem Changes.set_nis {m : Nat} {r b : State} {v : Table NiSt} (h : Changes m r b)
    (e : Part.nis ||| m = m := by exact rfl) : Changes m r { b with nis := v } :=
  h.then (Changes.put (m := Part.nis) (Changes.refl _ b) rfl (fun c => c) rfl rfl) e
theorem Changes.set_flights {m : Nat} {r b : State} {v : List Flight} (h : Changes m r b)
    (e : Part.flights ||| m = m := by exact rfl) : Changes m r { b with flights := v } :=
  h.then (Changes.put (m := Part.flights) (Changes.refl _ b) rfl (fun c => c) rfl rfl) e
theorem Changes.set_routes {m : Nat} {r b : State} {v : Table (Option Nat)} (h : Changes m r b) (w : Table.wf none b.routes = true → Table.wf none v = true)
    (e : Part.routes ||| m = m := by exact rfl) : Changes m r { b with routes := v } :=
  h.then (Changes.put (m := Part.routes) (Changes.refl _ b) rfl (State.canonical_of (routes := w)) rfl rfl) e
theorem Changes.set_dirc {m : Nat} {r b : State} {v : Table (List (Nat × Bool))} (h : Changes m r b)
    (e : Part.dirc ||| m = m := by exact rfl) : Changes m r { b with dirc := v } :=
  h.then (Changes.put (m := Part.dirc) (Changes.refl _ b) rfl (fun c => c) rfl rfl) e
theorem Changes.set_bankJoins {m : Nat} {r b : State} {v : List BankJoin} (h : Changes m r b)
    (e : Part.bankJoins ||| m = m := by exact rfl) : Changes m r { b with bankJoins := v } :=
  h.then (Changes.put (m := Part.bankJoins) (Changes.refl _ b) rfl (fun c => c) rfl rfl) e
theorem Changes.set_joinNo {m : Nat} {r b : State} {v : Nat} (h : Changes m r b)
    (e : Part.joinNo ||| m = m := by exact rfl) : Changes m r { b with joinNo := v } :=
  h.then (Changes.put (m := Part.joinNo) (Changes.refl _ b) rfl (fun c => c) rfl rfl) e
theorem Changes.set_homes {m : Nat} {r b : State} {v : List HomeReq} (h : Changes m r b)
    (e : Part.homes ||| m = m := by exact rfl) : Changes m r { b with homes := v } :=
  h.then (Changes.put (m := Part.homes) (Changes.refl _ b) rfl (fun c => c) rfl rfl) e
theorem Changes.set_fabHeld {m : Nat} {r b : State} {v : List FabWr} (h : Changes m r b)
    (e : Part.fabHeld ||| m = m := by exact rfl) : Changes m r { b with fabHeld := v } :=
  h.then (Changes.put (m := Part.fabHeld) (Changes.refl _ b) rfl (fun c => c) rfl rfl) e
theorem Changes.set_bankUe {m : Nat} {r b : State} {v : Table Bool} (h : Changes m r b)
    (e : Part.bankUe ||| m = m := by exact rfl) : Changes m r { b with bankUe := v } :=
  h.then (Changes.put (m := Part.bankUe) (Changes.refl _ b) rfl (fun c => c) rfl rfl) e
theorem Changes.set_fcfg {m : Nat} {r b : State} {v : Table Nat} (h : Changes m r b)
    (e : Part.fcfg ||| m = m := by exact rfl) : Changes m r { b with fcfg := v } :=
  h.then (Changes.put (m := Part.fcfg) (Changes.refl _ b) rfl (fun c => c) rfl rfl) e
theorem Changes.set_bramInit {m : Nat} {r b : State} {v : Table Nat} (h : Changes m r b)
    (e : Part.bramInit ||| m = m := by exact rfl) : Changes m r { b with bramInit := v } :=
  h.then (Changes.put (m := Part.bramInit) (Changes.refl _ b) rfl (fun c => c) rfl rfl) e
theorem Changes.set_bramX {m : Nat} {r b : State} {v : Table Nat} (h : Changes m r b)
    (e : Part.bramX ||| m = m := by exact rfl) : Changes m r { b with bramX := v } :=
  h.then (Changes.put (m := Part.bramX) (Changes.refl _ b) rfl (fun c => c) rfl rfl) e
theorem Changes.set_ffX {m : Nat} {r b : State} {v : Table Bool} (h : Changes m r b)
    (e : Part.ffX ||| m = m := by exact rfl) : Changes m r { b with ffX := v } :=
  h.then (Changes.put (m := Part.ffX) (Changes.refl _ b) rfl (fun c => c) rfl rfl) e
theorem Changes.set_brams {m : Nat} {r b : State} {v : Table BramSt} (h : Changes m r b)
    (e : Part.brams ||| m = m := by exact rfl) : Changes m r { b with brams := v } :=
  h.then (Changes.put (m := Part.brams) (Changes.refl _ b) rfl (fun c => c) rfl rfl) e
theorem Changes.set_slices {m : Nat} {r b : State} {v : Table SliceSt} (h : Changes m r b)
    (e : Part.slices ||| m = m := by exact rfl) : Changes m r { b with slices := v } :=
  h.then (Changes.put (m := Part.slices) (Changes.refl _ b) rfl (fun c => c) rfl rfl) e
theorem Changes.set_ios {m : Nat} {r b : State} {v : Table IoSt} (h : Changes m r b)
    (e : Part.ios ||| m = m := by exact rfl) : Changes m r { b with ios := v } :=
  h.then (Changes.put (m := Part.ios) (Changes.refl _ b) rfl (fun c => c) rfl rfl) e
theorem Changes.set_ghWait {m : Nat} {r b : State} {v : Table Nat} (h : Changes m r b)
    (e : Part.ghWait ||| m = m := by exact rfl) : Changes m r { b with ghWait := v } :=
  h.then (Changes.put (m := Part.ghWait) (Changes.refl _ b) rfl (fun c => c) rfl rfl) e
theorem Changes.set_fcgs {m : Nat} {r b : State} {v : Table FcgSt} (h : Changes m r b)
    (e : Part.fcgs ||| m = m := by exact rfl) : Changes m r { b with fcgs := v } :=
  h.then (Changes.put (m := Part.fcgs) (Changes.refl _ b) rfl (fun c => c) rfl rfl) e
theorem Changes.set_load {m : Nat} {r b : State} {v : LoadSt} (h : Changes m r b)
    (e : Part.load ||| m = m := by exact rfl) : Changes m r { b with load := v } :=
  h.then (Changes.put (m := Part.load) (Changes.refl _ b) rfl (fun c => c) rfl rfl) e
theorem Changes.set_fuseArm {m : Nat} {r b : State} {v : Bool} (h : Changes m r b)
    (e : Part.fuseArm ||| m = m := by exact rfl) : Changes m r { b with fuseArm := v } :=
  h.then (Changes.put (m := Part.fuseArm) (Changes.refl _ b) rfl (fun c => c) rfl rfl) e
theorem Changes.set_boot {m : Nat} {r b : State} {v : BootSt} (h : Changes m r b)
    (e : Part.boot ||| m = m := by exact rfl) : Changes m r { b with boot := v } :=
  h.then (Changes.put (m := Part.boot) (Changes.refl _ b) rfl (fun c => c) rfl rfl) e
theorem Changes.set_strapOver {m : Nat} {r b : State} {v : Option (Bool × Bool)} (h : Changes m r b)
    (e : Part.strapOver ||| m = m := by exact rfl) : Changes m r { b with strapOver := v } :=
  h.then (Changes.put (m := Part.strapOver) (Changes.refl _ b) rfl (fun c => c) rfl rfl) e
theorem Changes.set_attest {m : Nat} {r b : State} {v : Option AttSt} (h : Changes m r b)
    (e : Part.attest ||| m = m := by exact rfl) : Changes m r { b with attest := v } :=
  h.then (Changes.put (m := Part.attest) (Changes.refl _ b) rfl (fun c => c) rfl rfl) e
theorem Changes.set_report {m : Nat} {r b : State} {v : Nat} (h : Changes m r b)
    (e : Part.report ||| m = m := by exact rfl) : Changes m r { b with report := v } :=
  h.then (Changes.put (m := Part.report) (Changes.refl _ b) rfl (fun c => c) rfl rfl) e
theorem Changes.set_cfgMeas {m : Nat} {r b : State} {v : Nat} (h : Changes m r b)
    (e : Part.cfgMeas ||| m = m := by exact rfl) : Changes m r { b with cfgMeas := v } :=
  h.then (Changes.put (m := Part.cfgMeas) (Changes.refl _ b) rfl (fun c => c) rfl rfl) e
theorem Changes.set_prChain {m : Nat} {r b : State} {v : Nat} (h : Changes m r b)
    (e : Part.prChain ||| m = m := by exact rfl) : Changes m r { b with prChain := v } :=
  h.then (Changes.put (m := Part.prChain) (Changes.refl _ b) rfl (fun c => c) rfl rfl) e
theorem Changes.set_vcore {m : Nat} {r b : State} {v : Nat} (h : Changes m r b)
    (e : Part.vcore ||| m = m := by exact rfl) : Changes m r { b with vcore := v } :=
  h.then (Changes.put (m := Part.vcore) (Changes.refl _ b) rfl (fun c => c) rfl rfl) e
theorem Changes.set_hj {m : Nat} {r b : State} {v : HjSt} (h : Changes m r b)
    (e : Part.hj ||| m = m := by exact rfl) : Changes m r { b with hj := v } :=
  h.then (Changes.put (m := Part.hj) (Changes.refl _ b) rfl (fun c => c) rfl rfl) e
theorem Changes.set_edge {m : Nat} {r b : State} {v : EdgeSt} (h : Changes m r b)
    (e : Part.edge ||| m = m := by exact rfl) : Changes m r { b with edge := v } :=
  h.then (Changes.put (m := Part.edge) (Changes.refl _ b) rfl (fun c => c) rfl rfl) e
theorem Changes.set_lineHi {m : Nat} {r b : State} {v : Table Bool} (h : Changes m r b)
    (e : Part.lineHi ||| m = m := by exact rfl) : Changes m r { b with lineHi := v } :=
  h.then (Changes.put (m := Part.lineHi) (Changes.refl _ b) rfl (fun c => c) rfl rfl) e
theorem Changes.set_gateOff {m : Nat} {r b : State} {v : Table Bool} (h : Changes m r b)
    (e : Part.gateOff ||| m = m := by exact rfl) : Changes m r { b with gateOff := v } :=
  h.then (Changes.put (m := Part.gateOff) (Changes.refl _ b) rfl (fun c => c) rfl rfl) e
theorem Changes.set_pins {m : Nat} {r b : State} {v : Table PinSt} (h : Changes m r b)
    (e : Part.pins ||| m = m := by exact rfl) : Changes m r { b with pins := v } :=
  h.then (Changes.put (m := Part.pins) (Changes.refl _ b) rfl (fun c => c) rfl rfl) e
theorem Changes.set_padExt {m : Nat} {r b : State} {v : Nat} (h : Changes m r b)
    (e : Part.padExt ||| m = m := by exact rfl) : Changes m r { b with padExt := v } :=
  h.then (Changes.put (m := Part.padExt) (Changes.refl _ b) rfl (fun c => c) rfl rfl) e
theorem Changes.set_padOn {m : Nat} {r b : State} {v : Nat} (h : Changes m r b)
    (e : Part.padOn ||| m = m := by exact rfl) : Changes m r { b with padOn := v } :=
  h.then (Changes.put (m := Part.padOn) (Changes.refl _ b) rfl (fun c => c) rfl rfl) e
theorem Changes.set_padKeep {m : Nat} {r b : State} {v : Nat} (h : Changes m r b)
    (e : Part.padKeep ||| m = m := by exact rfl) : Changes m r { b with padKeep := v } :=
  h.then (Changes.put (m := Part.padKeep) (Changes.refl _ b) rfl (fun c => c) rfl rfl) e
theorem Changes.set_retKey {m : Nat} {r b : State} {v : Nat} (h : Changes m r b)
    (e : Part.retKey ||| m = m := by exact rfl) : Changes m r { b with retKey := v } :=
  h.then (Changes.put (m := Part.retKey) (Changes.refl _ b) rfl (fun c => c) rfl rfl) e
theorem Changes.set_frameCrcs {m : Nat} {r b : State} {v : Table Nat} (h : Changes m r b)
    (e : Part.frameCrcs ||| m = m := by exact rfl) : Changes m r { b with frameCrcs := v } :=
  h.then (Changes.put (m := Part.frameCrcs) (Changes.refl _ b) rfl (fun c => c) rfl rfl) e
theorem Changes.set_prnExcl {m : Nat} {r b : State} {v : List Nat} (h : Changes m r b)
    (e : Part.prnExcl ||| m = m := by exact rfl) : Changes m r { b with prnExcl := v } :=
  h.then (Changes.put (m := Part.prnExcl) (Changes.refl _ b) rfl (fun c => c) rfl rfl) e

/-- Choosing between two later states. -/
theorem Changes.ite {m : Nat} {s a b : State} {c : Prop} [Decidable c] (ha : Changes m s a) (hb : Changes m s b) :
    Changes m s (if c then a else b) := by split <;> assumption

theorem Changes.dite {m : Nat} {s : State} {c : Prop} [Decidable c] {a : c → State} {b : ¬c → State}
    (ha : ∀ h, Changes m s (a h)) (hb : ∀ h, Changes m s (b h)) : Changes m s (if h : c then a h else b h) := by
  split
  · exact ha _
  · exact hb _

theorem Changes.ite_snd {α : Type} {m : Nat} {s : State} {a b : α × State} {c : Prop} [Decidable c] (ha : Changes m s a.2)
    (hb : Changes m s b.2) : Changes m s (if c then a else b).2 := by split <;> assumption

theorem Changes.have {m : Nat} {r x t : State} (hx : Changes m r x) (k : Changes m r x → Changes m r t) : Changes m r t := k hx

theorem Changes.mk_snd {α : Type} {m : Nat} {s b : State} {a : α} (h : Changes m s b) : Changes m s (a, b).2 := h

theorem Changes.next {m : Nat} {s t u : State} (h : Changes m s t) : Changes m s (outState (.next t) u) := h

/-- A loop whose body keeps to the parts. -/
theorem Changes.each {α : Type} {m : Nat} {r s : State} {l : List α} {f : State → α → State} (h : Changes m r s)
    (hf : ∀ t a, Changes m r t → Changes m r (f t a)) : Changes m r (s.each l f) :=
  State.each_keeps (Changes m r) s l f hf h

theorem Changes.when {m : Nat} {r s : State} {c : Bool} {f : State → State} (h : Changes m r s)
    (hf : ∀ t, Changes m r t → Changes m r (f t)) : Changes m r (s.when c f) := by
  cases c
  · exact h
  · exact hf s h

/-- A fold whose accumulator carries a state. -/
theorem Changes.foldl {α β : Type} {m : Nat} {r : State} (g : β → State) {f : β → α → β} {l : List α} {b : β}
    (h : Changes m r (g b)) (hf : ∀ b a, Changes m r (g b) → Changes m r (g (f b a))) :
    Changes m r (g (l.foldl f b)) := by
  induction l generalizing b with
  | nil => exact h
  | cons a l ih => exact ih (hf b a h)

end Sys2Proof.Machine
end

