-- ==== Sys2Proof/Laws/Operations.lean ====
section
/-! SUPPORT. What each shared operation may change, one lemma per operation, in the order of the machine's files: the parts it can
touch; every other part stays, the tables keep their canonical form, and fuses only gain (Laws/Changes.lean). -/

namespace Sys2Proof.Machine

set_option Elab.async false

/-! ## Machine/Ops -/

theorem State.wr_changes (s : State) (f : Fld) (v : Nat) :
    Changes Part.regs s (s.wr f v) := by
  unfold State.wr
  exact Changes.set_regs (Changes.refl _ _)

theorem State.setOn_changes (s : State) (f : Fld) :
    Changes Part.regs s (s.setOn f) := by
  unfold State.setOn
  exact (State.wr_changes _ _ _).mono

theorem State.clr_changes (s : State) (f : Fld) :
    Changes Part.regs s (s.clr f) := by
  unfold State.clr
  exact (State.wr_changes _ _ _).mono

theorem State.count_changes (s : State) (f : Fld) (n : Nat) :
    Changes Part.regs s (s.count f n) := by
  unfold State.count
  exact (State.wr_changes _ _ _).mono

theorem State.peak_changes (s : State) (f : Fld) (v : Nat) :
    Changes Part.regs s (s.peak f v) := by
  unfold State.peak
  exact (State.wr_changes _ _ _).mono

theorem State.free_changes (s : State) (w : Nat) :
    Changes Part.fresh s ((s.free w).snd) := by
  unfold State.free
  refine Changes.mk_snd ?_
  exact Changes.set_fresh (Changes.refl _ _)

theorem State.commitWrite_changes (s : State) (w : HostSend) :
    Changes (Part.regs ||| Part.out ||| Part.heldOut) s (s.commitWrite w) := by
  unfold State.commitWrite
  refine Changes.ite ?_ ?_
  · exact (State.count_changes _ _ _).mono
  · refine Changes.ite ?_ ?_
    · exact Changes.set_out (Changes.refl _ _)
    · exact Changes.set_heldOut (Changes.refl _ _)

theorem State.updSup_changes (s : State) (h : Nat) (f : SupSt → SupSt) :
    Changes Part.sups s (s.updSup h f) := by
  unfold State.updSup
  exact Changes.set_sups (Changes.refl _ _)

theorem State.hostWrite_changes (s : State) (addr : Nat) (len : Nat) (data : Nat) :
    Changes (Part.regs ||| Part.out ||| Part.heldOut) s (s.hostWrite addr len data) := by
  unfold State.hostWrite
  exact (State.commitWrite_changes _ _).mono

theorem State.dataWrite_changes (s : State) (addr : Nat) (len : Nat) (data : Nat) :
    Changes (Part.regs ||| Part.out ||| Part.heldOut) s (s.dataWrite addr len data) := by
  unfold State.dataWrite
  exact (State.commitWrite_changes _ _).mono

theorem State.updFn_changes (s : State) (f : Nat) (g : FnSt → FnSt) :
    Changes Part.fns s (s.updFn f g) := by
  unfold State.updFn
  exact Changes.set_fns (Changes.refl _ _)

theorem State.updCtx_changes (s : State) (n : Nat) (g : CtxSt → CtxSt) :
    Changes Part.ctxs s (s.updCtx n g) := by
  unfold State.updCtx
  exact Changes.set_ctxs (Changes.refl _ _)

theorem State.signal_changes (s : State) (f : Nat) (c : Option Nat) :
    Changes (Part.regs ||| Part.out ||| Part.heldOut) s (s.signal f c) := by
  unfold State.signal
  extract_lets -merge -usedOnly x1
  clear_value x1
  refine Changes.ite ?_ ?_
  · exact (State.setOn_changes _ _).mono
  · exact (State.commitWrite_changes _ _).mono

theorem State.placeEvent_changes (s : State) (f : Nat) (r : EvRec) :
    Changes (Part.regs ||| Part.out ||| Part.heldOut ||| Part.fns) s (s.placeEvent f r) := by
  unfold State.placeEvent
  extract_lets -merge -usedOnly x1 x2 x3 x4 x5 x6 x7
  clear_value x1
  clear_value x2
  clear_value x3
  clear_value x4
  clear_value x5
  refine Changes.have (x := x6) ?_ fun h8 => ?_
  · unfold x6
    exact (State.hostWrite_changes _ _ _ _).mono
  clear_value x6
  refine Changes.have (x := x7) ?_ fun h9 => ?_
  · unfold x7
    exact h8.then (State.updFn_changes _ _ _)
  clear_value x7
  exact h9.then (State.signal_changes _ _ _)

theorem State.eventsLost_changes (s : State) (f : Nat) :
    Changes (Part.regs ||| Part.out ||| Part.heldOut ||| Part.fns) s (s.eventsLost f) := by
  unfold State.eventsLost
  extract_lets -merge -usedOnly x1
  clear_value x1
  refine Changes.ite ?_ ?_
  · exact ((State.updFn_changes _ _ _).mono).then (State.placeEvent_changes _ _ _)
  · exact Changes.refl _ _

theorem State.post_changes (s : State) (f : Nat) (r : EvRec) :
    Changes (Part.regs ||| Part.out ||| Part.heldOut ||| Part.fns) s (s.post f r) := by
  unfold State.post
  extract_lets -merge -usedOnly x1
  refine Changes.have (x := x1) ?_ fun h2 => ?_
  · unfold x1
    exact (State.eventsLost_changes _ _).mono
  clear_value x1
  refine Changes.ite ?_ ?_
  · refine Changes.ite ?_ ?_
    · refine Changes.ite ?_ ?_
      · exact h2.then (State.placeEvent_changes _ _ _)
      · exact h2.then (State.updFn_changes _ _ _)
    · exact (State.updFn_changes _ _ _).mono
  · exact Changes.refl _ _

theorem State.postCtx_changes (s : State) (n : Nat) (code : Nat) (detail : Nat) (arg0 : Nat) (arg1 : Nat) :
    Changes (Part.regs ||| Part.out ||| Part.heldOut ||| Part.fns) s (s.postCtx n code detail arg0 arg1) := by
  unfold State.postCtx
  exact (State.post_changes _ _ _).mono

theorem State.postRes_changes (s : State) (detail : Nat) (arg0 : Nat) (arg1 : Nat) :
    Changes (Part.regs ||| Part.out ||| Part.heldOut ||| Part.fns) s (s.postRes detail arg0 arg1) := by
  unfold State.postRes
  exact (State.post_changes _ _ _).mono

theorem State.updClk_changes (s : State) (h : Nat) (f : ClkHalf → ClkHalf) :
    Changes Part.clks s (s.updClk h f) := by
  unfold State.updClk
  exact Changes.set_clks (Changes.refl _ _)

theorem State.updEng_changes (s : State) (n : Nat) (f : Engine → Engine) :
    Changes Part.engs s (s.updEng n f) := by
  unfold State.updEng
  exact Changes.set_engs (Changes.refl _ _)

theorem State.updChan_changes (s : State) (c : Nat) (f : ChanSt → ChanSt) :
    Changes Part.chans s (s.updChan c f) := by
  unfold State.updChan
  exact Changes.set_chans (Changes.refl _ _)

theorem State.updBay_changes (s : State) (b : Nat) (f : BaySt → BaySt) :
    Changes Part.bays s (s.updBay b f) := by
  unfold State.updBay
  exact Changes.set_bays (Changes.refl _ _)

theorem State.bankWrite_changes (s : State) (h : Nat) (a : Nat) (n : Nat) (v : Nat) :
    Changes Part.bankMem s (s.bankWrite h a n v) := by
  unfold State.bankWrite
  exact Changes.set_bankMem (Changes.refl _ _) (fun h => by first | exact Memory.wf_writeN _ _ _ _ h | exact Memory.wf_filter _ _ h | exact Memory.wf_nil)

theorem State.dramWrite_changes (s : State) (h : Nat) (a : Nat) (n : Nat) (v : Nat) :
    Changes Part.dram s (s.dramWrite h a n v) := by
  unfold State.dramWrite
  exact Changes.set_dram (Changes.refl _ _) (fun h => by first | exact Memory.wf_write _ _ _ h | exact Memory.wf_writeN _ _ _ _ h | exact Memory.wf_writeMasked _ _ _ _ _ h | exact Memory.wf_filter _ _ h)

/-! ## Machine/Access -/

theorem State.setBus_changes (s : State) (r : Req) (v : Nat) :
    Changes Part.bus s (s.setBus r v) := by
  unfold State.setBus
  exact Changes.set_bus (Changes.refl _ _) (fun h => Table.wf_set _ _ _ _ h)

theorem State.setHeld_changes (s : State) (r : Req) (word : Nat) (v : Option Nat) :
    Changes Part.holds s (s.setHeld r word v) := by
  unfold State.setHeld
  exact Changes.set_holds (Changes.refl _ _) (fun h => Table.wf_set _ _ _ _ h)

/-! ## Machine/EngOps -/

theorem State.takeSnap_changes (s : State) (src : Nat) :
    Changes (Part.regs ||| Part.snap) s (s.takeSnap src) := by
  unfold State.takeSnap
  extract_lets -merge -usedOnly x1 x2 x3
  clear_value x1
  clear_value x2
  refine Changes.have (x := x3) ?_ fun h4 => ?_
  · unfold x3
    exact Changes.set_snap (Changes.refl _ _)
  clear_value x3
  refine Changes.ite ?_ ?_
  · exact h4.then (State.setOn_changes _ _)
  · exact h4

theorem State.raiseSnap_changes (s : State) (src : Nat) :
    Changes (Part.regs ||| Part.snap) s (s.raiseSnap src) := by
  unfold State.raiseSnap
  refine Changes.ite ?_ ?_
  · split
    · extract_lets -merge -usedOnly x1
      clear_value x1
      refine Changes.ite ?_ ?_
      · exact Changes.set_snap (Changes.refl _ _)
      · refine Changes.ite ?_ ?_
        · exact (State.count_changes _ _ _).mono
        · exact (State.takeSnap_changes _ _).mono
    · refine Changes.ite ?_ ?_
      · exact (State.count_changes _ _ _).mono
      · exact (State.takeSnap_changes _ _).mono
  · exact Changes.refl _ _

theorem State.updDegraded_changes (s : State) :
    Changes Part.regs s (s.updDegraded) := by
  unfold State.updDegraded
  extract_lets -merge -usedOnly x1
  clear_value x1
  refine Changes.ite ?_ ?_
  · exact ((State.wr_changes _ _ _).mono).then (State.wr_changes _ _ _)
  · exact Changes.refl _ _

theorem State.semAcquire_changes (s : State) (h : Nat) (i : Nat) (kind : Nat) (owner : Nat) :
    Changes Part.bankMem s ((s.semAcquire h i kind owner).snd) := by
  unfold State.semAcquire
  extract_lets -merge -usedOnly x1
  clear_value x1
  refine Changes.ite_snd ?_ ?_
  · refine Changes.mk_snd ?_
    exact Changes.refl _ _
  · refine Changes.mk_snd ?_
    exact (State.bankWrite_changes _ _ _ _ _).mono

theorem State.semRelease_changes (s : State) (h : Nat) (i : Nat) (kind : Nat) (owner : Nat) :
    Changes (Part.regs ||| Part.bankMem) s ((s.semRelease h i kind owner).snd) := by
  unfold State.semRelease
  extract_lets -merge -usedOnly x1
  clear_value x1
  refine Changes.ite_snd ?_ ?_
  · refine Changes.mk_snd ?_
    exact (State.bankWrite_changes _ _ _ _ _).mono
  · refine Changes.mk_snd ?_
    exact (State.setOn_changes _ _).mono

theorem State.dropSem_changes (s : State) (n : Nat) :
    Changes (Part.regs ||| Part.engs ||| Part.bankMem) s (s.dropSem n) := by
  unfold State.dropSem
  split
  · exact Changes.refl _ _
  · extract_lets -merge -usedOnly x1
    refine Changes.have (x := x1) ?_ fun h2 => ?_
    · unfold x1
      exact (State.semRelease_changes _ _ _ _ _).mono
    clear_value x1
    exact (h2.then (State.updEng_changes _ _ _)).then (State.clr_changes _ _)

theorem State.fpTake_changes (s : State) (b : Nat) (k : Nat) :
    Changes Part.regs s (s.fpTake b k) := by
  unfold State.fpTake
  extract_lets -merge -usedOnly x1
  clear_value x1
  exact ((State.wr_changes _ _ _).mono).then (State.peak_changes _ _ _)

theorem State.fpGive_changes (s : State) (b : Nat) (k : Nat) :
    Changes Part.regs s (s.fpGive b k) := by
  unfold State.fpGive
  exact (State.wr_changes _ _ _).mono

theorem State.sumpTake_changes (s : State) (n : Nat) (k : Nat) :
    Changes Part.regs s (s.sumpTake n k) := by
  unfold State.sumpTake
  extract_lets -merge -usedOnly x1
  clear_value x1
  exact ((State.wr_changes _ _ _).mono).then (State.peak_changes _ _ _)

theorem State.sumpGive_changes (s : State) (n : Nat) (k : Nat) :
    Changes Part.regs s (s.sumpGive n k) := by
  unfold State.sumpGive
  exact (State.wr_changes _ _ _).mono

theorem State.freeVec_changes (s : State) (n : Nat) (v : Vec) :
    Changes Part.regs s (s.freeVec n v) := by
  unfold State.freeVec
  refine Changes.each ?_ ?_
  · exact (State.sumpGive_changes _ _ _).mono
  · intro t1 a2 h3
    exact h3.then (State.fpGive_changes _ _ _)

theorem State.updJob_changes (s : State) (c : Nat) (q : Nat) (f : Job → Job) :
    Changes Part.ctxs s (s.updJob c q f) := by
  unfold State.updJob
  exact (State.updCtx_changes _ _ _).mono

theorem State.updFront_changes (s : State) (c : Nat) (f : Job → Job) :
    Changes Part.ctxs s (s.updFront c f) := by
  unfold State.updFront
  exact (State.updCtx_changes _ _ _).mono

theorem State.failFront_changes (s : State) (c : Nat) (st : Nat) (det : Nat) :
    Changes Part.ctxs s (s.failFront c st det) := by
  unfold State.failFront
  exact (State.updFront_changes _ _ _).mono

theorem State.finishFront_changes (s : State) (c : Nat) (st : Nat) (det : Nat) :
    Changes Part.ctxs s (s.finishFront c st det) := by
  unfold State.finishFront
  exact (State.updFront_changes _ _ _).mono

theorem State.updJobEng_changes (s : State) (c : Nat) (le : Nat) (f : JobEng → JobEng) :
    Changes Part.ctxs s (s.updJobEng c le f) := by
  unfold State.updJobEng
  exact (State.updFront_changes _ _ _).mono

theorem State.markFenced_changes (s : State) (u : Nat) (cause : Nat) :
    Changes (Part.regs ||| Part.snap) s (s.markFenced u cause) := by
  unfold State.markFenced
  extract_lets -merge -usedOnly x1 x2
  clear_value x1
  refine Changes.have (x := x2) ?_ fun h3 => ?_
  · unfold x2
    refine Changes.ite ?_ ?_
    · exact Changes.refl _ _
    · exact ((State.wr_changes _ _ _).mono).then (State.wr_changes _ _ _)
  clear_value x2
  exact (h3.then (State.wr_changes _ _ _)).then (State.raiseSnap_changes _ _)

/-! ## Machine/DramOps -/

theorem State.updDmc_changes (s : State) (n : Nat) (f : DmcSt → DmcSt) :
    Changes Part.dmcs s (s.updDmc n f) := by
  unfold State.updDmc
  exact Changes.set_dmcs (Changes.refl _ _)

theorem State.dramAddrErr_changes (s : State) (h : Nat) (a : Nat) :
    Changes Part.regs s (s.dramAddrErr h a) := by
  unfold State.dramAddrErr
  exact (State.setOn_changes _ _).mono

theorem State.setPoison_changes (s : State) (h : Nat) (line : Nat) (p : Bool) :
    Changes Part.poison s (s.setPoison h line p) := by
  unfold State.setPoison
  exact Changes.set_poison (Changes.refl _ _)

theorem State.noteRead_changes (s : State) (n : Nat) (line : Nat) (bad : Bool) (e : Ecc) :
    Changes Part.regs s (s.noteRead n line bad e) := by
  unfold State.noteRead
  refine Changes.ite ?_ ?_
  · exact (((State.setOn_changes _ _).mono).then (State.count_changes _ _ _)).then (State.wr_changes _ _ _)
  · refine Changes.ite ?_ ?_
    · exact (((State.setOn_changes _ _).mono).then (State.count_changes _ _ _)).then (State.wr_changes _ _ _)
    · exact Changes.refl _ _

theorem State.dramExec_changes (s : State) (h : Nat) (o : DramOp) (e : Ecc) :
    Changes (Part.regs ||| Part.ctxs ||| Part.dram ||| Part.poison) s (s.dramExec h o e) := by
  unfold State.dramExec
  extract_lets -merge -usedOnly x1 x2 x3 x4 x5 x6 x7 x8 x9
  clear_value x1
  clear_value x2
  clear_value x3
  refine Changes.have (x := x4) ?_ fun h10 => ?_
  · unfold x4
    exact (State.count_changes _ _ _).mono
  clear_value x4
  refine Changes.have (x := x5) ?_ fun h11 => ?_
  · unfold x5
    refine Changes.ite ?_ ?_
    · exact (h10.then (State.count_changes _ _ _)).then (State.noteRead_changes _ _ _ _ _)
    · exact h10
  clear_value x5
  clear_value x6
  refine Changes.have (x := x7) ?_ fun h12 => ?_
  · unfold x7
    refine Changes.ite ?_ ?_
    · exact h11.then (State.count_changes _ _ _)
    · exact h11
  clear_value x7
  refine Changes.have (x := x8) ?_ fun h13 => ?_
  · unfold x8
    exact h11.then (State.count_changes _ _ _)
  clear_value x8
  refine Changes.have (x := x9) ?_ fun h14 => ?_
  · unfold x9
    exact ((h13.then (State.dramWrite_changes _ _ _ _ _)).then (State.setPoison_changes _ _ _ _)).then (State.setOn_changes _ _)
  clear_value x9
  split
  · exact (Changes.set_dram h12 (fun h => by first | exact Memory.wf_write _ _ _ h | exact Memory.wf_writeN _ _ _ _ h | exact Memory.wf_writeMasked _ _ _ _ _ h | exact Memory.wf_filter _ _ h)).then (State.setPoison_changes _ _ _ _)
  · refine Changes.ite ?_ ?_
    · refine Changes.each ?_ ?_
      · exact h14
      · intro t15 a16 h17
        exact h17.then (State.updJob_changes _ _ _ _)
    · exact h13.then (State.dramWrite_changes _ _ _ _ _)
  · exact h11

theorem State.freeEcc_changes (s : State) :
    Changes Part.fresh s (s.freeEcc.snd) := by
  unfold State.freeEcc
  extract_lets -merge -usedOnly x1
  refine Changes.have (x := x1.2) ?_ fun h2 => ?_
  · unfold x1
    exact (State.free_changes _ _).mono
  clear_value x1
  refine Changes.mk_snd ?_
  exact h2

theorem State.drainLine_changes (s : State) (h : Nat) (line : Nat) :
    Changes (Part.fresh ||| Part.regs ||| Part.ctxs ||| Part.dram ||| Part.poison ||| Part.dmcs) s (s.drainLine h line) := by
  unfold State.drainLine
  extract_lets -merge -usedOnly x1 x2 x3
  clear_value x1
  clear_value x2
  refine Changes.have (x := x3) ?_ fun h4 => ?_
  · unfold x3
    exact (State.updDmc_changes _ _ _).mono
  clear_value x3
  refine Changes.each ?_ ?_
  · exact h4
  · intro t5 a6 h7
    extract_lets -merge -usedOnly x8
    refine Changes.have (x := x8.2) ?_ fun h9 => ?_
    · unfold x8
      exact h7.then (State.freeEcc_changes _)
    clear_value x8
    exact h9.then (State.dramExec_changes _ _ _ _)

theorem State.drainAll_changes (s : State) (n : Nat) (bad : List Nat) :
    Changes (Part.regs ||| Part.ctxs ||| Part.dram ||| Part.poison ||| Part.dmcs) s (s.drainAll n bad) := by
  unfold State.drainAll
  extract_lets -merge -usedOnly x1 x2 x3
  clear_value x1
  clear_value x2
  refine Changes.have (x := x3) ?_ fun h4 => ?_
  · unfold x3
    exact (State.updDmc_changes _ _ _).mono
  clear_value x3
  refine Changes.each ?_ ?_
  · exact h4
  · intro t5 a6 h7
    exact h7.then (State.dramExec_changes _ _ _ _)

theorem State.wakeDram_changes (s : State) (n : Nat) :
    Changes Part.dmcs s (s.wakeDram n) := by
  unfold State.wakeDram
  extract_lets -merge -usedOnly x1
  clear_value x1
  refine Changes.ite ?_ ?_
  · exact (State.updDmc_changes _ _ _).mono
  · refine Changes.ite ?_ ?_
    · exact (State.updDmc_changes _ _ _).mono
    · exact Changes.refl _ _

theorem State.dmcDrained_changes (s : State) (n : Nat) :
    Changes (Part.regs ||| Part.dmcs) s (s.dmcDrained n) := by
  unfold State.dmcDrained
  extract_lets -merge -usedOnly x1
  clear_value x1
  refine Changes.ite ?_ ?_
  · exact (State.clr_changes _ _).mono
  · refine Changes.ite ?_ ?_
    · exact (((State.updDmc_changes _ _ _).mono).then (State.clr_changes _ _)).then (State.wr_changes _ _ _)
    · exact Changes.refl _ _

theorem State.dropPass_changes (s : State) (n : Nat) (res : Nat) :
    Changes (Part.regs ||| Part.dmcs) s (s.dropPass n res) := by
  unfold State.dropPass
  refine Changes.ite ?_ ?_
  · exact Changes.refl _ _
  · exact ((State.wr_changes _ _ _).mono).then (State.updDmc_changes _ _ _)

theorem State.dmcDrain_changes (s : State) (n : Nat) :
    Changes (Part.regs ||| Part.dmcs) s (s.dmcDrain n) := by
  unfold State.dmcDrain
  extract_lets -merge -usedOnly x1
  refine Changes.have (x := x1) ?_ fun h2 => ?_
  · unfold x1
    exact (State.updDmc_changes _ _ _).mono
  clear_value x1
  refine Changes.ite ?_ ?_
  · exact h2.then (State.dmcDrained_changes _ _)
  · exact h2

theorem State.srEnter_changes (s : State) (n : Nat) :
    Changes (Part.regs ||| Part.dmcs) s (s.srEnter n) := by
  unfold State.srEnter
  exact ((State.updDmc_changes _ _ _).mono).then (State.dmcDrain_changes _ _)

/-! ## Machine/NocOps -/

theorem State.setRoute_changes (s : State) (t : Nat) (d : Nat) (v : Nat) :
    Changes Part.routes s (s.setRoute t d v) := by
  unfold State.setRoute
  exact Changes.set_routes (Changes.refl _ _) (fun h => Table.wf_set _ _ _ _ h)

theorem State.updNi_changes (s : State) (id : Nat) (f : NiSt → NiSt) :
    Changes Part.nis s (s.updNi id f) := by
  unfold State.updNi
  exact Changes.set_nis (Changes.refl _ _)

theorem State.niOut_changes (s : State) (id : Nat) :
    Changes Part.regs s (s.niOut id) := by
  unfold State.niOut
  exact (State.wr_changes _ _ _).mono

theorem State.pushTx_changes (s : State) (id : Nat) (p : Pkt) :
    Changes Part.nis s (s.pushTx id p) := by
  unfold State.pushTx
  exact (State.updNi_changes _ _ _).mono

theorem State.pushRx_changes (s : State) (id : Nat) (p : Pkt) :
    Changes Part.nis s (s.pushRx id p) := by
  unfold State.pushRx
  exact (State.updNi_changes _ _ _).mono

theorem State.handOver_changes (s : State) (id : Nat) (p : Pkt) :
    Changes Part.nis s (s.handOver id p) := by
  unfold State.handOver
  exact (State.updNi_changes _ _ _).mono

/-- A packet is received and handled, unless its interface stands still or its endpoint takes requests itself. -/
theorem Changes.onRx {m : Nat} {r s : State} {id opc : Nat} {f : Pkt → State → State} (h : Changes m r s)
    (hf : ∀ p t, Changes m r t → Changes m r (f p t)) (e : Part.nis ||| m = m := by exact rfl) :
    Changes m r (s.onRx id opc f) := by
  unfold State.onRx State.takeRx
  split
  · rename_i q hq
    split at hq
    · cases hq
      refine Changes.ite h (Changes.ite ?_ (hf _ _ ?_))
      · exact (h.then (State.updNi_changes s id _) e).then (State.handOver_changes _ _ _) e
      · exact h.then (State.updNi_changes s id _) e
    · cases hq
  · exact h

theorem State.countLate_changes (s : State) (id : Nat) :
    Changes Part.regs s (s.countLate id) := by
  unfold State.countLate
  exact (State.count_changes _ _ _).mono

theorem State.countCut_changes (s : State) (id : Nat) :
    Changes Part.regs s (s.countCut id) := by
  unfold State.countCut
  refine Changes.when ?_ ?_
  · exact (State.countLate_changes _ _).mono
  · intro t1 h2
    exact h2.then (State.count_changes _ _ _)

theorem State.answer_changes (s : State) (id : Nat) (q : Pkt) (opc : Nat) (status : Nat) (addr : Nat) (data : Nat) :
    Changes Part.nis s (s.answer id q opc status addr data) := by
  unfold State.answer
  exact (State.pushTx_changes _ _ _).mono

theorem State.nack_changes (s : State) (id : Nat) (q : Pkt) (reason : Nat) :
    Changes Part.nis s (s.nack id q reason) := by
  unfold State.nack
  exact (State.answer_changes _ _ _ _ _ _ _).mono

theorem State.localNack_changes (s : State) (id : Nat) (q : Pkt) (reason : Nat) :
    Changes Part.nis s (s.localNack id q reason) := by
  unfold State.localNack
  exact (State.handOver_changes _ _ _).mono

theorem State.dramAnswer_changes (s : State) (n : Nat) (o : DramOp) (reason : Nat) :
    Changes (Part.regs ||| Part.bus ||| Part.nis) s (s.dramAnswer n o reason) := by
  unfold State.dramAnswer
  split
  · refine Changes.ite ?_ ?_
    · exact Changes.set_bus (Changes.refl _ _) (fun h => Table.wf_set _ _ _ _ h)
    · exact (Changes.set_bus (Changes.refl _ _) (fun h => Table.wf_set _ _ _ _ h)).then (State.setOn_changes _ _)
  · extract_lets -merge -usedOnly x1 x2
    clear_value x1
    clear_value x2
    refine Changes.ite ?_ ?_
    · exact Changes.refl _ _
    · refine Changes.ite ?_ ?_
      · exact (State.answer_changes _ _ _ _ _ _ _).mono
      · exact (State.nack_changes _ _ _ _).mono

/-! ## Machine/DramQueue -/

theorem State.readReturn_changes (s : State) (n : Nat) (o : DramOp) (e : Ecc) :
    Changes (Part.regs ||| Part.bus ||| Part.nis) s (s.readReturn n o e) := by
  unfold State.readReturn
  extract_lets -merge -usedOnly x1 x2
  refine Changes.have (x := x1) ?_ fun h3 => ?_
  · unfold x1
    exact (State.noteRead_changes _ _ _ _ _).mono
  clear_value x1
  refine Changes.have (x := x2) ?_ fun h4 => ?_
  · unfold x2
    refine Changes.ite ?_ ?_
    · exact h3.then (State.count_changes _ _ _)
    · exact h3
  clear_value x2
  refine Changes.ite ?_ ?_
  · exact h3.then (State.dramAnswer_changes _ _ _ _)
  · exact h4.then (State.dramAnswer_changes _ _ _ _)

theorem State.enqueue_changes (s : State) (n : Nat) (o : DramOp) :
    Changes Part.dmcs s (s.enqueue n o) := by
  unfold State.enqueue
  exact (State.updDmc_changes _ _ _).mono

theorem State.markSince_changes (s : State) (n : Nat) (line : Nat) :
    Changes Part.dmcs s (s.markSince n line) := by
  unfold State.markSince
  extract_lets -merge -usedOnly x1
  clear_value x1
  exact (State.updDmc_changes _ _ _).mono

theorem State.place_changes (s : State) (h : Nat) (o : DramOp) :
    Changes (Part.regs ||| Part.bus ||| Part.dmcs ||| Part.nis) s (s.place h o) := by
  unfold State.place
  extract_lets -merge -usedOnly x1 x2 x3 x4 x5
  clear_value x1
  clear_value x2
  clear_value x3
  clear_value x4
  refine Changes.have (x := x5) ?_ fun h6 => ?_
  · unfold x5
    exact (State.markSince_changes _ _ _).mono
  clear_value x5
  refine Changes.ite ?_ ?_
  · split
    · refine Changes.ite ?_ ?_
      · exact ((State.count_changes _ _ _).mono).then (State.dramAnswer_changes _ _ _ _)
      · exact (State.enqueue_changes _ _ _).mono
    · exact (State.enqueue_changes _ _ _).mono
  · split
    · refine Changes.ite ?_ ?_
      · exact h6.then (State.updDmc_changes _ _ _)
      · refine Changes.ite ?_ ?_
        · exact (h6.then (State.updDmc_changes _ _ _)).then (State.count_changes _ _ _)
        · exact h6.then (State.enqueue_changes _ _ _)
    · exact h6.then (State.enqueue_changes _ _ _)

theorem State.letIn_changes (s : State) (n : Nat) :
    Changes (Part.regs ||| Part.bus ||| Part.dmcs ||| Part.nis) s (s.letIn n) := by
  unfold State.letIn
  refine Changes.foldl (fun x => x) ?_ ?_
  · exact Changes.refl _ _
  · intro b1 a2 h3
    try dsimp -zeta -iota -proj -eta only
    try dsimp -zeta -iota -proj -eta only at h3
    split
    · refine Changes.ite ?_ ?_
      · exact (h3.then (State.updDmc_changes _ _ _)).then (State.place_changes _ _ _)
      · exact h3
    · exact h3

theorem State.dramArrive_changes (s : State) (h : Nat) (o : DramOp) :
    Changes (Part.regs ||| Part.bus ||| Part.dmcs ||| Part.nis) s (s.dramArrive h o) := by
  unfold State.dramArrive
  extract_lets -merge -usedOnly x1
  clear_value x1
  exact (((State.wakeDram_changes _ _).mono).then (State.updDmc_changes _ _ _)).then (State.letIn_changes _ _)

theorem State.dramReadReq_changes (s : State) (h : Nat) (line : Nat) (mask : Nat) (id : Nat) (full : Bool) (win : Option (Nat × Nat × Nat)) :
    Changes (Part.fresh ||| Part.regs ||| Part.bus ||| Part.dmcs ||| Part.nis) s (s.dramReadReq h line mask id full win) := by
  unfold State.dramReadReq
  extract_lets -merge -usedOnly x1 x2 x3
  clear_value x1
  clear_value x2
  refine Changes.have (x := x3.2) ?_ fun h4 => ?_
  · unfold x3
    exact (State.free_changes _ _).mono
  clear_value x3
  refine Changes.ite ?_ ?_
  · exact ((State.dramAddrErr_changes _ _ _).mono).then (State.dramAnswer_changes _ _ _ _)
  · refine Changes.ite ?_ ?_
    · exact h4.then (State.dramAnswer_changes _ _ _ _)
    · exact (State.dramArrive_changes _ _ _).mono

theorem State.dramWriteReq_changes (s : State) (h : Nat) (line : Nat) (mask : Nat) (data : Nat) (jobs : List (Nat × Nat)) (full : Bool) :
    Changes (Part.regs ||| Part.bus ||| Part.dmcs ||| Part.nis) s (s.dramWriteReq h line mask data jobs full) := by
  unfold State.dramWriteReq
  refine Changes.ite ?_ ?_
  · exact (State.dramAddrErr_changes _ _ _).mono
  · refine Changes.ite ?_ ?_
    · exact Changes.refl _ _
    · exact (State.dramArrive_changes _ _ _).mono

theorem State.dramOrReq_changes (s : State) (h : Nat) (line : Nat) (data : Nat) (jobs : List (Nat × Nat)) (full : Bool) :
    Changes (Part.regs ||| Part.bus ||| Part.dmcs ||| Part.nis) s (s.dramOrReq h line data jobs full) := by
  unfold State.dramOrReq
  refine Changes.ite ?_ ?_
  · exact (State.dramAddrErr_changes _ _ _).mono
  · refine Changes.ite ?_ ?_
    · exact Changes.refl _ _
    · exact (State.dramArrive_changes _ _ _).mono

theorem State.dramPut_changes (s : State) (h : Nat) (a : Nat) (k : Nat) (v : Nat) (full : Bool) :
    Changes (Part.regs ||| Part.bus ||| Part.dmcs ||| Part.nis) s (s.dramPut h a k v full) := by
  unfold State.dramPut
  refine Changes.ite ?_ ?_
  · exact Changes.refl _ _
  · refine Changes.each ?_ ?_
    · exact Changes.refl _ _
    · intro t1 a2 h3
      extract_lets -merge -usedOnly x4 x5
      clear_value x4
      clear_value x5
      exact h3.then (State.dramWriteReq_changes _ _ _ _ _ _ _)

theorem State.dramNow_changes (s : State) (h : Nat) (line : Nat) (mask : Nat) (e : Ecc) :
    Changes (Part.fresh ||| Part.regs ||| Part.ctxs ||| Part.dram ||| Part.poison |||
        Part.dmcs) s ((s.dramNow h line mask e).snd) := by
  unfold State.dramNow
  extract_lets -merge -usedOnly x1 x2 x3 x4 x5
  clear_value x1
  clear_value x2
  refine Changes.have (x := x3) ?_ fun h6 => ?_
  · unfold x3
    exact ((State.drainLine_changes _ _ _).mono).then (State.count_changes _ _ _)
  clear_value x3
  clear_value x4
  refine Changes.have (x := x5) ?_ fun h7 => ?_
  · unfold x5
    exact h6.then (State.noteRead_changes _ _ _ _ _)
  clear_value x5
  refine Changes.ite_snd ?_ ?_
  · refine Changes.mk_snd ?_
    exact (State.dramAddrErr_changes _ _ _).mono
  · refine Changes.ite_snd ?_ ?_
    · refine Changes.mk_snd ?_
      exact (State.count_changes _ _ _).mono
    · refine Changes.ite_snd ?_ ?_
      · refine Changes.mk_snd ?_
        exact h7
      · refine Changes.mk_snd ?_
        refine Changes.ite ?_ ?_
        · exact h7.then (State.count_changes _ _ _)
        · exact h7

/-! ## Machine/DebugOps -/

theorem State.updTrc_changes (s : State) (h : Nat) (f : TraceSt → TraceSt) :
    Changes Part.trcs s (s.updTrc h f) := by
  unfold State.updTrc
  exact Changes.set_trcs (Changes.refl _ _)

theorem State.dropPacket_changes (s : State) (h : Nat) :
    Changes (Part.regs ||| Part.trcs) s (s.dropPacket h) := by
  unfold State.dropPacket
  exact ((State.count_changes _ _ _).mono).then (State.updTrc_changes _ _ _)

theorem State.emitPacket_changes (s : State) (h : Nat) (p : Packet) :
    Changes (Part.regs ||| Part.bus ||| Part.dmcs ||| Part.trcs ||| Part.nis) s (s.emitPacket h p) := by
  unfold State.emitPacket
  extract_lets -merge -usedOnly x1 x2 x3 x4 x5 x6 x7
  clear_value x1
  clear_value x2
  clear_value x3
  refine Changes.have (x := x4) ?_ fun h8 => ?_
  · unfold x4
    exact (State.updTrc_changes _ _ _).mono
  clear_value x4
  clear_value x5
  refine Changes.have (x := x6) ?_ fun h9 => ?_
  · unfold x6
    exact h8.then (State.dramPut_changes _ _ _ _ _ _)
  clear_value x6
  refine Changes.have (x := x7) ?_ fun h10 => ?_
  · unfold x7
    exact (h9.then (State.updTrc_changes _ _ _)).then (State.wr_changes _ _ _)
  clear_value x7
  refine Changes.ite ?_ ?_
  · refine Changes.ite ?_ ?_
    · exact h10.then (State.setOn_changes _ _)
    · exact h10
  · exact h8.then (State.updTrc_changes _ _ _)

theorem State.tracePacket_changes (s : State) (h : Nat) (p : Packet) :
    Changes (Part.regs ||| Part.bus ||| Part.dmcs ||| Part.trcs ||| Part.nis) s (s.tracePacket h p) := by
  unfold State.tracePacket
  extract_lets -merge -usedOnly x1 x2 x3
  clear_value x1
  clear_value x2
  refine Changes.have (x := x3) ?_ fun h4 => ?_
  · unfold x3
    refine Changes.ite ?_ ?_
    · exact ((State.updTrc_changes _ _ _).mono).then (State.emitPacket_changes _ _ _)
    · exact Changes.refl _ _
  clear_value x3
  refine Changes.ite ?_ ?_
  · refine Changes.ite ?_ ?_
    · exact h4.then (State.emitPacket_changes _ _ _)
    · exact h4.then (State.dropPacket_changes _ _)
  · exact Changes.refl _ _

theorem State.traceSync_changes (s : State) (h : Nat) :
    Changes (Part.regs ||| Part.bus ||| Part.dmcs ||| Part.trcs ||| Part.nis) s (s.traceSync h) := by
  unfold State.traceSync
  exact (State.tracePacket_changes _ _ _).mono

theorem State.traceClear_changes (s : State) (h : Nat) :
    Changes (Part.regs ||| Part.bus ||| Part.dmcs ||| Part.trcs ||| Part.nis) s (s.traceClear h) := by
  unfold State.traceClear
  exact ((((State.updTrc_changes _ _ _).mono).then (State.clr_changes _ _)).then (State.clr_changes _ _)).then (State.traceSync_changes _ _)

theorem State.stimulus_changes (s : State) (n : Nat) (p : Nat) (data : Nat) (origin : Nat) (prov : Option Nat) :
    Changes (Part.regs ||| Part.bus ||| Part.dmcs ||| Part.trcs ||| Part.nis) s (s.stimulus n p data origin prov) := by
  unfold State.stimulus
  refine Changes.ite ?_ ?_
  · exact (State.tracePacket_changes _ _ _).mono
  · exact Changes.refl _ _

theorem State.stimWrite_changes (s : State) (n : Nat) (off : Nat) (size : Nat) (v : Nat) (origin : Nat) :
    Changes (Part.regs ||| Part.bus ||| Part.dmcs ||| Part.trcs ||| Part.nis) s (s.stimWrite n off size v origin) := by
  unfold State.stimWrite
  refine Changes.ite ?_ ?_
  · exact (State.stimulus_changes _ _ _ _ _ _).mono
  · exact (State.count_changes _ _ _).mono

theorem State.marker_changes (s : State) (n : Nat) (tag : Nat) (conf : Bool) :
    Changes (Part.regs ||| Part.bus ||| Part.dmcs ||| Part.trcs ||| Part.nis) s (s.marker n tag conf) := by
  unfold State.marker
  refine Changes.ite ?_ ?_
  · exact (State.tracePacket_changes _ _ _).mono
  · exact Changes.refl _ _

theorem State.reqGang_changes (s : State) (n : Nat) (code : Nat) :
    Changes (Part.regs ||| Part.engs) s (s.reqGang n code) := by
  unfold State.reqGang
  extract_lets -merge -usedOnly x1
  clear_value x1
  refine Changes.each ?_ ?_
  · exact Changes.refl _ _
  · intro t2 a3 h4
    extract_lets -merge -usedOnly x5
    refine Changes.have (x := x5) ?_ fun h6 => ?_
    · unfold x5
      refine Changes.ite ?_ ?_
      · exact h4
      · exact h4.then (State.clr_changes _ _)
    clear_value x5
    exact ((h6.then (State.updEng_changes _ _ _)).then (State.setOn_changes _ _)).then (State.wr_changes _ _ _)

theorem State.debugRequest_changes (s : State) (n : Nat) (code : Nat) :
    Changes (Part.regs ||| Part.engs) s (s.debugRequest n code) := by
  unfold State.debugRequest
  split
  · refine Changes.ite ?_ ?_
    · refine Changes.each ?_ ?_
      · exact Changes.refl _ _
      · intro t1 a2 h3
        exact h3.then (State.reqGang_changes _ _ _)
    · exact (State.reqGang_changes _ _ _).mono
  · exact (State.reqGang_changes _ _ _).mono

theorem State.cmpAct_changes (s : State) (n : Nat) (k : Nat) (pc : Nat) (cyc : Nat) :
    Changes (Part.regs ||| Part.bus ||| Part.engs ||| Part.dmcs ||| Part.trcs ||| Part.snap |||
        Part.nis) s (s.cmpAct n k pc cyc) := by
  unfold State.cmpAct
  extract_lets -merge -usedOnly x1 x2 x3
  refine Changes.have (x := x1) ?_ fun h4 => ?_
  · unfold x1
    exact (((State.wr_changes _ _ _).mono).then (State.wr_changes _ _ _)).then (State.wr_changes _ _ _)
  clear_value x1
  refine Changes.have (x := x2) ?_ fun h5 => ?_
  · unfold x2
    refine Changes.ite ?_ ?_
    · exact h4.then (State.debugRequest_changes _ _ _)
    · exact Changes.refl _ _
  clear_value x2
  refine Changes.have (x := x3) ?_ fun h6 => ?_
  · unfold x3
    refine Changes.ite ?_ ?_
    · exact h5.then (State.raiseSnap_changes _ _)
    · exact h5
  clear_value x3
  refine Changes.ite ?_ ?_
  · exact h6.then (State.tracePacket_changes _ _ _)
  · exact h6

theorem State.cmpLink_changes (s : State) (n : Nat) (hits : Nat) (pc : Nat) (cyc : Nat) :
    Changes (Part.regs ||| Part.bus ||| Part.engs ||| Part.dmcs ||| Part.trcs ||| Part.snap |||
        Part.nis) s (s.cmpLink n hits pc cyc) := by
  unfold State.cmpLink
  refine Changes.each ?_ ?_
  · exact Changes.refl _ _
  · intro t1 a2 h3
    extract_lets -merge -usedOnly x4 x5 x6 x7 x8 x9
    clear_value x4
    clear_value x5
    clear_value x6
    clear_value x7
    refine Changes.have (x := x8) ?_ fun h10 => ?_
    · unfold x8
      refine Changes.ite ?_ ?_
      · exact h3.then (State.cmpAct_changes _ _ _ _ _)
      · exact h3
    clear_value x8
    refine Changes.have (x := x9) ?_ fun h11 => ?_
    · unfold x9
      refine Changes.ite ?_ ?_
      · exact h3.then (State.cmpAct_changes _ _ _ _ _)
      · exact h3
    clear_value x9
    split
    · refine Changes.ite ?_ ?_
      · exact h3.then (State.cmpAct_changes _ _ _ _ _)
      · exact h3
    · refine Changes.ite ?_ ?_
      · exact h10.then (State.updEng_changes _ _ _)
      · exact h10
    · refine Changes.ite ?_ ?_
      · exact h11.then (State.cmpAct_changes _ _ _ _ _)
      · exact h11

theorem State.onVector_changes (s : State) (n : Nat) (v : Vec) :
    Changes (Part.regs ||| Part.bus ||| Part.engs ||| Part.dmcs ||| Part.trcs ||| Part.snap |||
        Part.nis) s (s.onVector n v) := by
  unfold State.onVector
  refine Changes.ite ?_ ?_
  · exact Changes.refl _ _
  · exact (State.cmpLink_changes _ _ _ _ _).mono

theorem State.onFail_changes (s : State) (n : Nat) (site : Nat) (v : Vec) :
    Changes (Part.regs ||| Part.bus ||| Part.engs ||| Part.dmcs ||| Part.trcs ||| Part.snap |||
        Part.nis) s (s.onFail n site v) := by
  unfold State.onFail
  extract_lets -merge -usedOnly x1 x2
  clear_value x1
  clear_value x2
  refine Changes.each ?_ ?_
  · exact Changes.refl _ _
  · intro t3 a4 h5
    extract_lets -merge -usedOnly x6 x7 x8
    clear_value x6
    clear_value x7
    clear_value x8
    refine Changes.ite ?_ ?_
    · exact h5.then (State.cmpLink_changes _ _ _ _ _)
    · exact h5

/-! ## Machine/ChanOps -/

theorem State.quieten_changes (s : State) (c : Nat) :
    Changes Part.chans s (s.quieten c) := by
  unfold State.quieten
  refine Changes.ite ?_ ?_
  · exact (State.updChan_changes _ _ _).mono
  · exact Changes.refl _ _

theorem State.putEvents_changes (s : State) (c : Nat) (x : ChanSt) (d : List ChEvent) (e : List ChEvent) :
    Changes (Part.regs ||| Part.chans) s (s.putEvents c x d e) := by
  unfold State.putEvents
  extract_lets -merge -usedOnly x1 x2 x3 x4
  clear_value x1
  clear_value x2
  clear_value x3
  refine Changes.have (x := x4) ?_ fun h5 => ?_
  · unfold x4
    refine Changes.ite ?_ ?_
    · exact ((State.setOn_changes _ _).mono).then (State.count_changes _ _ _)
    · exact Changes.refl _ _
  clear_value x4
  refine Changes.ite ?_ ?_
  · exact (State.updChan_changes _ _ _).mono
  · exact h5.then (State.updChan_changes _ _ _)

theorem State.pauseChan_changes (s : State) (c : Nat) (t : Nat) :
    Changes (Part.regs ||| Part.chans) s (s.pauseChan c t) := by
  unfold State.pauseChan
  extract_lets -merge -usedOnly x1 x2 x3 x4 x5 x6
  clear_value x1
  clear_value x2
  clear_value x3
  clear_value x4
  clear_value x5
  clear_value x6
  refine Changes.ite ?_ ?_
  · exact (State.updChan_changes _ _ _).mono
  · refine Changes.ite ?_ ?_
    · exact Changes.refl _ _
    · exact (State.putEvents_changes _ _ _ _ _).mono

theorem State.maskChan_changes (s : State) (c : Nat) :
    Changes Part.chans s (s.maskChan c) := by
  unfold State.maskChan
  refine Changes.ite ?_ ?_
  · exact (State.updChan_changes _ _ _).mono
  · exact (State.updChan_changes _ _ _).mono

theorem State.pauseNow_changes (s : State) (c : Nat) :
    Changes Part.chans s (s.pauseNow c) := by
  unfold State.pauseNow
  extract_lets -merge -usedOnly x1
  clear_value x1
  refine Changes.ite ?_ ?_
  · exact (State.updChan_changes _ _ _).mono
  · exact (State.updChan_changes _ _ _).mono

theorem State.restChan_changes (s : State) (c : Nat) :
    Changes Part.chans s (s.restChan c) := by
  unfold State.restChan
  split
  · exact (State.maskChan_changes _ _).mono
  · split
    · refine Changes.ite ?_ ?_
      · exact (State.pauseNow_changes _ _).mono
      · exact (State.quieten_changes _ _).mono
    · exact (State.pauseNow_changes _ _).mono

theorem State.updSsg_changes (s : State) (b : Nat) :
    Changes Part.regs s (s.updSsg b) := by
  unfold State.updSsg
  refine Changes.each ?_ ?_
  · exact Changes.refl _ _
  · intro t1 a2 h3
    refine Changes.ite ?_ ?_
    · refine Changes.each ?_ ?_
      · exact h3
      · intro t4 a5 h6
        exact h6.then (State.setOn_changes _ _)
    · exact h3

theorem State.setSsg_changes (s : State) (b : Nat) (g : Nat) (x : SsgSt) :
    Changes Part.ssgs s (s.setSsg b g x) := by
  unfold State.setSsg
  exact Changes.set_ssgs (Changes.refl _ _)

theorem State.noteMiss_changes (s : State) (b : Nat) (g : Nat) (uis : Nat) (cs : List Nat) :
    Changes Part.regs s (s.noteMiss b g uis cs) := by
  unfold State.noteMiss
  refine Changes.then ?_ (State.count_changes _ _ _)
  refine Changes.ite ?_ ?_
  · exact Changes.refl _ _
  · refine Changes.each ?_ ?_
    · exact Changes.refl _ _
    · intro t1 a2 h3
      exact h3.then (State.setOn_changes _ _)

theorem State.noteCompare_changes (s : State) (c : Nat) (t : Nat) :
    Changes (Part.regs ||| Part.ssgs) s (s.noteCompare c t) := by
  unfold State.noteCompare
  split
  · exact Changes.refl _ _
  · extract_lets -merge -usedOnly x1 x2 x3 x4 x5
    clear_value x1
    clear_value x2
    clear_value x3
    clear_value x4
    clear_value x5
    exact ((State.setSsg_changes _ _ _ _).mono).then (State.noteMiss_changes _ _ _ _ _)

theorem State.noteEdges_changes (s : State) (b : Nat) (g : Nat) (w : Wave) :
    Changes (Part.regs ||| Part.ssgs) s (s.noteEdges b g w) := by
  unfold State.noteEdges
  extract_lets -merge -usedOnly x1 x2 x3 x4 x5 x6 x7
  clear_value x1
  clear_value x2
  clear_value x3
  clear_value x4
  refine Changes.have (x := x5) ?_ fun h8 => ?_
  · unfold x5
    exact (State.setSsg_changes _ _ _ _).mono
  clear_value x5
  clear_value x6
  clear_value x7
  exact (h8.then (State.setSsg_changes _ _ _ _)).then (State.count_changes _ _ _)

theorem State.driveChan_changes (s : State) (n : Nat) (c : Nat) (v : Vec) :
    Changes (Part.regs ||| Part.chans ||| Part.ssgs) s (s.driveChan n c v) := by
  unfold State.driveChan
  extract_lets -merge -usedOnly x1 x2 x3 x4 x5 x6 x7 x8 x9 x10 x11 x12 x13 x14 x15 x16 x17 x18 x19
  clear_value x1
  clear_value x2
  clear_value x3
  refine Changes.have (x := x4) ?_ fun h20 => ?_
  · unfold x4
    refine Changes.ite ?_ ?_
    · exact (State.setOn_changes _ _).mono
    · exact Changes.refl _ _
  clear_value x4
  refine Changes.have (x := x5) ?_ fun h21 => ?_
  · unfold x5
    refine Changes.ite ?_ ?_
    · exact h20.then (State.noteCompare_changes _ _ _)
    · exact h20
  clear_value x5
  clear_value x6
  clear_value x7
  clear_value x8
  clear_value x9
  clear_value x10
  clear_value x11
  clear_value x12
  clear_value x13
  clear_value x14
  clear_value x15
  clear_value x16
  clear_value x17
  clear_value x18
  clear_value x19
  refine Changes.ite ?_ ?_
  · exact h21.then (State.updChan_changes _ _ _)
  · refine Changes.ite ?_ ?_
    · exact h21.then (State.pauseChan_changes _ _ _)
    · refine Changes.ite ?_ ?_
      · exact h21.then (State.putEvents_changes _ _ _ _ _)
      · exact h21.then (State.putEvents_changes _ _ _ _ _)

theorem State.pauseAt_changes (s : State) (n : Nat) (t : Nat) :
    Changes (Part.regs ||| Part.chans) s (s.pauseAt n t) := by
  unfold State.pauseAt
  refine Changes.each ?_ ?_
  · exact Changes.refl _ _
  · intro t1 a2 h3
    exact h3.then (State.pauseChan_changes _ _ _)

theorem State.sentOut_changes (s : State) (n : Nat) (p : Sent) :
    Changes (Part.regs ||| Part.chans ||| Part.ssgs ||| Part.snap) s (s.sentOut n p) := by
  unfold State.sentOut
  extract_lets -merge -usedOnly x1
  refine Changes.have (x := x1) ?_ fun h2 => ?_
  · unfold x1
    split
    · exact (State.pauseAt_changes _ _ _).mono
    · refine Changes.each ?_ ?_
      · exact Changes.refl _ _
      · intro t3 a4 h5
        exact h5.then (State.driveChan_changes _ _ _ _)
  clear_value x1
  refine Changes.ite ?_ ?_
  · exact h2.then (State.raiseSnap_changes _ _)
  · exact h2

theorem State.drainPipe_changes (s : State) (n : Nat) :
    Changes (Part.regs ||| Part.engs ||| Part.chans ||| Part.ssgs ||| Part.snap) s (s.drainPipe n) := by
  unfold State.drainPipe
  extract_lets -merge -usedOnly x1
  clear_value x1
  refine Changes.each ?_ ?_
  · exact (State.updEng_changes _ _ _).mono
  · intro t2 a3 h4
    exact h4.then (State.sentOut_changes _ _ _)

theorem State.pauseFed_changes (s : State) (n : Nat) :
    Changes (Part.regs ||| Part.engs ||| Part.chans) s (s.pauseFed n) := by
  unfold State.pauseFed
  exact ((State.updEng_changes _ _ _).mono).then (State.pauseAt_changes _ _ _)

/-! ## Machine/StreamOps -/

theorem State.setLevel_changes (s : State) (b : Nat) :
    Changes (Part.regs ||| Part.bays) s (s.setLevel b) := by
  unfold State.setLevel
  extract_lets -merge -usedOnly x1
  refine Changes.have (x := x1) ?_ fun h2 => ?_
  · unfold x1
    exact (State.updBay_changes _ _ _).mono
  clear_value x1
  exact h2.then (State.wr_changes _ _ _)

theorem State.dropWord_changes (s : State) (b : Nat) (prov : Bool) :
    Changes (Part.regs ||| Part.bays) s (s.dropWord b prov) := by
  unfold State.dropWord
  exact ((State.count_changes _ _ _).mono).then (State.updBay_changes _ _ _)

theorem State.cutStream_changes (s : State) (b : Nat) :
    Changes (Part.regs ||| Part.bays) s (s.cutStream b) := by
  unfold State.cutStream
  extract_lets -merge -usedOnly x1 x2
  clear_value x1
  clear_value x2
  exact (((State.count_changes _ _ _).mono).then (State.updBay_changes _ _ _)).then (State.setLevel_changes _ _)

theorem State.streamPut_changes (s : State) (b : Nat) (need : Nat) (w : StreamWord) (prov : Bool) (tok : Option (Nat × Nat)) :
    Changes (Part.regs ||| Part.bays) s (s.streamPut b need w prov tok) := by
  unfold State.streamPut
  extract_lets -merge -usedOnly x1 x2
  clear_value x1
  clear_value x2
  refine Changes.ite ?_ ?_
  · exact ((State.updBay_changes _ _ _).mono).then (State.setLevel_changes _ _)
  · exact (State.dropWord_changes _ _ _).mono

theorem State.jobMark_changes (s : State) (b : Nat) (mtype : Nat) (le : Nat) (ctx : Nat) (sq : Nat) :
    Changes (Part.regs ||| Part.bays) s (s.jobMark b mtype le ctx sq) := by
  unfold State.jobMark
  exact (State.streamPut_changes _ _ _ _ _ _).mono

theorem State.streamRecord_changes (s : State) (b : Nat) (n : Nat) (word : Nat) (tag : Option Nat) :
    Changes (Part.regs ||| Part.bays) s (s.streamRecord b n word tag) := by
  unfold State.streamRecord
  split
  · exact (State.streamPut_changes _ _ _ _ _ _).mono
  · refine Changes.ite ?_ ?_
    · exact (State.streamPut_changes _ _ _ _ _ _).mono
    · exact (State.streamPut_changes _ _ _ _ _ _).mono

theorem State.streamToken_changes (s : State) (n : Nat) (le : Nat) (tag : Nat) (conf : Bool) :
    Changes (Part.regs ||| Part.bays) s (s.streamToken n le tag conf) := by
  unfold State.streamToken
  refine Changes.each ?_ ?_
  · exact Changes.refl _ _
  · intro t1 a2 h3
    refine Changes.ite ?_ ?_
    · exact (h3.then (State.updBay_changes _ _ _)).then (State.setLevel_changes _ _)
    · exact h3

theorem State.setCal_changes (s : State) (c : Nat) (r : CalRec) :
    Changes Part.calRecs s (s.setCal c r) := by
  unfold State.setCal
  exact Changes.set_calRecs (Changes.refl _ _)

theorem State.noteClamp_changes (s : State) (c : Nat) (n : Nat) :
    Changes Part.regs s (s.noteClamp c n) := by
  unfold State.noteClamp
  refine Changes.ite ?_ ?_
  · exact Changes.refl _ _
  · exact ((State.setOn_changes _ _).mono).then (State.count_changes _ _ _)

theorem State.recompute_changes (s : State) (c : Nat) (whole : Bool) :
    Changes (Part.regs ||| Part.calRecs) s ((s.recompute c whole).snd) := by
  unfold State.recompute
  extract_lets -merge -usedOnly x1 x2 x3
  clear_value x1
  clear_value x2
  clear_value x3
  refine Changes.mk_snd ?_
  exact ((State.setCal_changes _ _ _).mono).then (State.noteClamp_changes _ _ _)

/-! ## Machine/Stops -/

theorem State.addCyc_changes (s : State) (n : Nat) (k : Nat) :
    Changes (Part.regs ||| Part.engs ||| Part.chans ||| Part.ssgs ||| Part.snap) s (s.addCyc n k) := by
  unfold State.addCyc
  extract_lets -merge -usedOnly x1
  clear_value x1
  refine Changes.each ?_ ?_
  · exact Changes.refl _ _
  · intro t2 a3 h4
    extract_lets -merge -usedOnly x5
    refine Changes.have (x := x5) ?_ fun h6 => ?_
    · unfold x5
      exact h4.then (State.updEng_changes _ _ _)
    clear_value x5
    refine Changes.then ?_ (State.drainPipe_changes _ _)
    refine Changes.ite ?_ ?_
    · exact h6.then (State.wr_changes _ _ _)
    · exact h6

theorem State.sendPause_changes (s : State) (n : Nat) :
    Changes Part.engs s (s.sendPause n) := by
  unfold State.sendPause
  refine Changes.each ?_ ?_
  · exact Changes.refl _ _
  · intro t1 a2 h3
    exact h3.then (State.updEng_changes _ _ _)

theorem State.holdFor_changes (s : State) (n : Nat) (w : Nat) :
    Changes (Part.regs ||| Part.engs ||| Part.chans ||| Part.ssgs ||| Part.snap) s (s.holdFor n w) := by
  unfold State.holdFor
  refine Changes.ite ?_ ?_
  · exact Changes.refl _ _
  · exact ((State.sendPause_changes _ _).mono).then (State.addCyc_changes _ _ _)

theorem State.runDry_changes (s : State) (n : Nat) :
    Changes (Part.regs ||| Part.engs ||| Part.chans ||| Part.ssgs ||| Part.snap) s (s.runDry n) := by
  unfold State.runDry
  exact (State.holdFor_changes _ _ _).mono

theorem State.failHold_changes (s : State) (n : Nat) (w : Nat) :
    Changes (Part.regs ||| Part.ctxs) s (s.failHold n w) := by
  unfold State.failHold
  refine Changes.each ?_ ?_
  · exact Changes.refl _ _
  · intro t1 a2 h3
    extract_lets -merge -usedOnly x4
    refine Changes.have (x := x4) ?_ fun h5 => ?_
    · unfold x4
      exact h3.then (State.count_changes _ _ _)
    clear_value x4
    split
    · exact h5.then (State.updJobEng_changes _ _ _ _)
    · exact h5

theorem State.endFailHold_changes (s : State) (n : Nat) (w : Nat) :
    Changes (Part.regs ||| Part.ctxs) s (s.endFailHold n w) := by
  unfold State.endFailHold
  refine Changes.each ?_ ?_
  · exact (State.failHold_changes _ _ _).mono
  · intro t1 a2 h3
    exact h3.then (State.clr_changes _ _)

theorem State.waitOut_changes (s : State) (n : Nat) (k : Nat) :
    Changes (Part.regs ||| Part.ctxs ||| Part.engs ||| Part.chans ||| Part.ssgs ||| Part.snap) s (s.waitOut n k) := by
  unfold State.waitOut
  extract_lets -merge -usedOnly x1
  clear_value x1
  refine Changes.ite ?_ ?_
  · exact Changes.refl _ _
  · refine Changes.then ?_ (State.holdFor_changes _ _ _)
    refine Changes.ite ?_ ?_
    · exact (State.failHold_changes _ _ _).mono
    · exact Changes.refl _ _

theorem State.fabResolve_changes (s : State) (h : Nat) (le : Nat) (tag : Nat) (conf : Bool) :
    Changes (Part.bays ||| Part.fabHeld) s (s.fabResolve h le tag conf) := by
  unfold State.fabResolve
  extract_lets -merge -usedOnly x1
  refine Changes.have (x := x1) ?_ fun h2 => ?_
  · unfold x1
    refine Changes.each ?_ ?_
    · exact Changes.refl _ _
    · intro t3 a4 h5
      exact h5.then (State.updBay_changes _ _ _)
  clear_value x1
  exact Changes.set_fabHeld h2

theorem State.tagResolved_changes (s : State) (n : Nat) (tag : Nat) (conf : Bool) :
    Changes (Part.regs ||| Part.bus ||| Part.bays ||| Part.dmcs ||| Part.trcs ||| Part.nis |||
        Part.fabHeld) s (s.tagResolved n tag conf) := by
  unfold State.tagResolved
  extract_lets -merge -usedOnly x1
  refine Changes.have (x := x1) ?_ fun h2 => ?_
  · unfold x1
    refine Changes.each ?_ ?_
    · exact Changes.refl _ _
    · intro t3 a4 h5
      exact (h5.then (State.streamToken_changes _ _ _ _ _)).then (State.fabResolve_changes _ _ _ _ _)
  clear_value x1
  exact h2.then (State.marker_changes _ _ _ _)

theorem State.stopSlot_changes (s : State) (n : Nat) :
    Changes (Part.regs ||| Part.bus ||| Part.engs ||| Part.bays ||| Part.chans ||| Part.bankMem ||| Part.dmcs |||
        Part.trcs ||| Part.nis ||| Part.fabHeld) s (s.stopSlot n) := by
  unfold State.stopSlot
  extract_lets -merge -usedOnly x1 x2 x3 x4 x5 x6 x7 x8 x9 x10 x11
  clear_value x1
  clear_value x2
  refine Changes.have (x := x3) ?_ fun h12 => ?_
  · unfold x3
    refine Changes.each ?_ ?_
    · exact Changes.refl _ _
    · intro t13 a14 h15
      exact h15.then (State.freeVec_changes _ _ _)
  clear_value x3
  refine Changes.have (x := x4) ?_ fun h16 => ?_
  · unfold x4
    exact h12.then (State.count_changes _ _ _)
  clear_value x4
  refine Changes.have (x := x5) ?_ fun h17 => ?_
  · unfold x5
    exact h16.then (State.sumpGive_changes _ _ _)
  clear_value x5
  refine Changes.have (x := x6) ?_ fun h18 => ?_
  · unfold x6
    refine Changes.each ?_ ?_
    · exact h17
    · intro t19 a20 h21
      exact h21.then (State.tagResolved_changes _ _ _ _)
  clear_value x6
  refine Changes.have (x := x7) ?_ fun h22 => ?_
  · unfold x7
    exact h18.then (State.dropSem_changes _ _)
  clear_value x7
  refine Changes.have (x := x8) ?_ fun h23 => ?_
  · unfold x8
    exact h22.then (State.updEng_changes _ _ _)
  clear_value x8
  refine Changes.have (x := x9) ?_ fun h24 => ?_
  · unfold x9
    exact ((h23.then (State.clr_changes _ _)).then (State.clr_changes _ _)).then (State.clr_changes _ _)
  clear_value x9
  refine Changes.have (x := x10) ?_ fun h25 => ?_
  · unfold x10
    exact h24.then (State.wr_changes _ _ _)
  clear_value x10
  refine Changes.have (x := x11) ?_ fun h26 => ?_
  · unfold x11
    exact (((h25.then (State.clr_changes _ _)).then (State.clr_changes _ _)).then (State.clr_changes _ _)).then (State.clr_changes _ _)
  clear_value x11
  exact h26.then (State.pauseFed_changes _ _)

theorem State.waitCut_changes (s : State) (l : Nat) :
    Changes (Part.fresh ||| Part.regs ||| Part.ctxs ||| Part.engs ||| Part.chans ||| Part.ssgs |||
        Part.snap) s (s.waitCut l) := by
  unfold State.waitCut
  extract_lets -merge -usedOnly x1 x2 x3
  clear_value x1
  refine Changes.have (x := x2.2) ?_ fun h4 => ?_
  · unfold x2
    exact (State.free_changes _ _).mono
  clear_value x2
  refine Changes.have (x := x3) ?_ fun h5 => ?_
  · unfold x3
    refine Changes.ite ?_ ?_
    · exact h4.then (State.endFailHold_changes _ _ _)
    · exact h4
  clear_value x3
  refine Changes.ite ?_ ?_
  · exact Changes.refl _ _
  · exact h5.then (State.holdFor_changes _ _ _)

theorem State.stopJob_changes (s : State) (c : Nat) :
    Changes (Part.fresh ||| Part.regs ||| Part.bus ||| Part.ctxs ||| Part.engs ||| Part.bays ||| Part.chans |||
        Part.ssgs ||| Part.bankMem ||| Part.dmcs ||| Part.trcs ||| Part.snap ||| Part.nis |||
        Part.fabHeld) s (s.stopJob c) := by
  unfold State.stopJob
  extract_lets -merge -usedOnly x1
  refine Changes.have (x := x1) ?_ fun h2 => ?_
  · unfold x1
    refine Changes.each ?_ ?_
    · exact Changes.refl _ _
    · intro t3 a4 h5
      exact h5.then (State.waitCut_changes _ _)
  clear_value x1
  refine Changes.each ?_ ?_
  · exact h2
  · intro t6 a7 h8
    refine Changes.ite ?_ ?_
    · exact h8
    · exact h8.then (State.stopSlot_changes _ _)

theorem State.freeSlot_changes (s : State) (n : Nat) :
    Changes (Part.regs ||| Part.engs) s (s.freeSlot n) := by
  unfold State.freeSlot
  extract_lets -merge -usedOnly x1 x2
  refine Changes.have (x := x1) ?_ fun h3 => ?_
  · unfold x1
    refine Changes.ite ?_ ?_
    · exact Changes.refl _ _
    · exact (State.wr_changes _ _ _).mono
  clear_value x1
  refine Changes.have (x := x2) ?_ fun h4 => ?_
  · unfold x2
    exact ((h3.then (State.clr_changes _ _)).then (State.clr_changes _ _)).then (State.clr_changes _ _)
  clear_value x2
  exact h4.then (State.updEng_changes _ _ _)

theorem State.dropJobs_changes (s : State) (c : Nat) :
    Changes (Part.fresh ||| Part.regs ||| Part.bus ||| Part.ctxs ||| Part.engs ||| Part.bays ||| Part.chans |||
        Part.ssgs ||| Part.bankMem ||| Part.dmcs ||| Part.trcs ||| Part.substs ||| Part.snap ||| Part.time ||| Part.nis |||
        Part.fabHeld) s (s.dropJobs c) := by
  unfold State.dropJobs
  extract_lets -merge -usedOnly x1 x2 x3 x4 x5 x6 x7
  clear_value x1
  refine Changes.have (x := x2) ?_ fun h8 => ?_
  · unfold x2
    exact (State.stopJob_changes _ _).mono
  clear_value x2
  refine Changes.have (x := x3) ?_ fun h9 => ?_
  · unfold x3
    refine Changes.each ?_ ?_
    · exact h8
    · intro t10 a11 h12
      refine Changes.then ?_ (State.sumpGive_changes _ _ _)
      refine Changes.each ?_ ?_
      · exact h12
      · intro t13 a14 h15
        exact h15.then (State.freeVec_changes _ _ _)
  clear_value x3
  refine Changes.have (x := x4) ?_ fun h16 => ?_
  · unfold x4
    refine Changes.each ?_ ?_
    · exact h9
    · intro t17 a18 h19
      exact h19.then (State.freeSlot_changes _ _)
  clear_value x4
  refine Changes.have (x := x5) ?_ fun h20 => ?_
  · unfold x5
    refine Changes.each ?_ ?_
    · exact h16
    · intro t21 a22 h23
      extract_lets -merge -usedOnly x24
      clear_value x24
      exact (h23.then (State.fpGive_changes _ _ _)).then (State.updBay_changes _ _ _)
  clear_value x5
  clear_value x6
  refine Changes.have (x := x7) ?_ fun h25 => ?_
  · unfold x7
    exact Changes.put h20 rfl (fun h => h) rfl rfl
  clear_value x7
  exact h25.then (State.updCtx_changes _ _ _)

theorem State.haltCtx_changes (s : State) (n : Nat) (reason : Nat) :
    Changes (Part.fresh ||| Part.regs ||| Part.bus ||| Part.out ||| Part.heldOut ||| Part.fns ||| Part.ctxs |||
        Part.engs ||| Part.bays ||| Part.chans ||| Part.ssgs ||| Part.bankMem ||| Part.dmcs ||| Part.trcs |||
        Part.substs ||| Part.snap ||| Part.time ||| Part.nis ||| Part.fabHeld) s (s.haltCtx n reason) := by
  unfold State.haltCtx
  extract_lets -merge -usedOnly x1 x2
  refine Changes.have (x := x1) ?_ fun h3 => ?_
  · unfold x1
    exact (State.dropJobs_changes _ _).mono
  clear_value x1
  refine Changes.have (x := x2) ?_ fun h4 => ?_
  · unfold x2
    exact (h3.then (State.setOn_changes _ _)).then (State.wr_changes _ _ _)
  clear_value x2
  exact h4.then (State.postCtx_changes _ _ _ _ _ _)

theorem State.programStop_changes (s : State) (n : Nat) (det : Nat) :
    Changes (Part.fresh ||| Part.regs ||| Part.bus ||| Part.ctxs ||| Part.engs ||| Part.bays ||| Part.chans |||
        Part.ssgs ||| Part.bankMem ||| Part.dmcs ||| Part.trcs ||| Part.snap ||| Part.nis |||
        Part.fabHeld) s (s.programStop n det) := by
  unfold State.programStop
  split
  · exact (State.stopSlot_changes _ _).mono
  · exact ((State.failFront_changes _ _ _ _).mono).then (State.stopJob_changes _ _)

theorem State.errAt_changes (s : State) (n : Nat) (f : Nat → Fld) :
    Changes Part.regs s (s.errAt n f) := by
  unfold State.errAt
  refine Changes.each ?_ ?_
  · exact Changes.refl _ _
  · intro t1 a2 h3
    exact (h3.then (State.setOn_changes _ _)).then (State.wr_changes _ _ _)

theorem State.fenceSlot_changes (s : State) (n : Nat) (cause : Nat) :
    Changes (Part.fresh ||| Part.regs ||| Part.bus ||| Part.out ||| Part.heldOut ||| Part.fns ||| Part.ctxs |||
        Part.engs ||| Part.bays ||| Part.chans ||| Part.ssgs ||| Part.bankMem ||| Part.dmcs ||| Part.trcs |||
        Part.substs ||| Part.snap ||| Part.nis ||| Part.fabHeld) s (s.fenceSlot n cause) := by
  unfold State.fenceSlot
  extract_lets -merge -usedOnly x1 x2 x3 x4 x5 x6 x7 x8 x9 x10
  clear_value x1
  clear_value x2
  clear_value x3
  clear_value x4
  refine Changes.have (x := x5) ?_ fun h11 => ?_
  · unfold x5
    exact (State.markFenced_changes _ _ _).mono
  clear_value x5
  refine Changes.have (x := x6) ?_ fun h12 => ?_
  · unfold x6
    exact h11.then (State.postRes_changes _ _ _ _)
  clear_value x6
  refine Changes.have (x := x7) ?_ fun h13 => ?_
  · unfold x7
    split
    · extract_lets -merge -usedOnly x14
      refine Changes.have (x := x14) ?_ fun h15 => ?_
      · unfold x14
        exact h12.then (State.updFront_changes _ _ _)
      clear_value x14
      exact h15.then (State.stopJob_changes _ _)
    · exact (h12.then (State.dropSem_changes _ _)).then (State.pauseFed_changes _ _)
  clear_value x7
  refine Changes.have (x := x8) ?_ fun h16 => ?_
  · unfold x8
    exact (h13.then (State.wr_changes _ _ _)).then (State.setOn_changes _ _)
  clear_value x8
  refine Changes.have (x := x9) ?_ fun h17 => ?_
  · unfold x9
    exact Changes.set_substs h16
  clear_value x9
  refine Changes.have (x := x10) ?_ fun h18 => ?_
  · unfold x10
    refine Changes.ite ?_ ?_
    · exact Changes.set_substs h17
    · exact h17
  clear_value x10
  refine Changes.ite ?_ ?_
  · exact (State.markFenced_changes _ _ _).mono
  · exact h18.then (State.updDegraded_changes _)

theorem State.fenceGroup_changes (s : State) (g : Nat) (cause : Nat) :
    Changes (Part.fresh ||| Part.regs ||| Part.bus ||| Part.out ||| Part.heldOut ||| Part.fns ||| Part.ctxs |||
        Part.engs ||| Part.bays ||| Part.chans ||| Part.ssgs ||| Part.bankMem ||| Part.dmcs ||| Part.trcs ||| Part.snap |||
        Part.nis ||| Part.fabHeld) s (s.fenceGroup g cause) := by
  unfold State.fenceGroup
  extract_lets -merge -usedOnly x1 x2 x3 x4 x5 x6
  clear_value x1
  clear_value x2
  refine Changes.have (x := x3) ?_ fun h7 => ?_
  · unfold x3
    exact (State.markFenced_changes _ _ _).mono
  clear_value x3
  refine Changes.have (x := x4) ?_ fun h8 => ?_
  · unfold x4
    refine Changes.each ?_ ?_
    · exact h7
    · intro t9 a10 h11
      exact (h11.then (State.setOn_changes _ _)).then (State.updChan_changes _ _ _)
  clear_value x4
  refine Changes.have (x := x5) ?_ fun h12 => ?_
  · unfold x5
    exact h8.then (State.postRes_changes _ _ _ _)
  clear_value x5
  refine Changes.have (x := x6) ?_ fun h13 => ?_
  · unfold x6
    refine Changes.each ?_ ?_
    · exact h12
    · intro t14 a15 h16
      exact (h16.then (State.failFront_changes _ _ _ _)).then (State.stopJob_changes _ _)
  clear_value x6
  refine Changes.ite ?_ ?_
  · exact (State.markFenced_changes _ _ _).mono
  · exact h13.then (State.updDegraded_changes _)

/-! ## Machine/Engine -/

theorem State.wrGang_changes (s : State) (n : Nat) (f : Nat → Fld) (v : Nat) :
    Changes Part.regs s (s.wrGang n f v) := by
  unfold State.wrGang
  refine Changes.each ?_ ?_
  · exact Changes.refl _ _
  · intro t1 a2 h3
    exact h3.then (State.wr_changes _ _ _)

theorem State.setPc_changes (s : State) (n : Nat) (a : Nat) :
    Changes Part.regs s (s.setPc n a) := by
  unfold State.setPc
  exact (State.wrGang_changes _ _ _ _).mono

theorem State.setStall_changes (s : State) (n : Nat) (v : Nat) :
    Changes Part.regs s (s.setStall n v) := by
  unfold State.setStall
  exact (State.wrGang_changes _ _ _ _).mono

theorem State.setPortQ_changes (s : State) (h : Nat) (p : Nat) (q : List Nat) :
    Changes (Part.regs ||| Part.ports) s (s.setPortQ h p q) := by
  unfold State.setPortQ
  exact (Changes.set_ports (Changes.refl _ _)).then (State.wr_changes _ _ _)

theorem State.flagPorts_changes (s : State) (h : Nat) :
    Changes Part.regs s (s.flagPorts h) := by
  unfold State.flagPorts
  refine Changes.each ?_ ?_
  · exact Changes.refl _ _
  · intro t1 a2 h3
    extract_lets -merge -usedOnly x4
    clear_value x4
    exact h3.then (State.wr_changes _ _ _)

theorem State.takePorts_changes (s : State) (m : Nat) :
    Changes (Part.regs ||| Part.ports) s ((s.takePorts m).snd) := by
  unfold State.takePorts
  refine Changes.foldl Prod.snd ?_ ?_
  · refine Changes.mk_snd ?_
    exact Changes.refl _ _
  · intro b1 a2 h3
    try dsimp -zeta -iota -proj -eta only
    try dsimp -zeta -iota -proj -eta only at h3
    extract_lets -merge -usedOnly x4
    clear_value x4
    refine Changes.ite_snd ?_ ?_
    · refine Changes.mk_snd ?_
      exact h3
    · split
      · refine Changes.mk_snd ?_
        exact h3.then (State.count_changes _ _ _)
      · refine Changes.mk_snd ?_
        exact h3.then (State.setPortQ_changes _ _ _ _)

theorem State.stepGens_changes (s : State) (m : Nat) (x : Entry) :
    Changes Part.engs s (s.stepGens m x) := by
  unfold State.stepGens
  exact (State.updEng_changes _ _ _).mono

theorem State.keepVec_changes (s : State) (m : Nat) (v : Vec) :
    Changes (Part.regs ||| Part.ctxs ||| Part.engs) s (s.keepVec m v) := by
  unfold State.keepVec
  extract_lets -merge -usedOnly x1 x2 x3 x4
  clear_value x1
  refine Changes.have (x := x2) ?_ fun h5 => ?_
  · unfold x2
    refine Changes.ite ?_ ?_
    · split
      · exact (State.updFront_changes _ _ _).mono
      · exact Changes.refl _ _
    · exact Changes.refl _ _
  clear_value x2
  refine Changes.have (x := x3) ?_ fun h6 => ?_
  · unfold x3
    refine Changes.ite ?_ ?_
    · exact (h5.then (State.setOn_changes _ _)).then (State.wr_changes _ _ _)
    · exact h5
  clear_value x3
  refine Changes.have (x := x4) ?_ fun h7 => ?_
  · unfold x4
    refine Changes.each ?_ ?_
    · exact h6.then (State.sumpTake_changes _ _ _)
    · intro t8 a9 h10
      exact h10.then (State.fpTake_changes _ _ _)
  clear_value x4
  exact h7.then (State.updEng_changes _ _ _)

theorem State.issueOne_changes (s : State) (m : Nat) (x : Entry) (w : Nat) (tag : Option Nat) (gp : List (Nat × Nat)) (lead : Bool) :
    Changes (Part.regs ||| Part.bus ||| Part.ctxs ||| Part.engs ||| Part.dmcs ||| Part.trcs ||| Part.snap |||
        Part.nis) s (s.issueOne m x w tag gp lead) := by
  unfold State.issueOne
  extract_lets -merge -usedOnly x1 x2 x3 x4
  clear_value x1
  clear_value x2
  refine Changes.have (x := x3) ?_ fun h5 => ?_
  · unfold x3
    refine Changes.then ?_ (State.stepGens_changes _ _ _)
    refine Changes.ite ?_ ?_
    · exact Changes.refl _ _
    · exact (State.keepVec_changes _ _ _).mono
  clear_value x3
  refine Changes.have (x := x4) ?_ fun h6 => ?_
  · unfold x4
    exact h5.then (State.updEng_changes _ _ _)
  clear_value x4
  refine Changes.ite ?_ ?_
  · exact h6
  · exact h6.then (State.onVector_changes _ _ _)

theorem State.startMark_changes (s : State) (m : Nat) :
    Changes (Part.regs ||| Part.bays) s (s.startMark m) := by
  unfold State.startMark
  split
  · refine Changes.each ?_ ?_
    · exact Changes.refl _ _
    · intro t1 a2 h3
      exact h3.then (State.jobMark_changes _ _ _ _ _ _)
  · exact Changes.refl _ _

theorem State.takeGang_changes (s : State) (n : Nat) :
    Changes (Part.regs ||| Part.ports) s ((s.takeGang n).snd) := by
  unfold State.takeGang
  refine Changes.ite_snd ?_ ?_
  · refine Changes.mk_snd ?_
    exact Changes.refl _ _
  · refine Changes.foldl Prod.snd ?_ ?_
    · refine Changes.mk_snd ?_
      exact Changes.refl _ _
    · intro b1 a2 h3
      try dsimp -zeta -iota -proj -eta only
      try dsimp -zeta -iota -proj -eta only at h3
      extract_lets -merge -usedOnly x4
      refine Changes.have (x := x4.2) ?_ fun h5 => ?_
      · unfold x4
        exact h3.then (State.takePorts_changes _ _)
      clear_value x4
      refine Changes.mk_snd ?_
      exact h5

theorem State.issue_changes (s : State) (n : Nat) (x : Entry) (w : Nat) :
    Changes (Part.regs ||| Part.bus ||| Part.ctxs ||| Part.engs ||| Part.bays ||| Part.chans ||| Part.ssgs |||
        Part.ports ||| Part.dmcs ||| Part.trcs ||| Part.snap ||| Part.nis) s (s.issue n x w) := by
  unfold State.issue
  extract_lets -merge -usedOnly x1 x2 x3 x4 x5 x6 x7
  clear_value x1
  clear_value x2
  refine Changes.have (x := x3.2) ?_ fun h8 => ?_
  · unfold x3
    exact (State.takeGang_changes _ _).mono
  clear_value x3
  refine Changes.have (x := x4) ?_ fun h9 => ?_
  · unfold x4
    refine Changes.ite ?_ ?_
    · refine Changes.each ?_ ?_
      · exact h8
      · intro t10 a11 h12
        exact h12.then (State.startMark_changes _ _)
    · exact h8
  clear_value x4
  clear_value x5
  refine Changes.have (x := x6) ?_ fun h13 => ?_
  · unfold x6
    refine Changes.each ?_ ?_
    · exact h9
    · intro t14 a15 h16
      exact h16.then (State.issueOne_changes _ _ _ _ _ _ _)
  clear_value x6
  refine Changes.have (x := x7) ?_ fun h17 => ?_
  · unfold x7
    exact h13.then (State.updEng_changes _ _ _)
  clear_value x7
  exact h17.then (State.addCyc_changes _ _ _)

theorem State.saveGang_changes (s : State) (n : Nat) (k : Nat) :
    Changes Part.bankMem s (s.saveGang n k) := by
  unfold State.saveGang
  refine Changes.foldl (fun x => x) ?_ ?_
  · exact Changes.refl _ _
  · intro b1 a2 h3
    try dsimp -zeta -iota -proj -eta only
    try dsimp -zeta -iota -proj -eta only at h3
    exact h3.then (State.bankWrite_changes _ _ _ _ _)

theorem State.loadGang_changes (s : State) (n : Nat) (k : Nat) :
    Changes (Part.regs ||| Part.engs) s (s.loadGang n k) := by
  unfold State.loadGang
  extract_lets -merge -usedOnly x1 x2 x3 x4
  clear_value x1
  clear_value x2
  refine Changes.have (x := x3) ?_ fun h5 => ?_
  · unfold x3
    refine Changes.each ?_ ?_
    · exact Changes.refl _ _
    · intro t6 a7 h8
      extract_lets -merge -usedOnly x9
      clear_value x9
      exact (h8.then (State.updEng_changes _ _ _)).then (State.wr_changes _ _ _)
  clear_value x3
  refine Changes.have (x := x4) ?_ fun h10 => ?_
  · unfold x4
    exact h5.then (State.wr_changes _ _ _)
  clear_value x4
  exact h10.then (State.updEng_changes _ _ _)

theorem State.showLast_changes (s : State) (n : Nat) :
    Changes (Part.regs ||| Part.engs) s (s.showLast n) := by
  unfold State.showLast
  extract_lets -merge -usedOnly x1
  clear_value x1
  refine Changes.ite ?_ ?_
  · exact Changes.refl _ _
  · exact ((State.updEng_changes _ _ _).mono).then (State.setPc_changes _ _ _)

theorem State.showNext_changes (s : State) (n : Nat) :
    Changes (Part.regs ||| Part.engs) s (s.showNext n) := by
  unfold State.showNext
  split
  · exact ((State.updEng_changes _ _ _).mono).then (State.setPc_changes _ _ _)
  · exact Changes.refl _ _

theorem State.leaveMon_changes (s : State) (n : Nat) :
    Changes (Part.regs ||| Part.engs) s (s.leaveMon n) := by
  unfold State.leaveMon
  extract_lets -merge -usedOnly x1 x2 x3 x4 x5 x6
  clear_value x1
  clear_value x2
  refine Changes.have (x := x3) ?_ fun h7 => ?_
  · unfold x3
    exact (State.setPc_changes _ _ _).mono
  clear_value x3
  refine Changes.have (x := x4) ?_ fun h8 => ?_
  · unfold x4
    refine Changes.each ?_ ?_
    · exact h7
    · intro t9 a10 h11
      exact ((h11.then (State.clr_changes _ _)).then (State.wr_changes _ _ _)).then (State.updEng_changes _ _ _)
  clear_value x4
  clear_value x5
  refine Changes.have (x := x6) ?_ fun h12 => ?_
  · unfold x6
    exact h8.then (State.updEng_changes _ _ _)
  clear_value x6
  refine Changes.ite ?_ ?_
  · exact h12.then (State.showLast_changes _ _)
  · exact h12

theorem State.monExit_changes (s : State) (n : Nat) (step : Nat) :
    Changes (Part.regs ||| Part.engs) s (s.monExit n step) := by
  unfold State.monExit
  exact (((State.loadGang_changes _ _ _).mono).then (State.updEng_changes _ _ _)).then (State.leaveMon_changes _ _)

theorem State.monLeave_changes (s : State) (n : Nat) (step : Nat) :
    Changes (Part.regs ||| Part.engs) s (s.monLeave n step) := by
  unfold State.monLeave
  refine Changes.ite ?_ ?_
  · split
    · extract_lets -merge -usedOnly x1
      clear_value x1
      refine Changes.ite ?_ ?_
      · refine Changes.each ?_ ?_
        · exact Changes.refl _ _
        · intro t2 a3 h4
          exact h4.then (State.monExit_changes _ _ _)
      · exact (State.updEng_changes _ _ _).mono
    · exact Changes.refl _ _
  · exact (State.monExit_changes _ _ _).mono

theorem State.monGo_changes (s : State) (l : Nat) (step : Nat) :
    Changes (Part.regs ||| Part.engs) s (s.monGo l step) := by
  unfold State.monGo
  refine Changes.then ?_ (State.monLeave_changes _ _ _)
  refine Changes.ite ?_ ?_
  · exact Changes.refl _ _
  · exact (State.wrGang_changes _ _ _ _).mono

theorem State.toMon_changes (s : State) (n : Nat) :
    Changes Part.regs s (s.toMon n) := by
  unfold State.toMon
  exact (((State.wrGang_changes _ _ _ _).mono).then (State.wrGang_changes _ _ _ _)).then (State.setPc_changes _ _ _)

theorem State.finishIret_changes (s : State) (n : Nat) :
    Changes (Part.regs ||| Part.engs ||| Part.bankMem) s (s.finishIret n) := by
  unfold State.finishIret
  extract_lets -merge -usedOnly x1 x2 x3 x4 x5
  clear_value x1
  refine Changes.have (x := x2) ?_ fun h6 => ?_
  · unfold x2
    exact (State.setPc_changes _ _ _).mono
  clear_value x2
  refine Changes.have (x := x3) ?_ fun h7 => ?_
  · unfold x3
    refine Changes.each ?_ ?_
    · exact h6
    · intro t8 a9 h10
      exact (h10.then (State.wr_changes _ _ _)).then (State.updEng_changes _ _ _)
  clear_value x3
  refine Changes.have (x := x4) ?_ fun h11 => ?_
  · unfold x4
    exact h7.then (State.wrGang_changes _ _ _ _)
  clear_value x4
  refine Changes.have (x := x5) ?_ fun h12 => ?_
  · unfold x5
    exact h11.then (State.updEng_changes _ _ _)
  clear_value x5
  refine Changes.ite ?_ ?_
  · exact (State.leaveMon_changes _ _).mono
  · refine Changes.ite ?_ ?_
    · exact ((h12.then (State.saveGang_changes _ _ _)).then (State.updEng_changes _ _ _)).then (State.toMon_changes _ _)
    · exact h12

theorem State.takeChk_changes (s : State) (n : Nat) :
    Changes Part.engs s (s.takeChk n) := by
  unfold State.takeChk
  extract_lets -merge -usedOnly x1 x2 x3
  clear_value x1
  clear_value x2
  clear_value x3
  exact (State.updEng_changes _ _ _).mono

theorem State.moveOn_changes (s : State) (n : Nat) :
    Changes (Part.regs ||| Part.engs ||| Part.bankMem) s (s.moveOn n) := by
  unfold State.moveOn
  extract_lets -merge -usedOnly x1 x2 x3 x4
  clear_value x1
  clear_value x2
  refine Changes.have (x := x3) ?_ fun h5 => ?_
  · unfold x3
    exact (State.updEng_changes _ _ _).mono
  clear_value x3
  refine Changes.have (x := x4) ?_ fun h6 => ?_
  · unfold x4
    exact (State.updEng_changes _ _ _).mono
  clear_value x4
  refine Changes.ite ?_ ?_
  · refine Changes.ite ?_ ?_
    · exact (State.finishIret_changes _ _).mono
    · exact ((State.updEng_changes _ _ _).mono).then (State.setPc_changes _ _ _)
  · refine Changes.ite ?_ ?_
    · refine Changes.ite ?_ ?_
      · exact h5.then (State.setPc_changes _ _ _)
      · exact h5
    · refine Changes.ite ?_ ?_
      · refine Changes.ite ?_ ?_
        · exact (h6.then (State.takeChk_changes _ _)).then (State.setPc_changes _ _ _)
        · exact h6.then (State.setPc_changes _ _ _)
      · exact (State.setPc_changes _ _ _).mono

theorem State.transfer_changes (s : State) (n : Nat) (target : Nat) :
    Changes (Part.regs ||| Part.engs) s (s.transfer n target) := by
  unfold State.transfer
  exact ((State.updEng_changes _ _ _).mono).then (State.setPc_changes _ _ _)

theorem State.retire_changes (s : State) (n : Nat) (w : Nat) :
    Changes (Part.regs ||| Part.engs) s (s.retire n w) := by
  unfold State.retire
  extract_lets -merge -usedOnly x1 x2 x3 x4 x5
  clear_value x1
  clear_value x2
  clear_value x3
  clear_value x4
  refine Changes.have (x := x5) ?_ fun h6 => ?_
  · unfold x5
    refine Changes.each ?_ ?_
    · exact Changes.refl _ _
    · intro t7 a8 h9
      extract_lets -merge -usedOnly x10 x11 x12 x13
      clear_value x10
      refine Changes.have (x := x11) ?_ fun h14 => ?_
      · unfold x11
        exact h9.then (State.updEng_changes _ _ _)
      clear_value x11
      clear_value x12
      refine Changes.have (x := x13) ?_ fun h15 => ?_
      · unfold x13
        exact h9.then (State.updEng_changes _ _ _)
      clear_value x13
      refine Changes.ite ?_ ?_
      · refine Changes.ite ?_ ?_
        · exact h14.then (State.wr_changes _ _ _)
        · exact h14
      · refine Changes.ite ?_ ?_
        · exact h15.then (State.wr_changes _ _ _)
        · exact h15
  clear_value x5
  refine Changes.ite ?_ ?_
  · exact (h6.then (State.wr_changes _ _ _)).then (State.updEng_changes _ _ _)
  · exact h6

theorem State.prune_changes (s : State) (n : Nat) :
    Changes Part.engs s (s.prune n) := by
  unfold State.prune
  extract_lets -merge -usedOnly x1 x2
  clear_value x1
  clear_value x2
  refine Changes.each ?_ ?_
  · exact Changes.refl _ _
  · intro t3 a4 h5
    exact h5.then (State.updEng_changes _ _ _)

theorem State.closeWin_changes (s : State) (n : Nat) :
    Changes Part.engs s (s.closeWin n) := by
  unfold State.closeWin
  exact (State.updEng_changes _ _ _).mono

theorem State.raiseCause_changes (s : State) (n : Nat) (c : Nat) :
    Changes (Part.regs ||| Part.engs) s (s.raiseCause n c) := by
  unfold State.raiseCause
  extract_lets -merge -usedOnly x1
  refine Changes.have (x := x1) ?_ fun h2 => ?_
  · unfold x1
    refine Changes.ite ?_ ?_
    · exact (State.updEng_changes _ _ _).mono
    · exact Changes.refl _ _
  clear_value x1
  refine Changes.ite ?_ ?_
  · exact h2.then (State.wr_changes _ _ _)
  · exact Changes.refl _ _

theorem State.raiseGang_changes (s : State) (n : Nat) (c : Nat) :
    Changes (Part.regs ||| Part.engs) s (s.raiseGang n c) := by
  unfold State.raiseGang
  refine Changes.each ?_ ?_
  · exact Changes.refl _ _
  · intro t1 a2 h3
    exact h3.then (State.raiseCause_changes _ _ _)

theorem State.countData_changes (s : State) (n : Nat) (x : Entry) :
    Changes Part.regs s (s.countData n x) := by
  unfold State.countData
  refine Changes.each ?_ ?_
  · exact Changes.refl _ _
  · intro t1 a2 h3
    extract_lets -merge -usedOnly x4 x5
    clear_value x4
    refine Changes.have (x := x5) ?_ fun h6 => ?_
    · unfold x5
      refine Changes.ite ?_ ?_
      · exact h3
      · refine Changes.each ?_ ?_
        · exact h3
        · intro t7 a8 h9
          exact h9.then (State.count_changes _ _ _)
    clear_value x5
    split
    · exact h6.then (State.count_changes _ _ _)
    · exact h6.then (State.count_changes _ _ _)
    · exact h6

theorem State.startHold_changes (s : State) (n : Nat) (h : Hold) :
    Changes (Part.regs ||| Part.engs) s (s.startHold n h) := by
  unfold State.startHold
  extract_lets -merge -usedOnly x1 x2
  clear_value x1
  split
  · exact Changes.refl _ _
  · refine Changes.ite ?_ ?_
    · exact Changes.refl _ _
    · unfold x2
      refine Changes.then ?_ (State.setStall_changes _ _ _)
      refine Changes.then ?_ (State.updEng_changes _ _ _)
      refine Changes.each ?_ ?_
      · exact Changes.refl _ _
      · intro t3 a4 h5
        exact h5.then (State.count_changes _ _ _)
  · unfold x2
    exact ((State.updEng_changes _ _ _).mono).then (State.setStall_changes _ _ _)
  · refine Changes.ite ?_ ?_
    · exact Changes.refl _ _
    · unfold x2
      exact (((State.count_changes _ _ _).mono).then (State.updEng_changes _ _ _)).then (State.setStall_changes _ _ _)
  · refine Changes.ite ?_ ?_
    · exact Changes.refl _ _
    · unfold x2
      exact (((State.countData_changes _ _ _).mono).then (State.updEng_changes _ _ _)).then (State.setStall_changes _ _ _)
  · refine Changes.ite ?_ ?_
    · exact Changes.refl _ _
    · refine Changes.each ?_ ?_
      · unfold x2
        exact ((State.updEng_changes _ _ _).mono).then (State.setStall_changes _ _ _)
      · intro t6 a7 h8
        exact h8.then (State.setOn_changes _ _)

theorem State.endHold_changes (s : State) (n : Nat) (w : Nat) :
    Changes (Part.regs ||| Part.ctxs ||| Part.engs ||| Part.chans ||| Part.ssgs ||| Part.snap) s (s.endHold n w) := by
  unfold State.endHold
  extract_lets -merge -usedOnly x1 x2 x3
  clear_value x1
  refine Changes.have (x := x2) ?_ fun h4 => ?_
  · unfold x2
    refine Changes.ite ?_ ?_
    · exact (State.endFailHold_changes _ _ _).mono
    · exact Changes.refl _ _
  clear_value x2
  refine Changes.have (x := x3) ?_ fun h5 => ?_
  · unfold x3
    refine Changes.ite ?_ ?_
    · exact h4.then (State.holdFor_changes _ _ _)
    · exact h4
  clear_value x3
  exact (h5.then (State.updEng_changes _ _ _)).then (State.setStall_changes _ _ _)

/-- An entry enters D, or is held. -/
theorem Changes.enter {m : Nat} {r s : State} {n w : Nat} {o : Op} {body : State → Entry → State} (h : Changes m r s)
    (hf : ∀ t x, Changes m r t → Changes m r (body t x))
    (e : (Part.regs ||| Part.ctxs ||| Part.engs ||| Part.chans ||| Part.ssgs ||| Part.snap) ||| m = m := by exact rfl)
    (e2 : (Part.regs ||| Part.engs) ||| m = m := by exact rfl) : Changes m r (s.enter n w o body) := by
  unfold State.enter
  refine Changes.ite h ?_
  split
  · extract_lets x
    exact Changes.ite (hf _ _ (h.then (State.endHold_changes _ _ _) e)) h
  · exact h.then (State.startHold_changes _ _ _) e2

theorem State.waitFor_changes (s : State) (n : Nat) (w : Wait) (stall : Nat) :
    Changes (Part.regs ||| Part.engs) s (s.waitFor n w stall) := by
  unfold State.waitFor
  exact ((State.updEng_changes _ _ _).mono).then (State.setStall_changes _ _ _)

theorem State.stepCount_changes (s : State) (n : Nat) :
    Changes (Part.regs ||| Part.engs) s (s.stepCount n) := by
  unfold State.stepCount
  extract_lets -merge -usedOnly x1 x2
  clear_value x1
  refine Changes.have (x := x2) ?_ fun h3 => ?_
  · unfold x2
    exact ((State.updEng_changes _ _ _).mono).then (State.count_changes _ _ _)
  clear_value x2
  refine Changes.ite ?_ ?_
  · exact Changes.refl _ _
  · refine Changes.ite ?_ ?_
    · exact Changes.refl _ _
    · refine Changes.ite ?_ ?_
      · exact h3.then (State.debugRequest_changes _ _ _)
      · exact h3

theorem State.plain_changes (s : State) (n : Nat) (x : Entry) :
    Changes (Part.regs ||| Part.bus ||| Part.ctxs ||| Part.engs ||| Part.bays ||| Part.chans ||| Part.ssgs |||
        Part.ports ||| Part.bankMem ||| Part.dmcs ||| Part.trcs ||| Part.snap ||| Part.nis) s (s.plain n x) := by
  unfold State.plain
  exact (((State.issue_changes _ _ _ _).mono).then (State.moveOn_changes _ _)).then (State.stepCount_changes _ _)

theorem State.leaveResolved_changes (s : State) (n : Nat) (x : Entry) :
    Changes (Part.regs ||| Part.bus ||| Part.ctxs ||| Part.engs ||| Part.bays ||| Part.chans ||| Part.ssgs |||
        Part.ports ||| Part.dmcs ||| Part.trcs ||| Part.snap ||| Part.nis) s (s.leaveResolved n x) := by
  unfold State.leaveResolved
  exact (State.issue_changes _ _ _ _).mono

theorem State.syncBrs_changes (s : State) (n : Nat) :
    Changes Part.regs s (s.syncBrs n) := by
  unfold State.syncBrs
  extract_lets -merge -usedOnly x1
  clear_value x1
  refine Changes.each ?_ ?_
  · exact Changes.refl _ _
  · intro t2 a3 h4
    exact (h4.then (State.wr_changes _ _ _)).then (State.wr_changes _ _ _)

theorem State.pushBranch_changes (s : State) (n : Nat) (b : Branch) :
    Changes (Part.regs ||| Part.engs) s (s.pushBranch n b) := by
  unfold State.pushBranch
  exact ((State.updEng_changes _ _ _).mono).then (State.syncBrs_changes _ _)

theorem State.confirmTag_changes (s : State) (n : Nat) (t : Nat) :
    Changes (Part.regs ||| Part.bus ||| Part.engs ||| Part.dmcs ||| Part.trcs ||| Part.snap |||
        Part.nis) s (s.confirmTag n t) := by
  unfold State.confirmTag
  refine Changes.each ?_ ?_
  · exact Changes.refl _ _
  · intro t1 a2 h3
    extract_lets -merge -usedOnly x4 x5
    clear_value x4
    refine Changes.have (x := x5) ?_ fun h6 => ?_
    · unfold x5
      refine Changes.each ?_ ?_
      · exact h3
      · intro t7 a8 h9
        exact h9.then (State.onVector_changes _ _ _)
    clear_value x5
    exact h6.then (State.updEng_changes _ _ _)

/-! ## Machine/BankOps -/

theorem State.setBankCur_changes (s : State) (h : Nat) (b : Nat) (v : Nat) :
    Changes Part.regs s (s.setBankCur h b v) := by
  unfold State.setBankCur
  extract_lets -merge -usedOnly x1 x2
  clear_value x1
  clear_value x2
  exact (State.wr_changes _ _ _).mono

theorem State.updBank_changes (s : State) (h : Nat) (f : BankHalf → BankHalf) :
    Changes Part.banks s (s.updBank h f) := by
  unfold State.updBank
  exact Changes.set_banks (Changes.refl _ _)

theorem State.bankMove_changes (s : State) (h : Nat) (b : Nat) (t : Nat) :
    Changes (Part.regs ||| Part.banks) s (s.bankMove h b t) := by
  unfold State.bankMove
  exact ((State.setBankCur_changes _ _ _ _).mono).then (State.updBank_changes _ _ _)

theorem State.setBankUe_changes (s : State) (h : Nat) (w : Nat) (v : Bool) :
    Changes Part.bankUe s (s.setBankUe h w v) := by
  unfold State.setBankUe
  exact Changes.set_bankUe (Changes.refl _ _)

theorem State.setHolders_changes (s : State) (h : Nat) (line : Nat) (l : List (Nat × Bool)) :
    Changes Part.dirc s (s.setHolders h line l) := by
  unfold State.setHolders
  exact Changes.set_dirc (Changes.refl _ _)

theorem State.dropCopy_changes (s : State) (h : Nat) (line : Nat) (id : Nat) :
    Changes Part.dirc s (s.dropCopy h line id) := by
  unfold State.dropCopy
  exact (State.setHolders_changes _ _ _ _).mono

theorem State.dropTables_changes (s : State) (h : Nat) (a : Nat) :
    Changes Part.engs s (s.dropTables h a) := by
  unfold State.dropTables
  refine Changes.each ?_ ?_
  · exact Changes.refl _ _
  · intro t1 a2 h3
    exact h3.then (State.updEng_changes _ _ _)

theorem State.bankReply_changes (s : State) (h : Nat) (a : BankAcc) (reason : Nat) (data : Nat) :
    Changes (Part.regs ||| Part.bus ||| Part.nis) s (s.bankReply h a reason data) := by
  unfold State.bankReply
  extract_lets -merge -usedOnly x1
  refine Changes.have (x := x1) ?_ fun h2 => ?_
  · unfold x1
    refine Changes.ite ?_ ?_
    · exact Changes.refl _ _
    · exact (State.setOn_changes _ _).mono
  clear_value x1
  refine Changes.ite ?_ ?_
  · refine Changes.ite ?_ ?_
    · exact (State.nack_changes _ _ _ _).mono
    · refine Changes.ite ?_ ?_
      · exact (State.answer_changes _ _ _ _ _ _ _).mono
      · exact (State.answer_changes _ _ _ _ _ _ _).mono
  · refine Changes.ite ?_ ?_
    · refine Changes.ite ?_ ?_
      · exact h2
      · exact Changes.set_bus h2 (fun h => Table.wf_set _ _ _ _ h)
    · exact Changes.refl _ _

theorem State.bankAnswer_changes (s : State) (h : Nat) (a : BankAcc) (reason : Nat) (data : Nat) :
    Changes (Part.regs ||| Part.bus ||| Part.nis ||| Part.bankJoins) s (s.bankAnswer h a reason data) := by
  unfold State.bankAnswer
  split
  · exact (State.bankReply_changes _ _ _ _ _).mono
  · extract_lets -merge -usedOnly x1
    refine Changes.ite ?_ ?_
    · exact (Changes.set_bankJoins (Changes.refl _ _)).then (State.bankReply_changes _ _ _ _ _)
    · exact Changes.set_bankJoins (Changes.refl _ _)

theorem State.noteUe_changes (s : State) (h : Nat) (w : Nat) :
    Changes Part.regs s (s.noteUe h w) := by
  unfold State.noteUe
  exact (((State.setOn_changes _ _).mono).then (State.count_changes _ _ _)).then (State.wr_changes _ _ _)

theorem State.noteCe_changes (s : State) (h : Nat) (w : Nat) :
    Changes (Part.regs ||| Part.banks) s (s.noteCe h w) := by
  unfold State.noteCe
  exact ((((State.setOn_changes _ _).mono).then (State.count_changes _ _ _)).then (State.wr_changes _ _ _)).then (State.updBank_changes _ _ _)

theorem State.bankDoRead_changes (s : State) (h : Nat) (a : BankAcc) :
    Changes (Part.regs ||| Part.bus ||| Part.engs ||| Part.banks ||| Part.nis ||| Part.dirc |||
        Part.bankJoins) s (s.bankDoRead h a) := by
  unfold State.bankDoRead
  extract_lets -merge -usedOnly x1 x2
  clear_value x1
  clear_value x2
  split
  · exact ((State.noteUe_changes _ _ _).mono).then (State.bankAnswer_changes _ _ _ _ _)
  · split
    · exact ((State.noteUe_changes _ _ _).mono).then (State.bankAnswer_changes _ _ _ _ _)
    · extract_lets -merge -usedOnly x3 x4
      refine Changes.have (x := x3) ?_ fun h5 => ?_
      · unfold x3
        refine Changes.ite ?_ ?_
        · exact (State.noteCe_changes _ _ _).mono
        · exact Changes.refl _ _
      clear_value x3
      refine Changes.have (x := x4) ?_ fun h6 => ?_
      · unfold x4
        split
        · refine Changes.ite ?_ ?_
          · exact h5
          · refine Changes.ite ?_ ?_
            · exact h5.then (State.setHolders_changes _ _ _ _)
            · refine Changes.ite ?_ ?_
              · exact (h5.then (State.setHolders_changes _ _ _ _)).then (State.dropTables_changes _ _ _)
              · exact h5
        · exact h5
      clear_value x4
      exact h6.then (State.bankAnswer_changes _ _ _ _ _)

theorem State.bankWord_changes (s : State) (h : Nat) (w : Nat) (a : BankAcc) :
    Changes (Part.regs ||| Part.banks ||| Part.bankUe) s (s.bankWord h w a) := by
  unfold State.bankWord
  extract_lets -merge -usedOnly x1 x2 x3 x4 x5
  clear_value x1
  clear_value x2
  refine Changes.have (x := x3) ?_ fun h6 => ?_
  · unfold x3
    refine Changes.ite ?_ ?_
    · exact (State.noteUe_changes _ _ _).mono
    · exact Changes.refl _ _
  clear_value x3
  refine Changes.have (x := x4) ?_ fun h7 => ?_
  · unfold x4
    refine Changes.ite ?_ ?_
    · exact h6.then (State.noteCe_changes _ _ _)
    · exact h6
  clear_value x4
  refine Changes.have (x := x5) ?_ fun h8 => ?_
  · unfold x5
    exact h7.then (State.setBankUe_changes _ _ _ _)
  clear_value x5
  exact h8.then (State.updBank_changes _ _ _)

theorem State.bankDoWrite_changes (s : State) (h : Nat) (a : BankAcc) (v : Nat) :
    Changes (Part.regs ||| Part.bus ||| Part.engs ||| Part.bankMem ||| Part.banks ||| Part.nis ||| Part.dirc |||
        Part.bankJoins ||| Part.bankUe) s (s.bankDoWrite h a v) := by
  unfold State.bankDoWrite
  extract_lets -merge -usedOnly x1 x2 x3 x4
  refine Changes.have (x := x1) ?_ fun h5 => ?_
  · unfold x1
    refine Changes.each ?_ ?_
    · exact Changes.refl _ _
    · intro t6 a7 h8
      exact h8.then (State.bankWord_changes _ _ _ _)
  clear_value x1
  refine Changes.have (x := x2) ?_ fun h9 => ?_
  · unfold x2
    exact h5.then (State.bankWrite_changes _ _ _ _ _)
  clear_value x2
  refine Changes.have (x := x3) ?_ fun h10 => ?_
  · unfold x3
    refine Changes.each ?_ ?_
    · exact h9
    · intro t11 a12 h13
      exact h13.then (State.dropTables_changes _ _ _)
  clear_value x3
  refine Changes.have (x := x4) ?_ fun h14 => ?_
  · unfold x4
    split
    · refine Changes.ite ?_ ?_
      · exact h10.then (State.dropCopy_changes _ _ _ _)
      · exact h10
    · exact h10
  clear_value x4
  exact h14.then (State.bankAnswer_changes _ _ _ _ _)

theorem State.bankPerform_changes (s : State) (h : Nat) (a : BankAcc) :
    Changes (Part.regs ||| Part.bus ||| Part.engs ||| Part.bankMem ||| Part.banks ||| Part.nis ||| Part.dirc |||
        Part.bankJoins ||| Part.bankUe) s (s.bankPerform h a) := by
  unfold State.bankPerform
  split
  · exact (State.bankDoWrite_changes _ _ _ _).mono
  · exact (State.bankDoRead_changes _ _ _).mono

theorem State.bankReach_changes (s : State) (h : Nat) (a : BankAcc) :
    Changes (Part.regs ||| Part.bus ||| Part.engs ||| Part.bankMem ||| Part.banks ||| Part.nis ||| Part.dirc |||
        Part.bankJoins ||| Part.bankUe) s (s.bankReach h a) := by
  unfold State.bankReach
  extract_lets -merge -usedOnly x1 x2
  clear_value x1
  refine Changes.have (x := x2) ?_ fun h3 => ?_
  · unfold x2
    refine Changes.each ?_ ?_
    · exact Changes.refl _ _
    · intro t4 a5 h6
      exact h6.then (State.bankMove_changes _ _ _ _)
  clear_value x2
  refine Changes.ite ?_ ?_
  · exact ((State.setOn_changes _ _).mono).then (State.bankAnswer_changes _ _ _ _ _)
  · refine Changes.ite ?_ ?_
    · exact h3.then (State.updBank_changes _ _ _)
    · exact (State.bankPerform_changes _ _ _).mono

theorem State.bankHome_changes (s : State) (h : Nat) (a : BankAcc) :
    Changes (Part.regs ||| Part.bus ||| Part.engs ||| Part.bankMem ||| Part.banks ||| Part.nis ||| Part.dirc |||
        Part.bankJoins ||| Part.homes ||| Part.bankUe) s (s.bankHome h a) := by
  unfold State.bankHome
  extract_lets -merge -usedOnly x1 x2 x3
  clear_value x1
  clear_value x2
  refine Changes.have (x := x3) ?_ fun h4 => ?_
  · unfold x3
    refine Changes.each ?_ ?_
    · exact Changes.refl _ _
    · intro t5 a6 h7
      exact h7.then (State.pushTx_changes _ _ _)
  clear_value x3
  refine Changes.ite ?_ ?_
  · exact (State.bankReach_changes _ _ _).mono
  · exact Changes.set_homes h4

theorem State.bankPiece_changes (s : State) (h : Nat) (a : BankAcc) :
    Changes (Part.regs ||| Part.bus ||| Part.engs ||| Part.bankMem ||| Part.banks ||| Part.nis ||| Part.dirc |||
        Part.bankJoins ||| Part.homes ||| Part.bankUe) s (s.bankPiece h a) := by
  unfold State.bankPiece
  refine Changes.ite ?_ ?_
  · refine Changes.ite ?_ ?_
    · exact (State.bankAnswer_changes _ _ _ _ _).mono
    · refine Changes.ite ?_ ?_
      · exact (State.bankAnswer_changes _ _ _ _ _).mono
      · exact (State.bankHome_changes _ _ _).mono
  · exact (State.bankHome_changes _ _ _).mono

theorem State.bankAccess_changes (s : State) (h : Nat) (a : BankAcc) :
    Changes (Part.regs ||| Part.bus ||| Part.engs ||| Part.bankMem ||| Part.banks ||| Part.nis ||| Part.dirc |||
        Part.bankJoins ||| Part.joinNo ||| Part.homes ||| Part.bankUe) s (s.bankAccess h a) := by
  unfold State.bankAccess
  extract_lets -merge -usedOnly x1 x2 x3
  clear_value x1
  clear_value x2
  refine Changes.have (x := x3) ?_ fun h4 => ?_
  · unfold x3
    exact Changes.put (Changes.refl _ _) rfl (fun h => h) rfl rfl
  clear_value x3
  refine Changes.ite ?_ ?_
  · exact (State.bankReply_changes _ _ _ _ _).mono
  · refine Changes.ite ?_ ?_
    · exact (State.bankPiece_changes _ _ _).mono
    · refine Changes.each ?_ ?_
      · exact h4
      · intro t5 a6 h7
        exact h7.then (State.bankPiece_changes _ _ _)

theorem State.homeAnswer_changes (s : State) (h : Nat) (line : Nat) (id : Nat) :
    Changes (Part.regs ||| Part.bus ||| Part.engs ||| Part.bankMem ||| Part.banks ||| Part.nis ||| Part.dirc |||
        Part.bankJoins ||| Part.homes ||| Part.bankUe) s (s.homeAnswer h line id) := by
  unfold State.homeAnswer
  split
  · exact Changes.refl _ _
  · extract_lets -merge -usedOnly x1
    clear_value x1
    refine Changes.ite ?_ ?_
    · exact (Changes.set_homes (Changes.refl _ _)).then (State.bankReach_changes _ _ _)
    · exact Changes.set_homes (Changes.refl _ _)

/-! ## Machine/TimeOps -/

theorem State.updTime_changes (s : State) (f : TimeSt → TimeSt) :
    Changes Part.time s (s.updTime f) := by
  unfold State.updTime
  exact Changes.set_time (Changes.refl _ _)

theorem State.setTb_changes (s : State) (h : Nat) (t : Tb) :
    Changes Part.tb s (s.setTb h t) := by
  unfold State.setTb
  exact Changes.set_tb (Changes.refl _ _)

theorem State.setInc_changes (s : State) (v : Nat) :
    Changes (Part.regs ||| Part.tb) s (s.setInc v) := by
  unfold State.setInc
  extract_lets -merge -usedOnly x1 x2 x3
  clear_value x1
  clear_value x2
  clear_value x3
  exact (((State.setTb_changes _ _ _).mono).then (State.setTb_changes _ _ _)).then (State.wr_changes _ _ _)

theorem State.rolled_changes (s : State) (h : Nat) :
    Changes (Part.regs ||| Part.bus ||| Part.dmcs ||| Part.trcs ||| Part.time ||| Part.nis) s (s.rolled h) := by
  unfold State.rolled
  extract_lets -merge -usedOnly x1
  refine Changes.have (x := x1) ?_ fun h2 => ?_
  · unfold x1
    exact (State.traceSync_changes _ _).mono
  clear_value x1
  refine Changes.ite ?_ ?_
  · exact h2.then (State.updTime_changes _ _)
  · exact h2

theorem State.wdogCount_changes (s : State) (h : Nat) (d : Nat) :
    Changes Part.engs s (s.wdogCount h d) := by
  unfold State.wdogCount
  refine Changes.each ?_ ?_
  · exact Changes.refl _ _
  · intro t1 a2 h3
    exact h3.then (State.updEng_changes _ _ _)

theorem State.elapse_changes (s : State) (k : Nat) :
    Changes (Part.ticks ||| Part.regs ||| Part.bus ||| Part.engs ||| Part.dmcs ||| Part.tb ||| Part.trcs ||| Part.time |||
        Part.nis) s (s.elapse k) := by
  unfold State.elapse
  extract_lets -merge -usedOnly x1
  refine Changes.have (x := x1) ?_ fun h2 => ?_
  · unfold x1
    exact Changes.set_ticks (Changes.refl _ _)
  clear_value x1
  refine Changes.each ?_ ?_
  · exact h2
  · intro t3 a4 h5
    extract_lets -merge -usedOnly x6 x7
    clear_value x6
    clear_value x7
    refine Changes.when ?_ ?_
    · exact (h5.then (State.setTb_changes _ _ _)).then (State.wdogCount_changes _ _ _)
    · intro t8 h9
      exact h9.then (State.rolled_changes _ _)

theorem State.elapseTo_changes (s : State) (h : Nat) (sec : Nat) (ns : Nat) :
    Changes (Part.ticks ||| Part.regs ||| Part.bus ||| Part.engs ||| Part.dmcs ||| Part.tb ||| Part.trcs ||| Part.time |||
        Part.nis) s (s.elapseTo h sec ns) := by
  unfold State.elapseTo
  extract_lets -merge -usedOnly x1
  clear_value x1
  refine Changes.ite ?_ ?_
  · exact (State.elapse_changes _ _).mono
  · exact Changes.refl _ _

theorem State.updSynt_changes (s : State) :
    Changes Part.regs s (s.updSynt) := by
  unfold State.updSynt
  exact (State.wr_changes _ _ _).mono

theorem State.flagHoldover_changes (s : State) :
    Changes Part.ctxs s (s.flagHoldover) := by
  unfold State.flagHoldover
  refine Changes.each ?_ ?_
  · exact Changes.refl _ _
  · intro t1 a2 h3
    exact h3.then (State.updCtx_changes _ _ _)

theorem State.queueChange_changes (s : State) (c : TimeChange) :
    Changes Part.time s (s.queueChange c) := by
  unfold State.queueChange
  exact (State.updTime_changes _ _).mono

theorem State.timeState_changes (s : State) (d : Nat) :
    Changes (Part.regs ||| Part.out ||| Part.heldOut ||| Part.fns) s (s.timeState d) := by
  unfold State.timeState
  exact (State.post_changes _ _ _).mono

theorem State.enterHoldover_changes (s : State) :
    Changes (Part.regs ||| Part.out ||| Part.heldOut ||| Part.fns ||| Part.ctxs ||| Part.time) s (s.enterHoldover) := by
  unfold State.enterHoldover
  extract_lets -merge -usedOnly x1 x2 x3
  clear_value x1
  refine Changes.have (x := x2) ?_ fun h4 => ?_
  · unfold x2
    exact ((State.wr_changes _ _ _).mono).then (State.flagHoldover_changes _)
  clear_value x2
  refine Changes.have (x := x3) ?_ fun h5 => ?_
  · unfold x3
    refine Changes.ite ?_ ?_
    · exact h4
    · exact h4.then (State.queueChange_changes _ _)
  clear_value x3
  refine Changes.ite ?_ ?_
  · exact h5.then (State.timeState_changes _ _)
  · exact Changes.refl _ _

theorem State.timeRefLoss_changes (s : State) :
    Changes (Part.regs ||| Part.out ||| Part.heldOut ||| Part.fns ||| Part.ctxs ||| Part.tb |||
        Part.time) s (s.timeRefLoss) := by
  unfold State.timeRefLoss
  extract_lets -merge -usedOnly x1 x2 x3
  refine Changes.have (x := x1) ?_ fun h4 => ?_
  · unfold x1
    exact ((State.updTime_changes _ _).mono).then (State.setOn_changes _ _)
  clear_value x1
  refine Changes.have (x := x2) ?_ fun h5 => ?_
  · unfold x2
    exact h4.then (State.setInc_changes _ _)
  clear_value x2
  refine Changes.have (x := x3) ?_ fun h6 => ?_
  · unfold x3
    refine Changes.ite ?_ ?_
    · exact h4
    · refine Changes.ite ?_ ?_
      · exact h5
      · exact ((h5.then (State.wr_changes _ _ _)).then (State.flagHoldover_changes _)).then (State.timeState_changes _ _)
  clear_value x3
  exact h6.then (State.updSynt_changes _)

theorem State.noteStep_changes (s : State) :
    Changes Part.regs s (s.noteStep) := by
  unfold State.noteStep
  exact ((State.setOn_changes _ _).mono).then (State.count_changes _ _ _)

theorem State.applyChange_changes (s : State) (c : TimeChange) :
    Changes (Part.regs ||| Part.bus ||| Part.out ||| Part.heldOut ||| Part.fns ||| Part.dmcs ||| Part.tb ||| Part.trcs |||
        Part.time ||| Part.nis) s (s.applyChange c) := by
  unfold State.applyChange
  extract_lets -merge -usedOnly x1 x2 x3 x4
  clear_value x2
  clear_value x3
  clear_value x4
  split
  · refine Changes.then ?_ (State.noteStep_changes _)
    unfold x1
    refine Changes.each ?_ ?_
    · exact Changes.refl _ _
    · intro t5 a6 h7
      extract_lets -merge -usedOnly x8
      clear_value x8
      refine Changes.when ?_ ?_
      · exact h7.then (State.setTb_changes _ _ _)
      · intro t9 h10
        exact h10.then (State.traceSync_changes _ _)
  · refine Changes.then ?_ (State.noteStep_changes _)
    unfold x1
    refine Changes.each ?_ ?_
    · exact Changes.refl _ _
    · intro t11 a12 h13
      extract_lets -merge -usedOnly x14
      clear_value x14
      refine Changes.when ?_ ?_
      · exact h13.then (State.setTb_changes _ _ _)
      · intro t15 h16
        exact h16.then (State.traceSync_changes _ _)
  · exact (State.setInc_changes _ _).mono
  · extract_lets -merge -usedOnly x17 x18
    refine Changes.have (x := x17) ?_ fun h19 => ?_
    · unfold x17
      exact (State.updTime_changes _ _).mono
    clear_value x17
    refine Changes.have (x := x18) ?_ fun h20 => ?_
    · unfold x18
      refine Changes.ite ?_ ?_
      · exact h19.then (State.wr_changes _ _ _)
      · refine Changes.ite ?_ ?_
        · refine Changes.then ?_ (State.wr_changes _ _ _)
          refine Changes.then ?_ (State.noteStep_changes _)
          unfold x1
          refine Changes.each ?_ ?_
          · exact h19.then (State.setInc_changes _ _)
          · intro t21 a22 h23
            extract_lets -merge -usedOnly x24
            clear_value x24
            refine Changes.when ?_ ?_
            · exact h23.then (State.setTb_changes _ _ _)
            · intro t25 h26
              exact h26.then (State.traceSync_changes _ _)
        · refine Changes.ite ?_ ?_
          · exact h19.then (State.wr_changes _ _ _)
          · exact h19
    clear_value x18
    refine Changes.when ?_ ?_
    · exact h20.then (State.updSynt_changes _)
    · intro t27 h28
      exact h28.then (State.timeState_changes _ _)

theorem State.gridStep_changes (s : State) (n : Int) :
    Changes Part.time s (s.gridStep n) := by
  unfold State.gridStep
  refine Changes.ite ?_ ?_
  · exact (State.updTime_changes _ _).mono
  · refine Changes.ite ?_ ?_
    · exact (State.updTime_changes _ _).mono
    · exact ((State.updTime_changes _ _).mono).then (State.queueChange_changes _ _)

theorem State.dropStarts_changes (s : State) (c : Nat) :
    Changes Part.time s (s.dropStarts c) := by
  unfold State.dropStarts
  exact (State.updTime_changes _ _).mono

/-! ## Machine/Clock -/

theorem State.eclkApply_changes (s : State) (h : Nat) :
    Changes (Part.regs ||| Part.clks ||| Part.time) s ((s.eclkApply h).snd) := by
  unfold State.eclkApply
  refine Changes.ite_snd ?_ ?_
  · refine Changes.mk_snd ?_
    exact Changes.refl _ _
  · refine Changes.mk_snd ?_
    exact (((State.setOn_changes _ _).mono).then (State.updClk_changes _ _ _)).then (State.updTime_changes _ _)

theorem State.eclkAbandon_changes (s : State) (h : Nat) :
    Changes (Part.regs ||| Part.clks) s (s.eclkAbandon h) := by
  unfold State.eclkAbandon
  exact (((State.clr_changes _ _).mono).then (State.setOn_changes _ _)).then (State.updClk_changes _ _ _)

theorem State.checkRate_changes (s : State) (c : Nat) :
    Changes (Part.regs ||| Part.chans) s (s.checkRate c) := by
  unfold State.checkRate
  exact ((State.wr_changes _ _ _).mono).then (State.restChan_changes _ _)

theorem State.loseJob_changes (s : State) (c : Nat) :
    Changes (Part.fresh ||| Part.regs ||| Part.bus ||| Part.ctxs ||| Part.engs ||| Part.bays ||| Part.chans |||
        Part.ssgs ||| Part.bankMem ||| Part.dmcs ||| Part.trcs ||| Part.snap ||| Part.nis |||
        Part.fabHeld) s (s.loseJob c) := by
  unfold State.loseJob
  split
  · refine Changes.ite ?_ ?_
    · exact Changes.refl _ _
    · refine Changes.ite ?_ ?_
      · exact ((State.failFront_changes _ _ _ _).mono).then (State.stopJob_changes _ _)
      · exact (State.finishFront_changes _ _ _ _).mono
  · exact Changes.refl _ _

theorem State.dramHold_changes (s : State) (n : Nat) :
    Changes (Part.regs ||| Part.dmcs) s (s.dramHold n) := by
  unfold State.dramHold
  extract_lets -merge -usedOnly x1 x2 x3
  refine Changes.have (x := x1) ?_ fun h4 => ?_
  · unfold x1
    exact (State.updDmc_changes _ _ _).mono
  clear_value x1
  clear_value x2
  refine Changes.have (x := x3) ?_ fun h5 => ?_
  · unfold x3
    exact (h4.then (State.dropPass_changes _ _ _)).then (State.clr_changes _ _)
  clear_value x3
  refine Changes.ite ?_ ?_
  · exact h4
  · refine Changes.ite ?_ ?_
    · exact h5
    · exact (h5.then (State.wr_changes _ _ _)).then (State.srEnter_changes _ _)

/-! ## Machine/HostLink -/

theorem State.writeMirrors_changes (s : State) (n : Nat) :
    Changes Part.bankMem s (s.writeMirrors n) := by
  unfold State.writeMirrors
  extract_lets -merge -usedOnly x1 x2 x3
  clear_value x1
  clear_value x2
  refine Changes.have (x := x3) ?_ fun h4 => ?_
  · unfold x3
    exact (State.bankWrite_changes _ _ _ _ _).mono
  clear_value x3
  refine Changes.ite ?_ ?_
  · exact h4
  · exact h4.then (State.bankWrite_changes _ _ _ _ _)

theorem State.writeLedger_changes (s : State) (n : Nat) :
    Changes (Part.regs ||| Part.out ||| Part.heldOut) s (s.writeLedger n) := by
  unfold State.writeLedger
  exact (State.hostWrite_changes _ _ _ _).mono

theorem State.resetCtx_changes (s : State) (n : Nat) :
    Changes (Part.fresh ||| Part.regs ||| Part.bus ||| Part.ctxs ||| Part.engs ||| Part.bays ||| Part.chans |||
        Part.ssgs ||| Part.bankMem ||| Part.dmcs ||| Part.trcs ||| Part.substs ||| Part.snap ||| Part.time ||| Part.nis |||
        Part.fabHeld) s (s.resetCtx n) := by
  unfold State.resetCtx
  exact ((((State.dropJobs_changes _ _).mono).then (State.clr_changes _ _)).then (State.clr_changes _ _)).then (State.wr_changes _ _ _)

theorem State.resetFn_changes (s : State) (f : Nat) :
    Changes (Part.regs ||| Part.fns) s (s.resetFn f) := by
  unfold State.resetFn
  exact ((State.clr_changes _ _).mono).then (State.updFn_changes _ _ _)

theorem State.undrive_changes (s : State) (cs : List Nat) :
    Changes Part.chans s (s.undrive cs) := by
  unfold State.undrive
  refine Changes.each ?_ ?_
  · exact Changes.refl _ _
  · intro t1 a2 h3
    exact h3.then (State.updChan_changes _ _ _)

theorem State.resetHost_changes (s : State) :
    Changes (Part.fresh ||| Part.regs ||| Part.bus ||| Part.heldOut ||| Part.fns ||| Part.ctxs ||| Part.engs |||
        Part.bays ||| Part.chans ||| Part.ssgs ||| Part.bankMem ||| Part.dmcs ||| Part.trcs ||| Part.substs |||
        Part.snap ||| Part.time ||| Part.nis ||| Part.fabHeld) s (s.resetHost) := by
  unfold State.resetHost
  extract_lets -merge -usedOnly x1 x2
  refine Changes.have (x := x1) ?_ fun h3 => ?_
  · unfold x1
    refine Changes.each ?_ ?_
    · exact Changes.refl _ _
    · intro t4 a5 h6
      exact h6.then (State.resetCtx_changes _ _)
  clear_value x1
  refine Changes.have (x := x2) ?_ fun h7 => ?_
  · unfold x2
    refine Changes.each ?_ ?_
    · exact h3
    · intro t8 a9 h10
      exact h10.then (State.resetFn_changes _ _)
  clear_value x2
  exact Changes.set_heldOut h7

theorem State.fnEnable_changes (s : State) (f : Nat) (evci : Nat) :
    Changes (Part.regs ||| Part.fns) s (s.fnEnable f evci) := by
  unfold State.fnEnable
  exact ((State.setOn_changes _ _).mono).then (State.updFn_changes _ _ _)

theorem State.startFresh_changes (s : State) (n : Nat) :
    Changes (Part.fresh ||| Part.regs ||| Part.bus ||| Part.out ||| Part.heldOut ||| Part.ctxs ||| Part.engs |||
        Part.bays ||| Part.chans ||| Part.ssgs ||| Part.bankMem ||| Part.dmcs ||| Part.trcs ||| Part.substs |||
        Part.snap ||| Part.time ||| Part.nis ||| Part.fabHeld) s (s.startFresh n) := by
  unfold State.startFresh
  extract_lets -merge -usedOnly x1 x2
  refine Changes.have (x := x1) ?_ fun h3 => ?_
  · unfold x1
    exact (((State.dropJobs_changes _ _).mono).then (State.setOn_changes _ _)).then (State.clr_changes _ _)
  clear_value x1
  refine Changes.have (x := x2) ?_ fun h4 => ?_
  · unfold x2
    exact (h3.then (State.wr_changes _ _ _)).then (State.wr_changes _ _ _)
  clear_value x2
  exact (h4.then (State.writeMirrors_changes _ _)).then (State.writeLedger_changes _ _)

theorem State.ctxDisable_changes (s : State) (n : Nat) :
    Changes (Part.fresh ||| Part.regs ||| Part.bus ||| Part.ctxs ||| Part.engs ||| Part.bays ||| Part.chans |||
        Part.ssgs ||| Part.bankMem ||| Part.dmcs ||| Part.trcs ||| Part.substs ||| Part.snap ||| Part.time ||| Part.nis |||
        Part.fabHeld) s (s.ctxDisable n) := by
  unfold State.ctxDisable
  exact (((State.dropJobs_changes _ _).mono).then (State.clr_changes _ _)).then (State.clr_changes _ _)

theorem State.doorbell_changes (s : State) (f : Nat) (n : Nat) (w : Word64) :
    Changes (Part.regs ||| Part.out ||| Part.heldOut ||| Part.fns ||| Part.ctxs) s ((s.doorbell f n w).snd) := by
  unfold State.doorbell
  extract_lets -merge -usedOnly x1 x2
  clear_value x1
  clear_value x2
  refine Changes.ite_snd ?_ ?_
  · refine Changes.mk_snd ?_
    exact ((State.setOn_changes _ _).mono).then (State.postCtx_changes _ _ _ _ _ _)
  · refine Changes.mk_snd ?_
    exact (State.updCtx_changes _ _ _).mono

theorem State.serveDoorbells_changes (s : State) (f : Nat) (recs : List (Fin 64 × Word64)) :
    Changes (Part.regs ||| Part.out ||| Part.heldOut ||| Part.fns ||| Part.ctxs) s (s.serveDoorbells f recs) := by
  unfold State.serveDoorbells
  extract_lets -merge -usedOnly x1 x2 x3 x4 x5 x6 x7 x8
  clear_value x1
  refine Changes.have (x := x2.2) ?_ fun h9 => ?_
  · unfold x2
    refine Changes.foldl Prod.snd ?_ ?_
    · refine Changes.mk_snd ?_
      exact Changes.refl _ _
    · intro b10 a11 h12
      try dsimp -zeta -iota -proj -eta only
      try dsimp -zeta -iota -proj -eta only at h12
      extract_lets -merge -usedOnly x13
      refine Changes.have (x := x13.2) ?_ fun h14 => ?_
      · unfold x13
        exact h12.then (State.doorbell_changes _ _ _ _)
      clear_value x13
      refine Changes.mk_snd ?_
      exact h14
  clear_value x2
  refine Changes.have (x := x3) ?_ fun h15 => ?_
  · unfold x3
    exact h9
  clear_value x3
  clear_value x4
  clear_value x5
  clear_value x6
  clear_value x7
  clear_value x8
  exact h15.then (State.updFn_changes _ _ _)

/-! ## Machine/TableOps -/

theorem State.seqInvalidate_changes (s : State) (h : Nat) (a : Nat) :
    Changes Part.engs s (s.seqInvalidate h a) := by
  unfold State.seqInvalidate
  refine Changes.each ?_ ?_
  · exact Changes.refl _ _
  · intro t1 a2 h3
    extract_lets -merge -usedOnly x4 x5 x6
    clear_value x4
    clear_value x5
    clear_value x6
    refine Changes.ite ?_ ?_
    · exact h3.then (State.updEng_changes _ _ _)
    · exact h3

theorem State.seqPut_changes (s : State) (h a : Nat) (e : Entry) : Changes (Part.engs ||| Part.seqMem |||
    Part.seqUnread) s (s.seqPut h a e) := by
  unfold State.seqPut
  refine Changes.then ?_ (State.seqInvalidate_changes _ _ _)
  exact Changes.put (Changes.refl _ _) rfl (State.canonical_of (seqMem := fun w => Table.wf_set _ _ _ _ w)
    (seqUnread := fun w => Table.wf_set false s.seqUnread (h * 0x20000 + a) false w)) rfl rfl

theorem State.seqWrite_changes (s : State) (h : Nat) (a : Nat) (e : Entry) :
    Changes (Part.engs ||| Part.seqMem ||| Part.seqUnread) s (s.seqWrite h a e) := by
  unfold State.seqWrite
  refine Changes.ite ?_ ?_
  · exact ((State.seqPut_changes _ _ _ _).mono).then (State.seqPut_changes _ _ _ _)
  · exact (State.seqPut_changes _ _ _ _).mono

theorem State.selFields_changes (s : State) (c : Nat) (w : Nat) :
    Changes Part.regs s (s.selFields c w) := by
  unfold State.selFields
  extract_lets -merge -usedOnly x1 x2
  clear_value x1
  clear_value x2
  exact ((((((State.wr_changes _ _ _).mono).then (State.wr_changes _ _ _)).then (State.wr_changes _ _ _)).then (State.wr_changes _ _ _)).then (State.wr_changes _ _ _)).then (State.wr_changes _ _ _)

theorem State.selPut_changes (s : State) (c : Nat) (w : Nat) :
    Changes (Part.regs ||| Part.chans) s (s.selPut c w) := by
  unfold State.selPut
  exact ((State.selFields_changes _ _ _).mono).then (State.restChan_changes _ _)

theorem State.tsetPut_changes (s : State) (c : Nat) (a : Nat) (n : Nat) (v : Nat) :
    Changes Part.tsets s (s.tsetPut c a n v) := by
  unfold State.tsetPut
  exact Changes.set_tsets (Changes.refl _ _) (fun h => Memory.wf_writeN _ _ _ _ h)

theorem State.lmapPut_changes (s : State) (n : Nat) (a : Nat) (k : Nat) (v : Nat) :
    Changes Part.lmaps s (s.lmapPut n a k v) := by
  unfold State.lmapPut
  exact Changes.set_lmaps (Changes.refl _ _) (fun h => by first | exact Memory.wf_writeN _ _ _ _ h | exact Memory.wf_copyN _ _ _ _ h)

theorem State.fsetPut_changes (s : State) (n : Nat) (a : Nat) (k : Nat) (v : Nat) :
    Changes Part.fsets s (s.fsetPut n a k v) := by
  unfold State.fsetPut
  exact Changes.set_fsets (Changes.refl _ _) (fun h => by first | exact Memory.wf_writeN _ _ _ _ h | exact Memory.wf_copyN _ _ _ _ h)

theorem State.scrPut_changes (s : State) (n : Nat) (i : Nat) (v : Nat) :
    Changes Part.scr s (s.scrPut n i v) := by
  unfold State.scrPut
  exact Changes.set_scr (Changes.refl _ _) (fun h => by first | exact Table.wf_set _ _ _ _ h | exact Table.wf_foldl_set _ _ _ _ _ (Table.wf_filter _ _ _ h))

theorem State.setupSeq_changes (s : State) (d : Desc) (len : Nat) (img : Nat) :
    Changes (Part.engs ||| Part.seqMem ||| Part.seqUnread) s (s.setupSeq d len img) := by
  unfold State.setupSeq
  refine Changes.each ?_ ?_
  · exact Changes.refl _ _
  · intro t1 a2 h3
    extract_lets -merge -usedOnly x4 x5
    clear_value x4
    clear_value x5
    split
    · exact h3.then (State.seqWrite_changes _ _ _ _)
    · exact h3.then (State.seqWrite_changes _ _ _ _)
    · exact (h3.then (State.seqPut_changes _ _ _ _)).then (State.seqPut_changes _ _ _ _)

theorem State.setupTable_changes (s : State) (d : Desc) (len : Nat) (img : Nat) :
    Changes (Part.regs ||| Part.chans ||| Part.fsets ||| Part.lmaps ||| Part.scr |||
        Part.tsets) s (s.setupTable d len img) := by
  unfold State.setupTable
  extract_lets -merge -usedOnly x1 x2
  clear_value x1
  clear_value x2
  split
  · exact (State.tsetPut_changes _ _ _ _ _).mono
  · exact (State.lmapPut_changes _ _ _ _ _).mono
  · exact (State.fsetPut_changes _ _ _ _ _).mono
  · refine Changes.each ?_ ?_
    · exact Changes.refl _ _
    · intro t3 a4 h5
      exact h5.then (State.scrPut_changes _ _ _ _)
  · refine Changes.each ?_ ?_
    · exact Changes.refl _ _
    · intro t6 a7 h8
      exact h8.then (State.selPut_changes _ _ _)
  · exact Changes.refl _ _

/-! ## Machine/Jobs -/

theorem State.wakeFor_changes (s : State) (d : Desc) :
    Changes Part.dmcs s (s.wakeFor d) := by
  unfold State.wakeFor
  refine Changes.each ?_ ?_
  · exact Changes.refl _ _
  · intro t1 a2 h3
    refine Changes.ite ?_ ?_
    · refine Changes.each ?_ ?_
      · exact h3
      · intro t4 a5 h6
        exact h6.then (State.wakeDram_changes _ _)
    · exact h3

theorem State.startSlot_changes (s : State) (c : Nat) (m : Nat) (leader : Nat) (clock : Nat) (j : Job) (at_ : Bool) (pre : Bool) :
    Changes (Part.regs ||| Part.engs) s (s.startSlot c m leader clock j at_ pre) := by
  unfold State.startSlot
  extract_lets -merge -usedOnly x1 x2 x3 x4 x5 x6 x7
  clear_value x1
  clear_value x2
  clear_value x3
  clear_value x4
  refine Changes.have (x := x5) ?_ fun h8 => ?_
  · unfold x5
    exact (State.updEng_changes _ _ _).mono
  clear_value x5
  refine Changes.have (x := x6) ?_ fun h9 => ?_
  · unfold x6
    refine Changes.foldl (fun x => x) ?_ ?_
    · exact h8
    · intro b10 a11 h12
      try dsimp -zeta -iota -proj -eta only
      try dsimp -zeta -iota -proj -eta only at h12
      exact h12.then (State.clr_changes _ _)
  clear_value x6
  refine Changes.have (x := x7) ?_ fun h13 => ?_
  · unfold x7
    exact (((h9.then (State.wr_changes _ _ _)).then (State.wr_changes _ _ _)).then (State.wr_changes _ _ _)).then (State.wr_changes _ _ _)
  clear_value x7
  exact h13.then (State.wr_changes _ _ _)

theorem State.clearFails_changes (s : State) (c : Nat) :
    Changes Part.regs s (s.clearFails c) := by
  unfold State.clearFails
  refine Changes.foldl (fun x => x) ?_ ?_
  · exact Changes.refl _ _
  · intro b1 a2 h3
    try dsimp -zeta -iota -proj -eta only
    try dsimp -zeta -iota -proj -eta only at h3
    exact h3.then (State.clr_changes _ _)

theorem State.noteRun_changes (s : State) (n : Nat) :
    Changes Part.ctxs s (s.noteRun n) := by
  unfold State.noteRun
  split
  · exact (State.updJobEng_changes _ _ _ _).mono
  · exact Changes.refl _ _

theorem State.launch_changes (s : State) (c : Nat) (j : Job) (slots : List (Nat × Nat)) (at_ : Bool) :
    Changes (Part.regs ||| Part.ctxs ||| Part.engs) s (s.launch c j slots at_) := by
  unfold State.launch
  extract_lets -merge -usedOnly x1 x2 x3 x4 x5 x6 x7 x8 x9 x10 x11 x12
  clear_value x1
  clear_value x2
  clear_value x3
  clear_value x4
  refine Changes.have (x := x5) ?_ fun h13 => ?_
  · unfold x5
    refine Changes.each ?_ ?_
    · exact Changes.refl _ _
    · intro t14 a15 h16
      exact h16.then (State.startSlot_changes _ _ _ _ _ _ _ _)
  clear_value x5
  refine Changes.have (x := x6) ?_ fun h17 => ?_
  · unfold x6
    exact (h13.then (State.flagPorts_changes _ _)).then (State.flagPorts_changes _ _)
  clear_value x6
  clear_value x7
  refine Changes.have (x := x8) ?_ fun h18 => ?_
  · unfold x8
    refine Changes.each ?_ ?_
    · exact h17
    · intro t19 a20 h21
      exact h21.then (State.clearFails_changes _ _)
  clear_value x8
  clear_value x9
  clear_value x10
  refine Changes.have (x := x11) ?_ fun h22 => ?_
  · unfold x11
    exact h18.then (State.updFront_changes _ _ _)
  clear_value x11
  refine Changes.have (x := x12) ?_ fun h23 => ?_
  · unfold x12
    refine Changes.each ?_ ?_
    · exact h22
    · intro t24 a25 h26
      exact (h26.then (State.clr_changes _ _)).then (State.debugRequest_changes _ _ _)
  clear_value x12
  refine Changes.each ?_ ?_
  · exact h23
  · intro t27 a28 h29
    refine Changes.ite ?_ ?_
    · exact h29.then (State.noteRun_changes _ _)
    · exact h29

theorem State.setupWrite_changes (s : State) (n : Nat) (j : Job) (img : Nat) :
    Changes (Part.regs ||| Part.ctxs ||| Part.chans ||| Part.fsets ||| Part.lmaps ||| Part.scr |||
        Part.tsets) s (s.setupWrite n j img) := by
  unfold State.setupWrite
  refine Changes.ite ?_ ?_
  · exact ((State.setupTable_changes _ _ _ _).mono).then (State.finishFront_changes _ _ _ _)
  · exact (State.updFront_changes _ _ _).mono

theorem State.resultWrite_changes (s : State) (d : Desc) (off : Nat) (len : Nat) (v : Nat) :
    Changes (Part.regs ||| Part.bus ||| Part.out ||| Part.heldOut ||| Part.dmcs |||
        Part.nis) s (s.resultWrite d off len v) := by
  unfold State.resultWrite
  extract_lets -merge -usedOnly x1
  clear_value x1
  refine Changes.ite ?_ ?_
  · exact (State.dramPut_changes _ _ _ _ _ _).mono
  · exact (State.dataWrite_changes _ _ _ _).mono

theorem State.calBusy_changes (s : State) :
    Changes Part.regs s (s.calBusy) := by
  unfold State.calBusy
  refine Changes.each ?_ ?_
  · exact Changes.refl _ _
  · intro t1 a2 h3
    extract_lets -merge -usedOnly x4
    clear_value x4
    exact h3.then (State.wr_changes _ _ _)

theorem State.calFinish_changes (s : State) (n : Nat) (j : Job) :
    Changes (Part.regs ||| Part.bus ||| Part.out ||| Part.heldOut ||| Part.ctxs ||| Part.dmcs |||
        Part.nis) s (s.calFinish n j) := by
  unfold State.calFinish
  extract_lets -merge -usedOnly x1 x2 x3
  clear_value x1
  refine Changes.have (x := x2) ?_ fun h4 => ?_
  · unfold x2
    refine Changes.each ?_ ?_
    · exact Changes.refl _ _
    · intro t5 a6 h7
      exact h7.then (State.resultWrite_changes _ _ _ _ _)
  clear_value x2
  clear_value x3
  refine Changes.ite ?_ ?_
  · exact (h4.then (State.finishFront_changes _ _ _ _)).then (State.calBusy_changes _)
  · exact Changes.refl _ _

theorem State.calStatus_changes (s : State) (n : Nat) (c : Nat) (st : Nat) :
    Changes (Part.regs ||| Part.bus ||| Part.out ||| Part.heldOut ||| Part.ctxs ||| Part.dmcs |||
        Part.nis) s (s.calStatus n c st) := by
  unfold State.calStatus
  extract_lets -merge -usedOnly x1
  refine Changes.have (x := x1) ?_ fun h2 => ?_
  · unfold x1
    exact (State.updFront_changes _ _ _).mono
  clear_value x1
  split
  · exact (h2.then (State.calBusy_changes _)).then (State.calFinish_changes _ _ _)
  · exact h2

theorem State.tempUpdate_changes (s : State) (c : Nat) :
    Changes (Part.regs ||| Part.calRecs) s ((s.tempUpdate c).snd) := by
  unfold State.tempUpdate
  extract_lets -merge -usedOnly x1
  refine Changes.have (x := x1.2) ?_ fun h2 => ?_
  · unfold x1
    exact (State.recompute_changes _ _ _).mono
  clear_value x1
  refine Changes.ite_snd ?_ ?_
  · refine Changes.mk_snd ?_
    exact Changes.refl _ _
  · refine Changes.ite_snd ?_ ?_
    · refine Changes.mk_snd ?_
      exact Changes.refl _ _
    · refine Changes.ite_snd ?_ ?_
      · refine Changes.ite_snd ?_ ?_
        · refine Changes.mk_snd ?_
          exact Changes.refl _ _
        · refine Changes.mk_snd ?_
          exact (State.noteClamp_changes _ _ _).mono
      · refine Changes.mk_snd ?_
        exact h2

theorem State.ctlDone_changes (s : State) (n : Nat) (j : Job) (acted : Bool) :
    Changes Part.ctxs s (s.ctlDone n j acted) := by
  unfold State.ctlDone
  exact (State.updJob_changes _ _ _ _).mono

theorem State.pauseGang_changes (s : State) (l : Nat) :
    Changes (Part.regs ||| Part.engs ||| Part.chans ||| Part.ssgs ||| Part.snap) s (s.pauseGang l) := by
  unfold State.pauseGang
  extract_lets -merge -usedOnly x1 x2 x3
  clear_value x1
  refine Changes.have (x := x2) ?_ fun h4 => ?_
  · unfold x2
    refine Changes.ite ?_ ?_
    · exact (State.sendPause_changes _ _).mono
    · exact Changes.refl _ _
  clear_value x2
  refine Changes.have (x := x3) ?_ fun h5 => ?_
  · unfold x3
    refine Changes.each ?_ ?_
    · exact h4
    · intro t6 a7 h8
      extract_lets -merge -usedOnly x9
      clear_value x9
      refine Changes.ite ?_ ?_
      · exact h8
      · refine Changes.ite ?_ ?_
        · exact h8.then (State.updEng_changes _ _ _)
        · refine Changes.ite ?_ ?_
          · exact (h8.then (State.updEng_changes _ _ _)).then (State.wr_changes _ _ _)
          · exact h8
  clear_value x3
  refine Changes.ite ?_ ?_
  · exact (h5.then (State.addCyc_changes _ _ _)).then (State.showLast_changes _ _)
  · exact h5

theorem State.resumeGang_changes (s : State) (l : Nat) :
    Changes (Part.regs ||| Part.engs) s (s.resumeGang l) := by
  unfold State.resumeGang
  extract_lets -merge -usedOnly x1
  refine Changes.have (x := x1) ?_ fun h2 => ?_
  · unfold x1
    refine Changes.ite ?_ ?_
    · exact (State.showNext_changes _ _).mono
    · exact Changes.refl _ _
  clear_value x1
  refine Changes.each ?_ ?_
  · exact h2
  · intro t3 a4 h5
    extract_lets -merge -usedOnly x6 x7
    refine Changes.have (x := x6) ?_ fun h8 => ?_
    · unfold x6
      exact h5.then (State.updEng_changes _ _ _)
    clear_value x6
    refine Changes.have (x := x7) ?_ fun h9 => ?_
    · unfold x7
      exact h8.then (State.wr_changes _ _ _)
    clear_value x7
    refine Changes.ite ?_ ?_
    · exact h9.then (State.raiseCause_changes _ _ _)
    · exact h5.then (State.updEng_changes _ _ _)

theorem State.commitFront_changes (s : State) (n : Nat) (j : Job) (st : Nat) (det : Nat) :
    Changes (Part.regs ||| Part.out ||| Part.heldOut ||| Part.fns ||| Part.ctxs ||| Part.bankMem |||
        Part.time) s (s.commitFront n j st det) := by
  unfold State.commitFront
  extract_lets -merge -usedOnly x1 x2 x3 x4 x5
  refine Changes.have (x := x1) ?_ fun h6 => ?_
  · unfold x1
    exact (State.hostWrite_changes _ _ _ _).mono
  clear_value x1
  refine Changes.have (x := x2) ?_ fun h7 => ?_
  · unfold x2
    exact h6.then (State.wr_changes _ _ _)
  clear_value x2
  refine Changes.have (x := x3) ?_ fun h8 => ?_
  · unfold x3
    exact (h7.then (State.writeMirrors_changes _ _)).then (State.writeLedger_changes _ _)
  clear_value x3
  refine Changes.have (x := x4) ?_ fun h9 => ?_
  · unfold x4
    refine Changes.ite ?_ ?_
    · exact h8.then (State.postCtx_changes _ _ _ _ _ _)
    · exact h8
  clear_value x4
  refine Changes.have (x := x5) ?_ fun h10 => ?_
  · unfold x5
    exact (h9.then (State.updCtx_changes _ _ _)).then (State.dropStarts_changes _ _)
  clear_value x5
  split
  · refine Changes.ite ?_ ?_
    · exact (h10.then (State.updCtx_changes _ _ _)).then (State.postCtx_changes _ _ _ _ _ _)
    · exact h10
  · exact h10

theorem State.placeWaiting_changes (s : State) (f : Nat) :
    Changes (Part.regs ||| Part.out ||| Part.heldOut ||| Part.fns) s (s.placeWaiting f) := by
  unfold State.placeWaiting
  extract_lets -merge -usedOnly x1
  clear_value x1
  refine Changes.foldl (fun x => x) ?_ ?_
  · exact Changes.refl _ _
  · intro b2 a3 h4
    try dsimp -zeta -iota -proj -eta only
    try dsimp -zeta -iota -proj -eta only at h4
    split
    · extract_lets -merge -usedOnly x5
      refine Changes.have (x := x5) ?_ fun h6 => ?_
      · unfold x5
        exact h4.then (State.eventsLost_changes _ _)
      clear_value x5
      refine Changes.ite ?_ ?_
      · exact (h6.then (State.updFn_changes _ _ _)).then (State.placeEvent_changes _ _ _)
      · exact h6
    · exact h4

theorem State.dropEvent_changes (s : State) (f : Nat) :
    Changes (Part.regs ||| Part.fns) s (s.dropEvent f) := by
  unfold State.dropEvent
  exact (((State.setOn_changes _ _).mono).then (State.count_changes _ _ _)).then (State.updFn_changes _ _ _)

/-! ## Machine/SeqMem -/

theorem State.copyReg_changes (s : State) (from_ : Nat) (to_ : Nat) :
    Changes Part.regs s (s.copyReg from_ to_) := by
  unfold State.copyReg
  split
  · refine Changes.each ?_ ?_
    · exact Changes.refl _ _
    · intro t1 a2 h3
      exact h3.then (State.wr_changes _ _ _)
  · exact Changes.refl _ _

theorem State.copyLe_changes (s : State) (a : Nat) (b : Nat) :
    Changes (Part.regs ||| Part.fsets ||| Part.lmaps ||| Part.scr) s (s.copyLe a b) := by
  unfold State.copyLe
  extract_lets -merge -usedOnly x1 x2 x3 x4
  refine Changes.have (x := x1) ?_ fun h5 => ?_
  · unfold x1
    exact Changes.put (Changes.refl _ _) rfl (State.canonical_of (fsets := fun h => by first | exact Memory.wf_writeN _ _ _ _ h | exact Memory.wf_copyN _ _ _ _ h) (lmaps := fun h => by first | exact Memory.wf_writeN _ _ _ _ h | exact Memory.wf_copyN _ _ _ _ h) (scr := fun h => by first | exact Table.wf_set _ _ _ _ h | exact Table.wf_foldl_set _ _ _ _ _ (Table.wf_filter _ _ _ h))) rfl rfl
  clear_value x1
  clear_value x2
  clear_value x3
  refine Changes.have (x := x4) ?_ fun h6 => ?_
  · unfold x4
    refine Changes.each ?_ ?_
    · exact h5
    · intro t7 a8 h9
      extract_lets -merge -usedOnly x10
      clear_value x10
      exact h9.then (State.copyReg_changes _ _ _)
  clear_value x4
  exact h6.then (State.wr_changes _ _ _)

theorem State.putLe_changes (s : State) (m : Nat) (v : Nat) :
    Changes (Part.regs ||| Part.engs) s (s.putLe m v) := by
  unfold State.putLe
  extract_lets -merge -usedOnly x1 x2 x3 x4
  clear_value x1
  refine Changes.have (x := x2) ?_ fun h5 => ?_
  · unfold x2
    exact (State.wr_changes _ _ _).mono
  clear_value x2
  clear_value x3
  refine Changes.have (x := x4) ?_ fun h6 => ?_
  · unfold x4
    refine Changes.ite ?_ ?_
    · exact h5
    · exact h5.then (State.wr_changes _ _ _)
  clear_value x4
  exact h6.then (State.updEng_changes _ _ _)

theorem State.engMapWrite_changes (s : State) (n : Nat) (le : Nat) :
    Changes (Part.regs ||| Part.engs ||| Part.fsets ||| Part.lmaps ||| Part.scr) s ((s.engMapWrite n le).snd) := by
  unfold State.engMapWrite
  extract_lets -merge -usedOnly x1 x2 x3 x4 x5
  clear_value x1
  refine Changes.have (x := x2) ?_ fun h6 => ?_
  · unfold x2
    split
    · exact (State.copyLe_changes _ _ _).mono
    · exact Changes.refl _ _
  clear_value x2
  clear_value x3
  refine Changes.have (x := x4) ?_ fun h7 => ?_
  · unfold x4
    refine Changes.each ?_ ?_
    · exact h6
    · intro t8 a9 h10
      exact h10.then (State.putLe_changes _ _ _)
  clear_value x4
  refine Changes.have (x := x5) ?_ fun h11 => ?_
  · unfold x5
    exact h7.then (State.putLe_changes _ _ _)
  clear_value x5
  refine Changes.ite_snd ?_ ?_
  · refine Changes.mk_snd ?_
    exact Changes.refl _ _
  · refine Changes.ite_snd ?_ ?_
    · refine Changes.mk_snd ?_
      exact (State.putLe_changes _ _ _).mono
    · refine Changes.mk_snd ?_
      refine Changes.each ?_ ?_
      · exact h11
      · intro t12 a13 h14
        exact h14.then (State.updEng_changes _ _ _)

theorem State.seqModeWrite_changes (s : State) (split : Bool) :
    Changes (Part.regs ||| Part.seqPos) s ((s.seqModeWrite split).snd) := by
  unfold State.seqModeWrite
  extract_lets -merge -usedOnly x1 x2 x3
  clear_value x1
  refine Changes.have (x := x2) ?_ fun h4 => ?_
  · unfold x2
    exact (State.wr_changes _ _ _).mono
  clear_value x2
  refine Changes.have (x := x3) ?_ fun h5 => ?_
  · unfold x3
    exact h4.then (State.setOn_changes _ _)
  clear_value x3
  refine Changes.ite_snd ?_ ?_
  · refine Changes.mk_snd ?_
    exact Changes.refl _ _
  · refine Changes.mk_snd ?_
    refine Changes.ite ?_ ?_
    · exact Changes.set_seqPos h5
    · exact h4

theorem State.seqCopy_changes (s : State) (ueW : List Nat) (ueBoth : List Nat) :
    Changes (Part.regs ||| Part.engs ||| Part.seqMem ||| Part.seqUnread) s (s.seqCopy ueW ueBoth) := by
  unfold State.seqCopy
  extract_lets -merge -usedOnly x1 x2 x3 x4 x5 x6 x7 x8
  clear_value x1
  clear_value x2
  clear_value x3
  clear_value x4
  refine Changes.have (x := x5) ?_ fun h9 => ?_
  · unfold x5
    refine Changes.each ?_ ?_
    · exact Changes.refl _ _
    · intro t10 a11 h12
      exact Changes.set_seqMem h12 (fun h => by first | exact Table.wf_set _ _ _ _ h | exact mirrorTable_wf _ _ h)
  clear_value x5
  refine Changes.have (x := x6) ?_ fun h13 => ?_
  · unfold x6
    exact (h9.then (State.count_changes _ _ _)).then (State.count_changes _ _ _)
  clear_value x6
  refine Changes.have (x := x7) ?_ fun h14 => ?_
  · unfold x7
    exact Changes.put h13 rfl (State.canonical_of (seqMem := fun h => by first | exact Table.wf_set _ _ _ _ h | exact mirrorTable_wf _ _ h) (seqUnread := fun h => by first | exact Table.wf_set false s.seqUnread _ _ h | exact mirrorTable_wf _ _ (Table.wf_foldl_set false (fun a => a) (fun _ => true) _ _ (Table.wf_nil false)) | exact Table.wf_nil false)) rfl rfl
  clear_value x7
  refine Changes.have (x := x8) ?_ fun h15 => ?_
  · unfold x8
    refine Changes.each ?_ ?_
    · exact h14
    · intro t16 a17 h18
      exact h18.then (State.seqInvalidate_changes _ _ _)
  clear_value x8
  refine Changes.each ?_ ?_
  · exact h15
  · intro t19 a20 h21
    exact h21.then (State.updEng_changes _ _ _)

theorem State.copyMoves_changes (s : State) :
    Changes (Part.fresh ||| Part.seqPos) s (s.copyMoves) := by
  unfold State.copyMoves
  extract_lets -merge -usedOnly x1 x2
  refine Changes.have (x := x1.2) ?_ fun h3 => ?_
  · unfold x1
    exact (State.free_changes _ _).mono
  clear_value x1
  refine Changes.have (x := x2) ?_ fun h4 => ?_
  · unfold x2
    exact h3
  clear_value x2
  refine Changes.ite ?_ ?_
  · exact Changes.set_seqPos h4
  · exact Changes.refl _ _

theorem State.seqHold_changes (s : State) (r : Req) (h : Nat) (e : Nat) (w : Nat) (v : Nat) :
    Changes (Part.regs ||| Part.holds) s ((s.seqHold r h e w v).snd) := by
  unfold State.seqHold
  refine Changes.ite_snd ?_ ?_
  · refine Changes.mk_snd ?_
    exact (State.setOn_changes _ _).mono
  · refine Changes.ite_snd ?_ ?_
    · refine Changes.mk_snd ?_
      exact (State.setHeld_changes _ _ _ _).mono
    · refine Changes.mk_snd ?_
      exact Changes.refl _ _

theorem State.seqCommit_changes (s : State) (r : Req) (h : Nat) (e : Nat) (v : Nat) :
    Changes (Part.regs ||| Part.holds ||| Part.engs ||| Part.seqMem ||| Part.seqUnread) s ((s.seqCommit r h e v).snd) := by
  unfold State.seqCommit
  extract_lets -merge -usedOnly x1 x2 x3 x4
  clear_value x1
  clear_value x2
  clear_value x3
  refine Changes.have (x := x4) ?_ fun h5 => ?_
  · unfold x4
    refine Changes.each ?_ ?_
    · exact Changes.refl _ _
    · intro t6 a7 h8
      exact h8.then (State.setHeld_changes _ _ _ _)
  clear_value x4
  refine Changes.ite_snd ?_ ?_
  · refine Changes.mk_snd ?_
    exact (State.setOn_changes _ _).mono
  · refine Changes.ite_snd ?_ ?_
    · refine Changes.mk_snd ?_
      exact h5.then (State.seqWrite_changes _ _ _ _)
    · refine Changes.mk_snd ?_
      exact Changes.refl _ _

theorem State.seqMark_changes (s : State) (h : Nat) (a : Nat) :
    Changes Part.seqUnread s (s.seqMark h a) := by
  unfold State.seqMark
  exact Changes.set_seqUnread (Changes.refl _ _) (fun h => by first | exact Table.wf_set false s.seqUnread _ _ h | exact mirrorTable_wf _ _ (Table.wf_foldl_set false (fun a => a) (fun _ => true) _ _ (Table.wf_nil false)) | exact Table.wf_nil false)

theorem State.fillGang_changes (s : State) (n : Nat) (a : Nat) :
    Changes Part.engs s (s.fillGang n a) := by
  unfold State.fillGang
  refine Changes.each ?_ ?_
  · exact Changes.refl _ _
  · intro t1 a2 h3
    exact h3.then (State.updEng_changes _ _ _)

theorem State.fillEntry_changes (s : State) (h : Nat) (a : Nat) (own : Ecc) (other : Ecc) :
    Changes (Part.regs ||| Part.engs ||| Part.seqMem ||| Part.seqUnread) s ((s.fillEntry h a own other).snd) := by
  unfold State.fillEntry
  refine Changes.ite_snd ?_ ?_
  · refine Changes.mk_snd ?_
    exact Changes.refl _ _
  · split
    · refine Changes.mk_snd ?_
      exact Changes.refl _ _
    · refine Changes.mk_snd ?_
      exact (State.count_changes _ _ _).mono
    · extract_lets -merge -usedOnly x1 x2 x3
      refine Changes.have (x := x1) ?_ fun h4 => ?_
      · unfold x1
        exact (State.count_changes _ _ _).mono
      clear_value x1
      refine Changes.have (x := x2) ?_ fun h5 => ?_
      · unfold x2
        refine Changes.ite ?_ ?_
        · exact h4.then (State.count_changes _ _ _)
        · exact h4
      clear_value x2
      refine Changes.have (x := x3) ?_ fun h6 => ?_
      · unfold x3
        refine Changes.ite ?_ ?_
        · exact h4.then (State.count_changes _ _ _)
        · exact h4
      clear_value x3
      refine Changes.ite_snd ?_ ?_
      · refine Changes.mk_snd ?_
        exact h4.then (State.seqMark_changes _ _ _)
      · refine Changes.ite_snd ?_ ?_
        · refine Changes.mk_snd ?_
          exact (h5.then (State.seqMark_changes _ _ _)).then (State.seqMark_changes _ _ _)
        · refine Changes.mk_snd ?_
          exact h6.then (State.seqPut_changes _ _ _ _)

theorem State.fillEntries_changes (s : State) (h : Nat) (as_ : List Nat) (outs : Nat → Ecc × Ecc) :
    Changes (Part.regs ||| Part.engs ||| Part.seqMem ||| Part.seqUnread) s ((s.fillEntries h as_ outs).snd) := by
  unfold State.fillEntries
  refine Changes.foldl Prod.snd ?_ ?_
  · refine Changes.mk_snd ?_
    exact Changes.refl _ _
  · intro b1 a2 h3
    try dsimp -zeta -iota -proj -eta only
    try dsimp -zeta -iota -proj -eta only at h3
    extract_lets -merge -usedOnly x4
    refine Changes.have (x := x4.2) ?_ fun h5 => ?_
    · unfold x4
      exact h3.then (State.fillEntry_changes _ _ _ _ _)
    clear_value x4
    refine Changes.mk_snd ?_
    exact h5

theorem State.preload_changes (s : State) (m : Nat) (a : Nat) :
    Changes Part.engs s (s.preload m a) := by
  unfold State.preload
  extract_lets -merge -usedOnly x1
  clear_value x1
  exact (State.updEng_changes _ _ _).mono

theorem State.cacheInv_changes (s : State) (n : Nat) :
    Changes Part.regs s ((s.cacheInv n).snd) := by
  unfold State.cacheInv
  refine Changes.ite_snd ?_ ?_
  · refine Changes.mk_snd ?_
    exact (State.setOn_changes _ _).mono
  · refine Changes.mk_snd ?_
    exact Changes.refl _ _

theorem State.irqWrite_changes (s : State) (n : Nat) (v : Nat) :
    Changes Part.regs s (s.irqWrite n v) := by
  unfold State.irqWrite
  extract_lets -merge -usedOnly x1
  refine Changes.have (x := x1) ?_ fun h2 => ?_
  · unfold x1
    exact ((State.wr_changes _ _ _).mono).then (State.wr_changes _ _ _)
  clear_value x1
  refine Changes.ite ?_ ?_
  · exact h2
  · exact h2.then (State.wr_changes _ _ _)

theorem State.predFlush_changes (s : State) (n : Nat) :
    Changes Part.engs s (s.predFlush n) := by
  unfold State.predFlush
  exact (State.updEng_changes _ _ _).mono

/-! ## Machine/RegStore -/

theorem State.storeField_changes (s : State) (addr : Nat) (lo : Nat) (n : Nat) (v : Nat) (f : FieldDef) :
    Changes Part.regs s (s.storeField addr lo n v f) := by
  unfold State.storeField
  extract_lets -merge -usedOnly x1 x2 x3 x4 x5 x6
  clear_value x1
  clear_value x2
  clear_value x3
  clear_value x4
  clear_value x5
  clear_value x6
  refine Changes.ite ?_ ?_
  · exact Changes.refl _ _
  · split
    · exact (State.wr_changes _ _ _).mono
    · exact (State.wr_changes _ _ _).mono
    · exact (State.wr_changes _ _ _).mono
    · exact (State.wr_changes _ _ _).mono
    · exact Changes.refl _ _
    · exact Changes.refl _ _

theorem State.storeReg_changes (s : State) (r : RegDef) (addr : Nat) (lo : Nat) (n : Nat) (v : Nat) :
    Changes Part.regs s (s.storeReg r addr lo n v) := by
  unfold State.storeReg
  refine Changes.each ?_ ?_
  · exact Changes.refl _ _
  · intro t1 a2 h3
    exact h3.then (State.storeField_changes _ _ _ _ _ _)

theorem State.storeWord_changes (s : State) (off : Nat) (v : Nat) :
    Changes Part.regs s (s.storeWord off v) := by
  unfold State.storeWord
  split
  · exact (State.storeReg_changes _ _ _ _ _ _).mono
  · exact Changes.refl _ _

theorem State.setLatch_changes (s : State) (r : Req) (f : Latch → Latch) :
    Changes Part.latches s (s.setLatch r f) := by
  unfold State.setLatch
  exact Changes.set_latches (Changes.refl _ _)

theorem State.clearRc_changes (s : State) (peek : Bool) (d : RegDef) (addr : Nat) (lo : Nat) (n : Nat) :
    Changes Part.regs s (s.clearRc peek d addr lo n) := by
  unfold State.clearRc
  refine Changes.ite ?_ ?_
  · exact Changes.refl _ _
  · refine Changes.each ?_ ?_
    · exact Changes.refl _ _
    · intro t1 a2 h3
      exact h3.then (State.clr_changes _ _)

theorem State.genericRead_changes (s : State) (peek : Bool) (r : Req) (off : Nat) :
    Changes (Part.regs ||| Part.latches) s ((s.genericRead peek r off).snd) := by
  unfold State.genericRead
  split
  · refine Changes.mk_snd ?_
    exact Changes.refl _ _
  · refine Changes.ite_snd ?_ ?_
    · refine Changes.ite_snd ?_ ?_
      · refine Changes.mk_snd ?_
        exact ((State.setLatch_changes _ _ _).mono).then (State.clearRc_changes _ _ _ _ _ _)
      · refine Changes.mk_snd ?_
        exact Changes.refl _ _
    · refine Changes.mk_snd ?_
      exact (State.clearRc_changes _ _ _ _ _ _).mono

theorem State.genericWrite_changes (s : State) (r : Req) (off : Nat) (v : Nat) :
    Changes (Part.regs ||| Part.latches) s (s.genericWrite r off v) := by
  unfold State.genericWrite
  split
  · exact Changes.refl _ _
  · extract_lets -merge -usedOnly x1
    refine Changes.have (x := x1) ?_ fun h2 => ?_
    · unfold x1
      exact (State.setLatch_changes _ _ _).mono
    clear_value x1
    refine Changes.ite ?_ ?_
    · refine Changes.ite ?_ ?_
      · exact (State.setLatch_changes _ _ _).mono
      · split
        · exact h2.then (State.storeReg_changes _ _ _ _ _ _)
        · exact h2.then (State.storeReg_changes _ _ _ _ _ _)
    · exact (State.storeReg_changes _ _ _ _ _ _).mono

/-! ## Machine/Sequencer -/

theorem State.jump_changes (s : State) (n : Nat) (x : Entry) (win : Nat) (target : Nat) :
    Changes (Part.regs ||| Part.bus ||| Part.ctxs ||| Part.engs ||| Part.bays ||| Part.chans ||| Part.ssgs |||
        Part.ports ||| Part.dmcs ||| Part.trcs ||| Part.snap ||| Part.nis) s (s.jump n x win target) := by
  unfold State.jump
  exact (((State.issue_changes _ _ _ _).mono).then (State.transfer_changes _ _ _)).then (State.stepCount_changes _ _)

theorem State.resolveWin_changes (s : State) (n : Nat) :
    Changes (Part.regs ||| Part.engs) s (s.resolveWin n) := by
  unfold State.resolveWin
  extract_lets -merge -usedOnly x1
  clear_value x1
  exact ((State.retire_changes _ _ _).mono).then (State.closeWin_changes _ _)

theorem State.resolveEmpty_changes (s : State) (n : Nat) :
    Changes (Part.regs ||| Part.engs) s (s.resolveEmpty n) := by
  unfold State.resolveEmpty
  extract_lets -merge -usedOnly x1
  clear_value x1
  refine Changes.ite ?_ ?_
  · exact ((State.pushBranch_changes _ _ _).mono).then (State.closeWin_changes _ _)
  · exact (State.resolveWin_changes _ _).mono

theorem State.takeCond_changes (s : State) (n : Nat) (scnd : Nat) (k : Nat) :
    Changes (Part.regs ||| Part.engs) s ((s.takeCond n scnd k).snd) := by
  unfold State.takeCond
  extract_lets -merge -usedOnly x1 x2
  clear_value x1
  clear_value x2
  refine Changes.ite_snd ?_ ?_
  · refine Changes.mk_snd ?_
    refine Changes.ite ?_ ?_
    · exact (State.resolveEmpty_changes _ _).mono
    · exact (State.resolveWin_changes _ _).mono
  · refine Changes.mk_snd ?_
    exact Changes.refl _ _

theorem State.mwaitDone_changes (s : State) (n : Nat) (x : Entry) :
    Changes (Part.regs ||| Part.bus ||| Part.ctxs ||| Part.engs ||| Part.bays ||| Part.chans ||| Part.ssgs |||
        Part.ports ||| Part.bankMem ||| Part.dmcs ||| Part.trcs ||| Part.snap ||| Part.nis) s (s.mwaitDone n x) := by
  unfold State.mwaitDone
  extract_lets -merge -usedOnly x1
  refine Changes.have (x := x1) ?_ fun h2 => ?_
  · unfold x1
    refine Changes.ite ?_ ?_
    · exact (State.resolveEmpty_changes _ _).mono
    · exact (State.resolveWin_changes _ _).mono
  clear_value x1
  exact ((h2.then (State.issue_changes _ _ _ _)).then (State.moveOn_changes _ _)).then (State.stepCount_changes _ _)

theorem State.mwaitBody_changes (s : State) (n : Nat) (x : Entry) :
    Changes (Part.regs ||| Part.bus ||| Part.ctxs ||| Part.engs ||| Part.bays ||| Part.chans ||| Part.ssgs |||
        Part.ports ||| Part.bankMem ||| Part.dmcs ||| Part.trcs ||| Part.snap ||| Part.nis) s (s.mwaitBody n x) := by
  unfold State.mwaitBody
  extract_lets -merge -usedOnly x1 x2
  clear_value x1
  refine Changes.have (x := x2) ?_ fun h3 => ?_
  · unfold x2
    exact (State.pushBranch_changes _ _ _).mono
  clear_value x2
  refine Changes.ite ?_ ?_
  · exact (State.mwaitDone_changes _ _ _).mono
  · refine Changes.ite ?_ ?_
    · exact (((h3.then (State.closeWin_changes _ _)).then (State.issue_changes _ _ _ _)).then (State.moveOn_changes _ _)).then (State.stepCount_changes _ _)
    · refine Changes.ite ?_ ?_
      · exact (State.mwaitDone_changes _ _ _).mono
      · exact (State.waitFor_changes _ _ _ _).mono

theorem State.haltNow_changes (s : State) (n : Nat) (x : Entry) (win : Nat) :
    Changes (Part.regs ||| Part.bus ||| Part.ctxs ||| Part.engs ||| Part.bays ||| Part.chans ||| Part.ssgs |||
        Part.ports ||| Part.bankMem ||| Part.dmcs ||| Part.trcs ||| Part.snap ||| Part.nis) s (s.haltNow n x win) := by
  unfold State.haltNow
  extract_lets -merge -usedOnly x1 x2
  refine Changes.have (x := x1) ?_ fun h3 => ?_
  · unfold x1
    exact ((State.issue_changes _ _ _ _).mono).then (State.stepCount_changes _ _)
  clear_value x1
  refine Changes.have (x := x2) ?_ fun h4 => ?_
  · unfold x2
    refine Changes.each ?_ ?_
    · exact h3
    · intro t5 a6 h7
      exact (h7.then (State.updEng_changes _ _ _)).then (State.dropSem_changes _ _)
  clear_value x2
  exact (h4.then (State.waitFor_changes _ _ _ _)).then (State.runDry_changes _ _)

theorem State.haltSettled_changes (s : State) (n : Nat) (x : Entry) :
    Changes (Part.regs ||| Part.bus ||| Part.ctxs ||| Part.engs ||| Part.bays ||| Part.chans ||| Part.ssgs |||
        Part.ports ||| Part.bankMem ||| Part.dmcs ||| Part.trcs ||| Part.snap ||| Part.nis) s (s.haltSettled n x) := by
  unfold State.haltSettled
  extract_lets -merge -usedOnly x1 x2
  clear_value x1
  refine Changes.have (x := x2.2) ?_ fun h3 => ?_
  · unfold x2
    exact (State.takeCond_changes _ _ _ _).mono
  clear_value x2
  refine Changes.ite ?_ ?_
  · exact h3.then (State.haltNow_changes _ _ _ _)
  · exact ((h3.then (State.issue_changes _ _ _ _)).then (State.moveOn_changes _ _)).then (State.stepCount_changes _ _)

theorem State.haltBody_changes (s : State) (n : Nat) (x : Entry) :
    Changes (Part.regs ||| Part.bus ||| Part.ctxs ||| Part.engs ||| Part.bays ||| Part.chans ||| Part.ssgs |||
        Part.ports ||| Part.bankMem ||| Part.dmcs ||| Part.trcs ||| Part.snap ||| Part.nis) s (s.haltBody n x) := by
  unfold State.haltBody
  refine Changes.ite ?_ ?_
  · exact (State.waitFor_changes _ _ _ _).mono
  · exact (State.haltSettled_changes _ _ _).mono

theorem State.pauseEntry_changes (s : State) (n : Nat) (x : Entry) (win : Nat) :
    Changes (Part.regs ||| Part.bus ||| Part.ctxs ||| Part.engs ||| Part.bays ||| Part.chans ||| Part.ssgs |||
        Part.ports ||| Part.bankMem ||| Part.dmcs ||| Part.trcs ||| Part.snap ||| Part.nis) s (s.pauseEntry n x win) := by
  unfold State.pauseEntry
  extract_lets -merge -usedOnly x1 x2
  refine Changes.have (x := x1) ?_ fun h3 => ?_
  · unfold x1
    exact (((State.issue_changes _ _ _ _).mono).then (State.moveOn_changes _ _)).then (State.stepCount_changes _ _)
  clear_value x1
  refine Changes.have (x := x2) ?_ fun h4 => ?_
  · unfold x2
    refine Changes.each ?_ ?_
    · exact h3
    · intro t5 a6 h7
      exact (h7.then (State.updEng_changes _ _ _)).then (State.wr_changes _ _ _)
  clear_value x2
  exact (h4.then (State.runDry_changes _ _)).then (State.showLast_changes _ _)

theorem State.pauseSettled_changes (s : State) (n : Nat) (x : Entry) :
    Changes (Part.regs ||| Part.bus ||| Part.ctxs ||| Part.engs ||| Part.bays ||| Part.chans ||| Part.ssgs |||
        Part.ports ||| Part.bankMem ||| Part.dmcs ||| Part.trcs ||| Part.snap ||| Part.nis) s (s.pauseSettled n x) := by
  unfold State.pauseSettled
  extract_lets -merge -usedOnly x1 x2
  clear_value x1
  refine Changes.have (x := x2.2) ?_ fun h3 => ?_
  · unfold x2
    exact (State.takeCond_changes _ _ _ _).mono
  clear_value x2
  refine Changes.ite ?_ ?_
  · exact h3.then (State.pauseEntry_changes _ _ _ _)
  · exact ((h3.then (State.issue_changes _ _ _ _)).then (State.moveOn_changes _ _)).then (State.stepCount_changes _ _)

theorem State.pauseBody_changes (s : State) (n : Nat) (x : Entry) :
    Changes (Part.regs ||| Part.bus ||| Part.ctxs ||| Part.engs ||| Part.bays ||| Part.chans ||| Part.ssgs |||
        Part.ports ||| Part.bankMem ||| Part.dmcs ||| Part.trcs ||| Part.snap ||| Part.nis) s (s.pauseBody n x) := by
  unfold State.pauseBody
  refine Changes.ite ?_ ?_
  · exact (State.waitFor_changes _ _ _ _).mono
  · exact (State.pauseSettled_changes _ _ _).mono

theorem State.leaveWait_changes (s : State) (n : Nat) (w : Nat) :
    Changes (Part.regs ||| Part.bus ||| Part.ctxs ||| Part.engs ||| Part.bays ||| Part.chans ||| Part.ssgs |||
        Part.ports ||| Part.bankMem ||| Part.dmcs ||| Part.trcs ||| Part.snap ||| Part.nis) s (s.leaveWait n w) := by
  unfold State.leaveWait
  extract_lets -merge -usedOnly x1
  refine Changes.have (x := x1) ?_ fun h2 => ?_
  · unfold x1
    exact (((State.holdFor_changes _ _ _).mono).then (State.updEng_changes _ _ _)).then (State.setStall_changes _ _ _)
  clear_value x1
  exact h2.then (State.plain_changes _ _ _)

theorem State.endTransfer_changes (s : State) (n : Nat) (w : Nat) :
    Changes (Part.regs ||| Part.engs ||| Part.chans ||| Part.ssgs ||| Part.snap) s (s.endTransfer n w) := by
  unfold State.endTransfer
  exact (((State.holdFor_changes _ _ _).mono).then (State.updEng_changes _ _ _)).then (State.setStall_changes _ _ _)

theorem State.saveDone_changes (s : State) (n : Nat) (x : Entry) :
    Changes (Part.regs ||| Part.bus ||| Part.ctxs ||| Part.engs ||| Part.bays ||| Part.chans ||| Part.ssgs |||
        Part.ports ||| Part.bankMem ||| Part.dmcs ||| Part.trcs ||| Part.snap ||| Part.nis) s (s.saveDone n x) := by
  unfold State.saveDone
  exact (((State.saveGang_changes _ _ _).mono).then (State.updEng_changes _ _ _)).then (State.plain_changes _ _ _)

theorem State.restoreDone_changes (s : State) (n : Nat) (x : Entry) :
    Changes (Part.fresh ||| Part.regs ||| Part.bus ||| Part.ctxs ||| Part.engs ||| Part.bays ||| Part.chans |||
        Part.ssgs ||| Part.ports ||| Part.bankMem ||| Part.dmcs ||| Part.trcs ||| Part.snap ||| Part.nis |||
        Part.fabHeld) s (s.restoreDone n x) := by
  unfold State.restoreDone
  extract_lets -merge -usedOnly x1 x2
  refine Changes.have (x := x1) ?_ fun h3 => ?_
  · unfold x1
    exact ((State.issue_changes _ _ _ _).mono).then (State.loadGang_changes _ _ _)
  clear_value x1
  refine Changes.have (x := x2) ?_ fun h4 => ?_
  · unfold x2
    exact h3.then (State.updEng_changes _ _ _)
  clear_value x2
  refine Changes.ite ?_ ?_
  · exact ((State.errAt_changes _ _ _).mono).then (State.programStop_changes _ _ _)
  · exact (h4.then (State.setPc_changes _ _ _)).then (State.stepCount_changes _ _)

theorem State.brSettled_changes (s : State) (n : Nat) (x : Entry) :
    Changes (Part.regs ||| Part.bus ||| Part.ctxs ||| Part.engs ||| Part.bays ||| Part.chans ||| Part.ssgs |||
        Part.ports ||| Part.dmcs ||| Part.trcs ||| Part.snap ||| Part.nis) s (s.brSettled n x) := by
  unfold State.brSettled
  extract_lets -merge -usedOnly x1 x2
  clear_value x1
  refine Changes.have (x := x2.2) ?_ fun h3 => ?_
  · unfold x2
    exact (State.takeCond_changes _ _ _ _).mono
  clear_value x2
  exact h3.then (State.jump_changes _ _ _ _ _)

theorem State.brSpec_changes (s : State) (n : Nat) (x : Entry) :
    Changes (Part.regs ||| Part.bus ||| Part.ctxs ||| Part.engs ||| Part.bays ||| Part.chans ||| Part.ssgs |||
        Part.ports ||| Part.dmcs ||| Part.trcs ||| Part.snap ||| Part.nis) s (s.brSpec n x) := by
  unfold State.brSpec
  extract_lets -merge -usedOnly x1 x2 x3 x4 x5 x6 x7 x8
  clear_value x1
  clear_value x2
  clear_value x3
  clear_value x4
  clear_value x5
  clear_value x6
  clear_value x7
  refine Changes.have (x := x8) ?_ fun h9 => ?_
  · unfold x8
    exact (State.pushBranch_changes _ _ _).mono
  clear_value x8
  refine Changes.ite ?_ ?_
  · exact (State.waitFor_changes _ _ _ _).mono
  · refine Changes.ite ?_ ?_
    · exact (State.waitFor_changes _ _ _ _).mono
    · exact (h9.then (State.closeWin_changes _ _)).then (State.jump_changes _ _ _ _ _)

theorem State.brBody_changes (s : State) (n : Nat) (x : Entry) :
    Changes (Part.regs ||| Part.bus ||| Part.ctxs ||| Part.engs ||| Part.bays ||| Part.chans ||| Part.ssgs |||
        Part.ports ||| Part.dmcs ||| Part.trcs ||| Part.snap ||| Part.nis) s (s.brBody n x) := by
  unfold State.brBody
  extract_lets -merge -usedOnly x1
  clear_value x1
  refine Changes.ite ?_ ?_
  · refine Changes.ite ?_ ?_
    · exact (State.brSettled_changes _ _ _).mono
    · refine Changes.ite ?_ ?_
      · exact (State.brSpec_changes _ _ _).mono
      · refine Changes.ite ?_ ?_
        · exact (State.waitFor_changes _ _ _ _).mono
        · exact (State.brSettled_changes _ _ _).mono
  · refine Changes.ite ?_ ?_
    · exact (State.waitFor_changes _ _ _ _).mono
    · exact (State.brSettled_changes _ _ _).mono

theorem State.setStk_changes (s : State) (n : Nat) (stk : List Nat) :
    Changes (Part.regs ||| Part.engs) s (s.setStk n stk) := by
  unfold State.setStk
  exact ((State.updEng_changes _ _ _).mono).then (State.wrGang_changes _ _ _ _)

theorem State.callSettled_changes (s : State) (n : Nat) (x : Entry) :
    Changes (Part.fresh ||| Part.regs ||| Part.bus ||| Part.ctxs ||| Part.engs ||| Part.bays ||| Part.chans |||
        Part.ssgs ||| Part.ports ||| Part.bankMem ||| Part.dmcs ||| Part.trcs ||| Part.snap ||| Part.nis |||
        Part.fabHeld) s (s.callSettled n x) := by
  unfold State.callSettled
  extract_lets -merge -usedOnly x1 x2 x3 x4 x5
  clear_value x1
  refine Changes.have (x := x2.2) ?_ fun h6 => ?_
  · unfold x2
    exact (State.takeCond_changes _ _ _ _).mono
  clear_value x2
  clear_value x3
  refine Changes.have (x := x4) ?_ fun h7 => ?_
  · unfold x4
    exact h6
  clear_value x4
  refine Changes.have (x := x5) ?_ fun h8 => ?_
  · unfold x5
    refine Changes.ite ?_ ?_
    · exact h7.then (State.setStk_changes _ _ _)
    · exact h7
  clear_value x5
  refine Changes.ite ?_ ?_
  · exact ((State.errAt_changes _ _ _).mono).then (State.programStop_changes _ _ _)
  · exact h8.then (State.jump_changes _ _ _ _ _)

theorem State.callBody_changes (s : State) (n : Nat) (x : Entry) :
    Changes (Part.fresh ||| Part.regs ||| Part.bus ||| Part.ctxs ||| Part.engs ||| Part.bays ||| Part.chans |||
        Part.ssgs ||| Part.ports ||| Part.bankMem ||| Part.dmcs ||| Part.trcs ||| Part.snap ||| Part.nis |||
        Part.fabHeld) s (s.callBody n x) := by
  unfold State.callBody
  refine Changes.ite ?_ ?_
  · exact (State.waitFor_changes _ _ _ _).mono
  · exact (State.callSettled_changes _ _ _).mono

theorem State.retSettled_changes (s : State) (n : Nat) (x : Entry) :
    Changes (Part.fresh ||| Part.regs ||| Part.bus ||| Part.ctxs ||| Part.engs ||| Part.bays ||| Part.chans |||
        Part.ssgs ||| Part.ports ||| Part.bankMem ||| Part.dmcs ||| Part.trcs ||| Part.snap ||| Part.nis |||
        Part.fabHeld) s (s.retSettled n x) := by
  unfold State.retSettled
  extract_lets -merge -usedOnly x1 x2 x3 x4 x5 x6
  clear_value x1
  refine Changes.have (x := x2.2) ?_ fun h7 => ?_
  · unfold x2
    exact (State.takeCond_changes _ _ _ _).mono
  clear_value x2
  clear_value x3
  clear_value x4
  refine Changes.have (x := x5) ?_ fun h8 => ?_
  · unfold x5
    exact h7
  clear_value x5
  refine Changes.have (x := x6) ?_ fun h9 => ?_
  · unfold x6
    refine Changes.ite ?_ ?_
    · exact h8.then (State.setStk_changes _ _ _)
    · exact h8
  clear_value x6
  refine Changes.ite ?_ ?_
  · exact ((State.errAt_changes _ _ _).mono).then (State.programStop_changes _ _ _)
  · exact h9.then (State.jump_changes _ _ _ _ _)

theorem State.retBody_changes (s : State) (n : Nat) (x : Entry) :
    Changes (Part.fresh ||| Part.regs ||| Part.bus ||| Part.ctxs ||| Part.engs ||| Part.bays ||| Part.chans |||
        Part.ssgs ||| Part.ports ||| Part.bankMem ||| Part.dmcs ||| Part.trcs ||| Part.snap ||| Part.nis |||
        Part.fabHeld) s (s.retBody n x) := by
  unfold State.retBody
  refine Changes.ite ?_ ?_
  · exact (State.waitFor_changes _ _ _ _).mono
  · exact (State.retSettled_changes _ _ _).mono

theorem State.setCnt_changes (s : State) (n : Nat) (k : Nat) (v : Nat) :
    Changes Part.engs s (s.setCnt n k v) := by
  unfold State.setCnt
  exact (State.updEng_changes _ _ _).mono

theorem State.heldBrDone_changes (s : State) (n : Nat) (x : Entry) :
    Changes (Part.regs ||| Part.bus ||| Part.ctxs ||| Part.engs ||| Part.bays ||| Part.chans ||| Part.ssgs |||
        Part.ports ||| Part.dmcs ||| Part.trcs ||| Part.snap ||| Part.nis) s (s.heldBrDone n x) := by
  unfold State.heldBrDone
  extract_lets -merge -usedOnly x1 x2 x3
  clear_value x1
  clear_value x2
  refine Changes.have (x := x3) ?_ fun h4 => ?_
  · unfold x3
    exact (State.updEng_changes _ _ _).mono
  clear_value x3
  exact h4.then (State.brSettled_changes _ _ _)

theorem State.takeIrq_changes (s : State) (n : Nat) (w : Nat) (c : Nat) :
    Changes (Part.regs ||| Part.ctxs ||| Part.engs ||| Part.chans ||| Part.ssgs ||| Part.snap) s (s.takeIrq n w c) := by
  unfold State.takeIrq
  extract_lets -merge -usedOnly x1 x2 x3 x4
  clear_value x1
  refine Changes.have (x := x2) ?_ fun h5 => ?_
  · unfold x2
    exact ((State.endHold_changes _ _ _).mono).then (State.holdFor_changes _ _ _)
  clear_value x2
  refine Changes.have (x := x3) ?_ fun h6 => ?_
  · unfold x3
    exact h5.then (State.updEng_changes _ _ _)
  clear_value x3
  refine Changes.have (x := x4) ?_ fun h7 => ?_
  · unfold x4
    exact h6.then (State.wrGang_changes _ _ _ _)
  clear_value x4
  exact h7.then (State.setPc_changes _ _ _)

theorem State.svcIrq_changes (s : State) (n : Nat) (c : Nat) :
    Changes (Part.regs ||| Part.engs) s (s.svcIrq n c) := by
  unfold State.svcIrq
  extract_lets -merge -usedOnly x1 x2 x3 x4
  refine Changes.have (x := x1) ?_ fun h5 => ?_
  · unfold x1
    exact (State.loadGang_changes _ _ _).mono
  clear_value x1
  refine Changes.have (x := x2) ?_ fun h6 => ?_
  · unfold x2
    exact (h5.then (State.wrGang_changes _ _ _ _)).then (State.wrGang_changes _ _ _ _)
  clear_value x2
  refine Changes.have (x := x3) ?_ fun h7 => ?_
  · unfold x3
    exact h6.then (State.updEng_changes _ _ _)
  clear_value x3
  refine Changes.have (x := x4) ?_ fun h8 => ?_
  · unfold x4
    exact h7.then (State.wrGang_changes _ _ _ _)
  clear_value x4
  exact h8.then (State.setPc_changes _ _ _)

/-! ## Machine/VectorPath -/

theorem State.endData_changes (s : State) (n : Nat) (w : Nat) :
    Changes (Part.regs ||| Part.ctxs ||| Part.engs ||| Part.chans ||| Part.ssgs ||| Part.snap) s (s.endData n w) := by
  unfold State.endData
  split
  · exact Changes.refl _ _
  · exact (State.endHold_changes _ _ _).mono

theorem State.tableAsk_changes (s : State) (h : Nat) (a : Nat) :
    Changes (Part.regs ||| Part.bus ||| Part.engs ||| Part.bankMem ||| Part.banks ||| Part.nis ||| Part.dirc |||
        Part.bankJoins ||| Part.homes ||| Part.bankUe) s (s.tableAsk h a) := by
  unfold State.tableAsk
  refine Changes.ite ?_ ?_
  · exact Changes.refl _ _
  · exact (State.bankHome_changes _ _ _).mono

theorem State.tableFill_changes (s : State) (m : Nat) (a : Nat) :
    Changes Part.engs s (s.tableFill m a) := by
  unfold State.tableFill
  extract_lets -merge -usedOnly x1 x2
  clear_value x1
  clear_value x2
  exact (State.updEng_changes _ _ _).mono

theorem State.streamFill_changes (s : State) (m : Nat) (line : Nat) (as_ : List Nat) (e : Ecc) :
    Changes (Part.fresh ||| Part.regs ||| Part.ctxs ||| Part.engs ||| Part.dram ||| Part.poison |||
        Part.dmcs) s ((s.streamFill m line as_ e).snd) := by
  unfold State.streamFill
  extract_lets -merge -usedOnly x1
  refine Changes.have (x := x1.2) ?_ fun h2 => ?_
  · unfold x1
    exact (State.dramNow_changes _ _ _ _ _).mono
  clear_value x1
  split
  · refine Changes.mk_snd ?_
    exact h2
  · refine Changes.mk_snd ?_
    exact h2.then (State.updEng_changes _ _ _)

theorem State.streamAhead_changes (s : State) (m : Nat) (k : Nat) (eccs : List Ecc) :
    Changes (Part.fresh ||| Part.regs ||| Part.ctxs ||| Part.engs ||| Part.dram ||| Part.poison |||
        Part.dmcs) s (s.streamAhead m k eccs) := by
  unfold State.streamAhead
  split
  · extract_lets -merge -usedOnly x1 x2
    clear_value x1
    clear_value x2
    refine Changes.each ?_ ?_
    · exact Changes.refl _ _
    · intro t3 a4 h5
      refine Changes.ite ?_ ?_
      · exact h5.then (State.streamFill_changes _ _ _ _ _)
      · exact h5.then (State.wakeDram_changes _ _)
  · exact Changes.refl _ _

theorem State.fvpFlush_changes (s : State) (h : Nat) (p : Nat) :
    Changes (Part.regs ||| Part.ports) s ((s.fvpFlush h p).snd) := by
  unfold State.fvpFlush
  refine Changes.ite_snd ?_ ?_
  · refine Changes.mk_snd ?_
    exact (State.setPortQ_changes _ _ _ _).mono
  · refine Changes.mk_snd ?_
    exact Changes.refl _ _

theorem State.engTableWrite_changes (s : State) (n : Nat) (w : Nat) (v : Nat) :
    Changes (Part.regs ||| Part.fsets ||| Part.lmaps ||| Part.scr) s ((s.engTableWrite n w v).snd) := by
  unfold State.engTableWrite
  refine Changes.ite_snd ?_ ?_
  · refine Changes.mk_snd ?_
    refine Changes.ite ?_ ?_
    · exact (State.scrPut_changes _ _ _ _).mono
    · refine Changes.ite ?_ ?_
      · exact (State.lmapPut_changes _ _ _ _ _).mono
      · exact (State.fsetPut_changes _ _ _ _ _).mono
  · refine Changes.mk_snd ?_
    exact (State.setOn_changes _ _).mono

theorem State.selWrite_changes (s : State) (c : Nat) (v : Nat) :
    Changes (Part.regs ||| Part.chans) s ((s.selWrite c v).snd) := by
  unfold State.selWrite
  refine Changes.ite_snd ?_ ?_
  · refine Changes.mk_snd ?_
    exact (State.selPut_changes _ _ _).mono
  · refine Changes.mk_snd ?_
    exact (State.setOn_changes _ _).mono

/-! ## Machine/Dram -/

theorem State.dramWriteOut_changes (s : State) (n : Nat) (i : Nat) (o : DramOp) (e : Ecc) :
    Changes (Part.regs ||| Part.bus ||| Part.ctxs ||| Part.dram ||| Part.poison ||| Part.dmcs |||
        Part.nis) s (s.dramWriteOut n i o e) := by
  unfold State.dramWriteOut
  extract_lets -merge -usedOnly x1 x2 x3 x4 x5 x6 x7 x8
  clear_value x1
  refine Changes.have (x := x2) ?_ fun h9 => ?_
  · unfold x2
    exact ((State.updDmc_changes _ _ _).mono).then (State.dramExec_changes _ _ _ _)
  clear_value x2
  clear_value x3
  refine Changes.have (x := x4) ?_ fun h10 => ?_
  · unfold x4
    exact h9.then (State.updDmc_changes _ _ _)
  clear_value x4
  clear_value x5
  clear_value x6
  refine Changes.have (x := x7) ?_ fun h11 => ?_
  · unfold x7
    refine Changes.each ?_ ?_
    · exact h10
    · intro t12 a13 h14
      exact h14.then (State.readReturn_changes _ _ _ _)
  clear_value x7
  refine Changes.have (x := x8) ?_ fun h15 => ?_
  · unfold x8
    exact h11.then (State.updDmc_changes _ _ _)
  clear_value x8
  refine Changes.ite ?_ ?_
  · exact h11
  · refine Changes.ite ?_ ?_
    · exact h15.then (State.dmcDrained_changes _ _)
    · exact h15

theorem State.holdDmc_changes (s : State) (n : Nat) (off : Nat) (v : Nat) :
    Changes Part.dmcs s (s.holdDmc n off v) := by
  unfold State.holdDmc
  exact (State.updDmc_changes _ _ _).mono

theorem State.fspRefuse_changes (s : State) (n : Nat) :
    Changes (Part.regs ||| Part.dmcs) s (s.fspRefuse n) := by
  unfold State.fspRefuse
  exact (((State.setOn_changes _ _).mono).then (State.clr_changes _ _)).then (State.updDmc_changes _ _ _)

theorem State.fspStart_changes (s : State) (n : Nat) :
    Changes (Part.regs ||| Part.dmcs) s (s.fspStart n) := by
  unfold State.fspStart
  refine Changes.ite ?_ ?_
  · exact (State.fspRefuse_changes _ _).mono
  · exact ((((State.dropPass_changes _ _ _).mono).then (State.updDmc_changes _ _ _)).then (State.wr_changes _ _ _)).then (State.dmcDrain_changes _ _)

theorem State.fspRequest_changes (s : State) (n : Nat) :
    Changes (Part.regs ||| Part.dmcs) s (s.fspRequest n) := by
  unfold State.fspRequest
  extract_lets -merge -usedOnly x1 x2
  clear_value x1
  refine Changes.have (x := x2) ?_ fun h3 => ?_
  · unfold x2
    exact ((State.setOn_changes _ _).mono).then (State.updDmc_changes _ _ _)
  clear_value x2
  refine Changes.ite ?_ ?_
  · exact (State.fspRefuse_changes _ _).mono
  · refine Changes.ite ?_ ?_
    · exact (h3.then (State.dropPass_changes _ _ _)).then (State.fspStart_changes _ _)
    · refine Changes.ite ?_ ?_
      · exact h3.then (State.fspStart_changes _ _)
      · exact h3.then (State.updDmc_changes _ _ _)

theorem State.fspCtlWrite_changes (s : State) (n : Nat) (v : Nat) :
    Changes (Part.regs ||| Part.dmcs) s (s.fspCtlWrite n v) := by
  unfold State.fspCtlWrite
  extract_lets -merge -usedOnly x1 x2 x3
  clear_value x1
  refine Changes.have (x := x2) ?_ fun h4 => ?_
  · unfold x2
    exact ((State.wr_changes _ _ _).mono).then (State.wr_changes _ _ _)
  clear_value x2
  refine Changes.have (x := x3) ?_ fun h5 => ?_
  · unfold x3
    refine Changes.ite ?_ ?_
    · exact h4.then (State.clr_changes _ _)
    · exact h4
  clear_value x3
  refine Changes.ite ?_ ?_
  · exact (State.holdDmc_changes _ _ _ _).mono
  · refine Changes.ite ?_ ?_
    · exact h5.then (State.fspRequest_changes _ _)
    · exact h5

theorem State.dmcResume_changes (s : State) (n : Nat) :
    Changes (Part.regs ||| Part.dmcs) s (s.dmcResume n) := by
  unfold State.dmcResume
  extract_lets -merge -usedOnly x1
  refine Changes.have (x := x1) ?_ fun h2 => ?_
  · unfold x1
    exact (State.wr_changes _ _ _).mono
  clear_value x1
  refine Changes.ite ?_ ?_
  · exact h2.then (State.fspStart_changes _ _)
  · refine Changes.ite ?_ ?_
    · exact (h2.then (State.dropPass_changes _ _ _)).then (State.srEnter_changes _ _)
    · exact h2.then (State.updDmc_changes _ _ _)

theorem State.fspRateWrite_changes (s : State) (n : Nat) (k : Nat) (v : Nat) :
    Changes (Part.regs ||| Part.dmcs) s ((s.fspRateWrite n k v).snd) := by
  unfold State.fspRateWrite
  refine Changes.ite_snd ?_ ?_
  · refine Changes.mk_snd ?_
    exact Changes.refl _ _
  · refine Changes.ite_snd ?_ ?_
    · refine Changes.mk_snd ?_
      exact (State.holdDmc_changes _ _ _ _).mono
    · refine Changes.ite_snd ?_ ?_
      · refine Changes.mk_snd ?_
        exact Changes.refl _ _
      · refine Changes.mk_snd ?_
        exact ((State.wr_changes _ _ _).mono).then (State.clr_changes _ _)

theorem State.oscCheck_changes (s : State) (n : Nat) (drift : Nat) :
    Changes (Part.regs ||| Part.dmcs) s (s.oscCheck n drift) := by
  unfold State.oscCheck
  extract_lets -merge -usedOnly x1 x2
  refine Changes.have (x := x1) ?_ fun h3 => ?_
  · unfold x1
    exact (State.wr_changes _ _ _).mono
  clear_value x1
  clear_value x2
  refine Changes.ite ?_ ?_
  · exact ((h3.then (State.count_changes _ _ _)).then (State.clr_changes _ _)).then (State.updDmc_changes _ _ _)
  · exact h3

theorem State.requeue_changes (s : State) (c : Nat) :
    Changes (Part.fresh ||| Part.regs ||| Part.bus ||| Part.ctxs ||| Part.engs ||| Part.bays ||| Part.chans |||
        Part.ssgs ||| Part.bankMem ||| Part.dmcs ||| Part.trcs ||| Part.snap ||| Part.time ||| Part.nis |||
        Part.fabHeld) s (s.requeue c) := by
  unfold State.requeue
  extract_lets -merge -usedOnly x1 x2 x3 x4
  clear_value x1
  refine Changes.have (x := x2) ?_ fun h5 => ?_
  · unfold x2
    exact (State.stopJob_changes _ _).mono
  clear_value x2
  refine Changes.have (x := x3) ?_ fun h6 => ?_
  · unfold x3
    refine Changes.each ?_ ?_
    · exact h5
    · intro t7 a8 h9
      refine Changes.then ?_ (State.freeSlot_changes _ _)
      refine Changes.then ?_ (State.sumpGive_changes _ _ _)
      refine Changes.each ?_ ?_
      · exact h9
      · intro t10 a11 h12
        exact h12.then (State.freeVec_changes _ _ _)
  clear_value x3
  refine Changes.have (x := x4) ?_ fun h13 => ?_
  · unfold x4
    refine Changes.each ?_ ?_
    · exact h6
    · intro t14 a15 h16
      extract_lets -merge -usedOnly x17
      clear_value x17
      exact (h16.then (State.fpGive_changes _ _ _)).then (State.updBay_changes _ _ _)
  clear_value x4
  exact (h13.then (State.dropStarts_changes _ _)).then (State.updFront_changes _ _ _)

theorem State.dramLost_changes (s : State) (h : Nat) :
    Changes (Part.fresh ||| Part.regs ||| Part.bus ||| Part.ctxs ||| Part.engs ||| Part.bays ||| Part.chans |||
        Part.ssgs ||| Part.bankMem ||| Part.dmcs ||| Part.trcs ||| Part.snap ||| Part.time ||| Part.nis |||
        Part.fabHeld) s (s.dramLost h) := by
  unfold State.dramLost
  refine Changes.each ?_ ?_
  · exact Changes.refl _ _
  · intro t1 a2 h3
    split
    · refine Changes.ite ?_ ?_
      · refine Changes.ite ?_ ?_
        · exact h3.then (State.requeue_changes _ _)
        · refine Changes.ite ?_ ?_
          · exact (h3.then (State.failFront_changes _ _ _ _)).then (State.stopJob_changes _ _)
          · refine Changes.ite ?_ ?_
            · exact h3.then (State.failFront_changes _ _ _ _)
            · exact h3.then (State.finishFront_changes _ _ _ _)
      · exact h3
    · exact h3

theorem State.reArrive_changes (s : State) (h : Nat) (o : DramOp) :
    Changes (Part.regs ||| Part.bus ||| Part.dmcs ||| Part.nis) s (s.reArrive h o) := by
  unfold State.reArrive
  extract_lets -merge -usedOnly x1
  refine Changes.have (x := x1) ?_ fun h2 => ?_
  · unfold x1
    exact (State.dramAddrErr_changes _ _ _).mono
  clear_value x1
  refine Changes.ite ?_ ?_
  · exact (State.dramArrive_changes _ _ _).mono
  · refine Changes.ite ?_ ?_
    · exact h2.then (State.dramAnswer_changes _ _ _ _)
    · exact h2

theorem State.flushDmc_changes (s : State) (n : Nat) (bad : List Nat) :
    Changes (Part.regs ||| Part.bus ||| Part.ctxs ||| Part.dram ||| Part.poison ||| Part.dmcs |||
        Part.nis) s (s.flushDmc n bad) := by
  unfold State.flushDmc
  extract_lets -merge -usedOnly x1 x2 x3 x4
  refine Changes.have (x := x1) ?_ fun h5 => ?_
  · unfold x1
    exact (State.drainAll_changes _ _ _).mono
  clear_value x1
  clear_value x2
  refine Changes.have (x := x3) ?_ fun h6 => ?_
  · unfold x3
    exact h5.then (State.updDmc_changes _ _ _)
  clear_value x3
  refine Changes.have (x := x4) ?_ fun h7 => ?_
  · unfold x4
    exact (h6.then (State.clr_changes _ _)).then (State.clr_changes _ _)
  clear_value x4
  refine Changes.each ?_ ?_
  · exact h7
  · intro t8 a9 h10
    exact h10.then (State.readReturn_changes _ _ _ _)

theorem State.dramOut_changes (s : State) (h : Nat) :
    Changes (Part.regs ||| Part.bus ||| Part.out ||| Part.heldOut ||| Part.fns ||| Part.ctxs ||| Part.dram |||
        Part.poison ||| Part.dmcs ||| Part.nis) s (s.dramOut h) := by
  unfold State.dramOut
  extract_lets -merge -usedOnly x1 x2 x3 x4
  clear_value x1
  refine Changes.have (x := x2) ?_ fun h5 => ?_
  · unfold x2
    refine Changes.each ?_ ?_
    · exact Changes.refl _ _
    · intro t6 a7 h8
      exact (h8.then (State.flushDmc_changes _ _ _)).then (State.clr_changes _ _)
  clear_value x2
  refine Changes.have (x := x3) ?_ fun h9 => ?_
  · unfold x3
    exact Changes.put h5 rfl (State.canonical_of (dram := fun h => by first | exact Memory.wf_write _ _ _ h | exact Memory.wf_writeN _ _ _ _ h | exact Memory.wf_writeMasked _ _ _ _ _ h | exact Memory.wf_filter _ _ h)) rfl rfl
  clear_value x3
  refine Changes.have (x := x4) ?_ fun h10 => ?_
  · unfold x4
    exact ((h9.then (State.wr_changes _ _ _)).then (State.clr_changes _ _)).then (State.postRes_changes _ _ _ _)
  clear_value x4
  refine Changes.each ?_ ?_
  · exact h10
  · intro t11 a12 h13
    exact h13.then (State.reArrive_changes _ _ _)

theorem State.dramRemove_changes (s : State) (n : Nat) (bad : List Nat) :
    Changes (Part.fresh ||| Part.regs ||| Part.bus ||| Part.out ||| Part.heldOut ||| Part.fns ||| Part.ctxs |||
        Part.engs ||| Part.bays ||| Part.chans ||| Part.ssgs ||| Part.bankMem ||| Part.dram ||| Part.poison |||
        Part.restoring ||| Part.dmcs ||| Part.trcs ||| Part.snap ||| Part.time ||| Part.nis |||
        Part.fabHeld) s (s.dramRemove n bad) := by
  unfold State.dramRemove
  extract_lets -merge -usedOnly x1 x2 x3 x4 x5 x6 x7 x8 x9 x10
  clear_value x1
  clear_value x2
  refine Changes.have (x := x3) ?_ fun h11 => ?_
  · unfold x3
    exact ((State.markFenced_changes _ _ _).mono).then (State.flushDmc_changes _ _ _)
  clear_value x3
  refine Changes.have (x := x4) ?_ fun h12 => ?_
  · unfold x4
    exact ((h11.then (State.clr_changes _ _)).then (State.wr_changes _ _ _)).then (State.wr_changes _ _ _)
  clear_value x4
  clear_value x5
  clear_value x6
  refine Changes.have (x := x7) ?_ fun h13 => ?_
  · unfold x7
    exact Changes.put h12 rfl (State.canonical_of (dram := fun h => by first | exact Memory.wf_write _ _ _ h | exact Memory.wf_writeN _ _ _ _ h | exact Memory.wf_writeMasked _ _ _ _ _ h | exact Memory.wf_filter _ _ h)) rfl rfl
  clear_value x7
  refine Changes.have (x := x8) ?_ fun h14 => ?_
  · unfold x8
    exact (h13.then (State.wr_changes _ _ _)).then (State.wr_changes _ _ _)
  clear_value x8
  refine Changes.have (x := x9) ?_ fun h15 => ?_
  · unfold x9
    refine Changes.ite ?_ ?_
    · exact (h14.then (State.wr_changes _ _ _)).then (State.postRes_changes _ _ _ _)
    · exact h12.then (State.dramOut_changes _ _)
  clear_value x9
  refine Changes.have (x := x10) ?_ fun h16 => ?_
  · unfold x10
    refine Changes.each ?_ ?_
    · exact h15
    · intro t17 a18 h19
      exact h19.then (State.reArrive_changes _ _ _)
  clear_value x10
  exact (h16.then (State.dramLost_changes _ _)).then (State.updDegraded_changes _)

theorem State.srRequest_changes (s : State) (n : Nat) :
    Changes (Part.regs ||| Part.dmcs) s (s.srRequest n) := by
  unfold State.srRequest
  refine Changes.ite ?_ ?_
  · exact (State.holdDmc_changes _ _ _ _).mono
  · refine Changes.ite ?_ ?_
    · exact ((State.setOn_changes _ _).mono).then (State.updDmc_changes _ _ _)
    · exact ((State.setOn_changes _ _).mono).then (State.updDmc_changes _ _ _)

theorem State.dmcPut_changes (s : State) (n : Nat) (o : Nat) (v : Nat) :
    Changes (Part.regs ||| Part.dmcs) s ((s.dmcPut n o v).snd) := by
  unfold State.dmcPut
  extract_lets -merge -usedOnly x1 x2 x3
  refine Changes.have (x := x1) ?_ fun h4 => ?_
  · unfold x1
    refine Changes.ite ?_ ?_
    · exact (State.wakeDram_changes _ _).mono
    · exact Changes.refl _ _
  clear_value x1
  refine Changes.have (x := x2) ?_ fun h5 => ?_
  · unfold x2
    exact (h4.then (State.wr_changes _ _ _)).then (State.wr_changes _ _ _)
  clear_value x2
  refine Changes.have (x := x3) ?_ fun h6 => ?_
  · unfold x3
    exact ((State.wr_changes _ _ _).mono).then (State.wr_changes _ _ _)
  clear_value x3
  refine Changes.ite_snd ?_ ?_
  · refine Changes.ite_snd ?_ ?_
    · refine Changes.mk_snd ?_
      exact h4.then (State.holdDmc_changes _ _ _ _)
    · refine Changes.mk_snd ?_
      refine Changes.ite ?_ ?_
      · exact h5.then (State.srRequest_changes _ _)
      · exact h5
  · refine Changes.ite_snd ?_ ?_
    · refine Changes.mk_snd ?_
      exact (State.holdDmc_changes _ _ _ _).mono
    · refine Changes.ite_snd ?_ ?_
      · refine Changes.mk_snd ?_
        exact (State.fspCtlWrite_changes _ _ _).mono
      · refine Changes.ite_snd ?_ ?_
        · exact (State.fspRateWrite_changes _ _ _ _).mono
        · refine Changes.ite_snd ?_ ?_
          · refine Changes.ite_snd ?_ ?_
            · refine Changes.mk_snd ?_
              exact Changes.refl _ _
            · refine Changes.mk_snd ?_
              exact h6
          · refine Changes.mk_snd ?_
            exact (State.storeWord_changes _ _ _).mono

theorem State.heldDmc_changes (s : State) (n : Nat) (e : Nat × Nat) :
    Changes (Part.regs ||| Part.dmcs) s (s.heldDmc n e) := by
  unfold State.heldDmc
  refine Changes.ite ?_ ?_
  · exact (State.srRequest_changes _ _).mono
  · exact (State.dmcPut_changes _ _ _ _).mono

theorem State.srLeave_changes (s : State) (n : Nat) (drift : Nat) :
    Changes (Part.regs ||| Part.bus ||| Part.dmcs ||| Part.nis) s (s.srLeave n drift) := by
  unfold State.srLeave
  extract_lets -merge -usedOnly x1 x2 x3 x4 x5
  clear_value x1
  refine Changes.have (x := x2) ?_ fun h6 => ?_
  · unfold x2
    exact ((State.updDmc_changes _ _ _).mono).then (State.clr_changes _ _)
  clear_value x2
  refine Changes.have (x := x3) ?_ fun h7 => ?_
  · unfold x3
    exact ((h6.then (State.wr_changes _ _ _)).then (State.setOn_changes _ _)).then (State.oscCheck_changes _ _ _)
  clear_value x3
  refine Changes.have (x := x4) ?_ fun h8 => ?_
  · unfold x4
    refine Changes.each ?_ ?_
    · exact h7
    · intro t9 a10 h11
      exact h11.then (State.heldDmc_changes _ _ _)
  clear_value x4
  refine Changes.have (x := x5) ?_ fun h12 => ?_
  · unfold x5
    refine Changes.ite ?_ ?_
    · exact h8.then (State.fspStart_changes _ _)
    · exact h8
  clear_value x5
  exact h12.then (State.letIn_changes _ _)

theorem State.srNow_changes (s : State) (n : Nat) :
    Changes (Part.fresh ||| Part.regs ||| Part.bus ||| Part.dmcs ||| Part.nis) s (s.srNow n) := by
  unfold State.srNow
  extract_lets -merge -usedOnly x1 x2
  refine Changes.have (x := x1) ?_ fun h3 => ?_
  · unfold x1
    exact (State.wakeDram_changes _ _).mono
  clear_value x1
  refine Changes.have (x := x2.2) ?_ fun h4 => ?_
  · unfold x2
    exact h3.then (State.free_changes _ _)
  clear_value x2
  refine Changes.ite ?_ ?_
  · exact h4.then (State.srLeave_changes _ _ _)
  · exact h3

theorem State.winRead_changes (s : State) (r : Req) (h : Nat) (off : Nat) (len : Nat) :
    Changes (Part.fresh ||| Part.regs ||| Part.bus ||| Part.dmcs ||| Part.nis) s (s.winRead r h off len) := by
  unfold State.winRead
  extract_lets -merge -usedOnly x1
  clear_value x1
  refine Changes.ite ?_ ?_
  · exact Changes.refl _ _
  · refine Changes.ite ?_ ?_
    · exact (State.setBus_changes _ _ _).mono
    · exact (State.dramReadReq_changes _ _ _ _ _ _ _).mono

theorem State.winNowAt_changes (s : State) (h : Nat) (a : Nat) :
    Changes (Part.fresh ||| Part.regs ||| Part.bus ||| Part.ctxs ||| Part.dram ||| Part.poison ||| Part.dmcs |||
        Part.nis) s ((s.winNowAt h a).snd) := by
  unfold State.winNowAt
  extract_lets -merge -usedOnly x1 x2
  refine Changes.have (x := x1.2) ?_ fun h3 => ?_
  · unfold x1
    exact ((State.srNow_changes _ _).mono).then (State.freeEcc_changes _)
  clear_value x1
  refine Changes.have (x := x2.2) ?_ fun h4 => ?_
  · unfold x2
    exact h3.then (State.dramNow_changes _ _ _ _ _)
  clear_value x2
  refine Changes.ite_snd ?_ ?_
  · refine Changes.mk_snd ?_
    exact Changes.refl _ _
  · split
    · refine Changes.mk_snd ?_
      exact h4
    · refine Changes.mk_snd ?_
      exact h4.then (State.setOn_changes _ _)

theorem State.winNow_changes (s : State) (h : Nat) (off : Nat) :
    Changes (Part.fresh ||| Part.regs ||| Part.bus ||| Part.ctxs ||| Part.dram ||| Part.poison ||| Part.dmcs |||
        Part.nis) s ((s.winNow h off).snd) := by
  unfold State.winNow
  exact (State.winNowAt_changes _ _ _).mono

theorem State.winWrite_changes (s : State) (h : Nat) (off : Nat) (len : Nat) (v : Nat) :
    Changes (Part.regs ||| Part.bus ||| Part.dmcs ||| Part.nis) s (s.winWrite h off len v) := by
  unfold State.winWrite
  extract_lets -merge -usedOnly x1
  clear_value x1
  refine Changes.ite ?_ ?_
  · exact Changes.refl _ _
  · refine Changes.ite ?_ ?_
    · exact ((State.dramAddrErr_changes _ _ _).mono).then (State.setOn_changes _ _)
    · exact (State.dramWriteReq_changes _ _ _ _ _ _ _).mono

/-! ## Machine/Channel -/

theorem State.chnCfgPut_changes (s : State) (c : Nat) (v : Nat) :
    Changes (Part.regs ||| Part.chans) s (s.chnCfgPut c v) := by
  unfold State.chnCfgPut
  extract_lets -merge -usedOnly x1 x2 x3 x4
  refine Changes.have (x := x1) ?_ fun h5 => ?_
  · unfold x1
    exact (State.storeWord_changes _ _ _).mono
  clear_value x1
  clear_value x2
  refine Changes.have (x := x3) ?_ fun h6 => ?_
  · unfold x3
    refine Changes.ite ?_ ?_
    · exact (h5.then (State.setOn_changes _ _)).then (State.clr_changes _ _)
    · exact h5
  clear_value x3
  refine Changes.have (x := x4) ?_ fun h7 => ?_
  · unfold x4
    refine Changes.ite ?_ ?_
    · exact h6.then (State.updChan_changes _ _ _)
    · exact h6
  clear_value x4
  exact (h7.then (State.checkRate_changes _ _)).then (State.updSsg_changes _ _)

theorem State.chnCfgWrite_changes (s : State) (c : Nat) (dsk : Bool) (v : Nat) :
    Changes (Part.regs ||| Part.chans) s ((s.chnCfgWrite c dsk v).snd) := by
  unfold State.chnCfgWrite
  extract_lets -merge -usedOnly x1
  refine Changes.have (x := x1) ?_ fun h2 => ?_
  · unfold x1
    refine Changes.ite ?_ ?_
    · exact Changes.refl _ _
    · exact (State.storeWord_changes _ _ _).mono
  clear_value x1
  refine Changes.ite_snd ?_ ?_
  · refine Changes.mk_snd ?_
    exact (State.setOn_changes _ _).mono
  · refine Changes.ite_snd ?_ ?_
    · refine Changes.mk_snd ?_
      exact (State.storeWord_changes _ _ _).mono
    · refine Changes.mk_snd ?_
      exact (State.chnCfgPut_changes _ _ _).mono

theorem State.ssgCfgWrite_changes (s : State) (b : Nat) (g : Nat) (dly : Bool) (v : Nat) :
    Changes Part.regs s ((s.ssgCfgWrite b g dly v).snd) := by
  unfold State.ssgCfgWrite
  extract_lets -merge -usedOnly x1
  refine Changes.have (x := x1) ?_ fun h2 => ?_
  · unfold x1
    exact (State.storeWord_changes _ _ _).mono
  clear_value x1
  refine Changes.ite_snd ?_ ?_
  · refine Changes.mk_snd ?_
    refine Changes.then ?_ (State.updSsg_changes _ _)
    refine Changes.ite ?_ ?_
    · exact h2.then (State.clr_changes _ _)
    · exact h2
  · refine Changes.mk_snd ?_
    exact Changes.refl _ _

theorem State.tsetHold_changes (s : State) (r : Req) (c : Nat) (k : Nat) (w : Nat) (v : Nat) :
    Changes (Part.regs ||| Part.holds) s ((s.tsetHold r c k w v).snd) := by
  unfold State.tsetHold
  refine Changes.ite_snd ?_ ?_
  · refine Changes.mk_snd ?_
    exact (State.setHeld_changes _ _ _ _).mono
  · refine Changes.mk_snd ?_
    exact (State.setOn_changes _ _).mono

theorem State.tsetCommit_changes (s : State) (r : Req) (c : Nat) (k : Nat) (v : Nat) :
    Changes (Part.regs ||| Part.holds ||| Part.tsets) s ((s.tsetCommit r c k v).snd) := by
  unfold State.tsetCommit
  extract_lets -merge -usedOnly x1 x2
  clear_value x1
  clear_value x2
  refine Changes.ite_snd ?_ ?_
  · refine Changes.mk_snd ?_
    refine Changes.then ?_ (State.tsetPut_changes _ _ _ _ _)
    refine Changes.each ?_ ?_
    · exact Changes.refl _ _
    · intro t3 a4 h5
      exact h5.then (State.setHeld_changes _ _ _ _)
  · refine Changes.mk_snd ?_
    exact (State.setOn_changes _ _).mono

theorem State.calBase_changes (s : State) (sum : Int) :
    Changes Part.fresh s ((s.calBase sum).snd) := by
  unfold State.calBase
  extract_lets -merge -usedOnly x1
  clear_value x1
  refine Changes.ite_snd ?_ ?_
  · refine Changes.mk_snd ?_
    exact Changes.refl _ _
  · exact (State.free_changes _ _).mono

theorem State.calMeasure_changes (s : State) (c : Nat) (sums : List (Option Int)) (sph : Nat) :
    Changes (Part.fresh ||| Part.regs ||| Part.calRecs) s ((s.calMeasure c sums sph).snd) := by
  unfold State.calMeasure
  extract_lets -merge -usedOnly x1 x2 x3 x4 x5 x6 x7 x8
  clear_value x1
  refine Changes.have (x := x2) ?_ fun h9 => ?_
  · unfold x2
    refine Changes.ite ?_ ?_
    · exact (State.wr_changes _ _ _).mono
    · exact Changes.refl _ _
  clear_value x2
  clear_value x3
  refine Changes.have (x := x4.2) ?_ fun h10 => ?_
  · unfold x4
    refine Changes.foldl Prod.snd ?_ ?_
    · refine Changes.mk_snd ?_
      exact h9
    · intro b11 a12 h13
      try dsimp -zeta -iota -proj -eta only
      try dsimp -zeta -iota -proj -eta only at h13
      extract_lets -merge -usedOnly x14
      refine Changes.have (x := x14.2) ?_ fun h15 => ?_
      · unfold x14
        exact h13.then (State.calBase_changes _ _)
      clear_value x14
      refine Changes.mk_snd ?_
      exact h15
  clear_value x4
  clear_value x5
  refine Changes.have (x := x6) ?_ fun h16 => ?_
  · unfold x6
    exact h10.then (State.setCal_changes _ _ _)
  clear_value x6
  clear_value x7
  refine Changes.have (x := x8) ?_ fun h17 => ?_
  · unfold x8
    refine Changes.ite ?_ ?_
    · exact h16
    · exact h16.then (State.setCal_changes _ _ _)
  clear_value x8
  refine Changes.ite_snd ?_ ?_
  · refine Changes.mk_snd ?_
    exact (State.setOn_changes _ _).mono
  · refine Changes.ite_snd ?_ ?_
    · refine Changes.mk_snd ?_
      exact h9
    · refine Changes.mk_snd ?_
      exact h17.then (State.noteClamp_changes _ _ _)

theorem State.recHold_changes (s : State) (r : Req) (c : Nat) (w : Nat) (v : Nat) :
    Changes (Part.regs ||| Part.holds) s ((s.recHold r c w v).snd) := by
  unfold State.recHold
  refine Changes.ite_snd ?_ ?_
  · refine Changes.mk_snd ?_
    exact (State.setHeld_changes _ _ _ _).mono
  · refine Changes.mk_snd ?_
    exact (State.setOn_changes _ _).mono

theorem State.recCommit_changes (s : State) (r : Req) (c : Nat) (v : Nat) :
    Changes (Part.regs ||| Part.holds ||| Part.calRecs) s ((s.recCommit r c v).snd) := by
  unfold State.recCommit
  extract_lets -merge -usedOnly x1 x2 x3 x4
  clear_value x1
  clear_value x2
  refine Changes.have (x := x3) ?_ fun h5 => ?_
  · unfold x3
    refine Changes.each ?_ ?_
    · exact Changes.refl _ _
    · intro t6 a7 h8
      exact h8.then (State.setHeld_changes _ _ _ _)
  clear_value x3
  refine Changes.have (x := x4) ?_ fun h9 => ?_
  · unfold x4
    exact h5.then (State.setCal_changes _ _ _)
  clear_value x4
  refine Changes.ite_snd ?_ ?_
  · refine Changes.mk_snd ?_
    refine Changes.ite ?_ ?_
    · exact h9
    · exact h9.then (State.recompute_changes _ _ _)
  · refine Changes.mk_snd ?_
    exact (State.setOn_changes _ _).mono

/-! ## Machine/Compare -/

theorem State.updVec_changes (s : State) (n : Nat) (cyc : Nat) (f : Vec → Vec) :
    Changes Part.engs s (s.updVec n cyc f) := by
  unfold State.updVec
  exact (State.updEng_changes _ _ _).mono

theorem State.windowFails_changes (s : State) (c : Nat) (v : Vec) (w : Balls) (ex : Nat) :
    Changes Part.fresh s ((s.windowFails c v w ex).snd) := by
  unfold State.windowFails
  extract_lets -merge -usedOnly x1 x2
  clear_value x1
  refine Changes.have (x := x2.2) ?_ fun h3 => ?_
  · unfold x2
    exact (State.free_changes _ _).mono
  clear_value x2
  refine Changes.ite_snd ?_ ?_
  · refine Changes.mk_snd ?_
    exact Changes.refl _ _
  · refine Changes.ite_snd ?_ ?_
    · refine Changes.mk_snd ?_
      exact Changes.refl _ _
    · refine Changes.mk_snd ?_
      exact h3

theorem State.compareMask_changes (s : State) (n : Nat) (c : Nat) (v : Vec) (w : Balls) :
    Changes Part.fresh s ((s.compareMask n c v w).snd) := by
  unfold State.compareMask
  extract_lets -merge -usedOnly x1 x2 x3 x4 x5
  clear_value x1
  clear_value x2
  clear_value x3
  clear_value x4
  refine Changes.have (x := x5.2) ?_ fun h6 => ?_
  · unfold x5
    exact (State.windowFails_changes _ _ _ _ _).mono
  clear_value x5
  refine Changes.ite_snd ?_ ?_
  · refine Changes.mk_snd ?_
    exact h6
  · refine Changes.mk_snd ?_
    exact Changes.refl _ _

theorem State.countChan_changes (s : State) (v : Vec) (f : ChFail) :
    Changes Part.regs s (s.countChan v f) := by
  unfold State.countChan
  extract_lets -merge -usedOnly x1 x2 x3 x4 x5 x6
  clear_value x1
  clear_value x2
  refine Changes.have (x := x3) ?_ fun h7 => ?_
  · unfold x3
    refine Changes.ite ?_ ?_
    · exact ((State.wr_changes _ _ _).mono).then (State.setOn_changes _ _)
    · exact (State.wr_changes _ _ _).mono
  clear_value x3
  refine Changes.have (x := x4) ?_ fun h8 => ?_
  · unfold x4
    refine Changes.ite ?_ ?_
    · exact h7.then (State.setOn_changes _ _)
    · exact h7
  clear_value x4
  refine Changes.have (x := x5) ?_ fun h9 => ?_
  · unfold x5
    exact ((h8.then (State.setOn_changes _ _)).then (State.wr_changes _ _ _)).then (State.wr_changes _ _ _)
  clear_value x5
  refine Changes.have (x := x6) ?_ fun h10 => ?_
  · unfold x6
    exact (h9.then (State.wr_changes _ _ _)).then (State.wr_changes _ _ _)
  clear_value x6
  refine Changes.ite ?_ ?_
  · exact h8
  · exact (h10.then (State.wr_changes _ _ _)).then (State.wr_changes _ _ _)

theorem State.countChans_changes (s : State) (v : Vec) (fs : List ChFail) :
    Changes Part.regs s (s.countChans v fs) := by
  unfold State.countChans
  refine Changes.each ?_ ?_
  · exact Changes.refl _ _
  · intro t1 a2 h3
    exact h3.then (State.countChan_changes _ _ _)

theorem State.noteFail_changes (s : State) (n : Nat) (v : Vec) :
    Changes (Part.regs ||| Part.ctxs ||| Part.engs) s (s.noteFail n v) := by
  unfold State.noteFail
  extract_lets -merge -usedOnly x1 x2 x3 x4 x5
  refine Changes.have (x := x1) ?_ fun h6 => ?_
  · unfold x1
    exact (State.updVec_changes _ _ _ _).mono
  clear_value x1
  refine Changes.have (x := x2) ?_ fun h7 => ?_
  · unfold x2
    refine Changes.ite ?_ ?_
    · exact Changes.refl _ _
    · split
      · exact (h6.then (State.updJobEng_changes _ _ _ _)).then (State.updFront_changes _ _ _)
      · exact h6
  clear_value x2
  clear_value x3
  clear_value x4
  refine Changes.have (x := x5) ?_ fun h8 => ?_
  · unfold x5
    exact h7.then (State.updEng_changes _ _ _)
  clear_value x5
  refine Changes.ite ?_ ?_
  · exact h7
  · refine Changes.ite ?_ ?_
    · exact h8
    · exact h8.then (State.raiseGang_changes _ _ _)

theorem State.noteSites_changes (s : State) (n : Nat) (v : Vec) (fs : List ChFail) :
    Changes (Part.regs ||| Part.bus ||| Part.engs ||| Part.dmcs ||| Part.trcs ||| Part.snap |||
        Part.nis) s (s.noteSites n v fs) := by
  unfold State.noteSites
  refine Changes.each ?_ ?_
  · exact Changes.refl _ _
  · intro t1 a2 h3
    exact h3.then (State.onFail_changes _ _ _ _)

theorem State.dropEntries_changes (s : State) (c : Nat) (le : Nat) (n : Nat) (k : Nat) :
    Changes (Part.regs ||| Part.ctxs) s (s.dropEntries c le n k) := by
  unfold State.dropEntries
  extract_lets -merge -usedOnly x1
  refine Changes.have (x := x1) ?_ fun h2 => ?_
  · unfold x1
    refine Changes.ite ?_ ?_
    · exact ((State.count_changes _ _ _).mono).then (State.setOn_changes _ _)
    · exact Changes.refl _ _
  clear_value x1
  refine Changes.ite ?_ ?_
  · exact Changes.refl _ _
  · exact (h2.then (State.updJobEng_changes _ _ _ _)).then (State.updFront_changes _ _ _)

theorem State.putEntry_changes (s : State) (b : Nat) (e : FailEnt) (reserved : Bool) :
    Changes (Part.regs ||| Part.ctxs ||| Part.bays) s (s.putEntry b e reserved) := by
  unfold State.putEntry
  refine Changes.ite ?_ ?_
  · exact (State.updBay_changes _ _ _).mono
  · refine Changes.ite ?_ ?_
    · exact (State.dropEntries_changes _ _ _ _ _).mono
    · exact ((State.fpTake_changes _ _ _).mono).then (State.updBay_changes _ _ _)

theorem State.records_changes (s : State) (n : Nat) (b : Nat) (v : Vec) (fs : List ChFail) (tag : Option Nat) :
    Changes (Part.regs ||| Part.bays) s (s.records n b v fs tag) := by
  unfold State.records
  refine Changes.each ?_ ?_
  · exact Changes.refl _ _
  · intro t1 a2 h3
    extract_lets -merge -usedOnly x4
    clear_value x4
    exact h3.then (State.streamRecord_changes _ _ _ _ _)

theorem State.confirmed_changes (s : State) (n : Nat) (b : Nat) (v : Vec) (fs : List ChFail) (reserved : Bool) :
    Changes (Part.regs ||| Part.bus ||| Part.ctxs ||| Part.engs ||| Part.bays ||| Part.dmcs ||| Part.trcs ||| Part.snap |||
        Part.nis) s (s.confirmed n b v fs reserved) := by
  unfold State.confirmed
  extract_lets -merge -usedOnly x1 x2
  refine Changes.have (x := x1) ?_ fun h3 => ?_
  · unfold x1
    exact ((State.countChans_changes _ _ _).mono).then (State.noteFail_changes _ _ _)
  clear_value x1
  refine Changes.have (x := x2) ?_ fun h4 => ?_
  · unfold x2
    exact (h3.then (State.noteSites_changes _ _ _ _)).then (State.records_changes _ _ _ _ _ _)
  clear_value x2
  refine Changes.ite ?_ ?_
  · exact Changes.refl _ _
  · split
    · refine Changes.each ?_ ?_
      · exact h4
      · intro t5 a6 h7
        exact h7.then (State.putEntry_changes _ _ _ _)
    · exact h4

theorem State.freeKeys_changes (s : State) (n : Nat) (b : Nat) (v : Vec) (gone : Nat → Bool) :
    Changes (Part.regs ||| Part.engs) s (s.freeKeys n b v gone) := by
  unfold State.freeKeys
  extract_lets -merge -usedOnly x1
  clear_value x1
  exact ((State.fpGive_changes _ _ _).mono).then (State.updVec_changes _ _ _ _)

theorem State.sumpDone_changes (s : State) (n : Nat) (b : Nat) (v : Vec) :
    Changes (Part.regs ||| Part.bus ||| Part.ctxs ||| Part.engs ||| Part.bays ||| Part.dmcs ||| Part.trcs ||| Part.snap |||
        Part.nis) s (s.sumpDone n b v) := by
  unfold State.sumpDone
  extract_lets -merge -usedOnly x1 x2 x3 x4 x5
  clear_value x1
  refine Changes.have (x := x2) ?_ fun h6 => ?_
  · unfold x2
    exact (State.updVec_changes _ _ _ _).mono
  clear_value x2
  refine Changes.have (x := x4) ?_ fun h7 => ?_
  · unfold x4
    exact (h6.then (State.countChans_changes _ _ _)).then (State.noteFail_changes _ _ _)
  clear_value x4
  refine Changes.have (x := x5) ?_ fun h8 => ?_
  · unfold x5
    exact (h7.then (State.noteSites_changes _ _ _ _)).then (State.records_changes _ _ _ _ _ _)
  clear_value x5
  refine Changes.ite ?_ ?_
  · exact h6.then (State.sumpGive_changes _ _ _)
  · split
    · unfold x3
      exact (h6.then (State.records_changes _ _ _ _ _ _)).then (State.updEng_changes _ _ _)
    · unfold x3
      exact h8.then (State.updEng_changes _ _ _)

theorem State.siteDone_changes (s : State) (n : Nat) (b : Nat) (t : Nat) (v : Vec) :
    Changes (Part.regs ||| Part.bus ||| Part.ctxs ||| Part.engs ||| Part.bays ||| Part.dmcs ||| Part.trcs ||| Part.snap |||
        Part.nis) s (s.siteDone n b t v) := by
  unfold State.siteDone
  extract_lets -merge -usedOnly x1 x2 x3 x4 x5 x6 x7
  clear_value x1
  clear_value x2
  clear_value x3
  clear_value x4
  refine Changes.have (x := x5) ?_ fun h8 => ?_
  · unfold x5
    exact (State.updVec_changes _ _ _ _).mono
  clear_value x5
  refine Changes.have (x := x6) ?_ fun h9 => ?_
  · unfold x6
    exact h8.then (State.confirmed_changes _ _ _ _ _ _)
  clear_value x6
  refine Changes.have (x := x7) ?_ fun h10 => ?_
  · unfold x7
    exact h9.then (State.freeKeys_changes _ _ _ _ _)
  clear_value x7
  exact h10.then (State.updVec_changes _ _ _ _)

theorem State.sumpRest_changes (s : State) (n : Nat) (cyc : Nat) :
    Changes (Part.regs ||| Part.engs) s (s.sumpRest n cyc) := by
  unfold State.sumpRest
  split
  · refine Changes.ite ?_ ?_
    · exact ((State.sumpGive_changes _ _ _).mono).then (State.updVec_changes _ _ _ _)
    · exact Changes.refl _ _
  · exact Changes.refl _ _

theorem State.arrive_changes (s : State) (n : Nat) (c : Nat) (v : Vec) (r : Option (Nat × Bool)) :
    Changes (Part.regs ||| Part.bus ||| Part.ctxs ||| Part.engs ||| Part.bays ||| Part.dmcs ||| Part.trcs ||| Part.snap |||
        Part.nis) s (s.arrive n c v r) := by
  unfold State.arrive
  extract_lets -merge -usedOnly x1 x2 x3 x4 x5
  clear_value x1
  clear_value x2
  refine Changes.have (x := x3) ?_ fun h6 => ?_
  · unfold x3
    exact (State.updVec_changes _ _ _ _).mono
  clear_value x3
  refine Changes.have (x := x4) ?_ fun h7 => ?_
  · unfold x4
    split
    · refine Changes.ite ?_ ?_
      · exact h6.then (State.updVec_changes _ _ _ _)
      · exact h6
    · exact h6
  clear_value x4
  refine Changes.have (x := x5) ?_ fun h8 => ?_
  · unfold x5
    split
    · refine Changes.ite ?_ ?_
      · exact h7.then (State.freeKeys_changes _ _ _ _ _)
      · exact h7.then (State.updVec_changes _ _ _ _)
    · exact h7.then (State.freeKeys_changes _ _ _ _ _)
  clear_value x5
  refine Changes.ite ?_ ?_
  · exact h7
  · split
    · exact h8
    · refine Changes.ite ?_ ?_
      · refine Changes.ite ?_ ?_
        · exact h8
        · exact (h8.then (State.sumpDone_changes _ _ _ _)).then (State.sumpRest_changes _ _ _)
      · refine Changes.ite ?_ ?_
        · exact h8
        · exact h8.then (State.siteDone_changes _ _ _ _ _)

theorem State.putCapture_changes (s : State) (n : Nat) (c : Nat) (v : Vec) (w : Balls) :
    Changes (Part.regs ||| Part.ctxs ||| Part.engs ||| Part.bays) s (s.putCapture n c v w) := by
  unfold State.putCapture
  split
  · extract_lets -merge -usedOnly x1 x2
    clear_value x1
    refine Changes.have (x := x2) ?_ fun h3 => ?_
    · unfold x2
      exact (State.putEntry_changes _ _ _ _).mono
    clear_value x2
    exact h3.then (State.updVec_changes _ _ _ _)
  · exact Changes.refl _ _

theorem State.noteStrobe_changes (s : State) (c : Nat) (w : Wave) :
    Changes (Part.regs ||| Part.ssgs) s (s.noteStrobe c w) := by
  unfold State.noteStrobe
  split
  · exact (State.noteEdges_changes _ _ _ _).mono
  · exact Changes.refl _ _

theorem State.rangeDrop_changes (s : State) (e : FailEnt) :
    Changes (Part.regs ||| Part.ctxs) s (s.rangeDrop e) := by
  unfold State.rangeDrop
  extract_lets -merge -usedOnly x1
  refine Changes.have (x := x1) ?_ fun h2 => ?_
  · unfold x1
    refine Changes.ite ?_ ?_
    · exact (State.setOn_changes _ _).mono
    · exact Changes.refl _ _
  clear_value x1
  exact h2.then (State.dropEntries_changes _ _ _ _ _)

theorem State.entryOp_changes (s : State) (b : Nat) (e : FailEnt) (j : JobEng) :
    Changes (Part.regs ||| Part.ctxs) s ((s.entryOp b e j).snd) := by
  unfold State.entryOp
  extract_lets -merge -usedOnly x1 x2 x3 x4 x5 x6 x7 x8 x9 x10 x11
  clear_value x1
  clear_value x2
  clear_value x3
  refine Changes.have (x := x4) ?_ fun h12 => ?_
  · unfold x4
    refine Changes.ite ?_ ?_
    · exact (State.rangeDrop_changes _ _).mono
    · exact Changes.refl _ _
  clear_value x4
  clear_value x5
  clear_value x6
  refine Changes.have (x := x7) ?_ fun h13 => ?_
  · unfold x7
    refine Changes.ite ?_ ?_
    · exact (State.setOn_changes _ _).mono
    · exact Changes.refl _ _
  clear_value x7
  clear_value x8
  clear_value x9
  refine Changes.have (x := x10) ?_ fun h14 => ?_
  · unfold x10
    exact (State.updJobEng_changes _ _ _ _).mono
  clear_value x10
  refine Changes.have (x := x11) ?_ fun h15 => ?_
  · unfold x11
    refine Changes.ite ?_ ?_
    · exact h14.then (State.wr_changes _ _ _)
    · exact h14
  clear_value x11
  refine Changes.ite_snd ?_ ?_
  · refine Changes.ite_snd ?_ ?_
    · refine Changes.mk_snd ?_
      exact (State.rangeDrop_changes _ _).mono
    · refine Changes.mk_snd ?_
      exact h12
  · refine Changes.ite_snd ?_ ?_
    · refine Changes.mk_snd ?_
      exact h13.then (State.dropEntries_changes _ _ _ _ _)
    · refine Changes.mk_snd ?_
      exact h15

theorem State.setFcc_changes (s : State) (h : Nat) (l : List FccLine) :
    Changes (Part.regs ||| Part.fcc) s (s.setFcc h l) := by
  unfold State.setFcc
  exact (Changes.set_fcc (Changes.refl _ _)).then (State.wr_changes _ _ _)

theorem State.writeBack_changes (s : State) (h : Nat) (l : FccLine) :
    Changes (Part.regs ||| Part.bus ||| Part.dmcs ||| Part.nis) s (s.writeBack h l) := by
  unfold State.writeBack
  extract_lets -merge -usedOnly x1
  refine Changes.have (x := x1) ?_ fun h2 => ?_
  · unfold x1
    refine Changes.ite ?_ ?_
    · exact (State.dramWriteReq_changes _ _ _ _ _ _ _).mono
    · exact (State.dramOrReq_changes _ _ _ _ _ _).mono
  clear_value x1
  exact h2.then (State.count_changes _ _ _)

theorem State.flushEnd_changes (s : State) (h : Nat) :
    Changes Part.regs s (s.flushEnd h) := by
  unfold State.flushEnd
  refine Changes.ite ?_ ?_
  · exact Changes.refl _ _
  · exact (State.clr_changes _ _).mono

theorem State.fccFlush_changes (s : State) (h : Nat) :
    Changes (Part.regs ||| Part.fcc) s (s.fccFlush h) := by
  unfold State.fccFlush
  exact (((State.setOn_changes _ _).mono).then (State.setFcc_changes _ _ _)).then (State.flushEnd_changes _ _)

theorem State.takeWords_changes (s : State) (b : Nat) (n : Nat) :
    Changes (Part.regs ||| Part.bays) s (s.takeWords b n) := by
  unfold State.takeWords
  extract_lets -merge -usedOnly x1 x2 x3 x4
  clear_value x1
  clear_value x2
  clear_value x3
  clear_value x4
  exact ((State.updBay_changes _ _ _).mono).then (State.setLevel_changes _ _)

theorem State.ffsApply_changes (s : State) (b : Nat) :
    Changes (Part.regs ||| Part.bays) s (s.ffsApply b) := by
  unfold State.ffsApply
  extract_lets -merge -usedOnly x1
  clear_value x1
  split
  · extract_lets -merge -usedOnly x2
    refine Changes.have (x := x2) ?_ fun h3 => ?_
    · unfold x2
      refine Changes.ite ?_ ?_
      · exact (State.cutStream_changes _ _).mono
      · exact Changes.refl _ _
    clear_value x2
    refine Changes.ite ?_ ?_
    · exact ((h3.then (State.wr_changes _ _ _)).then (State.wr_changes _ _ _)).then (State.updBay_changes _ _ _)
    · exact Changes.refl _ _
  · exact Changes.refl _ _

theorem State.ffsWrite_changes (s : State) (b : Nat) (v : Nat) :
    Changes (Part.regs ||| Part.bays) s (s.ffsWrite b v) := by
  unfold State.ffsWrite
  exact ((State.updBay_changes _ _ _).mono).then (State.ffsApply_changes _ _)

theorem State.squashTokens_changes (s : State) (n : Nat) :
    Changes (Part.regs ||| Part.bays) s (s.squashTokens n) := by
  unfold State.squashTokens
  refine Changes.each ?_ ?_
  · exact Changes.refl _ _
  · intro t1 a2 h3
    exact h3.then (State.streamToken_changes _ _ _ _ _)

theorem State.writeResult_changes (s : State) (j : Job) :
    Changes (Part.regs ||| Part.bus ||| Part.out ||| Part.heldOut ||| Part.dmcs ||| Part.nis) s (s.writeResult j) := by
  unfold State.writeResult
  extract_lets -merge -usedOnly x1 x2 x3 x4
  refine Changes.have (x := x1) ?_ fun h5 => ?_
  · unfold x1
    exact (State.resultWrite_changes _ _ _ _ _).mono
  clear_value x1
  refine Changes.have (x := x2) ?_ fun h6 => ?_
  · unfold x2
    refine Changes.each ?_ ?_
    · exact h5
    · intro t7 a8 h9
      exact h9.then (State.resultWrite_changes _ _ _ _ _)
  clear_value x2
  clear_value x3
  refine Changes.have (x := x4) ?_ fun h10 => ?_
  · unfold x4
    refine Changes.each ?_ ?_
    · exact h6
    · intro t11 a12 h13
      exact h13.then (State.resultWrite_changes _ _ _ _ _)
  clear_value x4
  refine Changes.each ?_ ?_
  · exact h10
  · intro t14 a15 h16
    exact h16.then (State.resultWrite_changes _ _ _ _ _)

theorem State.flushJob_changes (s : State) (c : Nat) (h : Nat) :
    Changes (Part.regs ||| Part.bus ||| Part.fcc ||| Part.dmcs ||| Part.nis) s (s.flushJob c h) := by
  unfold State.flushJob
  extract_lets -merge -usedOnly x1 x2
  clear_value x1
  clear_value x2
  refine Changes.then ?_ (State.setFcc_changes _ _ _)
  refine Changes.each ?_ ?_
  · exact Changes.refl _ _
  · intro t3 a4 h5
    exact h5.then (State.writeBack_changes _ _ _)

/-! ## Machine/FabNet -/

theorem State.updPin_changes (s : State) (p : Nat) (f : PinSt → PinSt) :
    Changes Part.pins s (s.updPin p f) := by
  unfold State.updPin
  exact Changes.set_pins (Changes.refl _ _)

theorem State.keep_changes (s : State) (ps : List Nat) :
    Changes Part.padKeep s (s.keep ps) := by
  unfold State.keep
  exact Changes.set_padKeep (Changes.refl _ _)

/-! ## Machine/Time -/

theorem State.pairDrift_changes (s : State) (d : Int) :
    Changes Part.tb s (s.pairDrift d) := by
  unfold State.pairDrift
  extract_lets -merge -usedOnly x1 x2 x3 x4
  clear_value x1
  clear_value x2
  clear_value x3
  clear_value x4
  exact (State.setTb_changes _ _ _).mono

theorem State.pairTake_changes (s : State) (drift : Int) :
    Changes (Part.regs ||| Part.tb) s (s.pairTake drift) := by
  unfold State.pairTake
  extract_lets -merge -usedOnly x1 x2 x3
  clear_value x1
  refine Changes.have (x := x2) ?_ fun h4 => ?_
  · unfold x2
    refine Changes.ite ?_ ?_
    · exact (State.pairDrift_changes _ _).mono
    · exact Changes.refl _ _
  clear_value x2
  refine Changes.have (x := x3) ?_ fun h5 => ?_
  · unfold x3
    exact h4.then (State.wr_changes _ _ _)
  clear_value x3
  refine Changes.ite ?_ ?_
  · exact h5.then (State.setOn_changes _ _)
  · exact h5

theorem State.servoInc_changes (s : State) (i : Int) (c : Int) :
    Changes (Part.regs ||| Part.time) s (s.servoInc i c) := by
  unfold State.servoInc
  exact (((State.updTime_changes _ _).mono).then (State.queueChange_changes _ _)).then (State.wr_changes _ _ _)

theorem State.gridOffset_changes (s : State) (o : Int) :
    Changes (Part.fresh ||| Part.regs ||| Part.time) s (s.gridOffset o) := by
  unfold State.gridOffset
  extract_lets -merge -usedOnly x1
  refine Changes.have (x := x1.2) ?_ fun h2 => ?_
  · unfold x1
    exact (State.free_changes _ _).mono
  clear_value x1
  exact (h2.then (State.wr_changes _ _ _)).then (State.gridStep_changes _ _)

theorem State.offset1_changes (s : State) (o : Int) (left : Bool) :
    Changes (Part.fresh ||| Part.regs ||| Part.time) s (s.offset1 o left) := by
  unfold State.offset1
  extract_lets -merge -usedOnly x1
  refine Changes.have (x := x1) ?_ fun h2 => ?_
  · unfold x1
    exact ((State.updTime_changes _ _).mono).then (State.wr_changes _ _ _)
  clear_value x1
  refine Changes.ite ?_ ?_
  · exact ((State.gridOffset_changes _ _).mono).then (State.wr_changes _ _ _)
  · refine Changes.ite ?_ ?_
    · exact h2
    · exact h2.then (State.queueChange_changes _ _)

theorem State.offset2_changes (s : State) (o : Int) :
    Changes (Part.regs ||| Part.time) s (s.offset2 o) := by
  unfold State.offset2
  extract_lets -merge -usedOnly x1 x2
  clear_value x1
  clear_value x2
  refine Changes.ite ?_ ?_
  · exact Changes.refl _ _
  · exact (((State.updTime_changes _ _).mono).then (State.servoInc_changes _ _ _)).then (State.wr_changes _ _ _)

theorem State.offsetTrack_changes (s : State) (o : Int) :
    Changes (Part.fresh ||| Part.regs ||| Part.time) s (s.offsetTrack o) := by
  unfold State.offsetTrack
  extract_lets -merge -usedOnly x1 x2
  clear_value x1
  clear_value x2
  refine Changes.ite ?_ ?_
  · exact (State.gridOffset_changes _ _).mono
  · refine Changes.ite ?_ ?_
    · exact (State.queueChange_changes _ _).mono
    · exact (State.servoInc_changes _ _ _).mono

theorem State.tmbModeWrite_changes (s : State) (m : Nat) :
    Changes (Part.regs ||| Part.time) s (s.tmbModeWrite m) := by
  unfold State.tmbModeWrite
  refine Changes.ite ?_ ?_
  · exact Changes.refl _ _
  · exact ((State.wr_changes _ _ _).mono).then (State.queueChange_changes _ _)

theorem State.tmbIncWrite_changes (s : State) (v : Nat) :
    Changes (Part.regs ||| Part.time) s ((s.tmbIncWrite v).snd) := by
  unfold State.tmbIncWrite
  extract_lets -merge -usedOnly x1
  clear_value x1
  refine Changes.ite_snd ?_ ?_
  · refine Changes.mk_snd ?_
    exact (State.queueChange_changes _ _).mono
  · refine Changes.mk_snd ?_
    exact (State.setOn_changes _ _).mono

theorem State.timeStep_changes (s : State) (sec : Nat) :
    Changes (Part.regs ||| Part.time) s ((s.timeStep sec).snd) := by
  unfold State.timeStep
  extract_lets -merge -usedOnly x1 x2
  clear_value x1
  clear_value x2
  refine Changes.ite_snd ?_ ?_
  · refine Changes.mk_snd ?_
    exact (State.setOn_changes _ _).mono
  · refine Changes.mk_snd ?_
    exact (State.queueChange_changes _ _).mono

theorem State.trgArm_changes (s : State) (h : Nat) (k : Nat) (periodic : Bool) :
    Changes (Part.regs ||| Part.time) s ((s.trgArm h k periodic).snd) := by
  unfold State.trgArm
  extract_lets -merge -usedOnly x1 x2
  refine Changes.have (x := x1) ?_ fun h3 => ?_
  · unfold x1
    exact (((State.setOn_changes _ _).mono).then (State.clr_changes _ _)).then (State.clr_changes _ _)
  clear_value x1
  clear_value x2
  refine Changes.ite_snd ?_ ?_
  · refine Changes.mk_snd ?_
    exact (State.setOn_changes _ _).mono
  · refine Changes.mk_snd ?_
    exact h3.then (State.updTime_changes _ _)

theorem State.trgPeriodic_changes (s : State) (h : Nat) (k : Nat) (on : Bool) :
    Changes Part.regs s ((s.trgPeriodic h k on).snd) := by
  unfold State.trgPeriodic
  refine Changes.ite_snd ?_ ?_
  · refine Changes.mk_snd ?_
    exact (State.setOn_changes _ _).mono
  · refine Changes.mk_snd ?_
    exact (State.wr_changes _ _ _).mono

theorem State.trgCtlWrite_changes (s : State) (h : Nat) (k : Nat) (v : Nat) :
    Changes (Part.regs ||| Part.time) s ((s.trgCtlWrite h k v).snd) := by
  unfold State.trgCtlWrite
  extract_lets -merge -usedOnly x1 x2 x3 x4 x5
  refine Changes.have (x := x1) ?_ fun h6 => ?_
  · unfold x1
    exact ((State.wr_changes _ _ _).mono).then (State.wr_changes _ _ _)
  clear_value x1
  refine Changes.have (x := x2) ?_ fun h7 => ?_
  · unfold x2
    exact h6.then (State.wr_changes _ _ _)
  clear_value x2
  refine Changes.have (x := x3) ?_ fun h8 => ?_
  · unfold x3
    refine Changes.ite ?_ ?_
    · exact h7.then (State.clr_changes _ _)
    · exact h7
  clear_value x3
  refine Changes.have (x := x4.2) ?_ fun h9 => ?_
  · unfold x4
    exact h8.then (State.trgPeriodic_changes _ _ _ _)
  clear_value x4
  refine Changes.have (x := x5.2) ?_ fun h10 => ?_
  · unfold x5
    exact h9.then (State.trgArm_changes _ _ _ _)
  clear_value x5
  refine Changes.ite_snd ?_ ?_
  · refine Changes.mk_snd ?_
    exact h10
  · refine Changes.mk_snd ?_
    exact h9.then (State.wr_changes _ _ _)

theorem State.dueFrames_changes (s : State) (h : Nat) (k : Nat) :
    Changes (Part.regs ||| Part.time) s (s.dueFrames h k) := by
  unfold State.dueFrames
  refine Changes.each ?_ ?_
  · exact Changes.refl _ _
  · intro t1 a2 h3
    refine Changes.each ?_ ?_
    · exact h3
    · intro t4 a5 h6
      refine Changes.ite ?_ ?_
      · refine Changes.ite ?_ ?_
        · exact h6.then (State.updTime_changes _ _)
        · exact h6.then (State.clr_changes _ _)
      · exact h6

theorem State.trgFire_changes (s : State) (h : Nat) (k : Nat) :
    Changes (Part.regs ||| Part.snap ||| Part.time) s (s.trgFire h k) := by
  unfold State.trgFire
  extract_lets -merge -usedOnly x1 x2 x3 x4 x5 x6 x7
  refine Changes.have (x := x1) ?_ fun h8 => ?_
  · unfold x1
    exact ((State.setOn_changes _ _).mono).then (State.count_changes _ _ _)
  clear_value x1
  refine Changes.have (x := x2) ?_ fun h9 => ?_
  · unfold x2
    refine Changes.ite ?_ ?_
    · exact h8.then (State.setOn_changes _ _)
    · exact h8
  clear_value x2
  refine Changes.have (x := x3) ?_ fun h10 => ?_
  · unfold x3
    exact h9.then (State.updTime_changes _ _)
  clear_value x3
  refine Changes.have (x := x4) ?_ fun h11 => ?_
  · unfold x4
    refine Changes.ite ?_ ?_
    · exact h10.then (State.raiseSnap_changes _ _)
    · exact h10
  clear_value x4
  refine Changes.have (x := x5) ?_ fun h12 => ?_
  · unfold x5
    exact h11.then (State.dueFrames_changes _ _ _)
  clear_value x5
  clear_value x6
  clear_value x7
  refine Changes.ite ?_ ?_
  · exact (h12.then (State.wr_changes _ _ _)).then (State.wr_changes _ _ _)
  · exact h12.then (State.updTime_changes _ _)

theorem State.startWaiting_changes (s : State) (n : Nat) :
    Changes (Part.regs ||| Part.ctxs ||| Part.engs) s (s.startWaiting n) := by
  unfold State.startWaiting
  refine Changes.ite ?_ ?_
  · exact ((State.wr_changes _ _ _).mono).then (State.noteRun_changes _ _)
  · exact (State.updEng_changes _ _ _).mono

theorem State.ptpRole_changes (s : State) (p : Nat) :
    Changes (Part.fresh ||| Part.regs) s (s.ptpRole p) := by
  unfold State.ptpRole
  extract_lets -merge -usedOnly x1
  refine Changes.have (x := x1.2) ?_ fun h2 => ?_
  · unfold x1
    exact (State.free_changes _ _).mono
  clear_value x1
  exact h2.then (State.wr_changes _ _ _)

theorem State.haltPattern_changes (s : State) (n : Nat) :
    Changes (Part.fresh ||| Part.regs ||| Part.bus ||| Part.ctxs ||| Part.engs ||| Part.bays ||| Part.chans |||
        Part.ssgs ||| Part.bankMem ||| Part.dmcs ||| Part.trcs ||| Part.snap ||| Part.nis |||
        Part.fabHeld) s (s.haltPattern n) := by
  unfold State.haltPattern
  split
  · refine Changes.ite ?_ ?_
    · exact Changes.refl _ _
    · refine Changes.ite ?_ ?_
      · exact (State.updFront_changes _ _ _).mono
      · refine Changes.ite ?_ ?_
        · exact ((State.failFront_changes _ _ _ _).mono).then (State.stopJob_changes _ _)
        · exact Changes.refl _ _
  · exact Changes.refl _ _

theorem State.pushStamp_changes (s : State) (p : Nat) (t : Stamp) :
    Changes (Part.regs ||| Part.time) s (s.pushStamp p t) := by
  unfold State.pushStamp
  extract_lets -merge -usedOnly x1
  clear_value x1
  refine Changes.ite ?_ ?_
  · exact ((State.setOn_changes _ _).mono).then (State.count_changes _ _ _)
  · exact ((State.updTime_changes _ _).mono).then (State.wr_changes _ _ _)

theorem State.takeStamp_changes (s : State) (p : Nat) :
    Changes (Part.regs ||| Part.time) s (s.takeStamp p) := by
  unfold State.takeStamp
  split
  · exact Changes.refl _ _
  · extract_lets -merge -usedOnly x1
    refine Changes.have (x := x1) ?_ fun h2 => ?_
    · unfold x1
      exact ((State.updTime_changes _ _).mono).then (State.wr_changes _ _ _)
    clear_value x1
    split
    · exact ((((h2.then (State.wr_changes _ _ _)).then (State.wr_changes _ _ _)).then (State.wr_changes _ _ _)).then (State.wr_changes _ _ _)).then (State.setOn_changes _ _)
    · exact h2

theorem State.lchWrite_changes (s : State) (p : Nat) (q : Nat) (v : Nat) :
    Changes Part.regs s (s.lchWrite p q v) := by
  unfold State.lchWrite
  extract_lets -merge -usedOnly x1 x2
  refine Changes.have (x := x1) ?_ fun h3 => ?_
  · unfold x1
    refine Changes.ite ?_ ?_
    · exact Changes.refl _ _
    · exact ((State.wr_changes _ _ _).mono).then (State.wr_changes _ _ _)
  clear_value x1
  refine Changes.have (x := x2) ?_ fun h4 => ?_
  · unfold x2
    exact (h3.then (State.wr_changes _ _ _)).then (State.wr_changes _ _ _)
  clear_value x2
  refine Changes.ite ?_ ?_
  · exact h4.then (State.clr_changes _ _)
  · exact h4

theorem State.lchBufWrite_changes (s : State) (p : Nat) (q : Nat) (a : Nat) (v : Nat) :
    Changes Part.time s (s.lchBufWrite p q a v) := by
  unfold State.lchBufWrite
  refine Changes.ite ?_ ?_
  · exact Changes.refl _ _
  · exact (State.updTime_changes _ _).mono

theorem State.phyWrite_changes (s : State) (p : Nat) (v : Nat) :
    Changes Part.regs s (s.phyWrite p v) := by
  unfold State.phyWrite
  extract_lets -merge -usedOnly x1
  refine Changes.have (x := x1) ?_ fun h2 => ?_
  · unfold x1
    exact ((State.wr_changes _ _ _).mono).then (State.wr_changes _ _ _)
  clear_value x1
  refine Changes.ite ?_ ?_
  · exact h2
  · exact (h2.then (State.clr_changes _ _)).then (State.wr_changes _ _ _)

/-! ## Machine/Avail -/

theorem State.fenceBay_changes (s : State) (b : Nat) (cause : Nat) :
    Changes (Part.regs ||| Part.out ||| Part.heldOut ||| Part.fns ||| Part.snap) s (s.fenceBay b cause) := by
  unfold State.fenceBay
  extract_lets -merge -usedOnly x1
  refine Changes.have (x := x1) ?_ fun h2 => ?_
  · unfold x1
    exact (State.markFenced_changes _ _ _).mono
  clear_value x1
  refine Changes.ite ?_ ?_
  · exact (State.markFenced_changes _ _ _).mono
  · exact (h2.then (State.postRes_changes _ _ _ _)).then (State.updDegraded_changes _)

theorem State.bothOut_changes (s : State) :
    Changes Part.regs s (s.bothOut) := by
  unfold State.bothOut
  refine Changes.ite ?_ ?_
  · exact (State.setOn_changes _ _).mono
  · exact Changes.refl _ _

theorem State.fenceSup_changes (s : State) (h : Nat) (cause : Nat) :
    Changes (Part.regs ||| Part.out ||| Part.heldOut ||| Part.fns ||| Part.snap) s (s.fenceSup h cause) := by
  unfold State.fenceSup
  extract_lets -merge -usedOnly x1
  refine Changes.have (x := x1) ?_ fun h2 => ?_
  · unfold x1
    exact ((State.markFenced_changes _ _ _).mono).then (State.setOn_changes _ _)
  clear_value x1
  refine Changes.ite ?_ ?_
  · exact (State.markFenced_changes _ _ _).mono
  · exact ((h2.then (State.postRes_changes _ _ _ _)).then (State.updDegraded_changes _)).then (State.bothOut_changes _)

theorem State.missed_changes (s : State) (u : Nat) :
    Changes (Part.fresh ||| Part.regs ||| Part.bus ||| Part.out ||| Part.heldOut ||| Part.fns ||| Part.ctxs |||
        Part.engs ||| Part.bays ||| Part.chans ||| Part.ssgs ||| Part.bankMem ||| Part.dmcs ||| Part.trcs |||
        Part.hbMiss ||| Part.substs ||| Part.snap ||| Part.nis ||| Part.fabHeld) s (s.missed u) := by
  unfold State.missed
  refine Changes.ite ?_ ?_
  · exact Changes.refl _ _
  · refine Changes.ite ?_ ?_
    · exact ((State.setOn_changes _ _).mono).then (State.fenceSlot_changes _ _ _)
    · refine Changes.ite ?_ ?_
      · exact (State.fenceGroup_changes _ _ _).mono
      · refine Changes.ite ?_ ?_
        · exact (State.updDmc_changes _ _ _).mono
        · refine Changes.ite ?_ ?_
          · exact (State.fenceBay_changes _ _ _).mono
          · exact Changes.set_hbMiss (Changes.refl _ _)

theorem State.errOwn_changes (s : State) (n : Nat) (f : Fld) :
    Changes Part.regs s (s.errOwn n f) := by
  unfold State.errOwn
  exact ((State.setOn_changes _ _).mono).then (State.wr_changes _ _ _)

theorem State.openGates_changes (s : State) (u : Nat) :
    Changes Part.ownEp s (s.openGates u) := by
  unfold State.openGates
  exact Changes.set_ownEp (Changes.refl _ _)

theorem State.reinstFail_changes (s : State) :
    Changes Part.regs s (s.reinstFail) := by
  unfold State.reinstFail
  exact ((State.setOn_changes _ _).mono).then (State.clr_changes _ _)

theorem State.reinst_changes (s : State) :
    Changes Part.regs s (s.reinst) := by
  unfold State.reinst
  extract_lets -merge -usedOnly x1
  clear_value x1
  refine Changes.ite ?_ ?_
  · exact Changes.refl _ _
  · refine Changes.ite ?_ ?_
    · exact (State.reinstFail_changes _).mono
    · refine Changes.ite ?_ ?_
      · exact (State.reinstFail_changes _).mono
      · exact ((State.setOn_changes _ _).mono).then (State.wr_changes _ _ _)

theorem State.returnUnit_changes (s : State) (u : Nat) :
    Changes (Part.regs ||| Part.out ||| Part.heldOut ||| Part.fns ||| Part.engs ||| Part.chans ||| Part.bankMem |||
        Part.sups ||| Part.ownEp) s (s.returnUnit u) := by
  unfold State.returnUnit
  extract_lets -merge -usedOnly x1 x2 x3 x4
  refine Changes.have (x := x1) ?_ fun h5 => ?_
  · unfold x1
    exact ((((State.wr_changes _ _ _).mono).then (State.wr_changes _ _ _)).then (State.openGates_changes _ _)).then (State.clr_changes _ _)
  clear_value x1
  clear_value x2
  refine Changes.have (x := x3) ?_ fun h6 => ?_
  · unfold x3
    exact (h5.then (State.clr_changes _ _)).then (State.updSup_changes _ _ _)
  clear_value x3
  refine Changes.have (x := x4) ?_ fun h7 => ?_
  · unfold x4
    refine Changes.ite ?_ ?_
    · exact (((h5.then (State.wr_changes _ _ _)).then (State.clr_changes _ _)).then (State.wr_changes _ _ _)).then (State.updEng_changes _ _ _)
    · refine Changes.ite ?_ ?_
      · refine Changes.each ?_ ?_
        · exact h5
        · intro t8 a9 h10
          exact (h10.then (State.clr_changes _ _)).then (State.restChan_changes _ _)
      · refine Changes.ite ?_ ?_
        · refine Changes.each ?_ ?_
          · exact h6
          · intro t11 a12 h13
            exact h13.then (State.writeMirrors_changes _ _)
        · exact h5
  clear_value x4
  exact (h7.then (State.postRes_changes _ _ _ _)).then (State.updDegraded_changes _)

theorem State.preloadJob_changes (s : State) (c : Nat) :
    Changes Part.engs s (s.preloadJob c) := by
  unfold State.preloadJob
  split
  · refine Changes.each ?_ ?_
    · exact Changes.refl _ _
    · intro t1 a2 h3
      exact h3.then (State.preload_changes _ _ _)
  · exact Changes.refl _ _

theorem State.substitute_changes (s : State) (q : Subst) :
    Changes (Part.regs ||| Part.out ||| Part.heldOut ||| Part.fns ||| Part.ctxs ||| Part.engs ||| Part.fsets |||
        Part.lmaps ||| Part.scr ||| Part.substs) s (s.substitute q) := by
  unfold State.substitute
  extract_lets -merge -usedOnly x1 x2 x3
  refine Changes.have (x := x2) ?_ fun h4 => ?_
  · unfold x2
    refine Changes.then ?_ (State.postRes_changes _ _ _ _)
    unfold x1
    exact Changes.set_substs (Changes.refl _ _)
  clear_value x2
  refine Changes.have (x := x3) ?_ fun h5 => ?_
  · unfold x3
    split
    · exact h4.then (State.updFront_changes _ _ _)
    · exact h4
  clear_value x3
  split
  · exact h5.then (State.updDegraded_changes _)
  · extract_lets -merge -usedOnly x6 x7 x8 x9 x10
    refine Changes.have (x := x6) ?_ fun h11 => ?_
    · unfold x6
      exact (State.copyLe_changes _ _ _).mono
    clear_value x6
    refine Changes.have (x := x7) ?_ fun h12 => ?_
    · unfold x7
      exact ((h11.then (State.wr_changes _ _ _)).then (State.wr_changes _ _ _)).then (State.wr_changes _ _ _)
    clear_value x7
    refine Changes.have (x := x8) ?_ fun h13 => ?_
    · unfold x8
      exact (h12.then (State.postRes_changes _ _ _ _)).then (State.updDegraded_changes _)
    clear_value x8
    refine Changes.have (x := x9) ?_ fun h14 => ?_
    · unfold x9
      exact h13.then (State.updEng_changes _ _ _)
    clear_value x9
    refine Changes.have (x := x10) ?_ fun h15 => ?_
    · unfold x10
      exact Changes.set_substs h14
    clear_value x10
    split
    · exact (h15.then (State.updJobEng_changes _ _ _ _)).then (State.preloadJob_changes _ _)
    · unfold x1
      exact Changes.set_substs h14

theorem State.heldRuns_changes (s : State) :
    Changes (Part.regs ||| Part.engs) s (s.heldRuns) := by
  unfold State.heldRuns
  refine Changes.each ?_ ?_
  · exact Changes.refl _ _
  · intro t1 a2 h3
    split
    · extract_lets -merge -usedOnly x4
      refine Changes.have (x := x4) ?_ fun h5 => ?_
      · unfold x4
        exact h3.then (State.updEng_changes _ _ _)
      clear_value x4
      refine Changes.ite ?_ ?_
      · exact h5.then (State.monGo_changes _ _ _)
      · exact h5
    · exact h3

theorem State.echoPaths_changes (s : State) (h : Nat) :
    Changes (Part.regs ||| Part.out ||| Part.heldOut ||| Part.fns) s (s.echoPaths h) := by
  unfold State.echoPaths
  extract_lets -merge -usedOnly x1 x2 x3 x4 x5 x6
  clear_value x1
  clear_value x2
  clear_value x3
  clear_value x4
  refine Changes.have (x := x5) ?_ fun h7 => ?_
  · unfold x5
    exact ((State.wr_changes _ _ _).mono).then (State.wr_changes _ _ _)
  clear_value x5
  refine Changes.have (x := x6) ?_ fun h8 => ?_
  · unfold x6
    refine Changes.ite ?_ ?_
    · exact h7.then (State.postRes_changes _ _ _ _)
    · exact h7
  clear_value x6
  exact h8.then (State.updDegraded_changes _)

theorem State.takeLantern_changes (s : State) (h : Nat) (e : Nat) :
    Changes (Part.regs ||| Part.sups) s (s.takeLantern h e) := by
  unfold State.takeLantern
  extract_lets -merge -usedOnly x1
  refine Changes.have (x := x1) ?_ fun h2 => ?_
  · unfold x1
    exact (((State.wr_changes _ _ _).mono).then (State.wr_changes _ _ _)).then (State.setOn_changes _ _)
  clear_value x1
  exact ((h2.then (State.wr_changes _ _ _)).then (State.wr_changes _ _ _)).then (State.updSup_changes _ _ _)

theorem State.advance_changes (s : State) (h : Nat) (e : Nat) (reach : Bool) :
    Changes (Part.regs ||| Part.out ||| Part.heldOut ||| Part.fns ||| Part.engs ||| Part.sups |||
        Part.snap) s (s.advance h e reach) := by
  unfold State.advance
  extract_lets -merge -usedOnly x1 x2
  clear_value x1
  refine Changes.have (x := x2) ?_ fun h3 => ?_
  · unfold x2
    exact (((State.takeLantern_changes _ _ _).mono).then (State.updSup_changes _ _ _)).then (State.raiseSnap_changes _ _)
  clear_value x2
  refine Changes.ite ?_ ?_
  · exact ((State.setOn_changes _ _).mono).then (State.updSup_changes _ _ _)
  · refine Changes.ite ?_ ?_
    · exact (((State.setOn_changes _ _).mono).then (State.updSup_changes _ _ _)).then (State.heldRuns_changes _)
    · refine Changes.ite ?_ ?_
      · exact ((State.updSup_changes _ _ _).mono).then (State.heldRuns_changes _)
      · exact (h3.then (State.fenceSup_changes _ _ _)).then (State.heldRuns_changes _)

theorem State.adopt_changes (s : State) (n : Nat) (entry : Nat) (cq : List (BitVec 256)) :
    Changes (Part.regs ||| Part.out ||| Part.heldOut ||| Part.ctxs ||| Part.bankMem) s (s.adopt n entry cq) := by
  unfold State.adopt
  extract_lets -merge -usedOnly x1 x2 x3 x4 x5 x6
  clear_value x1
  clear_value x2
  clear_value x3
  clear_value x4
  refine Changes.have (x := x5) ?_ fun h7 => ?_
  · unfold x5
    exact ((State.wr_changes _ _ _).mono).then (State.wr_changes _ _ _)
  clear_value x5
  refine Changes.have (x := x6) ?_ fun h8 => ?_
  · unfold x6
    exact h7.then (State.updCtx_changes _ _ _)
  clear_value x6
  exact (h8.then (State.writeMirrors_changes _ _)).then (State.writeLedger_changes _ _)

/-! ## Machine/Speculation -/

theorem State.confirmAll_changes (s : State) (n : Nat) (t : Nat) :
    Changes (Part.regs ||| Part.bus ||| Part.ctxs ||| Part.engs ||| Part.dmcs ||| Part.trcs ||| Part.snap |||
        Part.nis) s (s.confirmAll n t) := by
  unfold State.confirmAll
  extract_lets -merge -usedOnly x1 x2
  clear_value x1
  refine Changes.have (x := x2) ?_ fun h3 => ?_
  · unfold x2
    exact (State.confirmTag_changes _ _ _).mono
  clear_value x2
  refine Changes.each ?_ ?_
  · exact h3
  · intro t4 a5 h6
    extract_lets -merge -usedOnly x7
    clear_value x7
    exact (h6.then (State.noteFail_changes _ _ _)).then (State.noteSites_changes _ _ _ _)

theorem State.settleEmpty_changes (s : State) (n : Nat) :
    Changes (Part.regs ||| Part.engs) s (s.settleEmpty n) := by
  unfold State.settleEmpty
  refine Changes.foldl (fun x => x) ?_ ?_
  · exact Changes.refl _ _
  · intro b1 a2 h3
    try dsimp -zeta -iota -proj -eta only
    try dsimp -zeta -iota -proj -eta only at h3
    split
    · refine Changes.ite ?_ ?_
      · exact (h3.then (State.retire_changes _ _ _)).then (State.updEng_changes _ _ _)
      · exact h3
    · exact h3

theorem State.squashMember_changes (s : State) (m : Nat) (r : Nat) :
    Changes (Part.regs ||| Part.engs) s (s.squashMember m r) := by
  unfold State.squashMember
  extract_lets -merge -usedOnly x1 x2 x3 x4
  clear_value x1
  refine Changes.have (x := x2) ?_ fun h5 => ?_
  · unfold x2
    exact (State.count_changes _ _ _).mono
  clear_value x2
  refine Changes.have (x := x3) ?_ fun h6 => ?_
  · unfold x3
    refine Changes.each ?_ ?_
    · exact h5
    · intro t7 a8 h9
      exact h9.then (State.freeVec_changes _ _ _)
  clear_value x3
  clear_value x4
  exact (h6.then (State.sumpGive_changes _ _ _)).then (State.updEng_changes _ _ _)

theorem State.restoreChk_changes (s : State) (n : Nat) (b : Branch) (k : Chk) :
    Changes (Part.regs ||| Part.engs) s (s.restoreChk n b k) := by
  unfold State.restoreChk
  extract_lets -merge -usedOnly x1 x2
  refine Changes.have (x := x1) ?_ fun h3 => ?_
  · unfold x1
    refine Changes.each ?_ ?_
    · exact Changes.refl _ _
    · intro t4 a5 h6
      exact h6.then (State.updEng_changes _ _ _)
  clear_value x1
  refine Changes.have (x := x2) ?_ fun h7 => ?_
  · unfold x2
    exact h3.then (State.updEng_changes _ _ _)
  clear_value x2
  exact h7.then (State.wrGang_changes _ _ _ _)

theorem State.mispredict_changes (s : State) (n : Nat) (r : Nat) (b : Branch) :
    Changes (Part.regs ||| Part.bus ||| Part.engs ||| Part.bays ||| Part.chans ||| Part.ssgs ||| Part.dmcs |||
        Part.trcs ||| Part.snap ||| Part.nis ||| Part.fabHeld) s (s.mispredict n r b) := by
  unfold State.mispredict
  extract_lets -merge -usedOnly x1 x2 x3 x4 x5
  refine Changes.have (x := x1) ?_ fun h6 => ?_
  · unfold x1
    exact (State.count_changes _ _ _).mono
  clear_value x1
  clear_value x2
  refine Changes.have (x := x3) ?_ fun h7 => ?_
  · unfold x3
    refine Changes.each ?_ ?_
    · exact h6
    · intro t8 a9 h10
      exact h10.then (State.squashMember_changes _ _ _)
  clear_value x3
  refine Changes.have (x := x4) ?_ fun h11 => ?_
  · unfold x4
    refine Changes.each ?_ ?_
    · exact h7
    · intro t12 a13 h14
      exact h14.then (State.tagResolved_changes _ _ _ _)
  clear_value x4
  refine Changes.have (x := x5) ?_ fun h15 => ?_
  · unfold x5
    exact (h11.then (State.updEng_changes _ _ _)).then (State.setStall_changes _ _ _)
  clear_value x5
  split
  · exact (h6.then (State.updEng_changes _ _ _)).then (State.tagResolved_changes _ _ _ _)
  · extract_lets -merge -usedOnly x16
    refine Changes.have (x := x16) ?_ fun h17 => ?_
    · unfold x16
      exact (h15.then (State.restoreChk_changes _ _ _ _)).then (State.setPc_changes _ _ _)
    clear_value x16
    exact h17.then (State.holdFor_changes _ _ _)

theorem State.pauseDue_changes (s : State) (n : Nat) :
    Changes (Part.regs ||| Part.engs ||| Part.chans ||| Part.ssgs ||| Part.snap) s (s.pauseDue n) := by
  unfold State.pauseDue
  refine Changes.ite ?_ ?_
  · exact (State.pauseGang_changes _ _).mono
  · exact Changes.refl _ _

theorem State.fabAnswer_changes (s : State) (w : FabWr) (reason : Nat) :
    Changes Part.nis s (s.fabAnswer w reason) := by
  unfold State.fabAnswer
  extract_lets -merge -usedOnly x1
  clear_value x1
  refine Changes.ite ?_ ?_
  · refine Changes.ite ?_ ?_
    · exact (State.handOver_changes _ _ _).mono
    · exact (State.localNack_changes _ _ _ _).mono
  · refine Changes.ite ?_ ?_
    · exact (State.answer_changes _ _ _ _ _ _ _).mono
    · exact (State.nack_changes _ _ _ _).mono

theorem State.fabWake_changes (s : State) (w : FabWr) :
    Changes Part.dmcs s (s.fabWake w) := by
  unfold State.fabWake
  extract_lets -merge -usedOnly x1
  clear_value x1
  refine Changes.ite ?_ ?_
  · exact ((State.wakeDram_changes _ _).mono).then (State.wakeDram_changes _ _)
  · exact Changes.refl _ _

theorem State.fabDo_changes (s : State) (w : FabWr) :
    Changes (Part.regs ||| Part.bus ||| Part.out ||| Part.heldOut ||| Part.dmcs ||| Part.nis) s (s.fabDo w) := by
  unfold State.fabDo
  extract_lets -merge -usedOnly x1 x2 x3
  clear_value x1
  clear_value x2
  refine Changes.have (x := x3) ?_ fun h4 => ?_
  · unfold x3
    refine Changes.ite ?_ ?_
    · exact (State.dataWrite_changes _ _ _ _).mono
    · refine Changes.ite ?_ ?_
      · exact (State.dramOrReq_changes _ _ _ _ _ _).mono
      · exact (State.dramPut_changes _ _ _ _ _ _).mono
  clear_value x3
  refine Changes.ite ?_ ?_
  · exact ((State.dramAddrErr_changes _ _ _).mono).then (State.fabAnswer_changes _ _ _)
  · exact h4.then (State.fabAnswer_changes _ _ _)

theorem State.fabResult_changes (s : State) (w : FabWr) :
    Changes (Part.regs ||| Part.bus ||| Part.out ||| Part.heldOut ||| Part.dmcs ||| Part.nis |||
        Part.fabHeld) s (s.fabResult w) := by
  unfold State.fabResult
  extract_lets -merge -usedOnly x1 x2
  clear_value x1
  refine Changes.have (x := x2) ?_ fun h3 => ?_
  · unfold x2
    exact (State.fabWake_changes _ _).mono
  clear_value x2
  refine Changes.ite ?_ ?_
  · exact ((State.count_changes _ _ _).mono).then (State.fabAnswer_changes _ _ _)
  · refine Changes.ite ?_ ?_
    · exact Changes.set_fabHeld (Changes.refl _ _)
    · refine Changes.ite ?_ ?_
      · exact Changes.set_fabHeld h3
      · exact (State.fabDo_changes _ _).mono

/-! ## Machine/Bank -/

theorem State.bankSet_changes (s : State) (h : Nat) (b : Nat) (code : Nat) :
    Changes (Part.regs ||| Part.banks) s (s.bankSet h b code) := by
  unfold State.bankSet
  extract_lets -merge -usedOnly x1 x2 x3
  clear_value x1
  clear_value x2
  clear_value x3
  refine Changes.ite ?_ ?_
  · refine Changes.ite ?_ ?_
    · exact (State.updBank_changes _ _ _).mono
    · exact ((State.setBankCur_changes _ _ _ _).mono).then (State.updBank_changes _ _ _)
  · refine Changes.ite ?_ ?_
    · exact Changes.refl _ _
    · exact (State.bankMove_changes _ _ _ _).mono

theorem State.bankPwr_changes (s : State) (h : Nat) (k : Nat) (v : Nat) :
    Changes (Part.regs ||| Part.banks) s (s.bankPwr h k v) := by
  unfold State.bankPwr
  extract_lets -merge -usedOnly x1
  refine Changes.have (x := x1) ?_ fun h2 => ?_
  · unfold x1
    exact (State.wr_changes _ _ _).mono
  clear_value x1
  refine Changes.each ?_ ?_
  · exact h2
  · intro t3 a4 h5
    exact h5.then (State.bankSet_changes _ _ _ _)

theorem State.bankLose_changes (s : State) (h : Nat) (b : Nat) :
    Changes (Part.engs ||| Part.bankMem ||| Part.banks ||| Part.bankUe) s (s.bankLose h b) := by
  unfold State.bankLose
  extract_lets -merge -usedOnly x1 x2 x3
  clear_value x1
  refine Changes.have (x := x2) ?_ fun h4 => ?_
  · unfold x2
    exact Changes.put (Changes.refl _ _) rfl (State.canonical_of (bankMem := fun h => by first | exact Memory.wf_writeN _ _ _ _ h | exact Memory.wf_filter _ _ h | exact Memory.wf_nil)) rfl rfl
  clear_value x2
  refine Changes.have (x := x3) ?_ fun h5 => ?_
  · unfold x3
    exact h4.then (State.updBank_changes _ _ _)
  clear_value x3
  refine Changes.each ?_ ?_
  · exact h5
  · intro t6 a7 h8
    exact h8.then (State.updEng_changes _ _ _)

theorem State.bankRetry_changes (s : State) (h : Nat) :
    Changes (Part.regs ||| Part.bus ||| Part.engs ||| Part.bankMem ||| Part.banks ||| Part.nis ||| Part.dirc |||
        Part.bankJoins ||| Part.bankUe) s (s.bankRetry h) := by
  unfold State.bankRetry
  extract_lets -merge -usedOnly x1
  clear_value x1
  refine Changes.each ?_ ?_
  · exact (State.updBank_changes _ _ _).mono
  · intro t2 a3 h4
    exact h4.then (State.bankReach_changes _ _ _)

theorem State.copPhase_changes (s : State) (h : Nat) (p : Nat) :
    Changes Part.regs s (s.copPhase h p) := by
  unfold State.copPhase
  exact (State.wr_changes _ _ _).mono

theorem State.copEnd_changes (s : State) (h : Nat) :
    Changes (Part.regs ||| Part.banks) s (s.copEnd h) := by
  unfold State.copEnd
  extract_lets -merge -usedOnly x1 x2 x3
  clear_value x1
  clear_value x2
  refine Changes.have (x := x3) ?_ fun h4 => ?_
  · unfold x3
    exact ((State.copPhase_changes _ _ _).mono).then (State.updBank_changes _ _ _)
  clear_value x3
  refine Changes.ite ?_ ?_
  · exact h4
  · exact h4.then (State.bankMove_changes _ _ _ _)

theorem State.adoptBank_changes (s : State) (h : Nat) (b : Nat) :
    Changes (Part.regs ||| Part.out ||| Part.heldOut ||| Part.fns ||| Part.banks) s (s.adoptBank h b) := by
  unfold State.adoptBank
  extract_lets -merge -usedOnly x1 x2
  refine Changes.have (x := x1) ?_ fun h3 => ?_
  · unfold x1
    exact (((State.setOn_changes _ _).mono).then (State.setOn_changes _ _)).then (State.wr_changes _ _ _)
  clear_value x1
  refine Changes.have (x := x2) ?_ fun h4 => ?_
  · unfold x2
    exact (h3.then (State.copEnd_changes _ _)).then (State.updBank_changes _ _ _)
  clear_value x2
  exact (h4.then (State.postRes_changes _ _ _ _)).then (State.updDegraded_changes _)

/-! ## Machine/Noc -/

theorem State.launchPkt_changes (s : State) (t : Nat) (p : Pkt) :
    Changes Part.flights s (s.launchPkt t p) := by
  unfold State.launchPkt
  extract_lets -merge -usedOnly x1
  clear_value x1
  refine Changes.ite ?_ ?_
  · exact Changes.refl _ _
  · exact Changes.set_flights (Changes.refl _ _)

theorem State.stopSends_changes (s : State) (q : Pkt) (p : Pkt) :
    Changes Part.flights s (s.stopSends q p) := by
  unfold State.stopSends
  exact Changes.set_flights (Changes.refl _ _)

theorem State.fencedSends_changes (s : State) (q : Pkt) (p : Pkt) :
    Changes Part.flights s (s.fencedSends q p) := by
  unfold State.fencedSends
  extract_lets -merge -usedOnly x1 x2
  clear_value x1
  clear_value x2
  refine Changes.ite ?_ ?_
  · exact Changes.refl _ _
  · exact Changes.set_flights (Changes.refl _ _)

theorem State.noRoute_changes (s : State) (t : Nat) (p : Pkt) :
    Changes (Part.regs ||| Part.nis) s (s.noRoute t p) := by
  unfold State.noRoute
  extract_lets -merge -usedOnly x1
  refine Changes.have (x := x1) ?_ fun h2 => ?_
  · unfold x1
    exact (State.setOn_changes _ _).mono
  clear_value x1
  refine Changes.ite ?_ ?_
  · exact h2.then (State.countLate_changes _ _)
  · exact h2.then (State.localNack_changes _ _ _ _)

theorem State.freshRoute_changes (s : State) (t : Nat) (d : Nat) :
    Changes Part.nis s (s.freshRoute t d) := by
  unfold State.freshRoute
  exact (State.updNi_changes _ _ _).mono

theorem State.inject_changes (s : State) (t : Nat) (p : Pkt) :
    Changes (Part.regs ||| Part.nis ||| Part.flights) s (s.inject t p) := by
  unfold State.inject
  extract_lets -merge -usedOnly x1
  clear_value x1
  refine Changes.ite ?_ ?_
  · exact (State.localNack_changes _ _ _ _).mono
  · refine Changes.ite ?_ ?_
    · exact (State.localNack_changes _ _ _ _).mono
    · refine Changes.ite ?_ ?_
      · exact (State.localNack_changes _ _ _ _).mono
      · refine Changes.ite ?_ ?_
        · exact Changes.refl _ _
        · split
          · exact ((State.dramAddrErr_changes _ _ _).mono).then (State.localNack_changes _ _ _ _)
          · extract_lets -merge -usedOnly x2 x3 x4 x5
            clear_value x2
            refine Changes.have (x := x3) ?_ fun h6 => ?_
            · unfold x3
              refine Changes.ite ?_ ?_
              · exact (State.setOn_changes _ _).mono
              · exact Changes.refl _ _
            clear_value x3
            refine Changes.have (x := x4) ?_ fun h7 => ?_
            · unfold x4
              exact h6.then (State.freshRoute_changes _ _ _)
            clear_value x4
            refine Changes.have (x := x5) ?_ fun h8 => ?_
            · unfold x5
              refine Changes.ite ?_ ?_
              · exact (h7.then (State.updNi_changes _ _ _)).then (State.niOut_changes _ _)
              · refine Changes.ite ?_ ?_
                · exact h7.then (State.updNi_changes _ _ _)
                · refine Changes.ite ?_ ?_
                  · exact h7.then (State.updNi_changes _ _ _)
                  · exact h7
            clear_value x5
            refine Changes.ite ?_ ?_
            · exact h6.then (State.noRoute_changes _ _ _)
            · refine Changes.ite ?_ ?_
              · exact h6
              · exact h8.then (State.launchPkt_changes _ _ _)

theorem State.sendTx_changes (s : State) (t : Nat) :
    Changes (Part.regs ||| Part.nis ||| Part.flights) s (s.sendTx t) := by
  unfold State.sendTx
  split
  · exact Changes.refl _ _
  · extract_lets -merge -usedOnly x1
    refine Changes.have (x := x1) ?_ fun h2 => ?_
    · unfold x1
      exact ((State.updNi_changes _ _ _).mono).then (State.freshRoute_changes _ _ _)
    clear_value x1
    refine Changes.ite ?_ ?_
    · exact h2.then (State.launchPkt_changes _ _ _)
    · exact h2.then (State.noRoute_changes _ _ _)

theorem State.injectTx_changes (s : State) (t : Nat) :
    Changes (Part.regs ||| Part.nis ||| Part.flights) s (s.injectTx t) := by
  unfold State.injectTx
  refine Changes.ite ?_ ?_
  · exact Changes.refl _ _
  · exact (State.sendTx_changes _ _).mono

theorem State.drainTx_changes (s : State) (t : Nat) :
    Changes (Part.regs ||| Part.nis ||| Part.flights) s (s.drainTx t) := by
  unfold State.drainTx
  refine Changes.foldl (fun x => x) ?_ ?_
  · exact Changes.refl _ _
  · intro b1 a2 h3
    try dsimp -zeta -iota -proj -eta only
    try dsimp -zeta -iota -proj -eta only at h3
    exact h3.then (State.sendTx_changes _ _)

theorem State.noteIssue_changes (s : State) (id : Nat) (p : Pkt) :
    Changes Part.fabHeld s (s.noteIssue id p) := by
  unfold State.noteIssue
  extract_lets -merge -usedOnly x1 x2 x3
  clear_value x1
  clear_value x2
  clear_value x3
  refine Changes.ite ?_ ?_
  · exact Changes.set_fabHeld (Changes.refl _ _)
  · exact Changes.refl _ _

theorem State.takeIssue_changes (s : State) (src : Nat) (tag : Nat) :
    Changes Part.fabHeld s ((s.takeIssue src tag).snd) := by
  unfold State.takeIssue
  split
  · refine Changes.mk_snd ?_
    exact Changes.set_fabHeld (Changes.refl _ _)
  · refine Changes.mk_snd ?_
    exact Changes.refl _ _

theorem State.fencedPkt_changes (s : State) (id : Nat) (p : Pkt) :
    Changes (Part.regs ||| Part.flights) s (s.fencedPkt id p) := by
  unfold State.fencedPkt
  refine Changes.ite ?_ ?_
  · exact (State.fencedSends_changes _ _ _).mono
  · refine Changes.ite ?_ ?_
    · exact (State.fencedSends_changes _ _ _).mono
    · exact (State.countCut_changes _ _).mono

theorem State.deliver_changes (s : State) (p : Pkt) :
    Changes (Part.regs ||| Part.nis ||| Part.flights) s (s.deliver p) := by
  unfold State.deliver
  refine Changes.ite ?_ ?_
  · exact (State.fencedPkt_changes _ _ _).mono
  · exact (State.pushRx_changes _ _ _).mono

theorem State.misroute_changes (s : State) (h : Nat) (p : Pkt) :
    Changes (Part.regs ||| Part.flights) s (s.misroute h p) := by
  unfold State.misroute
  extract_lets -merge -usedOnly x1
  refine Changes.have (x := x1) ?_ fun h2 => ?_
  · unfold x1
    exact (State.setOn_changes _ _).mono
  clear_value x1
  refine Changes.ite ?_ ?_
  · exact h2.then (State.stopSends_changes _ _ _)
  · exact h2

theorem State.cohRead_changes (s : State) (id : Nat) (opc : Nat) (coh : Nat) (ecc : Ecc) :
    Changes (Part.regs ||| Part.bus ||| Part.engs ||| Part.bankMem ||| Part.banks ||| Part.nis ||| Part.dirc |||
        Part.bankJoins ||| Part.joinNo ||| Part.homes ||| Part.bankUe) s (s.cohRead id opc coh ecc) := by
  unfold State.cohRead
  refine Changes.onRx ?_ ?_
  · exact Changes.refl _ _
  · intro p1 t2 h3
    refine Changes.ite ?_ ?_
    · exact h3.then (State.bankAccess_changes _ _ _)
    · exact h3.then (State.nack_changes _ _ _ _)

theorem State.complete_changes (s : State) (id : Nat) (tag : Nat) :
    Changes (Part.regs ||| Part.nis) s (s.complete id tag) := by
  unfold State.complete
  exact ((State.updNi_changes _ _ _).mono).then (State.niOut_changes _ _)

theorem State.masterError_changes (s : State) (id : Nat) (q : Option Pkt) :
    Changes (Part.regs ||| Part.bus) s (s.masterError id q) := by
  unfold State.masterError
  refine Changes.ite ?_ ?_
  · refine Changes.when ?_ ?_
    · exact (State.setOn_changes _ _).mono
    · intro t1 h2
      exact h2.then (State.setBus_changes _ _ _)
  · exact Changes.refl _ _

theorem State.voidGrant_changes (s : State) (id : Nat) (tag : Nat) :
    Changes Part.nis s (s.voidGrant id tag) := by
  unfold State.voidGrant
  exact (State.updNi_changes _ _ _).mono

theorem State.onSnoop_changes (s : State) (id : Nat) (opc : Nat) (data : Nat) :
    Changes Part.nis s (s.onSnoop id opc data) := by
  unfold State.onSnoop
  refine Changes.onRx ?_ ?_
  · exact Changes.refl _ _
  · intro p1 t2 h3
    extract_lets -merge -usedOnly x4 x5
    clear_value x4
    clear_value x5
    refine Changes.ite ?_ ?_
    · exact h3.then (State.answer_changes _ _ _ _ _ _ _)
    · exact h3.then (State.answer_changes _ _ _ _ _ _ _)

theorem State.loseM_changes (s : State) (id : Nat) (k : Nat) :
    Changes Part.regs s (s.loseM id k) := by
  unfold State.loseM
  refine Changes.ite ?_ ?_
  · exact (State.count_changes _ _ _).mono
  · exact Changes.refl _ _

theorem State.afterSnoop_changes (s : State) (h : Nat) (line : Nat) (id : Nat) (keepS : Bool) :
    Changes Part.dirc s (s.afterSnoop h line id keepS) := by
  unfold State.afterSnoop
  refine Changes.ite ?_ ?_
  · exact (State.setHolders_changes _ _ _ _).mono
  · exact (State.dropCopy_changes _ _ _ _).mono

theorem State.dropEndpointSems_changes (s : State) (e : Nat) :
    Changes Part.bankMem s (s.dropEndpointSems e) := by
  unfold State.dropEndpointSems
  refine Changes.each ?_ ?_
  · exact Changes.refl _ _
  · intro t1 a2 h3
    refine Changes.each ?_ ?_
    · exact h3
    · intro t4 a5 h6
      extract_lets -merge -usedOnly x7
      clear_value x7
      refine Changes.ite ?_ ?_
      · exact h6.then (State.bankWrite_changes _ _ _ _ _)
      · exact h6

theorem State.dropAgent_changes (s : State) (id : Nat) :
    Changes (Part.regs ||| Part.dirc) s (s.dropAgent id) := by
  unfold State.dropAgent
  extract_lets -merge -usedOnly x1 x2
  clear_value x1
  refine Changes.have (x := x2) ?_ fun h3 => ?_
  · unfold x2
    refine Changes.each ?_ ?_
    · exact Changes.refl _ _
    · intro t4 a5 h6
      exact h6.then (State.dropCopy_changes _ _ _ _)
  clear_value x2
  exact h3.then (State.loseM_changes _ _ _)

theorem State.dropWaits_changes (s : State) (id : Nat) :
    Changes (Part.regs ||| Part.bus ||| Part.engs ||| Part.bankMem ||| Part.banks ||| Part.nis ||| Part.dirc |||
        Part.bankJoins ||| Part.homes ||| Part.bankUe) s (s.dropWaits id) := by
  unfold State.dropWaits
  refine Changes.each ?_ ?_
  · exact Changes.refl _ _
  · intro t1 a2 h3
    exact h3.then (State.homeAnswer_changes _ _ _ _)

theorem State.fenceEndpoint_changes (s : State) (e : Nat) (cause : Nat) :
    Changes (Part.regs ||| Part.bus ||| Part.out ||| Part.heldOut ||| Part.fns ||| Part.engs ||| Part.bankMem |||
        Part.banks ||| Part.snap ||| Part.nis ||| Part.flights ||| Part.dirc ||| Part.bankJoins ||| Part.homes |||
        Part.bankUe) s (s.fenceEndpoint e cause) := by
  unfold State.fenceEndpoint
  extract_lets -merge -usedOnly x1 x2 x3 x4 x5 x6 x7 x8 x9
  clear_value x1
  refine Changes.have (x := x2) ?_ fun h10 => ?_
  · unfold x2
    exact (State.updNi_changes _ _ _).mono
  clear_value x2
  refine Changes.have (x := x3) ?_ fun h11 => ?_
  · unfold x3
    exact h10.then (State.markFenced_changes _ _ _)
  clear_value x3
  refine Changes.have (x := x4) ?_ fun h12 => ?_
  · unfold x4
    exact (h11.then (State.setOn_changes _ _)).then (State.setOn_changes _ _)
  clear_value x4
  refine Changes.have (x := x5) ?_ fun h13 => ?_
  · unfold x5
    exact h12.then (State.drainTx_changes _ _)
  clear_value x5
  refine Changes.have (x := x6) ?_ fun h14 => ?_
  · unfold x6
    exact h13.then (State.wr_changes _ _ _)
  clear_value x6
  clear_value x7
  refine Changes.have (x := x8) ?_ fun h15 => ?_
  · unfold x8
    refine Changes.each ?_ ?_
    · exact h14.then (State.updNi_changes _ _ _)
    · intro t16 a17 h18
      exact h18.then (State.fencedPkt_changes _ _ _)
  clear_value x8
  refine Changes.have (x := x9) ?_ fun h19 => ?_
  · unfold x9
    exact ((h15.then (State.dropAgent_changes _ _)).then (State.dropEndpointSems_changes _ _)).then (State.dropWaits_changes _ _)
  clear_value x9
  refine Changes.ite ?_ ?_
  · exact h10.then (State.markFenced_changes _ _ _)
  · exact h19.then (State.postRes_changes _ _ _ _)

theorem State.routeWrite_changes (s : State) (t : Nat) (d : Nat) (v : Nat) :
    Changes (Part.regs ||| Part.nis ||| Part.routes) s (s.routeWrite t d v) := by
  unfold State.routeWrite
  extract_lets -merge -usedOnly x1 x2
  refine Changes.have (x := x1) ?_ fun h3 => ?_
  · unfold x1
    exact (State.setRoute_changes _ _ _ _).mono
  clear_value x1
  refine Changes.have (x := x2) ?_ fun h4 => ?_
  · unfold x2
    refine Changes.ite ?_ ?_
    · exact h3.then (State.setOn_changes _ _)
    · exact h3
  clear_value x2
  refine Changes.ite ?_ ?_
  · exact Changes.refl _ _
  · refine Changes.ite ?_ ?_
    · exact h4.then (State.updNi_changes _ _ _)
    · exact h4

theorem State.reroute_changes (s : State) :
    Changes (Part.regs ||| Part.nis ||| Part.routes) s (s.reroute) := by
  unfold State.reroute
  extract_lets -merge -usedOnly x1
  clear_value x1
  refine Changes.each ?_ ?_
  · exact Changes.refl _ _
  · intro t2 a3 h4
    refine Changes.each ?_ ?_
    · exact h4
    · intro t5 a6 h7
      extract_lets -merge -usedOnly x8
      clear_value x8
      refine Changes.ite ?_ ?_
      · exact h7.then (State.routeWrite_changes _ _ _ _)
      · exact h7

theorem State.linkFail_changes (s : State) (h : Nat) (stop : Nat) (dir : Nat) :
    Changes (Part.regs ||| Part.out ||| Part.heldOut ||| Part.fns ||| Part.nis ||| Part.routes) s (s.linkFail h stop dir) := by
  unfold State.linkFail
  extract_lets -merge -usedOnly x1 x2
  refine Changes.have (x := x1) ?_ fun h3 => ?_
  · unfold x1
    exact (State.wr_changes _ _ _).mono
  clear_value x1
  refine Changes.have (x := x2) ?_ fun h4 => ?_
  · unfold x2
    exact h3.then (State.setOn_changes _ _)
  clear_value x2
  exact ((h4.then (State.reroute_changes _)).then (State.postRes_changes _ _ _ _)).then (State.updDegraded_changes _)

/-! ## Machine/Startup -/

theorem State.showFuses_changes (s : State) :
    Changes Part.regs s (s.showFuses) := by
  unfold State.showFuses
  extract_lets -merge -usedOnly x1 x2 x3
  refine Changes.have (x := x1) ?_ fun h4 => ?_
  · unfold x1
    exact ((State.wr_changes _ _ _).mono).then (State.wr_changes _ _ _)
  clear_value x1
  refine Changes.have (x := x2) ?_ fun h5 => ?_
  · unfold x2
    exact (h4.then (State.wr_changes _ _ _)).then (State.wr_changes _ _ _)
  clear_value x2
  refine Changes.have (x := x3) ?_ fun h6 => ?_
  · unfold x3
    exact (h5.then (State.wr_changes _ _ _)).then (State.wr_changes _ _ _)
  clear_value x3
  exact h6.then (State.wr_changes _ _ _)

/-- What a device reset leaves: the queue, the count of free values, what left for the host, the analogue channels, the fuses. -/
theorem Changes.reset (s : State) (v : Option (Bool × Bool)) (c : Nat) : Changes Part.byReset s { State.reset with
    pending := s.pending, fresh := s.fresh, out := s.out, vccCh := s.vccCh, fuses := s.fuses, svn := s.svn,
    strapOver := v, vcore := c } where
  canonical _ := rfl
  keepsFuses f v q := q
  gainsSvn := Nat.le_refl _
  pending b := rfl
  por b := absurd b (by decide)
  ticks b := absurd b (by decide)
  fresh b := absurd b (by decide)
  regs b := absurd b (by decide)
  latches b := absurd b (by decide)
  holds b := absurd b (by decide)
  bus b := absurd b (by decide)
  out b := rfl
  heldOut b := absurd b (by decide)
  fns b := absurd b (by decide)
  ctxs b := absurd b (by decide)
  clks b := absurd b (by decide)
  agents b := absurd b (by decide)
  reports b := absurd b (by decide)
  engs b := absurd b (by decide)
  bays b := absurd b (by decide)
  fcc b := absurd b (by decide)
  chans b := absurd b (by decide)
  ssgs b := absurd b (by decide)
  seqMem b := absurd b (by decide)
  seqUnread b := absurd b (by decide)
  seqPos b := absurd b (by decide)
  fsets b := absurd b (by decide)
  lmaps b := absurd b (by decide)
  scr b := absurd b (by decide)
  tsets b := absurd b (by decide)
  calRecs b := absurd b (by decide)
  ports b := absurd b (by decide)
  bankMem b := absurd b (by decide)
  banks b := absurd b (by decide)
  dram b := absurd b (by decide)
  poison b := absurd b (by decide)
  startFold b := absurd b (by decide)
  restoring b := absurd b (by decide)
  dmcs b := absurd b (by decide)
  tb b := absurd b (by decide)
  trcs b := absurd b (by decide)
  sups b := absurd b (by decide)
  vccCh b := rfl
  drives b := absurd b (by decide)
  hbMiss b := absurd b (by decide)
  ownEp b := absurd b (by decide)
  talk b := absurd b (by decide)
  substs b := absurd b (by decide)
  snap b := absurd b (by decide)
  time b := absurd b (by decide)
  hostReady b := absurd b (by decide)
  nis b := absurd b (by decide)
  flights b := absurd b (by decide)
  routes b := absurd b (by decide)
  dirc b := absurd b (by decide)
  bankJoins b := absurd b (by decide)
  joinNo b := absurd b (by decide)
  homes b := absurd b (by decide)
  fabHeld b := absurd b (by decide)
  bankUe b := absurd b (by decide)
  fcfg b := absurd b (by decide)
  bramInit b := absurd b (by decide)
  bramX b := absurd b (by decide)
  ffX b := absurd b (by decide)
  brams b := absurd b (by decide)
  slices b := absurd b (by decide)
  ios b := absurd b (by decide)
  ghWait b := absurd b (by decide)
  fcgs b := absurd b (by decide)
  load b := absurd b (by decide)
  fuses b := rfl
  svn b := rfl
  fuseArm b := absurd b (by decide)
  boot b := absurd b (by decide)
  strapOver b := absurd b (by decide)
  attest b := absurd b (by decide)
  report b := absurd b (by decide)
  cfgMeas b := absurd b (by decide)
  prChain b := absurd b (by decide)
  vcore b := absurd b (by decide)
  hj b := absurd b (by decide)
  edge b := absurd b (by decide)
  lineHi b := absurd b (by decide)
  gateOff b := absurd b (by decide)
  pins b := absurd b (by decide)
  padExt b := absurd b (by decide)
  padOn b := absurd b (by decide)
  padKeep b := absurd b (by decide)
  retKey b := absurd b (by decide)
  frameCrcs b := absurd b (by decide)
  prnExcl b := absurd b (by decide)

theorem State.deviceReset_changes (s : State) (cause : Nat) (ov : Option (Bool × Bool)) :
    Changes (Part.byReset) s (s.deviceReset cause ov) := by
  unfold State.deviceReset
  extract_lets keep src t1 t2 t3 t4 t5 q
  have h1 : Changes Part.byReset s t1 := Changes.reset s _ _
  have h2 : Changes Part.byReset s t2 := h1.then (State.updTime_changes _ _)
  have h3 : Changes Part.byReset s t3 :=
    ((h2.then (State.wr_changes _ _ _)).then (State.wr_changes _ _ _)).then (State.wr_changes _ _ _)
  have h4 : Changes Part.byReset s t4 := Changes.each h3 (fun t f ht => ht.then (State.wr_changes _ _ _))
  have h5 : Changes Part.byReset s t5 := Changes.each h4 (fun t n ht => ht.then (State.wr_changes _ _ _))
  have h6 : Changes Part.byReset s q.2 := h5.then (State.free_changes t5 256)
  have h7 : Changes Part.byReset s { q.2 with retKey := q.1 } := Changes.set_retKey h6
  exact (h7.then (State.showFuses_changes _)).then (State.wr_changes _ _ _)

theorem State.awaitFw_changes (s : State) :
    Changes Part.regs s (s.awaitFw) := by
  unfold State.awaitFw
  exact (((State.wr_changes _ _ _).mono).then (State.clr_changes _ _)).then (State.wr_changes _ _ _)

theorem State.fwVerify_changes (s : State) (source : Nat) (g : Img) (golden : Option Img) :
    Changes (Part.regs ||| Part.boot) s (s.fwVerify source g golden) := by
  unfold State.fwVerify
  extract_lets -merge -usedOnly x1 x2
  refine Changes.have (x := x1) ?_ fun h3 => ?_
  · unfold x1
    exact (((State.wr_changes _ _ _).mono).then (State.wr_changes _ _ _)).then (State.clr_changes _ _)
  clear_value x1
  clear_value x2
  exact Changes.set_boot h3

theorem State.enterSelftest_changes (s : State) :
    Changes (Part.regs ||| Part.sups) s (s.enterSelftest) := by
  unfold State.enterSelftest
  extract_lets -merge -usedOnly x1 x2 x3
  refine Changes.have (x := x1) ?_ fun h4 => ?_
  · unfold x1
    exact (((State.wr_changes _ _ _).mono).then (State.clr_changes _ _)).then (State.wr_changes _ _ _)
  clear_value x1
  refine Changes.have (x := x2) ?_ fun h5 => ?_
  · unfold x2
    refine Changes.each ?_ ?_
    · exact h4
    · intro t6 a7 h8
      exact h8.then (State.wr_changes _ _ _)
  clear_value x2
  refine Changes.have (x := x3) ?_ fun h9 => ?_
  · unfold x3
    exact h5.then (State.updSup_changes _ _ _)
  clear_value x3
  refine Changes.ite ?_ ?_
  · exact h9
  · exact h9.then (State.updSup_changes _ _ _)

theorem State.safeHold_changes (s : State) (reason : Nat) :
    Changes Part.regs s (s.safeHold reason) := by
  unfold State.safeHold
  extract_lets -merge -usedOnly x1
  refine Changes.have (x := x1) ?_ fun h2 => ?_
  · unfold x1
    exact (((State.wr_changes _ _ _).mono).then (State.wr_changes _ _ _)).then (State.setOn_changes _ _)
  clear_value x1
  refine Changes.each ?_ ?_
  · exact h2
  · intro t3 a4 h5
    exact h5.then (State.wr_changes _ _ _)

theorem State.dramTrained_changes (s : State) (n : Nat) (geom : Nat) :
    Changes Part.regs s (s.dramTrained n geom) := by
  unfold State.dramTrained
  extract_lets -merge -usedOnly x1 x2
  refine Changes.have (x := x1) ?_ fun h3 => ?_
  · unfold x1
    exact (((State.wr_changes _ _ _).mono).then (State.wr_changes _ _ _)).then (State.wr_changes _ _ _)
  clear_value x1
  refine Changes.have (x := x2) ?_ fun h4 => ?_
  · unfold x2
    refine Changes.each ?_ ?_
    · exact h3
    · intro t5 a6 h7
      exact h7.then (State.wr_changes _ _ _)
  clear_value x2
  exact (((h4.then (State.wr_changes _ _ _)).then (State.wr_changes _ _ _)).then (State.setOn_changes _ _)).then (State.setOn_changes _ _)

theorem State.dramStart_changes (s : State) (geom : List (BitVec 9)) (bad : List Nat) :
    Changes (Part.fresh ||| Part.regs ||| Part.bus ||| Part.out ||| Part.heldOut ||| Part.fns ||| Part.ctxs |||
        Part.engs ||| Part.bays ||| Part.chans ||| Part.ssgs ||| Part.bankMem ||| Part.dram ||| Part.poison |||
        Part.startFold ||| Part.restoring ||| Part.dmcs ||| Part.trcs ||| Part.snap ||| Part.time ||| Part.nis |||
        Part.fabHeld) s (s.dramStart geom bad) := by
  unfold State.dramStart
  extract_lets -merge -usedOnly x1 x2 x3 x4
  refine Changes.have (x := x1) ?_ fun h5 => ?_
  · unfold x1
    refine Changes.each ?_ ?_
    · exact Changes.refl _ _
    · intro t6 a7 h8
      exact h8.then (State.dramTrained_changes _ _ _)
  clear_value x1
  refine Changes.have (x := x2) ?_ fun h9 => ?_
  · unfold x2
    refine Changes.each ?_ ?_
    · exact h5
    · intro t10 a11 h12
      exact (h12.then (State.wr_changes _ _ _)).then (State.wr_changes _ _ _)
  clear_value x2
  refine Changes.have (x := x3) ?_ fun h13 => ?_
  · unfold x3
    refine Changes.each ?_ ?_
    · exact h9
    · intro t14 a15 h16
      exact (h16.then (State.setOn_changes _ _)).then (State.dramRemove_changes _ _ _)
  clear_value x3
  refine Changes.have (x := x4) ?_ fun h17 => ?_
  · unfold x4
    exact Changes.put h13 rfl (fun h => h) rfl rfl
  clear_value x4
  refine Changes.each ?_ ?_
  · exact h17
  · intro t18 a19 h20
    extract_lets -merge -usedOnly x21
    clear_value x21
    refine Changes.ite ?_ ?_
    · exact h20.then (State.dramOut_changes _ _)
    · exact h20

theorem State.stestReport_changes (s : State) (t : SelfTest) :
    Changes Part.regs s (s.stestReport t) := by
  unfold State.stestReport
  extract_lets -merge -usedOnly x1 x2 x3
  refine Changes.have (x := x1) ?_ fun h4 => ?_
  · unfold x1
    exact ((State.wr_changes _ _ _).mono).then (State.wr_changes _ _ _)
  clear_value x1
  refine Changes.have (x := x2) ?_ fun h5 => ?_
  · unfold x2
    refine Changes.each ?_ ?_
    · exact h4
    · intro t6 a7 h8
      exact h8.then (State.wr_changes _ _ _)
  clear_value x2
  refine Changes.have (x := x3) ?_ fun h9 => ?_
  · unfold x3
    refine Changes.each ?_ ?_
    · exact h5
    · intro t10 a11 h12
      refine Changes.ite ?_ ?_
      · exact h12.then (State.setOn_changes _ _)
      · exact (h12.then (State.setOn_changes _ _)).then (State.wr_changes _ _ _)
  clear_value x3
  refine Changes.each ?_ ?_
  · exact h9
  · intro t13 a14 h15
    exact h15.then (State.wr_changes _ _ _)

theorem State.tolerate_changes (s : State) (t : SelfTest) :
    Changes (Part.fresh ||| Part.regs ||| Part.bus ||| Part.out ||| Part.heldOut ||| Part.fns ||| Part.ctxs |||
        Part.engs ||| Part.bays ||| Part.chans ||| Part.ssgs ||| Part.fsets ||| Part.lmaps ||| Part.scr |||
        Part.bankMem ||| Part.banks ||| Part.dmcs ||| Part.trcs ||| Part.substs ||| Part.snap ||| Part.nis |||
        Part.routes ||| Part.fabHeld) s (s.tolerate t) := by
  unfold State.tolerate
  extract_lets -merge -usedOnly x1 x2 x3 x4 x5 x6
  clear_value x1
  refine Changes.have (x := x2) ?_ fun h7 => ?_
  · unfold x2
    refine Changes.each ?_ ?_
    · exact Changes.refl _ _
    · intro t8 a9 h10
      exact h10.then (State.fenceSlot_changes _ _ _)
  clear_value x2
  refine Changes.have (x := x3) ?_ fun h11 => ?_
  · unfold x3
    refine Changes.each ?_ ?_
    · exact h7
    · intro t12 a13 h14
      exact h14.then (State.substitute_changes _ _)
  clear_value x3
  refine Changes.have (x := x4) ?_ fun h15 => ?_
  · unfold x4
    refine Changes.each ?_ ?_
    · exact h11
    · intro t16 a17 h18
      exact h18.then (State.fenceBay_changes _ _ _)
  clear_value x4
  refine Changes.have (x := x5) ?_ fun h19 => ?_
  · unfold x5
    refine Changes.each ?_ ?_
    · exact h15
    · intro t20 a21 h22
      exact h22.then (State.fenceSup_changes _ _ _)
  clear_value x5
  refine Changes.have (x := x6) ?_ fun h23 => ?_
  · unfold x6
    refine Changes.each ?_ ?_
    · exact h19
    · intro t24 a25 h26
      refine Changes.ite ?_ ?_
      · exact (h26.then (State.setOn_changes _ _)).then (State.updBank_changes _ _ _)
      · exact h26.then (State.adoptBank_changes _ _ _)
  clear_value x6
  refine Changes.ite ?_ ?_
  · exact h23
  · exact h23.then (State.reroute_changes _)

theorem State.loadMonitor_changes (s : State) (l : List Entry) : Changes Part.seqMem s (s.loadMonitor l) := by
  unfold State.loadMonitor
  refine Changes.set_seqMem (Changes.refl _ s) (fun _ => ?_)
  exact foldl_keeps (fun m => Table.wf (0 : Entry) m = true) _
    (fun m e hm => Table.wf_set 0 _ _ _ (Table.wf_set 0 _ _ _ hm)) _ _ (Table.wf_nil 0)

theorem State.fuseArmWrite_changes (s : State) (field : Nat) :
    Changes (Part.regs ||| Part.fuseArm) s (s.fuseArmWrite field) := by
  unfold State.fuseArmWrite
  extract_lets -merge -usedOnly x1 x2
  refine Changes.have (x := x1) ?_ fun h3 => ?_
  · unfold x1
    exact (State.wr_changes _ _ _).mono
  clear_value x1
  refine Changes.have (x := x2) ?_ fun h4 => ?_
  · unfold x2
    exact h3.then (State.setOn_changes _ _)
  clear_value x2
  refine Changes.ite ?_ ?_
  · exact h3
  · exact Changes.set_fuseArm h4

/-- Programming a fuse field that holds no value gains it at most. -/
theorem Changes.putFuse (s : State) (f : Nat) (v : Option Nat) (h : s.fused f = false) :
    Changes Part.fuses s { s with fuses := Table.set none s.fuses f v } where
  canonical c := c
  keepsFuses g w q := by
    have hne : g ≠ f := by
      rintro rfl
      rw [State.fused, q] at h
      exact absurd h (by simp)
    show Table.get none (Table.set none s.fuses f v) g = some w
    rw [Table.get_set_ne none none s.fuses v hne]
    exact q
  gainsSvn := Nat.le_refl _
  pending b := rfl
  por b := rfl
  ticks b := rfl
  fresh b := rfl
  regs b := rfl
  latches b := rfl
  holds b := rfl
  bus b := rfl
  out b := rfl
  heldOut b := rfl
  fns b := rfl
  ctxs b := rfl
  clks b := rfl
  agents b := rfl
  reports b := rfl
  engs b := rfl
  bays b := rfl
  fcc b := rfl
  chans b := rfl
  ssgs b := rfl
  seqMem b := rfl
  seqUnread b := rfl
  seqPos b := rfl
  fsets b := rfl
  lmaps b := rfl
  scr b := rfl
  tsets b := rfl
  calRecs b := rfl
  ports b := rfl
  bankMem b := rfl
  banks b := rfl
  dram b := rfl
  poison b := rfl
  startFold b := rfl
  restoring b := rfl
  dmcs b := rfl
  tb b := rfl
  trcs b := rfl
  sups b := rfl
  vccCh b := rfl
  drives b := rfl
  hbMiss b := rfl
  ownEp b := rfl
  talk b := rfl
  substs b := rfl
  snap b := rfl
  time b := rfl
  hostReady b := rfl
  nis b := rfl
  flights b := rfl
  routes b := rfl
  dirc b := rfl
  bankJoins b := rfl
  joinNo b := rfl
  homes b := rfl
  fabHeld b := rfl
  bankUe b := rfl
  fcfg b := rfl
  bramInit b := rfl
  bramX b := rfl
  ffX b := rfl
  brams b := rfl
  slices b := rfl
  ios b := rfl
  ghWait b := rfl
  fcgs b := rfl
  load b := rfl
  fuses b := absurd b (by decide)
  svn b := rfl
  fuseArm b := rfl
  boot b := rfl
  strapOver b := rfl
  attest b := rfl
  report b := rfl
  cfgMeas b := rfl
  prChain b := rfl
  vcore b := rfl
  hj b := rfl
  edge b := rfl
  lineHi b := rfl
  gateOff b := rfl
  pins b := rfl
  padExt b := rfl
  padOn b := rfl
  padKeep b := rfl
  retKey b := rfl
  frameCrcs b := rfl
  prnExcl b := rfl

theorem State.fuseGo_changes (s : State) (volt verified : Bool) : Changes (Part.fresh ||| Part.regs ||| Part.fuses |||
    Part.fuseArm) s (s.fuseGo volt verified) := by
  unfold State.fuseGo
  extract_lets f hash g s1 q s2 s3 s4
  have hq : Changes (Part.fresh ||| Part.regs ||| Part.fuses ||| Part.fuseArm) s q.2 := by
    unfold q
    by_cases hf : s.fused f = true
    · rw [if_pos hf]
      exact Changes.mk_snd (Changes.refl _ _)
    · have hf := Bool.eq_false_iff.mpr hf
      refine Changes.ite_snd (Changes.mk_snd (Changes.refl _ _)) ?_
      refine Changes.ite_snd (Changes.mk_snd (Changes.refl _ _)) ?_
      refine Changes.ite_snd (Changes.mk_snd (Changes.refl _ _)) ?_
      refine Changes.ite_snd (Changes.mk_snd (Changes.putFuse s f _ hf).mono) ?_
      refine Changes.mk_snd ?_
      exact Changes.then (s := s1) (State.free_changes s 257).mono (Changes.putFuse s1 f _ hf)
  clear_value q
  have h2 : Changes (Part.fresh ||| Part.regs ||| Part.fuses |||
      Part.fuseArm) s s2 := (hq.then (State.wr_changes _ _ _)).then (State.clr_changes _ _)
  have h3 : Changes (Part.fresh ||| Part.regs ||| Part.fuses ||| Part.fuseArm) s s3 := Changes.set_fuseArm h2
  have h4 : Changes (Part.fresh ||| Part.regs ||| Part.fuses ||| Part.fuseArm) s s4 :=
    (Changes.each h3 (fun t a ht => ht.then (State.clr_changes _ _))).then (State.showFuses_changes _)
  exact Changes.ite (h4.then (State.clr_changes _ _)) h4

theorem State.attReq_changes (s : State) :
    Changes (Part.regs ||| Part.attest) s (s.attReq) := by
  unfold State.attReq
  extract_lets -merge -usedOnly x1 x2
  clear_value x1
  refine Changes.have (x := x2) ?_ fun h3 => ?_
  · unfold x2
    exact ((State.setOn_changes _ _).mono).then (State.setOn_changes _ _)
  clear_value x2
  refine Changes.ite ?_ ?_
  · exact Changes.refl _ _
  · exact Changes.set_attest h3

/-! ## Machine/DebugCtl -/

theorem State.updHj_changes (s : State) (f : HjSt → HjSt) :
    Changes Part.hj s (s.updHj f) := by
  unfold State.updHj
  exact Changes.set_hj (Changes.refl _ _)

theorem State.authFail_changes (s : State) (result : Nat) :
    Changes (Part.regs ||| Part.hj) s (s.authFail result) := by
  unfold State.authFail
  extract_lets -merge -usedOnly x1
  clear_value x1
  exact ((((State.wr_changes _ _ _).mono).then (State.clr_changes _ _)).then (State.count_changes _ _ _)).then (State.updHj_changes _ _)

theorem State.monAsk_changes (s : State) (n : Nat) (step : Nat) :
    Changes (Part.regs ||| Part.engs) s (s.monAsk n step) := by
  unfold State.monAsk
  split
  · refine Changes.ite ?_ ?_
    · exact (State.updEng_changes _ _ _).mono
    · exact (State.monGo_changes _ _ _).mono
  · exact Changes.refl _ _

/-! ## Machine/Fabric -/

theorem State.updFcg_changes (s : State) (h : Nat) (g : Nat) (f : FcgSt → FcgSt) :
    Changes Part.fcgs s (s.updFcg h g f) := by
  unfold State.updFcg
  exact Changes.set_fcgs (Changes.refl _ _)

theorem State.fcgApply_changes (s : State) (h : Nat) (g : Nat) (pinHz : Nat) :
    Changes (Part.regs ||| Part.fcgs) s (s.fcgApply h g pinHz) := by
  unfold State.fcgApply
  extract_lets -merge -usedOnly x1 x2 x3
  clear_value x1
  clear_value x2
  refine Changes.have (x := x3) ?_ fun h4 => ?_
  · unfold x3
    exact ((State.updFcg_changes _ _ _ _).mono).then (State.clr_changes _ _)
  clear_value x3
  refine Changes.ite ?_ ?_
  · exact Changes.refl _ _
  · refine Changes.ite ?_ ?_
    · refine Changes.ite ?_ ?_
      · exact h4.then (State.setOn_changes _ _)
      · exact h4
    · exact (State.setOn_changes _ _).mono

theorem State.fcgCfgWrite_changes (s : State) (h : Nat) (g : Nat) (v : Nat) :
    Changes (Part.regs ||| Part.fcgs) s (s.fcgCfgWrite h g v) := by
  unfold State.fcgCfgWrite
  extract_lets -merge -usedOnly x1 x2
  refine Changes.have (x := x1) ?_ fun h3 => ?_
  · unfold x1
    exact (((State.wr_changes _ _ _).mono).then (State.wr_changes _ _ _)).then (State.wr_changes _ _ _)
  clear_value x1
  refine Changes.have (x := x2) ?_ fun h4 => ?_
  · unfold x2
    exact (h3.then (State.wr_changes _ _ _)).then (State.wr_changes _ _ _)
  clear_value x2
  refine Changes.ite ?_ ?_
  · exact Changes.refl _ _
  · refine Changes.ite ?_ ?_
    · exact h4
    · exact (h4.then (State.clr_changes _ _)).then (State.updFcg_changes _ _ _ _)

theorem State.before_changes (s : State) :
    Changes (Part.ffX ||| Part.brams ||| Part.slices ||| Part.ios) s (s.before) := by
  unfold State.before
  exact Changes.put (Changes.refl _ _) rfl (fun h => h) rfl rfl

theorem State.ffStep_changes (s : State) (b : State) (t : Nat) (c : Nat) (a : Nat) :
    Changes Part.ffX s (s.ffStep b t c a) := by
  unfold State.ffStep
  extract_lets -merge -usedOnly x1 x2 x3 x4 x5 x6 x7 x8
  clear_value x1
  clear_value x2
  clear_value x3
  clear_value x4
  clear_value x5
  clear_value x6
  clear_value x7
  clear_value x8
  refine Changes.ite ?_ ?_
  · exact Changes.refl _ _
  · exact Changes.set_ffX (Changes.refl _ _)

theorem State.ioStep_changes (s : State) (b : State) (p : Nat) :
    Changes Part.ios s (s.ioStep b p) := by
  unfold State.ioStep
  extract_lets -merge -usedOnly x1 x2 x3 x4 x5 x6 x7 x8 x9 x10 x11 x12 x13 x14 x15 x16 x17 x18
  clear_value x1
  clear_value x2
  clear_value x3
  clear_value x4
  clear_value x5
  clear_value x6
  clear_value x7
  clear_value x8
  clear_value x9
  clear_value x10
  clear_value x11
  clear_value x12
  clear_value x13
  clear_value x15
  clear_value x16
  clear_value x17
  clear_value x18
  refine Changes.ite ?_ ?_
  · exact Changes.refl _ _
  · exact Changes.set_ios (Changes.refl _ _)

theorem State.asyncOnce_changes (s : State) :
    Changes Part.ffX s (s.asyncOnce) := by
  unfold State.asyncOnce
  refine Changes.each ?_ ?_
  · exact Changes.refl _ _
  · intro t1 a2 h3
    refine Changes.each ?_ ?_
    · exact h3
    · intro t4 a5 h6
      refine Changes.each ?_ ?_
      · exact h6
      · intro t7 a8 h9
        extract_lets -merge -usedOnly x10 x11 x12
        clear_value x10
        clear_value x11
        clear_value x12
        refine Changes.ite ?_ ?_
        · exact Changes.set_ffX h9
        · exact h9

theorem State.asyncSettle_changes (s : State) (n : Nat) : Changes Part.ffX s (s.asyncSettle n) := by
  induction n generalizing s with
  | zero => exact Changes.refl _ _
  | succ n ih =>
    unfold State.asyncSettle
    have h := State.asyncOnce_changes s
    extract_lets t
    refine Changes.ite h ?_
    exact h.trans (ih t)

theorem State.asyncAll_changes (s : State) :
    Changes Part.ffX s (s.asyncAll) := by
  unfold State.asyncAll
  exact (State.asyncSettle_changes _ _).mono

theorem State.holdQuarter_changes (s : State) (q : Nat) :
    Changes (Part.bramX ||| Part.ffX ||| Part.brams ||| Part.slices ||| Part.ios) s (s.holdQuarter q) := by
  unfold State.holdQuarter
  exact Changes.put (Changes.refl _ _) rfl (fun h => h) rfl rfl

theorem State.releaseQuarter_changes (s : State) (q : Nat) : Changes Part.ghWait s (s.releaseQuarter q) := by
  unfold State.releaseQuarter
  generalize (List.range 12).foldl (fun t l => Table.set 0 t (q * 16 + l) 3) s.ghWait = g
  exact Changes.put (Changes.refl _ _) rfl (fun h => h) rfl rfl

theorem State.releaseEndpoint_changes (s : State) (e : Nat) :
    Changes (Part.regs ||| Part.ownEp ||| Part.nis) s (s.releaseEndpoint e) := by
  unfold State.releaseEndpoint
  extract_lets -merge -usedOnly x1 x2 x3
  clear_value x1
  refine Changes.have (x := x2) ?_ fun h4 => ?_
  · unfold x2
    exact (((State.clr_changes _ _).mono).then (State.clr_changes _ _)).then (State.wr_changes _ _ _)
  clear_value x2
  refine Changes.have (x := x3) ?_ fun h5 => ?_
  · unfold x3
    exact ((h4.then (State.clr_changes _ _)).then (State.openGates_changes _ _)).then (State.updNi_changes _ _ _)
  clear_value x3
  exact h5.then (State.wr_changes _ _ _)

theorem State.neCfgWrite_changes (s : State) (e : Nat) (v : Nat) :
    Changes (Part.regs ||| Part.bus ||| Part.out ||| Part.heldOut ||| Part.fns ||| Part.engs ||| Part.bankMem |||
        Part.banks ||| Part.snap ||| Part.nis ||| Part.flights ||| Part.dirc ||| Part.bankJoins ||| Part.homes |||
        Part.bankUe) s (s.neCfgWrite e v) := by
  unfold State.neCfgWrite
  extract_lets -merge -usedOnly x1 x2 x3 x4
  clear_value x1
  refine Changes.have (x := x2) ?_ fun h5 => ?_
  · unfold x2
    refine Changes.ite ?_ ?_
    · exact Changes.refl _ _
    · exact ((State.wr_changes _ _ _).mono).then (State.wr_changes _ _ _)
  clear_value x2
  refine Changes.have (x := x3) ?_ fun h6 => ?_
  · unfold x3
    exact h5.then (State.wr_changes _ _ _)
  clear_value x3
  refine Changes.have (x := x4) ?_ fun h7 => ?_
  · unfold x4
    refine Changes.ite ?_ ?_
    · exact h6.then (State.updNi_changes _ _ _)
    · exact h6
  clear_value x4
  refine Changes.ite ?_ ?_
  · exact h7.then (State.fenceEndpoint_changes _ _ _)
  · exact h7

theorem State.fabWrite_changes (s : State) (off : Nat) (v : Nat) (pinHz : Nat) :
    Changes (Part.regs ||| Part.bus ||| Part.out ||| Part.heldOut ||| Part.fns ||| Part.engs ||| Part.bankMem |||
        Part.banks ||| Part.snap ||| Part.nis ||| Part.flights ||| Part.dirc ||| Part.bankJoins ||| Part.homes |||
        Part.bankUe ||| Part.fcgs) s (s.fabWrite off v pinHz) := by
  unfold State.fabWrite
  extract_lets -merge -usedOnly x1 x2 x3
  clear_value x1
  clear_value x2
  clear_value x3
  refine Changes.ite ?_ ?_
  · refine Changes.ite ?_ ?_
    · exact (State.storeWord_changes _ _ _).mono
    · split
      · refine Changes.ite ?_ ?_
        · exact ((State.fcgCfgWrite_changes _ _ _ _).mono).then (State.fcgApply_changes _ _ _ _)
        · exact (State.fcgCfgWrite_changes _ _ _ _).mono
      · refine Changes.ite ?_ ?_
        · exact Changes.refl _ _
        · exact (State.storeWord_changes _ _ _).mono
      · exact (State.storeWord_changes _ _ _).mono
  · refine Changes.ite ?_ ?_
    · exact (State.neCfgWrite_changes _ _ _).mono
    · exact (State.storeWord_changes _ _ _).mono

/-! ## Machine/Agents -/

theorem State.setActions_changes (s : State) (a : Agent) (l : List CtlAction) :
    Changes Part.agents s (s.setActions a l) := by
  unfold State.setActions
  exact Changes.set_agents (Changes.refl _ _)

theorem State.fenceStop_changes (s : State) (h : Nat) (t : Nat) (c : CtlFrom) :
    Changes (Part.regs ||| Part.nis) s (s.fenceStop h t c) := by
  unfold State.fenceStop
  refine Changes.each ?_ ?_
  · exact Changes.refl _ _
  · intro t1 a2 h3
    exact (h3.then (State.wr_changes _ _ _)).then (State.updNi_changes _ _ _)

theorem State.fenceAgent_changes (s : State) (a : Agent) (c : CtlFrom) :
    Changes (Part.fresh ||| Part.regs ||| Part.bus ||| Part.out ||| Part.heldOut ||| Part.fns ||| Part.ctxs |||
        Part.engs ||| Part.bays ||| Part.chans ||| Part.ssgs ||| Part.bankMem ||| Part.banks ||| Part.dmcs |||
        Part.trcs ||| Part.substs ||| Part.snap ||| Part.nis ||| Part.flights ||| Part.dirc ||| Part.bankJoins |||
        Part.homes ||| Part.fabHeld ||| Part.bankUe) s (s.fenceAgent a c) := by
  unfold State.fenceAgent
  split
  · exact (State.fenceSlot_changes _ _ _).mono
  · exact (State.fenceGroup_changes _ _ _).mono
  · exact (State.updDmc_changes _ _ _).mono
  · exact (State.fenceStop_changes _ _ _ _).mono
  · exact ((State.fenceEndpoint_changes _ _ _).mono).then (State.fenceEndpoint_changes _ _ _)
  · exact Changes.refl _ _
  · exact Changes.refl _ _

theorem State.execute_changes (s : State) (a : Agent) (x : CtlAction) :
    Changes (Part.fresh ||| Part.regs ||| Part.bus ||| Part.out ||| Part.heldOut ||| Part.fns ||| Part.ctxs |||
        Part.agents ||| Part.reports ||| Part.engs ||| Part.bays ||| Part.chans ||| Part.ssgs ||| Part.bankMem |||
        Part.banks ||| Part.dmcs ||| Part.trcs ||| Part.substs ||| Part.snap ||| Part.nis ||| Part.flights |||
        Part.dirc ||| Part.bankJoins ||| Part.homes ||| Part.fabHeld ||| Part.bankUe) s (s.execute a x) := by
  unfold State.execute
  extract_lets -merge -usedOnly x1 x2 x3
  clear_value x1
  clear_value x2
  refine Changes.have (x := x3) ?_ fun h4 => ?_
  · unfold x3
    exact (State.setActions_changes _ _ _).mono
  clear_value x3
  split
  · exact (Changes.set_reports h4).then (State.fenceAgent_changes _ _ _)
  · exact (State.setActions_changes _ _ _).mono

theorem State.executeAll_changes (s : State) (a : Agent) (k : Nat) : Changes (Part.fresh ||| Part.regs ||| Part.bus |||
    Part.out ||| Part.heldOut ||| Part.fns ||| Part.ctxs ||| Part.agents ||| Part.reports ||| Part.engs ||| Part.bays |||
    Part.chans ||| Part.ssgs ||| Part.bankMem ||| Part.banks ||| Part.dmcs ||| Part.trcs ||| Part.substs ||| Part.snap |||
    Part.nis ||| Part.flights ||| Part.dirc ||| Part.bankJoins ||| Part.homes ||| Part.fabHeld |||
    Part.bankUe) s (s.executeAll a k) := by
  induction k generalizing s with
  | zero => exact Changes.refl _ _
  | succ k ih =>
    unfold State.executeAll
    split
    · exact (State.execute_changes _ _ _).mono.trans (ih _)
    · exact Changes.refl _ _

theorem State.receive_changes (s : State) (a : Agent) (k : CtlKind) (c : CtlFrom) (more : Bool) :
    Changes (Part.fresh ||| Part.regs ||| Part.bus ||| Part.out ||| Part.heldOut ||| Part.fns ||| Part.ctxs |||
        Part.agents ||| Part.reports ||| Part.engs ||| Part.bays ||| Part.chans ||| Part.ssgs ||| Part.bankMem |||
        Part.banks ||| Part.dmcs ||| Part.trcs ||| Part.substs ||| Part.snap ||| Part.nis ||| Part.flights |||
        Part.dirc ||| Part.bankJoins ||| Part.homes ||| Part.fabHeld ||| Part.bankUe) s (s.receive a k c more) := by
  unfold State.receive
  extract_lets -merge -usedOnly x1
  refine Changes.have (x := x1) ?_ fun h2 => ?_
  · unfold x1
    exact (State.setActions_changes _ _ _).mono
  clear_value x1
  refine Changes.ite ?_ ?_
  · exact Changes.refl _ _
  · refine Changes.ite ?_ ?_
    · exact h2
    · exact h2.then (State.executeAll_changes _ _ _)

/-! ## Machine/FabricMem -/

theorem State.bramPut_changes (s : State) (t : Nat) (r : Nat) (v : Nat) :
    Changes Part.bramX s (s.bramPut t r v) := by
  unfold State.bramPut
  exact Changes.set_bramX (Changes.refl _ _)

theorem State.bramTrue_changes (s : State) (b : State) (t : Nat) :
    Changes (Part.bramX ||| Part.brams) s (s.bramTrue b t) := by
  unfold State.bramTrue
  extract_lets -merge -usedOnly x1 x2 x3 x4 x5 x6 x7 x8 x9 x10 x11 x12 x13 x14 x15 x16 x17 x18 x19 x20 x21 x22
  clear_value x1
  clear_value x2
  clear_value x3
  clear_value x4
  clear_value x5
  clear_value x6
  clear_value x7
  clear_value x8
  clear_value x9
  clear_value x10
  clear_value x11
  clear_value x12
  clear_value x13
  clear_value x14
  clear_value x15
  refine Changes.have (x := x16) ?_ fun h23 => ?_
  · unfold x16
    refine Changes.ite ?_ ?_
    · exact (State.bramPut_changes _ _ _ _).mono
    · exact Changes.refl _ _
  clear_value x16
  refine Changes.have (x := x17) ?_ fun h24 => ?_
  · unfold x17
    refine Changes.ite ?_ ?_
    · exact h23.then (State.bramPut_changes _ _ _ _)
    · exact h23
  clear_value x17
  clear_value x18
  clear_value x19
  clear_value x20
  clear_value x21
  clear_value x22
  exact Changes.set_brams h24

theorem State.bramSdpWrite_changes (s : State) (b : State) (t : Nat) :
    Changes Part.bramX s (s.bramSdpWrite b t) := by
  unfold State.bramSdpWrite
  extract_lets -merge -usedOnly x1 x2 x3 x4 x5 x6 x7
  clear_value x1
  clear_value x2
  clear_value x3
  clear_value x4
  clear_value x5
  clear_value x6
  refine Changes.have (x := x7) ?_ fun h8 => ?_
  · unfold x7
    exact (State.bramPut_changes _ _ _ _).mono
  clear_value x7
  refine Changes.ite ?_ ?_
  · exact Changes.refl _ _
  · refine Changes.ite ?_ ?_
    · refine Changes.ite ?_ ?_
      · exact ((State.bramPut_changes _ _ _ _).mono).then (State.bramPut_changes _ _ _ _)
      · exact Changes.refl _ _
    · exact h8.then (State.bramPut_changes _ _ _ _)

theorem State.bramSdp_changes (s : State) (b : State) (t : Nat) :
    Changes (Part.bramX ||| Part.brams) s (s.bramSdp b t) := by
  unfold State.bramSdp
  extract_lets -merge -usedOnly x1 x2 x3 x4 x5 x6 x7 x8 x9 x10 x11 x12 x13
  clear_value x1
  clear_value x2
  clear_value x3
  clear_value x4
  refine Changes.have (x := x5) ?_ fun h14 => ?_
  · unfold x5
    refine Changes.ite ?_ ?_
    · exact (State.bramSdpWrite_changes _ _ _).mono
    · exact Changes.refl _ _
  clear_value x5
  clear_value x6
  clear_value x7
  clear_value x8
  clear_value x9
  clear_value x10
  clear_value x11
  clear_value x12
  clear_value x13
  exact Changes.set_brams h14

theorem State.sliceStep_changes (s : State) (b : State) (t : Nat) :
    Changes Part.slices s (s.sliceStep b t) := by
  unfold State.sliceStep
  extract_lets -merge -usedOnly x1 x2 x3 x4 x5 x6 x7 x8 x9
  clear_value x1
  clear_value x2
  clear_value x3
  clear_value x4
  clear_value x5
  clear_value x6
  refine Changes.have (x := x7) ?_ fun h10 => ?_
  · unfold x7
    exact Changes.set_slices (Changes.refl _ _)
  clear_value x7
  clear_value x8
  clear_value x9
  refine Changes.ite ?_ ?_
  · exact Changes.set_slices h10
  · exact h10

theorem State.sliceOp_changes (s : State) (t : Nat) (op : Nat) :
    Changes (Part.ffX ||| Part.brams ||| Part.slices ||| Part.ios ||| Part.edge) s (s.sliceOp t op) := by
  unfold State.sliceOp
  extract_lets -merge -usedOnly x1
  clear_value x1
  refine Changes.ite ?_ ?_
  · exact (Changes.set_edge (Changes.refl _ _)).then (State.sliceStep_changes _ _ _)
  · exact Changes.refl _ _

/-! ## Machine/Pins -/

theorem State.updConf_changes (s : State) :
    Changes Part.regs s (s.updConf) := by
  unfold State.updConf
  extract_lets -merge -usedOnly x1 x2 x3
  clear_value x1
  clear_value x2
  refine Changes.have (x := x3) ?_ fun h4 => ?_
  · unfold x3
    exact ((State.wr_changes _ _ _).mono).then (State.wr_changes _ _ _)
  clear_value x3
  split
  · exact h4.then (State.wr_changes _ _ _)
  · exact h4

theorem State.updOwned_changes (s : State) (p : Nat) :
    Changes Part.regs s (s.updOwned p) := by
  unfold State.updOwned
  exact (State.wr_changes _ _ _).mono

theorem State.engage_changes (s : State) (p : Nat) (c : Nat) :
    Changes (Part.regs ||| Part.pins) s (s.engage p c) := by
  unfold State.engage
  extract_lets -merge -usedOnly x1
  clear_value x1
  exact ((State.updPin_changes _ _ _).mono).then (State.setOn_changes _ _)

theorem State.disengage_changes (s : State) (p : Nat) (c : Nat) :
    Changes (Part.regs ||| Part.pins) s (s.disengage p c) := by
  unfold State.disengage
  extract_lets -merge -usedOnly x1
  clear_value x1
  exact ((State.updPin_changes _ _ _).mono).then (State.wr_changes _ _ _)

theorem State.engageAll_changes (s : State) (ps : List Nat) (c : Nat) :
    Changes (Part.regs ||| Part.pins ||| Part.padKeep) s (s.engageAll ps c) := by
  unfold State.engageAll
  extract_lets -merge -usedOnly x1 x2
  refine Changes.have (x := x1) ?_ fun h3 => ?_
  · unfold x1
    exact (State.keep_changes _ _).mono
  clear_value x1
  clear_value x2
  refine Changes.then ?_ (State.updConf_changes _)
  refine Changes.each ?_ ?_
  · exact h3
  · intro t4 a5 h6
    exact (h6.then (State.updPin_changes _ _ _)).then (State.setOn_changes _ _)

theorem State.disengageAll_changes (s : State) (ps : List Nat) (c : Nat) :
    Changes (Part.regs ||| Part.pins ||| Part.padKeep) s (s.disengageAll ps c) := by
  unfold State.disengageAll
  refine Changes.then ?_ (State.updConf_changes _)
  refine Changes.each ?_ ?_
  · exact (State.keep_changes _ _).mono
  · intro t1 a2 h3
    exact h3.then (State.disengage_changes _ _ _)

theorem State.startSwitch_changes (s : State) (p : Nat) (v : Nat) :
    Changes (Part.regs ||| Part.pins) s (s.startSwitch p v) := by
  unfold State.startSwitch
  extract_lets -merge -usedOnly x1 x2 x3 x4 x5
  refine Changes.have (x := x1) ?_ fun h6 => ?_
  · unfold x1
    exact ((State.engage_changes _ _ _).mono).then (State.setOn_changes _ _)
  clear_value x1
  refine Changes.have (x := x2) ?_ fun h7 => ?_
  · unfold x2
    exact (h6.then (State.wr_changes _ _ _)).then (State.wr_changes _ _ _)
  clear_value x2
  clear_value x3
  refine Changes.have (x := x5) ?_ fun h8 => ?_
  · unfold x5
    refine Changes.ite ?_ ?_
    · exact h7.then (State.setOn_changes _ _)
    · exact h7
  clear_value x5
  refine Changes.ite ?_ ?_
  · exact Changes.refl _ _
  · exact (h8.then (State.updOwned_changes _ _)).then (State.updConf_changes _)

theorem State.pinFields_changes (s : State) (p : Nat) (v : Nat) :
    Changes Part.regs s (s.pinFields p v) := by
  unfold State.pinFields
  extract_lets -merge -usedOnly x1
  refine Changes.have (x := x1) ?_ fun h2 => ?_
  · unfold x1
    exact ((((State.wr_changes _ _ _).mono).then (State.wr_changes _ _ _)).then (State.wr_changes _ _ _)).then (State.wr_changes _ _ _)
  clear_value x1
  exact ((h2.then (State.wr_changes _ _ _)).then (State.wr_changes _ _ _)).then (State.wr_changes _ _ _)

theorem State.pinApply_changes (s : State) (p : Nat) (v : Nat) :
    Changes (Part.regs ||| Part.pins ||| Part.padKeep) s (s.pinApply p v) := by
  unfold State.pinApply
  extract_lets -merge -usedOnly x1
  refine Changes.have (x := x1) ?_ fun h2 => ?_
  · unfold x1
    exact ((State.keep_changes _ _).mono).then (State.pinFields_changes _ _ _)
  clear_value x1
  refine Changes.ite ?_ ?_
  · exact h2.then (State.updPin_changes _ _ _)
  · exact h2.then (State.startSwitch_changes _ _ _)

theorem State.pinWrite_changes (s : State) (p : Nat) (v : Nat) :
    Changes (Part.regs ||| Part.pins ||| Part.padKeep) s (s.pinWrite p v) := by
  unfold State.pinWrite
  refine Changes.ite ?_ ?_
  · exact (State.pinApply_changes _ _ _).mono
  · exact ((State.wr_changes _ _ _).mono).then (State.setOn_changes _ _)

theorem State.gppHold_changes (s : State) (on : Bool) :
    Changes (Part.regs ||| Part.pins ||| Part.padKeep) s (s.gppHold on) := by
  unfold State.gppHold
  extract_lets -merge -usedOnly x1 x2
  clear_value x1
  refine Changes.have (x := x2) ?_ fun h3 => ?_
  · unfold x2
    exact (State.wr_changes _ _ _).mono
  clear_value x2
  refine Changes.ite ?_ ?_
  · exact h3.then (State.engageAll_changes _ _ _)
  · refine Changes.ite ?_ ?_
    · exact h3.then (State.disengageAll_changes _ _ _)
    · exact h3

theorem State.gppWrite_changes (s : State) (off : Nat) (v : Nat) :
    Changes (Part.regs ||| Part.pins ||| Part.padKeep) s (s.gppWrite off v) := by
  unfold State.gppWrite
  extract_lets -merge -usedOnly x1
  clear_value x1
  refine Changes.ite ?_ ?_
  · exact (State.pinWrite_changes _ _ _).mono
  · refine Changes.ite ?_ ?_
    · exact (State.gppHold_changes _ _).mono
    · exact (State.storeWord_changes _ _ _).mono

/-! ## Machine/ConfigLoad -/

theorem State.writeTile_changes (s : State) (t : Nat) (rec : Nat) :
    Changes Part.fcfg s (s.writeTile t rec) := by
  unfold State.writeTile
  exact Changes.set_fcfg (Changes.refl _ _)

theorem State.writeContent_changes (s : State) (t : Nat) (rec : Nat) :
    Changes Part.bramInit s (s.writeContent t rec) := by
  unfold State.writeContent
  exact Changes.set_bramInit (Changes.refl _ _)

theorem State.clearQuarter_changes (s : State) (q : Nat) :
    Changes (Part.fcfg ||| Part.bramInit) s (s.clearQuarter q) := by
  unfold State.clearQuarter
  exact Changes.put (Changes.refl _ _) rfl (fun h => h) rfl rfl

theorem State.frameWrite_changes (s : State) (fa : Nat) (v : Nat) :
    Changes (Part.fcfg ||| Part.bramInit) s (s.frameWrite fa v) := by
  unfold State.frameWrite
  refine Changes.ite ?_ ?_
  · refine Changes.each ?_ ?_
    · exact Changes.refl _ _
    · intro t1 a2 h3
      exact h3.then (State.writeTile_changes _ _ _)
  · exact (State.writeContent_changes _ _ _).mono

theorem State.retainFrame_changes (s : State) (fa : Nat) :
    Changes (Part.regs ||| Part.bus ||| Part.dmcs ||| Part.nis ||| Part.frameCrcs) s (s.retainFrame fa) := by
  unfold State.retainFrame
  extract_lets -merge -usedOnly x1 x2
  clear_value x1
  refine Changes.have (x := x2) ?_ fun h3 => ?_
  · unfold x2
    exact Changes.set_frameCrcs (Changes.refl _ _)
  clear_value x2
  refine Changes.each ?_ ?_
  · exact h3
  · intro t4 a5 h6
    refine Changes.ite ?_ ?_
    · exact h6
    · exact h6.then (State.dramPut_changes _ _ _ _ _ _)

theorem State.retain_changes (s : State) (qs : List Nat) :
    Changes (Part.regs ||| Part.bus ||| Part.dmcs ||| Part.nis ||| Part.frameCrcs) s (s.retain qs) := by
  unfold State.retain
  refine Changes.each ?_ ?_
  · exact Changes.refl _ _
  · intro t1 a2 h3
    refine Changes.each ?_ ?_
    · exact h3
    · intro t4 a5 h6
      exact h6.then (State.retainFrame_changes _ _)

theorem State.applyRec_changes (s : State) (pinHz : Nat) (r : CfgRec) :
    Changes (Part.regs ||| Part.bus ||| Part.out ||| Part.heldOut ||| Part.fns ||| Part.engs ||| Part.bankMem |||
        Part.banks ||| Part.snap ||| Part.nis ||| Part.flights ||| Part.dirc ||| Part.bankJoins ||| Part.homes |||
        Part.bankUe ||| Part.fcfg ||| Part.bramInit ||| Part.fcgs ||| Part.load ||| Part.prnExcl) s (s.applyRec pinHz r) := by
  unfold State.applyRec
  extract_lets -merge -usedOnly x1 x2
  refine Changes.have (x := x1) ?_ fun h3 => ?_
  · unfold x1
    exact (State.frameWrite_changes _ _ _).mono
  clear_value x1
  clear_value x2
  refine Changes.ite ?_ ?_
  · exact Changes.put h3 rfl (fun h => h) rfl rfl
  · refine Changes.each ?_ ?_
    · exact Changes.refl _ _
    · intro t4 a5 h6
      extract_lets -merge -usedOnly x7
      clear_value x7
      refine Changes.ite ?_ ?_
      · exact h6.then (State.fabWrite_changes _ _ _ _)
      · exact Changes.set_load h6

theorem State.applyRecs_changes (s : State) (pinHz : Nat) (partial_ : Bool) (q : Nat) (l : List CfgRec) :
    Changes (Part.regs ||| Part.bus ||| Part.out ||| Part.heldOut ||| Part.fns ||| Part.engs ||| Part.bankMem |||
        Part.banks ||| Part.snap ||| Part.nis ||| Part.flights ||| Part.dirc ||| Part.bankJoins ||| Part.homes |||
        Part.bankUe ||| Part.fcfg ||| Part.bramInit ||| Part.fcgs ||| Part.load |||
        Part.prnExcl) s (s.applyRecs pinHz partial_ q l).2 := by
  induction l generalizing s with
  | nil => exact Changes.refl _ _
  | cons r rs ih =>
    unfold State.applyRecs
    extract_lets e
    refine Changes.ite_snd (Changes.refl _ _) ?_
    exact (State.applyRec_changes _ _ _).mono.trans (ih _)

theorem State.qFenceSet_changes (s : State) (q : Nat) (on : Bool) :
    Changes Part.regs s (s.qFenceSet q on) := by
  unfold State.qFenceSet
  refine Changes.each ?_ ?_
  · exact Changes.refl _ _
  · intro t1 a2 h3
    extract_lets -merge -usedOnly x4 x5
    clear_value x4
    clear_value x5
    exact h3.then (State.wr_changes _ _ _)

theorem State.fencePort_changes (s : State) (h : Nat) (p : Nat) (on : Bool) :
    Changes (Part.regs ||| Part.ports) s (s.fencePort h p on) := by
  unfold State.fencePort
  exact (((State.setPortQ_changes _ _ _ _).mono).then (State.wr_changes _ _ _)).then (State.flagPorts_changes _ _)

theorem State.fenceStream_changes (s : State) (b : Nat) (on : Bool) :
    Changes (Part.regs ||| Part.bays) s (s.fenceStream b on) := by
  unfold State.fenceStream
  refine Changes.ite ?_ ?_
  · refine Changes.ite ?_ ?_
    · exact Changes.refl _ _
    · exact ((State.cutStream_changes _ _).mono).then (State.updBay_changes _ _ _)
  · exact (State.updBay_changes _ _ _).mono

theorem State.fenceQuarters_changes (s : State) (q : Nat) (pins : Bool) :
    Changes (Part.regs ||| Part.bus ||| Part.out ||| Part.heldOut ||| Part.fns ||| Part.engs ||| Part.bays |||
        Part.ports ||| Part.bankMem ||| Part.banks ||| Part.snap ||| Part.nis ||| Part.flights ||| Part.dirc |||
        Part.bankJoins ||| Part.homes ||| Part.bankUe ||| Part.fcfg ||| Part.bramInit ||| Part.bramX ||| Part.ffX |||
        Part.brams ||| Part.slices ||| Part.ios ||| Part.pins ||| Part.padKeep) s (s.fenceQuarters q pins) := by
  unfold State.fenceQuarters
  extract_lets -merge -usedOnly x1 x2 x3 x4 x5
  refine Changes.have (x := x1) ?_ fun h6 => ?_
  · unfold x1
    refine Changes.ite ?_ ?_
    · exact (State.engageAll_changes _ _ _).mono
    · exact Changes.refl _ _
  clear_value x1
  refine Changes.have (x := x2) ?_ fun h7 => ?_
  · unfold x2
    exact h6.then (State.qFenceSet_changes _ _ _)
  clear_value x2
  refine Changes.have (x := x3) ?_ fun h8 => ?_
  · unfold x3
    refine Changes.each ?_ ?_
    · exact h7
    · intro t9 a10 h11
      exact h11.then (State.fenceEndpoint_changes _ _ _)
  clear_value x3
  refine Changes.have (x := x4) ?_ fun h12 => ?_
  · unfold x4
    refine Changes.each ?_ ?_
    · exact h8
    · intro t13 a14 h15
      exact h15.then (State.fencePort_changes _ _ _ _)
  clear_value x4
  refine Changes.have (x := x5) ?_ fun h16 => ?_
  · unfold x5
    refine Changes.each ?_ ?_
    · exact h12
    · intro t17 a18 h19
      exact h19.then (State.fenceStream_changes _ _ _)
  clear_value x5
  refine Changes.each ?_ ?_
  · exact h16
  · intro t20 a21 h22
    exact (h22.then (State.holdQuarter_changes _ _)).then (State.clearQuarter_changes _ _)

theorem State.releaseQuarters_changes (s : State) (q : Nat) :
    Changes (Part.regs ||| Part.bays ||| Part.ports ||| Part.ghWait ||| Part.pins |||
        Part.padKeep) s (s.releaseQuarters q) := by
  unfold State.releaseQuarters
  extract_lets -merge -usedOnly x1 x2 x3 x4
  refine Changes.have (x := x1) ?_ fun h5 => ?_
  · unfold x1
    refine Changes.each ?_ ?_
    · exact Changes.refl _ _
    · intro t6 a7 h8
      exact h8.then (State.releaseQuarter_changes _ _)
  clear_value x1
  refine Changes.have (x := x2) ?_ fun h9 => ?_
  · unfold x2
    exact h5.then (State.disengageAll_changes _ _ _)
  clear_value x2
  refine Changes.have (x := x3) ?_ fun h10 => ?_
  · unfold x3
    exact h9.then (State.qFenceSet_changes _ _ _)
  clear_value x3
  refine Changes.have (x := x4) ?_ fun h11 => ?_
  · unfold x4
    refine Changes.each ?_ ?_
    · exact h10
    · intro t12 a13 h14
      exact h14.then (State.fencePort_changes _ _ _ _)
  clear_value x4
  refine Changes.each ?_ ?_
  · exact h11
  · intro t15 a16 h17
    exact h17.then (State.fenceStream_changes _ _ _)

theorem State.idlePhase_changes (s : State) :
    Changes Part.regs s (s.idlePhase) := by
  unfold State.idlePhase
  exact (State.wr_changes _ _ _).mono

theorem State.startLoad_changes (s : State) (source : Nat) (boot : Bool) :
    Changes (Part.regs ||| Part.load) s (s.startLoad source boot) := by
  unfold State.startLoad
  extract_lets -merge -usedOnly x1 x2
  refine Changes.have (x := x1) ?_ fun h3 => ?_
  · unfold x1
    exact ((State.wr_changes _ _ _).mono).then (State.wr_changes _ _ _)
  clear_value x1
  clear_value x2
  exact Changes.set_load h3

theorem State.endLoad_changes (s : State) :
    Changes (Part.regs ||| Part.load) s (s.endLoad) := by
  unfold State.endLoad
  extract_lets -merge -usedOnly x1 x2
  refine Changes.have (x := x1) ?_ fun h3 => ?_
  · unfold x1
    exact ((State.clr_changes _ _).mono).then (State.clr_changes _ _)
  clear_value x1
  clear_value x2
  exact Changes.set_load h3

theorem State.failLoad_changes (s : State) (reason : Nat) :
    Changes (Part.regs ||| Part.bus ||| Part.dmcs ||| Part.nis ||| Part.fcfg ||| Part.bramInit ||| Part.load |||
        Part.frameCrcs ||| Part.prnExcl) s (s.failLoad reason) := by
  unfold State.failLoad
  extract_lets -merge -usedOnly x1 x2 x3 x4 x5 x6 x7
  clear_value x1
  refine Changes.have (x := x2) ?_ fun h8 => ?_
  · unfold x2
    exact (State.wr_changes _ _ _).mono
  clear_value x2
  refine Changes.have (x := x3) ?_ fun h9 => ?_
  · unfold x3
    refine Changes.ite ?_ ?_
    · refine Changes.then ?_ (State.retain_changes _ _)
      refine Changes.each ?_ ?_
      · exact h8
      · intro t10 a11 h12
        extract_lets -merge -usedOnly x13
        refine Changes.have (x := x13) ?_ fun h14 => ?_
        · unfold x13
          exact h12.then (State.clearQuarter_changes _ _)
        clear_value x13
        exact Changes.set_prnExcl h14
    · exact h8
  clear_value x3
  refine Changes.have (x := x4) ?_ fun h15 => ?_
  · unfold x4
    exact (h9.then (State.endLoad_changes _)).then (State.idlePhase_changes _)
  clear_value x4
  refine Changes.have (x := x5) ?_ fun h16 => ?_
  · unfold x5
    refine Changes.ite ?_ ?_
    · exact h15.then (State.wr_changes _ _ _)
    · exact h15
  clear_value x5
  refine Changes.have (x := x6) ?_ fun h17 => ?_
  · unfold x6
    exact h16.then (State.startLoad_changes _ _ _)
  clear_value x6
  clear_value x7
  refine Changes.ite ?_ ?_
  · exact Changes.set_load h17
  · refine Changes.ite ?_ ?_
    · exact h15.then (State.wr_changes _ _ _)
    · refine Changes.ite ?_ ?_
      · exact h15.then (State.startLoad_changes _ _ _)
      · exact h15

theorem State.flashLoad_changes (s : State) (f : Fld) (source : Nat) (ptrA : BitVec 512) (ptrB : BitVec 512) :
    Changes (Part.regs ||| Part.load) s (s.flashLoad f source ptrA ptrB) := by
  unfold State.flashLoad
  refine Changes.ite ?_ ?_
  · exact Changes.refl _ _
  · refine Changes.ite ?_ ?_
    · exact ((State.setOn_changes _ _).mono).then (State.startLoad_changes _ _ _)
    · exact (State.wr_changes _ _ _).mono

theorem State.ringNext_changes (s : State) :
    Changes Part.regs s (s.ringNext) := by
  unfold State.ringNext
  exact (State.wr_changes _ _ _).mono

theorem State.headPhase_changes (s : State) :
    Changes Part.regs s (s.headPhase) := by
  unfold State.headPhase
  extract_lets -merge -usedOnly x1
  clear_value x1
  refine Changes.ite ?_ ?_
  · exact Changes.refl _ _
  · exact (State.wr_changes _ _ _).mono

theorem State.ringBytes_changes (s : State) (last : Bool) (len : Nat) (data : Nat) :
    Changes (Part.regs ||| Part.load) s (s.ringBytes last len data) := by
  unfold State.ringBytes
  extract_lets -merge -usedOnly x1 x2 x3 x4 x5
  clear_value x1
  clear_value x2
  clear_value x3
  refine Changes.have (x := x4) ?_ fun h6 => ?_
  · unfold x4
    exact (State.count_changes _ _ _).mono
  clear_value x4
  clear_value x5
  exact (Changes.set_load h6).then (State.headPhase_changes _)

theorem State.loadDone_changes (s : State) :
    Changes (Part.regs ||| Part.bus ||| Part.bays ||| Part.ports ||| Part.dmcs ||| Part.nis ||| Part.ghWait |||
        Part.load ||| Part.cfgMeas ||| Part.prChain ||| Part.pins ||| Part.padKeep ||| Part.frameCrcs |||
        Part.prnExcl) s (s.loadDone) := by
  unfold State.loadDone
  extract_lets -merge -usedOnly x1 x2 x3 x4 x5 x6 x7 x8 x9 x10 x11 x12
  clear_value x1
  refine Changes.have (x := x2) ?_ fun h13 => ?_
  · unfold x2
    exact ((State.retain_changes _ _).mono).then (State.wr_changes _ _ _)
  clear_value x2
  refine Changes.have (x := x3) ?_ fun h14 => ?_
  · unfold x3
    exact h13.then (State.endLoad_changes _)
  clear_value x3
  refine Changes.have (x := x4) ?_ fun h15 => ?_
  · unfold x4
    exact Changes.set_prnExcl h14
  clear_value x4
  refine Changes.have (x := x5) ?_ fun h16 => ?_
  · unfold x5
    exact (h15.then (State.releaseQuarters_changes _ _)).then (State.idlePhase_changes _)
  clear_value x5
  clear_value x6
  refine Changes.have (x := x7) ?_ fun h17 => ?_
  · unfold x7
    exact (h15.then (State.wr_changes _ _ _)).then (State.wr_changes _ _ _)
  clear_value x7
  refine Changes.have (x := x8) ?_ fun h18 => ?_
  · unfold x8
    exact h17.then (State.wr_changes _ _ _)
  clear_value x8
  refine Changes.have (x := x9) ?_ fun h19 => ?_
  · unfold x9
    exact Changes.put h18 rfl (fun h => h) rfl rfl
  clear_value x9
  clear_value x10
  refine Changes.have (x := x11) ?_ fun h20 => ?_
  · unfold x11
    exact (h19.then (State.setOn_changes _ _)).then (State.wr_changes _ _ _)
  clear_value x11
  clear_value x12
  refine Changes.ite ?_ ?_
  · exact Changes.put h16 rfl (fun h => h) rfl rfl
  · refine Changes.ite ?_ ?_
    · exact Changes.set_load h19
    · exact Changes.set_load h20

theorem State.mayDrive_changes (s : State) :
    Changes (Part.chans ||| Part.drives) s (s.mayDrive) := by
  unfold State.mayDrive
  refine Changes.each ?_ ?_
  · exact Changes.set_drives (Changes.refl _ _)
  · intro t1 a2 h3
    exact h3.then (State.restChan_changes _ _)

theorem State.applyGpp_changes (s : State) (first : Bool) :
    Changes (Part.regs ||| Part.pins ||| Part.padKeep) s (s.applyGpp first) := by
  unfold State.applyGpp
  extract_lets -merge -usedOnly x1 x2
  clear_value x1
  refine Changes.have (x := x2) ?_ fun h3 => ?_
  · unfold x2
    refine Changes.each ?_ ?_
    · exact Changes.refl _ _
    · intro t4 a5 h6
      exact h6.then (State.startSwitch_changes _ _ _)
  clear_value x2
  refine Changes.each ?_ ?_
  · exact h3
  · intro t7 a8 h9
    refine Changes.ite ?_ ?_
    · exact h9.then (State.pinApply_changes _ _ _)
    · exact h9.then (State.gppWrite_changes _ _ _)

/-- The fused version only rises. -/
theorem Changes.putSvn (s : State) (v : Nat) (h : s.svn ≤ v) : Changes Part.svn s { s with svn := v } where
  canonical c := c
  keepsFuses f v q := q
  gainsSvn := h
  pending b := rfl
  por b := rfl
  ticks b := rfl
  fresh b := rfl
  regs b := rfl
  latches b := rfl
  holds b := rfl
  bus b := rfl
  out b := rfl
  heldOut b := rfl
  fns b := rfl
  ctxs b := rfl
  clks b := rfl
  agents b := rfl
  reports b := rfl
  engs b := rfl
  bays b := rfl
  fcc b := rfl
  chans b := rfl
  ssgs b := rfl
  seqMem b := rfl
  seqUnread b := rfl
  seqPos b := rfl
  fsets b := rfl
  lmaps b := rfl
  scr b := rfl
  tsets b := rfl
  calRecs b := rfl
  ports b := rfl
  bankMem b := rfl
  banks b := rfl
  dram b := rfl
  poison b := rfl
  startFold b := rfl
  restoring b := rfl
  dmcs b := rfl
  tb b := rfl
  trcs b := rfl
  sups b := rfl
  vccCh b := rfl
  drives b := rfl
  hbMiss b := rfl
  ownEp b := rfl
  talk b := rfl
  substs b := rfl
  snap b := rfl
  time b := rfl
  hostReady b := rfl
  nis b := rfl
  flights b := rfl
  routes b := rfl
  dirc b := rfl
  bankJoins b := rfl
  joinNo b := rfl
  homes b := rfl
  fabHeld b := rfl
  bankUe b := rfl
  fcfg b := rfl
  bramInit b := rfl
  bramX b := rfl
  ffX b := rfl
  brams b := rfl
  slices b := rfl
  ios b := rfl
  ghWait b := rfl
  fcgs b := rfl
  load b := rfl
  fuses b := rfl
  svn b := absurd b (by decide)
  fuseArm b := rfl
  boot b := rfl
  strapOver b := rfl
  attest b := rfl
  report b := rfl
  cfgMeas b := rfl
  prChain b := rfl
  vcore b := rfl
  hj b := rfl
  edge b := rfl
  lineHi b := rfl
  gateOff b := rfl
  pins b := rfl
  padExt b := rfl
  padOn b := rfl
  padKeep b := rfl
  retKey b := rfl
  frameCrcs b := rfl
  prnExcl b := rfl

theorem State.raiseSvn_changes (s : State) : Changes (Part.regs ||| Part.svn) s s.raiseSvn := by
  unfold State.raiseSvn
  exact ((Changes.putSvn s _ (Nat.le_max_left _ _)).mono).then (State.showFuses_changes _)

theorem State.prunerOut_changes (s : State) (h : Nat) :
    Changes (Part.regs ||| Part.out ||| Part.heldOut ||| Part.fns ||| Part.snap) s (s.prunerOut h) := by
  unfold State.prunerOut
  extract_lets -merge -usedOnly x1 x2
  refine Changes.have (x := x1) ?_ fun h3 => ?_
  · unfold x1
    exact (State.setOn_changes _ _).mono
  clear_value x1
  refine Changes.have (x := x2) ?_ fun h4 => ?_
  · unfold x2
    refine Changes.then ?_ (State.raiseSnap_changes _ _)
    refine Changes.ite ?_ ?_
    · exact h3
    · exact h3.then (State.setOn_changes _ _)
  clear_value x2
  refine Changes.ite ?_ ?_
  · exact Changes.refl _ _
  · exact (h4.then (State.postRes_changes _ _ _ _)).then (State.updDegraded_changes _)

theorem State.standing_changes (s : State) (h : Nat) (fa : Nat) :
    Changes (Part.regs ||| Part.out ||| Part.heldOut ||| Part.fns ||| Part.prnExcl) s (s.standing h fa) := by
  unfold State.standing
  extract_lets -merge -usedOnly x1
  refine Changes.have (x := x1) ?_ fun h2 => ?_
  · unfold x1
    exact ((State.count_changes _ _ _).mono).then (State.wr_changes _ _ _)
  clear_value x1
  exact (Changes.set_prnExcl h2).then (State.postRes_changes _ _ _ _)

theorem State.repair_changes (s : State) (h : Nat) (fa : Nat) (own : Bool) (other : Bool) (ok : Bool) :
    Changes (Part.regs ||| Part.out ||| Part.heldOut ||| Part.fns ||| Part.fcfg ||| Part.bramInit |||
        Part.prnExcl) s ((s.repair h fa own other ok).snd) := by
  unfold State.repair
  extract_lets -merge -usedOnly x1
  clear_value x1
  split
  · refine Changes.mk_snd ?_
    exact ((State.setOn_changes _ _).mono).then (State.standing_changes _ _ _)
  · extract_lets -merge -usedOnly x2
    refine Changes.have (x := x2) ?_ fun h3 => ?_
    · unfold x2
      exact (State.frameWrite_changes _ _ _).mono
    clear_value x2
    refine Changes.ite_snd ?_ ?_
    · refine Changes.mk_snd ?_
      exact h3.then (State.count_changes _ _ _)
    · refine Changes.mk_snd ?_
      exact h3.then (State.standing_changes _ _ _)

theorem State.scrub_changes (s : State) (h : Nat) (a2 : Scrub) :
    Changes (Part.fresh ||| Part.regs ||| Part.ctxs ||| Part.banks ||| Part.dram ||| Part.poison ||| Part.dmcs |||
        Part.bramX) s (s.scrub h a2) := by
  unfold State.scrub
  split
  · extract_lets -merge -usedOnly x1 x2 x3 x4 x5
    clear_value x1
    clear_value x2
    clear_value x3
    clear_value x4
    clear_value x5
    refine Changes.ite ?_ ?_
    · refine Changes.ite ?_ ?_
      · exact Changes.refl _ _
      · split
        · exact Changes.refl _ _
        · extract_lets -merge -usedOnly x6
          clear_value x6
          exact ((State.bramPut_changes _ _ _ _).mono).then (State.bramPut_changes _ _ _ _)
    · exact Changes.refl _ _
  · exact (State.count_changes _ _ _).mono
  · exact Changes.refl _ _
  · exact (State.noteCe_changes _ _ _).mono
  · exact (State.noteUe_changes _ _ _).mono
  · refine Changes.ite ?_ ?_
    · exact (State.noteUe_changes _ _ _).mono
    · exact Changes.refl _ _
  · extract_lets -merge -usedOnly x7
    clear_value x7
    refine Changes.ite ?_ ?_
    · refine Changes.ite ?_ ?_
      · exact (State.dramNow_changes _ _ _ _ _).mono
      · exact (State.wakeDram_changes _ _).mono
    · exact Changes.refl _ _
  · exact (State.setOn_changes _ _).mono

theorem State.dmaErr_changes (s : State) (f : Nat) :
    Changes Part.regs s (s.dmaErr f) := by
  unfold State.dmaErr
  exact (State.setOn_changes _ _).mono

/-! ## Machine/RegAccess -/

theorem State.eclkCtlWrite_changes (s : State) (h : Nat) (v : Nat) :
    Changes (Part.regs ||| Part.clks ||| Part.time) s ((s.eclkCtlWrite h v).snd) := by
  unfold State.eclkCtlWrite
  extract_lets -merge -usedOnly x1 x2 x3 x4 x5 x6 x7 x8
  clear_value x1
  refine Changes.have (x := x2) ?_ fun h9 => ?_
  · unfold x2
    refine Changes.ite ?_ ?_
    · exact Changes.refl _ _
    · exact (State.wr_changes _ _ _).mono
  clear_value x2
  refine Changes.have (x := x3) ?_ fun h10 => ?_
  · unfold x3
    refine Changes.ite ?_ ?_
    · exact h9.then (State.clr_changes _ _)
    · exact h9
  clear_value x3
  refine Changes.have (x := x4) ?_ fun h11 => ?_
  · unfold x4
    refine Changes.ite ?_ ?_
    · exact h10.then (State.clr_changes _ _)
    · exact h10
  clear_value x4
  refine Changes.have (x := x5) ?_ fun h12 => ?_
  · unfold x5
    exact h11.then (State.wr_changes _ _ _)
  clear_value x5
  refine Changes.have (x := x6) ?_ fun h13 => ?_
  · unfold x6
    refine Changes.ite ?_ ?_
    · exact h12
    · exact (h12.then (State.clr_changes _ _)).then (State.updClk_changes _ _ _)
  clear_value x6
  refine Changes.have (x := x7) ?_ fun h14 => ?_
  · unfold x7
    refine Changes.ite ?_ ?_
    · exact h13.then (State.eclkAbandon_changes _ _)
    · exact h13
  clear_value x7
  refine Changes.have (x := x8.2) ?_ fun h15 => ?_
  · unfold x8
    exact h14.then (State.eclkApply_changes _ _)
  clear_value x8
  refine Changes.ite_snd ?_ ?_
  · refine Changes.mk_snd ?_
    exact h14
  · refine Changes.ite_snd ?_ ?_
    · refine Changes.mk_snd ?_
      exact h14
    · refine Changes.mk_snd ?_
      exact h15

theorem State.behaviourWrite_changes (s : State) (level : Nat) :
    Changes Part.regs s ((s.behaviourWrite level).snd) := by
  unfold State.behaviourWrite
  refine Changes.ite_snd ?_ ?_
  · refine Changes.mk_snd ?_
    exact Changes.refl _ _
  · refine Changes.mk_snd ?_
    exact (State.wr_changes _ _ _).mono

theorem State.fnCfgWrite_changes (s : State) (f : Nat) (v : Nat) :
    Changes (Part.regs ||| Part.fns) s ((s.fnCfgWrite f v).snd) := by
  unfold State.fnCfgWrite
  extract_lets -merge -usedOnly x1
  refine Changes.have (x := x1) ?_ fun h2 => ?_
  · unfold x1
    exact ((State.wr_changes _ _ _).mono).then (State.wr_changes _ _ _)
  clear_value x1
  refine Changes.ite_snd ?_ ?_
  · refine Changes.mk_snd ?_
    refine Changes.ite ?_ ?_
    · exact h2
    · exact (h2.then (State.setOn_changes _ _)).then (State.updFn_changes _ _ _)
  · refine Changes.mk_snd ?_
    exact (h2.then (State.clr_changes _ _)).then (State.updFn_changes _ _ _)

theorem State.ctxCfgWrite_changes (s : State) (r : Req) (n : Nat) (v : Nat) :
    Changes (Part.fresh ||| Part.regs ||| Part.bus ||| Part.out ||| Part.heldOut ||| Part.ctxs ||| Part.engs |||
        Part.bays ||| Part.chans ||| Part.ssgs ||| Part.bankMem ||| Part.dmcs ||| Part.trcs ||| Part.substs |||
        Part.snap ||| Part.time ||| Part.nis ||| Part.fabHeld) s ((s.ctxCfgWrite r n v).snd) := by
  unfold State.ctxCfgWrite
  extract_lets -merge -usedOnly x1 x2 x3
  clear_value x1
  refine Changes.have (x := x2) ?_ fun h4 => ?_
  · unfold x2
    exact (((State.wr_changes _ _ _).mono).then (State.wr_changes _ _ _)).then (State.wr_changes _ _ _)
  clear_value x2
  refine Changes.have (x := x3) ?_ fun h5 => ?_
  · unfold x3
    refine Changes.ite ?_ ?_
    · exact h4
    · exact h4.then (State.wr_changes _ _ _)
  clear_value x3
  refine Changes.ite_snd ?_ ?_
  · refine Changes.ite_snd ?_ ?_
    · refine Changes.mk_snd ?_
      exact Changes.refl _ _
    · refine Changes.mk_snd ?_
      exact (State.ctxDisable_changes _ _).mono
  · refine Changes.ite_snd ?_ ?_
    · refine Changes.mk_snd ?_
      exact h5.then (State.clr_changes _ _)
    · refine Changes.ite_snd ?_ ?_
      · refine Changes.mk_snd ?_
        exact h5
      · refine Changes.ite_snd ?_ ?_
        · refine Changes.mk_snd ?_
          exact (h5.then (State.setOn_changes _ _)).then (State.updCtx_changes _ _ _)
        · refine Changes.mk_snd ?_
          exact h5.then (State.startFresh_changes _ _)

theorem State.seqCtlWrite_changes (s : State) (v : Nat) :
    Changes (Part.regs ||| Part.seqPos) s ((s.seqCtlWrite v).snd) := by
  unfold State.seqCtlWrite
  extract_lets -merge -usedOnly x1
  refine Changes.have (x := x1) ?_ fun h2 => ?_
  · unfold x1
    refine Changes.ite ?_ ?_
    · exact (State.clr_changes _ _).mono
    · exact Changes.refl _ _
  clear_value x1
  refine Changes.ite_snd ?_ ?_
  · refine Changes.mk_snd ?_
    exact h2
  · unfold wrBool
    refine Changes.mk_snd ?_
    exact h2.then (State.seqModeWrite_changes _ _)

theorem State.engCtlWrite_changes (s : State) (n : Nat) (v : Nat) :
    Changes Part.regs s ((s.engCtlWrite n v).snd) := by
  unfold State.engCtlWrite
  extract_lets -merge -usedOnly x1
  refine Changes.have (x := x1) ?_ fun h2 => ?_
  · unfold x1
    exact (State.wr_changes _ _ _).mono
  clear_value x1
  refine Changes.ite_snd ?_ ?_
  · unfold wrBool
    refine Changes.mk_snd ?_
    exact h2.then (State.cacheInv_changes _ _)
  · refine Changes.mk_snd ?_
    exact h2

theorem State.engSpecWrite_changes (s : State) (n : Nat) (v : Nat) :
    Changes (Part.regs ||| Part.engs) s ((s.engSpecWrite n v).snd) := by
  unfold State.engSpecWrite
  extract_lets -merge -usedOnly x1
  refine Changes.have (x := x1) ?_ fun h2 => ?_
  · unfold x1
    exact ((State.wr_changes _ _ _).mono).then (State.wr_changes _ _ _)
  clear_value x1
  refine Changes.mk_snd ?_
  refine Changes.ite ?_ ?_
  · exact h2.then (State.predFlush_changes _ _)
  · exact h2

theorem State.portCfgWrite_changes (s : State) (h : Nat) (p : Nat) (v : Nat) :
    Changes (Part.regs ||| Part.chans ||| Part.ports) s ((s.portCfgWrite h p v).snd) := by
  unfold State.portCfgWrite
  extract_lets -merge -usedOnly x1 x2
  refine Changes.have (x := x1) ?_ fun h3 => ?_
  · unfold x1
    exact (((State.wr_changes _ _ _).mono).then (State.wr_changes _ _ _)).then (State.wr_changes _ _ _)
  clear_value x1
  refine Changes.have (x := x2) ?_ fun h4 => ?_
  · unfold x2
    refine Changes.ite ?_ ?_
    · exact h3.then (State.fvpFlush_changes _ _ _)
    · exact h3
  clear_value x2
  refine Changes.ite_snd ?_ ?_
  · refine Changes.mk_snd ?_
    refine Changes.then ?_ (State.flagPorts_changes _ _)
    refine Changes.each ?_ ?_
    · exact h4
    · intro t5 a6 h7
      exact h7.then (State.restChan_changes _ _)
  · refine Changes.mk_snd ?_
    exact Changes.refl _ _

theorem State.chnWrite_changes (s : State) (c : Nat) (dsk : Bool) (v : Nat) :
    Changes (Part.regs ||| Part.chans) s ((s.chnWrite c dsk v).snd) := by
  unfold State.chnWrite
  extract_lets -merge -usedOnly x1
  refine Changes.have (x := x1.2) ?_ fun h2 => ?_
  · unfold x1
    exact (State.chnCfgWrite_changes _ _ _ _).mono
  clear_value x1
  refine Changes.mk_snd ?_
  exact h2

theorem State.dmcWrite_changes (s : State) (n : Nat) (o : Nat) (v : Nat) :
    Changes (Part.regs ||| Part.dmcs) s ((s.dmcWrite n o v).snd) := by
  unfold State.dmcWrite
  refine Changes.ite_snd ?_ ?_
  · refine Changes.mk_snd ?_
    exact Changes.refl _ _
  · unfold wrBool
    refine Changes.mk_snd ?_
    exact (State.dmcPut_changes _ _ _ _).mono

theorem State.fabRegWrite_changes (s : State) (off : Nat) (v : Nat) :
    Changes (Part.fresh ||| Part.regs ||| Part.bus ||| Part.out ||| Part.heldOut ||| Part.fns ||| Part.engs |||
        Part.bankMem ||| Part.banks ||| Part.snap ||| Part.nis ||| Part.flights ||| Part.dirc ||| Part.bankJoins |||
        Part.homes ||| Part.bankUe ||| Part.fcgs) s ((s.fabRegWrite off v).snd) := by
  unfold State.fabRegWrite
  extract_lets -merge -usedOnly x1
  refine Changes.have (x := x1.2) ?_ fun h2 => ?_
  · unfold x1
    refine Changes.ite_snd ?_ ?_
    · exact (State.free_changes _ _).mono
    · refine Changes.mk_snd ?_
      exact Changes.refl _ _
  clear_value x1
  refine Changes.ite_snd ?_ ?_
  · refine Changes.mk_snd ?_
    exact Changes.refl _ _
  · refine Changes.mk_snd ?_
    exact h2.then (State.fabWrite_changes _ _ _ _)

theorem State.loadCtlWrite_changes (s : State) (v : Nat) :
    Changes (Part.fresh ||| Part.regs ||| Part.bus ||| Part.dmcs ||| Part.nis ||| Part.fcfg ||| Part.bramInit |||
        Part.load ||| Part.frameCrcs ||| Part.prnExcl) s ((s.loadCtlWrite v).snd) := by
  unfold State.loadCtlWrite
  extract_lets -merge -usedOnly x1 x2 x3
  refine Changes.have (x := x1) ?_ fun h4 => ?_
  · unfold x1
    refine Changes.ite ?_ ?_
    · exact (State.failLoad_changes _ _).mono
    · exact Changes.refl _ _
  clear_value x1
  refine Changes.have (x := x2.2) ?_ fun h5 => ?_
  · unfold x2
    exact h4.then (State.free_changes _ _)
  clear_value x2
  refine Changes.have (x := x3.2) ?_ fun h6 => ?_
  · unfold x3
    exact h5.then (State.free_changes _ _)
  clear_value x3
  refine Changes.ite_snd ?_ ?_
  · refine Changes.ite_snd ?_ ?_
    · refine Changes.mk_snd ?_
      exact h4
    · refine Changes.mk_snd ?_
      exact h6.then (State.flashLoad_changes _ _ _ _ _)
  · refine Changes.mk_snd ?_
    exact h4

theorem State.hringCfgWrite_changes (s : State) (v : Nat) :
    Changes Part.regs s ((s.hringCfgWrite v).snd) := by
  unfold State.hringCfgWrite
  extract_lets -merge -usedOnly x1
  refine Changes.have (x := x1) ?_ fun h2 => ?_
  · unfold x1
    refine Changes.ite ?_ ?_
    · exact Changes.refl _ _
    · exact (State.wr_changes _ _ _).mono
  clear_value x1
  refine Changes.mk_snd ?_
  exact (h2.then (State.wr_changes _ _ _)).then (State.wr_changes _ _ _)

theorem State.lchRegWrite_changes (s : State) (p : Nat) (q : Nat) (v : Nat) :
    Changes Part.regs s ((s.lchRegWrite p q v).snd) := by
  unfold State.lchRegWrite
  extract_lets -merge -usedOnly x1
  clear_value x1
  refine Changes.mk_snd ?_
  exact (State.lchWrite_changes _ _ _ _).mono

theorem State.supCtlWrite_changes (s : State) (v : Nat) :
    Changes Part.regs s ((s.supCtlWrite v).snd) := by
  unfold State.supCtlWrite
  extract_lets -merge -usedOnly x1 x2
  refine Changes.have (x := x1) ?_ fun h3 => ?_
  · unfold x1
    exact (State.wr_changes _ _ _).mono
  clear_value x1
  refine Changes.have (x := x2) ?_ fun h4 => ?_
  · unfold x2
    exact h3.then (State.wr_changes _ _ _)
  clear_value x2
  refine Changes.ite_snd ?_ ?_
  · refine Changes.mk_snd ?_
    exact h3
  · refine Changes.mk_snd ?_
    refine Changes.ite ?_ ?_
    · exact h4.then (State.reinst_changes _)
    · exact h4

theorem State.snpCtlWrite_changes (s : State) (v : Nat) :
    Changes (Part.regs ||| Part.snap) s ((s.snpCtlWrite v).snd) := by
  unfold State.snpCtlWrite
  extract_lets -merge -usedOnly x1 x2
  refine Changes.have (x := x1) ?_ fun h3 => ?_
  · unfold x1
    exact ((State.wr_changes _ _ _).mono).then (State.wr_changes _ _ _)
  clear_value x1
  refine Changes.have (x := x2) ?_ fun h4 => ?_
  · unfold x2
    refine Changes.ite ?_ ?_
    · exact h3.then (State.clr_changes _ _)
    · exact h3
  clear_value x2
  refine Changes.mk_snd ?_
  refine Changes.ite ?_ ?_
  · exact h4.then (State.raiseSnap_changes _ _)
  · exact h4

theorem State.attCtlWrite_changes (s : State) (v : Nat) :
    Changes (Part.regs ||| Part.attest) s ((s.attCtlWrite v).snd) := by
  unfold State.attCtlWrite
  extract_lets -merge -usedOnly x1
  refine Changes.have (x := x1) ?_ fun h2 => ?_
  · unfold x1
    refine Changes.ite ?_ ?_
    · exact (State.clr_changes _ _).mono
    · exact Changes.refl _ _
  clear_value x1
  refine Changes.mk_snd ?_
  refine Changes.ite ?_ ?_
  · exact h2.then (State.attReq_changes _)
  · exact h2

theorem State.progCtlWrite_changes (s : State) (r : Req) (v : Nat) :
    Changes (Part.fresh ||| Part.regs ||| Part.fuses ||| Part.fuseArm) s ((s.progCtlWrite r v).snd) := by
  unfold State.progCtlWrite
  extract_lets -merge -usedOnly x1
  refine Changes.have (x := x1.2) ?_ fun h2 => ?_
  · unfold x1
    exact (State.free_changes _ _).mono
  clear_value x1
  refine Changes.ite_snd ?_ ?_
  · refine Changes.mk_snd ?_
    exact Changes.refl _ _
  · refine Changes.ite_snd ?_ ?_
    · refine Changes.mk_snd ?_
      exact h2.then (State.fuseGo_changes _ _ _)
    · refine Changes.ite_snd ?_ ?_
      · refine Changes.mk_snd ?_
        exact (State.fuseArmWrite_changes _ _).mono
      · refine Changes.mk_snd ?_
        exact (State.wr_changes _ _ _).mono

theorem State.gppRegWrite_changes (s : State) (off : Nat) (v : Nat) :
    Changes (Part.regs ||| Part.pins ||| Part.padKeep) s ((s.gppRegWrite off v).snd) := by
  unfold State.gppRegWrite
  extract_lets -merge -usedOnly x1
  clear_value x1
  refine Changes.mk_snd ?_
  exact (State.gppWrite_changes _ _ _).mono

theorem State.engDbgWrite_changes (s : State) (r : Req) (n : Fin 104) (v : Nat) :
    Changes (Part.regs ||| Part.engs) s ((s.engDbgWrite r n v).snd) := by
  unfold State.engDbgWrite
  extract_lets -merge -usedOnly x1 x2 x3 x4 x5 x6
  refine Changes.have (x := x1) ?_ fun h7 => ?_
  · unfold x1
    exact (State.wr_changes _ _ _).mono
  clear_value x1
  refine Changes.have (x := x2) ?_ fun h8 => ?_
  · unfold x2
    exact ((h7.then (State.wr_changes _ _ _)).then (State.wr_changes _ _ _)).then (State.wr_changes _ _ _)
  clear_value x2
  refine Changes.have (x := x3) ?_ fun h9 => ?_
  · unfold x3
    exact h8.then (State.wr_changes _ _ _)
  clear_value x3
  refine Changes.have (x := x4) ?_ fun h10 => ?_
  · unfold x4
    refine Changes.ite ?_ ?_
    · refine Changes.next ?_
      refine Changes.ite ?_ ?_
      · exact h9
      · refine Changes.ite ?_ ?_
        · exact h9.then (State.setOn_changes _ _)
        · refine Changes.ite ?_ ?_
          · exact h9.then (State.debugRequest_changes _ _ _)
          · exact h9
    · exact h9
  clear_value x4
  refine Changes.have (x := x5) ?_ fun h11 => ?_
  · unfold x5
    refine Changes.ite ?_ ?_
    · refine Changes.next ?_
      refine Changes.ite ?_ ?_
      · refine Changes.each ?_ ?_
        · exact h10
        · intro t12 a13 h14
          exact h14.then (State.updEng_changes _ _ _)
      · exact h10
    · exact h10
  clear_value x5
  refine Changes.have (x := x6) ?_ fun h15 => ?_
  · unfold x6
    refine Changes.ite ?_ ?_
    · refine Changes.next ?_
      exact h11.then (State.monAsk_changes _ _ _)
    · exact h11
  clear_value x6
  refine Changes.ite_snd ?_ ?_
  · refine Changes.mk_snd ?_
    refine Changes.ite ?_ ?_
    · refine Changes.next ?_
      exact h15.then (State.monAsk_changes _ _ _)
    · exact h15
  · refine Changes.mk_snd ?_
    exact h7

theorem State.cmpCfgWrite_changes (s : State) (r : Req) (n : Nat) (k : Nat) (v : Nat) :
    Changes Part.regs s ((s.cmpCfgWrite r n k v).snd) := by
  unfold State.cmpCfgWrite
  extract_lets -merge -usedOnly x1 x2
  refine Changes.have (x := x1) ?_ fun h3 => ?_
  · unfold x1
    exact (((State.wr_changes _ _ _).mono).then (State.wr_changes _ _ _)).then (State.wr_changes _ _ _)
  clear_value x1
  refine Changes.have (x := x2) ?_ fun h4 => ?_
  · unfold x2
    exact (h3.then (State.wr_changes _ _ _)).then (State.wr_changes _ _ _)
  clear_value x2
  refine Changes.ite_snd ?_ ?_
  · refine Changes.mk_snd ?_
    exact h4.then (State.wr_changes _ _ _)
  · refine Changes.mk_snd ?_
    exact h4

theorem State.trcCtlWrite_changes (s : State) (h : Nat) (v : Nat) :
    Changes (Part.regs ||| Part.bus ||| Part.dmcs ||| Part.trcs ||| Part.nis) s ((s.trcCtlWrite h v).snd) := by
  unfold State.trcCtlWrite
  extract_lets -merge -usedOnly x1
  refine Changes.have (x := x1) ?_ fun h2 => ?_
  · unfold x1
    exact ((State.wr_changes _ _ _).mono).then (State.wr_changes _ _ _)
  clear_value x1
  refine Changes.mk_snd ?_
  refine Changes.ite ?_ ?_
  · exact h2.then (State.traceClear_changes _ _)
  · exact h2

theorem State.pairLoWrite_changes (s : State) (r : Req) (p : RegAt) (v : Nat) :
    Changes Part.latches s ((s.pairLoWrite r p v).snd) := by
  unfold State.pairLoWrite
  refine Changes.ite_snd ?_ ?_
  · refine Changes.mk_snd ?_
    exact (State.setLatch_changes _ _ _).mono
  · refine Changes.mk_snd ?_
    exact Changes.refl _ _

theorem State.pairHiWrite_changes (s : State) (r : Req) (p : RegAt) (v : Nat) :
    Changes (Part.regs ||| Part.latches ||| Part.time) s ((s.pairHiWrite r p v).snd) := by
  unfold State.pairHiWrite
  extract_lets -merge -usedOnly x1 x2 x3
  clear_value x1
  clear_value x2
  refine Changes.have (x := x3) ?_ fun h4 => ?_
  · unfold x3
    exact (State.setLatch_changes _ _ _).mono
  clear_value x3
  refine Changes.ite_snd ?_ ?_
  · refine Changes.mk_snd ?_
    exact Changes.refl _ _
  · split
    · refine Changes.ite_snd ?_ ?_
      · refine Changes.mk_snd ?_
        exact h4
      · refine Changes.mk_snd ?_
        exact h4.then (State.storeReg_changes _ _ _ _ _ _)
    · unfold wrBool
      refine Changes.mk_snd ?_
      exact h4.then (State.tmbIncWrite_changes _ _)
    · refine Changes.mk_snd ?_
      exact h4.then (State.storeReg_changes _ _ _ _ _ _)

theorem State.wordWrite_changes (s : State) (r : Req) (p : RegAt) (v : Nat) :
    Changes (Part.fresh ||| Part.regs ||| Part.bus ||| Part.out ||| Part.heldOut ||| Part.fns ||| Part.ctxs |||
        Part.clks ||| Part.engs ||| Part.bays ||| Part.fcc ||| Part.chans ||| Part.ssgs ||| Part.seqPos ||| Part.fsets |||
        Part.lmaps ||| Part.scr ||| Part.ports ||| Part.bankMem ||| Part.banks ||| Part.dmcs ||| Part.trcs |||
        Part.substs ||| Part.snap ||| Part.time ||| Part.nis ||| Part.fabHeld ||| Part.fcfg ||| Part.bramInit |||
        Part.load ||| Part.fuses ||| Part.fuseArm ||| Part.attest ||| Part.frameCrcs |||
        Part.prnExcl) s ((s.wordWrite r p v).snd) := by
  unfold State.wordWrite
  extract_lets -merge -usedOnly x1
  refine Changes.have (x := x1) ?_ fun h2 => ?_
  · unfold x1
    exact (State.storeReg_changes _ _ _ _ _ _).mono
  clear_value x1
  split
  · exact (State.eclkCtlWrite_changes _ _ _).mono
  · exact (State.behaviourWrite_changes _ _).mono
  · exact (State.fnCfgWrite_changes _ _ _).mono
  · exact (State.ctxCfgWrite_changes _ _ _ _).mono
  · refine Changes.ite_snd ?_ ?_
    · refine Changes.mk_snd ?_
      exact Changes.refl _ _
    · refine Changes.mk_snd ?_
      exact h2
  · exact (State.seqCtlWrite_changes _ _).mono
  · exact (State.engCtlWrite_changes _ _ _).mono
  · unfold wrBool
    refine Changes.mk_snd ?_
    exact (State.engMapWrite_changes _ _ _).mono
  · refine Changes.mk_snd ?_
    exact (State.irqWrite_changes _ _ _).mono
  · exact (State.engSpecWrite_changes _ _ _).mono
  · unfold wrBool
    refine Changes.mk_snd ?_
    exact (State.selWrite_changes _ _ _).mono
  · exact (State.portCfgWrite_changes _ _ _ _).mono
  · exact (State.chnWrite_changes _ _ _ _).mono
  · exact (State.chnWrite_changes _ _ _ _).mono
  · unfold wrBool
    refine Changes.mk_snd ?_
    exact (State.ssgCfgWrite_changes _ _ _ _ _).mono
  · unfold wrBool
    refine Changes.mk_snd ?_
    exact (State.ssgCfgWrite_changes _ _ _ _ _).mono
  · refine Changes.mk_snd ?_
    refine Changes.ite ?_ ?_
    · exact (State.fccFlush_changes _ _).mono
    · exact Changes.refl _ _
  · refine Changes.mk_snd ?_
    exact (State.ffsWrite_changes _ _ _).mono
  · refine Changes.mk_snd ?_
    exact (State.bankPwr_changes _ _ _ _).mono
  · exact (State.loadCtlWrite_changes _ _).mono
  · exact (State.hringCfgWrite_changes _ _).mono
  · refine Changes.mk_snd ?_
    exact ((State.wr_changes _ _ _).mono).then (State.tmbModeWrite_changes _ _)
  · unfold wrBool
    refine Changes.mk_snd ?_
    exact (State.timeStep_changes _ _).mono
  · refine Changes.mk_snd ?_
    exact (State.phyWrite_changes _ _ _).mono
  · exact (State.lchRegWrite_changes _ _ _ _).mono
  · unfold wrBool
    refine Changes.mk_snd ?_
    exact (State.trgCtlWrite_changes _ _ _ _).mono
  · refine Changes.ite_snd ?_ ?_
    · refine Changes.mk_snd ?_
      exact h2
    · refine Changes.mk_snd ?_
      exact Changes.refl _ _
  · refine Changes.ite_snd ?_ ?_
    · refine Changes.mk_snd ?_
      exact h2
    · refine Changes.mk_snd ?_
      exact Changes.refl _ _
  · exact (State.supCtlWrite_changes _ _).mono
  · exact (State.snpCtlWrite_changes _ _).mono
  · exact (State.attCtlWrite_changes _ _).mono
  · exact (State.progCtlWrite_changes _ _ _).mono
  · split
    · exact (State.engDbgWrite_changes _ _ _ _).mono
    · refine Changes.mk_snd ?_
      exact Changes.refl _ _
  · exact (State.cmpCfgWrite_changes _ _ _ _ _).mono
  · exact (State.trcCtlWrite_changes _ _ _).mono
  · refine Changes.mk_snd ?_
    exact h2

theorem State.regFileWrite_changes (s : State) (r : Req) (off : Nat) (v : Nat) :
    Changes (Part.fresh ||| Part.regs ||| Part.latches ||| Part.bus ||| Part.out ||| Part.heldOut ||| Part.fns |||
        Part.ctxs ||| Part.clks ||| Part.engs ||| Part.bays ||| Part.fcc ||| Part.chans ||| Part.ssgs ||| Part.seqPos |||
        Part.fsets ||| Part.lmaps ||| Part.scr ||| Part.ports ||| Part.bankMem ||| Part.banks ||| Part.dmcs |||
        Part.trcs ||| Part.substs ||| Part.snap ||| Part.time ||| Part.nis ||| Part.flights ||| Part.dirc |||
        Part.bankJoins ||| Part.homes ||| Part.fabHeld ||| Part.bankUe ||| Part.fcfg ||| Part.bramInit ||| Part.fcgs |||
        Part.load ||| Part.fuses ||| Part.fuseArm ||| Part.attest ||| Part.pins ||| Part.padKeep ||| Part.frameCrcs |||
        Part.prnExcl) s ((s.regFileWrite r off v).snd) := by
  unfold State.regFileWrite
  refine Changes.ite_snd ?_ ?_
  · refine Changes.ite_snd ?_ ?_
    · exact (State.dmcWrite_changes _ _ _ _).mono
    · refine Changes.mk_snd ?_
      exact Changes.refl _ _
  · split
    · refine Changes.mk_snd ?_
      exact Changes.refl _ _
    · refine Changes.ite_snd ?_ ?_
      · refine Changes.ite_snd ?_ ?_
        · exact (State.pairLoWrite_changes _ _ _ _).mono
        · exact (State.pairHiWrite_changes _ _ _ _).mono
      · refine Changes.ite_snd ?_ ?_
        · exact (State.fabRegWrite_changes _ _ _).mono
        · refine Changes.ite_snd ?_ ?_
          · exact (State.gppRegWrite_changes _ _ _).mono
          · exact (State.wordWrite_changes _ _ _ _).mono

theorem State.chanWinWrite_changes (s : State) (r : Req) (c : Nat) (a : Nat) (v : Nat) :
    Changes (Part.regs ||| Part.holds ||| Part.tsets ||| Part.calRecs) s ((s.chanWinWrite r c a v).snd) := by
  unfold State.chanWinWrite
  refine Changes.ite_snd ?_ ?_
  · unfold wrBool
    refine Changes.mk_snd ?_
    refine Changes.ite_snd ?_ ?_
    · exact (State.tsetCommit_changes _ _ _ _ _).mono
    · exact (State.tsetHold_changes _ _ _ _ _ _).mono
  · refine Changes.ite_snd ?_ ?_
    · unfold wrBool
      refine Changes.mk_snd ?_
      exact (State.recHold_changes _ _ _ _ _).mono
    · refine Changes.ite_snd ?_ ?_
      · unfold wrBool
        refine Changes.mk_snd ?_
        exact (State.recCommit_changes _ _ _ _).mono
      · refine Changes.mk_snd ?_
        exact Changes.refl _ _

theorem State.seqWinWrite_changes (s : State) (r : Req) (o : Nat) (v : Nat) :
    Changes (Part.regs ||| Part.holds ||| Part.engs ||| Part.seqMem ||| Part.seqUnread) s ((s.seqWinWrite r o v).snd) := by
  unfold State.seqWinWrite
  extract_lets -merge -usedOnly x1 x2
  clear_value x1
  clear_value x2
  unfold wrBool
  refine Changes.mk_snd ?_
  refine Changes.ite_snd ?_ ?_
  · exact (State.seqCommit_changes _ _ _ _ _).mono
  · exact (State.seqHold_changes _ _ _ _ _ _).mono

theorem State.regWrite_changes (s : State) (r : Req) (off : Nat) (v : Nat) :
    Changes (Part.byReset ||| Part.fresh ||| Part.out ||| Part.fuses) s ((s.regWrite r off v).snd) := by
  unfold State.regWrite
  extract_lets -merge -usedOnly x1 x2 x3
  clear_value x1
  clear_value x2
  clear_value x3
  refine Changes.ite_snd ?_ ?_
  · refine Changes.ite_snd ?_ ?_
    · refine Changes.mk_snd ?_
      exact Changes.refl _ _
    · refine Changes.ite_snd ?_ ?_
      · refine Changes.mk_snd ?_
        exact (State.deviceReset_changes _ _ _).mono
      · refine Changes.mk_snd ?_
        exact Changes.refl _ _
  · refine Changes.ite_snd ?_ ?_
    · refine Changes.mk_snd ?_
      refine Changes.ite ?_ ?_
      · refine Changes.next ?_
        refine Changes.ite ?_ ?_
        · exact ((State.setOn_changes _ _).mono).then (State.fwVerify_changes _ _ _ _)
        · exact Changes.refl _ _
      · exact Changes.refl _ _
    · refine Changes.ite_snd ?_ ?_
      · refine Changes.mk_snd ?_
        exact Changes.refl _ _
      · refine Changes.ite_snd ?_ ?_
        · refine Changes.mk_snd ?_
          exact (State.winWrite_changes _ _ _ _ _).mono
        · refine Changes.ite_snd ?_ ?_
          · refine Changes.mk_snd ?_
            exact (State.lchBufWrite_changes _ _ _ _ _).mono
          · refine Changes.ite_snd ?_ ?_
            · refine Changes.mk_snd ?_
              exact Changes.refl _ _
            · refine Changes.ite_snd ?_ ?_
              · refine Changes.mk_snd ?_
                exact (State.stimWrite_changes _ _ _ _ _ _).mono
              · refine Changes.ite_snd ?_ ?_
                · exact (State.regFileWrite_changes _ _ _ _).mono
                · refine Changes.ite_snd ?_ ?_
                  · exact (State.seqWinWrite_changes _ _ _ _).mono
                  · refine Changes.ite_snd ?_ ?_
                    · refine Changes.ite_snd ?_ ?_
                      · unfold wrBool
                        refine Changes.mk_snd ?_
                        exact (State.engTableWrite_changes _ _ _ _).mono
                      · refine Changes.mk_snd ?_
                        exact Changes.refl _ _
                    · refine Changes.ite_snd ?_ ?_
                      · exact (State.chanWinWrite_changes _ _ _ _ _).mono
                      · refine Changes.ite_snd ?_ ?_
                        · refine Changes.ite_snd ?_ ?_
                          · refine Changes.mk_snd ?_
                            exact (State.routeWrite_changes _ _ _ _).mono
                          · refine Changes.mk_snd ?_
                            exact Changes.refl _ _
                        · refine Changes.mk_snd ?_
                          exact Changes.refl _ _

theorem State.traceWord_changes (s : State) (h : Nat) (o : Nat) :
    Changes (Part.fresh ||| Part.regs ||| Part.bus ||| Part.ctxs ||| Part.dram ||| Part.poison ||| Part.dmcs |||
        Part.nis) s ((s.traceWord h o).snd) := by
  unfold State.traceWord
  extract_lets -merge -usedOnly x1 x2 x3
  clear_value x1
  refine Changes.have (x := x2.2) ?_ fun h4 => ?_
  · unfold x2
    exact ((State.srNow_changes _ _).mono).then (State.freeEcc_changes _)
  clear_value x2
  refine Changes.have (x := x3.2) ?_ fun h5 => ?_
  · unfold x3
    exact h4.then (State.dramNow_changes _ _ _ _ _)
  clear_value x3
  split
  · refine Changes.mk_snd ?_
    exact h5
  · refine Changes.mk_snd ?_
    exact h5.then (State.setOn_changes _ _)

theorem State.nowRead_changes (s : State) (r : Req) (off : Nat) :
    Changes Part.latches s ((s.nowRead r off).snd) := by
  unfold State.nowRead
  extract_lets -merge -usedOnly x1
  clear_value x1
  refine Changes.ite_snd ?_ ?_
  · refine Changes.mk_snd ?_
    exact (State.setLatch_changes _ _ _).mono
  · refine Changes.ite_snd ?_ ?_
    · refine Changes.mk_snd ?_
      exact Changes.refl _ _
    · refine Changes.ite_snd ?_ ?_
      · refine Changes.mk_snd ?_
        exact Changes.refl _ _
      · refine Changes.mk_snd ?_
        exact Changes.refl _ _

theorem State.regReadAt_changes (s : State) (peek : Bool) (r : Req) (off : Nat) :
    Changes (Part.fresh ||| Part.regs ||| Part.latches ||| Part.bus ||| Part.ctxs ||| Part.dram ||| Part.poison |||
        Part.dmcs ||| Part.nis) s ((s.regReadAt peek r off).snd) := by
  unfold State.regReadAt
  extract_lets -merge -usedOnly x1 x2 x3
  clear_value x1
  clear_value x2
  clear_value x3
  refine Changes.ite_snd ?_ ?_
  · exact (State.winNow_changes _ _ _).mono
  · refine Changes.ite_snd ?_ ?_
    · refine Changes.mk_snd ?_
      exact Changes.refl _ _
    · refine Changes.ite_snd ?_ ?_
      · exact (State.nowRead_changes _ _ _).mono
      · refine Changes.ite_snd ?_ ?_
        · refine Changes.mk_snd ?_
          exact Changes.refl _ _
        · refine Changes.ite_snd ?_ ?_
          · refine Changes.mk_snd ?_
            exact Changes.refl _ _
          · refine Changes.ite_snd ?_ ?_
            · refine Changes.mk_snd ?_
              exact (State.genericRead_changes _ _ _ _).mono
            · refine Changes.ite_snd ?_ ?_
              · exact (State.traceWord_changes _ _ _).mono
              · refine Changes.ite_snd ?_ ?_
                · refine Changes.mk_snd ?_
                  exact Changes.refl _ _
                · refine Changes.ite_snd ?_ ?_
                  · refine Changes.mk_snd ?_
                    exact Changes.refl _ _
                  · refine Changes.ite_snd ?_ ?_
                    · refine Changes.mk_snd ?_
                      exact Changes.refl _ _
                    · refine Changes.ite_snd ?_ ?_
                      · exact (State.genericRead_changes _ _ _ _).mono
                      · refine Changes.ite_snd ?_ ?_
                        · refine Changes.mk_snd ?_
                          exact Changes.refl _ _
                        · refine Changes.ite_snd ?_ ?_
                          · refine Changes.mk_snd ?_
                            exact Changes.refl _ _
                          · refine Changes.ite_snd ?_ ?_
                            · refine Changes.mk_snd ?_
                              exact Changes.refl _ _
                            · refine Changes.ite_snd ?_ ?_
                              · refine Changes.mk_snd ?_
                                exact Changes.refl _ _
                              · refine Changes.mk_snd ?_
                                exact Changes.refl _ _

theorem State.regRead_changes (s : State) (peek : Bool) (r : Req) (off : Nat) :
    Changes (Part.fresh ||| Part.regs ||| Part.latches ||| Part.bus ||| Part.ctxs ||| Part.dram ||| Part.poison |||
        Part.dmcs ||| Part.nis) s ((s.regRead peek r off).snd) := by
  unfold State.regRead
  refine Changes.ite_snd ?_ ?_
  · exact (State.regReadAt_changes _ _ _ _).mono
  · refine Changes.mk_snd ?_
    exact Changes.refl _ _

theorem State.busRead_changes (s : State) (r : Req) (off : Nat) :
    Changes (Part.fresh ||| Part.regs ||| Part.latches ||| Part.bus ||| Part.ctxs ||| Part.dram ||| Part.poison |||
        Part.dmcs ||| Part.nis) s (s.busRead r off) := by
  unfold State.busRead
  extract_lets -merge -usedOnly x1
  refine Changes.have (x := x1.2) ?_ fun h2 => ?_
  · unfold x1
    exact (State.regRead_changes _ _ _ _).mono
  clear_value x1
  refine Changes.ite ?_ ?_
  · exact Changes.refl _ _
  · refine Changes.ite ?_ ?_
    · exact (State.winRead_changes _ _ _ _ _).mono
    · exact h2.then (State.setBus_changes _ _ _)

theorem State.imagePairs_changes (s : State) (img : Nat) (l : List Nat) : Changes (Part.byReset ||| Part.fresh |||
    Part.out ||| Part.fuses) s (s.imagePairs img l).2 := by
  induction l generalizing s with
  | nil => exact Changes.refl _ _
  | cons k ks ih =>
    unfold State.imagePairs
    extract_lets off p
    have hp : Changes (Part.byReset ||| Part.fresh ||| Part.out |||
        Part.fuses) s p.2 := Changes.ite_snd (State.regWrite_changes _ _ _ _).mono (Changes.refl _ _)
    clear_value p
    split
    · exact hp
    · exact hp
    · exact hp.trans (ih _)

theorem State.runImage_changes (s : State) (n : Nat) (img : Nat) (k : Nat) (st : Nat) (det : Nat) :
    Changes (Part.byReset ||| Part.fresh ||| Part.out ||| Part.fuses) s (s.runImage n img k st det) := by
  unfold State.runImage
  extract_lets -merge -usedOnly x1
  refine Changes.have (x := x1.2) ?_ fun h2 => ?_
  · unfold x1
    exact (State.imagePairs_changes _ _ _).mono
  clear_value x1
  split
  · exact h2.then (State.finishFront_changes _ _ _ _)
  · exact h2.then (State.finishFront_changes _ _ _ _)
  · exact h2.then (State.finishFront_changes _ _ _ _)

theorem State.imageError_changes (s : State) (n : Nat) (j : Job) (rows : Nat) (img : Nat) :
    Changes (Part.byReset ||| Part.fresh ||| Part.out ||| Part.fuses) s (s.imageError n j rows img) := by
  unfold State.imageError
  extract_lets -merge -usedOnly x1 x2 x3
  clear_value x1
  clear_value x2
  refine Changes.have (x := x3) ?_ fun h4 => ?_
  · unfold x3
    refine Changes.ite ?_ ?_
    · exact Changes.refl _ _
    · refine Changes.ite ?_ ?_
      · exact (State.setupSeq_changes _ _ _ _).mono
      · exact (State.setupTable_changes _ _ _ _).mono
  clear_value x3
  refine Changes.ite ?_ ?_
  · exact (State.runImage_changes _ _ _ _ _ _).mono
  · exact h4.then (State.finishFront_changes _ _ _ _)

/-! ## Machine/Hjelz -/

theorem State.portSnoop_changes (s : State) (h : Nat) (line : Nat) (write : Bool) :
    Changes (Part.fresh ||| Part.bankMem ||| Part.dirc) s (s.portSnoop h line write) := by
  unfold State.portSnoop
  extract_lets -merge -usedOnly x1 x2 x3
  clear_value x1
  refine Changes.have (x := x2.2) ?_ fun h4 => ?_
  · unfold x2
    exact (State.free_changes _ _).mono
  clear_value x2
  refine Changes.have (x := x3) ?_ fun h5 => ?_
  · unfold x3
    refine Changes.ite ?_ ?_
    · exact h4.then (State.bankWrite_changes _ _ _ _ _)
    · exact Changes.refl _ _
  clear_value x3
  exact h5.then (State.setHolders_changes _ _ _ _)

theorem State.portBank_changes (s : State) (a : Nat) (wr : Option Nat) :
    Changes (Part.fresh ||| Part.regs ||| Part.bus ||| Part.engs ||| Part.bankMem ||| Part.banks ||| Part.nis |||
        Part.dirc ||| Part.bankJoins ||| Part.bankUe) s ((s.portBank a wr).snd) := by
  unfold State.portBank
  extract_lets -merge -usedOnly x1 x2 x3 x4 x5
  clear_value x1
  clear_value x2
  clear_value x3
  refine Changes.have (x := x4) ?_ fun h6 => ?_
  · unfold x4
    refine Changes.ite ?_ ?_
    · exact (State.bankMove_changes _ _ _ _).mono
    · exact Changes.refl _ _
  clear_value x4
  refine Changes.have (x := x5) ?_ fun h7 => ?_
  · unfold x5
    refine Changes.ite ?_ ?_
    · exact h6
    · exact h6.then (State.portSnoop_changes _ _ _ _)
  clear_value x5
  refine Changes.ite_snd ?_ ?_
  · refine Changes.mk_snd ?_
    exact (State.setOn_changes _ _).mono
  · split
    · refine Changes.mk_snd ?_
      exact h7.then (State.bankDoWrite_changes _ _ _ _)
    · refine Changes.ite_snd ?_ ?_
      · refine Changes.mk_snd ?_
        exact h7.then (State.noteUe_changes _ _ _)
      · refine Changes.mk_snd ?_
        exact h7

theorem State.portDram_changes (s : State) (a : Nat) (wr : Option Nat) :
    Changes (Part.fresh ||| Part.regs ||| Part.bus ||| Part.ctxs ||| Part.dram ||| Part.poison ||| Part.dmcs |||
        Part.nis) s ((s.portDram a wr).snd) := by
  unfold State.portDram
  extract_lets -merge -usedOnly x1 x2 x3 x4 x5 x6
  clear_value x1
  clear_value x2
  clear_value x3
  refine Changes.have (x := x4) ?_ fun h7 => ?_
  · unfold x4
    exact (State.srNow_changes _ _).mono
  clear_value x4
  refine Changes.have (x := x5.2) ?_ fun h8 => ?_
  · unfold x5
    exact h7.then (State.freeEcc_changes _)
  clear_value x5
  refine Changes.have (x := x6.2) ?_ fun h9 => ?_
  · unfold x6
    exact h8.then (State.dramNow_changes _ _ _ _ _)
  clear_value x6
  refine Changes.ite_snd ?_ ?_
  · refine Changes.mk_snd ?_
    exact (State.dramAddrErr_changes _ _ _).mono
  · refine Changes.ite_snd ?_ ?_
    · refine Changes.mk_snd ?_
      exact h7
    · split
      · refine Changes.mk_snd ?_
        exact h7.then (State.dramPut_changes _ _ _ _ _ _)
      · split
        · refine Changes.mk_snd ?_
          exact h9
        · refine Changes.mk_snd ?_
          exact h9

theorem State.portEngine_changes (s : State) (a : Nat) (wr : Option Nat) :
    Changes Part.bankMem s ((s.portEngine a wr).snd) := by
  unfold State.portEngine
  extract_lets -merge -usedOnly x1 x2
  clear_value x1
  clear_value x2
  refine Changes.ite_snd ?_ ?_
  · refine Changes.mk_snd ?_
    exact Changes.refl _ _
  · refine Changes.ite_snd ?_ ?_
    · refine Changes.mk_snd ?_
      exact Changes.refl _ _
    · refine Changes.ite_snd ?_ ?_
      · refine Changes.mk_snd ?_
        exact Changes.refl _ _
      · split
        · refine Changes.mk_snd ?_
          exact (State.bankWrite_changes _ _ _ _ _).mono
        · refine Changes.mk_snd ?_
          exact Changes.refl _ _

theorem State.portTrace_changes (s : State) (consume : Bool) (last : Bool) (i : Nat) :
    Changes Part.trcs s ((s.portTrace consume last i).snd) := by
  unfold State.portTrace
  extract_lets -merge -usedOnly x1
  clear_value x1
  split
  · refine Changes.mk_snd ?_
    exact Changes.refl _ _
  · refine Changes.mk_snd ?_
    refine Changes.ite ?_ ?_
    · exact (State.updTrc_changes _ _ _).mono
    · exact Changes.refl _ _

theorem State.portWrite_changes (s : State) (o : Nat) (v : Nat) :
    Changes (Part.fresh ||| Part.regs ||| Part.hj) s ((s.portWrite o v).snd) := by
  unfold State.portWrite
  extract_lets -merge -usedOnly x1 x2 x3
  refine Changes.have (x := x1) ?_ fun h4 => ?_
  · unfold x1
    exact (State.wr_changes _ _ _).mono
  clear_value x1
  refine Changes.have (x := x2) ?_ fun h5 => ?_
  · unfold x2
    refine Changes.ite ?_ ?_
    · refine Changes.next ?_
      extract_lets -merge -usedOnly x6
      refine Changes.have (x := x6.2) ?_ fun h7 => ?_
      · unfold x6
        exact h4.then (State.free_changes _ _)
      clear_value x6
      refine Changes.ite ?_ ?_
      · exact h4
      · refine Changes.ite ?_ ?_
        · exact h4.then (State.wr_changes _ _ _)
        · exact h7.then (State.updHj_changes _ _)
    · exact h4
  clear_value x2
  refine Changes.have (x := x3) ?_ fun h8 => ?_
  · unfold x3
    refine Changes.ite ?_ ?_
    · refine Changes.next ?_
      extract_lets -merge -usedOnly x9
      clear_value x9
      refine Changes.ite ?_ ?_
      · exact h5
      · exact (h5.then (State.setOn_changes _ _)).then (State.updHj_changes _ _)
    · exact h5
  clear_value x3
  refine Changes.ite_snd ?_ ?_
  · refine Changes.mk_snd ?_
    refine Changes.ite ?_ ?_
    · refine Changes.next ?_
      refine Changes.ite ?_ ?_
      · exact h8
      · exact h8.then (State.clr_changes _ _)
    · exact h8
  · refine Changes.ite_snd ?_ ?_
    · refine Changes.ite_snd ?_ ?_
      · refine Changes.mk_snd ?_
        exact (State.wr_changes _ _ _).mono
      · refine Changes.mk_snd ?_
        exact Changes.refl _ _
    · refine Changes.ite_snd ?_ ?_
      · refine Changes.mk_snd ?_
        exact (State.updHj_changes _ _).mono
      · refine Changes.ite_snd ?_ ?_
        · refine Changes.mk_snd ?_
          exact Changes.refl _ _
        · refine Changes.mk_snd ?_
          exact Changes.refl _ _

theorem State.portReadWord_changes (s : State) (space : Nat) (consume : Bool) (last : Bool) (a : Nat) (i : Nat) :
    Changes (Part.fresh ||| Part.regs ||| Part.latches ||| Part.bus ||| Part.ctxs ||| Part.engs ||| Part.bankMem |||
        Part.banks ||| Part.dram ||| Part.poison ||| Part.dmcs ||| Part.trcs ||| Part.nis ||| Part.dirc |||
        Part.bankJoins ||| Part.bankUe) s ((s.portReadWord space consume last a i).snd) := by
  unfold State.portReadWord
  split
  · refine Changes.mk_snd ?_
    exact Changes.refl _ _
  · extract_lets -merge -usedOnly x1
    refine Changes.have (x := x1.2) ?_ fun h2 => ?_
    · unfold x1
      exact (State.regRead_changes _ _ _ _).mono
    clear_value x1
    refine Changes.mk_snd ?_
    exact h2
  · exact (State.portBank_changes _ _ _).mono
  · exact (State.portDram_changes _ _ _).mono
  · exact (State.portEngine_changes _ _ _).mono
  · exact (State.portTrace_changes _ _ _ _).mono

theorem State.portWriteWord_changes (s : State) (space : Nat) (a : Nat) (v : Nat) :
    Changes (Part.byReset ||| Part.fresh ||| Part.out ||| Part.fuses) s ((s.portWriteWord space a v).snd) := by
  unfold State.portWriteWord
  split
  · exact (State.portWrite_changes _ _ _).mono
  · extract_lets -merge -usedOnly x1
    refine Changes.have (x := x1.2) ?_ fun h2 => ?_
    · unfold x1
      exact (State.regWrite_changes _ _ _ _).mono
    clear_value x1
    refine Changes.mk_snd ?_
    exact h2
  · exact (State.portBank_changes _ _ _).mono
  · exact (State.portDram_changes _ _ _).mono
  · exact (State.portEngine_changes _ _ _).mono

theorem State.portStatus_changes (s : State) (st : Nat) :
    Changes Part.hj s (s.portStatus st) := by
  unfold State.portStatus
  exact (State.updHj_changes _ _).mono

theorem State.portError_changes (s : State) (reason : Nat) (k : Nat) :
    Changes (Part.regs ||| Part.hj) s (s.portError reason k) := by
  unfold State.portError
  exact (((State.wr_changes _ _ _).mono).then (State.wr_changes _ _ _)).then (State.portStatus_changes _ _)

theorem State.portReads_changes (s : State) (space : Nat) (consume : Bool) (a n : Nat) (slow : Option Nat) (l acc : List Nat) :
    Changes (Part.fresh ||| Part.regs ||| Part.latches ||| Part.bus ||| Part.ctxs ||| Part.engs ||| Part.bankMem |||
        Part.banks ||| Part.dram ||| Part.poison ||| Part.dmcs ||| Part.trcs ||| Part.nis ||| Part.dirc |||
        Part.bankJoins ||| Part.bankUe ||| Part.hj) s (s.portReads space consume a n slow l acc) := by
  induction l generalizing s acc with
  | nil =>
    unfold State.portReads
    extract_lets v
    exact (State.updHj_changes _ _).mono
  | cons i is ih =>
    unfold State.portReads
    refine Changes.ite (State.updHj_changes _ _).mono ?_
    extract_lets q
    have hq : Changes (Part.fresh ||| Part.regs ||| Part.latches ||| Part.bus ||| Part.ctxs ||| Part.engs |||
        Part.bankMem ||| Part.banks ||| Part.dram ||| Part.poison ||| Part.dmcs ||| Part.trcs ||| Part.nis |||
        Part.dirc ||| Part.bankJoins ||| Part.bankUe |||
        Part.hj) s q.2 := (State.portReadWord_changes s space consume (i + 1 == n) (a + 4 * i) i).mono
    clear_value q
    split
    · exact hq.then (State.portError_changes _ _ _)
    · exact hq.trans (ih _ _)

theorem State.portWrites_changes (s : State) (space a : Nat) (slow : Option Nat) (l : List (Nat × Nat)) :
    Changes (Part.byReset ||| Part.fresh ||| Part.out ||| Part.fuses) s (s.portWrites space a slow l) := by
  induction l generalizing s with
  | nil => exact (State.portStatus_changes _ _).mono
  | cons w ws ih =>
    obtain ⟨i, v⟩ := w
    unfold State.portWrites
    refine Changes.ite (State.updHj_changes _ _).mono ?_
    extract_lets q
    have hq : Changes (Part.byReset ||| Part.fresh ||| Part.out |||
        Part.fuses) s q.2 := (State.portWriteWord_changes _ _ _ _).mono
    clear_value q
    refine Changes.ite hq ?_
    split
    · exact hq.then (State.portError_changes _ _ _)
    · exact hq.trans (ih _)

/-! ## Machine/Idle -/

theorem State.takeStamps_changes (s : State) :
    Changes (Part.regs ||| Part.time) s (s.takeStamps) := by
  unfold State.takeStamps
  refine Changes.each ?_ ?_
  · exact Changes.refl _ _
  · intro t1 a2 h3
    exact h3.then (State.takeStamp_changes _ _)

theorem State.idle_changes (s : State) :
    Changes (Part.ticks ||| Part.fresh ||| Part.regs ||| Part.bus ||| Part.engs ||| Part.seqPos ||| Part.dmcs |||
        Part.tb ||| Part.trcs ||| Part.time ||| Part.nis) s (s.idle) := by
  unfold State.idle
  refine Changes.ite ?_ ?_
  · exact Changes.refl _ _
  · exact (((State.elapse_changes _ _).mono).then (State.copyMoves_changes _)).then (State.takeStamps_changes _)

/-! ## Machine/Step -/

theorem State.withFetchWord_changes (s : State) (nbits : Nat) (w : Nat) :
    Changes Part.pending s (s.withFetchWord nbits w) := by
  unfold State.withFetchWord
  split
  · exact Changes.set_pending (Changes.refl _ _)
  · exact Changes.refl _ _

end Sys2Proof.Machine
end

