-- ==== Sys2Proof/Laws/Retained.lean ====
section
/-! SUPPORT. Laws of the retained image: DRAM at rest reads as it is stored, and a sealed frame opens to itself. -/

namespace Sys2Proof.Machine

/-- Where nothing waits at the interfaces and no line is poisoned, bytes of DRAM read as they are stored. -/
theorem State.dramBytes_eq (s : State) (h a n : Nat) (ha : a % 64 = 0) (hn : 0 < n)
    (hq : ∀ i, (s.dmc i).q = [] ∧ (s.dmc i).held = []) (hp : ∀ l, s.poisoned h l = false) :
    s.dramBytes h a n = some (Memory.readN s.dram (dramKey h a) n) := by
  have hv : ∀ l, s.poisonView h l = false := by
    intro l; simp [State.poisonView, hq, hp]
  have hl : ∀ l, s.lineView h l = Memory.readN s.dram (dramKey h l) 64 := by
    intro l; simp [State.lineView, hq, State.dramRead]
  have hb : (2 : Nat) ^ 512 = 256 ^ 64 := by rw [show (256 : Nat) = 2 ^ 8 from rfl, ← Nat.pow_mul]
  unfold State.dramBytes
  generalize (2 : Nat) ^ 512 = b at hb ⊢
  simp only [hv, List.any_eq_true, Bool.false_eq_true, and_false, exists_false, if_false]
  generalize hN : (a + n - 1) / 64 - a / 64 + 1 = N
  have e : ∀ L : List Nat, L.foldr (fun l v => s.lineView h l + b * v) 0 = (L.map (s.lineView h)).foldr (fun x v => x + b * v) 0 :=
    fun L => by rw [List.foldr_map]
  rw [e, List.map_map, Memory.readN_lines s.dram (dramKey h a) _ (fun i => by
    rw [Function.comp, hl]
    exact congrArg (fun x => Memory.readN s.dram x 64) (by unfold dramKey; omega)) b hb, ha, Nat.pow_zero, Nat.div_one]
  obtain ⟨k, hk⟩ : ∃ k, 64 * N = n + k := ⟨64 * N - n, by omega⟩
  rw [hk, Memory.readN_take]

/-- A sealed frame opens to itself (R357). -/
theorem State.openFrame_sealFrame (s t : State) (fa v : Nat) (hk : t.retKey = s.retKey) (hv : v < 2 ^ (8 * frameLen fa)) :
    t.openFrame fa (s.sealFrame fa v % 256 ^ (frameLen fa + 16)) = some v := by
  have e : (256 : Nat) ^ (frameLen fa + 16) = 2 ^ (8 * frameLen fa) * 2 ^ 128 := by
    rw [show (256 : Nat) = 2 ^ 8 from rfl, ← Nat.pow_mul, ← Nat.pow_add, Nat.mul_add]
  unfold State.openFrame State.sealFrame
  dsimp only
  rw [e, hk]
  generalize Config.retPad s.retKey fa = p
  generalize 8 * frameLen fa = n at hv
  have hN : 0 < 2 ^ n := Nat.two_pow_pos _
  have hx : ((v ^^^ p) % 2 ^ n ^^^ p) % 2 ^ n = v := by
    rw [Nat.xor_mod_two_pow, Nat.mod_mod, ← Nat.xor_mod_two_pow, Nat.xor_assoc, Nat.xor_self, Nat.xor_zero, Nat.mod_eq_of_lt hv]
  have hcl : (v ^^^ p) % 2 ^ n < 2 ^ n := Nat.mod_lt _ hN
  obtain ⟨c, hc⟩ : ∃ c, (v ^^^ p) % 2 ^ n = c := ⟨_, rfl⟩
  simp only [hc] at hx hcl ⊢
  have ht : Config.retTag s.retKey fa c % 2 ^ 128 < 2 ^ 128 := Nat.mod_lt _ (Nat.two_pow_pos _)
  have h2 : (c + 2 ^ n * (Config.retTag s.retKey fa c % 2 ^ 128)) % (2 ^ n * 2 ^ 128) =
      c + 2 ^ n * (Config.retTag s.retKey fa c % 2 ^ 128) := Nat.mod_eq_of_lt (by
    calc _ < 2 ^ n + 2 ^ n * (Config.retTag s.retKey fa c % 2 ^ 128) := Nat.add_lt_add_right hcl _
      _ = 2 ^ n * (Config.retTag s.retKey fa c % 2 ^ 128 + 1) := by rw [Nat.mul_add, Nat.mul_one, Nat.add_comm]
      _ ≤ 2 ^ n * 2 ^ 128 := Nat.mul_le_mul_left _ ht)
  simp only [h2, Nat.add_mul_mod_self_left, Nat.mod_eq_of_lt hcl, Nat.add_mul_div_left _ _ hN, Nat.div_eq_of_lt hcl, Nat.zero_add,
    Nat.mod_mod, if_true, hx]
/-- What was sealed into a half's retained image is what its copy gives (R357, R358). -/
theorem State.retCopy_sealFrame (s : State) (h fa v : Nat) (hn : s.rd (F.DMC_HALF.NIF h) = 4) (hd : s.dmcs = []) (hp : s.poison = [])
    (hm : s.dram = Memory.writeN [] (dramKey h (retAt fa)) (frameLen fa + 16) (s.sealFrame fa v)) (ha : retAt fa % 64 = 0)
    (hv : v < 2 ^ (8 * frameLen fa)) : s.retCopy h fa true = some v := by
  have hq : ∀ i, (s.dmc i).q = [] ∧ (s.dmc i).held = [] := fun i => by
    unfold State.dmc; rw [hd]; exact ⟨rfl, rfl⟩
  have hb : ∀ l, s.poisoned h l = false := fun l => by
    unfold State.poisoned State.foldMoved; rw [hn, hp]; rfl
  unfold State.retCopy
  rw [if_neg (by rw [hn]; decide), State.dramBytes_eq s h _ _ ha (Nat.succ_pos _) hq hb, hm, Memory.readN_writeN, Option.bind_some]
  exact State.openFrame_sealFrame s s fa v rfl hv

/-- A content frame, written, reads back without regard to DRAM and the reference CRCs. -/
theorem State.frameNow_content (s : State) (d : Memory) (c : Table Nat) (fa v : Nat) (ht : faType fa = 1) :
    (({ s with dram := d, frameCrcs := c } : State).frameWrite fa v).frameNow fa = (s.frameWrite fa v).frameNow fa := by
  unfold State.frameWrite State.frameNow
  rw [ht]
  rfl
end Sys2Proof.Machine
end

