-- ==== Sys2Proof/WellFormed.lean ====
section
/-! DEFINITION. Well-formed commands: what an operand must satisfy beyond its type. Sizes that the spec fixes: a nanosecond count below 10^9
(R386), an access of a window inside 8 bytes (R256), a port request of 1 to 256 words (R467), lists with one element per unit. -/

namespace Sys2Proof

/-- The operands are values that the surroundings can give. -/
def Instr.wf (i : Instr) : Bool :=
  match i with
  | .registerWrite _ _ _ => true
  | .rcRead _ _ => true
  | .pairLoRead _ _ => true
  | .pairHiRead _ _ => true
  | .pairLoWrite _ _ _ => true
  | .pairHiWrite _ _ _ => true
  | .behaviourLevelWrite _ _ => true
  | .eclkApply _ _ => true
  | .eclkApplyCancel _ _ => true
  | .eclkApplyTimeout _ => true
  | .eclkAlignMoment _ => true
  | .eclkRelock _ => true
  | .eclkLockLoss _ => true
  | .refclkLoss => true
  | .refclkReturn => true
  | .agentFence _ _ _ => true
  | .agentReset _ _ _ => true
  | .agentConfigure _ _ _ => true
  | .agentCalibrate _ _ _ => true
  | .hostReadError _ => true
  | .linkDown => true
  | .linkUp _ _ _ => true
  | .perst => true
  | .hotReset => true
  | .flr _ => true
  | .d3hotEntry => true
  | .fnEnable _ _ => true
  | .contextStartFresh _ => true
  | .contextReconcile _ _ _ sq cq => sq.length == cq.length && decide (sq.length ≤ 65536)
  | .contextDisable _ => true
  | .doorbellPoll _ _ _ _ => true
  | .doorbellFullScan _ _ => true
  | .descriptorAccept _ _ => true
  | .acceptBatch _ => true
  | .acceptReadbackDone _ => true
  | .jobDispatch _ _ => true
  | .pattern _ => true
  | .setupSequenceMemory _ _ => true
  | .setupTimingSets _ _ => true
  | .setupLaneMaps _ _ => true
  | .setupPinFunctionSets _ _ => true
  | .setupScrambleTable _ _ => true
  | .setupVectorSwitchSelections _ _ => true
  | .setupRegisterImage _ _ => true
  | .setupDeferredWrite _ _ => true
  | .calibrateFullChannel _ => true
  | .calibrateTemperatureUpdate _ => true
  | .calibrateCompareLatency _ _ => true
  | .calibrateDramRetrain _ _ => true
  | .nop _ => true
  | .abort _ => true
  | .pause _ => true
  | .resume _ => true
  | .rearm _ => true
  | .completionCommit _ => true
  | .evciReread _ _ => true
  | .engMapWrite _ _ _ => true
  | .seqModeChange _ _ => true
  | .seqCopyDone _ _ _ => true
  | .seqWindowHold _ _ _ _ _ => true
  | .seqWindowCommit _ _ _ _ => true
  | .seqFillComplete _ _ _ => true
  | .seqSpineFillTimeout _ _ _ => true
  | .preloadDone _ _ => true
  | .cacheInvalidate _ _ => true
  | .cacheInvalidateDone _ => true
  | .engIrqWrite _ _ _ => true
  | .predictorFlush _ _ => true
  | .next _ _ => true
  | .jmp _ _ => true
  | .rep _ _ => true
  | .mwait _ _ => true
  | .halt _ _ => true
  | .haltDrainDone _ => true
  | .pauseOpcode _ _ => true
  | .sync _ _ => true
  | .syncRelease _ _ _ => true
  | .lock _ _ => true
  | .lockResponse _ _ => true
  | .lockRetry _ => true
  | .unlock _ _ => true
  | .save _ _ => true
  | .restore _ _ => true
  | .iret _ _ => true
  | .trap _ _ => true
  | .trace _ _ => true
  | .clrf _ _ => true
  | .br _ _ => true
  | .call _ _ => true
  | .ret _ _ => true
  | .loop _ _ => true
  | .ldc _ _ => true
  | .waitt _ _ => true
  | .illegalEntry _ _ => true
  | .matchWindowResolve _ _ => true
  | .interruptEntry _ _ => true
  | .watchdogExpire _ => true
  | .tableFillDone _ _ _ => true
  | .streamFetchDone _ _ _ _ => true
  | .fvpWordAccept _ _ _ _ => true
  | .fvpFlush _ _ _ => true
  | .vectorTableWrite _ _ _ _ => true
  | .vswSelWrite _ _ _ => true
  | .specResolve _ _ => true
  | .sumpRelease _ _ => true
  | .fabricResultWrite _ _ _ _ _ _ _ => true
  | .fabricWriteRelease _ => true
  | .compareResult _ _ _ _ _ _ => true
  | .ssgEdgeTimeout _ _ _ => true
  | .failEntryDrain _ _ => true
  | .fccEntryAccept _ => true
  | .fccFlush _ _ => true
  | .fccWritebackAck _ _ => true
  | .ffsCtlApply _ _ => true
  | .jobStop _ => true
  | .jobDrainDone _ => true
  | .chnCfgWrite _ _ _ _ => true
  | .modeChangeDone _ => true
  | .tsetWindowHold _ _ _ _ _ => true
  | .tsetCommit _ _ _ _ => true
  | .ssgCfgWrite _ _ _ _ _ => true
  | .sensorSample temps => temps.length == 64
  | .tempRecompute _ => true
  | .calChannelBegin _ _ _ _ => true
  | .calIdleTimeout _ _ => true
  | .calRecordHold _ _ _ _ => true
  | .calRecordCommit _ _ _ => true
  | .dramReadReq _ _ _ _ _ => true
  | .dramWriteReq _ _ _ _ _ => true
  | .dramReadOrWriteReq _ _ _ _ _ => true
  | .dramSchedule _ _ _ _ _ => true
  | .dramReadReturn _ _ _ => true
  | .fspSwitchReq _ _ _ _ => true
  | .fspSwitchDone _ => true
  | .fspRateWrite _ _ _ _ => true
  | .oscCheck _ _ => true
  | .retrainStep _ => true
  | .retrainStepDone _ _ _ => true
  | .dramRemoval _ _ => true
  | .reservedAreaRestore _ => true
  | .selfRefreshEntry _ => true
  | .srEnter _ _ => true
  | .srExit _ _ => true
  | .srExitDone _ _ => true
  | .dramWindowRead _ _ off len => decide (1 ≤ len.val) && decide (off.val % 8 + len.val ≤ 8)
  | .dramWindowWrite _ _ off len _ => decide (1 ≤ len.val) && decide (off.val % 8 + len.val ≤ 8)
  | .dramInitSweep _ => true
  | .bankAccess _ _ _ addr len _ _ => decide (1 ≤ len.val) && decide (addr.val + len.val ≤ 0x2000000)
  | .bankCeWriteback _ => true
  | .bankPwrWrite _ _ _ _ => true
  | .bankPwrDone _ _ => true
  | .coppiceLoanStart _ => true
  | .coppiceSwitchOver _ => true
  | .coppiceTestDone _ _ => true
  | .coppiceSwitchBack _ => true
  | .fcgApply _ _ _ _ => true
  | .fcgRelock _ _ => true
  | .fcgLockLoss _ _ => true
  | .rclkWrite _ _ _ _ => true
  | .bramAccess _ => true
  | .sliceHold _ => true
  | .sliceLoad _ => true
  | .sliceMac _ => true
  | .sliceMsu _ => true
  | .sliceLoadc _ => true
  | .sliceAddc _ => true
  | .sliceMacc _ => true
  | .sliceClr _ => true
  | .neRxStallTimeout _ => true
  | .neFence _ _ _ => true
  | .neReleaseDone _ => true
  | .flashBoot _ _ => true
  | .cfgRingEntry _ _ => true
  | .cfgStreamTimeout => true
  | .flashPrimary _ _ _ => true
  | .flashGolden _ _ _ => true
  | .cfgAbort _ => true
  | .flashCommandTimeout => true
  | .signatureVerified _ => true
  | .segmentWrite _ => true
  | .doneQualified _ => true
  | .startUp _ => true
  | .doneDrop => true
  | .prunerFrameCheck _ _ _ _ _ _ _ => true
  | .prunerCrossCheck _ _ _ _ _ _ => true
  | .prunerScrubStep _ _ => true
  | .nocInject _ _ _ _ _ _ _ _ _ => true
  | .nocEject _ _ _ => true
  | .rd _ _ _ => true
  | .wrReq _ => true
  | .rdS _ _ => true
  | .rdM _ _ => true
  | .atomAcq _ => true
  | .atomRel _ => true
  | .regRd _ => true
  | .regWr _ => true
  | .grant _ => true
  | .ack _ => true
  | .nack _ => true
  | .snpAck _ => true
  | .regData _ => true
  | .snpInv _ _ => true
  | .snpShr _ _ => true
  | .wdata _ _ => true
  | .rdata _ => true
  | .snpData _ => true
  | .snoopTimeout _ _ => true
  | .nocRspTimeout _ _ => true
  | .fenceReq _ _ _ => true
  | .fenceAck _ _ => true
  | .niRelease _ _ => true
  | .routeTableWrite _ _ _ _ => true
  | .linkFailed _ _ _ _ => true
  | .secondRollover _ => true
  | .pairSample _ => true
  | .timebaseStepApply => true
  | .ptpOffset _ => true
  | .gridStepDeferredApply _ => true
  | .holdoverTimeout => true
  | .ptpMasterLost => true
  | .oscRatioWindow => true
  | .tmbModeWrite _ _ => true
  | .tmbIncWrite _ _ => true
  | .timeStepCommit _ _ => true
  | .trunkFrameRx _ len data => decide (len ≤ 2000) && decide (data < 256 ^ len)
  | .evfHalt _ _ _ _ ns => decide (ns.toNat < 1000000000)
  | .evfHaltAction _ => true
  | .evfStart _ _ _ _ ns _ => decide (ns.toNat < 1000000000)
  | .evfSync _ _ _ _ ns => decide (ns.toNat < 1000000000)
  | .triggerArm _ _ _ => true
  | .triggerPeriodicWrite _ _ _ _ => true
  | .triggerFire _ _ => true
  | .trigOutPulseEnd _ _ => true
  | .launchFrameSend _ _ _ _ _ => true
  | .startComparatorFire _ _ => true
  | .alignedStart _ _ => true
  | .trigInEdge _ _ _ => true
  | .heartbeat _ => true
  | .engineFault _ _ => true
  | .channelGroupFault _ => true
  | .vccChFail => true
  | .gateDrop _ _ => true
  | .reinstate _ _ => true
  | .reinstateDone _ => true
  | .substitutionDrainDone _ => true
  | .substitutionRestart _ => true
  | .echoSend _ => true
  | .echoPeriodCheck _ _ _ => true
  | .echoRx _ => true
  | .custodyClaim _ => true
  | .custodyAdvance _ _ _ => true
  | .advanceRetry _ _ _ => true
  | .commitUnitWrite _ => true
  | .custodyReconcile _ => true
  | .snpFire _ => true
  | .snapInEdge => true
  | .snapDeliver => true
  | .snpRelease _ => true
  | .wearHour _ _ ages => ages.length == 16
  | .powerOnReset => true
  | .resetN => true
  | .softwareDeviceReset _ _ _ _ => true
  | .resetRelease _ => true
  | .fwBootFlash _ _ _ _ => true
  | .fwLoadGo _ => true
  | .fwVerifyDone => true
  | .fwEastVerifyDone _ => true
  | .selftestDone t => t.geom.length == 8 && decide (t.monitor.length ≤ 1024) && decide (t.ms < 4096)
  | .selftestRefclkTimeout => true
  | .fuseArm _ _ => true
  | .fuseArmLapse => true
  | .fuseProgram _ _ _ => true
  | .attestReq _ => true
  | .attestDone _ => true
  | .avsStep _ _ => true
  | .hjelzLineReset => true
  | .hjelzRead _ slow => match slow with | some k => decide (k < 256) | none => true
  | .hjelzWrite _ => true
  | .hjelzWriteData data _ _ => 1 ≤ data.length && data.length ≤ 256
  | .hjelzAccessTimeout => true
  | .hjelzPacketGap => true
  | .challenge => true
  | .verify => true
  | .authVerifyDone => true
  | .logout => true
  | .dbgHalt _ => true
  | .dbgResume _ => true
  | .dbgStep _ => true
  | .dbgForce _ => true
  | .monitorEntry _ _ => true
  | .debugLockDefer _ => true
  | .stimulusWrite _ _ _ size _ => decide (1 ≤ size.val)
  | .traceClr _ _ => true
  | .pinFuncWrite _ _ _ => true
  | .pinSwitchComplete _ => true
  | .gppHoldWrite _ _ => true
  | .vccioLevelChange _ _ => true
  | .adcConvert _ _ _ => true
  | .d3hotExit => true
  | .ppsOutEnd => true
  | .snapOutEnd => true
  | .hostConfigReady => true
  | .pcsBlockLockChange _ _ => true
  | .hjelzHeaderRefused _ => true
  | .dramRefresh _ _ _ _ => true
  | .regionalLineEdge _ _ _ => true
  | .vccChValid => true

end Sys2Proof
end

