-- ==== Sys2Proof/Tests/Slice0.lean ====
section
/-! SUPPORT. Tests: the commands that WellFormed refuses, the words of the rule's own examples, and for every statement a
concrete state and operands that meet its hypotheses, clause by clause. -/

namespace Sys2Proof.Tests

set_option Elab.async false
open Sys2Proof Sys2Proof.Machine

/-- The physical function. -/
def pf : Req := .fn 0

/-- The device in service, everything else as after reset. -/
def live : State := { State.reset.wr F.GLB_STATE.STATE 7 with por := false, drives := true }

/-- The device in a given state of GLB_STATE. -/
def inState (n : Nat) : State := { State.reset.wr F.GLB_STATE.STATE n with por := false }

/-- An APPLY with ALIGN_SRC k is pending in half 1. -/
def applying (k : Nat) : State :=
  ((live.setOn (F.GLB_ECLK_CTL.APPLY 1)).wr (F.GLB_ECLK_CTL.ALIGN_SRC 1) k).updClk 1 (fun c => { c with waiting := true })

/-- REFCLK is absent. -/
def noRef : State := live.updTime (fun t => { t with refLost := true })

/-- In service with a lantern holder, the link up, function 0 and context 63 enabled. -/
def up : State :=
  (((live.setOn F.SUP_STAT.LANTERN_VALID).setOn F.HIF_LINK_STAT.UP).setOn (F.HIF_FN_CFG.EN 0)).setOn (F.HIF_CTX_CFG.EN 63)

/-- A descriptor from bit positions and values. -/
def dsc (l : List (Nat × Nat)) : Desc := BitVec.ofNat 512 ((l.map (fun e => e.2 * 2 ^ e.1)).foldl (· + ·) 0)

/-- A permitted job with sequence number 1 at a phase of its life. -/
def job (ph : JobPhase) (l : List (Nat × Nat)) : Job := { Job.fresh 1 (dsc ((0, 1) :: l)) 0 with permitted := true, phase := ph }

/-- Context 63 holds one job. -/
def withJob (s : State) (j : Job) : State := s.updCtx 63 (fun c => { c with jobs := [j] })
def atJob (ph : JobPhase) (l : List (Nat × Nat)) : State := withJob up (job ph l)

/-- Channel 255 takes its vectors from a running logical engine of its half. -/
def busyChan : State := ((up.setOn (F.VSW_SEL.EN 1 127)).wr (F.VSW_SEL.SRC 1 127) 47).wr (F.ENG_STAT.STATE 102) stRun

/-- Context 63 holds a job and behind it a control descriptor of type ty for sequence number t. -/
def withCtl (s : State) (k : Job) (ty t : Nat) : State :=
  s.updCtx 63 (fun c => { c with jobs := [k, { Job.fresh 2 (dsc [(0, 2), (64, ty), (128, t)]) 0 with permitted := true }] })

/-- Slot n runs the job at the front of context 63 as a gang of its own. -/
def onSlot (s : State) (n st : Nat) (f : Engine → Engine) : State :=
  (s.wr (F.ENG_STAT.STATE n) st).updEng n (fun e => f { e with ctx := some 63, leader := n })
def runJob : State := onSlot (atJob .running [(64, 2), (128, 95), (135, 1)]) 102 stRun id

/-- A speculated branch that waits for its result. -/
def aBranch : Branch :=
  { isBr := true, tag := 0, pc := 0, scnd := 2, win := 0, last := 0, taken := true, loopIsTaken := true, other := 0, dep := false,
    chk := none, after := 1, effect := false }

/-- A sequence entry from SOP, SCND, SARG and the bits below. -/
def ent (sop scnd sarg : Nat) (rest : Nat := 0) : Entry := BitVec.ofNat 128 (sop * 2 ^ 122 + scnd * 2 ^ 118 + sarg * 2 ^ 101 + rest)

/-- Slot 102 runs alone, with the entry x at its address 0 in D and its line in the cache. -/
def inD (x : Entry) (f : Engine → Engine := id) : State :=
  { runJob with seqMem := Table.set 0 (Table.set 0 [] 0 x) 0x20000 x }.updEng 102 (fun e => f { e with cache := [(0, 1)] })

/-- The hypothesis of the statements on entries: the entry in D of slot 102 may enter, with this opcode. -/
def enters (s : State) (o : Op) : Bool :=
  s.running 102 && !(s.eng 102).wait.standing && !s.irqBlocks 102 && s.holdOf 102 == .go && eOp (s.entryAt 102) == o &&
  !s.illegalAt 102 && !codeReserved (s.entryAt 102) && !s.portNotPaced 102 (s.entryAt 102) &&
  (s.gang 102).all (fun m => !s.wordBad m (s.entryAt 102))

/-- No hold is in force in slot 102. -/
def noHold (s : State) : Bool := s.rd (F.ENG_STAT.STALL 102) == 0 && (s.eng 102).wait == .none

/-- A vector of window 1 that awaits the results of some channels. -/
def aVec (w : List Nat) : Vec :=
  { cyc := 0, clk := 0, pc := 0, entry := 0, x := 0, y := 0, xs := 0, d := 0, ports := [], win := 1, tag := none, wait := w, res := [],
    failed := false, sump := [], fres := [], fails := [] }

/-- Window 1 holds a vector. -/
def winOpen (w : List Nat) (e : Engine) : Engine := { e with winLast := [(1, 1)], vecs := [aVec w] }

/-- In the handler. -/
def inHand (s : State) : State := s.setOn (F.ENG_STAT.IN_HANDLER 102)

/-- A log-mode capture configuration, a job that has slot 102 as its engine, and a fail entry of it in bay 7. -/
def aCap : CapCfg := { mode := 2, gran := 0, ovf := 0, xscr := 0, xb := 0, yb := 0, wlog := 0, laneBase := 0, slog := 0, base := 0, lim := 64 }
def anEng : JobEng :=
  { le := 95, slot := 102, spared := false, retired := 0, fails := 0, cycles := 0, logged := 0, dropped := 0, hold := 0,
    dropBefore := false, cap := aCap }
def anEnt : FailEnt :=
  { ctx := 63, le := 95, slot := 102, isCap := false, site := 0, chs := [(255, 1)], x := 0, y := 0, xs := 0, pc := 0, cyc := 0, prov := false }
def failJob : State := onSlot (withJob up { job .running [(64, 2), (128, 95), (135, 1)] with engs := [anEng] }) 102 stRun id

/-- Channel 255 compares for slot 102, which has issued a vector that awaits it. -/
def comparing : State :=
  let s := ((failJob.setOn (F.VSW_SEL.EN 1 127)).wr (F.VSW_SEL.SRC 1 127) 47).setOn (F.VSW_SEL.MATCH 1 127)
  { s with fsets := Memory.write s.fsets (102 * 256) 2 }.updEng 102 (fun e => { e with vecs := [aVec [255]], clock := 10 })

/-- The first clock of East's generator 0 runs, which clocks its ports, streams and endpoints with CLKSEL 0; endpoint 63 is enabled. -/
def clocked (s : State) : State :=
  (((s.setOn (F.FAB_FCG_CFG.EN 1 0)).setOn (F.FAB_FCG_STAT.LOCKED 1 0)).setOn (F.FAB_NE_CFG.EN 63)).updFcg 1 0 (fun f => { f with div := 1 })

/-- East's DRAM runs in full with the smallest geometry. -/
def withDram (s : State) : State :=
  ([4, 5, 6, 7].foldl (fun s n => (s.wr (F.DMC_GEOM.CAP n) 4).wr (F.DMC_STAT.STATE n) 2) s).wr (F.DMC_HALF.NIF 1) 4

/-- The stream word of slot 102 that its entry names can be had. -/
def streamOk (s : State) : Bool :=
  let l := s.streamAt 102 102 / 64 * 64
  let d := s.dmc (s.dramIf 1 l)
  s.dramRuns 1 l && decide (l + 64 ≤ s.usable 1) && !s.poisoned 1 l && d.q.isEmpty && d.held.isEmpty

/-- Port 7 of East is paced by a logical engine that runs. -/
def pacing : State := (up.wr (F.VSW_PORT_CFG.PACER 1 7) 47).wr (F.ENG_STAT.STATE 102) stRun

/-- Half 1 has its four interfaces of DRAM in RUN. -/
def dramUp : State :=
  ((live.wr (F.DMC_GEOM.CAP 4) 4).wr (F.DMC_HALF.NIF 1) 4).each [4, 5, 6, 7] (fun s i => ((s.wr (F.DMC_STAT.STATE i) 2).setOn (F.DMC_STAT.IN_INTLV i)).wr (F.DMC_FSP.VALID i 1) 1)

/-- Pin p's assignment in effect names the peripheral signal v, and its bank has a supply. -/
def asSig (s : State) (p v : Nat) : State :=
  (((s.updPin p (fun x => { x with causes := 0 })).wr (F.GPP_PIN.FUNC p) 3).wr (F.GPP_PIN.SIG p) v).wr (F.GPP_BANK.LEVEL (p / 24)) 1

theorem witness_PairReadReturnsLatchedHighWord : ([
    !live.por && (regAt 0x2600008).any (fun p => p.def_.wide && p.addr == 0x2600008) && live.mayRead pf 0x2600008,
    (regAt 0x260000C).any (fun p => p.def_.wide && p.addr != 0x260000C) && live.mayRead (.sup 1) 0x260000C] : List Bool).all id = true := by
  decide +kernel

theorem witness_PairWriteCommitsAllBits : ([
    (regAt 0x101004).any (fun p => p.def_.wide && p.addr == 0x101004 && live.pairOpen p && p.def_.name != .DMC_EADDR) && live.mayWriteAt pf 0x101004,
    (regAt 0x101008).any (fun p => p.def_.wide && p.addr != 0x101008 && live.pairOpen p && p.def_.name != .DMC_EADDR &&
      p.def_.name != .GLB_ECLK_FW && p.def_.name != .TMB_INC) && live.mayWriteAt pf 0x101008] : List Bool).all id = true := by
  decide +kernel

theorem witness_PlainWriteFollowsAccessTypes : ([
    (regAt 0x2600020).any (fun p => !p.def_.wide && plainRegs.contains p.def_.name) && live.mayWriteAt pf 0x2600020] : List Bool).all id = true := by
  decide +kernel

theorem witness_ReadClearsReadToClearFields : ([
    (regAt 0x5A0004).any (fun p => !p.def_.wide && p.def_.fields.any (fun f => f.acc == .rc) &&
      !([.GPP_PIN, .TMB_NOW_FRAC, .TMB_NOW_NS] : List RegName).contains p.def_.name) && live.mayRead pf 0x5A0004,
    !isPairLo 0x5A0004 && !isPairHi 0x5A0004 && !(inState 1).mayRead pf 0x5A0004 && !(inState 1).por] : List Bool).all id = true := by
  decide +kernel

theorem witness_WritesWithoutAccessChangeNothing : ([
    !(inState 1).mayWriteAt pf 0x10 && !(inState 1).mayWriteAt (.fn 32) 0x3FFFFFC,
    !(inState 1).mayWrite pf .glb && !(inState 6).mayWrite pf .eng (some 1) && !(inState 3).mayWrite .port .tmb && !(inState 2).mayWrite (.fn 1) .bnk (some 0) && !live.mayWrite (.fn 1) .glb (some 1)] : List Bool).all id = true := by
  decide +kernel

theorem witness_BehaviourLevelAndEclkApplyAnswerTheWriter : ([
    live.mayWrite pf .glb && (List.range 64).all (fun n => !live.on (F.HIF_CTX_CFG.EN n)) && decide (1 ≤ live.rd F.GLB_BEHAVIOUR.MAX),
    live.mayWrite pf .glb && decide (live.rd F.GLB_BEHAVIOUR.MAX < 15),
    (live.setOn (F.HIF_CTX_CFG.EN 63)).on (F.HIF_CTX_CFG.EN 63) && (live.setOn (F.HIF_CTX_CFG.EN 63)).mayWrite pf .glb,
    !live.on (F.GLB_ECLK_CTL.APPLY 1) && live.halfAtRest 1 && live.mayWrite pf .glb (some 1),
    !(live.wr (F.ENG_STAT.STATE 103) 3).halfAtRest 1 && (live.wr (F.ENG_STAT.STATE 103) 3).mayWrite pf .glb (some 1),
    (applying 1).abandonable 1 && (applying 1).mayWrite pf .glb (some 1) && !live.abandonable 0] : List Bool).all id = true := by
  decide +kernel

theorem witness_EclkRealignsPausesAndRelocks : ([
    (applying 0).applyPending 1 && (applying 0).alignMoment 1,
    (live.setOn (F.GLB_ECLK_CTL.EN 0)).on (F.GLB_ECLK_CTL.EN 0) && !live.on (F.GLB_ECLK_CTL.LOCKED 0) && !(live.clk 0).stopped && !live.time.refLost,
    let s := (live.setOn (F.GLB_ECLK_CTL.EN 0)).updClk 0 (fun c => { c with gated := true }); s.on (F.GLB_ECLK_CTL.EN 0) && !s.on (F.GLB_ECLK_CTL.LOCKED 0) && !(s.clk 0).stopped && !s.time.refLost &&
      (s.clk 0).gated && !s.applyPending 0] : List Bool).all id = true := by
  decide +kernel

theorem witness_RefclkLossAndReturn : ([
    !live.time.refLost && !live.swinc,
    !live.time.refLost && (live.updTime (fun t => { t with mode := 2 })).swinc,
    noRef.time.refLost && decide (noRef.holder < 2)] : List Bool).all id = true := by
  decide +kernel

theorem witness_ControlActionsAreOrderedAndFencesCancel : ([
    State.reset.por && !live.accepts (.slot 103) .data,
    !live.por && live.accepts (.slot 103) .bay && live.actions (.slot 103) == [] && live.accepts (.group 31) (.sup 1)] : List Bool).all id = true := by
  decide +kernel

theorem witness_HostLinkAndResetsStopWhatTheyMust : ([
    (32 : Fin 33) != 0 && (up.wr (F.HIF_CTX_CFG.FN 63) 32).ownerFn 63 == 32] : List Bool).all id = true := by
  decide +kernel

theorem witness_FunctionsAndContextsStartAsTheirRulesSay : ([
    live.inService && !live.on (F.HIF_FN_CFG.EN 32),
    up.inService && up.served && !up.on (F.HIF_CTX_CFG.EN 62) && !up.on (F.HIF_CTX_CFG.RECONCILE 62) && decide (up.holder < 2) &&
      up.linkUp && up.heldOut == [] && (up.sup up.holder).epoch == up.rd F.SUP_CUST_EPOCH.CUR,
    (up.setOn (F.HIF_CTX_CFG.RECONCILE 62)).on (F.HIF_CTX_CFG.RECONCILE 62) && (up.setOn (F.HIF_CTX_CFG.RECONCILE 62)).served &&
      !up.on (F.HIF_CTX_CFG.EN 62) && ledgerOk (ledgerWord 5 3 1 1)] : List Bool).all id = true := by
  decide +kernel

theorem witness_DoorbellsFetchAndAcceptInSequence : ([
    up.polls 0 && up.dbServed 0 63 && bits (2 : Nat) 32 16 == up.rd (F.HIF_CTX_GEN.GEN 63) &&
      decide ((2 + 2 ^ 33 - 1 - up.rd (F.HIF_CTX_CMP.CMP 63) % 2 ^ 32) % 2 ^ 32 ≤ up.ringN 63),
    up.polls 0 && up.dbServed 0 63 && bits (2 + 2 ^ 32 : Nat) 32 16 != up.rd (F.HIF_CTX_GEN.GEN 63),
    (up.updFn 0 (fun f => { f with polls := 64 })).polls 0 && decide (64 ≤ ((up.updFn 0 (fun f => { f with polls := 64 })).fn 0).polls),
    up.takesNew 63 && ((up.updFn 0 (fun f => { f with fetchQ := [(63, 1)] })).fn (up.ownerFn 63)).fetchQ == [(63, 1)] &&
      dSeq (dsc [(0, 1)]) == up.rd (F.HIF_CTX_ACC.ACC 63) + (up.ctx 63).batch.length + 1 &&
      dSeq (dsc [(0, 2)]) != up.rd (F.HIF_CTX_ACC.ACC 63) + (up.ctx 63).batch.length + 1,
    decide (15 ≤ ((up.updCtx 63 (fun c => { c with mism := 15 })).ctx 63).mism) && (up.updCtx 63 (fun c => { c with mism := 15 })).takesNew 63,
    let s := up.updCtx 63 (fun c => { c with batch := [job .queued [(64, 4)]] }); s.takesNew 63 && s.ringUp 63 && (s.ctx 63).batch != [] && (s.ctx 63).jobs.all (·.permitted)] : List Bool).all id = true := by
  decide +kernel

theorem witness_JobsDispatchPatternsStartTheirEngines : ([
    let s := atJob .queued [(64, 4)]; (s.front 63).any (fun j => j.phase == .queued && j.permitted && j.reject == 0 && !j.aborted && !j.held &&
      !isCtl (dType j.desc) && j.status == none && j.crc == crc32c 64 (dsc [(0, 1), (64, 4)]).toNat && j.crc != crc32c 64 0) && s.ringUp 63 &&
      !(s.ctx 63).jobs.any (·.ctlDue) && !s.on F.ENG_SEQ_CTL.BUSY && [0, 1].all (fun h => !s.eclkWaits h),
    let j := job .dispatched [(64, 2), (128, 95), (135, 1), (320, 1)]; let s := withJob up j; s.atWork 63 2 .dispatched == some j &&
      !dStartAt j.desc && jobLes j.desc == [95] && s.slotOf 95 == some 102 && s.slotState 102 == stIdle &&
      !s.on (F.DBG_ENG_STAT.ARMED 102) && !s.capBad 102 95 && (s.chansOfLes [95]).all (fun c => !s.on (F.CHN_STAT.FENCED c) && !s.on (F.CHN_STAT.RATE_ERR c)) &&
      dLeFirst j.desc % 2 ^ dGang j.desc == 0 && dLeCount j.desc % 2 ^ dGang j.desc == 0 &&
      !s.patternWaits j.desc && !resReserved j.desc && decide (64 + 32 * ((s.chansOfLes [95]).length + 1) ≤ dResSize j.desc),
    let j := job .dispatched [(64, 2), (128, 95), (135, 1)]; let s := ((withJob up j).wr (F.ENG_STAT.STATE 102) stFenced).clr F.SUP_CTL.SPARE_EN;
      s.atWork 63 2 .dispatched == some j && j.status == none && s.slotState 102 == stFenced && s.slotOf 95 == some 102 && !s.spareComes 102,
    let s := atJob .dispatched [(64, 4)]; (s.atWork 63 4 .dispatched).any (fun j => j.status == none)] : List Bool).all id = true := by
  decide +kernel

theorem witness_SetupJobsWriteTheirTables : ([
    let j := job .dispatched [(64, 1), (128, 3), (160, 0x1FBFF0), (192, 16)]; (withJob up j).setupAt 63 .dispatched [1, 2, 3] == some j &&
      dTable j.desc == 3 && decide (dOffset j.desc + dLen j.desc ≤ 0x200000) && dOffset j.desc % 16 == 0 && j.status == none,
    let j := job .dispatched [(64, 1), (128, 4), (136, 255), (192, 32)]; (withJob up j).setupAt 63 .dispatched [4] == some j &&
      (withJob up j).chIdle 255 && !(withJob busyChan j).chIdle 255 && (withJob busyChan j).setupAt 63 .dispatched [4] == some j,
    [5, 6, 7].all (fun t => let j := job .dispatched [(64, 1), (128, t), (136, 103), (192, 32)];
      (withJob up j).setupAt 63 .dispatched [t] == some j && (withJob up j).atRest (dInst j.desc)),
    let j := job .dispatched [(64, 1), (128, 8), (136, 1), (160, 508), (192, 4)]; (withJob up j).setupAt 63 .dispatched [8] == some j &&
      (withJob up j).setupReady j.desc 0 && decide (dInst j.desc < 2) && decide (dOffset j.desc + dLen j.desc ≤ 512) && dOffset j.desc % 4 == 0,
    let j := job .running [(64, 1), (128, 4), (136, 255), (192, 32)]; (withJob up j).setupAt 63 .running [4, 5, 6, 7, 8] == some j &&
      dTable j.desc == 4 && (withJob up j).chIdle 255,
    let j := job .dispatched [(64, 1), (128, 9), (192, 8)]; (withJob up j).setupAt 63 .dispatched [9] == some j] : List Bool).all id = true := by
  decide +kernel

theorem witness_CalibrateJobsMeasureAndReport : ([
    let j := job .dispatched [(64, 3), (128, 1), (136, 255), (144, 1)]; let s := withJob up j; s.atWork 63 3 .dispatched == some j &&
      !resReserved j.desc && dKind j.desc == 1 && calItems j.desc == [255] && !s.calOut 255,
    let j := job .dispatched [(64, 3), (128, 2), (136, 255), (144, 1)]; let s := withJob up j; s.atWork 63 3 .dispatched == some j &&
      !resReserved j.desc && dKind j.desc == 2 && decide (0 < dCount j.desc) && !s.calOut 255 && !s.sensBad (s.calRec 255).sens &&
      !s.on (F.CHN_CAL_CTL.HOLD (bayOfChan 255)) && s.chIdle 255,
    let j := job .dispatched [(64, 3), (128, 3), (136, 102), (144, 1)]; let s := ((withJob busyChan j).setOn (F.VSW_SEL.MATCH 1 127)).wr (F.ENG_STAT.STATE 102) stIdle;
      s.atWork 63 3 .dispatched == some j && !resReserved j.desc && dKind j.desc == 3 && calItems j.desc == [102] && s.atRest 102 &&
      [0, 1].all (fun h => !s.eclkWaits h) && (s.fedBy 102).any (fun c => s.selPort c == none && s.on (F.VSW_SEL.MATCH (selH c) (selC c))),
    let j := job .dispatched [(64, 3), (128, 4), (136, 7), (144, 1)]; let s := ((withJob up j).setOn (F.DMC_STAT.IN_INTLV 7)).wr (F.DMC_STAT.STATE 7) 2;
      s.atWork 63 3 .dispatched == some j && !resReserved j.desc && dKind j.desc == 4 && calItems j.desc == [7] && s.on (F.DMC_STAT.IN_INTLV 7) && s.rd (F.DMC_STAT.STATE 7) == 2 && !(s.dmc 7).entering,
    let s := atJob .running [(64, 3), (128, 1), (136, 255), (144, 1)]; s.calNext 63 (bayOfChan 255) == some 255 && s.chIdle 255 && !s.calOut 255 &&
      !s.sensBad (s.calRec 255).sens && ([4096, 268435456, 4096, 4096] : List Int).all (fun a => decide (0 ≤ 65536 - roundConv a 4096) && decide (65536 - roundConv a 4096 < 65536))
      && ([none] : List (Option Int)).getD 0 none == none,
    let s := withJob busyChan (job .running [(64, 3), (128, 1), (136, 255), (144, 1)]); s.calNext 63 (bayOfChan 255) == some 255 && !s.chIdle 255] : List Bool).all id = true := by
  decide +kernel

theorem witness_ControlDescriptorsActOnTheirTarget : ([
    let s := withCtl up (job .queued [(64, 2)]) 0x10 1; (s.dueCtl 63 0x10).any (fun j => s.jobOf 63 j.seq == some j && dTarget j.desc != j.seq &&
      (s.ctlTarget 63 j).any (fun k => k.phase == .queued)),
    let s := withCtl runJob (job .running [(64, 2), (128, 95), (135, 1)]) 0x10 1; (s.dueCtl 63 0x10).any (fun j =>
      s.ctlTarget 63 j == s.front 63 && s.jobOf 63 j.seq == some j) && (s.front 63).any (fun k => k.phase == .running && dType k.desc == 2 && !k.restart && k.status == none) && !s.allHalted 63,
    let s := withCtl up (job .queued [(64, 2)]) 0x10 0; (s.dueCtl 63 0x10).any (fun j => s.jobOf 63 j.seq == some j && dTarget j.desc != j.seq && s.ctlTarget 63 j == none),
    let s := withCtl up (job .queued [(64, 2)]) 0x11 1; (s.dueCtl 63 0x11).any (fun j => (s.ctlTarget 63 j).any (fun k => k.phase == .queued && !k.held)),
    let s := withCtl up (job .dispatched [(64, 2)]) 0x11 1; (s.dueCtl 63 0x11).any (fun j => (s.ctlTarget 63 j).any (fun k => k.phase == .dispatched && k.unstarted && !k.held)),
    let s := withCtl runJob (job .running [(64, 2), (128, 95), (135, 1)]) 0x11 1; (s.dueCtl 63 0x11).any (fun j =>
      s.ctlTarget 63 j == s.front 63) && (s.front 63).any (fun k => k.phase == .running && !k.paused && k.status == none) && !s.allHalted 63 &&
      !s.branchesOut 102 && s.slotState 102 == stRun && !(s.eng 102).halted && !(s.eng 102).stopped,
    let s := (withCtl runJob (job .running [(64, 2), (128, 95), (135, 1)]) 0x11 1).updEng 102 (fun e => { e with brs := [aBranch] });
      s.branchesOut 102 && (s.dueCtl 63 0x11).isSome && !s.allHalted 63,
    let s := withCtl up { job .queued [(64, 2)] with held := true } 0x12 1; (s.dueCtl 63 0x12).any (fun j => (s.ctlTarget 63 j).any (fun k => k.phase == .queued && k.held)),
    let s := (withCtl runJob { job .running [(64, 2), (128, 95), (135, 1)] with paused := true } 0x12 1).wr (F.ENG_STAT.STATE 102) stPaused;
      let s := s.updEng 102 (fun e => { e with resume := stRun });
      (s.dueCtl 63 0x12).any (fun j => s.ctlTarget 63 j == s.front 63) && (s.front 63).any (fun k => k.paused && k.phase == .running) && s.slotState 102 == stPaused,
    let s := withCtl up (job .queued [(64, 2)]) 0x13 1; (s.dueCtl 63 0x13).any (fun j => (s.ctlTarget 63 j).any (fun k => k.phase == .queued))] : List Bool).all id = true := by
  decide +kernel

theorem witness_CompletionsAndEventsReachTheHostInOrder : ([
    let s := withJob up { job .done [(64, 4)] with status := some 0 }; (s.front 63).any (fun j => j.outcome == some (0, 0)) && s.served && s.ctxLive 63 &&
      s.linkUp && s.heldOut == [] && (s.sup s.holder).epoch == s.rd F.SUP_CUST_EPOCH.CUR && !(s.sup s.holder).recon &&
      (s.front 63).any (fun j => !(dResDev j.desc && s.dramUnacked (dResBase j.desc / 2 ^ 36 % 2) (dResBase j.desc % 2 ^ 36) (dResSize j.desc))),
    let s := up.updFn 32 (fun f => { f with waiting := [⟨none, 6, 0, 0, 0⟩], p := 2 ^ 32 - 1 }); (s.fn 32).dropped == 0 && (s.fn 32).waiting.length == 1 &&
      decide (s.evSize 32 - 1 ≤ ((s.fn 32).p + 2 ^ 32 - 0) % 2 ^ 32) && (up.fn 32).waiting == [],
    up.on (F.HIF_FN_CFG.EN 0) && up.on (F.HIF_CTX_CFG.EN 63) && !up.on (F.HIF_CTX_CFG.HALTED 63),
    let s := atJob .dispatched [(64, 1)]; (s.atWork 63 1 .dispatched).any (fun j => j.status == none),
    let s := atJob .dispatched [(64, 1), (128, 4), (136, 255), (192, 64)]; (s.atWork 63 1 .dispatched).any (fun j => j.status == none && dTable j.desc == 4 && s.chIdle (dInst j.desc))] : List Bool).all id = true := by
  decide +kernel

theorem witness_SequenceMemoryAndSpareMapWritesKeepTheirRules : ([
    live.mayWrite pf .eng && live.mayWrite pf .eng (some 1) && live.halfAtRest (halfOfSlot 103) && (0x5F : Nat) / 48 == halfOfSlot 103 && live.halfAtRest 0 && !live.on F.ENG_SEQ_CTL.BUSY,
    !busyChan.halfAtRest (halfOfSlot 103) && busyChan.mayWrite pf .eng (some 1) && busyChan.mayWrite pf .eng,
    let s := live.setOn F.ENG_SEQ_CTL.BUSY; s.on F.ENG_SEQ_CTL.BUSY && s.seqUnread == [] && s.canonical && s.mayWrite pf .engWin (some 1),
    live.mayWrite pf .engWin (some 1) && !live.on F.ENG_SEQ_CTL.BUSY && !inMonArea 0x1FBFF && inMonArea 0x1FC00 && live.mirror && !(live.setOn F.ENG_SEQ_CTL.SPLIT).mirror] : List Bool).all id = true := by
  decide +kernel

theorem witness_CachesFillPreloadAndInvalidate : ([
    let s := runJob.updEng 102 (fun e => { e with wait := .miss }); s.missing? 102 && s.seqUnread == [] && s.mirror && (s.eng 102).ctx == some 63 && (s.front 63).any (fun j => j.status == none),
    let s := (runJob.updEng 102 (fun e => { e with wait := .miss })).setOn F.ENG_SEQ_CTL.SPLIT; s.missing? 102 && !s.mirror && s.seqUnread == [],
    let s := runJob.wr (F.ENG_STAT.STATE 102) stPreload; (s.eng 102).ctx == some 63 && s.slotState 102 == stPreload && (s.eng 102).leader == 102 &&
      !(s.eng 102).stopped && !(s.eng 102).startAt && !(s.eng 102).late && s.gang 102 == [102],
    live.mayWrite pf .eng (some 1) && live.atRest 103 && runJob.mayWrite pf .eng (some 1) && !runJob.atRest 102,
    (live.setOn (F.ENG_CTL.CACHE_INV 103)).on (F.ENG_CTL.CACHE_INV 103)] : List Bool).all id = true := by
  decide +kernel

theorem witness_PlainEntriesIssueAndContinue : ([
    enters (inD (ent 0 0 0)) .next && ((inD (ent 0 0 0)).eng 102).iretDs == 0,
    enters (inD (ent 55 0 0)) .ldc && eK ((inD (ent 55 0 0)).entryAt 102) == 7,
    enters (inD (ent 14 0 0)) .clrf,
    let s := ((((inD (ent 13 0 31)).setOn (F.DBG_ENG_CTL.TRC_EN 102)).wr (F.DBG_ENG_STIM.EN 102) (2 ^ 31)).wr (F.DBG_TRC_CTL.DEST 1) 2);
      enters s .trace && s.on (F.DBG_ENG_CTL.TRC_EN 102) && bit (s.rd (F.DBG_ENG_STIM.EN 102)) (eSarg (s.entryAt 102) % 32) &&
      s.rd (F.DBG_TRC_CTL.DEST 1) == 2 && (s.trc 1).lost == 0] : List Bool).all id = true := by
  decide +kernel

theorem witness_TransfersRunTwoDelaySlots : ([
    enters (inD (ent 1 0 0x1FBFF)) .jmp && enters (inD (ent 47 0 0)) .loop && enters (inD (ent 2 0 1)) .rep,
    enters (inD (ent 16 0 9)) .br && enters (inD (ent 24 0 9)) .call && (inD (ent 24 0 9)).condVal 102 0 0 0 && enters (inD (ent 24 5 9) (fun e => { e with cnt := [(0, 1)] })) .call &&
      !(inD (ent 24 5 9) (fun e => { e with cnt := [(0, 1)] })).condVal 102 5 0 0,
    let s := inD (ent 24 0 9) (fun e => { e with stk := List.replicate 16 0 }); enters s .call && decide (16 ≤ (s.eng 102).stk.length) && s.condVal 102 0 0 0,
    let s := inD (ent 24 0 9) (fun e => { e with stk := List.replicate 15 0 }); enters s .call && decide ((s.eng 102).stk.length < 16),
    enters (inD (ent 32 0 0)) .ret && ((inD (ent 32 0 0)).eng 102).stk == [] && enters (inD (ent 32 0 0) (fun e => { e with stk := [5] })) .ret &&
      enters (inD (ent 32 5 0) (fun e => { e with cnt := [(0, 1)] })) .ret,
    let s := inD (ent 16 2 0) (fun e => { winOpen [] e with clock := 200 }); enters s .br && !s.winEmpty 102 (s.eng 102).win && noHold s && !(s.eng 102).spec && s.winReady 102 1,
    let s := inD (ent 16 3 0) (winOpen [255]); enters s .br && !s.winEmpty 102 (s.eng 102).win && noHold s && !(s.eng 102).spec && !s.winReady 102 1,
    let s := inD (ent 16 2 0) (fun e => { winOpen [255] e with spec := true }); enters s .br && !s.winEmpty 102 1 && noHold s && (s.eng 102).spec &&
      decide (eSarg (s.entryAt 102) ≤ s.pc 102) && ((s.eng 102).predAt 0).predictsLoop 0 (((s.eng 102).predAt 0).run + (s.eng 102).loopsOut 0)] : List Bool).all id = true := by
  decide +kernel

theorem witness_WaitsHaltsAndPausesHoldTheGang : ([
    enters (inD (ent 3 0 0)) .mwait && noHold (inD (ent 3 0 0)) && (inD (ent 3 0 0)).winEmpty 102 1,
    let s := inD (ent 3 0 0) (winOpen [255]); enters s .mwait && noHold s && !s.winEmpty 102 1 && !(s.eng 102).spec && !s.winReady 102 1,
    enters (inD (ent 4 0 0)) .halt && (inD (ent 4 0 0)).condVal 102 0 0 0 && enters (inD (ent 4 5 0) (fun e => { e with cnt := [(0, 1)] })) .halt &&
      !(inD (ent 4 5 0) (fun e => { e with cnt := [(0, 1)] })).condVal 102 5 0 0,
    enters (inD (ent 5 0 0)) .pause && enters (inD (ent 5 5 0) (fun e => { e with cnt := [(0, 1)] })) .pause,
    let s := inD (ent 4 0 0) (fun e => { e with wait := .halt }); (s.eng 102).wait == .halt && (s.eng 102).brs == [] && s.gang 102 == [102] && (s.eng 102).sump == [] && (s.eng 102).vecs == [],
    let s := inD (ent 3 0 0) (fun e => { winOpen [] e with wait := .cond }); s.running 102 && (s.eng 102).wait == .cond && (s.eng 102).brs == [] &&
      (s.waitedAt 102 (s.entryAt 102)).isSome && !s.illegalAt 102 && !s.inMon 102 && eOp (s.entryAt 102) == .mwait,
    let s := inD (ent 16 2 0) (fun e => { winOpen [] e with wait := .cond }); s.running 102 && (s.waitedAt 102 (s.entryAt 102)).isSome && !s.illegalAt 102 &&
      eOp (s.entryAt 102) == .br && !s.winEmpty 102 (s.eng 102).win] : List Bool).all id = true := by
  decide +kernel

theorem witness_BarriersSemaphoresAndTriggersHoldAndRelease : ([
    enters (inD (ent 6 0 0)) .sync && noHold (inD (ent 6 0 0)) && (inD (ent 6 0 0)).jobLeaders 63 == [102] && !(inD (ent 6 0 0)).atSync 102,
    let s := inD (ent 6 0 0) (fun e => { e with wait := .sync }); s.jobLeaders 63 == [102] && s.atSync 102 && s.running 102 && !s.illegalAt 102 && eOp (s.entryAt 102) == .sync,
    enters (inD (ent 63 0 0)) .waitt && noHold (inD (ent 63 0 0)) && !(inD (ent 63 0 0)).trgFired 102 7 && (let s := ((inD (ent 63 0 0)).setOn (F.TMB_TRG_CTL.FIRED 1 7)).updTime (fun t => { t with reached := [(1, 128)] });
      s.trgFired 102 7 && enters s .waitt && noHold s),
    enters (inD (ent 7 0 1023)) .lock && noHold (inD (ent 7 0 1023)),
    let s := inD (ent 7 1 1023) (fun e => { e with wait := .lock }); s.running 102 && (s.eng 102).wait == .lock && !s.illegalAt 102 && eOp (s.entryAt 102) == .lock &&
      !bit (s.bankRead 1 (semAddr 1023) 8) 63 && bit ((s.bankWrite 1 (semAddr 1023) 8 (2 ^ 63)).bankRead 1 (semAddr 1023) 8) 63,
    let s := inD (ent 7 0 0) (fun e => { e with wait := .lockRetry }); s.running 102 && (s.eng 102).wait == .lockRetry && !s.irqBlocks 102,
    let s := (inD (ent 8 0 1023)).bankWrite 1 (semAddr 1023) 8 (2 ^ 63 + 102 * 2 ^ 32); let v := s.bankRead 1 (semAddr 1023) 8; enters s .unlock && bit v 63 && bits v 60 3 == 0 && bits v 32 16 == 102,
    enters (inD (ent 8 0 0)) .unlock && !bit ((inD (ent 8 0 0)).bankRead 1 (semAddr 0) 8) 63] : List Bool).all id = true := by
  decide +kernel

theorem witness_InterruptsImagesAndStopsKeepTheGangsState : ([
    enters (inD (ent 9 0 7)) .save && noHold (inD (ent 9 0 7)) && enters (inD (ent 10 0 7)) .restore && noHold (inD (ent 10 0 7)),
    let s := inD (ent 9 0 7) (fun e => { e with wait := .saveRes }); s.inTransfer 102 .save && !s.illegalAt 102,
    let s := inD (ent 10 0 7) (fun e => { e with wait := .saveRes }); s.inTransfer 102 .restore && !s.illegalAt 102 && !imageBad (s.savedImage 102 7),
    let s := (inD (ent 10 0 7) (fun e => { e with wait := .saveRes })).bankWrite 1 (saveAddr 102 7) 256 (3 * 2 ^ 18); s.inTransfer 102 .restore && !s.illegalAt 102 && imageBad (s.savedImage 102 7),
    enters (inD (ent 12 0 0)) .trap && ((inD (ent 12 0 0)).eng 102).iretDs == 0,
    let s := (inD (ent 0 0 0)).wr (F.ENG_IRQ.PEND 102) 8; s.running 102 && !s.inMon 102 && s.boundaryFree 102 && topCause (s.takeable 102) == some 3 && noHold s,
    enters (inHand (inD (ent 11 0 0))) .iret,
    let s := inHand (inD (ent 0 0 0) (fun e => { e with iretDs := 1 })); enters s .next && (s.eng 102).iretDs == 1 && !s.inMon 102 && !(s.eng 102).svc,
    let s := inD (ent 15 0 0); s.badEntry 102 == some 0x201 && s.running 102 && !(s.eng 102).wait.standing && !s.irqBlocks 102 && s.holdOf 102 != .miss && s.holdOf 102 != .prov,
    let s := inD (ent 0 0 0) (fun e => { e with wdogP := 1, wdog := 1 }); (s.eng 102).ctx == some 63 && s.wdogRuns 102 && (s.tbase 1).inc != 0 && (s.front 63).any (fun j => j.status == none)] : List Bool).all id = true := by
  decide +kernel

theorem witness_VectorWordsArriveAndTablesAreWrittenAtRest : ([
    let s := inD (ent 0 0 0 (2 ^ 63)) (fun e => { e with wait := .data }); s.waitsFor 102 4 && s.lacking 102 == [102] && !s.bankBad 1 (s.tableAt 102 102) && !s.tableHeld 1 (s.tableAt 102 102),
    let s := withDram (inD (ent 0 0 0 (5 * 2 ^ 61 + 2 ^ 48)) (fun e => { e with wait := .data })); s.waitsFor 102 5 && s.lacking 102 == [102] && streamOk s,
    let s := (withDram (inD (ent 0 0 0 (5 * 2 ^ 61 + 2 ^ 48)) (fun e => { e with wait := .data }))).wr (F.DMC_STAT.STATE 4) 5; s.waitsFor 102 5 && s.lacking 102 == [102] &&
      decide (s.streamAt 102 102 + 8 ≤ s.usable 1) && !s.dramRuns 1 (s.streamAt 102 102 / 64 * 64),
    let s := clocked live; !s.portDown 1 7 && s.gclkOn 1 (s.rd (F.VSW_PORT_CFG.CLKSEL 1 7)) && (s.portQ 1 7) == [] && s.mayWrite pf .vsw (some 1) && s.pacerIdle 1 7 && !live.gclkOn 1 0,
    (live.setOn (F.VSW_PORT_STAT.DOWN 1 7)).portDown 1 7 && !pacing.pacerIdle 1 7 && ({ live with ports := [(15, List.replicate 16 0)] } : State).portQ 1 7 == List.replicate 16 0,
    live.mayWrite pf .engWin (some 1) && live.atRest 103 && runJob.mayWrite pf .engWin (some 1) && !runJob.atRest 102,
    live.mayWrite pf .vsw (some 1) && live.selMay 255 0xFFFFFFFF && busyChan.mayWrite pf .vsw (some 1) && !busyChan.selMay 255 0] : List Bool).all id = true := by
  decide +kernel

theorem witness_BranchesResolveAndProvisionalWritesWait : ([
    let s := inD (ent 0 0 0) (fun e => { e with brs := [aBranch] }); (s.eng 102).leader == 102 && s.winArrived 102 aBranch.win && aBranch.isBr && s.condVal 102 2 0 0 == aBranch.taken,
    let b : Branch := { aBranch with taken := false, chk := some { gens := [⟨102, 0, 0, 1⟩], cnt := [], stk := [], dsc := 0, dst := 0, repc := 0, last := 0 } };
      let s := inD (ent 0 0 0) (fun e => { e with brs := [b] }); s.condVal 102 b.scnd 0 b.win != b.taken && b.chk.isSome && (b.chk.map (fun k => k.gens.map (·.slot))) == some [102],
    let b := { aBranch with taken := false }; let s := inD (ent 0 0 0) (fun e => { e with brs := [b] }); s.condVal 102 b.scnd 0 b.win != b.taken && b.chk == none,
    let r : SumpRec := ⟨7, 5, 0, 0, 0, 0, 0, 0, true, false, []⟩; let s := failJob.updEng 102 (fun e => { e with sump := [r] }); s.rd (F.FPU_FP_STAT.USED 7) + r.entries aCap ≤ 16384 &&
      s.jobEngOf 102 == some anEng &&
      (((s.eng 102).sump.filter (fun q => q.conf && q.bay == 7)).find? (fun q => ((s.eng 102).sump.filter (fun q => q.conf && q.bay == 7)).all (fun p => decide (q.cyc ≤ p.cyc)))) == some r,
    let r : SumpRec := ⟨7, 5, 0, 0, 0, 0, 0, 0, true, false, [⟨255, 0, 1, false⟩]⟩; let s := (failJob.wr (F.FPU_FP_STAT.USED 7) 16384).updEng 102 (fun e => { e with sump := [r] });
      (s.jobEngOf 102).any (fun g => g.cap.ovf == 0 && decide (16384 < s.rd (F.FPU_FP_STAT.USED 7) + r.entries g.cap)),
    !up.on (F.FAB_NE_STAT.DOWN 63) && !up.niFenced (niOfEndpoint 63) && up.ledgerPath 0 32 && !up.ledgerPath 0x1000000 32 && !up.resultArea false 0x1000000 32 && up.linkUp && up.heldOut == [],
    let s := (atJob .running [(64, 2), (256, 0x1000000), (320, 1)]).updBay 7 (fun b => { b with deliv := [(95, 0)] }); !s.ledgerPath 0x1000000 32 && s.resultArea false 0x1000000 32 &&
      (s.bay 7).deliv != [] && !s.on (F.FAB_NE_STAT.DOWN 63),
    let w : FabWr := ⟨63, 0, false, 0x1000000, 32, 0, [], true, 0, 0, false, true⟩; let s := { atJob .running [(64, 2), (256, 0x1000000), (320, 1)] with fabHeld := [w] }; (s.fabHeld.find? (fun w => w.ep / 32 = 1 && w.here && w.waits.isEmpty)) == some w && s.resultArea false 0x1000000 32,
    let w : FabWr := ⟨63, 0, false, 0x1000000, 32, 0, [], false, 0, 0, false, true⟩; ({ up with fabHeld := [w] }.fabHeld.find? (fun w => w.ep / 32 = 1 && w.here && w.waits.isEmpty)) == some w && up.linkUp && up.heldOut == [] && !up.resultArea false 0x1000000 32] : List Bool).all id = true := by
  decide +kernel

theorem witness_ResultsAreComparedAndStagedInOrder : ([
    let s := comparing; s.vecOf 102 0 == some (aVec [255]) && leftS 0 (s.now 102) && !s.resultOut 255 && s.noteStrobe 255 ⟨false, []⟩ == s &&
      (List.range (s.positions 255 0)).all (fun k => !s.posOpen 255 (aVec [255]) k) && !eCapt (aVec [255]).entry && s.on (F.VSW_SEL.MATCH 1 127) && s.selPort 255 == none &&
      !s.matchOnly 102 0 && (s.compareMask 102 255 (aVec [255]) ⟨⟨true, []⟩, ⟨false, []⟩⟩).1.1 != 0 && decide ((s.eng 102).clrf ≤ 0),
    let s := ((((up.setOn (F.CHN_SSG_CFG.EN 7 3)).setOn (F.CHN_CFG.SSM 255)).wr (F.CHN_CFG.SSG 255) 3).wr (F.CHN_CFG.MODE 255) 1).wr (F.CHN_CFG.MODE 224) 1;
      let s := s.setSsg 7 3 ⟨[⟨0, 1, [(255, 0)], false⟩], [], 0⟩; s.on (F.CHN_SSG_CFG.EN 7 3) && s.ssgMembers 7 3 == [255] && !s.ssgBroken 7 3 255 &&
      ((s.noteEdges 7 3 ⟨false, []⟩).ssgRun 7 3).1.any (fun q => !q.burst.shut && decide (q.got.length < (0 + 1 - q.burst.first) * (s.ssgPar 7 3).uic)),
    (live.setOn (F.CHN_SSG_CFG.EN 7 3)).on (F.CHN_SSG_CFG.EN 7 3) && ((live.noteEdges 7 3 ⟨false, []⟩).ssgRun 7 3).1 == [],
    let s := comparing; s.resultOut 254 == false && (s.wr F.GLB_STATE.STATE 3).resultOut 255,
    let s := failJob.updBay 7 (fun b => { b with buf := [anEnt] }); (s.bay 7).buf[0]? == some anEnt && s.entryFirst 7 anEnt && !anEnt.isCap && decide ((s.bay 7).queue.length < 64),
    let s := failJob.updBay 7 (fun b => { b with queue := [anEnt] }); ((s.front 63).bind (fun q => q.engs.find? (fun g => g.le = 95))) == some anEng && (s.entryOp 7 anEnt anEng).1.isSome &&
      (s.fccOf 1) == [],
    let s := { failJob.updBay 7 (fun b => { b with queue := [anEnt] }) with fcc := [(1, [⟨0, true, 0, 0, 0, false⟩])] }; (s.entryOp 7 anEnt anEng).1.any (fun o => ((s.fccOf 1).find? (fun l => l.takes o)).isSome),
    let s := { failJob.updBay 7 (fun b => { b with queue := [anEnt] }) with fcc := [(1, (List.range 16).map (fun i => ⟨2 ^ 30 * (i + 1), true, 0, 0, 0, false⟩))] };
      (s.entryOp 7 anEnt anEng).1.any (fun o => ((s.fccOf 1).find? (fun l => l.takes o)).isNone && decide (16 ≤ ((s.fccOf 1).filter (fun l => fccSet l.addr = fccSet o.addr)).length)),
    let l : FccLine := ⟨64, false, 1, 1, 0, true⟩; let s := { up with fcc := [(1, [l])] }; up.mayWrite pf .fpu (some 1) && ((s.fccOf 1).find? (fun l => l.addr = 64 && l.wb)) == some l && s.dramAccepts 1 64 2,
    let l : FccLine := ⟨64, false, 1, 1, 0, true⟩; let s := { up with fcc := [(1, [l])] }; let s := s.updDmc (s.dramIf 1 64) (fun d => { d with q := List.replicate 48 (dramWr 1 0 0 0 []) }); !s.dramAccepts 1 64 2] : List Bool).all id = true := by
  decide +kernel

theorem witness_JobsEndInStepsAndStreamsTakeTheirSettings : ([
    let s := clocked (up.updBay 7 (fun b => { b with ffsPend := some 3, stream := [⟨0, 0⟩], ffq := List.replicate 32 ⟨0, 0⟩ })); ((s.takeWords 7 1).bay 7).ffsPend == some 3 && ((s.takeWords 7 1).bay 7).stream == [] && ((s.takeWords 7 0).bay 7).stream != [],
    let s := runJob.updEng 102 (fun e => { e with stopped := true }); (s.front 63).any (fun j => j.phase == .running && dType j.desc == 2 && !j.restart) && s.jobStill 63 && s.jobSlots 63 == [102] && !runJob.jobStill 63,
    let s := atJob .stopping [(64, 2)]; (s.front 63).any (fun j => j.phase == .stopping && !dResDev j.desc && j.status == none) && (List.range 8).all (fun b => (s.bay b).buf == [] && (s.bay b).queue == []) && s.fcc == []] : List Bool).all id = true := by
  decide +kernel

theorem witness_ChannelSettingsChangeAtRestAndOffsetsFollowTheSensors : ([
    busyChan.mayWrite pf .chn (some 1) && !busyChan.chIdle 255 && (live.rateBad (live.clk 0).fw (uicOf 1) || !live.rateBad (live.clk 0).fw (uicOf 1)),
    live.mayWrite pf .chn (some 0) && live.chIdle 0 && live.rateBad (2 ^ 20) (uicOf 1) && bits 1 0 2 == 1,
    live.chIdle 255 && bits 2 0 2 != 1 && live.rd (F.CHN_CFG.MODE 255) != bits 2 0 2 && uicOf 0xC == 4 && uicOf 4 == 8 && uicOf 8 == 16,
    (live.setOn (F.CHN_STAT.MODE_CHG 255)).on (F.CHN_STAT.MODE_CHG 255) && !live.serial 255 && ((live.wr (F.CHN_CFG.MODE 0) 1).setOn (F.CHN_STAT.MODE_CHG 0)).serial 0,
    let s := busyChan.wr (F.CHN_SSG_CFG.SRC 7 3) 31; s.mayWrite pf .chn (some 1) && !s.chIdle (s.ssgSrc 7 3),
    live.chIdle (live.ssgSrc 7 3) && live.chIdle (32 * 7 + bits 0xFFFFFFFF 8 5) && (List.range 256).all (fun c => live.chIdle c),
    live.mayWrite pf .win (some 1) && live.chIdle 255 && busyChan.mayWrite pf .win (some 1) && !busyChan.chIdle 255,
    (live.setOn (F.CHN_CAL_CTL.HOLD 7)).on (F.CHN_CAL_CTL.HOLD 7) && !live.on (F.CHN_CAL_CTL.HOLD 7),
    let s := live.clr (F.CHN_CFG.TCOMP 224); (chansOfBay 7).contains 255 && s.on (F.CHN_CFG.TCOMP 255) && !s.sensBad (s.calRec 255).sens && !s.on (F.CHN_CFG.TCOMP 224) &&
      !(chansOfBay 7).contains 223,
    live.recOk 255 && live.mayWrite pf .win (some 1) && !busyChan.recOk 255 && busyChan.mayWrite pf .win (some 1) && !(live.clr (F.CHN_CFG.TCOMP 255)).on (F.CHN_CFG.TCOMP 255) && live.on (F.CHN_CFG.TCOMP 255) && !live.sensBad 63] : List Bool).all id = true := by
  decide +kernel

theorem witness_BankMemoryAnswersByPowerStateAndLoansKeepIt : ([
    !live.por && decide (4 ≤ live.rd F.GLB_STATE.STATE) && live.dirc == [] && live.bankJoins == [] && (wordsOf 0x1FBFFC0 64).all (fun w => !live.bankUeAt 1 w && live.bankCur 1 (w % 64) == 0),
    let s := live.setBankCur 1 0 2; (wordsOf 0 8).any (fun w => s.bankCur 1 (w % 64) == 2) && s.dirc == [] && (wordsOf 0 8).all (fun w => !s.bankUeAt 1 w),
    let s := live.setBankCur 1 63 1; (wordsOf 504 8).all (fun w => w % 64 == bankOf 504) && s.bankCur 1 (bankOf 504) == 1 && s.dirc == [],
    decide (0x1FC0000 < 0x1FFFFC0 + 64) && decide (0x1FFFFC0 + 64 ≤ 0x2000000) && decide (0x2000000 < 0x1FFFFFF + 2),
    decide (0x1FBFFFC < 0x1FC0000) && decide (0x1FC0000 < 0x1FBFFFC + 8) && (wordsOf 0x1FBFFFC 4).all (fun w => !live.bankUeAt 1 w && live.bankCur 1 (w % 64) == 0) && live.dirc == [],
    let s := live.updBank 1 (fun b => { b with writeback := [(8, 5)] }); (s.bankH 1).writeback == [(8, 5)],
    live.mayWrite pf .bnk (some 1) && !live.onLoan 1 63 && Table.get 0 (live.bankH 1).target 63 == 0 && live.bankCur 1 63 == 0 && bits 0xC0000000 30 2 == 3 && bits 0x80000000 30 2 == 2,
    let s := live.updBank 1 (fun b => { b with target := [(63, 3)] }); Table.get 0 (s.bankH 1).target 63 == 2 + 1 && (s.bankH 1).waits == [],
    let s := live.updBank 1 (fun b => { b with target := [(63, 1)] }); Table.get 0 (s.bankH 1).target 63 == 0 + 1 && (s.bankH 1).waits == [],
    let s := live.setOn (F.BNK_COP_CTL.EN 1); s.on (F.BNK_COP_CTL.EN 1) && !s.isFenced 217 && !s.on (F.BNK_COP_STAT.LOAN_LOST 1) && s.rd (F.BNK_COP_STAT.PHASE 1) == 0 && s.copNext 1 == some 0,
    (live.wr (F.BNK_COP_STAT.PHASE 1) 1).rd (F.BNK_COP_STAT.PHASE 1) == 1 && !(live.bankH 1).stopped && (live.wr (F.BNK_COP_STAT.PHASE 1) 2).rd (F.BNK_COP_STAT.PHASE 1) == 2,
    (live.wr (F.BNK_COP_STAT.PHASE 1) 3).rd (F.BNK_COP_STAT.PHASE 1) == 3] : List Bool).all id = true := by
  decide +kernel

/-- What the model keeps of interface 7 is f of what it keeps after reset, its STATE is st. -/

def dramAt (st : Nat) (f : DmcSt → DmcSt) : State := (dramUp.wr (F.DMC_STAT.STATE 7) st).updDmc 7 f

theorem witness_DramRequestsQueueScheduleAndReturn : ([
    let d := dramUp.dmc 4; decide (lineAddr 0x400000 + 64 ≤ dramUp.usable 1) && dramUp.dramIf 1 (lineAddr 0x400000) == 4 && d.held == [] && !d.entering && !dramUp.mckGated 4 &&
      d.youngest (lineAddr 0x400000) == none && decide (d.reads < 48) && decide (d.writes < 48) && !dramReserved (lineAddr 0x400000) && dramReserved (lineAddr 0),
    let s := dramUp.wr (F.DMC_STAT.STATE 4) 5; s.dramIf 1 (lineAddr 0x400000) == 4 && s.mckGated 4 && !(s.dmc 4).refHold && (s.dmc 4).held == [] && !(s.dmc 4).entering,
    let s := dramUp.updDmc 4 (fun d => { d with q := List.replicate 48 (dramRd 0 0 0 none) }); decide (48 ≤ (s.dmc 4).reads) && s.dramIf 1 (lineAddr 0x400000) == 4 && !s.mckGated 4,
    decide (lineAddr 0 + 64 ≤ dramUp.usable 1) && decide (dramUp.usable 1 < lineAddr 0x3FFFFFFF + 64) && decide (live.usable 0 < lineAddr 0 + 64),
    let o := dramRd 0x10000000 1 0 none; let s := dramAt 2 (fun d => { d with q := [o] }); s.rd (F.DMC_STAT.STATE 7) == 2 && !(s.dmc 7).entering && (s.dmc 7).drain == 0 && (s.dmc 7).held == [] &&
      s.dramPick 7 [0] [] [] == some 0 && (s.dmc 7).q[0]? == some o && ((s.dmc 7).q.eraseIdx 0).all (fun x => x.line != o.line),
    let o := dramWr 1 0x10000000 1 5 []; let s := dramAt 2 (fun d => { d with q := [o] }); s.dramPick 7 [31] [0] [] == some 0 && (s.dmc 7).q[0]? == some o,
    let o := dramWr 2 0x10000300 fullMask 5 []; let s := dramAt 2 (fun d => { d with q := [o] }); s.dramPick 7 [31] [0] [] == some 0 && !s.poisoned (7 / 4) o.line && (s.setPoison 1 o.line true).poisoned (7 / 4) o.line,
    let o := { dramRd 0x10000000 1 0 (some (0, 0, 4)) with bad := true }; let s := dramAt 2 (fun d => { d with issued := [o] }); (s.dmc 7).issued[0]? == some o && o.bad && o.win == some (0, 0, 4),
    let o := dramRd 0x10000000 1 0 (some (0, 0, 4)); let s := dramAt 2 (fun d => { d with issued := [o, dramRd 0 1 0 none] }); (s.dmc 7).issued[0]? == some o && !o.bad && (s.dmc 7).issued[1]? == some (dramRd 0 1 0 none),
    dramUp.mckGated 0 == false && (dramAt 5 id).mckGated 7,
    dramUp.mayRead pf 0x1600000 && decide (dramUp.windowAddr 1 0xFFFF8 < dramUp.usable 1) && dramReserved (dramUp.windowAddr 1 0xFFFF8) && dramUp.mayWrite pf .dmc (some 1) &&
      decide (dramUp.windowAddr 1 0xFFFF8 / 64 * 64 + 64 ≤ dramUp.usable 1) && dramReserved (dramUp.windowAddr 1 0xFFFF8 / 64 * 64),
    let s := dramUp.wr (F.DMC_WIN.BASE 1) 256; let a := s.windowAddr 1 0xFFFF8; let l := a / 64 * 64; let n := s.dramIf 1 l; s.mayRead pf 0x1600000 && s.mayWrite pf .dmc (some 1) && decide (a < s.usable 1) &&
      !dramReserved a && !dramReserved l && (s.dmc n).held == [] && !(s.dmc n).entering && !s.mckGated n && (s.dmc n).youngest l == none && decide ((s.dmc n).writes < 48) &&
      decide ((s.dmc n).reads < 48) && decide (l + 64 ≤ s.usable 1),
    let s := dramUp.wr (F.DMC_WIN.BASE 1) 256; let a := s.windowAddr 1 0xFFFF8; let l := a / 64 * 64; let n := s.dramIf 1 l; let s := s.updDmc n (fun d => { d with q := [dramWr 1 l fullMask 7 []] });
      ((s.dmc n).youngest l).any (fun y => y.kind == 1 && y.mask &&& ((2 ^ 8 - 1) * 2 ^ (a % 64)) == (2 ^ 8 - 1) * 2 ^ (a % 64)) && !s.mckGated n,
    decide (live.usable 1 ≤ live.windowAddr 1 0)] : List Bool).all id = true := by
  decide +kernel

theorem witness_DramSetPointsRetrainingAndSelfRefresh : ([
    let s := dramAt 5 id; s.mayWrite pf .dmc (some 1) && s.rd (F.DMC_STAT.STATE 7) == 5 && !s.rateOver 6,
    let s := (dramAt 2 id).setOn (F.DMC_FSP_CTL.REQ 7); s.mayWrite pf .dmc (some 1) && s.rd (F.DMC_STAT.STATE 7) != 5 && s.on (F.DMC_FSP_CTL.REQ 7),
    let s := dramAt 2 id; s.rd (F.DMC_STAT.STATE 7) != 5 && !s.on (F.DMC_FSP_CTL.REQ 7) && s.rd (F.DMC_FSP.VALID 7 2) == 0 && s.rd (F.DMC_FSP.VALID 7 1) != 0 && !s.rateAbove 7 1 &&
      !(s.dmc 7).inStep && !(s.dmc 7).entering && s.rd (F.DMC_STAT.STATE 7) == 2 && (s.dmc 7).writes == 0 && (dramAt 2 (fun d => { d with stepsLeft := 8 })).mayWrite pf .dmc (some 1),
    let s := dramAt 3 (fun d => { d with inStep := true, stepsLeft := 8 }); s.rd (F.DMC_STAT.STATE 7) == 3 && !s.on (F.DMC_FSP_CTL.REQ 7) && (s.dmc 7).inStep && (s.dmc 7).stepsLeft != 0,
    let s := dramAt 4 (fun d => { d with switching := true, target := 2 }); (s.dmc 7).switching && (s.dmc 7).drain == 0 && !(s.dmc 7).deferred && !(s.dmc 7).srAfter && s.rd (F.DMC_FSP.RATE 7 2) != 7 && !s.rateOver 1,
    let s := dramAt 2 id; s.mayWrite pf .dmc (some 1) && s.rd (F.DMC_STAT.FSP_ACT 7) == 0 && s.rd (F.DMC_STAT.STATE 7) != 5 && !s.rateOver 1 && (s.setOn F.GLB_ID.GRADE).rateOver 8,
    let s := dramUp.setOn (F.DMC_CTL.RETR_EN 7); s.on (F.DMC_CTL.RETR_EN 7) && s.rd (F.DMC_STAT.STATE 7) == 2 && !(s.dmc 7).entering && decide ((0 : BitVec 8).toInt.natAbs ≤ s.eff (F.DMC_RETR.THRESH 7)) &&
      decide (s.eff (F.DMC_RETR.THRESH 7) < (0x80 : BitVec 8).toInt.natAbs) && (s.dmc 7).stepsLeft == 0,
    let s := dramAt 2 (fun d => { d with stepsLeft := 8 }); (s.dmc 7).stepsLeft != 0 && s.rd (F.DMC_STAT.STATE 7) == 2 && !(s.dmc 7).entering,
    let s := dramAt 3 (fun d => { d with stepsLeft := 8, inStep := true }); (s.dmc 7).inStep && !(s.dmc 7).deferred && !(s.dmc 7).srAfter && decide (1 < (s.dmc 7).stepsLeft),
    let s := dramAt 3 (fun d => { d with stepsLeft := 1, inStep := true }); (s.dmc 7).inStep && !(s.dmc 7).deferred && !(s.dmc 7).srAfter && decide ((s.dmc 7).stepsLeft ≤ 1),
    let s := dramAt 3 (fun d => { d with stepsLeft := 3, inStep := true, deferred := true }); (s.dmc 7).inStep && (s.dmc 7).deferred,
    let s := dramAt 2 (fun d => { d with enterReq := true }); (s.dmc 7).enterReq && s.srMay 7 && (s.dmc 7).reads == 0 && (s.dmc 7).issued == [] && !(s.dmc 7).switching && (s.dmc 7).writes == 0,
    let s := dramAt 2 (fun d => { d with enterReq := true, q := [dramWr 1 0x10000000 1 5 []] }); (s.dmc 7).enterReq && s.srMay 7 && (s.dmc 7).reads == 0 && (s.dmc 7).writes != 0,
    let s := dramAt 5 id; s.rd (F.DMC_STAT.STATE 7) == 5 && !(s.dmc 7).refHold && !(s.dmc 7).entering && dramUp.rd (F.DMC_STAT.STATE 7) != 5 && (dramAt 4 id).rd (F.DMC_STAT.STATE 7) == 4,
    let s := dramAt 5 (fun d => { d with refHold := true }); s.rd (F.DMC_STAT.STATE 7) == 5 && (s.dmc 7).refHold && ((dramAt 2 (fun d => { d with entering := true })).dmc 7).entering,
    let s := dramAt 5 (fun d => { d with exiting := true }); s.rd (F.DMC_STAT.STATE 7) == 5 && (s.dmc 7).exiting && !(s.dmc 7).refHold && (s.dmc 7).heldWr == [] && (s.dmc 7).held == [] && !(s.dmc 7).deferred] : List Bool).all id = true := by
  decide +kernel

theorem witness_RemovingAnInterfaceFoldsItsHalf : ([
    !(dramUp.dmc 7).noSet,
    let s := dramAt 2 (fun d => { d with noSet := true }); (s.dmc 7).noSet && s.on (F.DMC_STAT.IN_INTLV 7) && s.rd (F.DMC_HALF.NIF (7 / 4)) == 4 && !Table.get false s.startFold 1 && (s.dmc 7).held == [],
    let s := (dramAt 2 (fun d => { d with noSet := true })).wr (F.DMC_HALF.NIF 1) 3; (s.dmc 7).noSet && s.on (F.DMC_STAT.IN_INTLV 7) && s.rd (F.DMC_HALF.NIF (7 / 4)) != 4,
    let s := { (dramUp.wr (F.DMC_HALF.NIF 1) 3).wr (F.DMC_HALF.NIF 0) 4 with restoring := [(1, true)] }; s.rd (F.DMC_HALF.NIF 1) == 3 && s.rd (F.DMC_HALF.NIF (1 - 1)) != 0 && Table.get false s.restoring 1 &&
      s.canonical && s.foldMoved 1 0 && s.rd (F.DMC_HALF.NIF 0) != 3] : List Bool).all id = true := by
  decide +kernel

/-- The fabric of both halves is released from its hold and its load fence. -/

def fabUp : State := ((live.clr (F.FAB_STAT.GHOLD 0)).clr (F.FAB_STAT.GHOLD 1)).each [0, 1, 2, 3] (fun s k => s.wr (F.CFG_QFENCE.FENCED k) 0)

/-- The slice at the foot of the first slice column at an edge of its line, its inputs tied as word 54 of its record says. -/

def sliceAt (w54 : Nat) : State := { fabUp with fcfg := [(5120 * 128 + 54, w54)], edge := ⟨[(0, true)], [], [], [], [], [], []⟩ }

/-- Its hypotheses, with OP op, CE ce and RST rst. -/

def sliceIs (s : State) (op : Nat) (ce rst : Bool) : Bool :=
  s.siteMay 5120 .slice && s.sliceClocked 5120 && !s.extended 5120 && s.before.inps 5120 32 3 == op && !s.before.headExt 5120 && s.sliceW 5120 11 2 != 1 &&
  s.before.inp 5120 35 == ce && s.before.inp 5120 36 == rst

/-- Generator 3 of half 1 runs its first output, and line 0 of region 31 is on. -/

def lineUp : State :=
  ((((fabUp.setOn (F.FAB_FCG_CFG.EN 1 3)).setOn (F.FAB_FCG_STAT.LOCKED 1 3)).updFcg 1 3 (fun x => { x with div := 1, low := false })).wr (F.FAB_RCLK_C.ON 31) 1).wr
    (F.FAB_RCLK_A.SEL_0_7 31) 12

/-- The block memory at the foot of the first memory column with port A one bit wide, clocked and enabled, and word 51 as given. -/

def bramAt (w51 : Nat) : State :=
  { fabUp with fcfg := [(2560 * 128, 1), (2560 * 128 + 51, w51), (2560 * 128 + 52, 2 ^ 19)], edge := ⟨[(0, true)], [], [], [], [], [], []⟩ }

theorem witness_FabricClocksRelockAndEndpointsAreFenced : ([
    let s := live.setOn (F.FAB_FCG_CFG.APPLY 1 3); s.mayWrite pf .fab (some 1) && s.on (F.FAB_FCG_CFG.APPLY 1 3),
    let s := ((live.wr (F.FAB_FCG_CFG.M 1 3) 16).wr (F.FAB_FCG_CFG.D 1 3) 1); !s.on (F.FAB_FCG_CFG.APPLY 1 3) && fcgOk (s.fcgWord 1 3) (s.rd (F.FAB_FCG_DIV.O 1 3)) 0,
    let s := ((live.wr (F.FAB_FCG_CFG.M 1 3) 15).wr (F.FAB_FCG_CFG.D 1 3) 1); !s.on (F.FAB_FCG_CFG.APPLY 1 3) && !fcgOk (s.fcgWord 1 3) (s.rd (F.FAB_FCG_DIV.O 1 3)) 0,
    let s := live.setOn (F.FAB_FCG_CFG.EN 1 3); s.on (F.FAB_FCG_CFG.EN 1 3) && !s.on (F.FAB_FCG_STAT.LOCKED 1 3),
    let s := live.setOn (F.FAB_FCG_STAT.LOCKED 1 3); s.on (F.FAB_FCG_STAT.LOCKED 1 3) && !bit (s.fcg 1 3).cfg 6 && s.mayWrite pf .fab (some 1),
    let s := live.setOn (F.FAB_NE_CFG.EN 63); s.on (F.FAB_NE_CFG.EN 63) && !s.on (F.FAB_NE_STAT.DOWN 63),
    !live.por && live.mayEndpoint 63 (.sup 1) && !live.isFenced (152 + 63) && (live.wr (F.SUP_UNIT_STAT.STATE 215) 1).isFenced (152 + 63) &&
      (live.wr (F.SUP_UNIT_STAT.STATE 215) 1).mayEndpoint 63 (.sup 1),
    let s := (fabUp.wr (F.SUP_UNIT_STAT.STATE 215) 1).setOn (F.FAB_NE_CFG.EN 63); s.isFenced (152 + 63) && s.on (F.FAB_NE_CFG.EN 63) && !(s.ni (niOfEndpoint 63)).broken && !s.qHeld (endpointQ 63) &&
      (s.ni (niOfEndpoint 63)).rxq == [] && (s.ni (niOfEndpoint 63)).txq == []] : List Bool).all id = true := by
  decide +kernel

theorem witness_SlicesAccumulateBlockMemoriesWriteAndEdgesClock : ([
    (List.range 8).all (fun o => sliceIs (sliceAt (o % 2 + o / 2 % 2 * 2 ^ 5 + o / 4 * 2 ^ 10 + 2 ^ 15)) o true false),
    (List.range 8).all (fun o => sliceIs (sliceAt (o % 2 + o / 2 % 2 * 2 ^ 5 + o / 4 * 2 ^ 10 + 2 ^ 15 + 2 ^ 20)) o true true && sliceIs (sliceAt (o % 2 + o / 2 % 2 * 2 ^ 5 + o / 4 * 2 ^ 10)) o false false),
    fabUp.bramEdges 2560 == (false, false),
    let s := bramAt (2 ^ 11); s.siteMay 2560 .bram && s.bramW 2560 0 3 != 7 && s.bramEdges 2560 == (true, false) && s.before.inp 2560 23 && (s.portAcc s.before 2560 false).mask != 0,
    let s := bramAt 0; s.siteMay 2560 .bram && s.bramEdges 2560 == (true, false) && s.before.inp 2560 23 && (s.portAcc s.before 2560 false).mask == 0 && s.bramW 2560 10 1 == 0 && !s.before.inp 2560 25,
    lineUp.edgeMay (496, true) && !lineUp.edgeMay (496, false) && !lineUp.edgeMay (508, true)] : List Bool).all id = true := by
  decide +kernel

/-- A request of endpoint 63 to its half's bank memory. -/

def aReq (opc size addr : Nat) : Pkt := presented 159 176 opc 0 size 0 addr 0

/-- Interface id has received a packet. -/

def rcvd (id : Nat) (p : Pkt) : State := (clocked up).updNi id (fun n => { n with rxq := [p] })

/-- The packet at its place of the rings. -/

def inFlight (p : Pkt) (xb : Bool) (stop : Nat) : State := { clocked live with flights := [⟨p, 1, stop, xb, false⟩] }

/-- Interface id in a given state. -/

def niAt (id st : Nat) : State := (clocked live).wr (F.NOC_NI_STAT.STATE (niHalf id) (niL id)) st

theorem witness_PacketsAreInjectedEjectedFencedAndRouted : ([
    niExists 159 && (niAt 159 2).niState 159 == 2 && !niExists 181 && niExists 183 == false && niExists 55,
    live.niState 159 != 2 && !live.niRuns 159 && (clocked live).niRuns 159 && badPkt (aReq 1 0 0) && badPkt (aReq 1 8 60) && badPkt (aReq 9 8 0) && badPkt (aReq 1 65 0),
    let p := aReq 1 8 0; let s := live.updNi 159 (fun n => { n with outst := [p] }); s.niState 159 != 2 && !badPkt p && isRequest p.opc && (s.ni 159).outst.any (fun o => o.tag = p.tag),
    let p := aReq 1 8 0; let v := live.route 159 176; (clocked live).niRuns 159 && live.niState 159 == 0 && !badPkt p && isRequest p.opc && !(live.ni 159).outst.any (fun o => o.tag = p.tag) &&
      decide ((live.ni 159).outst.length < 256) && live.mapDram p == some p && !routeReserved (live.routeRaw 159 176) && bit v 31 && !(live.ni 159).stale.contains 176 && !live.routeBroken 159 v,
    let p := aReq 1 8 0; let v := live.route 159 176; let l := (routeLinks 159 v).headD (0, 0, 0);
      let s := live.wr (F.NOC_LINK.FAILED l.1 l.2.2) (2 ^ l.2.1); s.routeBroken 159 v && s.mapDram p == some p,
    let p := aReq 0x41 8 0; let s := live.updNi 159 (fun n => { n with txq := [p] }); s.niState 159 != 2 && (s.ni 159).txq == [p] && bit (s.route 159 p.dest) 31,
    let f : Flight := ⟨aReq 1 8 0, 1, 16, false, false⟩; let s := inFlight (aReq 1 8 0) false 16; s.flights[0]? == some f && (s.flights.take 0) == [] && !f.xb && niExists f.pkt.dest &&
      niHalf f.pkt.dest == f.half && niStop f.pkt.dest == f.stop && s.niRoom f.pkt && bit (s.route f.pkt.dest f.pkt.src) 31 && !s.routeBroken f.pkt.dest (s.route f.pkt.dest f.pkt.src) && s.niState f.pkt.dest != 2 && (s.wr (F.NOC_NI_STAT.STATE 1 48) 2).niState f.pkt.dest == 2 && isRequest f.pkt.opc,
    let p := { aReq 1 8 0 with dest := 159 }; let f : Flight := ⟨p, 1, niStop 159, false, false⟩; let s := (inFlight p false (niStop 159)).updNi 159 (fun n => { n with rxq := List.replicate 8 p });
      s.flights[0]? == some f && niHalf 159 == 1 && !s.niRoom p,
    let p := { aReq 1 8 0 with dest := 48, route := 2 ^ 7 + 2 ^ 6 }; let f : Flight := ⟨p, 1, 19, true, false⟩; let s := inFlight p true 19; s.flights[0]? == some f && f.xb &&
      f.stop == 18 + bits f.pkt.route 7 1 && !(ringLinks (1 - f.half) f.stop (bits f.pkt.route 13 1) (bits f.pkt.route 8 5)).any s.linkFailed,
    let p := aReq 1 8 0; let s := live.updNi 159 (fun n => { n with outst := [p] }); ((s.ni 159).outst.find? (fun o => o.tag = 0)) == some p,
    let p := aReq 1 8 0; let s := live.updNi 53 (fun n => { n with outst := [p] }); ((s.ni 53).outst.find? (fun o => o.tag = 0)) == some p,
    niExists 159 && live.mayFenceNi 159 (.sup 1) && live.niState 159 == 0,
    let s := (niAt 159 2).updNi 159 (fun n => { n with fencer := some (.sup 1) }); s.niState 159 == 2 && (s.ni 159).fencer == some (.sup 1) && s.mayFenceNi 159 (.sup 1),
    (niAt 159 1).niState 159 == 1 && ((niAt 159 1).ni 159).outst == [] && (niAt 159 1).niRuns 159,
    live.mayWrite pf .win (some 1) && niExists 159 && routeReserved 20 && !routeReserved 19,
    !live.linkFailed (1, 19, 1) && (live.wr (F.NOC_LINK.FAILED 1 1) (2 ^ 19)).linkFailed (1, 19, 1)] : List Bool).all id = true := by
  decide +kernel

theorem witness_RequestsAreServedWhereTheyArrive : ([
    niL 176 == 48 && [1, 3, 4, 2, 0xC0].all (fun o => let p := aReq o 64 0x1FBFFC0; let s := rcvd 176 p; ((s.ni 176).rxq.find? (fun q => q.opc = o)) == some p && decide (p.tag < 256) &&
      s.coherent p.src == false && decide (0 < p.size) && decide (p.addr + p.size ≤ 0x1FC0000) && (s.snooped 1 (bankAccOf p none 0 .clean)) == [] &&
      (wordsOf p.addr p.size).all (fun w => s.bankCur 1 (w % 64) == 0 && !s.bankUeAt 1 w)),
    let p := { aReq 3 64 0 with src := 177 }; let s := rcvd 176 p; ((s.ni 176).rxq.find? (fun q => q.opc = 3)) == some p && s.coherent p.src && (s.snooped 1 (bankAccOf p none 1 .clean)) == [] &&
      (s.snooped 1 (bankAccOf { p with opc := 4 } none 2 .clean)) == [],
    let p := aReq 0xC0 8 0; let g := aReq 2 8 0; let s := (rcvd 176 p).updNi 176 (fun n => { n with grants := [g] });
      ((s.ni 176).grants.find? (fun g => g.opc = 2 && g.src = p.src && g.tag = p.tag)) == some g && !bit g.attr 1 && (s.snooped 1 (bankAccOf p (some 0) 0 .clean)) == [],
    niL 159 != 48 && decide (niL 159 < 44) && decide (48 < niL 177) && [1, 2, 3, 4, 5, 6].all (fun o => let p := aReq o 8 0; ((rcvd 159 p).ni 159).rxq.find? (fun q => q.opc = o) == some p && (rcvd 159 p).niRuns 159 && !up.niRuns 159),
    let p := aReq 1 8 0; let s := (dramUp.updNi 172 (fun n => { n with rxq := [p] })); let l := s.dramUnmap 4 p.addr / 64 * 64; niL 172 == 44 && s.dramIf 1 l == 4 && decide (l + 64 ≤ s.usable 1) && dramReserved l,
    let p := aReq 1 8 0x10000000; let s := (dramUp.updNi 172 (fun n => { n with rxq := [p] })); let l := s.dramUnmap 4 p.addr / 64 * 64; 4 == 4 * niHalf 172 + (niL 172 - 44) && s.dramIf 1 l == 4 &&
      decide (l + 64 ≤ s.usable 1) && !dramReserved l && decide ((s.dmc 4).reads < 48) && (s.dmc 4).held == [] && !s.mckGated 4 && !(s.dmc 4).entering && (s.dmc 4).youngest l == none,
    niL 44 != 48 && niL 53 != 48 && ((rcvd 53 (aReq 1 8 0)).ni 53).rxq.find? (fun q => q.opc = 1) == some (aReq 1 8 0),
    niIsEndpoint 159 && (let p := aReq 5 8 (0x1FDC000 + 8 * 1023); let s := rcvd 176 p; p.addr == 0x1FDC000 + 8 * 1023 && !bit (s.bankRead 1 (semAddr 1023) 8) 63 &&
      bit ((s.bankWrite 1 (semAddr 1023) 8 (2 ^ 63)).bankRead 1 (semAddr 1023) 8) 63),
    let p := aReq 6 8 (0x1FDC000 + 8 * 1023); let s := rcvd 176 p; let w := (s.bankWrite 1 (semAddr 1023) 8 (2 ^ 63 + 2 ^ 60 + 159 * 2 ^ 32)).bankRead 1 (semAddr 1023) 8; bit w 63 && bits w 60 3 == 1 &&
      bits w 32 16 == p.src && !bit (s.bankRead 1 (semAddr 1023) 8) 63,
    let p := aReq 7 4 0; niIsEndpoint p.src && ((rcvd 177 p).ni 177).rxq.find? (fun q => q.opc = 7) == some p && ((rcvd 177 { p with opc := 8 }).ni 177).rxq.find? (fun q => q.opc = 8) == some { p with opc := 8 },
    let p := aReq 8 4 (0x59800C + 0x7F * 2 ^ 32); regAt 0x3FFFFFC == none && (regAt (p.addr % 0x4000000 / 4 * 4)).any (fun q => q.def_.name == .ENG_FLAG && q.i == 102 && 163 == niOfBay (bayOfSlot q.i)) &&
      ((rcvd 163 p).ni 163).rxq.find? (fun q => q.opc = 8) == some p,
    let p := { aReq 7 4 0 with src := 177 }; niHalf p.src == 1 && !niIsEndpoint p.src && ((rcvd 177 p).takeRx 177 7).map (·.1) == some p && ((rcvd 177 { p with opc := 8 }).takeRx 177 8).map (·.1) == some { p with opc := 8 },
    let p := aReq 1 8 0; let s := { up with homes := [⟨1, bankAccOf p none 0 .clean, [(0, 177)]⟩] }; s.homes.any (fun q => q.half == 1 && q.wait.any (fun x => x.2 == 177))] : List Bool).all id = true := by
  decide +kernel

theorem witness_ResponsesCompleteRequestsAndSnoopsFreeTheirLines : ([
    [0x41, 0x44, 0xC1, 0x40, 0x42].all (fun o => let p := { aReq o 8 0 with src := 176, dest := 159 }; let s := rcvd 159 p; ((s.ni 159).rxq.find? (fun q => q.opc = o)) == some p &&
      !(s.ni 159).outst.any (fun o => o.tag = p.tag) && s.niRuns 159 && !(s.ni 159).cut.contains p.tag && ((s.updNi 159 (fun n => { n with cut := [p.tag] })).ni 159).cut.contains p.tag),
    [0x41, 0x44, 0xC1, 0x40, 0x42].all (fun o => let p := { aReq o 8 0 with src := 176, dest := 159 }; let s := (rcvd 159 p).updNi 159 (fun n => { n with outst := [aReq 1 8 0] });
      ((s.ni 159).rxq.find? (fun q => q.opc = o)) == some p && (s.ni 159).outst.any (fun o => o.tag = p.tag) && s.niRuns 159),
    let p := { aReq 0x42 8 0 with src := 176, dest := 53 }; let s := (rcvd 53 p).updNi 53 (fun n => { n with outst := [aReq 1 8 0] }); ((s.ni 53).rxq.find? (fun q => q.opc = 0x42)) == some p &&
      (s.ni 53).outst.any (fun o => o.tag = p.tag),
    let p := snoopPkt 1 177 0x80 5; let s := rcvd 177 p; ((s.ni 177).rxq.find? (fun q => q.opc = 0x80)) == some p && decide (p.tag < 256) && !(s.holders (niHalf p.src) (p.addr / 64)).any (fun a => a.1 = 177 && a.2),
    let p := snoopPkt 1 177 0x81 5; let s := (rcvd 177 p).setHolders 1 5 [(177, true)]; ((s.ni 177).rxq.find? (fun q => q.opc = 0x81)) == some p &&
      (s.holders (niHalf p.src) (p.addr / 64)).any (fun a => a.1 = 177 && a.2),
    let p := { aReq 0x43 1 320 with src := 177, attr := 0 }; let s := rcvd 176 p; s.homes == [] && ((s.ni 176).rxq.find? (fun q => q.opc = 0x43)) == some p && p.attr == 0,
    let p := { aReq 0xC2 64 320 with src := 177, attr := 0 }; let s := rcvd 176 p; s.homes == [] && ((s.ni 176).rxq.find? (fun q => q.opc = 0xC2)) == some p] : List Bool).all id = true := by
  decide +kernel

/-- The time-keeping of a state in service is f of what it is after reset. -/

def timed (f : TimeSt → TimeSt) : State := up.updTime f

/-- Trigger 7 of half 1 with its enable at e. -/

def trg (e : Nat) : State := live.wr (F.TMB_TRG_CTL.EN 1 7) e

/-- A frame from pairs of byte position and value. -/

def frame (l : List (Nat × Nat)) : Nat := (l.map (fun e => e.2 * 256 ^ e.1)).foldl (· + ·) 0

/-- Port 3 is enabled and locked, and event frames are taken there. -/

def port3 : State := ((((live.setOn (F.TMB_TRK_PHY.EN 3)).setOn (F.TMB_TRK_STAT.LINK 3)).setOn F.TMB_EVF_CFG.EN).setOn (F.TMB_TRK_CFG.EVF_EN 3))

/-- A comparator of half 1 for context 63 at the present time. -/

def aStart (fired : Bool) : StartCmp := ⟨1, 63, 0, 0, fired⟩

theorem witness_TimebaseTicksStepsAndFollowsTheServo : ([
    decide (0 < (live.tbase 1).inc) && decide ((live.tbase 1).inc < 2 ^ 36) && decide ((live.tbase 1).units < secUnits),
    !live.snap.due && !live.time.refLost && noRef.time.refLost && live.time.changes == [] && ({ live with snap := { SnapSt.reset with due := true } } : State).snap.due,
    (timed (fun t => { t with changes := [.step (-5)] })).time.changes == [.step (-5)] && (timed (fun t => { t with changes := [.inc 5] })).time.changes == [.inc 5] &&
      (timed (fun t => { t with changes := [.mode 2] })).time.changes == [.mode 2],
    live.mayWrite pf .tmb && live.rd F.TMB_CTL.MODE == 0,
    let s := live.wr F.TMB_CTL.MODE 2; s.mayWrite pf .tmb && s.rd F.TMB_CTL.MODE == 2 && decide (0x1E0000000 ≤ (0x1E0000000 : BitVec 36).toNat) && decide ((0x1E0000000 : BitVec 36).toNat ≤ 0x220000000),
    decide ((fromBits 32 (live.rd F.TMB_STEP_NS.NS)).natAbs ≤ 999999999) && (let s := live.wr F.TMB_STEP_NS.NS 1000000000; decide (999999999 < (fromBits 32 (s.rd F.TMB_STEP_NS.NS)).natAbs)),
    let s := (timed (fun t => { t with mode := 2 })).setOn F.TMB_PTP_CFG.EN; s.on F.TMB_PTP_CFG.EN && s.swinc,
    let s := ((timed (fun t => { t with mode := 1 })).setOn F.TMB_PTP_CFG.EN).wr F.TMB_STAT.STATE 2; s.on F.TMB_PTP_CFG.EN && !s.swinc && !s.syntonised && s.rd F.TMB_STAT.STATE == 2 &&
      decide ((fromBits 32 1).natAbs < s.stepThr) && decide (s.stepThr ≤ (fromBits 32 0x80000000).natAbs),
    let s := timed (fun t => { t with defer := some 1 }); s.time.defer == some 1 && s.syntonised && s.rd F.TMB_STAT.STATE != 3 && !s.gridBlocked && live.time.defer == none,
    let s := timed (fun t => { t with defer := some 1, starts := [aStart false] }); s.syntonised && s.rd F.TMB_STAT.STATE != 3 && s.gridBlocked,
    let s := timed (fun t => { t with defer := some 1, mode := 1 }); !s.syntonised && s.time.defer == some 1,
    let s := (live.wr F.TMB_STAT.STATE 2).setOn F.TMB_PTP_CFG.EN; s.on F.TMB_PTP_CFG.EN && s.rd F.TMB_STAT.STATE == 2 && (live.wr F.TMB_STAT.STATE 3).rd F.TMB_STAT.STATE == 3] : List Bool).all id = true := by
  decide +kernel

theorem witness_TriggersFireAndStartsReachTheEngines : ([
    let s := (trg 0).wr (F.TMB_TRG_NS.NS 1 7) 1000000000; s.mayWrite pf .tmb (some 1) && !s.on (F.TMB_TRG_CTL.EN 1 7) && decide (1000000000 ≤ s.trgNs 1 7),
    let s := ((trg 0).setOn (F.TMB_TRG_CTL.PERIODIC 1 7)).wr (F.TMB_TRG_PER.PER 1 7) 0; !s.on (F.TMB_TRG_CTL.EN 1 7) && s.on (F.TMB_TRG_CTL.PERIODIC 1 7) && s.perBad 1 7,
    let s := (trg 0).wr (F.TMB_TRG_NS.NS 1 7) 999999999; s.mayWrite pf .tmb (some 1) && !s.on (F.TMB_TRG_CTL.EN 1 7) && decide (s.trgNs 1 7 < 1000000000) && !s.on (F.TMB_TRG_CTL.PERIODIC 1 7),
    let s := (trg 0).wr (F.TMB_TRG_PER.PER 1 7) 0; !s.on (F.TMB_TRG_CTL.PERIODIC 1 7) && s.perBad 1 7 && !(s.wr (F.TMB_TRG_PER.PER 1 7) 1000).perBad 1 7,
    let s := trg 1; s.trgLive 1 7 && s.canReach 1 (s.trgSec 1 7) (s.trgNs 1 7) && !s.on (F.TMB_TRG_CTL.PERIODIC 1 7) && !(trg 0).trgLive 1 7,
    let s := ((trg 1).setOn (F.TMB_TRG_CTL.PERIODIC 1 7)).wr (F.TMB_TRG_PER.PER 1 7) 1000; s.trgLive 1 7 && s.canReach 1 (s.trgSec 1 7) (s.trgNs 1 7) && !s.perBad 1 7,
    let s := (trg 1).updTime (fun t => { t with lateArm := [(15, true)] }); s.trgLive 1 7 && Table.get false s.time.lateArm (8 * 1 + 7),
    let s := timed (fun t => { t with starts := [aStart false] }); (s.time.starts.find? (fun q => q.half == 1 && q.ctx == 63 && !q.fired)) == some (aStart false) && s.canReach 1 0 0,
    let s := timed (fun t => { t with starts := [aStart true] }); (s.time.starts.find? (fun q => q.half == 1 && q.ctx == 63 && !q.fired)) == none,
    let s := onSlot ((atJob .running [(64, 2), (128, 95), (135, 1)]).updTime (fun t => { t with starts := [aStart false] })) 102 stPreload id; (s.jobSlots 63).contains 102 && halfOfSlot 102 == 1 &&
      s.slotState 102 == stPreload,
    !(live.clk 1).stopped && !(live.clk 1).gated && !live.time.refLost && Table.get 0 live.time.due 1 == 0 && live.engs == [] && noRef.time.refLost,
    let s := onSlot ((atJob .running [(64, 2), (128, 95), (135, 1)]).updTime (fun t => { t with starts := [aStart true] })) 102 stWait id; (s.jobSlots 63).contains 102 && s.slotState 102 == stWait &&
      s.time.starts == [aStart true] && s.engs.all (fun e => e.2.wait == .none),
    let s := asSig live 95 39; s.sigServed (32 + 7) && !live.sigServed (32 + 7),
    ((live.updClk 1 (fun c => { c with stopped := true })).clk 1).stopped && ((live.updClk 1 (fun c => { c with gated := true })).clk 1).gated && noRef.time.refLost] : List Bool).all id = true := by
  decide +kernel

theorem witness_TrunkPortsTakeEventFramesAndSendFrames : ([
    !live.trkUp 3 && port3.trkUp 3 && decide (1518 < 1515 + 4) && frameKind 0 == .other,
    frameKind (frame [(12, 0x88), (13, 0xF7), (14, 13)]) == .ptp 14 && ptpOther (frame [(12, 0x88), (13, 0xF7), (14, 13)]) 14 &&
      (let d := frame [(12, 0x88), (13, 0xF7), (14, 0), (17, 44)]; frameKind d == .ptp 14 && !ptpOther d 14),
    let d := frame [(12, 0x88), (13, 0xB5), (14, 1), (15, 2), (32, 7)]; frameKind d == .evf 14 && !evfReserved d 14,
    let d := frame [(12, 0x88), (13, 0xB5), (14, 1), (15, 2), (32, 8)]; frameKind d == .evf 14 && evfReserved d 14,
    let s := port3; s.trkUp 3 && s.evfOk 3 1 0 0 && s.evfOk 3 2 0 0xFFFFFFFF && s.evfOk 3 3 0 5 && !s.evfOk 3 1 1 0 && s.rd F.TMB_EVF_CFG.GROUP == 0,
    !port3.on (F.TMB_TRG_CTL.PERIODIC 1 7),
    let s := (port3.setOn (F.TMB_TRG_CTL.PERIODIC 1 7)).wr (F.TMB_TRG_PER.PER 1 7) 0; s.on (F.TMB_TRG_CTL.PERIODIC 1 7) && s.perBad 1 7,
    let s := port3.updClk 1 (fun c => { c with waiting := true }); let s := s.wr (F.GLB_ECLK_CTL.ALIGN_SRC 1) 1; s.applyPending 1 && s.eff (F.GLB_ECLK_CTL.ALIGN_SRC 1) == 1,
    let s := (atJob .running [(64, 2), (128, 95), (135, 1)]).updTime (fun t => { t with halts := [(0, 0)] }); let s := (onSlot s 102 stRun id).wr F.TMB_EVF_CTX.CTX (2 ^ 63); s.time.halts[0]? == some (0, 0) &&
      s.canReach s.refHalf 0 0 && s.rd F.TMB_EVF_CTX.CTX == 2 ^ 63 && (s.front 63).any (fun j => dType j.desc == 2 && j.phase == .running && !j.restart && !j.settled) && !s.allHalted 63,
    live.time.halts[0]? == none && (timed (fun t => { t with halts := [(0, 0)] })).rd F.TMB_EVF_CTX.CTX == 0,
    !live.time.launch.contains (3, 3),
    let s := timed (fun t => { t with launch := [(3, 3)] }); s.time.launch.contains (3, 3) && !s.on (F.TMB_LCH_CFG.TS_REQ 3 3),
    let s := (timed (fun t => { t with launch := [(3, 3)] })).setOn (F.TMB_LCH_CFG.TS_REQ 3 3); s.on (F.TMB_LCH_CFG.TS_REQ 3 3) && decide ((Table.get [] s.time.tsq 3).length < 64),
    port3.on (F.TMB_TRK_PHY.EN 3)] : List Bool).all id = true := by
  decide +kernel

/-- Unit u fenced. -/

def fencedUnit (s : State) (u : Nat) : State := s.wr (F.SUP_UNIT_STAT.STATE u) 1

/-- Both supervisors run their firmware; supervisor h's record is further f of that. -/

def sups (s : State) (f g : SupSt → SupSt) : State := (s.updSup 0 (fun x => f { x with booted := true })).updSup 1 (fun x => g { x with booted := true })

/-- Channel 255 in serial mode, locked, while ECLK runs. -/

def serialUp : State := ((live.wr (F.CHN_CFG.MODE 255) 1).setOn (F.CHN_STAT.SER_LOCK 255)).setOn (F.GLB_ECLK_CTL.LOCKED 1)

/-- Slot 103 of East is fenced and its logical engine 95 without a job waits for the spare 102. -/

def aSub (c : Option Nat) (moved : Bool) : Subst := ⟨91, 95, c, 0, moved⟩

def subst (c : Option Nat) (moved : Bool) : State := { up with substs := [aSub c moved] }

theorem witness_FaultsFenceUnitsAndReinstatementReturnsThem : ([
    !live.isFenced 103 && live.ctlAlive (unitBay 103) && (fencedUnit live 103).isFenced 103,
    let s := sups live id id; s.firmwareUp && !s.isFenced 103 && s.ctlAlive (unitBay 103) && !s.isFenced 217 && !s.isFenced (144 + 7) && !Table.get false s.hbMiss 7,
    let s := { sups live id id with hbMiss := [(7, true)] }; s.firmwareUp && !s.isFenced (144 + 7) && Table.get false s.hbMiss 7,
    serialUp.serial 255 && serialUp.on (F.CHN_STAT.SER_LOCK 255) && serialUp.on (F.GLB_ECLK_CTL.LOCKED (selH 255)) && !serialUp.isFenced (104 + 255 / 8),
    live.ctlAlive (31 / 4) && ({ live with vccCh := true } : State).vccCh && !({ live with vccCh := false } : State).vccCh,
    live.gatePasses 217 (live.ownFep 217) && !live.gatePasses 217 0 && !(fencedUnit live 103).gatePasses 103 (live.ownFep 103),
    live.mayWrite pf .sup && !live.on F.SUP_CTL.REINST && live.rd (F.SUP_UNIT_STAT.STATE 217) != 1 && (fencedUnit live 103).rd (F.SUP_UNIT_STAT.STATE 103) == 1 &&
      (fencedUnit live 143).rd (F.SUP_UNIT_STAT.STATE 143) == 1,
    let s := ((live.wr F.SUP_CTL.REINST_U 103).setOn F.SUP_CTL.REINST).wr (F.SUP_UNIT_STAT.STATE 103) 2; s.reinstU == 103 && s.on F.SUP_CTL.REINST && s.rd (F.SUP_UNIT_STAT.STATE 103) == 2 &&
      !live.on F.SUP_CTL.REINST] : List Bool).all id = true := by
  decide +kernel

theorem witness_SparesSubstituteAndTheLanternMovesByEpoch : ([
    let s := subst none false; (s.substs.find? (fun q => q.slot == 91 && !q.moved)) == some (aSub none false) && s.served && s.spareFor 91 == some 103,
    let s := (List.range 8).foldl (fun s b => s.wr (F.ENG_STAT.STATE (13 * b + 12)) stFenced) (subst none false); s.served && s.spareFor 91 == none &&
      (s.substs.find? (fun q => q.slot == 91 && !q.moved)) == some (aSub none false),
    let s := { runJob with substs := [aSub (some 63) false] }; (s.substs.find? (fun q => q.slot == 91 && !q.moved)) == some (aSub (some 63) false) && s.served && !s.drained 63,
    let s := { withJob up { job .running [(64, 2), (128, 95), (135, 1)] with restart := true } with substs := [aSub (some 63) true] }; (s.front 63).any (fun j => j.restart && !j.paused && jobLes j.desc == [95]) &&
      s.drained 63 && s.served && s.substs.all (fun q => q.ctx == some 63 && q.moved) && s.slotOf 95 == some 102,
    let s := sups live id id; (s.sup 1).booted && s.supUp 1 && s.supUp (1 - 1) && s.holder == 0 && decide ((s.sup 1).silent < 2) && !s.isFenced 216,
    let s := (sups up (fun x => { x with silent := 2 }) id); s.supUp 0 && s.supUp (1 - 0) && decide (2 ≤ (s.sup 0).silent) && s.on F.SUP_STAT.LANTERN_VALID && s.holder == 0,
    !(live.sup 0).claims,
    let s := sups live (fun x => { x with claims := true, epoch := 1 }) (fun x => { x with claims := true, epoch := 2 }); (s.sup 0).booted && (s.sup 1).booted && (s.sup 0).claims && (s.sup 1).claims &&
      decide ((s.sup (1 - 1)).epoch < (s.sup 1).epoch),
    let s := sups live id id; !s.on F.SUP_STAT.LANTERN_VALID && s.rd F.SUP_CUST_EPOCH.CUR == 0 && s.custodyPref == 0 && s.supUp 0 && s.supUp 1,
    let s := sups up id (fun x => { x with silent := 3 }); s.mayAdvance 1 && !(s.sup 1).retry && s.rd F.SUP_CUST_EPOCH.CUR != 0xFFFFFFFF,
    let s := sups up id (fun x => { x with silent := 3, retry := true }); s.mayAdvance 1 && (s.sup 1).retry,
    let s := sups up id (fun x => { x with claims := true, epoch := 5 }); (s.sup 1).claims && (s.sup 1).epoch != s.rd F.SUP_CUST_EPOCH.CUR && s.engs == [],
    let s := sups up id (fun x => { x with claims := true, epoch := 0 }); (s.sup 1).claims && (s.sup 1).epoch == s.rd F.SUP_CUST_EPOCH.CUR,
    let s := (live.setOn F.SUP_STAT.LANTERN_VALID).updSup 0 (fun x => { x with recon := true }); s.served && (s.sup s.holder).recon && (List.range 64).all (fun n => !s.ctxLive n)] : List Bool).all id = true := by
  decide +kernel

theorem witness_SnapshotsAreRaisedLatchedAndHeldAndWearCounts : ([
    !live.sigServed 48,
    live.mayWrite pf .snp && !bit ((live.wr F.SNP_CTL.SRC_EN 0).rd F.SNP_CTL.SRC_EN) 5 && (let s := asSig (live.wr F.SNP_CTL.SRC_EN 63) 95 48; s.sigServed 48 && bit (s.rd F.SNP_CTL.SRC_EN) 5 && bit (s.rd F.SNP_CTL.SRC_EN) 2 &&
      !s.on F.SNP_STAT.HELD && s.snap.lastTick == none),
    let s := { live.wr F.SNP_CTL.SRC_EN 63 with snap := { SnapSt.reset with lastTick := some 5 }, ticks := 69 }; s.snap.lastTick == some 5 && decide (5 + 64 ≤ s.ticks),
    let s := { live.wr F.SNP_CTL.SRC_EN 63 with snap := { SnapSt.reset with lastTick := some 5 }, ticks := 68 }; bit (s.rd F.SNP_CTL.SRC_EN) 5 && s.snap.lastTick == some 5 && decide (5 < s.ticks) &&
      decide (s.ticks < 5 + 64),
    !live.snap.due && (let s := ({ live with snap := { SnapSt.reset with due := true } } : State); s.snap.due && s.time.pairDue == none && (s.updTime (fun t => { t with pairDue := some 5 })).time.pairDue == some 5),
    (List.replicate 16 (0 : BitVec 16)).length == 16] : List Bool).all id = true := by
  decide +kernel

/-- A valid pointer block. -/

def aPtr : BitVec 512 :=
  let v := 0x50624B50 + 0x20000 * 2 ^ 64 + 0x20000 * 2 ^ 96 + 4 * 2 ^ 136
  BitVec.ofNat 512 (v + crc32c 0x3C v * 2 ^ 480)

/-- A load under way. -/

def loading (s : State) (src : Nat) (f : LoadSt → LoadSt) : State := { s with load := f { LoadSt.reset with active := true, source := src, service := s.inSvc } }

/-- The configuration ring is enabled and holds an entry. -/

def ring (s : State) : State := (((s.setOn F.CFG_HRING_CFG.EN).setOn F.HIF_LINK_STAT.UP).wr F.CFG_HRING_PI.PI 1)

/-- A PARTIAL load from the ring past its checks, with one segment whose hash field is k. -/

def segLoad (k : Nat) : State := loading live 3 (fun l => { l with checked := true, kind := 2, buf := ⟨k * 2 ^ (8 * 0x150), 1000, false⟩ })

theorem witness_ImagesAreLoadedCheckedAndFail : ([
    let s := inState 5; s.rd F.GLB_STATE.STATE == 5 && !bit (s.rd F.GLB_STRAP.STRAPS) 0 && !s.load.active && (ptrValid aPtr || ptrValid 0) && !(ptrValid 0 || ptrValid (aPtr + 1)),
    live.mayWrite pf .cfg && live.inSvc && !live.load.active && !live.load.due,
    let s := ring live; let e : BitVec 128 := BitVec.ofNat 128 (2 ^ 97 + 255 * 2 ^ 64); s.on F.CFG_HRING_CFG.EN && s.linkUp && s.rd F.CFG_HRING_PI.PI != s.rd F.CFG_HRING_CI.CI && bit e.toNat 97 &&
      !s.load.active && s.ringMay && decide (bits e.toNat 64 32 < 256) && (ring (inState 4)).ringMay && !(inState 4).inSvc,
    let s := loading (ring live) 3 id; let e : BitVec 128 := BitVec.ofNat 128 (255 * 2 ^ 64); !bit e.toNat 97 && s.load.active && s.load.source == 3 && decide (s.load.buf.len + bits e.toNat 64 32 < 256) &&
      s.on F.CFG_HRING_CFG.EN && s.linkUp && s.rd F.CFG_HRING_PI.PI != s.rd F.CFG_HRING_CI.CI,
    let s := loading live 3 id; s.load.active && !s.load.checked && s.load.service && !s.load.boot && s.mayWrite pf .cfg && s.load.source == 3,
    let s := loading live 1 id; s.load.active && !s.load.checked && s.load.service && !s.load.boot && s.load.source == 1 && (loading live 2 id).load.source == 2,
    let s := loading live 3 id; s.headCheck == none,
    let s := loading live 3 (fun l => { l with buf := ⟨0, 256, false⟩ }); s.load.active && !s.load.checked && s.load.source == 3 && s.headCheck == some 2 && s.load.service && !s.load.boot,
    let s := loading live 3 (fun l => { l with checked := true, kind := 2 }); s.load.checked && s.load.kind == 2 && !s.load.boot && s.load.service && decide (s.load.buf.len < s.load.pos + imgField s.load.buf 320 4 + 16) &&
      !s.load.last,
    let s := segLoad 1; s.load.active && s.load.checked && s.load.kind == 2 && s.load.source == 3 && !s.load.boot && s.load.service && imgField s.load.buf 320 4 == 0 && s.load.segs == 0 &&
      decide (s.load.pos + 0 + 16 ≤ s.load.buf.len) && imgField s.load.buf 336 32 == 1 && imgField (segLoad 0).load.buf 336 32 == 0 && imgField s.load.buf 0 16 == imgField (segLoad 0).load.buf 0 16 &&
      parseRecs 1 0 0 == some [] && (s.applyRecs 0 true s.load.target []).1 == 0] : List Bool).all id = true := by
  decide +kernel

/-- The content frame of a ROM of quarter 127, and Pruners that compare it with a reference. -/

def romFa : Nat := 2 ^ 30 + 127 * 2 ^ 23 + 24 * 2 ^ 18

def pruning : State := { ((live.setOn (F.CFG_PRN_CTL.EN 0)).setOn (F.CFG_PRN_CTL.EN 1)).wr (F.DMC_HALF.NIF 1) 4 with frameCrcs := [(romFa, 1)] }

theorem witness_DesignsStartAndPrunersCheckFrames : ([
    let s := (inState 6).setOn F.CFG_DONE.RELEASED; s.rd F.GLB_STATE.STATE == 6 && s.on F.CFG_DONE.RELEASED && !s.on F.CFG_DONE.IGNORE,
    !live.load.due && live.rd F.GLB_STATE.STATE != 6 && live.inSvc && ({ inState 6 with load := { LoadSt.reset with qualified := true } } : State).load.qualified && (inState 6).rd F.GLB_STATE.STATE == 6 && !((inState 6).setOn (F.FAB_FCG_CFG.EN 1 3)).fcgsLocked &&
      (inState 6).fcgsLocked,
    let s := pruning; s.prunerOn 1 && s.prunable romFa && faQ romFa / 64 == 1 && !s.prnExcl.contains romFa && s.prunerCopy 1 romFa false false == none && !s.prunerReads romFa 0 false,
    let s := pruning; s.on (F.CFG_PRN_CTL.EN 0) && !s.on (F.CFG_PRN_STAT.DISABLED 0) && s.prunable romFa && faQ romFa / 64 == 1 - 0 && !s.prnExcl.contains romFa && s.prunerCopy 1 romFa false false == none &&
      !s.on (F.CFG_PRN_STAT.DISABLED 1),
    !(live.clr (F.CFG_PRN_CTL.EN 1)).prunerOn 1 && (live.setOn (F.CFG_PRN_CTL.EN 1)).prunerOn 1] : List Bool).all id = true := by
  decide +kernel

theorem witness_PinsSwitchHoldAndMeasure : ([
    let s := live.updPin 95 (fun p => { p with causes := 4 }); s.mayWrite pf .gpp (some 1) && (s.pin 95).causes % 8 != 0,
    let s := (live.updPin 95 (fun p => { p with causes := 8 })).setOn (F.GPP_PIN.SWITCHING 95); (s.pin 95).causes % 8 == 0 && s.on (F.GPP_PIN.SWITCHING 95) && (s.pin 95).next == none,
    let s := live.updPin 95 (fun p => { p with causes := 0 }); (s.pin 95).causes % 8 == 0 && !s.on (F.GPP_PIN.SWITCHING 95) && bits 2 0 4 != s.rd (F.GPP_PIN.FUNC 95) &&
      (let v := s.rd (F.GPP_PIN.FUNC 95) + 16 * s.rd (F.GPP_PIN.SIG 95); bits v 0 4 == s.rd (F.GPP_PIN.FUNC 95) && bits v 4 7 == s.rd (F.GPP_PIN.SIG 95)),
    !live.on (F.GPP_PIN.SWITCHING 95) && live.mayWrite pf .gpp && !live.on F.GPP_CTL.HOLD && (live.setOn F.GPP_CTL.HOLD).on F.GPP_CTL.HOLD,
    let s := (live.wr (F.GPP_PIN.FUNC 91) 4).updPin 91 (fun p => { p with causes := 0 }); 24 * (15 / 4) + 16 + 15 % 4 == 91 && s.pinFunc 91 == 4 && s.pinLive 91 && live.pinFunc 91 != 4] : List Bool).all id = true := by
  decide +kernel

/-- A valid copy of the firmware directory. -/

def aDir : BitVec 512 :=
  let v := 0x44624B50 + 0x20000 * 2 ^ 64 + 0x20000 * 2 ^ 96
  BitVec.ofNat 512 (v + crc32c 0x3C v * 2 ^ 480)

/-- In BOOT at a phase. -/

def booting (p : Nat) : State := (inState 1).wr F.GLB_BOOT_STAT.PHASE p

/-- A header of the port from its first 54 bits, its CRC right. -/

def hdr (v : Nat) : BitVec 62 := BitVec.ofNat 62 (v + onWire (crc8 54 v) * 2 ^ 54)

/-- The port at a level. -/

def portAt (l : Nat) : State := live.wr F.DBG_PORT_STAT.LEVEL l

/-- The port's record is f of what it is after reset. -/

def hjOf (f : HjSt → HjSt) : State := { portAt 3 with hj := f live.hj }

/-- A supervisor serves, device in SELFTEST. -/

def testing : State := inState 2

theorem witness_ResetsAndBootFollowTheirSteps : ([
    live.mayReset pf && !live.mayReset (.sup 1) && (portAt 3).mayReset .port && !(portAt 2).mayReset .port && !live.mayReset (.fn 1),
    !live.por && State.reset.por && State.reset.strapOver == none && (({ State.reset with strapOver := some (true, false) } : State).strapOver) == some (true, false),
    let s := booting 0; !s.por && s.rd F.GLB_STATE.STATE == 1 && s.rd F.GLB_BOOT_STAT.PHASE == 0 && (dirValid aDir || dirValid 0) && !(dirValid 0 || dirValid (aDir + 1)),
    let s := booting 3; s.mayReset pf && s.rd F.GLB_STATE.STATE == 1 && s.rd F.GLB_BOOT_STAT.PHASE == 3,
    let s := booting 2; s.rd F.GLB_BOOT_STAT.PHASE == 2 && !s.boot.east && s.fwCheck s.boot.img == 0x0A && s.boot.golden == none && s.rd F.GLB_BOOT_STAT.SOURCE != 3,
    let s := { booting 2 with boot := { live.boot with golden := some ⟨0, 0, true⟩, img := ⟨0, 256, false⟩ } }; s.boot.golden == some ⟨0, 0, true⟩ && s.fwCheck s.boot.img == 2,
    let s := { booting 2 with boot := { live.boot with east := true } }; s.rd F.GLB_BOOT_STAT.PHASE == 2 && s.boot.east && s.fwCheck ((none : Option Img).getD s.boot.img) == 0x0A && s.boot.tries == 0,
    let s := { booting 2 with boot := { live.boot with east := true, tries := 1 } }; s.boot.tries != 0 && s.fwCheck ((some (⟨0, 100, true⟩ : Img)).getD s.boot.img) == 0x0B] : List Bool).all id = true := by
  decide +kernel

theorem witness_SelfTestFusesAndReportsEndAsStated : ([
    let x : SelfTest := ⟨0, [], [], [], List.replicate 8 0, [], 5000⟩; testing.rd F.GLB_STATE.STATE == 2 && !testing.time.refLost && x.other == 0 && x.units == [] && x.banks == [] && x.links == [] &&
      testing.substs == [] && !(testing.isFenced 216 && testing.isFenced 217),
    let x : SelfTest := ⟨0, [], [], [], List.replicate 8 0, [], 5000⟩; (List.range 8).all (fun n => x.geom.getD n 0 == x.geom.getD (n / 4 * 4) 0),
    let x : SelfTest := ⟨0, [], [], [], [0, 0, 0, 0, 0, 0, 0, 1], [], 0⟩; x.geom.getD (4 * 1 + 3) 0 != x.geom.getD (4 * 1) 0 && x.other == 0 && x.units == [] && x.banks == [] && x.links == [],
    let x : SelfTest := ⟨1, [], [], [], List.replicate 8 0, [], 0⟩; bit x.other.toNat 0,
    let s := testing.updTime (fun t => { t with refLost := true }); s.rd F.GLB_STATE.STATE == 2 && s.time.refLost && testing.rd F.GLB_STATE.STATE == 2 && !testing.time.refLost,
    live.mayFuse pf && (0x15 : BitVec 8).toNat ≥ 0x15 && (0x14 : BitVec 8).toNat < 0x15 && (1 : BitVec 8).toNat != 0,
    let s := { (live.wr F.SEC_PROG_CTL.FIELD 3) with fuseArm := true }; s.mayFuse pf && !s.fused 3 && s.fuseArm,
    let s := { (live.wr F.SEC_PROG_CTL.FIELD 3) with fuses := [(3, some 7)] }; s.mayFuse pf && s.fused 3,
    let s := live.wr F.SEC_PROG_CTL.FIELD 0x14; s.mayFuse pf && !s.fused 0x14 && !s.fuseArm && (let s := ({ (live.wr F.SEC_PROG_CTL.FIELD 0x15) with fuseArm := true } : State); s.mayFuse pf && !s.fused 0x15 && s.fuseArm && s.rd F.SEC_PROG_CTL.FIELD == 0x15),
    (portAt 3).portLevel == 3 && !((portAt 3).fused 0x13 && !(portAt 3).fused 0x14),
    live.mayWrite pf .sec && !live.on F.SEC_ATT_CTL.BUSY && decide (4 ≤ live.rd F.GLB_STATE.STATE) && (List.range 8).all (fun i => decide (live.rd (F.SEC_ATT_NONCE.NONCE i) < 2 ^ 32)),
    live.attest == none && ({ live with attest := some ⟨0, 0, 0⟩ } : State).attest == some ⟨0, 0, 0⟩,
    let s := live.updSup 0 (fun x => { x with booted := true }); !s.por && decide (2 ≤ s.rd F.GLB_STATE.STATE) && s.supUp 0] : List Bool).all id = true := by
  decide +kernel

theorem witness_PortRequestsAreAnsweredByTheirRules : ([
    live.portIdle && !(hjOf (fun x => { x with write := some (0, 0, 1) })).portIdle && !hCrcOk 0 && hCrcOk (hdr 0) && hOp (hdr 0) == 0 && hOp (hdr 3) == 3 && hOp (hdr 1) == 1,
    let h := hdr (1 + 1 * 4); hOp h == 1 && live.portIdle && hCrcOk h && live.portRefuses (hSpace h) false (hConsume h && !false) (hAddr h) (hWords h),
    let h := hdr (2 + 5 * 4); let s := portAt 3; hOp h == 2 && s.portIdle && hCrcOk h && !s.portRefuses (hSpace h) true false (hAddr h) (hWords h) && hSpace h == 5,
    let h := hdr (1 + 7 * 4); let s := portAt 3; hOp h == 1 && hCrcOk h && !s.portRefuses (hSpace h) false (hConsume h && !false) (hAddr h) (hWords h) && decide (6 ≤ hSpace h),
    let h := hdr (1 + 2 * 2 ^ 14); hOp h == 1 && hCrcOk h && hSpace h == 0 && hAddr h % 4 != 0 && !live.portRefuses (hSpace h) false (hConsume h && !false) (hAddr h) (hWords h),
    let h := hdr (1 + 8 * 2 ^ 14); hSpace h == 0 && hAddr h % 4 == 0 && hWords h == 1 && hCrcOk h && !live.portRefuses 0 false false (hAddr h) 1 && !live.portRetry 0 (hAddr h) (hWords h) &&
      (live.setOn F.DBG_AUTH_CTL.BUSY).portRetry 0 (hAddr h) (hWords h),
    let h := hdr (2 + 8 * 2 ^ 14); hOp h == 2 && hSpace h == 0 && hAddr h % 4 == 0 && hCrcOk h && !live.portRefuses 0 true false (hAddr h) (hWords h) && !live.portRetry 0 (hAddr h) (hWords h),
    let s := hjOf (fun x => { x with write := some (0, 0x200, 1) }); !s.por && s.hj.write == some (0, 0x200, 1) && [(7 : Word32)].length == 1 && (BitVec.ofNat 8 (crc8 32 7)).toNat == crc8 32 7 &&
      (0 : Byte).toNat != crc8 32 7,
    live.hj.busy == none && (hjOf (fun x => { x with busy := some (255, none) })).hj.busy == some (255, none)] : List Bool).all id = true := by
  decide +kernel

theorem witness_DebugLevelsRunControlAndTraceFollowTheirRules : ([
    !live.por && !live.on F.DBG_AUTH_CTL.BUSY && decide (live.hj.backoff ≤ live.ticks) && (let s := hjOf (fun x => { x with backoff := 5 }); decide (s.ticks < s.hj.backoff)),
    (hjOf (fun x => { x with fresh := some 0 })).hj.fresh == some 0 && live.hj.fresh == none,
    (live.setOn F.DBG_AUTH_CTL.BUSY).on F.DBG_AUTH_CTL.BUSY && (live.setOn F.DBG_AUTH_CTL.BUSY).hj.check == none && !live.on F.DBG_AUTH_CTL.BUSY,
    decide (live.leaderOf 103 < 104) && !live.mayRun && (portAt 2).mayRun && (portAt 2).slotState 0 == 0,
    let s := runJob.wr F.DBG_PORT_STAT.LEVEL 2; s.mayRun && s.slotState 102 != 0 && (s.eng 102).ctx.isSome && !s.inMon 102 && !s.on (F.DBG_ENG_CTL.JOB 102) && s.leaderOf 102 == 102,
    let s := (runJob.wr F.DBG_PORT_STAT.LEVEL 2).setOn (F.DBG_ENG_STAT.IN_MON 102); s.mayRun && s.inMon 102 && (s.eng 102).ctx.isSome && !(s.on (F.DBG_ENG_CTL.ALIGN 102) && s.on (F.DBG_ENG_CTL.JOB 102)) &&
      !s.failover (halfOfSlot 102) && (((s.wr (F.SUP_UNIT_STAT.STATE 217) 1).wr F.SUP_STAT.HOLDER 1).failover (halfOfSlot 102)) && ((s.updEng 102 (fun e => { e with monBack := 4, lastCyc := 3 })).eng 102).npc == none,
    let s := (runJob.wr F.DBG_PORT_STAT.LEVEL 2).setOn (F.DBG_ENG_STAT.DEFERRED_LOCKED 102); s.mayRun && s.on (F.DBG_ENG_STAT.DEFERRED_LOCKED 102),
    let s := (runJob.setOn (F.DBG_ENG_STAT.PENDING 102)).setOn (F.ENG_STAT.LOCKED 102); s.running 102 && s.on (F.DBG_ENG_STAT.PENDING 102) && s.on (F.ENG_STAT.LOCKED 102),
    let s := runJob.wr (F.ENG_IRQ.PEND 102) 32; s.running 102 && !s.inMon 102 && s.boundaryFree 102 && bit (s.takeable 102) 5 && s.gang 102 == [102] && s.engs.all (fun e => !e.2.dbgAlign),
    live.mayWrite pf .dbg (some 1) && !live.on (F.DBG_ENG_CTL.TRC_EN 103) && decide (4 % 8 ≠ 0),
    let s := ((live.setOn (F.DBG_ENG_CTL.TRC_EN 103)).wr (F.DBG_ENG_STIM.EN 103) (2 ^ 31)).wr (F.DBG_TRC_CTL.DEST 1) 2; s.mayWrite pf .dbg (some 1) && s.on (F.DBG_ENG_CTL.TRC_EN 103) &&
      bit (s.rd (F.DBG_ENG_STIM.EN 103)) (248 / 8) && s.rd (F.DBG_TRC_CTL.DEST 1) == 2 && decide ((s.trc 1).fifo.length < 256) && (s.trc 1).lost == 0,
    live.rd (F.DBG_TRC_CTL.DEST 1) != 1 && (live.wr (F.DBG_TRC_CTL.DEST 1) 2).rd (F.DBG_TRC_CTL.DEST 1) == 2] : List Bool).all id = true := by
  decide +kernel

/-- As inD, with the program counter and the entry at address a in the monitor. -/

def inDAt (a : Nat) (x : Entry) : State :=
  (({ runJob with seqMem := Table.set 0 [] (0x20000 + a) x }.updEng 102 (fun e => { e with cache := [(a / 16 % 128, 1 + a / 2048)] })).setPc 102 a).setOn (F.DBG_ENG_STAT.IN_MON 102)

theorem witness_SequenceAddressesWrap : ([
    let s := inDAt 0x1FFFF 0; decide (s.pc 102 < 0x20000) && enters s .next && (s.eng 102).iretDs == 0 && (s.eng 102).liveRep == 0 && (s.eng 102).liveDsc == 0 && s.pc 102 == 0x1FFFF,
    let s := inDAt 0x1FFFE 0; decide (s.pc 102 < 0x1FFFF) && enters s .next && (s.eng 102).iretDs == 0,
    let s := inDAt 0x1FFFD (ent 0x18 0 0); enters s .call && eScnd (s.entryAt 102) == 0 && s.condVal 102 (eScnd (s.entryAt 102)) (eK (s.entryAt 102)) 0 && decide ((s.eng 102).stk.length < 16) && s.pc 102 == 0x1FFFD,
    let s := inDAt 0x1FFFC (ent 0x18 0 0); enters s .call && decide (s.pc 102 < 0x1FFFD)] : List Bool).all id = true := by
  decide +kernel

theorem witness_ScrambleReplacesLowBitsAndFlipsHigh : ([
    decide (live.scrWord 103 (0xFFFFFF % 4096) < 2 ^ 24) && (live.scrPut 103 4095 0xFFFFFF).scrWord 103 4095 == 0xFFFFFF && (live.scrPut 103 4095 0xFFFFFF).scrWord 103 4094 == 4094] : List Bool).all id = true := by
  decide +kernel

theorem witness_PortCrcFollowsItsLoop : ([
    hCrcOk (hdr 5) && !hCrcOk (hdr 5 + 1) && decide (crc8 8 0x31 < 256)] : List Bool).all id = true := by
  decide +kernel

theorem witness_DefaultSpareMapAfterEveryReset : ([
    decide (7 < 8) && decide (11 < 12) && State.reset.slotOf (12 * 7 + 11) == some (13 * 7 + 11)] : List Bool).all id = true := by
  decide +kernel

theorem witness_StepRunsTheCommandInFront : ([
    ({ live with pending := [.next 0 0] } : State).pending == [.next 0 0]] : List Bool).all id = true := by
  decide +kernel

theorem witness_CanonicalFormIsKeptByEveryStep : ([
    State.reset.canonical && live.canonical && (inD 5).canonical && (live.scrPut 103 4095 0).canonical] : List Bool).all id = true := by
  decide +kernel

/-! ## Commands that WellFormed refuses -/

theorem test_wf_context_reconcile : Instr.wf (.contextReconcile 0 0 0 [0] []) = false := by decide
theorem test_wf_sensor_sample : Instr.wf (.sensorSample []) = false := by decide
theorem test_wf_window_read : Instr.wf (.dramWindowRead pf 0 0 0) = false ∧ Instr.wf (.dramWindowRead pf 0 5 4) = false := by decide
theorem test_wf_window_write : Instr.wf (.dramWindowWrite pf 0 0 0 0) = false ∧ Instr.wf (.dramWindowWrite pf 0 1 8 0) = false := by decide
theorem test_wf_bank_access : Instr.wf (.bankAccess 0 0 pf 0 0 none .clean) = false ∧
    Instr.wf (.bankAccess 0 0 pf 0x1FFFFFF 2 none .clean) = false := by decide
theorem test_wf_trunk_frame : Instr.wf (.trunkFrameRx 0 2001 0) = false ∧ Instr.wf (.trunkFrameRx 0 1 256) = false := by decide +kernel
theorem test_wf_evf_halt : Instr.wf (.evfHalt 0 0 0 0 1000000000) = false := by decide
theorem test_wf_evf_start : Instr.wf (.evfStart 0 0 0 0 1000000000 0) = false := by decide
theorem test_wf_evf_sync : Instr.wf (.evfSync 0 0 0 0 1000000000) = false := by decide
theorem test_wf_wear_hour : Instr.wf (.wearHour 0 false []) = false := by decide
theorem test_wf_selftest_geom : Instr.wf (.selftestDone ⟨0, [], [], [], [], [], 0⟩) = false := by decide
theorem test_wf_selftest_monitor : Instr.wf (.selftestDone ⟨0, [], [], [], List.replicate 8 0, List.replicate 1025 0, 0⟩) = false := by
  decide +kernel
theorem test_wf_selftest_ms : Instr.wf (.selftestDone ⟨0, [], [], [], List.replicate 8 0, [], 4096⟩) = false := by decide
theorem test_wf_write_data : Instr.wf (.hjelzWriteData [] 0 none) = false ∧ Instr.wf (.hjelzWriteData (List.replicate 257 0) 0 none) = false := by
  decide +kernel
theorem test_wf_stimulus : Instr.wf (.stimulusWrite none 0 0 0 0) = false := by decide

/-! ## Hypotheses that speak of every index, or rest on a function without a body -/

/-- No line of bank memory has a copy elsewhere after reset. -/
theorem witness_no_holders (h l : Nat) : live.holders h l = [] := by
  have e : live.dirc = [] := by decide +kernel
  unfold State.holders
  rw [e]
  rfl

/-- No engine waits for a trigger, and no cell of the fabric sets its flip-flops asynchronously, after reset. -/
theorem witness_no_waitt (n k : Nat) : (live.eng n).wait ≠ .waitt k := by
  have e : live.engs = [] := by decide +kernel
  have w : (live.eng n).wait = Wait.none := by
    unfold State.eng
    rw [e]
    rfl
  rw [w]
  exact Wait.noConfusion
theorem witness_no_async (u k : Nat) : bit (live.ctlSet u k) 5 = false := by
  have e : live.fcfg = [] := by decide +kernel
  have w : live.cfgW u 48 = 0 := by
    unfold State.cfgW
    rw [e]
    rfl
  unfold State.ctlSet
  rw [w]
  simp [bit, bits]

/-- Whatever SHA-256 answers, a PARTIAL load exists whose segment does not hash to its manifest's value. -/
theorem witness_segment_mismatch : ∃ k, (segLoad k).load.checked = true ∧
    Config.sha256 16 (imgField (segLoad k).load.buf 0 16) ≠ imgField (segLoad k).load.buf 336 32 := by
  have h0 : imgField (segLoad 0).load.buf 336 32 = 0 := by decide +kernel
  have h1 : imgField (segLoad 1).load.buf 336 32 = 1 := by decide +kernel
  have h2 : imgField (segLoad 1).load.buf 0 16 = imgField (segLoad 0).load.buf 0 16 := by decide +kernel
  by_cases h : Config.sha256 16 (imgField (segLoad 0).load.buf 0 16) = 0
  · exact ⟨1, by decide +kernel, by rw [h1, h2, h]; decide⟩
  · exact ⟨0, by decide +kernel, by rw [h0]; exact h⟩

/-- Where SHA-256 answers k for a segment, the manifest field k agrees with it: the hash hypothesis is met by that k. -/
theorem witness_segment_match (k : Nat) (hk : k = 0 ∨ k = 1) (h : Config.sha256 16 (imgField (segLoad k).load.buf 0 16) = k) :
    Config.sha256 16 (imgField (segLoad k).load.buf 0 16) = imgField (segLoad k).load.buf 336 32 := by
  have h0 : imgField (segLoad 0).load.buf 336 32 = 0 := by decide +kernel
  have h1 : imgField (segLoad 1).load.buf 336 32 = 1 := by decide +kernel
  rcases hk with rfl | rfl
  · rw [h0]; exact h
  · rw [h1]; exact h

/-- A frame of a ROM retained in DRAM: a Pruner's copy of it is what was sealed, and the frame written from it reads back right. -/
theorem witness_pruner_repairs : ∃ s : State, s.prunerOn 1 = true ∧ s.on (F.CFG_PRN_CTL.EN 0) = true ∧
    s.on (F.CFG_PRN_STAT.DISABLED 0) = false ∧ s.prunable romFa = true ∧ faQ romFa / 64 = 1 ∧ s.prnExcl.contains romFa = false ∧
    s.prunerCopy 1 romFa true true = some 0 ∧ s.prunerReads romFa 0 true = true ∧ s.prunerReads romFa 0 false = false := by
  have e : ∃ P : State, P = pruning := ⟨_, rfl⟩
  obtain ⟨P, e⟩ := e
  have f1 : P.prunerOn 1 = true := by rw [e]; decide +kernel
  have f2 : P.on (F.CFG_PRN_CTL.EN 0) = true := by rw [e]; decide +kernel
  have f3 : P.on (F.CFG_PRN_STAT.DISABLED 0) = false := by rw [e]; decide +kernel
  have f4 : (faOk romFa && (faType romFa == 0 || (faType romFa == 1 && P.isRom (faTile romFa))) && !P.underLoad (faQ romFa)) = true := by
    rw [e]; decide +kernel
  have f5 : P.rd (F.DMC_HALF.NIF 1) = 4 := by rw [e]; decide +kernel
  have f6 : P.dmcs = [] ∧ P.poison = [] ∧ P.restoring = [] ∧ P.prnExcl = [] := by rw [e]; decide +kernel
  have f7 : faQ romFa / 64 = 1 := by decide +kernel
  have f8 : retAt romFa % 64 = 0 := by decide +kernel
  have f9 : faType romFa = 1 := by decide +kernel
  clear e
  generalize romFa = fa at *
  obtain ⟨x, hx⟩ : ∃ x, crc32c (frameLen fa) ((P.frameWrite fa 0).frameNow fa) = x := ⟨_, rfl⟩
  obtain ⟨d, hd⟩ : ∃ d, Memory.writeN [] (dramKey 1 (retAt fa)) (frameLen fa + 16) (P.sealFrame fa 0) = d := ⟨_, rfl⟩
  have hr : ({ P with dram := d, frameCrcs := [(fa, x + 1)] } : State).prunerReads fa 0 true = true := by
    unfold State.prunerReads
    rw [State.frameNow_content P d _ fa 0 f9, hx]
    simp
  have hc : ({ P with dram := d, frameCrcs := [(fa, x + 1)] } : State).prunerCopy 1 fa true true = some 0 := by
    have r : ({ P with dram := d, frameCrcs := [(fa, x + 1)] } : State).retCopy 1 fa true = some 0 :=
      State.retCopy_sealFrame _ 1 fa 0 f5 f6.1 f6.2.1 hd.symm f8 (Nat.two_pow_pos _)
    unfold State.prunerCopy
    rw [r]
    show (if Table.get false P.restoring 1 then none else some 0 : Option Nat).or _ = some 0
    rw [f6.2.2.1]
    rfl
  have hp : ({ P with dram := d, frameCrcs := [(fa, x + 1)] } : State).prunable fa = true := by
    have : ({ P with dram := d, frameCrcs := [(fa, x + 1)] } : State).prunable fa =
        (faOk fa && (faType fa == 0 || (faType fa == 1 && P.isRom (faTile fa))) && Table.get 0 [(fa, x + 1)] fa != 0 && !P.underLoad (faQ fa)) := rfl
    rw [this]
    simpa using f4
  refine ⟨{ P with dram := d, frameCrcs := [(fa, x + 1)] }, f1, f2, f3, hp, f7, ?_, hc, hr, Bool.false_and _⟩
  show P.prnExcl.contains fa = false
  rw [f6.2.2.2]
  rfl

/-! ## The spec's own words -/

/-- R191: with TC = 0 an offset is BASE, whatever the temperature. -/
theorem test_offset_without_tc : ofsOf { factoryCal 0 with base := [100, 0, 0, 0], tc := [0, 0, 0, 0] } 0 500 = 100 := by decide +kernel

/-- R119: XS of X = 0xABC123 under T = 0x001456. -/
theorem test_scramble : scramble 0x001456 0xABC123 = 0xABD456 := by decide +kernel

/-- R87: the address after 0x1_FFFF is 0. -/
theorem test_wrap : seqWrap 0x20000 = 0 := by decide

/-- R373: from stop 3 to stop 16 the counter-clockwise way of 7 hops is the shorter. -/
theorem test_ring_way : ringWay 3 16 = (7, 1) := by decide

end Sys2Proof.Tests
end

/-! PROOFS. The spare map after a device reset (R73). -/

section

namespace Sys2Proof.Machine

/-! ## What a device reset leaves in ENG_MAP.LE -/

/-- The field lies outside the registers of the slots, PE0 to PE103, in the engine block. -/
abbrev Fld.OutsideSlots (f : Fld) : Prop := f.key < 0x2000000 ∨ 0x2D00000 ≤ f.key

theorem State.rd_engMapLe_wr (s : State) {n : Nat} (hn : n < 104) {f : Fld} (v : Nat) (h : f.OutsideSlots) :
    (s.wr f v).rd (F.ENG_MAP.LE n) = s.rd (F.ENG_MAP.LE n) :=
  State.rd_wr_ne s v (show 0x2000040 + n * 0x20000 ≠ f.key by omega)

theorem State.rd_engMapLe_showFuses (s : State) {n : Nat} (hn : n < 104) :
    s.showFuses.rd (F.ENG_MAP.LE n) = s.rd (F.ENG_MAP.LE n) := by
  unfold State.showFuses
  simp (disch := decide) only [State.rd_engMapLe_wr _ hn]

/-- The fields that a device reset takes over from the part say nothing of the slots. -/
theorem State.rd_engMapLe_partFields (s t : State) {n : Nat} (hn : n < 104) :
    (t.each partFields (fun t f => t.wr f (s.rd f))).rd (F.ENG_MAP.LE n) = t.rd (F.ENG_MAP.LE n) := by
  simp (disch := decide) only [partFields, State.each_cons, State.each_nil, State.rd_engMapLe_wr _ hn]

theorem State.rd_engMapLe_fspRates (t : State) {n : Nat} (hn : n < 104) :
    (t.each (List.range 8) (fun t k => t.wr (F.DMC_FSP.RATE k 1) (t.fspReset 1))).rd (F.ENG_MAP.LE n) =
      t.rd (F.ENG_MAP.LE n) :=
  State.each_same (fun t => t.rd (F.ENG_MAP.LE n)) t _ _ fun t k =>
    t.rd_engMapLe_wr hn _ (show _ ∨ 0x2D00000 ≤ 0xA000060 + k * 0x80000 + 1 * 0x20 by omega)

/-- Of the reset values, those of ENG_MAP.LE are the default map. -/
theorem resetRegs_engMapLe : ∀ n < 104, Table.get 0 resetRegs (F.ENG_MAP.LE n).key = defaultLe n := by
  decide +kernel

theorem State.rd_engMapLe_deviceReset (s : State) (c : Nat) (ov : Option (Bool × Bool)) {n : Nat} (hn : n < 104) :
    (s.deviceReset c ov).rd (F.ENG_MAP.LE n) = defaultLe n := by
  unfold State.deviceReset
  extract_lets keep src t1 t2 t3 t4 t5 q
  have h1 : t1.rd (F.ENG_MAP.LE n) = defaultLe n := resetRegs_engMapLe n hn
  have h3 : t3.rd (F.ENG_MAP.LE n) = t2.rd (F.ENG_MAP.LE n) := by
    unfold t3
    simp (disch := decide) only [State.rd_engMapLe_wr _ hn]
  have h4 : t4.rd (F.ENG_MAP.LE n) = t3.rd (F.ENG_MAP.LE n) := State.rd_engMapLe_partFields s t3 hn
  have h5 : t5.rd (F.ENG_MAP.LE n) = t4.rd (F.ENG_MAP.LE n) := State.rd_engMapLe_fspRates t4 hn
  clear_value t5
  calc _ = ({ q.2 with retKey := q.1 } : State).showFuses.rd (F.ENG_MAP.LE n) :=
        State.rd_engMapLe_wr _ hn _ (by decide)
    _ = t5.rd (F.ENG_MAP.LE n) := State.rd_engMapLe_showFuses _ hn
    _ = defaultLe n := h5.trans (h4.trans (h3.trans h1))

/-! ## The default map -/

/-- No entry of the default map is a reserved encoding of ENG_MAP.LE. -/
theorem defaultLe_not_reserved {n : Nat} (hn : n < 104) : ¬ (0x60 ≤ defaultLe n ∧ defaultLe n < 0x7F) := by
  unfold defaultLe; split <;> omega

/-- The slots that the default map gives a logical engine, each once. -/
theorem defaultLe_eq_iff {b k n : Nat} (hb : b < 8) (hk : k < 12) :
    defaultLe n = 12 * b + k ↔ n = 13 * b + k := by
  unfold defaultLe; split <;> omega

theorem defaultLe_spare (b : Nat) : defaultLe (13 * b + 12) = 0x7F := if_pos (by omega)

theorem State.leOf_deviceReset (s : State) (c : Nat) (ov : Option (Bool × Bool)) {n : Nat} (hn : n < 104) :
    (s.deviceReset c ov).leOf n = defaultLe n := by
  unfold State.leOf
  rw [State.rd_engMapLe_deviceReset s c ov hn]
  exact if_neg (defaultLe_not_reserved hn)

theorem State.slotOf_deviceReset (s : State) (c : Nat) (ov : Option (Bool × Bool)) {b k : Nat} (hb : b < 8) (hk : k < 12) :
    (s.deviceReset c ov).slotOf (12 * b + k) = some (13 * b + k) := by
  have hlt : 13 * b + k < 104 := by omega
  have hle : ∀ n < 104, (s.deviceReset c ov).leOf n = 12 * b + k ↔ n = 13 * b + k := fun n hn => by
    rw [State.leOf_deviceReset s c ov hn, defaultLe_eq_iff hb hk]
  unfold State.slotOf
  rw [List.find?_range_eq_some]
  refine ⟨decide_eq_true ((hle _ hlt).2 rfl), List.mem_range.2 hlt, fun j hj => ?_⟩
  simp only [hle j (by omega), Bool.not_eq_true', decide_eq_false_iff_not]
  omega

/-- Settles O55: no write of the reset touches the slots' registers, and the reset values of ENG_MAP.LE are the default map,
which gives each logical engine one slot. -/
theorem defaultSpareMapAfterEveryReset : Obligations.DefaultSpareMapAfterEveryReset := by
  intro s c ov b k hb hk
  have hspare : 13 * b + 12 < 104 := by omega
  refine ⟨State.slotOf_deviceReset s c ov hb hk, ?_, ?_, ?_, ?_, hspare, by omega⟩
  · rw [State.leOf_deviceReset s c ov (by omega)]
    exact (defaultLe_eq_iff hb hk).2 rfl
  · rw [State.leOf_deviceReset s c ov hspare, defaultLe_spare]
  · unfold bayOfSlot; omega
  · unfold halfOfSlot; split <;> omega

end Sys2Proof.Machine
end

/-! PROOFS. What holds, vectors and debug requests leave of a program's flow: program counters, stacks, transfers under way and
what conditions read (R87, R89, R95, R99, R105). -/

section

namespace Sys2Proof.Machine

/-! ## The flow of a program -/

/-- What an engine keeps that says which entry comes next. -/
structure Flow where
  ctx    : Option Nat
  leader : Nat
  cnt    : Table Nat
  stk    : List Nat
  dsc    : Nat
  repc   : Nat
  held   : Bool
  iretDs : Nat
  lockOk : Bool
  halted : Bool

def Engine.flow (e : Engine) : Flow :=
  ⟨e.ctx, e.leader, e.cnt, e.stk, e.dsc, e.repc, e.held, e.iretDs, e.lockOk, e.halted⟩

/-- The register fields that do: PC and the flags of the slots, and FIRED of the time triggers. The bit addresses named here
hold every one of them. -/
def Fld.IsFlow (f : Fld) : Prop :=
  (0x2000000 ≤ f.key ∧ f.key < 0x2D00000 ∧
    (f.key % 0x20000 = 0x20 ∨ (0x60 ≤ f.key % 0x20000 ∧ f.key % 0x20000 < 0x68))) ∨
  (0xE008000 ≤ f.key ∧ f.key % 0x80 = 5)

theorem isFlow_pc {n : Nat} (hn : n < 104) : (F.ENG_STAT.PC n).IsFlow := by
  simp only [Fld.IsFlow, F.ENG_STAT.PC]; omega

theorem isFlow_flagLo {n : Nat} (hn : n < 104) : (F.ENG_FLAG.FLAG_LO n).IsFlow := by
  simp only [Fld.IsFlow, F.ENG_FLAG.FLAG_LO]; omega

theorem isFlow_flagHi {n : Nat} (hn : n < 104) : (F.ENG_FLAG.FLAG_HI n).IsFlow := by
  simp only [Fld.IsFlow, F.ENG_FLAG.FLAG_HI]; omega

theorem isFlow_portDown {n : Nat} (hn : n < 104) : (F.ENG_FLAG.PORT_DOWN n).IsFlow := by
  simp only [Fld.IsFlow, F.ENG_FLAG.PORT_DOWN]; omega

theorem isFlow_fired (h k : Nat) : (F.TMB_TRG_CTL.FIRED h k).IsFlow := by
  simp only [Fld.IsFlow, F.TMB_TRG_CTL.FIRED]; omega

/-- Every program stands in t where it stands in s, and its conditions read the same; the wait of slot l may have ended. -/
structure SameFlow (l : Nat) (s t : State) : Prop where
  rd : ∀ f : Fld, f.IsFlow → t.rd f = s.rd f
  flow : ∀ m, (t.eng m).flow = (s.eng m).flow
  wait : ∀ m, m ≠ l → (t.eng m).wait = (s.eng m).wait
  reached : t.time.reached = s.time.reached

namespace SameFlow

variable {l : Nat} {r s t : State}

theorem refl (s : State) : SameFlow l s s := ⟨fun _ _ => rfl, fun _ => rfl, fun _ _ => rfl, rfl⟩

theorem trans (h : SameFlow l r s) (g : SameFlow l s t) : SameFlow l r t :=
  ⟨fun f hf => (g.rd f hf).trans (h.rd f hf), fun m => (g.flow m).trans (h.flow m),
    fun m hm => (g.wait m hm).trans (h.wait m hm), g.reached.trans h.reached⟩

/-- A change of other parts of the state. -/
theorem other (h : SameFlow l r s) (regs : t.regs = s.regs := by rfl) (engs : t.engs = s.engs := by rfl)
    (time : t.time = s.time := by rfl) : SameFlow l r t :=
  h.trans ⟨fun f _ => congrArg (Table.get f.rst · f.key) regs,
    fun m => congrArg (fun e => (Table.get Engine.reset e m).flow) engs,
    fun m _ => congrArg (fun e => (Table.get Engine.reset e m).wait) engs, congrArg TimeSt.reached time⟩

/-- An operation whose law of changes names none of the three parts. -/
theorem changes {m : Nat} (h : SameFlow l r s) (g : Changes m s t)
    (hm : m &&& (Part.regs ||| Part.engs ||| Part.time) = 0 := by decide) : SameFlow l r t := by
  have hb : ∀ i, (Part.regs ||| Part.engs ||| Part.time).testBit i = true → m.testBit i = false := fun i hi => by
    have := congrArg (Nat.testBit · i) hm
    simpa [Nat.testBit_and, hi] using this
  exact h.other (g.regs (hb 4 (by decide))) (g.engs (hb 15 (by decide))) (g.time (hb 46 (by decide)))

/-- A write of a field that is none of the flow's: one of these. -/
theorem wr (h : SameFlow l r s) {f : Fld} {v : Nat} (hf : ¬ f.IsFlow := by
    simp only [Fld.IsFlow, F.ENG_STAT.STALL, F.ENG_CYC.CYC, F.ENG_IRQ.PEND, F.ENG_STAT.SP, F.VSW_PORT_STAT.UNDER,
      F.VSW_PORT_STAT.LEVEL, F.VSW_ERR.RSV_TABLE, F.VSW_ERR.SLOT, F.FPU_SPX_SUMP.USED, F.FPU_SPX_SUMP.PEAK,
      F.FPU_FP_STAT.USED, F.FPU_FP_STAT.PEAK, F.FPU_FFS_STAT.LEVEL, F.FPU_FFS_STAT.DROP, F.FPU_CAP_HOLD.HOLD_CYC,
      F.FPU_CAP_STAT.HOLD, F.CHN_STAT.EDGE_CLASH, F.CHN_STAT.CLASH_CNT, F.CHN_STAT.RSV_TSET, F.CHN_STAT.SS_MISS,
      F.CHN_SSG_STAT.MISS, F.DBG_ENG_STAT.HIT, F.DBG_ENG_STAT.PENDING, F.DBG_ENG_STAT.STEPPED, F.DBG_ENG_HIT.PC,
      F.DBG_ENG_HITCYC.CYCLE, F.DBG_TRC_STAT.LOST, F.DBG_TRC_WP.WP, F.DBG_TRC_WP.WRAPPED, F.SNP_STAT.HELD,
      F.SNP_STAT.MISSED, F.DMC_ERR.ADDR, F.DMC_FWD.FWD, F.DMC_ROR.MERGED, F.NOC_ERR.HOST_ERR]
    omega) : SameFlow l r (s.wr f v) :=
  h.trans ⟨fun g hg => s.rd_wr_ne v fun e => hf (by unfold Fld.IsFlow at hg ⊢; rwa [← e]), fun _ => rfl, fun _ _ => rfl, rfl⟩

theorem ite {a b : State} {c : Prop} [Decidable c] (ha : SameFlow l r a) (hb : SameFlow l r b) :
    SameFlow l r (if c then a else b) := by split <;> assumption

theorem each {α : Type} {as : List α} {f : State → α → State} (h : SameFlow l r s)
    (hf : ∀ t a, SameFlow l r t → SameFlow l r (f t a)) : SameFlow l r (s.each as f) :=
  State.each_keeps (SameFlow l r) s as f hf h

end SameFlow

@[simp] theorem State.eng_updEng_same (s : State) (n : Nat) (f : Engine → Engine) : (s.updEng n f).eng n = f (s.eng n) :=
  Table.get_upd_same Engine.reset s.engs n f

theorem State.eng_updEng_ne (s : State) {m n : Nat} (f : Engine → Engine) (h : m ≠ n) : (s.updEng n f).eng m = s.eng m :=
  Table.get_upd_ne Engine.reset Engine.reset s.engs f h

namespace SameFlow

variable {l : Nat} {r s t : State}

/-- A change of an engine beside its flow. -/
theorem updEng (h : SameFlow l r s) {n : Nat} {f : Engine → Engine}
    (hf : ∀ e : Engine, (f e).flow = e.flow := by intro _; rfl)
    (hw : n ≠ l → ∀ e : Engine, (f e).wait = e.wait := by intro _ _; rfl) : SameFlow l r (s.updEng n f) := by
  refine h.trans ⟨fun _ _ => rfl, fun m => ?_, fun m hml => ?_, rfl⟩ <;> by_cases hm : m = n
  · rw [hm, State.eng_updEng_same]
    exact hf _
  · rw [State.eng_updEng_ne _ f hm]
  · rw [hm, State.eng_updEng_same]
    exact hw (hm ▸ hml) _
  · rw [State.eng_updEng_ne _ f hm]

/-! ## DRAM requests and trace packets -/

theorem dramAnswer (h : SameFlow l r s) (n : Nat) (o : DramOp) (reason : Nat) : SameFlow l r (s.dramAnswer n o reason) := by
  unfold State.dramAnswer
  split
  · exact ite (other h) (wr (other h))
  · exact ite h (ite (other h) (other h))

theorem place (h : SameFlow l r s) (half : Nat) (o : DramOp) : SameFlow l r (s.place half o) := by
  unfold State.place
  extract_lets n q data bad s'
  have h' : SameFlow l r s' := changes h (State.markSince_changes _ _ _)
  refine ite ?_ ?_ <;> split
  · exact ite (dramAnswer (wr h) _ _ _) (other h)
  · exact other h
  · exact ite (other h') (ite (wr (other h')) (other h'))
  · exact other h'

theorem letIn (h : SameFlow l r s) (n : Nat) : SameFlow l r (s.letIn n) := by
  unfold State.letIn
  refine foldl_keeps (SameFlow l r) _ (fun t o ht => ?_) _ _ h
  split
  · exact ite (place (other ht) _ _) ht
  · exact ht

theorem dramWriteReq (h : SameFlow l r s) (half line mask data : Nat) (jobs : List (Nat × Nat)) (full : Bool) :
    SameFlow l r (s.dramWriteReq half line mask data jobs full) :=
  ite (wr h) (ite h (letIn (other (changes h (State.wakeDram_changes _ _))) _))

theorem dramPut (h : SameFlow l r s) (half a k v : Nat) (full : Bool) : SameFlow l r (s.dramPut half a k v full) :=
  ite h (each h fun _ _ ht => dramWriteReq ht _ _ _ _ _ _)

theorem emitPacket (h : SameFlow l r s) (half : Nat) (p : Packet) : SameFlow l r (s.emitPacket half p) := by
  unfold State.emitPacket
  extract_lets x b word s1 wp s2 s3
  have h1 : SameFlow l r s1 := other h
  have h3 : SameFlow l r s3 := wr (other (dramPut h1 _ _ _ _ _))
  exact ite (ite (wr h3) h3) (other h1)

theorem tracePacket (h : SameFlow l r s) (half : Nat) (p : Packet) : SameFlow l r (s.tracePacket half p) := by
  unfold State.tracePacket
  extract_lets d k s1
  have h1 : SameFlow l r s1 := ite (emitPacket (other h) _ _) h
  exact ite (ite (emitPacket h1 _ _) (changes (wr h1) (State.updTrc_changes _ _ _))) h

/-! ## Snapshot triggers, debug requests, comparators -/

theorem raiseSnap (h : SameFlow l r s) (src : Nat) : SameFlow l r (s.raiseSnap src) := by
  have take : SameFlow l r (s.takeSnap src) := ite (wr (other h)) (other h)
  unfold State.raiseSnap
  refine ite ?_ h
  split
  · exact ite (other h) (ite (wr h) take)
  · exact ite (wr h) take

theorem reqGang (h : SameFlow l r s) (n code : Nat) : SameFlow l r (s.reqGang n code) := by
  unfold State.reqGang
  refine each h fun t m ht => ?_
  have ht' := ite (c := (t.eng m).dbgReq ∨ code = 2) ht (wr ht (f := F.DBG_ENG_STAT.HIT m) (v := 0))
  exact wr (wr (updEng ht' (fun e => by split <;> rfl) (fun _ e => by split <;> rfl)))

theorem debugRequest (h : SameFlow l r s) (n code : Nat) : SameFlow l r (s.debugRequest n code) := by
  unfold State.debugRequest
  split
  · exact ite (each h fun _ _ ht => reqGang ht _ _) (reqGang h _ _)
  · exact reqGang h _ _

theorem cmpAct (h : SameFlow l r s) (n k pc cyc : Nat) : SameFlow l r (s.cmpAct n k pc cyc) := by
  unfold State.cmpAct
  extract_lets s0 s1 s2
  have h1 : SameFlow l r s1 := ite (debugRequest (wr (wr (wr h))) _ _) h
  have h2 : SameFlow l r s2 := ite (raiseSnap h1 _) h1
  exact ite (tracePacket h2 _ _) h2

theorem cmpLink (h : SameFlow l r s) (n hits pc cyc : Nat) : SameFlow l r (s.cmpLink n hits pc cyc) := by
  unfold State.cmpLink
  refine each h fun t j ht => ?_
  have act : ∀ {c : Prop} [Decidable c] {t : State} (k : Nat), SameFlow l r t →
      SameFlow l r (if c then t.cmpAct n k pc cyc else t) := fun k ht => ite (cmpAct ht n k pc cyc) ht
  dsimp only
  split
  · exact act _ ht
  · exact ite (updEng (act _ ht)) (act _ ht)
  · exact act _ (act _ ht)

theorem onVector (h : SameFlow l r s) (n : Nat) (v : Vec) : SameFlow l r (s.onVector n v) := ite h (cmpLink h _ _ _ _)

theorem stepCount (h : SameFlow l r s) (n : Nat) : SameFlow l r (s.stepCount n) := by
  unfold State.stepCount
  extract_lets e s1
  have h1 : SameFlow l r s1 := wr (updEng h)
  exact ite h (ite h (ite (debugRequest h1 _ _) h1))

/-! ## From S to the channels -/

theorem putEvents (h : SameFlow l r s) (c : Nat) (x : ChanSt) (d e : List ChEvent) : SameFlow l r (s.putEvents c x d e) := by
  unfold State.putEvents
  extract_lets rd re moved s1
  have h1 : SameFlow l r s1 := ite (wr (wr h)) h
  exact ite (other h) (other h1)

theorem pauseChan (h : SameFlow l r s) (c t : Nat) : SameFlow l r (s.pauseChan c t) :=
  ite (other h) (ite h (putEvents h _ _ _ _))

theorem noteCompare (h : SameFlow l r s) (c t : Nat) : SameFlow l r (s.noteCompare c t) := by
  unfold State.noteCompare
  split
  · exact h
  · exact wr (ite (other h) (each (other h) fun _ _ ht => wr ht))

theorem driveChan (h : SameFlow l r s) (n c : Nat) (v : Vec) : SameFlow l r (s.driveChan n c v) := by
  unfold State.driveChan
  extract_lets role k t s1 s2
  have h1 : SameFlow l r s1 := ite (wr h) h
  have h2 : SameFlow l r s2 := ite (noteCompare h1 _ _) h1
  exact ite (other h2) (ite (pauseChan h2 _ _) (ite (putEvents h2 _ _ _ _) (putEvents h2 _ _ _ _)))

theorem sentOut (h : SameFlow l r s) (n : Nat) (p : Sent) : SameFlow l r (s.sentOut n p) := by
  unfold State.sentOut
  extract_lets s1
  have h1 : SameFlow l r s1 := by
    unfold s1
    split
    · exact each h fun _ _ ht => pauseChan ht _ _
    · exact each h fun _ _ ht => driveChan ht _ _ _
  exact ite (raiseSnap h1 _) h1

theorem drainPipe (h : SameFlow l r s) (n : Nat) : SameFlow l r (s.drainPipe n) :=
  each (updEng h) fun _ _ ht => sentOut ht _ _

/-! ## Cycles that go by -/

theorem addCyc (h : SameFlow l r s) (n k : Nat) : SameFlow l r (s.addCyc n k) :=
  each h fun _ _ ht => drainPipe (ite (wr (updEng ht)) (updEng ht)) _

theorem holdFor (h : SameFlow l r s) (n w : Nat) : SameFlow l r (s.holdFor n w) :=
  ite h (addCyc (each h fun _ _ ht => updEng ht) _ _)

theorem failHold (h : SameFlow l r s) (n w : Nat) : SameFlow l r (s.failHold n w) := by
  unfold State.failHold
  refine each h fun t m ht => ?_
  dsimp only
  split
  · exact changes (wr ht) (State.updJobEng_changes _ _ _ _)
  · exact wr ht

theorem endFailHold (h : SameFlow l r s) (n w : Nat) : SameFlow l r (s.endFailHold n w) :=
  each (failHold h n w) fun _ _ ht => wr ht

theorem setStall (h : SameFlow l r s) (n v : Nat) : SameFlow l r (s.setStall n v) := each h fun _ _ ht => wr ht

/-- A hold of slot l has ended. -/
theorem endHold (h : SameFlow l r s) (w : Nat) : SameFlow l r (s.endHold l w) := by
  unfold State.endHold
  extract_lets held s1 s2
  have h1 : SameFlow l r s1 := ite (endFailHold h _ _) h
  have h2 : SameFlow l r s2 := ite (holdFor h1 _ _) h1
  exact setStall (updEng h2 (hw := fun hl => absurd rfl hl)) _ _

/-! ## An entry's vector -/

theorem setLevel (h : SameFlow l r s) (b : Nat) : SameFlow l r (s.setLevel b) := wr (other h)

theorem streamPut (h : SameFlow l r s) (b need : Nat) (w : StreamWord) (prov : Bool) (tok : Option (Nat × Nat)) :
    SameFlow l r (s.streamPut b need w prov tok) :=
  ite (setLevel (other h) _) (changes (wr h) (State.updBay_changes _ _ _))

theorem startMark (h : SameFlow l r s) (m : Nat) : SameFlow l r (s.startMark m) := by
  unfold State.startMark
  split
  · exact each h fun _ _ ht => streamPut ht _ _ _ _ _
  · exact h

theorem takePorts (h : SameFlow l r s) (m : Nat) : SameFlow l r (s.takePorts m).2 := by
  unfold State.takePorts
  refine foldl_keeps (fun b : List (Nat × Nat) × State => SameFlow l r b.2) _ (fun b p hb => ?_) _ _ h
  dsimp only
  split
  · exact hb
  · split
    · exact wr hb
    · exact wr (other hb)

theorem takeGang (h : SameFlow l r s) (n : Nat) : SameFlow l r (s.takeGang n).2 := by
  unfold State.takeGang
  split
  · exact h
  · refine foldl_keeps (fun b : List (Nat × Nat) × State => SameFlow l r b.2) _ (fun b m hb => ?_) _ _ h
    exact takePorts hb m

theorem keepVec (h : SameFlow l r s) (m : Nat) (v : Vec) : SameFlow l r (s.keepVec m v) := by
  unfold State.keepVec
  extract_lets x s1 s2 s3
  have h1 : SameFlow l r s1 := by
    refine ite ?_ h
    split
    · exact other h
    · exact h
  have h2 : SameFlow l r s2 := ite (wr (wr h1)) h1
  have h3 : SameFlow l r s3 := each (wr (wr h2)) fun _ _ ht => wr (wr ht)
  exact updEng h3

theorem issueOne (h : SameFlow l r s) (m : Nat) (x : Entry) (w : Nat) (tag : Option Nat) (gp : List (Nat × Nat)) (lead : Bool) :
    SameFlow l r (s.issueOne m x w tag gp lead) := by
  unfold State.issueOne
  extract_lets v mon s1 s2
  have h1 : SameFlow l r s1 := updEng (ite h (keepVec h _ _))
  have h2 : SameFlow l r s2 := updEng h1
  exact ite h2 (onVector h2 _ _)

theorem issue (h : SameFlow l r s) (n : Nat) (x : Entry) (w : Nat) : SameFlow l r (s.issue n x w) := by
  unfold State.issue
  extract_lets tag ms tp s1 a s2 s3
  have h0 : SameFlow l r tp.2 := takeGang h n
  have h1 : SameFlow l r s1 := ite (each h0 fun _ _ ht => startMark ht _) h0
  have h2 : SameFlow l r s2 := each h1 fun _ _ ht => issueOne ht _ _ _ _ _ _
  exact addCyc (updEng h2) _ _

end SameFlow

end Sys2Proof.Machine
end

/-! PROOFS. Where a program goes on after an entry: addresses wrap (R87). -/

section

namespace Sys2Proof.Machine

/-! ## What a gang's flow decides -/

theorem State.mem_gang_of_running {s : State} {n : Nat} (hn : n < 104) (h : s.running n = true) : n ∈ s.gang n := by
  simp only [State.running, Bool.and_eq_true, beq_iff_eq, Option.isSome_iff_exists] at h
  obtain ⟨⟨⟨⟨-, hl⟩, c, hc⟩, -⟩, -⟩ := h
  simp [State.gang, hc, hl, hn]

namespace SameFlow

variable {l : Nat} {s t : State}

theorem ctx (h : SameFlow l s t) (m : Nat) : (t.eng m).ctx = (s.eng m).ctx := congrArg Flow.ctx (h.flow m)

theorem leader (h : SameFlow l s t) (m : Nat) : (t.eng m).leader = (s.eng m).leader := congrArg Flow.leader (h.flow m)

theorem gang (h : SameFlow l s t) (n : Nat) : t.gang n = s.gang n := by
  simp only [State.gang, h.ctx, h.leader]

theorem pc (h : SameFlow l s t) {n : Nat} (hn : n < 104) : t.pc n = s.pc n := h.rd _ (isFlow_pc hn)

theorem stk (h : SameFlow l s t) (n : Nat) : (t.eng n).stk = (s.eng n).stk := congrArg Flow.stk (h.flow n)

theorem iretDs (h : SameFlow l s t) (n : Nat) : (t.eng n).iretDs = (s.eng n).iretDs := congrArg Flow.iretDs (h.flow n)

theorem liveRep (h : SameFlow l s t) (n : Nat) : (t.eng n).liveRep = (s.eng n).liveRep :=
  congrArg (fun x : Flow => if x.held then 0 else x.repc) (h.flow n)

theorem liveDsc (h : SameFlow l s t) (n : Nat) : (t.eng n).liveDsc = (s.eng n).liveDsc :=
  congrArg (fun x : Flow => if x.held then 0 else x.dsc) (h.flow n)

theorem syncOthers (h : SameFlow l s t) (n : Nat) : t.syncOthers n = s.syncOthers n := by
  simp only [State.syncOthers, State.jobLeaders, State.jobSlots, h.ctx, h.leader]

theorem atSync (h : SameFlow l s t) {m : Nat} (hm : m ≠ l) : t.atSync m = s.atSync m := by
  have hhalted : (t.eng m).halted = (s.eng m).halted := congrArg Flow.halted (h.flow m)
  simp only [State.atSync, h.wait m hm, hhalted]

end SameFlow

theorem State.ne_of_mem_syncOthers {s : State} {n m : Nat} (h : m ∈ s.syncOthers n) : m ≠ n := by
  unfold State.syncOthers at h
  split at h
  · simp at h
  · simp only [List.mem_filter, Bool.and_eq_true, decide_eq_true_eq] at h
    exact h.2.2

/-- A condition on no compare result has one value wherever the flow is the same. -/
theorem SameFlow.condVal {n : Nat} {s t : State} (h : SameFlow n s t) (hn : n < 104) {c : Nat} (hc : c ∉ [2, 3, 4])
    (k w : Nat) : t.condVal n c k w = s.condVal n c k w := by
  have hcnt : (t.eng n).cnt = (s.eng n).cnt := congrArg Flow.cnt (h.flow n)
  have hlock : (t.eng n).lockOk = (s.eng n).lockOk := congrArg Flow.lockOk (h.flow n)
  unfold State.condVal
  split
  · rfl
  · simp at hc
  · simp at hc
  · simp at hc
  · rw [hcnt]
  · simp only [State.on, h.rd _ (isFlow_portDown hn), h.rd _ (isFlow_flagLo hn), h.rd _ (isFlow_flagHi hn)]
  · simp only [State.trgFired, State.on, h.rd _ (isFlow_fired _ _), h.reached]
  · rw [h.syncOthers, Bool.eq_iff_iff, List.all_eq_true, List.all_eq_true]
    exact forall₂_congr fun m hm => by rw [h.atSync (State.ne_of_mem_syncOthers hm)]
  · exact hlock
  · rfl

theorem State.condWaits_eq_false (s : State) (n : Nat) {c : Nat} (hc : c ∉ [2, 3, 4]) : s.condWaits n c = false := by
  unfold State.condWaits
  split
  · simp at hc
  · simp at hc
  · simp at hc
  · rfl

/-- The value of such a condition is taken as it stands, and no window closes. -/
theorem State.takeCond_eq (s : State) (n : Nat) {c : Nat} (hc : c ∉ [2, 3, 4]) (k : Nat) :
    s.takeCond n c k = (s.condVal n c k 0, s) := by
  simp only [List.mem_cons, not_or] at hc
  exact if_neg (by omega)

/-! ## Entry, the program counter, the stack -/

/-- An entry that may enter D does: its body runs after the hold, if there was one. -/
theorem State.enter_of_entersD {s : State} {n : Nat} {o : Op} (h : s.entersD n o) (w : Nat) (body : State → Entry → State) :
    s.enter n w o body = body (s.endHold n w) (s.entryAt n) := by
  obtain ⟨hrun, hwait, hirq, hgo, hop, hill, hcode, hport, hbad⟩ := h
  have hgang : (s.gang n).any (fun m => s.wordBad m (s.entryAt n)) = false := by
    simpa only [List.any_eq_false, Bool.not_eq_true] using hbad
  unfold State.enter
  simp [hrun, hwait, hirq, hgo, hop, hill, hcode, hport, hgang]

theorem State.rd_wrGang_pc {s : State} {n : Nat} (hg : n ∈ s.gang n) (v : Nat) :
    (s.wrGang n F.ENG_STAT.PC v).pc n = v % 2 ^ 17 := by
  have hkeep : ∀ (t : State) (m : Nat), t.pc n = v % 2 ^ 17 → (t.wr (F.ENG_STAT.PC m) v).pc n = v % 2 ^ 17 := by
    intro t m ht
    by_cases hm : m = n
    · rw [hm]
      exact t.rd_wr_same (F.ENG_STAT.PC n) v
    · refine (t.rd_wr_ne v ?_).trans ht
      simp only [F.ENG_STAT.PC]
      omega
  obtain ⟨as, bs, hsplit⟩ := List.append_of_mem hg
  unfold State.wrGang State.each
  rw [hsplit, List.foldl_append, List.foldl_cons]
  exact State.each_keeps _ _ bs _ hkeep (State.rd_wr_same _ _ v)

theorem State.pc_setPc {s : State} {n : Nat} (hg : n ∈ s.gang n) (a : Nat) : (s.setPc n a).pc n = seqWrap a :=
  (State.rd_wrGang_pc hg _).trans (Nat.mod_mod a 0x20000)

theorem State.eng_wrGang (s : State) (n : Nat) (f : Nat → Fld) (v m : Nat) : (s.wrGang n f v).eng m = s.eng m :=
  State.each_same (fun t => t.eng m) s _ _ fun _ _ => rfl

/-- Outside repetitions, delay slots and an ending handler the next address follows. -/
theorem State.moveOn_eq_setPc {s : State} {n : Nat} (hi : (s.eng n).iretDs = 0) (hr : (s.eng n).liveRep = 0)
    (hd : (s.eng n).liveDsc = 0) : s.moveOn n = s.setPc n (s.pc n + 1) := by
  simp [State.moveOn, hi, hr, hd]

theorem State.stk_setStk (s : State) (n : Nat) (stk : List Nat) : ((s.setStk n stk).eng n).stk = stk := by
  unfold State.setStk
  rw [State.eng_wrGang, State.eng_updEng_same]

theorem State.stk_transfer (s : State) (n a : Nat) : ((s.transfer n a).eng n).stk = (s.eng n).stk := by
  unfold State.transfer State.setPc
  rw [State.eng_wrGang, State.eng_updEng_same]

theorem State.stk_jump (s : State) (n : Nat) (x : Entry) (w a : Nat) : ((s.jump n x w a).eng n).stk = (s.eng n).stk := by
  unfold State.jump
  rw [((SameFlow.refl (l := n) _).stepCount n).stk, State.stk_transfer, ((SameFlow.refl (l := n) s).issue n x w).stk]

/-- A plain entry, outside repetitions, delay slots and an ending handler, is followed by the next address. -/
theorem State.pc_plain {s : State} {n : Nat} (hn : n < 104) (hg : n ∈ s.gang n) (hi : (s.eng n).iretDs = 0)
    (hr : (s.eng n).liveRep = 0) (hd : (s.eng n).liveDsc = 0) (x : Entry) :
    (s.plain n x).pc n = seqWrap (s.pc n + 1) := by
  have h : SameFlow n s (s.issue n x (s.eng n).win) := (SameFlow.refl s).issue n x _
  unfold State.plain
  rw [((SameFlow.refl (l := n) _).stepCount n).pc hn,
    State.moveOn_eq_setPc ((h.iretDs n).trans hi) ((h.liveRep n).trans hr) ((h.liveDsc n).trans hd),
    State.pc_setPc ((h.gang n).symm ▸ hg), h.pc hn]

/-- A taken CALL with room on the stack pushes the address after its second delay slot. -/
theorem State.stk_callBody {s : State} {n : Nat} {x : Entry} (hc : eScnd x ∉ [2, 3, 4])
    (htaken : s.condVal n (eScnd x) (eK x) 0 = true) (hroom : (s.eng n).stk.length < 16) :
    ((s.callBody n x).eng n).stk = seqWrap (s.pc n + 3) :: (s.eng n).stk := by
  have hfull : ¬ 16 ≤ (s.eng n).stk.length := Nat.not_le.2 hroom
  unfold State.callBody State.callSettled
  simp [s.condWaits_eq_false n hc, s.takeCond_eq n hc, htaken, hfull, State.stk_jump, State.stk_setStk]

/-- Settles O52: neither a hold nor an entry's vector moves a program, so that the entry's own rule decides, and it wraps. -/
theorem sequenceAddressesWrap : Obligations.SequenceAddressesWrap := by
  intro s n w hpc
  have hold : SameFlow n s (s.endHold n w) := (SameFlow.refl s).endHold w
  refine ⟨fun hd hi hrep hdsc => ⟨_, rfl, ?_⟩, fun hd hc htaken hroom => ⟨_, seqWrap (s.pc n + 3), rfl, ?_, ?_, ?_⟩⟩
  · have hg : n.val ∈ (s.endHold n w).gang n := (hold.gang n).symm ▸ State.mem_gang_of_running n.isLt hd.1
    rw [State.enter_of_entersD hd, State.pc_plain n.isLt hg ((hold.iretDs n).trans hi) ((hold.liveRep n).trans hrep)
      ((hold.liveDsc n).trans hdsc), hold.pc n.isLt]
    unfold seqWrap
    omega
  · rw [State.enter_of_entersD hd, State.stk_callBody hc ((hold.condVal n.isLt hc _ _).trans htaken)
      ((hold.stk n).symm ▸ hroom), hold.stk, hold.pc n.isLt]
  · unfold seqWrap
    omega
  · unfold seqWrap
    omega

end Sys2Proof.Machine
end

/-! PROOFS. The scramble table and the scrambled address (R119). -/

section

namespace Sys2Proof.Machine

/-! ## The scrambled address -/

theorem scramble_mod (t x : Nat) : scramble t x % 4096 = t % 4096 := by
  unfold scramble
  omega

theorem scramble_div (t x : Nat) : scramble t x / 4096 = x / 4096 ^^^ t / 4096 % 4096 := by
  unfold scramble
  omega

theorem scramble_lt (t : Nat) {x : Nat} (hx : x < 2 ^ 24) : scramble t x < 2 ^ 24 := by
  have hhigh : x / 4096 ^^^ t / 4096 % 4096 < 2 ^ 12 := Nat.xor_lt_two_pow (by omega) (by omega)
  rw [← scramble_div] at hhigh
  omega

/-- A word that is its own 12-bit index replaces the low bits by themselves and flips nothing. -/
theorem scramble_self (x : Nat) : scramble (x % 4096) x = x := by
  have hflip : x % 4096 / 4096 % 4096 = 0 := by omega
  unfold scramble
  rw [hflip, Nat.xor_zero]
  omega

theorem State.bits_xsOf_low (s : State) (n x : Nat) :
    bits (s.xsOf n x) 0 12 = bits (s.scrWord n (x % 4096)) 0 12 := by
  unfold bits State.xsOf
  rw [Nat.pow_zero, Nat.div_one, Nat.div_one]
  exact scramble_mod _ _

theorem State.bits_xsOf_high (s : State) (n : Nat) {x : Nat} (hx : x < 2 ^ 24) :
    bits (s.xsOf n x) 12 12 = bits x 12 12 ^^^ bits (s.scrWord n (x % 4096)) 12 12 := by
  have hxs : s.xsOf n x / 2 ^ 12 < 2 ^ 12 := Nat.div_lt_of_lt_mul (scramble_lt _ hx)
  have hhigh : x / 2 ^ 12 < 2 ^ 12 := Nat.div_lt_of_lt_mul hx
  unfold bits
  rw [Nat.mod_eq_of_lt hxs, Nat.mod_eq_of_lt hhigh]
  exact scramble_div _ _

/-! ## The entries of the table -/

theorem State.scrWord_scrPut_same (s : State) (n i v : Nat) : (s.scrPut n i v).scrWord n i = v % 2 ^ 24 := by
  unfold State.scrPut State.scrWord
  rw [Table.get_set_same]
  split
  · next hi => exact hi.symm
  · rfl

/-- The tables of the slots lie apart: an entry keeps its word when another is put. -/
theorem State.scrWord_scrPut_ne (s : State) {n i m j : Nat} (v : Nat) (hi : i < 4096) (hj : j < 4096)
    (h : (m, j) ≠ (n, i)) : (s.scrPut n i v).scrWord m j = s.scrWord m j := by
  have hkey : m * 4096 + j ≠ n * 4096 + i := by
    rw [Ne, Prod.mk.injEq] at h
    omega
  unfold State.scrPut State.scrWord
  rw [Table.get_set_ne _ _ _ _ hkey]

/-! ## After a device reset -/

theorem State.showFuses_scr (s : State) : s.showFuses.scr = s.scr := s.showFuses_changes.scr (by decide)

/-- A device reset empties the store of the words that differ from their index. -/
theorem State.deviceReset_scr (s : State) (c : Nat) (ov : Option (Bool × Bool)) : (s.deviceReset c ov).scr = [] := by
  unfold State.deviceReset
  extract_lets keep src t1 t2 t3 t4 t5 q
  have h3 : t3.scr = [] := rfl
  have h4 : t4.scr = t3.scr := State.each_same State.scr t3 _ _ fun _ _ => rfl
  have h5 : t5.scr = t4.scr := State.each_same State.scr t4 _ _ fun _ _ => rfl
  clear_value t5
  calc _ = ({ q.2 with retKey := q.1 } : State).showFuses.scr := State.wr_scr _ _ _
    _ = t5.scr := State.showFuses_scr _
    _ = [] := h5.trans (h4.trans h3)

theorem State.scrWord_deviceReset (s : State) (c : Nat) (ov : Option (Bool × Bool)) (n i : Nat) :
    (s.deviceReset c ov).scrWord n i = i := by
  unfold State.scrWord
  rw [State.deviceReset_scr, Table.get_nil, Option.getD_none]

theorem State.xsOf_deviceReset (s : State) (c : Nat) (ov : Option (Bool × Bool)) (n x : Nat) :
    (s.deviceReset c ov).xsOf n x = x := by
  unfold State.xsOf
  rw [State.scrWord_deviceReset, scramble_self]

/-- Settles O53: the two halves of the scrambled word, the read after a write of an entry, and the empty store of a reset,
under which every entry is its index. -/
theorem scrambleReplacesLowBitsAndFlipsHigh : Obligations.ScrambleReplacesLowBitsAndFlipsHigh := by
  refine ⟨fun s n x T hx hT _ => ?_, fun s n i v hi => ?_, fun s c ov n x => ?_⟩
  · subst hT
    exact ⟨s.bits_xsOf_low n x, s.bits_xsOf_high n hx, scramble_lt _ hx⟩
  · exact ⟨s.scrWord_scrPut_same n i v, fun m j hj h => s.scrWord_scrPut_ne v hi hj h⟩
  · exact ⟨s.scrWord_deviceReset c ov n x, fun _ => s.xsOf_deviceReset c ov n x⟩

end Sys2Proof.Machine
end

/-! PROOFS. The CRC of the Hjelz port, its loop and its order on the wire (R468). -/

section

namespace Sys2Proof.Machine

/-! ## The loop -/

/-- The loop of R468 over the n lowest bits of v, bit 0 first, from c. -/
def portCrcLoop (c : BitVec 8) (n v : Nat) : BitVec 8 :=
  (List.range n).foldl (fun c i => portCrcStep c (v.testBit i)) c

/-- The loop takes bit 0 first and goes on over the bits above it. -/
theorem portCrcLoop_succ (c : BitVec 8) (n v : Nat) :
    portCrcLoop c (n + 1) v = portCrcLoop (portCrcStep c (v.testBit 0)) n (v / 2) := by
  simp [portCrcLoop, List.range_succ_eq_map, List.foldl_map, Nat.testBit_add_one]

/-- The feedback of R468, bit 0 of v XOR crc[7], as the parity that the model's loop takes. -/
theorem portCrc_feedback (c : BitVec 8) (v : Nat) :
    (v.testBit 0 != c.getLsbD 7) = decide ((v % 2 + c.toNat / 128) % 2 = 1) := by
  have hc : c.toNat / 128 < 2 := Nat.div_lt_of_lt_mul c.isLt
  rw [Nat.testBit_zero, BitVec.getLsbD, Nat.testBit_eq_decide_div_mod_eq, Bool.eq_iff_iff]
  simp only [bne_iff_ne, ne_eq, decide_eq_decide, decide_eq_true_eq]
  omega

theorem portCrcStep_toNat (c : BitVec 8) (v : Nat) :
    (portCrcStep c (v.testBit 0)).toNat =
      if (v % 2 + c.toNat / 128) % 2 = 1 then c.toNat * 2 % 256 ^^^ 7 else c.toNat * 2 % 256 := by
  have hshift : (c <<< 1).toNat = c.toNat * 2 % 256 := by
    rw [BitVec.toNat_shiftLeft, Nat.shiftLeft_eq]
  unfold portCrcStep
  simp only [portCrc_feedback, decide_eq_true_eq, apply_ite BitVec.toNat, BitVec.toNat_xor, hshift]
  rfl

theorem crc8From_eq_portCrcLoop (n : Nat) (c : BitVec 8) (v : Nat) :
    crc8From c.toNat v n = (portCrcLoop c n v).toNat := by
  induction n generalizing c v with
  | zero => rfl
  | succ n ih =>
    rw [portCrcLoop_succ, ← ih, portCrcStep_toNat]
    rfl

theorem crc8_eq_portCrcLoop (n v : Nat) : crc8 n v = (portCrcLoop 0xFF n v).toNat :=
  crc8From_eq_portCrcLoop n 0xFF v

/-! ## The order on the wire -/

theorem bits_one (v k : Nat) : bits v k 1 = (v.testBit k).toNat :=
  (Nat.toNat_testBit v k).symm

/-- The eight bits of a CRC as they stand on the wire are those of the CRC in reverse. -/
theorem onWire_eq_ofBits (c : Nat) : onWire c = Nat.ofBits fun i : Fin 8 => c.testBit (7 - i) := by
  simp [onWire, bits_one, List.range_succ, Nat.ofBits_succ]
  omega

theorem onWire_lt (c : Nat) : onWire c < 2 ^ 8 :=
  onWire_eq_ofBits c ▸ Nat.ofBits_lt_two_pow _

theorem testBit_onWire (c : Nat) {i : Nat} (hi : i < 8) : (onWire c).testBit i = c.testBit (7 - i) := by
  rw [onWire_eq_ofBits, Nat.testBit_ofBits_lt _ i hi]

/-! ## A header's CRC -/

theorem testBit_bits (v lo : Nat) {w i : Nat} (hi : i < w) : (bits v lo w).testBit i = v.testBit (lo + i) := by
  simp [bits, Nat.testBit_mod_two_pow, Nat.testBit_div_two_pow, hi, Nat.add_comm]

/-- A field of w bits is a number below 2 ^ w just when it has that number's bits. -/
theorem bits_eq_iff_testBit (v lo : Nat) {w x : Nat} (hx : x < 2 ^ w) :
    bits v lo w = x ↔ ∀ i, i < w → v.testBit (lo + i) = x.testBit i := by
  constructor
  · rintro rfl i hi
    exact (testBit_bits v lo hi).symm
  · intro h
    refine Nat.eq_of_testBit_eq fun i => ?_
    rcases Nat.lt_or_ge i w with hi | hi
    · rw [testBit_bits v lo hi, h i hi]
    · have hpow : 2 ^ w ≤ 2 ^ i := Nat.pow_le_pow_right Nat.two_pos hi
      have hbits : bits v lo w < 2 ^ w := Nat.mod_lt _ (Nat.two_pow_pos w)
      rw [Nat.testBit_lt_two_pow (hbits.trans_le hpow), Nat.testBit_lt_two_pow (hx.trans_le hpow)]

theorem hCrcOk_iff (h : Header) :
    hCrcOk h = true ↔ ∀ i, i < 8 → h.getLsbD (54 + i) = (portCrcLoop 0xFF 54 h.toNat).getLsbD (7 - i) := by
  unfold hCrcOk
  rw [beq_iff_eq, bits_eq_iff_testBit _ _ (onWire_lt _), crc8_eq_portCrcLoop]
  exact forall₂_congr fun i hi => by rw [testBit_onWire _ hi]; rfl

/-- Settles O54: the loop by induction on the number of covered bits, the order on the wire bit by bit, and the header's
check by the bits of its last field. -/
theorem portCrcFollowsItsLoop : Obligations.PortCrcFollowsItsLoop :=
  ⟨crc8_eq_portCrcLoop, fun c _ _ hi => testBit_onWire c hi, hCrcOk_iff⟩

end Sys2Proof.Machine
end

/-! PROOFS. What each command may change, one lemma per command (Laws/Operations.lean has one per shared operation), and the
statements about every step that follow from them. -/

section

namespace Sys2Proof.Machine

set_option Elab.async false

/-- The command answers a next state, which differs from s at most in the parts of m. -/
noncomputable def Answers (m : Nat) (s : State) (o : Out) : Prop := ∃ t, o = .next t ∧ Changes m s t

theorem Answers.changes {m : Nat} {s t : State} {o : Out} (h : Answers m s o) (e : o = .next t) : Changes m s t := by
  obtain ⟨u, hu, hc⟩ := h
  cases hu.symm.trans e
  exact hc

theorem Answers.mono {m k : Nat} {s : State} {o : Out} (h : Answers k s o) (e : k ||| m = m := by exact rfl) : Answers m s o := by
  obtain ⟨t, ht, hc⟩ := h
  exact ⟨t, ht, hc.mono e⟩

/-- An event frame acts only where it is accepted; else it is counted at most (R402). -/
theorem Changes.evf {m : Nat} {r s : State} {p ty group seq : Nat} {act : State → State} (h : Changes m r s)
    (ha : ∀ t, Changes m r t → Changes m r (act t)) (e : (Part.regs ||| Part.time) ||| m = m := by exact rfl) :
    Changes m r (s.evf p ty group seq act) := by
  unfold State.evf
  refine Changes.ite h (Changes.ite (ha _ ?_) ?_)
  · exact h.then (((State.count_changes _ _ _).mono (m := Part.regs ||| Part.time)).then (State.updTime_changes _ _)) e
  · exact h.then ((State.count_changes _ _ _).mono (m := Part.regs ||| Part.time)) e

/-- An atomic is refused, or acts on its semaphore (R268). -/
theorem Changes.atomic {m : Nat} {r s : State} {id opc : Nat} {f : State → Nat → Nat × Nat → Pkt → State} (h : Changes m r s)
    (hf : ∀ t i o p, Changes m r t → Changes m r (f t i o p)) (e : Part.nis ||| m = m := by exact rfl) :
    Changes m r (s.atomic id opc f) := by
  unfold State.atomic
  refine Changes.onRx h (fun p t ht => Changes.ite (ht.then (State.nack_changes _ _ _ _) e) ?_) e
  split
  · exact ht.then (State.nack_changes _ _ _ _) e
  · exact ht.then (State.nack_changes _ _ _ _) e
  · exact hf _ _ _ _ ht

/-- A response completes its request, or is counted as late (R366, R377). -/
theorem Changes.onResponse {m : Nat} {r s : State} {id opc : Nat} {f : Pkt → State → State} (h : Changes m r s)
    (hf : ∀ p t, Changes m r t → Changes m r (f p t)) (e : (Part.regs ||| Part.nis) ||| m = m := by exact rfl)
    (e2 : Part.nis ||| m = m := by exact rfl) : Changes m r (s.onResponse id opc f) := by
  unfold State.onResponse
  refine Changes.onRx h (fun p t ht => Changes.ite (hf _ _ (ht.then (State.handOver_changes _ _ _) e2)) (Changes.ite ?_ ?_)) e2
  · exact ht.then (((State.updNi_changes _ _ _).mono (m := Part.regs ||| Part.nis)).then (State.countCut_changes _ _)) e
  · exact ht.then ((State.countLate_changes _ _).mono (m := Part.regs ||| Part.nis)) e

/-- A request that is barred is answered at once, and only the port changes (R469, R470). -/
theorem State.portBar_changes {s t : State} {h : Header} {write : Bool} (ht : s.portBar h write = some t) :
    Changes (Part.regs ||| Part.hj) s t := by
  unfold State.portBar at ht
  split at ht
  · cases ht; exact (State.portStatus_changes _ _).mono
  · split at ht
    · cases ht; exact (State.portError_changes _ _ _).mono
    · split at ht
      · cases ht; exact (State.portStatus_changes _ _).mono
      · cases ht

/-! ## Command by command -/

theorem execEclkApply_answers (r : Req) (h : Fin 2) (s : State) :
    Answers (Part.regs ||| Part.clks ||| Part.time) s (execEclkApply r h s) := by
  refine ⟨_, rfl, ?_⟩
  refine Changes.ite ?_ ?_
  · exact (State.eclkApply_changes _ _).mono
  · exact Changes.refl _ _

theorem execEclkApplyCancel_answers (r : Req) (h : Fin 2) (s : State) :
    Answers (Part.regs ||| Part.clks) s (execEclkApplyCancel r h s) := by
  refine ⟨_, rfl, ?_⟩
  refine Changes.ite ?_ ?_
  · exact (State.eclkAbandon_changes _ _).mono
  · exact Changes.refl _ _

theorem execEclkApplyTimeout_answers (h : Fin 2) (s : State) :
    Answers (Part.regs ||| Part.clks) s (execEclkApplyTimeout h s) := by
  refine ⟨_, rfl, ?_⟩
  refine Changes.ite ?_ ?_
  · exact (State.eclkAbandon_changes _ _).mono
  · exact Changes.refl _ _

theorem execEclkAlignMoment_answers (h : Fin 2) (s : State) :
    Answers (Part.regs ||| Part.clks ||| Part.chans ||| Part.time) s (execEclkAlignMoment h s) := by
  refine ⟨_, rfl, ?_⟩
  refine Changes.ite ?_ ?_
  · extract_lets -merge -usedOnly x1 x2 x3 x4 x5
    refine Changes.have (x := x3) ((State.updClk_changes _ _ _).mono) fun h6 => ?_
    refine Changes.have (x := x4) ((h6.then (State.setOn_changes _ _)).then (State.clr_changes _ _)) fun h7 => ?_
    refine Changes.have (x := x5) ?_ fun h8 => ?_
    · unfold x5
      refine Changes.ite ?_ ?_
      · exact h7.then (State.updTime_changes _ _)
      · exact h7
    refine Changes.each ?_ ?_
    · exact h8
    · intro t9 a9 h9
      exact h9.then (State.pauseNow_changes _ _)
  · exact Changes.refl _ _

theorem execEclkRelock_answers (h : Fin 2) (s : State) :
    Answers (Part.regs ||| Part.clks ||| Part.chans) s (execEclkRelock h s) := by
  refine ⟨_, rfl, ?_⟩
  refine Changes.ite ?_ ?_
  · extract_lets -merge -usedOnly x1 x2
    refine Changes.have (x := x2) ((State.setOn_changes _ _).mono.then (State.updClk_changes _ _ _)) fun h3 => ?_
    refine Changes.ite ?_ ?_
    · refine Changes.each ?_ ?_
      · exact h3.then (State.clr_changes _ _)
      · intro t4 a4 h4
        exact h4.then (State.checkRate_changes _ _)
    · exact h3
  · exact Changes.refl _ _

theorem execEclkLockLoss_answers (h : Fin 2) (s : State) :
    Answers Part.regs s (execEclkLockLoss h s) := by
  refine ⟨_, rfl, ?_⟩
  exact (State.setOn_changes _ _).mono.then (State.clr_changes _ _)

theorem execRefclkLoss_answers (s : State) :
    Answers (Part.fresh ||| Part.regs ||| Part.bus ||| Part.out ||| Part.heldOut ||| Part.fns ||| Part.ctxs |||
        Part.clks ||| Part.engs ||| Part.bays ||| Part.chans ||| Part.ssgs ||| Part.bankMem ||| Part.dmcs |||
        Part.tb ||| Part.trcs ||| Part.snap ||| Part.time ||| Part.nis ||| Part.fabHeld) s (execRefclkLoss s) := by
  refine ⟨_, rfl, ?_⟩
  refine Changes.ite ?_ ?_
  · exact Changes.refl _ _
  · extract_lets -merge -usedOnly x1 x2 x3 x4
    refine Changes.have (x := x1) ?_ fun h5 => ?_
    · unfold x1
      refine Changes.each ?_ ?_
      · exact Changes.refl _ _
      · intro t6 a6 h6
        exact h6.then (State.loseJob_changes _ _)
    refine Changes.have (x := x2) ?_ fun h7 => ?_
    · unfold x2
      refine Changes.each ?_ ?_
      · exact h5
      · intro t8 a8 h8
        refine Changes.then ?_ (State.updClk_changes _ _ _)
        refine Changes.when ?_ ?_
        · exact (h8.then (State.setOn_changes _ _)).then (State.clr_changes _ _)
        · intro t9 h9
          exact h9.then (State.clr_changes _ _)
    refine Changes.have (x := x3) ?_ fun h10 => ?_
    · unfold x3
      refine Changes.each ?_ ?_
      · exact h7
      · intro t11 a11 h11
        exact h11.then (State.updChan_changes _ _ _)
    refine Changes.have (x := x4) ?_ fun h12 => ?_
    · unfold x4
      refine Changes.each ?_ ?_
      · exact h10
      · intro t13 a13 h13
        exact h13.then (State.dramHold_changes _ _)
    exact (h12.then (State.timeRefLoss_changes _)).then (State.raiseSnap_changes _ _)

theorem execRefclkReturn_answers (s : State) :
    Answers (Part.regs ||| Part.bus ||| Part.out ||| Part.heldOut ||| Part.fns ||| Part.dmcs ||| Part.tb ||| Part.trcs |||
        Part.time ||| Part.nis) s (execRefclkReturn s) := by
  refine ⟨_, rfl, ?_⟩
  refine Changes.ite ?_ ?_
  · extract_lets -merge -usedOnly x1 x2 x3
    refine Changes.have (x := x1) ((State.updTime_changes _ _).mono) fun h4 => ?_
    refine Changes.have (x := x2) ?_ fun h5 => ?_
    · unfold x2
      refine Changes.each ?_ ?_
      · exact h4
      · intro t6 a6 h6
        exact h6.then (State.updDmc_changes _ _ _)
    refine Changes.have (x := x3) ?_ fun h7 => ?_
    · unfold x3
      refine Changes.ite ?_ ?_
      · exact h5
      · exact (h5.then (State.setInc_changes _ _)).then (State.applyChange_changes _ _)
    exact (h7.then (State.setTb_changes _ _ _)).then (State.updSynt_changes _)
  · exact Changes.refl _ _

theorem execLinkDown_answers (s : State) :
    Answers Part.regs s (execLinkDown s) := by
  refine ⟨_, rfl, ?_⟩
  exact (State.clr_changes _ _).mono

theorem execLinkUp_answers (rate : Fin 6) (width : Fin 4) (flit : Bool) (s : State) :
    Answers (Part.regs ||| Part.out ||| Part.heldOut) s (execLinkUp rate width flit s) := by
  refine ⟨_, rfl, ?_⟩
  refine Changes.each ?_ ?_
  · exact Changes.set_heldOut (((((State.setOn_changes _ _).mono.then (State.wr_changes _ _ _)).then (State.wr_changes _ _ _)).then (State.wr_changes _ _ _)).then (State.wr_changes _ _ _))
  · intro t1 a1 h1
    exact h1.then (State.commitWrite_changes _ _)

theorem execPerst_answers (s : State) :
    Answers (Part.fresh ||| Part.regs ||| Part.bus ||| Part.heldOut ||| Part.fns ||| Part.ctxs ||| Part.engs |||
        Part.bays ||| Part.chans ||| Part.ssgs ||| Part.bankMem ||| Part.dmcs ||| Part.trcs ||| Part.substs |||
        Part.snap ||| Part.time ||| Part.hostReady ||| Part.nis ||| Part.fabHeld) s (execPerst s) := by
  refine ⟨_, rfl, ?_⟩
  extract_lets -merge -usedOnly x1
  refine Changes.have (x := x1) (((State.resetHost_changes _).mono.then (State.undrive_changes _ _)).then (State.clr_changes _ _)) fun h2 => ?_
  exact Changes.set_hostReady h2

theorem execHotReset_answers (s : State) :
    Answers (Part.fresh ||| Part.regs ||| Part.bus ||| Part.heldOut ||| Part.fns ||| Part.ctxs ||| Part.engs |||
        Part.bays ||| Part.chans ||| Part.ssgs ||| Part.bankMem ||| Part.dmcs ||| Part.trcs ||| Part.substs |||
        Part.snap ||| Part.time ||| Part.nis ||| Part.fabHeld) s (execHotReset s) := by
  refine ⟨_, rfl, ?_⟩
  exact ((State.resetHost_changes _).mono.then (State.undrive_changes _ _)).then (State.clr_changes _ _)

theorem execFlr_answers (f : Fin 33) (s : State) :
    Answers (Part.fresh ||| Part.regs ||| Part.bus ||| Part.heldOut ||| Part.fns ||| Part.ctxs ||| Part.engs |||
        Part.bays ||| Part.chans ||| Part.ssgs ||| Part.bankMem ||| Part.dmcs ||| Part.trcs ||| Part.substs |||
        Part.snap ||| Part.time ||| Part.nis ||| Part.fabHeld) s (execFlr f s) := by
  refine ⟨_, rfl, ?_⟩
  refine Changes.ite ?_ ?_
  · exact (State.resetHost_changes _).mono
  · refine Changes.then ?_ (State.resetFn_changes _ _)
    refine Changes.each ?_ ?_
    · exact Changes.refl _ _
    · intro t1 a1 h1
      exact h1.then (State.resetCtx_changes _ _)

theorem execFnEnable_answers (f : Fin 33) (evci : Word32) (s : State) :
    Answers (Part.regs ||| Part.fns) s (execFnEnable f evci s) := by
  refine ⟨_, rfl, ?_⟩
  refine Changes.ite ?_ ?_
  · exact (State.fnEnable_changes _ _ _).mono
  · exact Changes.refl _ _

theorem execContextStartFresh_answers (n : Fin 64) (s : State) :
    Answers (Part.fresh ||| Part.regs ||| Part.bus ||| Part.out ||| Part.heldOut ||| Part.ctxs ||| Part.engs |||
        Part.bays ||| Part.chans ||| Part.ssgs ||| Part.bankMem ||| Part.dmcs ||| Part.trcs ||| Part.substs |||
        Part.snap ||| Part.time ||| Part.nis ||| Part.fabHeld) s (execContextStartFresh n s) := by
  refine ⟨_, rfl, ?_⟩
  refine Changes.ite ?_ ?_
  · exact (State.startFresh_changes _ _).mono
  · exact Changes.refl _ _

theorem execContextDisable_answers (n : Fin 64) (s : State) :
    Answers (Part.fresh ||| Part.regs ||| Part.bus ||| Part.ctxs ||| Part.engs ||| Part.bays ||| Part.chans |||
        Part.ssgs ||| Part.bankMem ||| Part.dmcs ||| Part.trcs ||| Part.substs ||| Part.snap ||| Part.time |||
        Part.nis ||| Part.fabHeld) s (execContextDisable n s) := by
  refine ⟨_, rfl, ?_⟩
  exact (State.ctxDisable_changes _ _).mono

theorem execContextReconcile_answers (n : Fin 64) (entry : BitVec 256) (db : Word64) (sq : List Desc) (cq : List (BitVec 256)) (s : State) :
    Answers (Part.fresh ||| Part.regs ||| Part.bus ||| Part.out ||| Part.heldOut ||| Part.fns ||| Part.ctxs |||
        Part.engs ||| Part.bays ||| Part.chans ||| Part.ssgs ||| Part.bankMem ||| Part.dmcs ||| Part.trcs |||
        Part.substs ||| Part.snap ||| Part.time ||| Part.nis ||| Part.fabHeld) s (execContextReconcile n entry db sq cq s) := by
  refine ⟨_, rfl, ?_⟩
  refine Changes.ite ?_ ?_
  · extract_lets -merge -usedOnly x1 x2 x3 x4 x5 x6 x7 x8 x9 x10
    refine Changes.have (x := x1) ?_ fun h11 => ?_
    · unfold x1
      exact ((State.dropJobs_changes _ _).mono.then (State.setOn_changes _ _)).then (State.clr_changes _ _)
    clear_value x1 x2 x3 x4 x5 x6 x7 x8 x9 x10
    split
    · exact h11.then (State.haltCtx_changes _ _ _)
    · extract_lets -merge -usedOnly x12 x13 x14 x15 x16 x17 x18
      clear_value x12 x13 x14 x15
      refine Changes.have (x := x16) ?_ fun h19 => ?_
      · unfold x16
        exact (h11.then (State.wr_changes _ _ _)).then (State.wr_changes _ _ _)
      clear_value x16
      refine Changes.have (x := x17) ?_ fun h20 => ?_
      · unfold x17
        exact h19.then (State.updCtx_changes _ _ _)
      clear_value x17
      refine Changes.have (x := x18) ?_ fun h21 => ?_
      · unfold x18
        exact (h20.then (State.writeMirrors_changes _ _)).then (State.writeLedger_changes _ _)
      clear_value x18
      refine Changes.ite ?_ ?_
      · exact h21.then (State.postCtx_changes _ _ _ _ _ _)
      · exact h21
  · exact Changes.refl _ _

theorem execDoorbellPoll_answers (f : Fin 33) (summary : Word64) (evci : Word32) (recs : List (Fin 64 × Word64)) (s : State) :
    Answers (Part.regs ||| Part.out ||| Part.heldOut ||| Part.fns ||| Part.ctxs) s (execDoorbellPoll f summary evci recs s) := by
  refine ⟨_, rfl, ?_⟩
  refine Changes.ite ?_ ?_
  · extract_lets -merge -usedOnly x1 x2
    refine Changes.have (x := x1) ((State.updFn_changes _ _ _).mono) fun h3 => ?_
    refine Changes.have (x := x2) (h3.then (State.eventsLost_changes _ _)) fun h4 => ?_
    exact h4.then (State.serveDoorbells_changes _ _ _)
  · exact Changes.refl _ _

theorem execDoorbellFullScan_answers (f : Fin 33) (recs : List (Fin 64 × Word64)) (s : State) :
    Answers (Part.regs ||| Part.out ||| Part.heldOut ||| Part.fns ||| Part.ctxs) s (execDoorbellFullScan f recs s) := by
  refine ⟨_, rfl, ?_⟩
  refine Changes.ite ?_ ?_
  · exact (State.updFn_changes _ _ _).mono.then (State.serveDoorbells_changes _ _ _)
  · exact Changes.refl _ _

theorem execDescriptorAccept_answers (n : Fin 64) (d : Desc) (s : State) :
    Answers (Part.fresh ||| Part.regs ||| Part.bus ||| Part.out ||| Part.heldOut ||| Part.fns ||| Part.ctxs |||
        Part.engs ||| Part.bays ||| Part.chans ||| Part.ssgs ||| Part.bankMem ||| Part.dmcs ||| Part.trcs |||
        Part.substs ||| Part.snap ||| Part.time ||| Part.nis ||| Part.fabHeld) s (execDescriptorAccept n d s) := by
  refine ⟨_, rfl, ?_⟩
  split
  · refine Changes.ite ?_ ?_
    · extract_lets -merge -usedOnly x1 x2
      refine Changes.have (x := x2) ((State.updFn_changes _ _ _).mono.then (State.updCtx_changes _ _ _)) fun h3 => ?_
      refine Changes.ite ?_ ?_
      · exact (State.updFn_changes _ _ _).mono.then (State.updCtx_changes _ _ _)
      · refine Changes.ite ?_ ?_
        · exact h3.then (State.haltCtx_changes _ _ _)
        · exact h3
    · exact Changes.refl _ _
  · exact Changes.refl _ _

theorem execAcceptBatch_answers (n : Fin 64) (s : State) :
    Answers (Part.regs ||| Part.out ||| Part.heldOut ||| Part.ctxs ||| Part.bankMem ||| Part.dmcs) s (execAcceptBatch n s) := by
  refine ⟨_, rfl, ?_⟩
  refine Changes.ite ?_ ?_
  · extract_lets -merge -usedOnly x1 x2 x3
    refine Changes.have (x := x2) ?_ fun h4 => ?_
    · unfold x2
      refine Changes.each ?_ ?_
      · exact Changes.refl _ _
      · intro t5 a5 h5
        exact h5.then (State.wakeFor_changes _ _)
    refine Changes.have (x := x3) ((h4.then (State.wr_changes _ _ _)).then (State.updCtx_changes _ _ _)) fun h6 => ?_
    exact (h6.then (State.writeMirrors_changes _ _)).then (State.writeLedger_changes _ _)
  · exact Changes.refl _ _

theorem execAcceptReadbackDone_answers (n : Fin 64) (s : State) :
    Answers Part.ctxs s (execAcceptReadbackDone n s) := by
  refine ⟨_, rfl, ?_⟩
  refine Changes.ite ?_ ?_
  · exact (State.updCtx_changes _ _ _).mono
  · exact Changes.refl _ _

theorem execJobDispatch_answers (n : Fin 64) (d : Desc) (s : State) :
    Answers Part.ctxs s (execJobDispatch n d s) := by
  refine ⟨_, rfl, ?_⟩
  split
  · refine Changes.ite ?_ ?_
    · refine Changes.ite ?_ ?_
      · exact (State.updFront_changes _ _ _).mono
      · exact (State.finishFront_changes _ _ _ _).mono
    · exact Changes.refl _ _
  · exact Changes.refl _ _

theorem execPattern_answers (n : Fin 64) (s : State) :
    Answers (Part.regs ||| Part.ctxs ||| Part.engs ||| Part.time) s (execPattern n s) := by
  refine ⟨_, rfl, ?_⟩
  split
  · exact Changes.refl _ _
  · extract_lets -merge -usedOnly x1 x2 x3 x4 x5 x6 x7 x8 x9 x10 x11
    refine Changes.have (x := x10) ?_ fun h12 => ?_
    · unfold x10
      refine Changes.ite ?_ ?_
      · exact (State.updFront_changes _ _ _).mono
      · exact Changes.refl _ _
    refine Changes.have (x := x11) ?_ fun h13 => ?_
    · unfold x11
      refine Changes.ite ?_ ?_
      · exact h12.then (State.updTime_changes _ _)
      · exact h12
    refine Changes.ite ?_ ?_
    · exact (State.finishFront_changes _ _ _ _).mono
    · refine Changes.ite ?_ ?_
      · exact (State.finishFront_changes _ _ _ _).mono
      · refine Changes.ite ?_ ?_
        · exact Changes.refl _ _
        · refine Changes.ite ?_ ?_
          · exact (State.finishFront_changes _ _ _ _).mono
          · exact h13.then (State.launch_changes _ _ _ _ _)

theorem execSetupSequenceMemory_answers (n : Fin 64) (img : Nat) (s : State) :
    Answers (Part.ctxs ||| Part.engs ||| Part.seqMem ||| Part.seqUnread) s (execSetupSequenceMemory n img s) := by
  refine ⟨_, rfl, ?_⟩
  split
  · exact (State.setupSeq_changes _ _ _ _).mono.then (State.finishFront_changes _ _ _ _)
  · exact Changes.refl _ _

theorem execSetupTimingSets_answers (n : Fin 64) (img : Nat) (s : State) :
    Answers (Part.regs ||| Part.ctxs ||| Part.chans ||| Part.fsets ||| Part.lmaps ||| Part.scr ||| Part.tsets) s (execSetupTimingSets n img s) := by
  refine ⟨_, rfl, ?_⟩
  split
  · exact (State.setupWrite_changes _ _ _ _).mono
  · exact Changes.refl _ _

theorem execSetupLaneMaps_answers (n : Fin 64) (img : Nat) (s : State) :
    Answers (Part.regs ||| Part.ctxs ||| Part.chans ||| Part.fsets ||| Part.lmaps ||| Part.scr ||| Part.tsets) s (execSetupLaneMaps n img s) := by
  refine ⟨_, rfl, ?_⟩
  split
  · exact (State.setupWrite_changes _ _ _ _).mono
  · exact Changes.refl _ _

theorem execSetupPinFunctionSets_answers (n : Fin 64) (img : Nat) (s : State) :
    Answers (Part.regs ||| Part.ctxs ||| Part.chans ||| Part.fsets ||| Part.lmaps ||| Part.scr ||| Part.tsets) s (execSetupPinFunctionSets n img s) := by
  refine ⟨_, rfl, ?_⟩
  split
  · exact (State.setupWrite_changes _ _ _ _).mono
  · exact Changes.refl _ _

theorem execSetupScrambleTable_answers (n : Fin 64) (img : Nat) (s : State) :
    Answers (Part.regs ||| Part.ctxs ||| Part.chans ||| Part.fsets ||| Part.lmaps ||| Part.scr ||| Part.tsets) s (execSetupScrambleTable n img s) := by
  refine ⟨_, rfl, ?_⟩
  split
  · exact (State.setupWrite_changes _ _ _ _).mono
  · exact Changes.refl _ _

theorem execSetupVectorSwitchSelections_answers (n : Fin 64) (img : Nat) (s : State) :
    Answers (Part.regs ||| Part.ctxs ||| Part.chans ||| Part.fsets ||| Part.lmaps ||| Part.scr ||| Part.tsets) s (execSetupVectorSwitchSelections n img s) := by
  refine ⟨_, rfl, ?_⟩
  split
  · exact (State.setupWrite_changes _ _ _ _).mono
  · exact Changes.refl _ _

theorem execSetupDeferredWrite_answers (n : Fin 64) (img : Nat) (s : State) :
    Answers (Part.regs ||| Part.ctxs ||| Part.chans ||| Part.fsets ||| Part.lmaps ||| Part.scr ||| Part.tsets) s (execSetupDeferredWrite n img s) := by
  refine ⟨_, rfl, ?_⟩
  split
  · refine Changes.ite ?_ ?_
    · exact (State.setupWrite_changes _ _ _ _).mono
    · exact Changes.refl _ _
  · exact Changes.refl _ _

theorem execCalibrateFullChannel_answers (n : Fin 64) (s : State) :
    Answers (Part.regs ||| Part.bus ||| Part.out ||| Part.heldOut ||| Part.ctxs ||| Part.dmcs ||| Part.nis) s (execCalibrateFullChannel n s) := by
  refine ⟨_, rfl, ?_⟩
  split
  · refine Changes.ite ?_ ?_
    · exact Changes.refl _ _
    · refine Changes.ite ?_ ?_
      · exact (State.finishFront_changes _ _ _ _).mono
      · extract_lets -merge -usedOnly x1 x2 x3
        refine Changes.have (x := x1) ((State.updFront_changes _ _ _).mono) fun h4 => ?_
        refine Changes.have (x := x3) (h4.then (State.calBusy_changes _)) fun h5 => ?_
        refine Changes.each ?_ ?_
        · exact h5
        · intro t6 a6 h6
          exact h6.then (State.calStatus_changes _ _ _ _)
  · exact Changes.refl _ _

theorem execCalibrateTemperatureUpdate_answers (n : Fin 64) (s : State) :
    Answers (Part.regs ||| Part.bus ||| Part.out ||| Part.heldOut ||| Part.ctxs ||| Part.calRecs ||| Part.dmcs |||
        Part.nis) s (execCalibrateTemperatureUpdate n s) := by
  refine ⟨_, rfl, ?_⟩
  split
  · refine Changes.ite ?_ ?_
    · exact Changes.refl _ _
    · refine Changes.ite ?_ ?_
      · exact (State.finishFront_changes _ _ _ _).mono
      · extract_lets -merge -usedOnly x1
        refine Changes.have (x := x1) ((State.updFront_changes _ _ _).mono) fun h2 => ?_
        refine Changes.each ?_ ?_
        · exact h2
        · intro t3 a3 h3
          extract_lets -merge -usedOnly x4
          refine Changes.have (x := x4.2) ?_ fun h5 => ?_
          · unfold x4
            exact h3.then (State.tempUpdate_changes _ _)
          exact h5.then (State.calStatus_changes _ _ _ _)
  · exact Changes.refl _ _

theorem execCalibrateCompareLatency_answers (n : Fin 64) (meas : List (Option Nat)) (s : State) :
    Answers (Part.regs ||| Part.ctxs) s (execCalibrateCompareLatency n meas s) := by
  refine ⟨_, rfl, ?_⟩
  split
  · refine Changes.ite ?_ ?_
    · exact Changes.refl _ _
    · extract_lets -merge -usedOnly x1 x2
      refine Changes.have (x := x2.2) ?_ fun h3 => ?_
      · unfold x2
        refine Changes.foldl Prod.snd ?_ ?_
        · refine Changes.mk_snd ?_
          exact Changes.refl _ _
        · intro t4 a4 h4
          refine Changes.ite_snd ?_ ?_
          · exact h4
          · split
            · refine Changes.ite_snd ?_ ?_
              · refine Changes.mk_snd ?_
                exact h4
              · refine Changes.mk_snd ?_
                exact h4.then (State.wr_changes _ _ _)
            · refine Changes.mk_snd ?_
              exact h4
      refine Changes.ite ?_ ?_
      · exact h3.then (State.finishFront_changes _ _ _ _)
      · exact h3.then (State.finishFront_changes _ _ _ _)
  · exact Changes.refl _ _

theorem execCalibrateDramRetrain_answers (n : Fin 64) (outs : List (Bool × Nat)) (s : State) :
    Answers (Part.regs ||| Part.bus ||| Part.out ||| Part.heldOut ||| Part.ctxs ||| Part.dmcs ||| Part.nis) s (execCalibrateDramRetrain n outs s) := by
  refine ⟨_, rfl, ?_⟩
  split
  · refine Changes.ite ?_ ?_
    · exact Changes.refl _ _
    · refine Changes.ite ?_ ?_
      · exact (State.finishFront_changes _ _ _ _).mono
      · extract_lets -merge -usedOnly x1 x2
        refine Changes.have (x := x2.2) ?_ fun h3 => ?_
        · unfold x2
          refine Changes.foldl Prod.snd ?_ ?_
          · refine Changes.mk_snd ?_
            exact Changes.refl _ _
          · intro t4 a4 h4
            extract_lets -merge -usedOnly x5 x6 x7 x8
            refine Changes.have (x := x5) h4 fun h9 => ?_
            refine Changes.have (x := x8) ?_ fun h10 => ?_
            · unfold x8
              refine Changes.ite ?_ ?_
              · refine Changes.each ?_ ?_
                · exact h9
                · intro t11 a11 h11
                  refine Changes.ite ?_ ?_
                  · exact h11.then (State.setOn_changes _ _)
                  · exact h11
              · refine Changes.ite ?_ ?_
                · exact ((h9.then (State.setOn_changes _ _)).then (State.wr_changes _ _ _)).then (State.updDmc_changes _ _ _)
                · exact h9
            refine Changes.mk_snd ?_
            exact h10.then (State.resultWrite_changes _ _ _ _ _)
        refine Changes.ite ?_ ?_
        · refine Changes.each ?_ ?_
          · exact Changes.refl _ _
          · intro t12 a12 h12
            exact h12.then (State.wakeDram_changes _ _)
        · refine Changes.ite ?_ ?_
          · exact h3.then (State.finishFront_changes _ _ _ _)
          · exact h3.then (State.finishFront_changes _ _ _ _)
  · exact Changes.refl _ _

theorem execNop_answers (n : Fin 64) (s : State) :
    Answers Part.ctxs s (execNop n s) := by
  refine ⟨_, rfl, ?_⟩
  split
  · exact (State.finishFront_changes _ _ _ _).mono
  · exact Changes.refl _ _

theorem execAbort_answers (n : Fin 64) (s : State) :
    Answers (Part.fresh ||| Part.regs ||| Part.bus ||| Part.ctxs ||| Part.engs ||| Part.bays ||| Part.chans |||
        Part.ssgs ||| Part.bankMem ||| Part.dmcs ||| Part.trcs ||| Part.snap ||| Part.nis ||| Part.fabHeld) s (execAbort n s) := by
  refine ⟨_, rfl, ?_⟩
  split
  · exact Changes.refl _ _
  · split
    · exact (State.ctlDone_changes _ _ _ _).mono
    · refine Changes.ite ?_ ?_
      · exact (State.updJob_changes _ _ _ _).mono.then (State.ctlDone_changes _ _ _ _)
      · refine Changes.ite ?_ ?_
        · exact (State.updFront_changes _ _ _).mono.then (State.ctlDone_changes _ _ _ _)
        · refine Changes.ite ?_ ?_
          · refine Changes.ite ?_ ?_
            · refine Changes.ite ?_ ?_
              · exact (State.ctlDone_changes _ _ _ _).mono
              · exact ((State.failFront_changes _ _ _ _).mono.then (State.stopJob_changes _ _)).then (State.ctlDone_changes _ _ _ _)
            · exact ((State.finishFront_changes _ _ _ _).mono.then (State.calBusy_changes _)).then (State.ctlDone_changes _ _ _ _)
          · exact (State.ctlDone_changes _ _ _ _).mono

theorem execPause_answers (n : Fin 64) (s : State) :
    Answers (Part.regs ||| Part.ctxs ||| Part.engs ||| Part.chans ||| Part.ssgs ||| Part.snap) s (execPause n s) := by
  refine ⟨_, rfl, ?_⟩
  split
  · exact Changes.refl _ _
  · split
    · exact (State.ctlDone_changes _ _ _ _).mono
    · refine Changes.ite ?_ ?_
      · refine Changes.ite ?_ ?_
        · exact (State.ctlDone_changes _ _ _ _).mono
        · exact (State.updJob_changes _ _ _ _).mono.then (State.ctlDone_changes _ _ _ _)
      · refine Changes.ite ?_ ?_
        · extract_lets -merge -usedOnly x1 x2
          refine Changes.have (x := x1) ((State.updFront_changes _ _ _).mono) fun h3 => ?_
          refine Changes.have (x := x2) ?_ fun h4 => ?_
          · unfold x2
            refine Changes.each ?_ ?_
            · exact h3
            · intro t5 a5 h5
              refine Changes.ite ?_ ?_
              · exact h5.then (State.updEng_changes _ _ _)
              · exact h5.then (State.pauseGang_changes _ _)
          exact h4.then (State.ctlDone_changes _ _ _ _)
        · exact (State.ctlDone_changes _ _ _ _).mono

theorem execResume_answers (n : Fin 64) (s : State) :
    Answers (Part.regs ||| Part.ctxs ||| Part.engs) s (execResume n s) := by
  refine ⟨_, rfl, ?_⟩
  split
  · exact Changes.refl _ _
  · split
    · exact (State.ctlDone_changes _ _ _ _).mono
    · refine Changes.ite ?_ ?_
      · refine Changes.ite ?_ ?_
        · exact (State.updJob_changes _ _ _ _).mono.then (State.ctlDone_changes _ _ _ _)
        · exact (State.ctlDone_changes _ _ _ _).mono
      · refine Changes.ite ?_ ?_
        · extract_lets -merge -usedOnly x1 x2
          refine Changes.have (x := x1) ((State.updFront_changes _ _ _).mono) fun h3 => ?_
          refine Changes.have (x := x2) ?_ fun h4 => ?_
          · unfold x2
            refine Changes.each ?_ ?_
            · exact h3
            · intro t5 a5 h5
              exact h5.then (State.resumeGang_changes _ _)
          exact h4.then (State.ctlDone_changes _ _ _ _)
        · exact (State.ctlDone_changes _ _ _ _).mono

theorem execRearm_answers (n : Fin 64) (s : State) :
    Answers Part.ctxs s (execRearm n s) := by
  refine ⟨_, rfl, ?_⟩
  split
  · exact Changes.refl _ _
  · split
    · exact (State.ctlDone_changes _ _ _ _).mono
    · refine Changes.ite ?_ ?_
      · exact (State.updJob_changes _ _ _ _).mono.then (State.ctlDone_changes _ _ _ _)
      · exact (State.ctlDone_changes _ _ _ _).mono

theorem execCompletionCommit_answers (n : Fin 64) (s : State) :
    Answers (Part.regs ||| Part.out ||| Part.heldOut ||| Part.fns ||| Part.ctxs ||| Part.bankMem ||| Part.time) s (execCompletionCommit n s) := by
  refine ⟨_, rfl, ?_⟩
  split
  · split
    · extract_lets -merge -usedOnly x1
      refine Changes.ite ?_ ?_
      · exact (State.commitFront_changes _ _ _ _ _).mono
      · exact Changes.refl _ _
    · exact Changes.refl _ _
  · exact Changes.refl _ _

theorem execEvciReread_answers (f : Fin 33) (evci : Word32) (s : State) :
    Answers (Part.regs ||| Part.out ||| Part.heldOut ||| Part.fns) s (execEvciReread f evci s) := by
  refine ⟨_, rfl, ?_⟩
  refine Changes.ite ?_ ?_
  · exact Changes.refl _ _
  · extract_lets -merge -usedOnly x1 x2 x3
    refine Changes.have (x := x1) ((State.updFn_changes _ _ _).mono) fun h4 => ?_
    refine Changes.have (x := x3) (h4.then (State.placeWaiting_changes _ _)) fun h5 => ?_
    refine Changes.ite ?_ ?_
    · exact (h5.then (State.dropEvent_changes _ _)).then (State.placeWaiting_changes _ _)
    · exact h5

theorem execEngMapWrite_answers (r : Req) (n : Fin 104) (le : Fin 128) (s : State) :
    Answers (Part.regs ||| Part.engs ||| Part.fsets ||| Part.lmaps ||| Part.scr) s (execEngMapWrite r n le s) := by
  refine ⟨_, rfl, ?_⟩
  refine Changes.ite ?_ ?_
  · exact (State.engMapWrite_changes _ _ _).mono
  · exact Changes.refl _ _

theorem execSeqModeChange_answers (r : Req) (split : Bool) (s : State) :
    Answers (Part.regs ||| Part.seqPos) s (execSeqModeChange r split s) := by
  refine ⟨_, rfl, ?_⟩
  refine Changes.ite ?_ ?_
  · exact (State.seqModeWrite_changes _ _).mono
  · exact Changes.refl _ _

theorem execSeqCopyDone_answers (ceW ueW ueBoth : List (Fin 0x20000)) (s : State) :
    Answers (Part.regs ||| Part.engs ||| Part.seqMem ||| Part.seqUnread ||| Part.seqPos) s (execSeqCopyDone ceW ueW ueBoth s) := by
  refine ⟨_, rfl, ?_⟩
  refine Changes.ite ?_ ?_
  · extract_lets -merge -usedOnly x1
    refine Changes.have (x := x1) (((State.count_changes _ _ _).mono.then (State.seqCopy_changes _ _ _)).then (State.clr_changes _ _)) fun h2 => ?_
    exact Changes.set_seqPos h2
  · exact Changes.refl _ _

theorem execSeqWindowHold_answers (r : Req) (h : Fin 2) (e : Fin 0x20000) (w : Fin 3) (v : Word32) (s : State) :
    Answers (Part.regs ||| Part.holds) s (execSeqWindowHold r h e w v s) := by
  refine ⟨_, rfl, ?_⟩
  refine Changes.ite ?_ ?_
  · exact (State.seqHold_changes _ _ _ _ _ _).mono
  · exact Changes.refl _ _

theorem execSeqWindowCommit_answers (r : Req) (h : Fin 2) (e : Fin 0x20000) (v : Word32) (s : State) :
    Answers (Part.regs ||| Part.holds ||| Part.engs ||| Part.seqMem ||| Part.seqUnread) s (execSeqWindowCommit r h e v s) := by
  refine ⟨_, rfl, ?_⟩
  refine Changes.ite ?_ ?_
  · exact (State.seqCommit_changes _ _ _ _ _).mono
  · exact Changes.refl _ _

theorem execSeqFillComplete_answers (n : Fin 104) (w : Nat) (outs : List (Fin 16 × Ecc × Ecc)) (s : State) :
    Answers (Part.fresh ||| Part.regs ||| Part.bus ||| Part.ctxs ||| Part.engs ||| Part.bays ||| Part.chans |||
        Part.ssgs ||| Part.seqMem ||| Part.seqUnread ||| Part.bankMem ||| Part.dmcs ||| Part.trcs |||
        Part.snap ||| Part.nis ||| Part.fabHeld) s (execSeqFillComplete n w outs s) := by
  refine ⟨_, rfl, ?_⟩
  refine Changes.ite ?_ ?_
  · exact Changes.refl _ _
  · extract_lets -merge -usedOnly x1
    refine Changes.have (x := x1.2) ?_ fun h2 => ?_
    · unfold x1
      exact (State.endHold_changes _ _ _).mono.then (State.fillEntries_changes _ _ _ _)
    refine Changes.ite ?_ ?_
    · exact h2.then (State.programStop_changes _ _ _)
    · exact h2.then (State.fillGang_changes _ _ _)

theorem execSeqSpineFillTimeout_answers (n : Fin 104) (w : Nat) (k : Fin 16) (s : State) :
    Answers (Part.fresh ||| Part.regs ||| Part.bus ||| Part.ctxs ||| Part.engs ||| Part.bays ||| Part.chans |||
        Part.ssgs ||| Part.seqUnread ||| Part.bankMem ||| Part.dmcs ||| Part.trcs ||| Part.snap ||| Part.nis |||
        Part.fabHeld) s (execSeqSpineFillTimeout n w k s) := by
  refine ⟨_, rfl, ?_⟩
  refine Changes.ite ?_ ?_
  · exact (((State.endHold_changes _ _ _).mono.then (State.count_changes _ _ _)).then (State.seqMark_changes _ _ _)).then (State.programStop_changes _ _ _)
  · exact Changes.refl _ _

theorem execPreloadDone_answers (n : Fin 104) (outs : List (Fin 0x20000 × Ecc × Ecc)) (s : State) :
    Answers (Part.fresh ||| Part.regs ||| Part.bus ||| Part.ctxs ||| Part.engs ||| Part.bays ||| Part.chans |||
        Part.ssgs ||| Part.seqMem ||| Part.seqUnread ||| Part.bankMem ||| Part.dmcs ||| Part.trcs |||
        Part.snap ||| Part.nis ||| Part.fabHeld) s (execPreloadDone n outs s) := by
  refine ⟨_, rfl, ?_⟩
  split
  · refine Changes.ite ?_ ?_
    · extract_lets -merge -usedOnly x1 x2 x3 x4 x5 x6 x7 x8
      refine Changes.have (x := x4.2) ?_ fun h9 => ?_
      · unfold x4
        exact (State.fillEntries_changes _ _ _ _).mono
      refine Changes.have (x := x5) h9 fun h10 => ?_
      refine Changes.have (x := x6) ?_ fun h11 => ?_
      · unfold x6
        refine Changes.each ?_ ?_
        · exact h10
        · intro t12 a12 h12
          exact h12.then (State.preload_changes _ _ _)
      refine Changes.have (x := x8) ?_ fun h13 => ?_
      · unfold x8
        refine Changes.ite ?_ ?_
        · exact h11.then (State.updFront_changes _ _ _)
        · exact h11
      refine Changes.ite ?_ ?_
      · exact h10.then (State.programStop_changes _ _ _)
      · refine Changes.ite ?_ ?_
        · exact h11.then (State.wrGang_changes _ _ _ _)
        · refine Changes.each ?_ ?_
          · exact h13
          · intro t14 a14 h14
            exact (h14.then (State.wr_changes _ _ _)).then (State.noteRun_changes _ _)
    · exact Changes.refl _ _
  · exact Changes.refl _ _

theorem execCacheInvalidate_answers (r : Req) (n : Fin 104) (s : State) :
    Answers Part.regs s (execCacheInvalidate r n s) := by
  refine ⟨_, rfl, ?_⟩
  refine Changes.ite ?_ ?_
  · exact (State.cacheInv_changes _ _).mono
  · exact Changes.refl _ _

theorem execCacheInvalidateDone_answers (n : Fin 104) (s : State) :
    Answers (Part.regs ||| Part.engs) s (execCacheInvalidateDone n s) := by
  refine ⟨_, rfl, ?_⟩
  refine Changes.ite ?_ ?_
  · exact (State.updEng_changes _ _ _).mono.then (State.clr_changes _ _)
  · exact Changes.refl _ _

theorem execEngIrqWrite_answers (r : Req) (n : Fin 104) (v : Word32) (s : State) :
    Answers Part.regs s (execEngIrqWrite r n v s) := by
  refine ⟨_, rfl, ?_⟩
  refine Changes.ite ?_ ?_
  · exact (State.irqWrite_changes _ _ _).mono
  · exact Changes.refl _ _

theorem execPredictorFlush_answers (r : Req) (n : Fin 104) (s : State) :
    Answers Part.engs s (execPredictorFlush r n s) := by
  refine ⟨_, rfl, ?_⟩
  refine Changes.ite ?_ ?_
  · exact (State.predFlush_changes _ _).mono
  · exact Changes.refl _ _

theorem execNext_answers (n : Fin 104) (w : Nat) (s : State) :
    Answers (Part.regs ||| Part.bus ||| Part.ctxs ||| Part.engs ||| Part.bays ||| Part.chans ||| Part.ssgs |||
        Part.ports ||| Part.bankMem ||| Part.dmcs ||| Part.trcs ||| Part.snap ||| Part.nis) s (execNext n w s) := by
  refine ⟨_, rfl, ?_⟩
  refine Changes.enter ?_ ?_
  · exact Changes.refl _ _
  · intro t1 x1 h1
    exact h1.then (State.plain_changes _ _ _)

theorem execJmp_answers (n : Fin 104) (w : Nat) (s : State) :
    Answers (Part.regs ||| Part.bus ||| Part.ctxs ||| Part.engs ||| Part.bays ||| Part.chans ||| Part.ssgs |||
        Part.ports ||| Part.dmcs ||| Part.trcs ||| Part.snap ||| Part.nis) s (execJmp n w s) := by
  refine ⟨_, rfl, ?_⟩
  refine Changes.enter ?_ ?_
  · exact Changes.refl _ _
  · intro t1 x1 h1
    exact h1.then (State.jump_changes _ _ _ _ _)

theorem execRep_answers (n : Fin 104) (w : Nat) (s : State) :
    Answers (Part.regs ||| Part.bus ||| Part.ctxs ||| Part.engs ||| Part.bays ||| Part.chans ||| Part.ssgs |||
        Part.ports ||| Part.dmcs ||| Part.trcs ||| Part.snap ||| Part.nis) s (execRep n w s) := by
  refine ⟨_, rfl, ?_⟩
  refine Changes.enter ?_ ?_
  · exact Changes.refl _ _
  · intro t1 x1 h1
    extract_lets -merge -usedOnly x2 x3
    refine Changes.have (x := x2) (h1.then (State.issue_changes _ _ _ _)) fun h4 => ?_
    refine Changes.have (x := x3) (h4.then (State.updEng_changes _ _ _)) fun h5 => ?_
    exact (h5.then (State.setPc_changes _ _ _)).then (State.stepCount_changes _ _)

theorem execMwait_answers (n : Fin 104) (w : Nat) (s : State) :
    Answers (Part.regs ||| Part.bus ||| Part.ctxs ||| Part.engs ||| Part.bays ||| Part.chans ||| Part.ssgs |||
        Part.ports ||| Part.bankMem ||| Part.dmcs ||| Part.trcs ||| Part.snap ||| Part.nis) s (execMwait n w s) := by
  refine ⟨_, rfl, ?_⟩
  refine Changes.enter ?_ ?_
  · exact Changes.refl _ _
  · intro t1 x1 h1
    exact h1.then (State.mwaitBody_changes _ _ _)

theorem execHalt_answers (n : Fin 104) (w : Nat) (s : State) :
    Answers (Part.regs ||| Part.bus ||| Part.ctxs ||| Part.engs ||| Part.bays ||| Part.chans ||| Part.ssgs |||
        Part.ports ||| Part.bankMem ||| Part.dmcs ||| Part.trcs ||| Part.snap ||| Part.nis) s (execHalt n w s) := by
  refine ⟨_, rfl, ?_⟩
  refine Changes.enter ?_ ?_
  · exact Changes.refl _ _
  · intro t1 x1 h1
    exact h1.then (State.haltBody_changes _ _ _)

theorem execHaltDrainDone_answers (n : Fin 104) (s : State) :
    Answers (Part.regs ||| Part.engs) s (execHaltDrainDone n s) := by
  refine ⟨_, rfl, ?_⟩
  refine Changes.ite ?_ ?_
  · extract_lets -merge -usedOnly x1
    refine Changes.have (x := x1) ((State.updEng_changes _ _ _).mono) fun h2 => ?_
    refine Changes.each ?_ ?_
    · exact h2
    · intro t3 a3 h3
      refine Changes.then ?_ (State.clr_changes _ _)
      refine Changes.ite ?_ ?_
      · exact h3
      · exact h3.then (State.wr_changes _ _ _)
  · exact Changes.refl _ _

theorem execPauseOpcode_answers (n : Fin 104) (w : Nat) (s : State) :
    Answers (Part.regs ||| Part.bus ||| Part.ctxs ||| Part.engs ||| Part.bays ||| Part.chans ||| Part.ssgs |||
        Part.ports ||| Part.bankMem ||| Part.dmcs ||| Part.trcs ||| Part.snap ||| Part.nis) s (execPauseOpcode n w s) := by
  refine ⟨_, rfl, ?_⟩
  refine Changes.enter ?_ ?_
  · exact Changes.refl _ _
  · intro t1 x1 h1
    exact h1.then (State.pauseBody_changes _ _ _)

theorem execSync_answers (n : Fin 104) (w : Nat) (s : State) :
    Answers (Part.regs ||| Part.ctxs ||| Part.engs ||| Part.chans ||| Part.ssgs ||| Part.snap) s (execSync n w s) := by
  refine ⟨_, rfl, ?_⟩
  refine Changes.enter ?_ ?_
  · exact Changes.refl _ _
  · intro t1 x1 h1
    exact h1.then (State.waitFor_changes _ _ _ _)

theorem execSyncRelease_answers (c : Fin 64) (h : Fin 2) (ws : List (Fin 104 × Nat)) (s : State) :
    Answers (Part.regs ||| Part.bus ||| Part.ctxs ||| Part.engs ||| Part.bays ||| Part.chans ||| Part.ssgs |||
        Part.ports ||| Part.bankMem ||| Part.dmcs ||| Part.trcs ||| Part.snap ||| Part.nis) s (execSyncRelease c h ws s) := by
  refine ⟨_, rfl, ?_⟩
  refine Changes.ite ?_ ?_
  · refine Changes.each ?_ ?_
    · exact Changes.refl _ _
    · intro t1 a1 h1
      exact h1.then (State.leaveWait_changes _ _ _)
  · exact Changes.refl _ _

theorem execLock_answers (n : Fin 104) (w : Nat) (s : State) :
    Answers (Part.regs ||| Part.ctxs ||| Part.engs ||| Part.chans ||| Part.ssgs ||| Part.snap) s (execLock n w s) := by
  refine ⟨_, rfl, ?_⟩
  refine Changes.enter ?_ ?_
  · exact Changes.refl _ _
  · intro t1 x1 h1
    exact h1.then (State.waitFor_changes _ _ _ _)

theorem execLockResponse_answers (n : Fin 104) (w : Nat) (s : State) :
    Answers (Part.regs ||| Part.bus ||| Part.ctxs ||| Part.engs ||| Part.bays ||| Part.chans ||| Part.ssgs |||
        Part.ports ||| Part.bankMem ||| Part.dmcs ||| Part.trcs ||| Part.snap ||| Part.nis) s (execLockResponse n w s) := by
  refine ⟨_, rfl, ?_⟩
  refine Changes.ite ?_ ?_
  · extract_lets -merge -usedOnly x1 x2 x3 x4
    refine Changes.have (x := x2.2) ?_ fun h5 => ?_
    · unfold x2
      exact (State.semAcquire_changes _ _ _ _ _).mono
    refine Changes.have (x := x3) h5 fun h6 => ?_
    refine Changes.have (x := x4) (h6.then (State.updEng_changes _ _ _)) fun h7 => ?_
    refine Changes.ite ?_ ?_
    · exact ((h6.then (State.updEng_changes _ _ _)).then (State.setOn_changes _ _)).then (State.leaveWait_changes _ _ _)
    · refine Changes.ite ?_ ?_
      · exact h7.then (State.leaveWait_changes _ _ _)
      · exact h7.then (State.updEng_changes _ _ _)
  · exact Changes.refl _ _

theorem execLockRetry_answers (n : Fin 104) (s : State) :
    Answers Part.engs s (execLockRetry n s) := by
  refine ⟨_, rfl, ?_⟩
  refine Changes.ite ?_ ?_
  · exact (State.updEng_changes _ _ _).mono
  · exact Changes.refl _ _

theorem execUnlock_answers (n : Fin 104) (w : Nat) (s : State) :
    Answers (Part.fresh ||| Part.regs ||| Part.bus ||| Part.ctxs ||| Part.engs ||| Part.bays ||| Part.chans |||
        Part.ssgs ||| Part.ports ||| Part.bankMem ||| Part.dmcs ||| Part.trcs ||| Part.snap ||| Part.nis |||
        Part.fabHeld) s (execUnlock n w s) := by
  refine ⟨_, rfl, ?_⟩
  refine Changes.enter ?_ ?_
  · exact Changes.refl _ _
  · intro t1 x1 h1
    extract_lets -merge -usedOnly x2 x3 x4
    refine Changes.have (x := x2.2) ?_ fun h5 => ?_
    · unfold x2
      exact h1.then (State.semRelease_changes _ _ _ _ _)
    refine Changes.have (x := x3) h5 fun h6 => ?_
    refine Changes.have (x := x4) (h6.then (State.updEng_changes _ _ _)) fun h7 => ?_
    refine Changes.ite ?_ ?_
    · exact (h7.then (State.clr_changes _ _)).then (State.plain_changes _ _ _)
    · exact (h6.then (State.errAt_changes _ _ _)).then (State.programStop_changes _ _ _)

theorem execSave_answers (n : Fin 104) (w : Nat) (s : State) :
    Answers (Part.regs ||| Part.bus ||| Part.ctxs ||| Part.engs ||| Part.bays ||| Part.chans ||| Part.ssgs |||
        Part.ports ||| Part.bankMem ||| Part.dmcs ||| Part.trcs ||| Part.snap ||| Part.nis) s (execSave n w s) := by
  refine ⟨_, rfl, ?_⟩
  refine Changes.ite ?_ ?_
  · exact (State.endTransfer_changes _ _ _).mono.then (State.saveDone_changes _ _ _)
  · refine Changes.enter ?_ ?_
    · exact Changes.refl _ _
    · intro t1 x1 h1
      exact h1.then (State.waitFor_changes _ _ _ _)

theorem execRestore_answers (n : Fin 104) (w : Nat) (s : State) :
    Answers (Part.fresh ||| Part.regs ||| Part.bus ||| Part.ctxs ||| Part.engs ||| Part.bays ||| Part.chans |||
        Part.ssgs ||| Part.ports ||| Part.bankMem ||| Part.dmcs ||| Part.trcs ||| Part.snap ||| Part.nis |||
        Part.fabHeld) s (execRestore n w s) := by
  refine ⟨_, rfl, ?_⟩
  refine Changes.ite ?_ ?_
  · exact (State.endTransfer_changes _ _ _).mono.then (State.restoreDone_changes _ _ _)
  · refine Changes.enter ?_ ?_
    · exact Changes.refl _ _
    · intro t1 x1 h1
      exact h1.then (State.waitFor_changes _ _ _ _)

theorem execIret_answers (n : Fin 104) (w : Nat) (s : State) :
    Answers (Part.regs ||| Part.bus ||| Part.ctxs ||| Part.engs ||| Part.bays ||| Part.chans ||| Part.ssgs |||
        Part.ports ||| Part.dmcs ||| Part.trcs ||| Part.snap ||| Part.nis) s (execIret n w s) := by
  refine ⟨_, rfl, ?_⟩
  refine Changes.enter ?_ ?_
  · exact Changes.refl _ _
  · intro t1 x1 h1
    extract_lets -merge -usedOnly x2
    refine Changes.have (x := x2) ((h1.then (State.issue_changes _ _ _ _)).then (State.updEng_changes _ _ _)) fun h3 => ?_
    exact (h3.then (State.setPc_changes _ _ _)).then (State.stepCount_changes _ _)

theorem execTrap_answers (n : Fin 104) (w : Nat) (s : State) :
    Answers (Part.regs ||| Part.bus ||| Part.ctxs ||| Part.engs ||| Part.bays ||| Part.chans ||| Part.ssgs |||
        Part.ports ||| Part.bankMem ||| Part.dmcs ||| Part.trcs ||| Part.snap ||| Part.nis) s (execTrap n w s) := by
  refine ⟨_, rfl, ?_⟩
  refine Changes.enter ?_ ?_
  · exact Changes.refl _ _
  · intro t1 x1 h1
    extract_lets -merge -usedOnly x2
    refine Changes.have (x := x2) ((h1.then (State.plain_changes _ _ _)).then (State.raiseGang_changes _ _ _)) fun h3 => ?_
    refine Changes.ite ?_ ?_
    · refine Changes.each ?_ ?_
      · exact h3
      · intro t4 a4 h4
        exact h4.then (State.raiseGang_changes _ _ _)
    · exact h3

theorem execTrace_answers (n : Fin 104) (w : Nat) (s : State) :
    Answers (Part.regs ||| Part.bus ||| Part.ctxs ||| Part.engs ||| Part.bays ||| Part.chans ||| Part.ssgs |||
        Part.ports ||| Part.bankMem ||| Part.dmcs ||| Part.trcs ||| Part.snap ||| Part.nis) s (execTrace n w s) := by
  refine ⟨_, rfl, ?_⟩
  refine Changes.enter ?_ ?_
  · exact Changes.refl _ _
  · intro t1 x1 h1
    exact (h1.then (State.stimulus_changes _ _ _ _ _ _)).then (State.plain_changes _ _ _)

theorem execClrf_answers (n : Fin 104) (w : Nat) (s : State) :
    Answers (Part.regs ||| Part.bus ||| Part.ctxs ||| Part.engs ||| Part.bays ||| Part.chans ||| Part.ssgs |||
        Part.ports ||| Part.bankMem ||| Part.dmcs ||| Part.trcs ||| Part.snap ||| Part.nis) s (execClrf n w s) := by
  refine ⟨_, rfl, ?_⟩
  refine Changes.enter ?_ ?_
  · exact Changes.refl _ _
  · intro t1 x1 h1
    extract_lets -merge -usedOnly x2
    refine Changes.then ?_ (State.plain_changes _ _ _)
    refine Changes.each ?_ ?_
    · exact h1
    · intro t3 a3 h3
      exact h3.then (State.updEng_changes _ _ _)

theorem execBr_answers (n : Fin 104) (w : Nat) (s : State) :
    Answers (Part.regs ||| Part.bus ||| Part.ctxs ||| Part.engs ||| Part.bays ||| Part.chans ||| Part.ssgs |||
        Part.ports ||| Part.dmcs ||| Part.trcs ||| Part.snap ||| Part.nis) s (execBr n w s) := by
  refine ⟨_, rfl, ?_⟩
  refine Changes.enter ?_ ?_
  · exact Changes.refl _ _
  · intro t1 x1 h1
    exact h1.then (State.brBody_changes _ _ _)

theorem execCall_answers (n : Fin 104) (w : Nat) (s : State) :
    Answers (Part.fresh ||| Part.regs ||| Part.bus ||| Part.ctxs ||| Part.engs ||| Part.bays ||| Part.chans |||
        Part.ssgs ||| Part.ports ||| Part.bankMem ||| Part.dmcs ||| Part.trcs ||| Part.snap ||| Part.nis |||
        Part.fabHeld) s (execCall n w s) := by
  refine ⟨_, rfl, ?_⟩
  refine Changes.enter ?_ ?_
  · exact Changes.refl _ _
  · intro t1 x1 h1
    exact h1.then (State.callBody_changes _ _ _)

theorem execRet_answers (n : Fin 104) (w : Nat) (s : State) :
    Answers (Part.fresh ||| Part.regs ||| Part.bus ||| Part.ctxs ||| Part.engs ||| Part.bays ||| Part.chans |||
        Part.ssgs ||| Part.ports ||| Part.bankMem ||| Part.dmcs ||| Part.trcs ||| Part.snap ||| Part.nis |||
        Part.fabHeld) s (execRet n w s) := by
  refine ⟨_, rfl, ?_⟩
  refine Changes.enter ?_ ?_
  · exact Changes.refl _ _
  · intro t1 x1 h1
    exact h1.then (State.retBody_changes _ _ _)

theorem execLoop_answers (n : Fin 104) (w : Nat) (s : State) :
    Answers (Part.regs ||| Part.bus ||| Part.ctxs ||| Part.engs ||| Part.bays ||| Part.chans ||| Part.ssgs |||
        Part.ports ||| Part.dmcs ||| Part.trcs ||| Part.snap ||| Part.nis) s (execLoop n w s) := by
  refine ⟨_, rfl, ?_⟩
  refine Changes.enter ?_ ?_
  · exact Changes.refl _ _
  · intro t1 x1 h1
    extract_lets -merge -usedOnly x2
    exact (h1.then (State.setCnt_changes _ _ _ _)).then (State.jump_changes _ _ _ _ _)

theorem execLdc_answers (n : Fin 104) (w : Nat) (s : State) :
    Answers (Part.regs ||| Part.bus ||| Part.ctxs ||| Part.engs ||| Part.bays ||| Part.chans ||| Part.ssgs |||
        Part.ports ||| Part.bankMem ||| Part.dmcs ||| Part.trcs ||| Part.snap ||| Part.nis) s (execLdc n w s) := by
  refine ⟨_, rfl, ?_⟩
  refine Changes.enter ?_ ?_
  · exact Changes.refl _ _
  · intro t1 x1 h1
    exact (h1.then (State.setCnt_changes _ _ _ _)).then (State.plain_changes _ _ _)

theorem execWaitt_answers (n : Fin 104) (w : Nat) (s : State) :
    Answers (Part.regs ||| Part.bus ||| Part.ctxs ||| Part.engs ||| Part.bays ||| Part.chans ||| Part.ssgs |||
        Part.ports ||| Part.bankMem ||| Part.dmcs ||| Part.trcs ||| Part.snap ||| Part.nis) s (execWaitt n w s) := by
  refine ⟨_, rfl, ?_⟩
  refine Changes.enter ?_ ?_
  · exact Changes.refl _ _
  · intro t1 x1 h1
    refine Changes.ite ?_ ?_
    · exact h1.then (State.plain_changes _ _ _)
    · exact h1.then (State.waitFor_changes _ _ _ _)

theorem execIllegalEntry_answers (n : Fin 104) (w : Nat) (s : State) :
    Answers (Part.fresh ||| Part.regs ||| Part.bus ||| Part.ctxs ||| Part.engs ||| Part.bays ||| Part.chans |||
        Part.ssgs ||| Part.bankMem ||| Part.dmcs ||| Part.trcs ||| Part.snap ||| Part.nis ||| Part.fabHeld) s (execIllegalEntry n w s) := by
  refine ⟨_, rfl, ?_⟩
  split
  · refine Changes.ite ?_ ?_
    · split
      · exact (State.startHold_changes _ _ _).mono
      · exact (State.startHold_changes _ _ _).mono
      · exact ((State.endHold_changes _ _ _).mono.then (State.errAt_changes _ _ _)).then (State.programStop_changes _ _ _)
    · exact Changes.refl _ _
  · exact Changes.refl _ _

theorem execMatchWindowResolve_answers (n : Fin 104) (late : Nat) (s : State) :
    Answers (Part.fresh ||| Part.regs ||| Part.bus ||| Part.ctxs ||| Part.engs ||| Part.bays ||| Part.chans |||
        Part.ssgs ||| Part.ports ||| Part.bankMem ||| Part.dmcs ||| Part.trcs ||| Part.snap ||| Part.nis |||
        Part.fabHeld) s (execMatchWindowResolve n late s) := by
  refine ⟨_, rfl, ?_⟩
  refine Changes.ite ?_ ?_
  · split
    · extract_lets -merge -usedOnly x1 x2 x3
      refine Changes.have (x := x1) ?_ fun h4 => ?_
      · unfold x1
        refine Changes.ite ?_ ?_
        · exact Changes.refl _ _
        · exact (State.count_changes _ _ _).mono
      refine Changes.have (x := x2) (h4.then (State.holdFor_changes _ _ _)) fun h5 => ?_
      refine Changes.have (x := x3) ((h5.then (State.updEng_changes _ _ _)).then (State.setStall_changes _ _ _)) fun h6 => ?_
      refine Changes.ite ?_ ?_
      · exact h6.then (State.heldBrDone_changes _ _ _)
      · split
        · exact h6.then (State.mwaitDone_changes _ _ _)
        · exact h6.then (State.haltSettled_changes _ _ _)
        · exact h6.then (State.pauseSettled_changes _ _ _)
        · exact h6.then (State.brSettled_changes _ _ _)
        · exact h6.then (State.callSettled_changes _ _ _)
        · exact h6.then (State.retSettled_changes _ _ _)
        · exact h6
    · exact Changes.refl _ _
  · exact Changes.refl _ _

theorem execInterruptEntry_answers (n : Fin 104) (w : Nat) (s : State) :
    Answers (Part.regs ||| Part.ctxs ||| Part.engs ||| Part.chans ||| Part.ssgs ||| Part.snap) s (execInterruptEntry n w s) := by
  refine ⟨_, rfl, ?_⟩
  refine Changes.ite ?_ ?_
  · exact Changes.refl _ _
  · refine Changes.ite ?_ ?_
    · refine Changes.ite ?_ ?_
      · split
        · exact (State.svcIrq_changes _ _ _).mono
        · exact Changes.refl _ _
      · exact Changes.refl _ _
    · refine Changes.ite ?_ ?_
      · split
        · refine Changes.ite ?_ ?_
          · exact Changes.refl _ _
          · exact (State.takeIrq_changes _ _ _ _).mono
        · exact Changes.refl _ _
      · exact Changes.refl _ _

theorem execWatchdogExpire_answers (n : Fin 104) (s : State) :
    Answers (Part.ticks ||| Part.fresh ||| Part.regs ||| Part.bus ||| Part.ctxs ||| Part.engs ||| Part.bays |||
        Part.chans ||| Part.ssgs ||| Part.bankMem ||| Part.dmcs ||| Part.tb ||| Part.trcs ||| Part.snap |||
        Part.time ||| Part.nis ||| Part.fabHeld) s (execWatchdogExpire n s) := by
  refine ⟨_, rfl, ?_⟩
  split
  · refine Changes.ite ?_ ?_
    · exact ((State.elapse_changes _ _).mono.then (State.failFront_changes _ _ _ _)).then (State.stopJob_changes _ _)
    · exact Changes.refl _ _
  · exact Changes.refl _ _

theorem execTableFillDone_answers (n : Fin 104) (ok : Bool) (w : Nat) (s : State) :
    Answers (Part.fresh ||| Part.regs ||| Part.bus ||| Part.ctxs ||| Part.engs ||| Part.bays ||| Part.chans |||
        Part.ssgs ||| Part.bankMem ||| Part.banks ||| Part.dmcs ||| Part.trcs ||| Part.snap ||| Part.nis |||
        Part.dirc ||| Part.bankJoins ||| Part.homes ||| Part.fabHeld ||| Part.bankUe) s (execTableFillDone n ok w s) := by
  refine ⟨_, rfl, ?_⟩
  refine Changes.ite ?_ ?_
  · extract_lets -merge -usedOnly x1 x2
    refine Changes.ite ?_ ?_
    · refine Changes.each ?_ ?_
      · exact Changes.refl _ _
      · intro t3 a3 h3
        exact h3.then (State.tableAsk_changes _ _ _)
    · refine Changes.ite ?_ ?_
      · exact ((State.endHold_changes _ _ _).mono.then (State.errAt_changes _ _ _)).then (State.programStop_changes _ _ _)
      · refine Changes.then ?_ (State.endData_changes _ _ _)
        refine Changes.each ?_ ?_
        · exact Changes.refl _ _
        · intro t4 a4 h4
          exact h4.then (State.tableFill_changes _ _ _)
  · exact Changes.refl _ _

theorem execStreamFetchDone_answers (n : Fin 104) (eccs : List Ecc) (ahead : Fin 512) (w : Nat) (s : State) :
    Answers (Part.fresh ||| Part.regs ||| Part.bus ||| Part.ctxs ||| Part.engs ||| Part.bays ||| Part.chans |||
        Part.ssgs ||| Part.bankMem ||| Part.dram ||| Part.poison ||| Part.dmcs ||| Part.trcs ||| Part.snap |||
        Part.nis ||| Part.fabHeld) s (execStreamFetchDone n eccs ahead w s) := by
  refine ⟨_, rfl, ?_⟩
  refine Changes.ite ?_ ?_
  · extract_lets -merge -usedOnly x1 x2 x3 x4
    clear_value x1 x2
    refine Changes.have (x := x3.2) ?_ fun h5 => ?_
    · unfold x3
      exact Changes.foldl Prod.snd (Changes.mk_snd (Changes.refl _ _))
        fun r m hr => Changes.mk_snd (hr.then (State.streamFill_changes _ _ _ _ _))
    clear_value x3
    refine Changes.have (x := x4) ?_ fun h9 => ?_
    · unfold x4
      refine Changes.each ?_ ?_
      · exact h5
      · intro t10 a10 h10
        extract_lets -merge -usedOnly x11
        refine Changes.have (x := x11) ?_ fun h12 => ?_
        · unfold x11
          exact (h10.then (State.updEng_changes _ _ _)).then (State.streamAhead_changes _ _ _ _)
        clear_value x11
        exact h12.then (State.updEng_changes _ _ _)
    clear_value x4
    refine Changes.ite ?_ ?_
    · refine Changes.each ?_ ?_
      · exact Changes.refl _ _
      · intro t13 a13 h13
        exact h13.then (State.wakeDram_changes _ _)
    · refine Changes.ite ?_ ?_
      · exact ((h5.then (State.endHold_changes _ _ _)).then (State.errAt_changes _ _ _)).then (State.programStop_changes _ _ _)
      · exact h9.then (State.endData_changes _ _ _)
  · refine Changes.ite ?_ ?_
    · refine Changes.each ?_ ?_
      · exact Changes.refl _ _
      · intro t14 a14 h14
        exact h14.then (State.streamAhead_changes _ _ _ _)
    · exact Changes.refl _ _

theorem execFvpWordAccept_answers (h : Fin 2) (p : Fin 8) (word : Desc) (w : Nat) (s : State) :
    Answers (Part.regs ||| Part.ctxs ||| Part.engs ||| Part.chans ||| Part.ssgs ||| Part.ports ||| Part.snap) s (execFvpWordAccept h p word w s) := by
  refine ⟨_, rfl, ?_⟩
  refine Changes.ite ?_ ?_
  · exact Changes.refl _ _
  · extract_lets -merge -usedOnly x1
    refine Changes.have (x := x1) ((State.setPortQ_changes _ _ _ _).mono) fun h2 => ?_
    split
    · refine Changes.ite ?_ ?_
      · exact h2.then (State.endData_changes _ _ _)
      · exact h2
    · exact h2

theorem execFvpFlush_answers (r : Req) (h : Fin 2) (p : Fin 8) (s : State) :
    Answers (Part.regs ||| Part.ports) s (execFvpFlush r h p s) := by
  refine ⟨_, rfl, ?_⟩
  refine Changes.ite ?_ ?_
  · exact (State.fvpFlush_changes _ _ _).mono
  · exact Changes.refl _ _

theorem execVectorTableWrite_answers (r : Req) (n : Fin 104) (w : Fin 0x1140) (v : Word32) (s : State) :
    Answers (Part.regs ||| Part.fsets ||| Part.lmaps ||| Part.scr) s (execVectorTableWrite r n w v s) := by
  refine ⟨_, rfl, ?_⟩
  refine Changes.ite ?_ ?_
  · exact (State.engTableWrite_changes _ _ _ _).mono
  · exact Changes.refl _ _

theorem execVswSelWrite_answers (r : Req) (c : Fin 256) (v : Word32) (s : State) :
    Answers (Part.regs ||| Part.chans) s (execVswSelWrite r c v s) := by
  refine ⟨_, rfl, ?_⟩
  refine Changes.ite ?_ ?_
  · exact (State.selWrite_changes _ _ _).mono
  · exact Changes.refl _ _

theorem execChnCfgWrite_answers (r : Req) (c : Fin 256) (dsk : Bool) (v : Word32) (s : State) :
    Answers (Part.regs ||| Part.chans) s (execChnCfgWrite r c dsk v s) := by
  refine ⟨_, rfl, ?_⟩
  refine Changes.ite ?_ ?_
  · exact (State.chnCfgWrite_changes _ _ _ _).mono
  · exact Changes.refl _ _

theorem execModeChangeDone_answers (c : Fin 256) (s : State) :
    Answers (Part.regs ||| Part.chans) s (execModeChangeDone c s) := by
  refine ⟨_, rfl, ?_⟩
  refine Changes.ite ?_ ?_
  · exact ((State.clr_changes _ _).mono.then (State.wr_changes _ _ _)).then (State.restChan_changes _ _)
  · exact Changes.refl _ _

theorem execSsgCfgWrite_answers (r : Req) (b : Fin 8) (g : Fin 4) (dly : Bool) (v : Word32) (s : State) :
    Answers Part.regs s (execSsgCfgWrite r b g dly v s) := by
  refine ⟨_, rfl, ?_⟩
  refine Changes.ite ?_ ?_
  · exact (State.ssgCfgWrite_changes _ _ _ _ _).mono
  · exact Changes.refl _ _

theorem execTsetWindowHold_answers (r : Req) (c : Fin 256) (k : Fin 64) (w : Fin 7) (v : Word32) (s : State) :
    Answers (Part.regs ||| Part.holds) s (execTsetWindowHold r c k w v s) := by
  refine ⟨_, rfl, ?_⟩
  refine Changes.ite ?_ ?_
  · exact (State.tsetHold_changes _ _ _ _ _ _).mono
  · exact Changes.refl _ _

theorem execTsetCommit_answers (r : Req) (c : Fin 256) (k : Fin 64) (v : Word32) (s : State) :
    Answers (Part.regs ||| Part.holds ||| Part.tsets) s (execTsetCommit r c k v s) := by
  refine ⟨_, rfl, ?_⟩
  refine Changes.ite ?_ ?_
  · exact (State.tsetCommit_changes _ _ _ _ _).mono
  · exact Changes.refl _ _

theorem execSensorSample_answers (temps : List (Option (BitVec 12))) (s : State) :
    Answers Part.regs s (execSensorSample temps s) := by
  refine ⟨_, rfl, ?_⟩
  refine Changes.each ?_ ?_
  · exact Changes.refl _ _
  · intro t1 a1 h1
    extract_lets -merge -usedOnly x2 x3 x4
    split
    · exact (h1.then (State.wr_changes _ _ _)).then (State.wr_changes _ _ _)
    · exact (h1.then (State.wr_changes _ _ _)).then (State.wr_changes _ _ _)

theorem execTempRecompute_answers (b : Fin 8) (s : State) :
    Answers (Part.regs ||| Part.calRecs) s (execTempRecompute b s) := by
  refine ⟨_, rfl, ?_⟩
  refine Changes.ite ?_ ?_
  · exact Changes.refl _ _
  · refine Changes.each ?_ ?_
    · exact Changes.refl _ _
    · intro t1 a1 h1
      refine Changes.ite ?_ ?_
      · exact h1.then (State.recompute_changes _ _ _)
      · exact h1

theorem execCalChannelBegin_answers (n : Fin 64) (c : Fin 256) (sums : List (Option Int)) (sph : Fin 64) (s : State) :
    Answers (Part.fresh ||| Part.regs ||| Part.bus ||| Part.out ||| Part.heldOut ||| Part.ctxs ||| Part.calRecs |||
        Part.dmcs ||| Part.nis) s (execCalChannelBegin n c sums sph s) := by
  refine ⟨_, rfl, ?_⟩
  refine Changes.ite ?_ ?_
  · refine Changes.ite ?_ ?_
    · exact (State.calStatus_changes _ _ _ _).mono
    · refine Changes.ite ?_ ?_
      · extract_lets -merge -usedOnly x1
        refine Changes.have (x := x1.2) ?_ fun h2 => ?_
        · unfold x1
          exact (State.calMeasure_changes _ _ _ _).mono
        exact h2.then (State.calStatus_changes _ _ _ _)
      · exact Changes.refl _ _
  · exact Changes.refl _ _

theorem execCalIdleTimeout_answers (n : Fin 64) (c : Fin 256) (s : State) :
    Answers (Part.regs ||| Part.bus ||| Part.out ||| Part.heldOut ||| Part.ctxs ||| Part.dmcs ||| Part.nis) s (execCalIdleTimeout n c s) := by
  refine ⟨_, rfl, ?_⟩
  refine Changes.ite ?_ ?_
  · exact (State.calStatus_changes _ _ _ _).mono
  · exact Changes.refl _ _

theorem execCalRecordHold_answers (r : Req) (c : Fin 256) (w : Fin 8) (v : Word32) (s : State) :
    Answers (Part.regs ||| Part.holds) s (execCalRecordHold r c w v s) := by
  refine ⟨_, rfl, ?_⟩
  refine Changes.ite ?_ ?_
  · exact (State.recHold_changes _ _ _ _ _).mono
  · exact Changes.refl _ _

theorem execCalRecordCommit_answers (r : Req) (c : Fin 256) (v : Word32) (s : State) :
    Answers (Part.regs ||| Part.holds ||| Part.calRecs) s (execCalRecordCommit r c v s) := by
  refine ⟨_, rfl, ?_⟩
  refine Changes.ite ?_ ?_
  · exact (State.recCommit_changes _ _ _ _).mono
  · exact Changes.refl _ _

theorem execDramReadReq_answers (h : Fin 2) (line : Fin 0x40000000) (mask : Word64) (id : Fin 0x110000) (full : Bool) (s : State) :
    Answers (Part.fresh ||| Part.regs ||| Part.bus ||| Part.dmcs ||| Part.nis) s (execDramReadReq h line mask id full s) := by
  refine ⟨_, rfl, ?_⟩
  exact (State.dramReadReq_changes _ _ _ _ _ _ _).mono

theorem execDramWriteReq_answers (h : Fin 2) (line : Fin 0x40000000) (mask : Word64) (data : Desc) (full : Bool) (s : State) :
    Answers (Part.regs ||| Part.bus ||| Part.dmcs ||| Part.nis) s (execDramWriteReq h line mask data full s) := by
  refine ⟨_, rfl, ?_⟩
  exact (State.dramWriteReq_changes _ _ _ _ _ _ _).mono

theorem execDramReadOrWriteReq_answers (h : Fin 2) (line : Fin 0x40000000) (data : Desc) (ctxs : Word64) (full : Bool) (s : State) :
    Answers (Part.regs ||| Part.bus ||| Part.dmcs ||| Part.nis) s (execDramReadOrWriteReq h line data ctxs full s) := by
  refine ⟨_, rfl, ?_⟩
  exact (State.dramOrReq_changes _ _ _ _ _ _).mono

theorem execDramSchedule_answers (n : Fin 8) (banks : List (Fin 32)) (aged hits : List Nat) (ecc : Ecc) (s : State) :
    Answers (Part.regs ||| Part.bus ||| Part.ctxs ||| Part.dram ||| Part.poison ||| Part.dmcs ||| Part.nis) s (execDramSchedule n banks aged hits ecc s) := by
  refine ⟨_, rfl, ?_⟩
  refine Changes.ite ?_ ?_
  · exact Changes.refl _ _
  · split
    · exact Changes.refl _ _
    · split
      · exact Changes.refl _ _
      · extract_lets -merge -usedOnly x1 x2 x3 x4 x5
        refine Changes.have (x := x2) ?_ fun h6 => ?_
        · unfold x2
          refine Changes.ite ?_ ?_
          · exact (State.count_changes _ _ _).mono
          · exact Changes.refl _ _
        refine Changes.have (x := x3) ?_ fun h7 => ?_
        · unfold x3
          refine Changes.ite ?_ ?_
          · exact h6.then (State.count_changes _ _ _)
          · exact h6
        refine Changes.have (x := x4) (h7.then (State.updDmc_changes _ _ _)) fun h8 => ?_
        refine Changes.have (x := x5) ?_ fun h9 => ?_
        · unfold x5
          refine Changes.ite ?_ ?_
          · exact (h8.then (State.count_changes _ _ _)).then (State.updDmc_changes _ _ _)
          · exact h8.then (State.dramWriteOut_changes _ _ _ _ _)
        exact h9.then (State.letIn_changes _ _)

theorem execDramReadReturn_answers (n : Fin 8) (k : Nat) (ecc : Ecc) (s : State) :
    Answers (Part.regs ||| Part.bus ||| Part.dmcs ||| Part.nis) s (execDramReadReturn n k ecc s) := by
  refine ⟨_, rfl, ?_⟩
  split
  · exact Changes.refl _ _
  · exact (State.updDmc_changes _ _ _).mono.then (State.readReturn_changes _ _ _ _)

theorem execDramRefresh_answers (n : Fin 8) (bank : Fin 32) (busy : Bool) (mr4 : BitVec 6) (s : State) :
    Answers (Part.regs ||| Part.dmcs) s (execDramRefresh n bank busy mr4 s) := by
  refine ⟨_, rfl, ?_⟩
  refine Changes.ite ?_ ?_
  · exact Changes.refl _ _
  · exact ((State.updDmc_changes _ _ _).mono.then (State.wr_changes _ _ _)).then (State.wr_changes _ _ _)

theorem execFspSwitchReq_answers (r : Req) (n : Fin 8) (urgent : Bool) (target : Fin 4) (s : State) :
    Answers (Part.regs ||| Part.dmcs) s (execFspSwitchReq r n urgent target s) := by
  refine ⟨_, rfl, ?_⟩
  refine Changes.ite ?_ ?_
  · exact (State.fspCtlWrite_changes _ _ _).mono
  · exact Changes.refl _ _

theorem execFspSwitchDone_answers (n : Fin 8) (s : State) :
    Answers (Part.regs ||| Part.dmcs) s (execFspSwitchDone n s) := by
  refine ⟨_, rfl, ?_⟩
  refine Changes.ite ?_ ?_
  · extract_lets -merge -usedOnly x1
    refine Changes.have (x := x1) (((State.wr_changes _ _ _).mono.then (State.clr_changes _ _)).then (State.setOn_changes _ _)) fun h2 => ?_
    exact (h2.then (State.updDmc_changes _ _ _)).then (State.dmcResume_changes _ _)
  · exact Changes.refl _ _

theorem execFspRateWrite_answers (r : Req) (n : Fin 8) (k : Fin 3) (rate : Fin 16) (s : State) :
    Answers (Part.regs ||| Part.dmcs) s (execFspRateWrite r n k rate s) := by
  refine ⟨_, rfl, ?_⟩
  refine Changes.ite ?_ ?_
  · exact (State.fspRateWrite_changes _ _ _ _).mono
  · exact Changes.refl _ _

theorem execOscCheck_answers (n : Fin 8) (drift : Byte) (s : State) :
    Answers (Part.regs ||| Part.dmcs) s (execOscCheck n drift s) := by
  refine ⟨_, rfl, ?_⟩
  refine Changes.ite ?_ ?_
  · exact (State.oscCheck_changes _ _ _).mono
  · exact Changes.refl _ _

theorem execRetrainStep_answers (n : Fin 8) (s : State) :
    Answers (Part.regs ||| Part.dmcs) s (execRetrainStep n s) := by
  refine ⟨_, rfl, ?_⟩
  refine Changes.ite ?_ ?_
  · exact (State.updDmc_changes _ _ _).mono.then (State.wr_changes _ _ _)
  · exact Changes.refl _ _

theorem execRetrainStepDone_answers (n : Fin 8) (ok last : Bool) (s : State) :
    Answers (Part.regs ||| Part.dmcs) s (execRetrainStepDone n ok last s) := by
  refine ⟨_, rfl, ?_⟩
  refine Changes.ite ?_ ?_
  · exact Changes.refl _ _
  · refine Changes.ite ?_ ?_
    · extract_lets -merge -usedOnly x1 x2 x3 x4 x5
      refine Changes.have (x := x2) ((State.count_changes _ _ _).mono) fun h6 => ?_
      refine Changes.have (x := x5) ?_ fun h7 => ?_
      · unfold x5
        refine Changes.ite ?_ ?_
        · exact h6.then (State.wr_changes _ _ _)
        · exact h6
      exact (h7.then (State.updDmc_changes _ _ _)).then (State.dmcResume_changes _ _)
    · extract_lets -merge -usedOnly x8
      refine Changes.have (x := x8) (((State.wr_changes _ _ _).mono.then (State.setOn_changes _ _)).then (State.wr_changes _ _ _)) fun h9 => ?_
      exact h9.then (State.updDmc_changes _ _ _)

theorem execDramRemoval_answers (n : Fin 8) (bad : List Nat) (s : State) :
    Answers (Part.fresh ||| Part.regs ||| Part.bus ||| Part.out ||| Part.heldOut ||| Part.fns ||| Part.ctxs |||
        Part.engs ||| Part.bays ||| Part.chans ||| Part.ssgs ||| Part.bankMem ||| Part.dram ||| Part.poison |||
        Part.restoring ||| Part.dmcs ||| Part.trcs ||| Part.snap ||| Part.time ||| Part.nis ||| Part.fabHeld) s (execDramRemoval n bad s) := by
  refine ⟨_, rfl, ?_⟩
  refine Changes.ite ?_ ?_
  · exact Changes.refl _ _
  · exact (State.dramRemove_changes _ _ _).mono

theorem execReservedAreaRestore_answers (h : Fin 2) (s : State) :
    Answers (Part.regs ||| Part.bus ||| Part.dram ||| Part.poison ||| Part.restoring ||| Part.dmcs ||| Part.trcs |||
        Part.nis) s (execReservedAreaRestore h s) := by
  refine ⟨_, rfl, ?_⟩
  refine Changes.ite ?_ ?_
  · exact Changes.refl _ _
  · extract_lets -merge -usedOnly x1 x2 x3 x4
    refine Changes.have (x := x3) ?_ fun h5 => ?_
    · unfold x3
      exact Changes.put (Changes.refl _ _) rfl (State.canonical_of (dram := (fun h => Memory.wf_filter _ _ h))) rfl rfl
    refine Changes.have (x := x4) ?_ fun h6 => ?_
    · unfold x4
      refine Changes.ite ?_ ?_
      · refine Changes.each ?_ ?_
        · exact h5
        · intro t7 a7 h7
          exact Changes.set_dram h7 (fun h => Memory.wf_write _ _ _ h)
      · exact Changes.refl _ _
    refine Changes.then ?_ (State.traceClear_changes _ _)
    exact Changes.set_restoring h6

theorem execSelfRefreshEntry_answers (n : Fin 8) (s : State) :
    Answers (Part.regs ||| Part.dmcs) s (execSelfRefreshEntry n s) := by
  refine ⟨_, rfl, ?_⟩
  refine Changes.ite ?_ ?_
  · exact (State.dropPass_changes _ _ _).mono.then (State.srEnter_changes _ _)
  · exact Changes.refl _ _

theorem execSrEnter_answers (r : Req) (n : Fin 8) (s : State) :
    Answers (Part.regs ||| Part.dmcs) s (execSrEnter r n s) := by
  refine ⟨_, rfl, ?_⟩
  refine Changes.ite ?_ ?_
  · exact (State.srRequest_changes _ _).mono
  · exact Changes.refl _ _

theorem execSrExit_answers (r : Req) (n : Fin 8) (s : State) :
    Answers Part.dmcs s (execSrExit r n s) := by
  refine ⟨_, rfl, ?_⟩
  refine Changes.ite ?_ ?_
  · exact (State.wakeDram_changes _ _).mono
  · exact Changes.refl _ _

theorem execSrExitDone_answers (n : Fin 8) (drift : Byte) (s : State) :
    Answers (Part.regs ||| Part.bus ||| Part.dmcs ||| Part.nis) s (execSrExitDone n drift s) := by
  refine ⟨_, rfl, ?_⟩
  refine Changes.ite ?_ ?_
  · exact (State.srLeave_changes _ _ _).mono
  · exact Changes.refl _ _

theorem execDramWindowRead_answers (r : Req) (h : Fin 2) (off : Fin 0x100000) (len : Fin 9) (s : State) :
    Answers (Part.fresh ||| Part.regs ||| Part.bus ||| Part.dmcs ||| Part.nis) s (execDramWindowRead r h off len s) := by
  refine ⟨_, rfl, ?_⟩
  refine Changes.ite ?_ ?_
  · exact (State.winRead_changes _ _ _ _ _).mono
  · exact Changes.refl _ _

theorem execDramWindowWrite_answers (r : Req) (h : Fin 2) (off : Fin 0x100000) (len : Fin 9) (v : Word64) (s : State) :
    Answers (Part.regs ||| Part.bus ||| Part.dmcs ||| Part.nis) s (execDramWindowWrite r h off len v s) := by
  refine ⟨_, rfl, ?_⟩
  refine Changes.ite ?_ ?_
  · exact (State.winWrite_changes _ _ _ _ _).mono
  · exact Changes.refl _ _

theorem execDramInitSweep_answers (_n : Fin 8) (s : State) :
    Answers 0 s (execDramInitSweep _n s) := by
  refine ⟨_, rfl, ?_⟩
  exact Changes.refl _ _

theorem execCompareResult_answers (n : Fin 104) (cyc : Nat) (c : Fin 256) (hi lo strobe : Wave) (s : State) :
    Answers (Part.fresh ||| Part.regs ||| Part.bus ||| Part.ctxs ||| Part.engs ||| Part.bays ||| Part.chans |||
        Part.ssgs ||| Part.dmcs ||| Part.trcs ||| Part.snap ||| Part.nis) s (execCompareResult n cyc c hi lo strobe s) := by
  refine ⟨_, rfl, ?_⟩
  split
  · exact Changes.refl _ _
  · extract_lets -merge -usedOnly x1 x2 x3
    refine Changes.have (x := x1) ((State.waitOut_changes _ _ _).mono) fun h4 => ?_
    refine Changes.have (x := x2) (h4.then (State.noteStrobe_changes _ _ _)) fun h5 => ?_
    refine Changes.have (x := x3.2) ?_ fun h6 => ?_
    · unfold x3
      exact h5.then (State.compareMask_changes _ _ _ _ _)
    refine Changes.ite ?_ ?_
    · exact h4
    · refine Changes.ite ?_ ?_
      · exact (h5.then (State.freeKeys_changes _ _ _ _ _)).then (State.arrive_changes _ _ _ _ _)
      · refine Changes.ite ?_ ?_
        · exact h5
        · refine Changes.ite ?_ ?_
          · exact (h5.then (State.putCapture_changes _ _ _ _ _)).then (State.arrive_changes _ _ _ _ _)
          · exact h6.then (State.arrive_changes _ _ _ _ _)

theorem execSsgEdgeTimeout_answers (b : Fin 8) (g : Fin 4) (strobe : Wave) (s : State) :
    Answers (Part.regs ||| Part.ssgs) s (execSsgEdgeTimeout b g strobe s) := by
  refine ⟨_, rfl, ?_⟩
  refine Changes.ite ?_ ?_
  · exact Changes.refl _ _
  · extract_lets -merge -usedOnly x1 x2 x3
    refine Changes.have (x := x1) ((State.noteEdges_changes _ _ _ _).mono) fun h4 => ?_
    split
    · exact h4
    · exact (h4.then (State.setSsg_changes _ _ _ _)).then (State.noteMiss_changes _ _ _ _ _)

theorem execFailEntryDrain_answers (b : Fin 8) (k : Nat) (s : State) :
    Answers (Part.regs ||| Part.ctxs ||| Part.bays) s (execFailEntryDrain b k s) := by
  refine ⟨_, rfl, ?_⟩
  split
  · exact Changes.refl _ _
  · refine Changes.ite ?_ ?_
    · exact Changes.refl _ _
    · extract_lets -merge -usedOnly x1
      refine Changes.have (x := x1) ((State.updBay_changes _ _ _).mono.then (State.fpGive_changes _ _ _)) fun h2 => ?_
      refine Changes.ite ?_ ?_
      · split
        · refine Changes.ite ?_ ?_
          · exact h2.then (State.updFront_changes _ _ _)
          · exact h2.then (State.dropEntries_changes _ _ _ _ _)
        · exact h2
      · exact h2.then (State.updBay_changes _ _ _)

theorem execFccEntryAccept_answers (b : Fin 8) (s : State) :
    Answers (Part.regs ||| Part.ctxs ||| Part.bays ||| Part.fcc) s (execFccEntryAccept b s) := by
  refine ⟨_, rfl, ?_⟩
  split
  · exact Changes.refl _ _
  · extract_lets -merge -usedOnly x1 x2
    split
    · unfold x1
      exact (State.updBay_changes _ _ _).mono
    · extract_lets -merge -usedOnly x3
      refine Changes.have (x := x3.2) ?_ fun h4 => ?_
      · unfold x3
        exact (State.entryOp_changes _ _ _ _).mono
      split
      · unfold x1
        exact h4.then (State.updBay_changes _ _ _)
      · extract_lets -merge -usedOnly x5
        split
        · extract_lets -merge -usedOnly x6
          refine Changes.then ?_ (State.count_changes _ _ _)
          refine Changes.then ?_ (State.setFcc_changes _ _ _)
          unfold x1
          exact h4.then (State.updBay_changes _ _ _)
        · refine Changes.ite ?_ ?_
          · refine Changes.then ?_ (State.setFcc_changes _ _ _)
            unfold x1
            exact h4.then (State.updBay_changes _ _ _)
          · split
            · refine Changes.ite ?_ ?_
              · exact Changes.refl _ _
              · exact (State.setFcc_changes _ _ _).mono
            · exact Changes.refl _ _

theorem execFccWritebackAck_answers (h : Fin 2) (addr : Nat) (s : State) :
    Answers (Part.regs ||| Part.bus ||| Part.fcc ||| Part.dmcs ||| Part.nis) s (execFccWritebackAck h addr s) := by
  refine ⟨_, rfl, ?_⟩
  split
  · exact Changes.refl _ _
  · refine Changes.ite ?_ ?_
    · exact ((State.setFcc_changes _ _ _).mono.then (State.writeBack_changes _ _ _)).then (State.flushEnd_changes _ _)
    · exact (State.wakeDram_changes _ _).mono

theorem execFccFlush_answers (r : Req) (h : Fin 2) (s : State) :
    Answers (Part.regs ||| Part.fcc) s (execFccFlush r h s) := by
  refine ⟨_, rfl, ?_⟩
  refine Changes.ite ?_ ?_
  · exact (State.fccFlush_changes _ _).mono
  · exact Changes.refl _ _

theorem execFfsCtlApply_answers (b : Fin 8) (taken : Nat) (s : State) :
    Answers (Part.regs ||| Part.bays) s (execFfsCtlApply b taken s) := by
  refine ⟨_, rfl, ?_⟩
  exact (State.takeWords_changes _ _ _).mono.then (State.ffsApply_changes _ _)

theorem execJobStop_answers (c : Fin 64) (s : State) :
    Answers (Part.regs ||| Part.ctxs ||| Part.engs ||| Part.bays) s (execJobStop c s) := by
  refine ⟨_, rfl, ?_⟩
  split
  · refine Changes.ite ?_ ?_
    · extract_lets -merge -usedOnly x1 x2 x3 x4 x5 x6 x7
      refine Changes.have (x := x3) ?_ fun h8 => ?_
      · unfold x3
        refine Changes.each ?_ ?_
        · exact Changes.refl _ _
        · intro t9 a9 h9
          exact h9.then (State.squashTokens_changes _ _)
      refine Changes.have (x := x6) ?_ fun h10 => ?_
      · unfold x6
        refine Changes.each ?_ ?_
        · exact h8
        · intro t11 a11 h11
          refine Changes.each ?_ ?_
          · exact h11
          · intro t12 a12 h12
            exact h12.then (State.jobMark_changes _ _ _ _ _ _)
      refine Changes.have (x := x7) (h10.then (State.updFront_changes _ _ _)) fun h13 => ?_
      refine Changes.each ?_ ?_
      · exact h13
      · intro t14 a14 h14
        extract_lets -merge -usedOnly x15
        refine Changes.then ?_ (State.freeSlot_changes _ _)
        refine Changes.each ?_ ?_
        · exact h14
        · intro t16 a16 h16
          exact h16.then (State.freeVec_changes _ _ _)
    · exact Changes.refl _ _
  · exact Changes.refl _ _

theorem execJobDrainDone_answers (c : Fin 64) (s : State) :
    Answers (Part.regs ||| Part.bus ||| Part.out ||| Part.heldOut ||| Part.ctxs ||| Part.fcc ||| Part.dmcs |||
        Part.nis) s (execJobDrainDone c s) := by
  refine ⟨_, rfl, ?_⟩
  split
  · extract_lets -merge -usedOnly x1 x2 x3
    refine Changes.have (x := x3) ((State.flushJob_changes _ _ _).mono.then (State.flushJob_changes _ _ _)) fun h4 => ?_
    refine Changes.ite ?_ ?_
    · split
      · extract_lets -merge -usedOnly x5
        refine Changes.have (x := x5) (h4.then (State.writeResult_changes _ _)) fun h6 => ?_
        refine Changes.ite ?_ ?_
        · exact h6.then (State.finishFront_changes _ _ _ _)
        · exact h6.then (State.finishFront_changes _ _ _ _)
      · exact h4
    · refine Changes.each ?_ ?_
      · exact Changes.refl _ _
      · intro t7 a7 h7
        refine Changes.each ?_ ?_
        · exact h7
        · intro t8 a8 h8
          refine Changes.ite ?_ ?_
          · exact h8.then (State.wakeDram_changes _ _)
          · exact h8
  · exact Changes.refl _ _

theorem execSecondRollover_answers (h : Fin 2) (s : State) :
    Answers (Part.ticks ||| Part.regs ||| Part.bus ||| Part.engs ||| Part.dmcs ||| Part.tb ||| Part.trcs ||| Part.time |||
        Part.nis) s (execSecondRollover h s) := by
  refine ⟨_, rfl, ?_⟩
  exact (State.elapse_changes _ _).mono

theorem execPairSample_answers (drift : Int) (s : State) :
    Answers (Part.regs ||| Part.tb ||| Part.time) s (execPairSample drift s) := by
  refine ⟨_, rfl, ?_⟩
  refine Changes.ite ?_ ?_
  · exact (State.updTime_changes _ _).mono
  · exact (State.pairTake_changes _ _).mono

theorem execTimebaseStepApply_answers (s : State) :
    Answers (Part.regs ||| Part.bus ||| Part.out ||| Part.heldOut ||| Part.fns ||| Part.dmcs ||| Part.tb ||| Part.trcs |||
        Part.time ||| Part.nis) s (execTimebaseStepApply s) := by
  refine ⟨_, rfl, ?_⟩
  split
  · exact Changes.refl _ _
  · exact (State.updTime_changes _ _).mono.then (State.applyChange_changes _ _)

theorem execPtpOffset_answers (o : BitVec 32) (s : State) :
    Answers (Part.fresh ||| Part.regs ||| Part.out ||| Part.heldOut ||| Part.fns ||| Part.time) s (execPtpOffset o s) := by
  refine ⟨_, rfl, ?_⟩
  refine Changes.ite ?_ ?_
  · exact Changes.refl _ _
  · extract_lets -merge -usedOnly x1 x2 x3
    refine Changes.have (x := x2) ((State.wr_changes _ _ _).mono) fun h4 => ?_
    refine Changes.ite ?_ ?_
    · exact h4
    · refine Changes.ite ?_ ?_
      · exact (h4.then (State.offset1_changes _ _ _)).then (State.timeState_changes _ _)
      · refine Changes.ite ?_ ?_
        · exact h4.then (State.offsetTrack_changes _ _)
        · refine Changes.ite ?_ ?_
          · exact h4.then (State.offset2_changes _ _)
          · exact h4.then (State.offset1_changes _ _ _)

theorem execGridStepDeferredApply_answers (expired : Bool) (s : State) :
    Answers Part.time s (execGridStepDeferredApply expired s) := by
  refine ⟨_, rfl, ?_⟩
  split
  · exact Changes.refl _ _
  · refine Changes.ite ?_ ?_
    · exact (State.updTime_changes _ _).mono
    · refine Changes.ite ?_ ?_
      · exact (State.updTime_changes _ _).mono.then (State.queueChange_changes _ _)
      · exact Changes.refl _ _

theorem execHoldoverTimeout_answers (s : State) :
    Answers (Part.regs ||| Part.out ||| Part.heldOut ||| Part.fns ||| Part.ctxs ||| Part.time) s (execHoldoverTimeout s) := by
  refine ⟨_, rfl, ?_⟩
  exact (State.enterHoldover_changes _).mono

theorem execPtpMasterLost_answers (s : State) :
    Answers (Part.regs ||| Part.out ||| Part.heldOut ||| Part.fns ||| Part.ctxs ||| Part.time) s (execPtpMasterLost s) := by
  refine ⟨_, rfl, ?_⟩
  refine Changes.ite ?_ ?_
  · exact (State.enterHoldover_changes _).mono
  · exact Changes.refl _ _

theorem execOscRatioWindow_answers (s : State) :
    Answers (Part.fresh ||| Part.time) s (execOscRatioWindow s) := by
  refine ⟨_, rfl, ?_⟩
  refine Changes.ite ?_ ?_
  · exact Changes.refl _ _
  · extract_lets -merge -usedOnly x1
    refine Changes.have (x := x1.2) ?_ fun h2 => ?_
    · unfold x1
      exact (State.free_changes _ _).mono
    exact h2.then (State.updTime_changes _ _)

theorem execTmbModeWrite_answers (r : Req) (m : Fin 4) (s : State) :
    Answers (Part.regs ||| Part.time) s (execTmbModeWrite r m s) := by
  refine ⟨_, rfl, ?_⟩
  refine Changes.ite ?_ ?_
  · exact (State.tmbModeWrite_changes _ _).mono
  · exact Changes.refl _ _

theorem execTmbIncWrite_answers (r : Req) (v : BitVec 36) (s : State) :
    Answers (Part.regs ||| Part.time) s (execTmbIncWrite r v s) := by
  refine ⟨_, rfl, ?_⟩
  refine Changes.ite ?_ ?_
  · exact (State.tmbIncWrite_changes _ _).mono
  · exact Changes.refl _ _

theorem execTimeStepCommit_answers (r : Req) (sec : Word32) (s : State) :
    Answers (Part.regs ||| Part.time) s (execTimeStepCommit r sec s) := by
  refine ⟨_, rfl, ?_⟩
  refine Changes.ite ?_ ?_
  · exact (State.timeStep_changes _ _).mono
  · exact Changes.refl _ _

theorem execTriggerArm_answers (r : Req) (h : Fin 2) (k : Fin 8) (s : State) :
    Answers (Part.regs ||| Part.time) s (execTriggerArm r h k s) := by
  refine ⟨_, rfl, ?_⟩
  refine Changes.ite ?_ ?_
  · exact (State.trgArm_changes _ _ _ _).mono
  · exact Changes.refl _ _

theorem execTriggerPeriodicWrite_answers (r : Req) (h : Fin 2) (k : Fin 8) (on : Bool) (s : State) :
    Answers Part.regs s (execTriggerPeriodicWrite r h k on s) := by
  refine ⟨_, rfl, ?_⟩
  refine Changes.ite ?_ ?_
  · exact (State.trgPeriodic_changes _ _ _ _).mono
  · exact Changes.refl _ _

theorem execTriggerFire_answers (h : Fin 2) (k : Fin 8) (s : State) :
    Answers (Part.ticks ||| Part.regs ||| Part.bus ||| Part.engs ||| Part.dmcs ||| Part.tb ||| Part.trcs ||| Part.snap |||
        Part.time ||| Part.nis) s (execTriggerFire h k s) := by
  refine ⟨_, rfl, ?_⟩
  refine Changes.ite ?_ ?_
  · exact (State.elapseTo_changes _ _ _ _).mono.then (State.trgFire_changes _ _ _)
  · exact Changes.refl _ _

theorem execTrigOutPulseEnd_answers (h : Fin 2) (k : Fin 8) (s : State) :
    Answers Part.time s (execTrigOutPulseEnd h k s) := by
  refine ⟨_, rfl, ?_⟩
  exact (State.updTime_changes _ _).mono

theorem execTrigInEdge_answers (k : Fin 8) (sec : BitVec 48) (ns : Fin 1000000000) (s : State) :
    Answers Part.regs s (execTrigInEdge k sec ns s) := by
  refine ⟨_, rfl, ?_⟩
  refine Changes.ite ?_ ?_
  · exact Changes.refl _ _
  · extract_lets -merge -usedOnly x1
    refine Changes.have (x := x1) ?_ fun h2 => ?_
    · unfold x1
      refine Changes.ite ?_ ?_
      · exact (State.setOn_changes _ _).mono
      · exact Changes.refl _ _
    exact ((h2.then (State.setOn_changes _ _)).then (State.wr_changes _ _ _)).then (State.wr_changes _ _ _)

theorem execPpsOutEnd_answers (s : State) :
    Answers Part.time s (execPpsOutEnd s) := by
  refine ⟨_, rfl, ?_⟩
  exact (State.updTime_changes _ _).mono

theorem execStartComparatorFire_answers (h : Fin 2) (c : Fin 64) (s : State) :
    Answers (Part.ticks ||| Part.regs ||| Part.bus ||| Part.engs ||| Part.dmcs ||| Part.tb ||| Part.trcs ||| Part.time |||
        Part.nis) s (execStartComparatorFire h c s) := by
  refine ⟨_, rfl, ?_⟩
  split
  · exact Changes.refl _ _
  · refine Changes.ite ?_ ?_
    · extract_lets -merge -usedOnly x1 x2
      refine Changes.have (x := x1) ((State.elapseTo_changes _ _ _ _).mono) fun h3 => ?_
      refine Changes.have (x := x2) (h3.then (State.updTime_changes _ _)) fun h4 => ?_
      refine Changes.each ?_ ?_
      · exact h4
      · intro t5 a5 h5
        exact h5.then (State.updEng_changes _ _ _)
    · exact Changes.refl _ _

theorem execAlignedStart_answers (h : Fin 2) (ws : List (Fin 104 × Nat)) (s : State) :
    Answers (Part.regs ||| Part.bus ||| Part.ctxs ||| Part.engs ||| Part.bays ||| Part.chans ||| Part.ssgs |||
        Part.ports ||| Part.bankMem ||| Part.dmcs ||| Part.trcs ||| Part.snap ||| Part.time ||| Part.nis) s (execAlignedStart h ws s) := by
  refine ⟨_, rfl, ?_⟩
  extract_lets -merge -usedOnly x1 x2 x3 x4 x5 x6 x7 x8
  refine Changes.have (x := x2) ((State.updTime_changes _ _).mono) fun h9 => ?_
  refine Changes.have (x := x4) (h9.then (State.updTime_changes _ _)) fun h10 => ?_
  refine Changes.have (x := x5) ?_ fun h11 => ?_
  · unfold x5
    refine Changes.each ?_ ?_
    · exact h10
    · intro t12 a12 h12
      exact h12.then (State.raiseCause_changes _ _ _)
  refine Changes.have (x := x6) ?_ fun h13 => ?_
  · unfold x6
    refine Changes.each ?_ ?_
    · exact h11
    · intro t14 a14 h14
      exact h14.then (State.leaveWait_changes _ _ _)
  refine Changes.have (x := x8) (h13.then (State.updTime_changes _ _)) fun h15 => ?_
  refine Changes.ite ?_ ?_
  · exact h10
  · refine Changes.each ?_ ?_
    · exact h15
    · intro t16 a16 h16
      refine Changes.each ?_ ?_
      · exact h16
      · intro t17 a17 h17
        exact h17.then (State.startWaiting_changes _ _)

theorem execTrunkFrameRx_answers (p : Fin 4) (len : Nat) (data : Nat) (s : State) :
    Answers (Part.fresh ||| Part.regs) s (execTrunkFrameRx p len data s) := by
  refine ⟨_, rfl, ?_⟩
  refine Changes.ite ?_ ?_
  · exact Changes.refl _ _
  · refine Changes.ite ?_ ?_
    · exact (State.count_changes _ _ _).mono
    · split
      · refine Changes.ite ?_ ?_
        · exact (State.count_changes _ _ _).mono
        · refine Changes.ite ?_ ?_
          · exact (State.ptpRole_changes _ _).mono
          · exact Changes.refl _ _
      · refine Changes.ite ?_ ?_
        · exact (State.count_changes _ _ _).mono
        · exact Changes.refl _ _
      · exact (State.count_changes _ _ _).mono

theorem execEvfHalt_answers (p : Fin 4) (group : BitVec 16) (seq : Word32) (sec : BitVec 48) (ns : BitVec 30) (s : State) :
    Answers (Part.regs ||| Part.time) s (execEvfHalt p group seq sec ns s) := by
  refine ⟨_, rfl, ?_⟩
  refine Changes.evf ?_ ?_
  · exact Changes.refl _ _
  · intro t1 h1
    exact h1.then (State.updTime_changes _ _)

theorem execEvfHaltAction_answers (k : Nat) (s : State) :
    Answers (Part.ticks ||| Part.fresh ||| Part.regs ||| Part.bus ||| Part.ctxs ||| Part.engs ||| Part.bays |||
        Part.chans ||| Part.ssgs ||| Part.bankMem ||| Part.dmcs ||| Part.tb ||| Part.trcs ||| Part.snap |||
        Part.time ||| Part.nis ||| Part.fabHeld) s (execEvfHaltAction k s) := by
  refine ⟨_, rfl, ?_⟩
  split
  · exact Changes.refl _ _
  · refine Changes.ite ?_ ?_
    · extract_lets -merge -usedOnly x1
      refine Changes.have (x := x1) ((State.elapseTo_changes _ _ _ _).mono.then (State.updTime_changes _ _)) fun h2 => ?_
      refine Changes.each ?_ ?_
      · exact h2
      · intro t3 a3 h3
        exact h3.then (State.haltPattern_changes _ _)
    · exact Changes.refl _ _

theorem execEvfStart_answers (p : Fin 4) (group : BitVec 16) (seq : Word32) (sec : BitVec 48) (ns : BitVec 30) (k : Fin 8) (s : State) :
    Answers (Part.regs ||| Part.time) s (execEvfStart p group seq sec ns k s) := by
  refine ⟨_, rfl, ?_⟩
  refine Changes.evf ?_ ?_
  · exact Changes.refl _ _
  · intro t1 h1
    refine Changes.each ?_ ?_
    · exact h1
    · intro t2 a2 h2
      extract_lets -merge -usedOnly x3
      refine Changes.have (x := x3) (((h2.then (State.clr_changes _ _)).then (State.wr_changes _ _ _)).then (State.wr_changes _ _ _)) fun h4 => ?_
      exact h4.then (State.trgArm_changes _ _ _ _)

theorem execEvfSync_answers (p : Fin 4) (group : BitVec 16) (seq : Word32) (sec : BitVec 48) (ns : BitVec 30) (s : State) :
    Answers (Part.regs ||| Part.time) s (execEvfSync p group seq sec ns s) := by
  refine ⟨_, rfl, ?_⟩
  refine Changes.evf ?_ ?_
  · exact Changes.refl _ _
  · intro t1 h1
    refine Changes.ite ?_ ?_
    · exact h1.then (State.updTime_changes _ _)
    · exact h1

theorem execLaunchFrameSend_answers (p : Fin 4) (q : Fin 4) (sec : BitVec 48) (ns : Fin 1000000000) (frac : Fin 16) (s : State) :
    Answers (Part.regs ||| Part.time) s (execLaunchFrameSend p q sec ns frac s) := by
  refine ⟨_, rfl, ?_⟩
  refine Changes.ite ?_ ?_
  · extract_lets -merge -usedOnly x1 x2 x3 x4
    refine Changes.have (x := x1) ((State.updTime_changes _ _).mono) fun h5 => ?_
    refine Changes.have (x := x2) (((h5.then (State.setOn_changes _ _)).then (State.clr_changes _ _)).then (State.clr_changes _ _)) fun h6 => ?_
    refine Changes.ite ?_ ?_
    · exact h6.then (State.pushStamp_changes _ _ _)
    · exact h6
  · exact Changes.refl _ _

theorem execPcsBlockLockChange_answers (p : Fin 4) (lock : Bool) (s : State) :
    Answers Part.regs s (execPcsBlockLockChange p lock s) := by
  refine ⟨_, rfl, ?_⟩
  refine Changes.ite ?_ ?_
  · exact (State.wr_changes _ _ _).mono
  · exact Changes.refl _ _

theorem execHeartbeat_answers (silent : List (Fin 152)) (s : State) :
    Answers (Part.fresh ||| Part.regs ||| Part.bus ||| Part.out ||| Part.heldOut ||| Part.fns ||| Part.ctxs |||
        Part.engs ||| Part.bays ||| Part.chans ||| Part.ssgs ||| Part.bankMem ||| Part.dmcs ||| Part.trcs |||
        Part.hbMiss ||| Part.substs ||| Part.snap ||| Part.nis ||| Part.fabHeld) s (execHeartbeat silent s) := by
  refine ⟨_, rfl, ?_⟩
  refine Changes.ite ?_ ?_
  · exact Changes.refl _ _
  · extract_lets -merge -usedOnly x1 x2
    refine Changes.have (x := x2) ?_ fun h3 => ?_
    · unfold x2
      exact Changes.set_hbMiss (Changes.refl _ _)
    refine Changes.each ?_ ?_
    · exact h3
    · intro t4 a4 h4
      exact h4.then (State.missed_changes _ _)

theorem execEngineFault_answers (n : Fin 104) (cache : Option Ecc) (s : State) :
    Answers (Part.fresh ||| Part.regs ||| Part.bus ||| Part.out ||| Part.heldOut ||| Part.fns ||| Part.ctxs |||
        Part.engs ||| Part.bays ||| Part.chans ||| Part.ssgs ||| Part.bankMem ||| Part.dmcs ||| Part.trcs |||
        Part.substs ||| Part.snap ||| Part.nis ||| Part.fabHeld) s (execEngineFault n cache s) := by
  refine ⟨_, rfl, ?_⟩
  split
  · exact Changes.refl _ _
  · exact (State.count_changes _ _ _).mono
  · refine Changes.ite ?_ ?_
    · exact Changes.refl _ _
    · exact (State.errOwn_changes _ _ _).mono.then (State.fenceSlot_changes _ _ _)
  · refine Changes.ite ?_ ?_
    · exact Changes.refl _ _
    · exact (State.errOwn_changes _ _ _).mono.then (State.fenceSlot_changes _ _ _)

theorem execChannelGroupFault_answers (c : Fin 256) (s : State) :
    Answers (Part.fresh ||| Part.regs ||| Part.bus ||| Part.out ||| Part.heldOut ||| Part.fns ||| Part.ctxs |||
        Part.engs ||| Part.bays ||| Part.chans ||| Part.ssgs ||| Part.bankMem ||| Part.dmcs ||| Part.trcs |||
        Part.snap ||| Part.nis ||| Part.fabHeld) s (execChannelGroupFault c s) := by
  refine ⟨_, rfl, ?_⟩
  refine Changes.ite ?_ ?_
  · exact (State.clr_changes _ _).mono.then (State.fenceGroup_changes _ _ _)
  · exact Changes.refl _ _

theorem execVccChFail_answers (s : State) :
    Answers (Part.fresh ||| Part.regs ||| Part.bus ||| Part.out ||| Part.heldOut ||| Part.fns ||| Part.ctxs |||
        Part.engs ||| Part.bays ||| Part.chans ||| Part.ssgs ||| Part.bankMem ||| Part.dmcs ||| Part.trcs |||
        Part.vccCh ||| Part.snap ||| Part.nis ||| Part.fabHeld) s (execVccChFail s) := by
  refine ⟨_, rfl, ?_⟩
  refine Changes.each ?_ ?_
  · exact Changes.set_vccCh (Changes.refl _ _)
  · intro t1 a1 h1
    refine Changes.ite ?_ ?_
    · extract_lets -merge -usedOnly x2
      refine Changes.have (x := x2.2) ?_ fun h3 => ?_
      · unfold x2
        exact h1.then (State.free_changes _ _)
      exact h3.then (State.fenceGroup_changes _ _ _)
    · exact h1

theorem execVccChValid_answers (s : State) :
    Answers (Part.chans ||| Part.vccCh) s (execVccChValid s) := by
  refine ⟨_, rfl, ?_⟩
  refine Changes.ite ?_ ?_
  · exact Changes.refl _ _
  · refine Changes.each ?_ ?_
    · exact Changes.set_vccCh (Changes.refl _ _)
    · intro t1 a1 h1
      exact h1.then (State.updChan_changes _ _ _)

theorem execGateDrop_answers (u : Fin 218) (old : Option Word32) (s : State) :
    Answers (Part.regs ||| Part.out ||| Part.heldOut ||| Part.fns ||| Part.talk) s (execGateDrop u old s) := by
  refine ⟨_, rfl, ?_⟩
  extract_lets -merge -usedOnly x1 x2 x3
  refine Changes.have (x := x2) ((State.count_changes _ _ _).mono) fun h4 => ?_
  refine Changes.ite ?_ ?_
  · exact Changes.refl _ _
  · refine Changes.ite ?_ ?_
    · exact h4
    · refine Changes.then ?_ (State.postRes_changes _ _ _ _)
      exact Changes.set_talk h4

theorem execReinstate_answers (r : Req) (u : Fin 256) (s : State) :
    Answers Part.regs s (execReinstate r u s) := by
  refine ⟨_, rfl, ?_⟩
  refine Changes.ite ?_ ?_
  · refine Changes.ite ?_ ?_
    · exact Changes.refl _ _
    · exact (State.wr_changes _ _ _).mono.then (State.reinst_changes _)
  · exact Changes.refl _ _

theorem execReinstateDone_answers (pass : Bool) (s : State) :
    Answers (Part.regs ||| Part.out ||| Part.heldOut ||| Part.fns ||| Part.engs ||| Part.chans ||| Part.bankMem |||
        Part.sups ||| Part.ownEp) s (execReinstateDone pass s) := by
  refine ⟨_, rfl, ?_⟩
  extract_lets -merge -usedOnly x1
  refine Changes.ite ?_ ?_
  · exact Changes.refl _ _
  · refine Changes.ite ?_ ?_
    · exact (State.returnUnit_changes _ _).mono
    · exact (State.wr_changes _ _ _).mono.then (State.reinstFail_changes _)

theorem execSubstitutionDrainDone_answers (n : Fin 104) (s : State) :
    Answers (Part.regs ||| Part.out ||| Part.heldOut ||| Part.fns ||| Part.ctxs ||| Part.engs ||| Part.fsets |||
        Part.lmaps ||| Part.scr ||| Part.substs) s (execSubstitutionDrainDone n s) := by
  refine ⟨_, rfl, ?_⟩
  split
  · refine Changes.ite ?_ ?_
    · exact (State.substitute_changes _ _).mono
    · exact Changes.refl _ _
  · refine Changes.ite ?_ ?_
    · exact Changes.refl _ _
    · split
      · exact (State.substitute_changes _ _).mono
      · refine Changes.ite ?_ ?_
        · exact (State.substitute_changes _ _).mono
        · exact Changes.refl _ _

theorem execSubstitutionRestart_answers (c : Fin 64) (s : State) :
    Answers (Part.regs ||| Part.ctxs ||| Part.engs ||| Part.substs) s (execSubstitutionRestart c s) := by
  refine ⟨_, rfl, ?_⟩
  extract_lets -merge -usedOnly x1 x2 x3 x4
  refine Changes.have (x := x3) ?_ fun h5 => ?_
  · unfold x3
    refine Changes.each ?_ ?_
    · unfold x2
      exact Changes.set_substs (Changes.refl _ _)
    · intro t6 a6 h6
      exact h6.then (State.freeSlot_changes _ _)
  refine Changes.have (x := x4) (h5.then (State.updFront_changes _ _ _)) fun h7 => ?_
  refine Changes.ite ?_ ?_
  · exact Changes.refl _ _
  · split
    · unfold x2
      exact Changes.set_substs (Changes.refl _ _)
    · refine Changes.ite ?_ ?_
      · unfold x2
        exact Changes.set_substs (Changes.refl _ _)
      · refine Changes.ite ?_ ?_
        · exact Changes.refl _ _
        · extract_lets -merge -usedOnly x8 x9
          refine Changes.have (x := x9) (h7.then (State.launch_changes _ _ _ _ _)) fun h10 => ?_
          refine Changes.each ?_ ?_
          · exact h10
          · intro t11 a11 h11
            exact (h11.then (State.wr_changes _ _ _)).then (State.noteRun_changes _ _)

theorem execEchoSend_answers (h : Fin 2) (s : State) :
    Answers Part.sups s (execEchoSend h s) := by
  refine ⟨_, rfl, ?_⟩
  refine Changes.ite ?_ ?_
  · exact (State.updSup_changes _ _ _).mono
  · exact Changes.refl _ _

theorem execEchoPeriodCheck_answers (h : Fin 2) (echo wire : Bool) (s : State) :
    Answers (Part.regs ||| Part.out ||| Part.heldOut ||| Part.fns ||| Part.engs ||| Part.sups ||| Part.snap) s (execEchoPeriodCheck h echo wire s) := by
  refine ⟨_, rfl, ?_⟩
  refine Changes.ite ?_ ?_
  · exact Changes.refl _ _
  · extract_lets -merge -usedOnly x1 x2 x3 x4
    refine Changes.have (x := x1) ?_ fun h5 => ?_
    · unfold x1
      refine Changes.ite ?_ ?_
      · exact Changes.refl _ _
      · exact (State.count_changes _ _ _).mono
    refine Changes.have (x := x2) ?_ fun h6 => ?_
    · unfold x2
      refine Changes.ite ?_ ?_
      · exact h5
      · exact h5.then (State.count_changes _ _ _)
    refine Changes.have (x := x3) (h6.then (State.updSup_changes _ _ _)) fun h7 => ?_
    refine Changes.have (x := x4) (h7.then (State.echoPaths_changes _ _)) fun h8 => ?_
    refine Changes.ite ?_ ?_
    · exact h8.then (State.heldRuns_changes _)
    · refine Changes.ite ?_ ?_
      · exact h8.then (State.fenceSup_changes _ _ _)
      · exact h8

theorem execEchoRx_answers (h : Fin 2) (s : State) :
    Answers (Part.regs ||| Part.out ||| Part.heldOut ||| Part.fns ||| Part.sups ||| Part.snap) s (execEchoRx h s) := by
  refine ⟨_, rfl, ?_⟩
  extract_lets -merge -usedOnly x1 x2 x3
  refine Changes.ite ?_ ?_
  · exact Changes.refl _ _
  · exact (State.updSup_changes _ _ _).mono.then (State.fenceSup_changes _ _ _)

theorem execCustodyClaim_answers (h : Fin 2) (s : State) :
    Answers (Part.regs ||| Part.sups) s (execCustodyClaim h s) := by
  refine ⟨_, rfl, ?_⟩
  extract_lets -merge -usedOnly x1 x2
  refine Changes.ite ?_ ?_
  · exact Changes.refl _ _
  · exact (State.takeLantern_changes _ _ _).mono

theorem execCustodyAdvance_answers (h : Fin 2) (e : Word32) (reach : Bool) (s : State) :
    Answers (Part.regs ||| Part.out ||| Part.heldOut ||| Part.fns ||| Part.engs ||| Part.sups ||| Part.snap) s (execCustodyAdvance h e reach s) := by
  refine ⟨_, rfl, ?_⟩
  refine Changes.ite ?_ ?_
  · exact (State.advance_changes _ _ _ _).mono
  · exact Changes.refl _ _

theorem execAdvanceRetry_answers (h : Fin 2) (e : Word32) (reach : Bool) (s : State) :
    Answers (Part.regs ||| Part.out ||| Part.heldOut ||| Part.fns ||| Part.engs ||| Part.sups ||| Part.snap) s (execAdvanceRetry h e reach s) := by
  refine ⟨_, rfl, ?_⟩
  refine Changes.ite ?_ ?_
  · exact (State.advance_changes _ _ _ _).mono
  · exact Changes.refl _ _

theorem execCommitUnitWrite_answers (h : Fin 2) (s : State) :
    Answers (Part.regs ||| Part.sups) s (execCommitUnitWrite h s) := by
  refine ⟨_, rfl, ?_⟩
  refine Changes.ite ?_ ?_
  · exact (State.count_changes _ _ _).mono.then (State.updSup_changes _ _ _)
  · exact Changes.refl _ _

theorem execCustodyReconcile_answers (host : List (BitVec 256 × List (BitVec 256))) (s : State) :
    Answers (Part.regs ||| Part.out ||| Part.heldOut ||| Part.fns ||| Part.ctxs ||| Part.bankMem ||| Part.sups) s (execCustodyReconcile host s) := by
  refine ⟨_, rfl, ?_⟩
  extract_lets -merge -usedOnly x1 x2 x3
  refine Changes.have (x := x2) ?_ fun h4 => ?_
  · unfold x2
    refine Changes.each ?_ ?_
    · exact Changes.refl _ _
    · intro t5 a5 h5
      extract_lets -merge -usedOnly x6
      exact h5.then (State.adopt_changes _ _ _ _)
  refine Changes.have (x := x3) (h4.then (State.updSup_changes _ _ _)) fun h7 => ?_
  refine Changes.ite ?_ ?_
  · exact Changes.refl _ _
  · refine Changes.each ?_ ?_
    · exact h7
    · intro t8 a8 h8
      exact h8.then (State.post_changes _ _ _)

theorem execSnpFire_answers (r : Req) (s : State) :
    Answers (Part.regs ||| Part.snap) s (execSnpFire r s) := by
  refine ⟨_, rfl, ?_⟩
  refine Changes.ite ?_ ?_
  · exact (State.raiseSnap_changes _ _).mono
  · exact Changes.refl _ _

theorem execSnapInEdge_answers (s : State) :
    Answers (Part.regs ||| Part.snap) s (execSnapInEdge s) := by
  refine ⟨_, rfl, ?_⟩
  refine Changes.ite ?_ ?_
  · exact (State.raiseSnap_changes _ _).mono
  · exact Changes.refl _ _

theorem execSnpRelease_answers (r : Req) (s : State) :
    Answers Part.regs s (execSnpRelease r s) := by
  refine ⟨_, rfl, ?_⟩
  refine Changes.ite ?_ ?_
  · exact (State.clr_changes _ _).mono
  · exact Changes.refl _ _

theorem execSnapOutEnd_answers (s : State) :
    Answers Part.snap s (execSnapOutEnd s) := by
  refine ⟨_, rfl, ?_⟩
  exact Changes.set_snap (Changes.refl _ _)

theorem execSnapDeliver_answers (s : State) :
    Answers (Part.regs ||| Part.tb ||| Part.snap ||| Part.time) s (execSnapDeliver s) := by
  refine ⟨_, rfl, ?_⟩
  refine Changes.ite ?_ ?_
  · exact Changes.refl _ _
  · extract_lets -merge -usedOnly x1 x2 x3 x4 x5 x6
    refine Changes.have (x := x4) ((((State.wr_changes _ _ _).mono.then (State.wr_changes _ _ _)).then (State.wr_changes _ _ _)).then (State.wr_changes _ _ _)) fun h7 => ?_
    refine Changes.have (x := x6) ?_ fun h8 => ?_
    · unfold x6
      exact Changes.set_snap h7
    split
    · exact (h8.then (State.pairTake_changes _ _)).then (State.updTime_changes _ _)
    · exact h8

theorem execWearHour_answers (cycles : Nat) (hot : Bool) (ages : List (BitVec 16)) (s : State) :
    Answers Part.regs s (execWearHour cycles hot ages s) := by
  refine ⟨_, rfl, ?_⟩
  extract_lets -merge -usedOnly x1
  refine Changes.have (x := x1) (((State.count_changes _ _ _).mono.then (State.count_changes _ _ _)).then (State.count_changes _ _ _)) fun h2 => ?_
  refine Changes.each ?_ ?_
  · exact h2
  · intro t3 a3 h3
    exact h3.then (State.wr_changes _ _ _)

theorem execSpecResolve_answers (n : Fin 104) (late : Nat) (s : State) :
    Answers (Part.regs ||| Part.bus ||| Part.ctxs ||| Part.engs ||| Part.bays ||| Part.chans ||| Part.ssgs |||
        Part.dmcs ||| Part.trcs ||| Part.snap ||| Part.nis ||| Part.fabHeld) s (execSpecResolve n late s) := by
  refine ⟨_, rfl, ?_⟩
  split
  · exact Changes.refl _ _
  · refine Changes.ite ?_ ?_
    · exact Changes.refl _ _
    · extract_lets -merge -usedOnly x1 x2 x3 x4 x5 x6 x7 x8 x9
      refine Changes.have (x := x3) ?_ fun h10 => ?_
      · unfold x3
        refine Changes.ite ?_ ?_
        · exact Changes.refl _ _
        · exact (State.count_changes _ _ _).mono
      refine Changes.have (x := x4) (h10.then (State.holdFor_changes _ _ _)) fun h11 => ?_
      refine Changes.have (x := x6) ((h11.then (State.retire_changes _ _ _)).then (State.updEng_changes _ _ _)) fun h12 => ?_
      refine Changes.have (x := x7) (h12.then (State.count_changes _ _ _)) fun h13 => ?_
      refine Changes.have (x := x8) (h13.then (State.updEng_changes _ _ _)) fun h14 => ?_
      refine Changes.have (x := x9) ?_ fun h15 => ?_
      · unfold x9
        refine Changes.ite ?_ ?_
        · exact ((h14.then (State.confirmAll_changes _ _ _)).then (State.tagResolved_changes _ _ _ _)).then (State.settleEmpty_changes _ _)
        · exact h13.then (State.mispredict_changes _ _ _ _)
      refine Changes.ite ?_ ?_
      · exact (((h11.then (State.retire_changes _ _ _)).then (State.updEng_changes _ _ _)).then (State.settleEmpty_changes _ _)).then (State.prune_changes _ _)
      · exact ((h15.then (State.syncBrs_changes _ _)).then (State.prune_changes _ _)).then (State.pauseDue_changes _ _)

theorem execSumpRelease_answers (n : Fin 104) (b : Fin 8) (s : State) :
    Answers (Part.regs ||| Part.ctxs ||| Part.engs ||| Part.bays) s (execSumpRelease n b s) := by
  refine ⟨_, rfl, ?_⟩
  split
  · exact Changes.refl _ _
  · extract_lets -merge -usedOnly x1 x2 x3 x4 x5 x6 x7
    refine Changes.have (x := x5) ?_ fun h8 => ?_
    · unfold x5
      refine Changes.ite ?_ ?_
      · exact (State.countChans_changes _ _ _).mono
      · exact Changes.refl _ _
    refine Changes.have (x := x6) ?_ fun h9 => ?_
    · unfold x6
      refine Changes.ite ?_ ?_
      · exact h8.then (State.fpTake_changes _ _ _)
      · exact h8
    refine Changes.have (x := x7) ?_ fun h10 => ?_
    · unfold x7
      refine Changes.each ?_ ?_
      · exact h9
      · intro t11 a11 h11
        exact h11.then (State.putEntry_changes _ _ _ _)
    refine Changes.ite ?_ ?_
    · exact Changes.refl _ _
    · exact (h10.then (State.sumpGive_changes _ _ _)).then (State.updEng_changes _ _ _)

theorem execFabricResultWrite_answers (e : Fin 64) (taken : List Nat) (tag : Fin 256) (dev : Bool) (addr : Word64) (len : Fin 65) (data : Desc) (s : State) :
    Answers (Part.regs ||| Part.bus ||| Part.out ||| Part.heldOut ||| Part.bays ||| Part.dmcs ||| Part.nis |||
        Part.fabHeld) s (execFabricResultWrite e taken tag dev addr len data s) := by
  refine ⟨_, rfl, ?_⟩
  refine Changes.ite ?_ ?_
  · refine Changes.each ?_ ?_
    · exact Changes.refl _ _
    · intro t1 a1 h1
      exact h1.then (State.takeWords_changes _ _ _)
  · refine Changes.ite ?_ ?_
    · refine Changes.then ?_ (State.localNack_changes _ _ _ _)
      refine Changes.each ?_ ?_
      · exact Changes.refl _ _
      · intro t2 a2 h2
        exact h2.then (State.takeWords_changes _ _ _)
    · refine Changes.then ?_ (State.fabResult_changes _ _)
      refine Changes.each ?_ ?_
      · exact Changes.refl _ _
      · intro t3 a3 h3
        exact h3.then (State.takeWords_changes _ _ _)

theorem execFabricWriteRelease_answers (h : Fin 2) (s : State) :
    Answers (Part.regs ||| Part.bus ||| Part.out ||| Part.heldOut ||| Part.dmcs ||| Part.nis ||| Part.fabHeld) s (execFabricWriteRelease h s) := by
  refine ⟨_, rfl, ?_⟩
  split
  · exact Changes.refl _ _
  · refine Changes.ite ?_ ?_
    · exact (State.fabWake_changes _ _).mono
    · refine Changes.then ?_ (State.fabResult_changes _ _)
      exact Changes.set_fabHeld (Changes.refl _ _)

theorem execBankAccess_answers (h : Fin 2) (m : Fin 5) (r : Req) (addr : Fin 0x2000000) (len : Fin 65) (wr : Option Desc) (ecc : Ecc) (s : State) :
    Answers (Part.regs ||| Part.bus ||| Part.engs ||| Part.bankMem ||| Part.banks ||| Part.nis ||| Part.dirc |||
        Part.bankJoins ||| Part.joinNo ||| Part.homes ||| Part.bankUe) s (execBankAccess h m r addr len wr ecc s) := by
  refine ⟨_, rfl, ?_⟩
  refine Changes.ite ?_ ?_
  · exact Changes.refl _ _
  · refine Changes.ite ?_ ?_
    · refine Changes.ite ?_ ?_
      · exact Changes.refl _ _
      · exact (State.setBus_changes _ _ _).mono
    · exact (State.bankAccess_changes _ _ _).mono

theorem execBankCeWriteback_answers (h : Fin 2) (s : State) :
    Answers (Part.bankMem ||| Part.banks) s (execBankCeWriteback h s) := by
  refine ⟨_, rfl, ?_⟩
  split
  · exact Changes.refl _ _
  · exact (State.bankWrite_changes _ _ _ _ _).mono.then (State.updBank_changes _ _ _)

theorem execBankPwrWrite_answers (r : Req) (h : Fin 2) (k : Fin 4) (v : Word32) (s : State) :
    Answers (Part.regs ||| Part.banks) s (execBankPwrWrite r h k v s) := by
  refine ⟨_, rfl, ?_⟩
  refine Changes.ite ?_ ?_
  · exact (State.bankPwr_changes _ _ _ _).mono
  · exact Changes.refl _ _

theorem execBankPwrDone_answers (h : Fin 2) (b : Fin 64) (s : State) :
    Answers (Part.regs ||| Part.bus ||| Part.engs ||| Part.bankMem ||| Part.banks ||| Part.nis ||| Part.dirc |||
        Part.bankJoins ||| Part.bankUe) s (execBankPwrDone h b s) := by
  refine ⟨_, rfl, ?_⟩
  split
  · exact Changes.refl _ _
  · extract_lets -merge -usedOnly x1 x2
    refine Changes.have (x := x1) ((State.setBankCur_changes _ _ _ _).mono.then (State.updBank_changes _ _ _)) fun h3 => ?_
    refine Changes.have (x := x2) ?_ fun h4 => ?_
    · unfold x2
      refine Changes.ite ?_ ?_
      · exact h3.then (State.bankLose_changes _ _ _)
      · exact h3
    exact h4.then (State.bankRetry_changes _ _)

theorem execCoppiceLoanStart_answers (h : Fin 2) (s : State) :
    Answers Part.regs s (execCoppiceLoanStart h s) := by
  refine ⟨_, rfl, ?_⟩
  refine Changes.ite ?_ ?_
  · split
    · exact (State.copPhase_changes _ _ _).mono.then (State.wr_changes _ _ _)
    · exact Changes.refl _ _
  · exact Changes.refl _ _

theorem execCoppiceSwitchOver_answers (h : Fin 2) (s : State) :
    Answers Part.regs s (execCoppiceSwitchOver h s) := by
  refine ⟨_, rfl, ?_⟩
  refine Changes.ite ?_ ?_
  · exact (State.copPhase_changes _ _ _).mono
  · exact Changes.refl _ _

theorem execCoppiceTestDone_answers (h : Fin 2) (ok : Bool) (s : State) :
    Answers (Part.regs ||| Part.out ||| Part.heldOut ||| Part.fns ||| Part.banks) s (execCoppiceTestDone h ok s) := by
  refine ⟨_, rfl, ?_⟩
  refine Changes.ite ?_ ?_
  · exact Changes.refl _ _
  · refine Changes.ite ?_ ?_
    · exact (State.copPhase_changes _ _ _).mono
    · exact (State.adoptBank_changes _ _ _).mono

theorem execCoppiceSwitchBack_answers (h : Fin 2) (s : State) :
    Answers (Part.regs ||| Part.banks) s (execCoppiceSwitchBack h s) := by
  refine ⟨_, rfl, ?_⟩
  refine Changes.ite ?_ ?_
  · exact (State.count_changes _ _ _).mono.then (State.copEnd_changes _ _)
  · exact Changes.refl _ _

theorem execNocInject_answers (id : Fin 256) (fresh : Bool) (dest opc tag : Byte) (size : Fin 65) (attr : Byte) (addr : Word64) (data : Desc) (s : State) :
    Answers (Part.regs ||| Part.nis ||| Part.flights ||| Part.fabHeld) s (execNocInject id fresh dest opc tag size attr addr data s) := by
  refine ⟨_, rfl, ?_⟩
  refine Changes.ite ?_ ?_
  · exact Changes.refl _ _
  · refine Changes.ite ?_ ?_
    · refine Changes.ite ?_ ?_
      · exact Changes.refl _ _
      · exact (State.injectTx_changes _ _).mono
    · refine Changes.ite ?_ ?_
      · exact (State.count_changes _ _ _).mono
      · refine Changes.ite ?_ ?_
        · exact Changes.refl _ _
        · extract_lets -merge -usedOnly x1
          refine Changes.have (x := x1) ((State.inject_changes _ _ _).mono) fun h2 => ?_
          refine Changes.ite ?_ ?_
          · exact h2.then (State.noteIssue_changes _ _ _)
          · exact h2

theorem execNocEject_answers (k : Nat) (full bad : Bool) (s : State) :
    Answers (Part.regs ||| Part.nis ||| Part.flights) s (execNocEject k full bad s) := by
  refine ⟨_, rfl, ?_⟩
  split
  · exact Changes.refl _ _
  · extract_lets -merge -usedOnly x1 x2 x3 x4
    refine Changes.have (x := x3) ?_ fun h5 => ?_
    · unfold x3
      exact Changes.set_flights (Changes.refl _ _)
    refine Changes.ite ?_ ?_
    · exact Changes.refl _ _
    · refine Changes.ite ?_ ?_
      · refine Changes.then ?_ (State.count_changes _ _ _)
        exact Changes.set_flights (Changes.refl _ _)
      · refine Changes.ite ?_ ?_
        · exact (State.count_changes _ _ _).mono
        · refine Changes.ite ?_ ?_
          · refine Changes.ite ?_ ?_
            · exact h5.then (State.misroute_changes _ _ _)
            · refine Changes.ite ?_ ?_
              · exact h5
              · exact Changes.set_flights h5
          · refine Changes.ite ?_ ?_
            · exact h5.then (State.deliver_changes _ _)
            · exact h5.then (State.misroute_changes _ _ _)

theorem execRd_answers (id : Fin 256) (ecc : Ecc) (host : Desc) (s : State) :
    Answers (Part.fresh ||| Part.regs ||| Part.bus ||| Part.engs ||| Part.bankMem ||| Part.banks ||| Part.dmcs |||
        Part.nis ||| Part.dirc ||| Part.bankJoins ||| Part.joinNo ||| Part.homes ||| Part.bankUe) s (execRd id ecc host s) := by
  refine ⟨_, rfl, ?_⟩
  refine Changes.onRx ?_ ?_
  · exact Changes.refl _ _
  · intro p1 t1 h1
    refine Changes.ite ?_ ?_
    · exact h1.then (State.bankAccess_changes _ _ _)
    · refine Changes.ite ?_ ?_
      · extract_lets -merge -usedOnly x2 x3
        refine Changes.ite ?_ ?_
        · exact (State.wakeDram_changes _ _).mono
        · exact h1.then (State.dramReadReq_changes _ _ _ _ _ _ _)
      · refine Changes.ite ?_ ?_
        · exact h1.then (State.answer_changes _ _ _ _ _ _ _)
        · exact h1.then (State.nack_changes _ _ _ _)

theorem execWrReq_answers (id : Fin 256) (s : State) :
    Answers (Part.regs ||| Part.nis) s (execWrReq id s) := by
  refine ⟨_, rfl, ?_⟩
  refine Changes.onRx ?_ ?_
  · exact Changes.refl _ _
  · intro p1 t1 h1
    extract_lets -merge -usedOnly x2 x3
    refine Changes.ite ?_ ?_
    · exact (h1.then (State.dramAddrErr_changes _ _ _)).then (State.nack_changes _ _ _ _)
    · refine Changes.ite ?_ ?_
      · exact (h1.then (State.updNi_changes _ _ _)).then (State.answer_changes _ _ _ _ _ _ _)
      · exact h1.then (State.nack_changes _ _ _ _)

theorem execWdata_answers (id : Fin 256) (ecc : Ecc) (s : State) :
    Answers (Part.regs ||| Part.bus ||| Part.out ||| Part.heldOut ||| Part.engs ||| Part.bankMem ||| Part.banks |||
        Part.dmcs ||| Part.trcs ||| Part.nis ||| Part.dirc ||| Part.bankJoins ||| Part.joinNo ||| Part.homes |||
        Part.fabHeld ||| Part.bankUe) s (execWdata id ecc s) := by
  refine ⟨_, rfl, ?_⟩
  refine Changes.onRx ?_ ?_
  · exact Changes.refl _ _
  · intro p1 t1 h1
    split
    · exact h1.then (State.nack_changes _ _ _ _)
    · extract_lets -merge -usedOnly x2 x3 x4 x5 x6 x7 x8 x9
      refine Changes.have (x := x2) (h1.then (State.updNi_changes _ _ _)) fun h10 => ?_
      refine Changes.have (x := x4.2) ?_ fun h11 => ?_
      · unfold x4
        exact h10.then (State.takeIssue_changes _ _ _)
      refine Changes.have (x := x9) ?_ fun h12 => ?_
      · unfold x9
        refine Changes.ite ?_ ?_
        · exact h10.then (State.dramOrReq_changes _ _ _ _ _ _)
        · exact h10.then (State.dramWriteReq_changes _ _ _ _ _ _ _)
      refine Changes.ite ?_ ?_
      · exact h10.then (State.handOver_changes _ _ _)
      · refine Changes.ite ?_ ?_
        · exact (h10.then (State.stimWrite_changes _ _ _ _ _ _)).then (State.answer_changes _ _ _ _ _ _ _)
        · refine Changes.ite ?_ ?_
          · exact h10.then (State.bankAccess_changes _ _ _)
          · refine Changes.ite ?_ ?_
            · refine Changes.ite ?_ ?_
              · exact h11.then (State.nack_changes _ _ _ _)
              · exact h11.then (State.fabResult_changes _ _)
            · refine Changes.ite ?_ ?_
              · exact (h10.then (State.dataWrite_changes _ _ _ _)).then (State.answer_changes _ _ _ _ _ _ _)
              · refine Changes.ite ?_ ?_
                · exact (h10.then (State.dramAddrErr_changes _ _ _)).then (State.nack_changes _ _ _ _)
                · refine Changes.ite ?_ ?_
                  · exact (State.wakeDram_changes _ _).mono
                  · exact h12.then (State.answer_changes _ _ _ _ _ _ _)

theorem execRdS_answers (id : Fin 256) (ecc : Ecc) (s : State) :
    Answers (Part.regs ||| Part.bus ||| Part.engs ||| Part.bankMem ||| Part.banks ||| Part.nis ||| Part.dirc |||
        Part.bankJoins ||| Part.joinNo ||| Part.homes ||| Part.bankUe) s (execRdS id ecc s) := by
  refine ⟨_, rfl, ?_⟩
  exact (State.cohRead_changes _ _ _ _ _).mono

theorem execRdM_answers (id : Fin 256) (ecc : Ecc) (s : State) :
    Answers (Part.regs ||| Part.bus ||| Part.engs ||| Part.bankMem ||| Part.banks ||| Part.nis ||| Part.dirc |||
        Part.bankJoins ||| Part.joinNo ||| Part.homes ||| Part.bankUe) s (execRdM id ecc s) := by
  refine ⟨_, rfl, ?_⟩
  exact (State.cohRead_changes _ _ _ _ _).mono

theorem execAtomAcq_answers (id : Fin 256) (s : State) :
    Answers (Part.regs ||| Part.out ||| Part.heldOut ||| Part.bankMem ||| Part.nis) s (execAtomAcq id s) := by
  refine ⟨_, rfl, ?_⟩
  refine Changes.atomic ?_ ?_
  · exact Changes.refl _ _
  · intro t1 a1 b1 p1 h1
    extract_lets -merge -usedOnly x2
    refine Changes.have (x := x2.2) ?_ fun h3 => ?_
    · unfold x2
      exact h1.then (State.semAcquire_changes _ _ _ _ _)
    exact h3.then (State.answer_changes _ _ _ _ _ _ _)

theorem execAtomRel_answers (id : Fin 256) (s : State) :
    Answers (Part.regs ||| Part.out ||| Part.heldOut ||| Part.bankMem ||| Part.nis) s (execAtomRel id s) := by
  refine ⟨_, rfl, ?_⟩
  refine Changes.atomic ?_ ?_
  · exact Changes.refl _ _
  · intro t1 a1 b1 p1 h1
    extract_lets -merge -usedOnly x2
    refine Changes.have (x := x2.2) ?_ fun h3 => ?_
    · unfold x2
      exact h1.then (State.semRelease_changes _ _ _ _ _)
    refine Changes.ite ?_ ?_
    · exact h3.then (State.answer_changes _ _ _ _ _ _ _)
    · exact h3.then (State.nack_changes _ _ _ _)

theorem execGrant_answers (id : Fin 256) (s : State) :
    Answers (Part.regs ||| Part.nis) s (execGrant id s) := by
  refine ⟨_, rfl, ?_⟩
  refine Changes.onResponse ?_ ?_
  · exact Changes.refl _ _
  · intro p1 t1 h1
    exact h1.then (State.updNi_changes _ _ _)

theorem execAck_answers (id : Fin 256) (s : State) :
    Answers (Part.regs ||| Part.nis) s (execAck id s) := by
  refine ⟨_, rfl, ?_⟩
  refine Changes.onResponse ?_ ?_
  · exact Changes.refl _ _
  · intro p1 t1 h1
    exact h1.then (State.complete_changes _ _ _)

theorem execRegData_answers (id : Fin 256) (s : State) :
    Answers (Part.regs ||| Part.nis) s (execRegData id s) := by
  refine ⟨_, rfl, ?_⟩
  refine Changes.onResponse ?_ ?_
  · exact Changes.refl _ _
  · intro p1 t1 h1
    exact h1.then (State.complete_changes _ _ _)

theorem execRdata_answers (id : Fin 256) (s : State) :
    Answers (Part.regs ||| Part.nis) s (execRdata id s) := by
  refine ⟨_, rfl, ?_⟩
  refine Changes.onResponse ?_ ?_
  · exact Changes.refl _ _
  · intro p1 t1 h1
    exact h1.then (State.complete_changes _ _ _)

theorem execNack_answers (id : Fin 256) (s : State) :
    Answers (Part.regs ||| Part.bus ||| Part.nis) s (execNack id s) := by
  refine ⟨_, rfl, ?_⟩
  refine Changes.onResponse ?_ ?_
  · exact Changes.refl _ _
  · intro p1 t1 h1
    exact (((h1.then (State.complete_changes _ _ _)).then (State.count_changes _ _ _)).then (State.voidGrant_changes _ _ _)).then (State.masterError_changes _ _ _)

theorem execNocRspTimeout_answers (id : Fin 256) (tag : Byte) (s : State) :
    Answers (Part.regs ||| Part.bus ||| Part.nis) s (execNocRspTimeout id tag s) := by
  refine ⟨_, rfl, ?_⟩
  split
  · exact ((((State.complete_changes _ _ _).mono.then (State.voidGrant_changes _ _ _)).then (State.count_changes _ _ _)).then (State.localNack_changes _ _ _ _)).then (State.masterError_changes _ _ _)
  · exact Changes.refl _ _

theorem execSnpInv_answers (id : Fin 256) (data : Desc) (s : State) :
    Answers Part.nis s (execSnpInv id data s) := by
  refine ⟨_, rfl, ?_⟩
  exact (State.onSnoop_changes _ _ _ _).mono

theorem execSnpShr_answers (id : Fin 256) (data : Desc) (s : State) :
    Answers Part.nis s (execSnpShr id data s) := by
  refine ⟨_, rfl, ?_⟩
  exact (State.onSnoop_changes _ _ _ _).mono

theorem execSnpAck_answers (id : Fin 256) (s : State) :
    Answers (Part.regs ||| Part.bus ||| Part.engs ||| Part.bankMem ||| Part.banks ||| Part.nis ||| Part.dirc |||
        Part.bankJoins ||| Part.homes ||| Part.bankUe) s (execSnpAck id s) := by
  refine ⟨_, rfl, ?_⟩
  refine Changes.onRx ?_ ?_
  · exact Changes.refl _ _
  · intro p1 t1 h1
    extract_lets -merge -usedOnly x2 x3 x4 x5
    refine Changes.have (x := x4) ?_ fun h6 => ?_
    · unfold x4
      refine Changes.ite ?_ ?_
      · exact h1.then (State.loseM_changes _ _ _)
      · exact h1
    refine Changes.have (x := x5) (h6.then (State.afterSnoop_changes _ _ _ _ _)) fun h7 => ?_
    exact h7.then (State.homeAnswer_changes _ _ _ _)

theorem execSnpData_answers (id : Fin 256) (s : State) :
    Answers (Part.regs ||| Part.bus ||| Part.engs ||| Part.bankMem ||| Part.banks ||| Part.nis ||| Part.dirc |||
        Part.bankJoins ||| Part.homes ||| Part.bankUe) s (execSnpData id s) := by
  refine ⟨_, rfl, ?_⟩
  refine Changes.onRx ?_ ?_
  · exact Changes.refl _ _
  · intro p1 t1 h1
    extract_lets -merge -usedOnly x2 x3 x4 x5
    refine Changes.have (x := x3) (h1.then (State.bankWrite_changes _ _ _ _ _)) fun h6 => ?_
    refine Changes.have (x := x4) ?_ fun h7 => ?_
    · unfold x4
      refine Changes.each ?_ ?_
      · exact h6
      · intro t8 a8 h8
        exact h8.then (State.setBankUe_changes _ _ _ _)
    refine Changes.have (x := x5) (h7.then (State.afterSnoop_changes _ _ _ _ _)) fun h9 => ?_
    exact h9.then (State.homeAnswer_changes _ _ _ _)

theorem execSnoopTimeout_answers (h : Fin 2) (agent : Fin 256) (s : State) :
    Answers (Part.regs ||| Part.bus ||| Part.out ||| Part.heldOut ||| Part.fns ||| Part.engs ||| Part.bankMem |||
        Part.banks ||| Part.snap ||| Part.nis ||| Part.flights ||| Part.dirc ||| Part.bankJoins ||| Part.homes |||
        Part.bankUe) s (execSnoopTimeout h agent s) := by
  refine ⟨_, rfl, ?_⟩
  refine Changes.ite ?_ ?_
  · extract_lets -merge -usedOnly x1 x2 x3
    refine Changes.have (x := x1) ((State.setOn_changes _ _).mono) fun h4 => ?_
    refine Changes.have (x := x3) ?_ fun h5 => ?_
    · unfold x3
      refine Changes.each ?_ ?_
      · exact h4
      · intro t6 a6 h6
        extract_lets -merge -usedOnly x7
        exact ((h6.then (State.loseM_changes _ _ _)).then (State.dropCopy_changes _ _ _ _)).then (State.homeAnswer_changes _ _ _ _)
    refine Changes.ite ?_ ?_
    · exact h5.then (State.fenceEndpoint_changes _ _ _)
    · refine Changes.ite ?_ ?_
      · exact h5.then (State.fenceSup_changes _ _ _)
      · exact h5
  · exact Changes.refl _ _

theorem execFenceReq_answers (id : Fin 256) (fault : Bool) (c : CtlFrom) (s : State) :
    Answers (Part.regs ||| Part.nis) s (execFenceReq id fault c s) := by
  refine ⟨_, rfl, ?_⟩
  refine Changes.ite ?_ ?_
  · exact (State.wr_changes _ _ _).mono.then (State.updNi_changes _ _ _)
  · exact Changes.refl _ _

theorem execFenceAck_answers (id : Fin 256) (timeout : Bool) (s : State) :
    Answers (Part.regs ||| Part.nis ||| Part.flights) s (execFenceAck id timeout s) := by
  refine ⟨_, rfl, ?_⟩
  refine Changes.ite ?_ ?_
  · extract_lets -merge -usedOnly x1 x2 x3
    refine Changes.have (x := x1) ((State.drainTx_changes _ _).mono) fun h4 => ?_
    refine Changes.have (x := x2) (h4.then (State.wr_changes _ _ _)) fun h5 => ?_
    refine Changes.each ?_ ?_
    · exact h5.then (State.updNi_changes _ _ _)
    · intro t6 a6 h6
      exact h6.then (State.fencedPkt_changes _ _ _)
  · exact Changes.refl _ _

theorem execNiRelease_answers (id : Fin 256) (c : CtlFrom) (s : State) :
    Answers (Part.regs ||| Part.nis) s (execNiRelease id c s) := by
  refine ⟨_, rfl, ?_⟩
  refine Changes.ite ?_ ?_
  · extract_lets -merge -usedOnly x1
    refine Changes.have (x := x1) ((State.updNi_changes _ _ _).mono) fun h2 => ?_
    exact (h2.then (State.wr_changes _ _ _)).then (State.niOut_changes _ _)
  · exact Changes.refl _ _

theorem execRouteTableWrite_answers (r : Req) (t d : Fin 256) (v : Word32) (s : State) :
    Answers (Part.regs ||| Part.nis ||| Part.routes) s (execRouteTableWrite r t d v s) := by
  refine ⟨_, rfl, ?_⟩
  refine Changes.ite ?_ ?_
  · exact (State.routeWrite_changes _ _ _ _).mono
  · exact Changes.refl _ _

theorem execLinkFailed_answers (h : Fin 2) (stop : Fin 20) (dir : Fin 2) (lost : List Nat) (s : State) :
    Answers (Part.regs ||| Part.out ||| Part.heldOut ||| Part.fns ||| Part.nis ||| Part.flights ||| Part.routes) s (execLinkFailed h stop dir lost s) := by
  refine ⟨_, rfl, ?_⟩
  refine Changes.ite ?_ ?_
  · exact Changes.refl _ _
  · refine Changes.then ?_ (State.linkFail_changes _ _ _ _)
    exact Changes.set_flights (Changes.refl _ _)

theorem execFcgApply_answers (r : Req) (h : Fin 2) (g : Fin 4) (pinHz : Nat) (s : State) :
    Answers (Part.regs ||| Part.fcgs) s (execFcgApply r h g pinHz s) := by
  refine ⟨_, rfl, ?_⟩
  refine Changes.ite ?_ ?_
  · exact (State.fcgApply_changes _ _ _ _).mono
  · exact Changes.refl _ _

theorem execFcgRelock_answers (h : Fin 2) (g : Fin 4) (s : State) :
    Answers (Part.regs ||| Part.fcgs) s (execFcgRelock h g s) := by
  refine ⟨_, rfl, ?_⟩
  refine Changes.ite ?_ ?_
  · exact ((State.setOn_changes _ _).mono.then (State.clr_changes _ _)).then (State.updFcg_changes _ _ _ _)
  · exact Changes.refl _ _

theorem execFcgLockLoss_answers (h : Fin 2) (g : Fin 4) (s : State) :
    Answers (Part.regs ||| Part.fcgs) s (execFcgLockLoss h g s) := by
  refine ⟨_, rfl, ?_⟩
  refine Changes.ite ?_ ?_
  · exact ((State.setOn_changes _ _).mono.then (State.clr_changes _ _)).then (State.updFcg_changes _ _ _ _)
  · exact Changes.refl _ _

theorem execRclkWrite_answers (q : Req) (r : Fin 32) (which : Fin 3) (v : Word32) (s : State) :
    Answers Part.regs s (execRclkWrite q r which v s) := by
  refine ⟨_, rfl, ?_⟩
  refine Changes.ite ?_ ?_
  · exact (State.storeWord_changes _ _ _).mono
  · exact Changes.refl _ _

theorem execRegionalLineEdge_answers (lines : List (Fin 512 × Bool)) (pads driven : BitVec 96) (s : State) :
    Answers (Part.fresh ||| Part.ffX ||| Part.ios ||| Part.ghWait ||| Part.edge ||| Part.lineHi ||| Part.gateOff |||
        Part.padExt ||| Part.padOn ||| Part.padKeep) s (execRegionalLineEdge lines pads driven s) := by
  refine ⟨_, rfl, ?_⟩
  extract_lets -merge -usedOnly x1 x2 x3 x4 x5 x6 x7 x8
  refine Changes.have (x := x2) ((State.keep_changes _ _).mono) fun h9 => ?_
  refine Changes.have (x := x3) ?_ fun h10 => ?_
  · unfold x3
    refine Changes.then ?_ (State.asyncAll_changes _)
    exact Changes.put h9 rfl (fun h => h) rfl rfl
  refine Changes.have (x := x4) ?_ fun h11 => ?_
  · unfold x4
    exact Changes.set_edge h10
  refine Changes.have (x := x5) h11 fun h12 => ?_
  refine Changes.have (x := x6) ?_ fun h13 => ?_
  · unfold x6
    refine Changes.each ?_ ?_
    · exact h11
    · intro t14 a14 h14
      refine Changes.each ?_ ?_
      · exact h14
      · intro t15 a15 h15
        exact h15.then (State.ffStep_changes _ _ _ _ _)
  refine Changes.have (x := x7) ?_ fun h16 => ?_
  · unfold x7
    refine Changes.each ?_ ?_
    · exact h13
    · intro t17 a17 h17
      exact h17.then (State.ioStep_changes _ _ _)
  refine Changes.have (x := x8) ?_ fun h18 => ?_
  · unfold x8
    refine Changes.each ?_ ?_
    · exact h16
    · intro t19 a19 h19
      extract_lets -merge -usedOnly x20 x21
      refine Changes.have (x := x20) ?_ fun h22 => ?_
      · unfold x20
        exact Changes.set_lineHi h19
      refine Changes.ite ?_ ?_
      · refine Changes.each ?_ ?_
        · exact h22
        · intro t23 a23 h23
          extract_lets -merge -usedOnly x24
          refine Changes.ite ?_ ?_
          · exact h23
          · exact Changes.set_ghWait h23
      · exact Changes.set_gateOff h22
  exact h18.then (State.asyncAll_changes _)

theorem execNeRxStallTimeout_answers (e : Fin 64) (s : State) :
    Answers Part.regs s (execNeRxStallTimeout e s) := by
  refine ⟨_, rfl, ?_⟩
  refine Changes.ite ?_ ?_
  · exact (State.setOn_changes _ _).mono
  · exact Changes.refl _ _

theorem execNeFence_answers (e : Fin 64) (c : CtlFrom) (reconfig : Bool) (s : State) :
    Answers (Part.regs ||| Part.bus ||| Part.out ||| Part.heldOut ||| Part.fns ||| Part.engs ||| Part.bankMem |||
        Part.banks ||| Part.snap ||| Part.nis ||| Part.flights ||| Part.dirc ||| Part.bankJoins ||| Part.homes |||
        Part.bankUe) s (execNeFence e c reconfig s) := by
  refine ⟨_, rfl, ?_⟩
  refine Changes.ite ?_ ?_
  · exact (State.fenceEndpoint_changes _ _ _).mono
  · exact Changes.refl _ _

theorem execNeReleaseDone_answers (e : Fin 64) (s : State) :
    Answers (Part.regs ||| Part.ownEp ||| Part.nis) s (execNeReleaseDone e s) := by
  refine ⟨_, rfl, ?_⟩
  refine Changes.ite ?_ ?_
  · exact (State.releaseEndpoint_changes _ _).mono
  · exact Changes.refl _ _

theorem execAgentFence_answers (a : Agent) (c : CtlFrom) (more : Bool) (s : State) :
    Answers (Part.fresh ||| Part.regs ||| Part.bus ||| Part.out ||| Part.heldOut ||| Part.fns ||| Part.ctxs |||
        Part.agents ||| Part.reports ||| Part.engs ||| Part.bays ||| Part.chans ||| Part.ssgs ||| Part.bankMem |||
        Part.banks ||| Part.dmcs ||| Part.trcs ||| Part.substs ||| Part.snap ||| Part.nis ||| Part.flights |||
        Part.dirc ||| Part.bankJoins ||| Part.homes ||| Part.fabHeld ||| Part.bankUe) s (execAgentFence a c more s) := by
  refine ⟨_, rfl, ?_⟩
  exact (State.receive_changes _ _ _ _ _).mono

theorem execAgentReset_answers (a : Agent) (c : CtlFrom) (more : Bool) (s : State) :
    Answers (Part.fresh ||| Part.regs ||| Part.bus ||| Part.out ||| Part.heldOut ||| Part.fns ||| Part.ctxs |||
        Part.agents ||| Part.reports ||| Part.engs ||| Part.bays ||| Part.chans ||| Part.ssgs ||| Part.bankMem |||
        Part.banks ||| Part.dmcs ||| Part.trcs ||| Part.substs ||| Part.snap ||| Part.nis ||| Part.flights |||
        Part.dirc ||| Part.bankJoins ||| Part.homes ||| Part.fabHeld ||| Part.bankUe) s (execAgentReset a c more s) := by
  refine ⟨_, rfl, ?_⟩
  exact (State.receive_changes _ _ _ _ _).mono

theorem execAgentConfigure_answers (a : Agent) (c : CtlFrom) (more : Bool) (s : State) :
    Answers (Part.fresh ||| Part.regs ||| Part.bus ||| Part.out ||| Part.heldOut ||| Part.fns ||| Part.ctxs |||
        Part.agents ||| Part.reports ||| Part.engs ||| Part.bays ||| Part.chans ||| Part.ssgs ||| Part.bankMem |||
        Part.banks ||| Part.dmcs ||| Part.trcs ||| Part.substs ||| Part.snap ||| Part.nis ||| Part.flights |||
        Part.dirc ||| Part.bankJoins ||| Part.homes ||| Part.fabHeld ||| Part.bankUe) s (execAgentConfigure a c more s) := by
  refine ⟨_, rfl, ?_⟩
  exact (State.receive_changes _ _ _ _ _).mono

theorem execAgentCalibrate_answers (a : Agent) (c : CtlFrom) (more : Bool) (s : State) :
    Answers (Part.fresh ||| Part.regs ||| Part.bus ||| Part.out ||| Part.heldOut ||| Part.fns ||| Part.ctxs |||
        Part.agents ||| Part.reports ||| Part.engs ||| Part.bays ||| Part.chans ||| Part.ssgs ||| Part.bankMem |||
        Part.banks ||| Part.dmcs ||| Part.trcs ||| Part.substs ||| Part.snap ||| Part.nis ||| Part.flights |||
        Part.dirc ||| Part.bankJoins ||| Part.homes ||| Part.fabHeld ||| Part.bankUe) s (execAgentCalibrate a c more s) := by
  refine ⟨_, rfl, ?_⟩
  exact (State.receive_changes _ _ _ _ _).mono

theorem execBramAccess_answers (t : Fin 139520) (s : State) :
    Answers (Part.bramX ||| Part.brams ||| Part.edge) s (execBramAccess t s) := by
  refine ⟨_, rfl, ?_⟩
  extract_lets -merge -usedOnly x1 x2 x3
  refine Changes.have (x := x3) ?_ fun h4 => ?_
  · unfold x3
    exact Changes.set_edge (Changes.refl _ _)
  refine Changes.ite ?_ ?_
  · refine Changes.ite ?_ ?_
    · exact h4.then (State.bramSdp_changes _ _ _)
    · exact h4.then (State.bramTrue_changes _ _ _)
  · exact Changes.refl _ _

theorem execSliceHold_answers (t : Fin 139520) (s : State) :
    Answers (Part.ffX ||| Part.brams ||| Part.slices ||| Part.ios ||| Part.edge) s (execSliceHold t s) := by
  refine ⟨_, rfl, ?_⟩
  exact (State.sliceOp_changes _ _ _).mono

theorem execSliceLoad_answers (t : Fin 139520) (s : State) :
    Answers (Part.ffX ||| Part.brams ||| Part.slices ||| Part.ios ||| Part.edge) s (execSliceLoad t s) := by
  refine ⟨_, rfl, ?_⟩
  exact (State.sliceOp_changes _ _ _).mono

theorem execSliceMac_answers (t : Fin 139520) (s : State) :
    Answers (Part.ffX ||| Part.brams ||| Part.slices ||| Part.ios ||| Part.edge) s (execSliceMac t s) := by
  refine ⟨_, rfl, ?_⟩
  exact (State.sliceOp_changes _ _ _).mono

theorem execSliceMsu_answers (t : Fin 139520) (s : State) :
    Answers (Part.ffX ||| Part.brams ||| Part.slices ||| Part.ios ||| Part.edge) s (execSliceMsu t s) := by
  refine ⟨_, rfl, ?_⟩
  exact (State.sliceOp_changes _ _ _).mono

theorem execSliceLoadc_answers (t : Fin 139520) (s : State) :
    Answers (Part.ffX ||| Part.brams ||| Part.slices ||| Part.ios ||| Part.edge) s (execSliceLoadc t s) := by
  refine ⟨_, rfl, ?_⟩
  exact (State.sliceOp_changes _ _ _).mono

theorem execSliceAddc_answers (t : Fin 139520) (s : State) :
    Answers (Part.ffX ||| Part.brams ||| Part.slices ||| Part.ios ||| Part.edge) s (execSliceAddc t s) := by
  refine ⟨_, rfl, ?_⟩
  exact (State.sliceOp_changes _ _ _).mono

theorem execSliceMacc_answers (t : Fin 139520) (s : State) :
    Answers (Part.ffX ||| Part.brams ||| Part.slices ||| Part.ios ||| Part.edge) s (execSliceMacc t s) := by
  refine ⟨_, rfl, ?_⟩
  exact (State.sliceOp_changes _ _ _).mono

theorem execSliceClr_answers (t : Fin 139520) (s : State) :
    Answers (Part.ffX ||| Part.brams ||| Part.slices ||| Part.ios ||| Part.edge) s (execSliceClr t s) := by
  refine ⟨_, rfl, ?_⟩
  exact (State.sliceOp_changes _ _ _).mono

theorem execPinFuncWrite_answers (r : Req) (p : Fin 96) (v : Word32) (s : State) :
    Answers (Part.regs ||| Part.pins ||| Part.padKeep) s (execPinFuncWrite r p v s) := by
  refine ⟨_, rfl, ?_⟩
  refine Changes.ite ?_ ?_
  · exact (State.pinWrite_changes _ _ _).mono
  · exact Changes.refl _ _

theorem execPinSwitchComplete_answers (p : Fin 96) (s : State) :
    Answers (Part.regs ||| Part.pins ||| Part.padKeep) s (execPinSwitchComplete p s) := by
  refine ⟨_, rfl, ?_⟩
  refine Changes.ite ?_ ?_
  · exact Changes.refl _ _
  · extract_lets -merge -usedOnly x1
    refine Changes.have (x := x1) ((((State.keep_changes _ _).mono.then (State.clr_changes _ _)).then (State.disengage_changes _ _ _)).then (State.updConf_changes _)) fun h2 => ?_
    split
    · exact (h2.then (State.updPin_changes _ _ _)).then (State.startSwitch_changes _ _ _)
    · exact h2

theorem execGppHoldWrite_answers (r : Req) (on : Bool) (s : State) :
    Answers (Part.regs ||| Part.pins ||| Part.padKeep) s (execGppHoldWrite r on s) := by
  refine ⟨_, rfl, ?_⟩
  refine Changes.ite ?_ ?_
  · exact (State.gppHold_changes _ _).mono
  · exact Changes.refl _ _

theorem execD3hotEntry_answers (s : State) :
    Answers (Part.regs ||| Part.pins ||| Part.padKeep) s (execD3hotEntry s) := by
  refine ⟨_, rfl, ?_⟩
  exact (State.engageAll_changes _ _ _).mono

theorem execD3hotExit_answers (s : State) :
    Answers (Part.regs ||| Part.pins ||| Part.padKeep) s (execD3hotExit s) := by
  refine ⟨_, rfl, ?_⟩
  exact (State.disengageAll_changes _ _ _).mono

theorem execVccioLevelChange_answers (k : Fin 4) (level : Fin 6) (s : State) :
    Answers Part.regs s (execVccioLevelChange k level s) := by
  refine ⟨_, rfl, ?_⟩
  exact (State.wr_changes _ _ _).mono

theorem execAdcConvert_answers (ch : Fin 20) (uv : Int) (err : Fin 9) (s : State) :
    Answers Part.regs s (execAdcConvert ch uv err s) := by
  refine ⟨_, rfl, ?_⟩
  extract_lets -merge -usedOnly x1 x2
  refine Changes.ite ?_ ?_
  · exact (State.clr_changes _ _).mono
  · exact (State.wr_changes _ _ _).mono.then (State.setOn_changes _ _)

theorem execPowerOnReset_answers (s : State) :
    Answers Part.byReset s (execPowerOnReset s) := by
  refine ⟨_, rfl, ?_⟩
  exact (State.deviceReset_changes _ _ _).mono

theorem execResetN_answers (s : State) :
    Answers Part.byReset s (execResetN s) := by
  refine ⟨_, rfl, ?_⟩
  exact (State.deviceReset_changes _ _ _).mono

theorem execSoftwareDeviceReset_answers (r : Req) (stest stestDram : Bool) (key : BitVec 16) (s : State) :
    Answers Part.byReset s (execSoftwareDeviceReset r stest stestDram key s) := by
  refine ⟨_, rfl, ?_⟩
  refine Changes.ite ?_ ?_
  · exact (State.deviceReset_changes _ _ _).mono
  · exact Changes.refl _ _

theorem execResetRelease_answers (straps : BitVec 5) (s : State) :
    Answers (Part.por ||| Part.regs ||| Part.strapOver) s (execResetRelease straps s) := by
  refine ⟨_, rfl, ?_⟩
  refine Changes.ite ?_ ?_
  · exact Changes.refl _ _
  · extract_lets -merge -usedOnly x1 x2 x3
    refine Changes.have (x := x3) ?_ fun h4 => ?_
    · unfold x3
      refine Changes.then ?_ (State.wr_changes _ _ _)
      exact Changes.put (Changes.refl _ _) rfl (fun h => h) rfl rfl
    exact (h4.then (State.wr_changes _ _ _)).then (State.updSynt_changes _)

theorem execHostConfigReady_answers (s : State) :
    Answers Part.hostReady s (execHostConfigReady s) := by
  refine ⟨_, rfl, ?_⟩
  refine Changes.ite ?_ ?_
  · exact Changes.refl _ _
  · exact Changes.set_hostReady (Changes.refl _ _)

theorem execFwBootFlash_answers (dirA dirB : BitVec 512) (primary golden : Img) (s : State) :
    Answers (Part.regs ||| Part.boot) s (execFwBootFlash dirA dirB primary golden s) := by
  refine ⟨_, rfl, ?_⟩
  refine Changes.ite ?_ ?_
  · exact Changes.refl _ _
  · refine Changes.ite ?_ ?_
    · exact (State.fwVerify_changes _ _ _ _).mono
    · refine Changes.then ?_ (State.awaitFw_changes _)
      refine Changes.then ?_ (State.wr_changes _ _ _)
      exact Changes.set_boot (Changes.refl _ _)

theorem execFwLoadGo_answers (r : Req) (s : State) :
    Answers (Part.regs ||| Part.boot) s (execFwLoadGo r s) := by
  refine ⟨_, rfl, ?_⟩
  refine Changes.ite ?_ ?_
  · exact (State.setOn_changes _ _).mono.then (State.fwVerify_changes _ _ _ _)
  · exact Changes.refl _ _

theorem execFwVerifyDone_answers (s : State) :
    Answers (Part.regs ||| Part.boot) s (execFwVerifyDone s) := by
  refine ⟨_, rfl, ?_⟩
  refine Changes.ite ?_ ?_
  · exact Changes.refl _ _
  · extract_lets -merge -usedOnly x1 x2 x3 x4 x5 x6
    refine Changes.have (x := x2) ((State.wr_changes _ _ _).mono) fun h7 => ?_
    refine Changes.have (x := x3) ?_ fun h8 => ?_
    · unfold x3
      refine Changes.ite ?_ ?_
      · exact h7.then (State.wr_changes _ _ _)
      · exact h7
    refine Changes.ite ?_ ?_
    · exact Changes.set_boot h8
    · split
      · exact h8.then (State.fwVerify_changes _ _ _ _)
      · refine Changes.then ?_ (State.awaitFw_changes _)
        exact Changes.set_boot h8

theorem execFwEastVerifyDone_answers (copy : Option Img) (s : State) :
    Answers (Part.regs ||| Part.out ||| Part.heldOut ||| Part.fns ||| Part.sups ||| Part.snap ||| Part.boot) s (execFwEastVerifyDone copy s) := by
  refine ⟨_, rfl, ?_⟩
  refine Changes.ite ?_ ?_
  · exact Changes.refl _ _
  · extract_lets -merge -usedOnly x1 x2 x3 x4 x5
    refine Changes.have (x := x3) ((State.wr_changes _ _ _).mono) fun h6 => ?_
    refine Changes.ite ?_ ?_
    · refine Changes.then ?_ (State.enterSelftest_changes _)
      exact Changes.set_boot h6
    · refine Changes.ite ?_ ?_
      · exact Changes.set_boot h6
      · exact (h6.then (State.fenceSup_changes _ _ _)).then (State.enterSelftest_changes _)

theorem execSelftestDone_answers (t : SelfTest) (s : State) :
    Answers (Part.fresh ||| Part.regs ||| Part.bus ||| Part.out ||| Part.heldOut ||| Part.fns ||| Part.ctxs |||
        Part.engs ||| Part.bays ||| Part.chans ||| Part.ssgs ||| Part.seqMem ||| Part.seqUnread ||| Part.fsets |||
        Part.lmaps ||| Part.scr ||| Part.bankMem ||| Part.banks ||| Part.dram ||| Part.poison |||
        Part.startFold ||| Part.restoring ||| Part.dmcs ||| Part.trcs ||| Part.substs ||| Part.snap |||
        Part.time ||| Part.nis ||| Part.routes ||| Part.fabHeld ||| Part.bankUe) s (execSelftestDone t s) := by
  refine ⟨_, rfl, ?_⟩
  refine Changes.ite ?_ ?_
  · exact Changes.refl _ _
  · extract_lets -merge -usedOnly x1 x2 x3 x4
    refine Changes.have (x := x2) ?_ fun h5 => ?_
    · unfold x2
      refine Changes.then ?_ (State.loadMonitor_changes _ _)
      exact Changes.put (Changes.refl _ _) rfl (State.canonical_of (seqUnread := (fun _ => Table.wf_nil _)) (bankMem := (fun _ => Memory.wf_nil))) rfl rfl
    refine Changes.have (x := x3) ((h5.then (State.stestReport_changes _ _)).then (State.dramStart_changes _ _ _)) fun h6 => ?_
    refine Changes.ite ?_ ?_
    · exact h6.then (State.safeHold_changes _ _)
    · exact (h6.then (State.tolerate_changes _ _)).then (State.wr_changes _ _ _)

theorem execSelftestRefclkTimeout_answers (s : State) :
    Answers Part.regs s (execSelftestRefclkTimeout s) := by
  refine ⟨_, rfl, ?_⟩
  refine Changes.ite ?_ ?_
  · exact (State.safeHold_changes _ _).mono
  · exact Changes.refl _ _

theorem execFuseArm_answers (r : Req) (field : BitVec 8) (s : State) :
    Answers (Part.regs ||| Part.fuseArm) s (execFuseArm r field s) := by
  refine ⟨_, rfl, ?_⟩
  refine Changes.ite ?_ ?_
  · exact (State.fuseArmWrite_changes _ _).mono
  · exact Changes.refl _ _

theorem execFuseArmLapse_answers (s : State) :
    Answers (Part.regs ||| Part.fuseArm) s (execFuseArmLapse s) := by
  refine ⟨_, rfl, ?_⟩
  extract_lets -merge -usedOnly x1
  refine Changes.have (x := x1) ((State.clr_changes _ _).mono) fun h2 => ?_
  exact Changes.set_fuseArm h2

theorem execFuseProgram_answers (r : Req) (volt verified : Bool) (s : State) :
    Answers (Part.fresh ||| Part.regs ||| Part.fuses ||| Part.fuseArm) s (execFuseProgram r volt verified s) := by
  refine ⟨_, rfl, ?_⟩
  refine Changes.ite ?_ ?_
  · exact (State.fuseGo_changes _ _ _).mono
  · exact Changes.refl _ _

theorem execAttestReq_answers (r : Req) (s : State) :
    Answers (Part.regs ||| Part.attest) s (execAttestReq r s) := by
  refine ⟨_, rfl, ?_⟩
  refine Changes.ite ?_ ?_
  · exact (State.attReq_changes _).mono
  · exact Changes.refl _ _

theorem execAttestDone_answers (unstable : Bool) (s : State) :
    Answers (Part.fresh ||| Part.regs ||| Part.attest ||| Part.report) s (execAttestDone unstable s) := by
  refine ⟨_, rfl, ?_⟩
  split
  · exact Changes.refl _ _
  · extract_lets -merge -usedOnly x1 x2 x3 x4 x5
    refine Changes.have (x := x1.2) ?_ fun h6 => ?_
    · unfold x1
      refine Changes.ite_snd ?_ ?_
      · exact (State.free_changes _ _).mono
      · refine Changes.mk_snd ?_
        exact Changes.refl _ _
    refine Changes.have (x := x2.2) ?_ fun h7 => ?_
    · unfold x2
      refine Changes.ite_snd ?_ ?_
      · exact h6.then (State.free_changes _ _)
      · refine Changes.mk_snd ?_
        exact h6
    refine Changes.have (x := x3) h7 fun h8 => ?_
    refine Changes.have (x := x5) (((h8.then (State.clr_changes _ _)).then (State.clr_changes _ _)).then (State.setOn_changes _ _)) fun h9 => ?_
    exact Changes.put h9 rfl (fun h => h) rfl rfl

theorem execAvsStep_answers (target : Nat) (ack : Bool) (s : State) :
    Answers Part.vcore s (execAvsStep target ack s) := by
  refine ⟨_, rfl, ?_⟩
  refine Changes.ite ?_ ?_
  · exact Changes.refl _ _
  · extract_lets -merge -usedOnly x1
    exact Changes.set_vcore (Changes.refl _ _)

theorem execFlashBoot_answers (ptrA ptrB : BitVec 512) (s : State) :
    Answers (Part.regs ||| Part.load) s (execFlashBoot ptrA ptrB s) := by
  refine ⟨_, rfl, ?_⟩
  refine Changes.ite ?_ ?_
  · exact Changes.refl _ _
  · refine Changes.ite ?_ ?_
    · exact (State.startLoad_changes _ _ _).mono
    · exact ((State.wr_changes _ _ _).mono.then (State.idlePhase_changes _)).then (State.wr_changes _ _ _)

theorem execFlashPrimary_answers (r : Req) (ptrA ptrB : BitVec 512) (s : State) :
    Answers (Part.regs ||| Part.load) s (execFlashPrimary r ptrA ptrB s) := by
  refine ⟨_, rfl, ?_⟩
  refine Changes.ite ?_ ?_
  · exact (State.flashLoad_changes _ _ _ _ _).mono
  · exact Changes.refl _ _

theorem execFlashGolden_answers (r : Req) (ptrA ptrB : BitVec 512) (s : State) :
    Answers (Part.regs ||| Part.load) s (execFlashGolden r ptrA ptrB s) := by
  refine ⟨_, rfl, ?_⟩
  refine Changes.ite ?_ ?_
  · exact (State.flashLoad_changes _ _ _ _ _).mono
  · exact Changes.refl _ _

theorem execCfgAbort_answers (r : Req) (s : State) :
    Answers (Part.regs ||| Part.bus ||| Part.dmcs ||| Part.nis ||| Part.fcfg ||| Part.bramInit ||| Part.load |||
        Part.frameCrcs ||| Part.prnExcl) s (execCfgAbort r s) := by
  refine ⟨_, rfl, ?_⟩
  refine Changes.ite ?_ ?_
  · exact (State.failLoad_changes _ _).mono
  · exact Changes.refl _ _

theorem execFlashCommandTimeout_answers (s : State) :
    Answers (Part.regs ||| Part.bus ||| Part.dmcs ||| Part.nis ||| Part.fcfg ||| Part.bramInit ||| Part.load |||
        Part.frameCrcs ||| Part.prnExcl) s (execFlashCommandTimeout s) := by
  refine ⟨_, rfl, ?_⟩
  refine Changes.ite ?_ ?_
  · exact (State.failLoad_changes _ _).mono
  · exact Changes.refl _ _

theorem execCfgRingEntry_answers (e : BitVec 128) (data : Nat) (s : State) :
    Answers (Part.regs ||| Part.bus ||| Part.dmcs ||| Part.nis ||| Part.fcfg ||| Part.bramInit ||| Part.load |||
        Part.frameCrcs ||| Part.prnExcl) s (execCfgRingEntry e data s) := by
  refine ⟨_, rfl, ?_⟩
  extract_lets -merge -usedOnly x1 x2 x3 x4 x5 x6 x7
  refine Changes.have (x := x5) ?_ fun h8 => ?_
  · unfold x5
    refine Changes.ite ?_ ?_
    · exact (State.failLoad_changes _ _).mono
    · exact Changes.refl _ _
  refine Changes.have (x := x6) ((h8.then (State.ringNext_changes _)).then (State.startLoad_changes _ _ _)) fun h9 => ?_
  refine Changes.have (x := x7) ?_ fun h10 => ?_
  · unfold x7
    refine Changes.ite ?_ ?_
    · exact h9
    · exact h9.then (State.wr_changes _ _ _)
  refine Changes.ite ?_ ?_
  · exact Changes.refl _ _
  · refine Changes.ite ?_ ?_
    · exact Changes.refl _ _
    · refine Changes.ite ?_ ?_
      · refine Changes.ite ?_ ?_
        · exact h8
        · exact h10.then (State.ringBytes_changes _ _ _ _)
      · refine Changes.ite ?_ ?_
        · exact (State.ringNext_changes _).mono.then (State.ringBytes_changes _ _ _ _)
        · exact (State.ringNext_changes _).mono.then (State.count_changes _ _ _)

theorem execCfgStreamTimeout_answers (s : State) :
    Answers (Part.regs ||| Part.bus ||| Part.dmcs ||| Part.nis ||| Part.fcfg ||| Part.bramInit ||| Part.load |||
        Part.frameCrcs ||| Part.prnExcl) s (execCfgStreamTimeout s) := by
  refine ⟨_, rfl, ?_⟩
  refine Changes.ite ?_ ?_
  · exact (State.failLoad_changes _ _).mono
  · exact Changes.refl _ _

theorem execSignatureVerified_answers (flash : Img) (s : State) :
    Answers (Part.regs ||| Part.bus ||| Part.out ||| Part.heldOut ||| Part.fns ||| Part.engs ||| Part.bays |||
        Part.ports ||| Part.bankMem ||| Part.banks ||| Part.dmcs ||| Part.snap ||| Part.nis ||| Part.flights |||
        Part.dirc ||| Part.bankJoins ||| Part.homes ||| Part.bankUe ||| Part.fcfg ||| Part.bramInit |||
        Part.bramX ||| Part.ffX ||| Part.brams ||| Part.slices ||| Part.ios ||| Part.load ||| Part.cfgMeas |||
        Part.pins ||| Part.padKeep ||| Part.frameCrcs ||| Part.prnExcl) s (execSignatureVerified flash s) := by
  refine ⟨_, rfl, ?_⟩
  refine Changes.ite ?_ ?_
  · exact Changes.refl _ _
  · extract_lets -merge -usedOnly x1 x2 x3 x4 x5 x6 x7 x8
    refine Changes.have (x := x2) ?_ fun h9 => ?_
    · unfold x2
      refine Changes.ite ?_ ?_
      · exact Changes.refl _ _
      · exact Changes.set_load (Changes.refl _ _)
    refine Changes.have (x := x6) ?_ fun h10 => ?_
    · unfold x6
      exact Changes.set_load h9
    refine Changes.have (x := x7) (h10.then (State.wr_changes _ _ _)) fun h11 => ?_
    refine Changes.have (x := x8) (((h11.then (State.fenceQuarters_changes _ _ _)).then (State.setOn_changes _ _)).then (State.setOn_changes _ _)) fun h12 => ?_
    split
    · exact h9
    · refine Changes.ite ?_ ?_
      · exact h11.then (State.fenceQuarters_changes _ _ _)
      · exact Changes.set_cfgMeas h12
    · exact h9.then (State.failLoad_changes _ _)

theorem execSegmentWrite_answers (pinHz : Nat) (s : State) :
    Answers (Part.regs ||| Part.bus ||| Part.out ||| Part.heldOut ||| Part.fns ||| Part.engs ||| Part.bays |||
        Part.ports ||| Part.bankMem ||| Part.banks ||| Part.dmcs ||| Part.snap ||| Part.nis ||| Part.flights |||
        Part.dirc ||| Part.bankJoins ||| Part.homes ||| Part.bankUe ||| Part.fcfg ||| Part.bramInit |||
        Part.ghWait ||| Part.fcgs ||| Part.load ||| Part.cfgMeas ||| Part.prChain ||| Part.pins |||
        Part.padKeep ||| Part.frameCrcs ||| Part.prnExcl) s (execSegmentWrite pinHz s) := by
  refine ⟨_, rfl, ?_⟩
  extract_lets -merge -usedOnly x1 x2 x3 x4 x5 x6 x7 x8
  refine Changes.ite ?_ ?_
  · exact Changes.refl _ _
  · refine Changes.ite ?_ ?_
    · exact (State.failLoad_changes _ _).mono
    · refine Changes.ite ?_ ?_
      · refine Changes.ite ?_ ?_
        · exact (State.failLoad_changes _ _).mono
        · exact Changes.refl _ _
      · refine Changes.ite ?_ ?_
        · exact (State.failLoad_changes _ _).mono
        · refine Changes.ite ?_ ?_
          · exact (State.failLoad_changes _ _).mono
          · split
            · exact (State.failLoad_changes _ _).mono
            · extract_lets -merge -usedOnly x9 x10 x11 x12
              refine Changes.have (x := x9.2) ?_ fun h13 => ?_
              · unfold x9
                exact (State.applyRecs_changes _ _ _ _ _).mono
              refine Changes.have (x := x10) h13 fun h14 => ?_
              refine Changes.have (x := x12) ?_ fun h15 => ?_
              · unfold x12
                exact Changes.set_load h14
              refine Changes.ite ?_ ?_
              · exact h15.then (State.failLoad_changes _ _)
              · refine Changes.ite ?_ ?_
                · exact h15
                · refine Changes.ite ?_ ?_
                  · exact h15.then (State.failLoad_changes _ _)
                  · exact h15.then (State.loadDone_changes _)

theorem execDoneQualified_answers (high : Bool) (s : State) :
    Answers (Part.regs ||| Part.chans ||| Part.drives ||| Part.load) s (execDoneQualified high s) := by
  refine ⟨_, rfl, ?_⟩
  refine Changes.ite ?_ ?_
  · exact (State.setOn_changes _ _).mono.then (State.mayDrive_changes _)
  · refine Changes.ite ?_ ?_
    · exact Changes.refl _ _
    · extract_lets -merge -usedOnly x1 x2
      refine Changes.have (x := x1) ((State.wr_changes _ _ _).mono) fun h3 => ?_
      exact Changes.set_load h3

theorem execStartUp_answers (late : Bool) (s : State) :
    Answers (Part.regs ||| Part.bays ||| Part.chans ||| Part.ports ||| Part.drives ||| Part.ghWait ||| Part.load |||
        Part.svn ||| Part.pins ||| Part.padKeep) s (execStartUp late s) := by
  refine ⟨_, rfl, ?_⟩
  extract_lets -merge -usedOnly x1 x2 x3 x4 x5 x6
  refine Changes.have (x := x2) ((State.clr_changes _ _).mono.then (State.clr_changes _ _)) fun h2 => ?_
  refine Changes.have (x := x3)
    ((h2.then (State.applyGpp_changes _ _)).then (State.releaseQuarters_changes _ _)) fun h3 => ?_
  refine Changes.have (x := x5) (Changes.then (Changes.set_load h3) (State.wr_changes _ _ _)) fun h5 => ?_
  refine Changes.have (x := x6)
    (((h5.then (State.wr_changes _ _ _)).then (State.raiseSvn_changes _)).then (State.updDegraded_changes _)) fun h6 => ?_
  exact Changes.ite (Changes.refl _ _) (Changes.ite (Changes.ite (h6.then (State.mayDrive_changes _)) h6) h5)

theorem execDoneDrop_answers (s : State) :
    Answers Part.regs s (execDoneDrop s) := by
  refine ⟨_, rfl, ?_⟩
  refine Changes.ite ?_ ?_
  · exact (State.setOn_changes _ _).mono.then (State.clr_changes _ _)
  · exact Changes.refl _ _

theorem execPrunerFrameCheck_answers (h : Fin 2) (fa : Word32) (mismatch own other ok mine : Bool) (s : State) :
    Answers (Part.regs ||| Part.out ||| Part.heldOut ||| Part.fns ||| Part.snap ||| Part.fcfg ||| Part.bramInit |||
        Part.prnExcl) s (execPrunerFrameCheck h fa mismatch own other ok mine s) := by
  refine ⟨_, rfl, ?_⟩
  extract_lets -merge -usedOnly x1 x2
  refine Changes.have (x := x2.2) ?_ fun h3 => ?_
  · unfold x2
    exact (State.repair_changes _ _ _ _ _ _).mono
  refine Changes.ite ?_ ?_
  · exact Changes.refl _ _
  · refine Changes.ite ?_ ?_
    · exact h3.then (State.prunerOut_changes _ _)
    · exact h3

theorem execPrunerCrossCheck_answers (h : Fin 2) (fa : Word32) (mismatch own other ok : Bool) (s : State) :
    Answers (Part.regs ||| Part.out ||| Part.heldOut ||| Part.fns ||| Part.snap ||| Part.fcfg ||| Part.bramInit |||
        Part.prnExcl) s (execPrunerCrossCheck h fa mismatch own other ok s) := by
  refine ⟨_, rfl, ?_⟩
  extract_lets -merge -usedOnly x1 x2 x3
  refine Changes.have (x := x3.2) ?_ fun h4 => ?_
  · unfold x3
    exact (State.repair_changes _ _ _ _ _ _).mono
  refine Changes.ite ?_ ?_
  · exact Changes.refl _ _
  · refine Changes.ite ?_ ?_
    · exact h4.then (State.prunerOut_changes _ _)
    · exact h4

theorem execPrunerScrubStep_answers (h : Fin 2) (x : Scrub) (s : State) :
    Answers (Part.fresh ||| Part.regs ||| Part.ctxs ||| Part.banks ||| Part.dram ||| Part.poison ||| Part.dmcs |||
        Part.bramX) s (execPrunerScrubStep h x s) := by
  refine ⟨_, rfl, ?_⟩
  refine Changes.ite ?_ ?_
  · exact (State.scrub_changes _ _ _).mono
  · exact Changes.refl _ _

theorem execChallenge_answers (s : State) :
    Answers (Part.fresh ||| Part.regs ||| Part.hj) s (execChallenge s) := by
  refine ⟨_, rfl, ?_⟩
  refine Changes.ite ?_ ?_
  · exact Changes.refl _ _
  · refine Changes.ite ?_ ?_
    · exact (State.wr_changes _ _ _).mono
    · extract_lets -merge -usedOnly x1
      refine Changes.have (x := x1.2) ?_ fun h2 => ?_
      · unfold x1
        exact (State.free_changes _ _).mono
      exact h2.then (State.updHj_changes _ _)

theorem execVerify_answers (s : State) :
    Answers (Part.regs ||| Part.hj) s (execVerify s) := by
  refine ⟨_, rfl, ?_⟩
  refine Changes.ite ?_ ?_
  · exact Changes.refl _ _
  · extract_lets -merge -usedOnly x1
    exact (State.setOn_changes _ _).mono.then (State.updHj_changes _ _)

theorem execAuthVerifyDone_answers (s : State) :
    Answers (Part.regs ||| Part.hj) s (execAuthVerifyDone s) := by
  refine ⟨_, rfl, ?_⟩
  refine Changes.ite ?_ ?_
  · exact Changes.refl _ _
  · extract_lets -merge -usedOnly x1 x2 x3 x4 x5
    clear_value x1
    refine Changes.have (x := x2) ?_ fun h6 => ?_
    · unfold x2
      exact (State.clr_changes _ _).mono.then (State.updHj_changes _ _)
    clear_value x2 x3 x4
    split
    · exact h6.then (State.authFail_changes _ _)
    · split
      · exact h6.then (State.authFail_changes _ _)
      · refine Changes.ite ?_ ?_
        · exact h6.then (State.authFail_changes _ _)
        · refine Changes.ite ?_ ?_
          · exact h6.then (State.authFail_changes _ _)
          · exact (((h6.then (State.wr_changes _ _ _)).then (State.wr_changes _ _ _)).then (State.wr_changes _ _ _)).then (State.updHj_changes _ _)

theorem execLogout_answers (s : State) :
    Answers Part.regs s (execLogout s) := by
  refine ⟨_, rfl, ?_⟩
  refine Changes.ite ?_ ?_
  · exact Changes.refl _ _
  · exact (State.clr_changes _ _).mono

theorem execDbgHalt_answers (n : Fin 104) (s : State) :
    Answers (Part.regs ||| Part.engs) s (execDbgHalt n s) := by
  refine ⟨_, rfl, ?_⟩
  refine Changes.ite ?_ ?_
  · exact Changes.refl _ _
  · refine Changes.ite ?_ ?_
    · exact (State.setOn_changes _ _).mono
    · refine Changes.ite ?_ ?_
      · exact (State.debugRequest_changes _ _ _).mono
      · exact Changes.refl _ _

theorem execDbgResume_answers (n : Fin 104) (s : State) :
    Answers (Part.regs ||| Part.engs) s (execDbgResume n s) := by
  refine ⟨_, rfl, ?_⟩
  exact (State.monAsk_changes _ _ _).mono

theorem execDbgStep_answers (n : Fin 104) (s : State) :
    Answers (Part.regs ||| Part.engs) s (execDbgStep n s) := by
  refine ⟨_, rfl, ?_⟩
  exact (State.monAsk_changes _ _ _).mono

theorem execDbgForce_answers (n : Fin 104) (s : State) :
    Answers Part.engs s (execDbgForce n s) := by
  refine ⟨_, rfl, ?_⟩
  refine Changes.ite ?_ ?_
  · refine Changes.each ?_ ?_
    · exact Changes.refl _ _
    · intro t1 a1 h1
      exact h1.then (State.updEng_changes _ _ _)
  · exact Changes.refl _ _

theorem execDebugLockDefer_answers (n : Fin 104) (s : State) :
    Answers Part.regs s (execDebugLockDefer n s) := by
  refine ⟨_, rfl, ?_⟩
  refine Changes.ite ?_ ?_
  · exact (State.wrGang_changes _ _ _ _).mono
  · exact Changes.refl _ _

theorem execMonitorEntry_answers (n : Fin 104) (w : Nat) (s : State) :
    Answers (Part.regs ||| Part.ctxs ||| Part.engs ||| Part.chans ||| Part.ssgs ||| Part.bankMem ||| Part.snap) s (execMonitorEntry n w s) := by
  refine ⟨_, rfl, ?_⟩
  refine Changes.ite ?_ ?_
  · exact Changes.refl _ _
  · extract_lets -merge -usedOnly x1 x2 x3 x4 x5 x6
    refine Changes.have (x := x3) ((State.endHold_changes _ _ _).mono.then (State.holdFor_changes _ _ _)) fun h7 => ?_
    refine Changes.have (x := x4) ?_ fun h8 => ?_
    · unfold x4
      refine Changes.each ?_ ?_
      · exact h7
      · intro t9 a9 h9
        extract_lets -merge -usedOnly x10
        refine Changes.have (x := x10) ((h9.then (State.wr_changes _ _ _)).then (State.updEng_changes _ _ _)) fun h11 => ?_
        exact ((h11.then (State.clr_changes _ _)).then (State.clr_changes _ _)).then (State.wr_changes _ _ _)
    refine Changes.have (x := x5) (h8.then (State.updEng_changes _ _ _)) fun h12 => ?_
    refine Changes.have (x := x6) (((h12.then (State.saveGang_changes _ _ _)).then (State.toMon_changes _ _)).then (State.raiseSnap_changes _ _)) fun h13 => ?_
    split
    · split
      · exact h13.then (State.monLeave_changes _ _ _)
      · exact h13
    · exact h13

theorem execStimulusWrite_answers (r : Option Req) (n : Fin 104) (off : Fin 256) (size : Fin 65) (v : Desc) (s : State) :
    Answers (Part.regs ||| Part.bus ||| Part.dmcs ||| Part.trcs ||| Part.nis) s (execStimulusWrite r n off size v s) := by
  refine ⟨_, rfl, ?_⟩
  split
  · refine Changes.ite ?_ ?_
    · exact (State.stimWrite_changes _ _ _ _ _ _).mono
    · exact Changes.refl _ _
  · refine Changes.ite ?_ ?_
    · exact Changes.refl _ _
    · exact (State.stimWrite_changes _ _ _ _ _ _).mono

theorem execTraceClr_answers (r : Req) (h : Fin 2) (s : State) :
    Answers (Part.regs ||| Part.bus ||| Part.dmcs ||| Part.trcs ||| Part.nis) s (execTraceClr r h s) := by
  refine ⟨_, rfl, ?_⟩
  refine Changes.ite ?_ ?_
  · exact (State.traceClear_changes _ _).mono
  · exact Changes.refl _ _

theorem execRegisterWrite_answers (r : Req) (a : RegWord) (v : Word32) (s : State) :
    Answers (Part.byReset ||| Part.out ||| Part.fuses) s (execRegisterWrite r a v s) := by
  refine ⟨_, rfl, ?_⟩
  refine Changes.ite ?_ ?_
  · exact Changes.refl _ _
  · exact (State.regWrite_changes _ _ _ _).mono

theorem execRcRead_answers (r : Req) (a : RegWord) (s : State) :
    Answers (Part.fresh ||| Part.regs ||| Part.latches ||| Part.bus ||| Part.ctxs ||| Part.dram ||| Part.poison |||
        Part.dmcs ||| Part.nis) s (execRcRead r a s) := by
  refine ⟨_, rfl, ?_⟩
  refine Changes.ite ?_ ?_
  · exact Changes.refl _ _
  · exact (State.busRead_changes _ _ _).mono

theorem execPairLoRead_answers (r : Req) (a : RegWord) (s : State) :
    Answers (Part.fresh ||| Part.regs ||| Part.latches ||| Part.bus ||| Part.ctxs ||| Part.dram ||| Part.poison |||
        Part.dmcs ||| Part.nis) s (execPairLoRead r a s) := by
  refine ⟨_, rfl, ?_⟩
  refine Changes.ite ?_ ?_
  · exact (State.busRead_changes _ _ _).mono
  · exact Changes.refl _ _

theorem execPairHiRead_answers (r : Req) (a : RegWord) (s : State) :
    Answers (Part.fresh ||| Part.regs ||| Part.latches ||| Part.bus ||| Part.ctxs ||| Part.dram ||| Part.poison |||
        Part.dmcs ||| Part.nis) s (execPairHiRead r a s) := by
  refine ⟨_, rfl, ?_⟩
  refine Changes.ite ?_ ?_
  · exact (State.busRead_changes _ _ _).mono
  · exact Changes.refl _ _

theorem execPairLoWrite_answers (r : Req) (a : RegWord) (v : Word32) (s : State) :
    Answers (Part.byReset ||| Part.out ||| Part.fuses) s (execPairLoWrite r a v s) := by
  refine ⟨_, rfl, ?_⟩
  refine Changes.ite ?_ ?_
  · exact (State.regWrite_changes _ _ _ _).mono
  · exact Changes.refl _ _

theorem execPairHiWrite_answers (r : Req) (a : RegWord) (v : Word32) (s : State) :
    Answers (Part.byReset ||| Part.out ||| Part.fuses) s (execPairHiWrite r a v s) := by
  refine ⟨_, rfl, ?_⟩
  refine Changes.ite ?_ ?_
  · exact (State.regWrite_changes _ _ _ _).mono
  · exact Changes.refl _ _

theorem execBehaviourLevelWrite_answers (r : Req) (level : Fin 16) (s : State) :
    Answers Part.regs s (execBehaviourLevelWrite r level s) := by
  refine ⟨_, rfl, ?_⟩
  refine Changes.ite ?_ ?_
  · exact (State.behaviourWrite_changes _ _).mono
  · exact Changes.refl _ _

theorem execSetupRegisterImage_answers (n : Fin 64) (img : Nat) (s : State) :
    Answers (Part.byReset ||| Part.out ||| Part.fuses) s (execSetupRegisterImage n img s) := by
  refine ⟨_, rfl, ?_⟩
  split
  · exact (State.runImage_changes _ _ _ _ _ _).mono
  · exact Changes.refl _ _

theorem execHostReadError_answers (x : HostRead) (s : State) :
    Answers (Part.byReset ||| Part.out ||| Part.fuses) s (execHostReadError x s) := by
  refine ⟨_, rfl, ?_⟩
  split
  · refine Changes.ite ?_ ?_
    · exact (State.dmaErr_changes _ _).mono
    · exact Changes.refl _ _
  · refine Changes.ite ?_ ?_
    · exact Changes.refl _ _
    · extract_lets -merge -usedOnly x1 x2 x3
      refine Changes.have (x := x1) ((State.dmaErr_changes _ _).mono) fun h4 => ?_
      refine Changes.have (x := x3) (h4.then (State.placeWaiting_changes _ _)) fun h5 => ?_
      refine Changes.ite ?_ ?_
      · exact (h5.then (State.dropEvent_changes _ _)).then (State.placeWaiting_changes _ _)
      · exact h5
  · refine Changes.ite ?_ ?_
    · exact (State.dmaErr_changes _ _).mono.then (State.haltCtx_changes _ _ _)
    · exact Changes.refl _ _
  · refine Changes.ite ?_ ?_
    · exact (State.dmaErr_changes _ _).mono.then (State.haltCtx_changes _ _ _)
    · exact Changes.refl _ _
  · refine Changes.ite ?_ ?_
    · exact (State.dmaErr_changes _ _).mono.then (State.haltCtx_changes _ _ _)
    · exact Changes.refl _ _
  · split
    · exact (State.dmaErr_changes _ _).mono.then (State.imageError_changes _ _ _ _ _)
    · exact Changes.refl _ _
  · refine Changes.ite ?_ ?_
    · exact (State.dmaErr_changes _ _).mono.then (State.failLoad_changes _ _)
    · exact Changes.refl _ _

theorem execRegRd_answers (id : Fin 256) (s : State) :
    Answers (Part.fresh ||| Part.regs ||| Part.latches ||| Part.bus ||| Part.ctxs ||| Part.dram ||| Part.poison |||
        Part.dmcs ||| Part.nis) s (execRegRd id s) := by
  refine ⟨_, rfl, ?_⟩
  refine Changes.onRx ?_ ?_
  · exact Changes.refl _ _
  · intro p1 t1 h1
    extract_lets -merge -usedOnly x2
    split
    · exact h1.then (State.nack_changes _ _ _ _)
    · refine Changes.ite ?_ ?_
      · exact (State.wakeDram_changes _ _).mono
      · extract_lets -merge -usedOnly x3
        refine Changes.have (x := x3.2) ?_ fun h4 => ?_
        · unfold x3
          exact h1.then (State.regRead_changes _ _ _ _)
        exact h4.then (State.answer_changes _ _ _ _ _ _ _)

theorem execRegWr_answers (id : Fin 256) (s : State) :
    Answers (Part.byReset ||| Part.out ||| Part.fuses) s (execRegWr id s) := by
  refine ⟨_, rfl, ?_⟩
  refine Changes.onRx ?_ ?_
  · exact Changes.refl _ _
  · intro p1 t1 h1
    extract_lets -merge -usedOnly x2 x3
    refine Changes.ite ?_ ?_
    · split
      · refine Changes.ite ?_ ?_
        · exact ((h1.then (State.wr_changes _ _ _)).then (State.wr_changes _ _ _)).then (State.answer_changes _ _ _ _ _ _ _)
        · exact h1.then (State.nack_changes _ _ _ _)
      · exact h1.then (State.nack_changes _ _ _ _)
    · split
      · exact h1.then (State.nack_changes _ _ _ _)
      · exact (h1.then (State.regWrite_changes _ _ _ _)).then (State.answer_changes _ _ _ _ _ _ _)

theorem execHjelzRead_answers (h : Header) (slow : Option Nat) (s : State) :
    Answers (Part.fresh ||| Part.regs ||| Part.latches ||| Part.bus ||| Part.ctxs ||| Part.engs ||| Part.bankMem |||
        Part.banks ||| Part.dram ||| Part.poison ||| Part.dmcs ||| Part.trcs ||| Part.nis ||| Part.dirc |||
        Part.bankJoins ||| Part.bankUe ||| Part.hj) s (execHjelzRead h slow s) := by
  refine ⟨_, rfl, ?_⟩
  refine Changes.ite (Changes.refl _ _) ?_
  split
  · next t ht => exact (State.portBar_changes ht).mono
  · exact (State.portReads_changes _ _ _ _ _ _ _ _).mono

theorem execHjelzWrite_answers (h : Header) (s : State) : Answers (Part.regs ||| Part.hj) s (execHjelzWrite h s) := by
  refine ⟨_, rfl, ?_⟩
  refine Changes.ite (Changes.refl _ _) ?_
  split
  · next t ht => exact (State.portBar_changes ht).mono
  · exact ((State.portStatus_changes _ _).mono).then (State.updHj_changes _ _)

theorem execHjelzWriteData_answers (data : List Word32) (crc : Byte) (slow : Option Nat) (s : State) :
    Answers (Part.byReset ||| Part.out ||| Part.fuses) s (execHjelzWriteData data crc slow s) := by
  refine ⟨_, rfl, ?_⟩
  split
  · exact Changes.refl _ _
  · refine Changes.ite ?_ ?_
    · exact Changes.refl _ _
    · extract_lets -merge -usedOnly x1 x2
      refine Changes.have (x := x1) ((State.updHj_changes _ _).mono) fun h3 => ?_
      refine Changes.ite ?_ ?_
      · exact (h3.then (State.count_changes _ _ _)).then (State.portStatus_changes _ _)
      · exact h3.then (State.portWrites_changes _ _ _ _ _)

theorem execHjelzAccessTimeout_answers (s : State) :
    Answers (Part.byReset ||| Part.out ||| Part.fuses) s (execHjelzAccessTimeout s) := by
  refine ⟨_, rfl, ?_⟩
  split
  · exact Changes.refl _ _
  · extract_lets -merge -usedOnly x1 x2
    refine Changes.have (x := x1) ((State.portError_changes _ _ _).mono) fun h3 => ?_
    refine Changes.have (x := x2.2) ?_ fun h4 => ?_
    · unfold x2
      exact h3.then (State.free_changes _ _)
    split
    · exact h3
    · refine Changes.ite ?_ ?_
      · exact h4.then (State.portWriteWord_changes _ _ _ _)
      · exact h4

theorem execHjelzPacketGap_answers (s : State) :
    Answers Part.hj s (execHjelzPacketGap s) := by
  refine ⟨_, rfl, ?_⟩
  exact (State.updHj_changes _ _).mono

theorem execHjelzLineReset_answers (s : State) :
    Answers Part.hj s (execHjelzLineReset s) := by
  refine ⟨_, rfl, ?_⟩
  exact (State.updHj_changes _ _).mono

theorem execHjelzHeaderRefused_answers (h : Header) (s : State) :
    Answers (Part.regs ||| Part.hj) s (execHjelzHeaderRefused h s) := by
  refine ⟨_, rfl, ?_⟩
  refine Changes.ite ?_ ?_
  · exact Changes.refl _ _
  · extract_lets -merge -usedOnly x1
    refine Changes.have (x := x1) ((State.updHj_changes _ _).mono) fun h2 => ?_
    refine Changes.ite ?_ ?_
    · exact h2.then (State.count_changes _ _ _)
    · refine Changes.ite ?_ ?_
      · exact h2
      · exact Changes.refl _ _

/-! ## Every step -/

/-- Every part of State but the queue of waiting commands. -/
abbrev Part.run : Nat := 2 ^ 88 - 1 - Part.pending

/-- Every command answers a next state with the same queue, canonical tables kept and fuses only gained. -/
theorem exec_answers (c : Instr) (s : State) : Answers Part.run s (exec c s) := by
  cases c with
  | registerWrite r a v => exact (execRegisterWrite_answers r a v s).mono
  | rcRead r a => exact (execRcRead_answers r a s).mono
  | pairLoRead r a => exact (execPairLoRead_answers r a s).mono
  | pairHiRead r a => exact (execPairHiRead_answers r a s).mono
  | pairLoWrite r a v => exact (execPairLoWrite_answers r a v s).mono
  | pairHiWrite r a v => exact (execPairHiWrite_answers r a v s).mono
  | behaviourLevelWrite r level => exact (execBehaviourLevelWrite_answers r level s).mono
  | eclkApply r h => exact (execEclkApply_answers r h s).mono
  | eclkApplyCancel r h => exact (execEclkApplyCancel_answers r h s).mono
  | eclkApplyTimeout h => exact (execEclkApplyTimeout_answers h s).mono
  | eclkAlignMoment h => exact (execEclkAlignMoment_answers h s).mono
  | eclkRelock h => exact (execEclkRelock_answers h s).mono
  | eclkLockLoss h => exact (execEclkLockLoss_answers h s).mono
  | refclkLoss => exact (execRefclkLoss_answers s).mono
  | refclkReturn => exact (execRefclkReturn_answers s).mono
  | agentFence a c more => exact (execAgentFence_answers a c more s).mono
  | agentReset a c more => exact (execAgentReset_answers a c more s).mono
  | agentConfigure a c more => exact (execAgentConfigure_answers a c more s).mono
  | agentCalibrate a c more => exact (execAgentCalibrate_answers a c more s).mono
  | hostReadError x => exact (execHostReadError_answers x s).mono
  | linkDown => exact (execLinkDown_answers s).mono
  | linkUp rate width flit => exact (execLinkUp_answers rate width flit s).mono
  | perst => exact (execPerst_answers s).mono
  | hotReset => exact (execHotReset_answers s).mono
  | flr f => exact (execFlr_answers f s).mono
  | d3hotEntry => exact (execD3hotEntry_answers s).mono
  | fnEnable f evci => exact (execFnEnable_answers f evci s).mono
  | contextStartFresh n => exact (execContextStartFresh_answers n s).mono
  | contextReconcile n entry db sq cq => exact (execContextReconcile_answers n entry db sq cq s).mono
  | contextDisable n => exact (execContextDisable_answers n s).mono
  | doorbellPoll f summary evci recs => exact (execDoorbellPoll_answers f summary evci recs s).mono
  | doorbellFullScan f recs => exact (execDoorbellFullScan_answers f recs s).mono
  | descriptorAccept n d => exact (execDescriptorAccept_answers n d s).mono
  | acceptBatch n => exact (execAcceptBatch_answers n s).mono
  | acceptReadbackDone n => exact (execAcceptReadbackDone_answers n s).mono
  | jobDispatch n d => exact (execJobDispatch_answers n d s).mono
  | pattern n => exact (execPattern_answers n s).mono
  | setupSequenceMemory n img => exact (execSetupSequenceMemory_answers n img s).mono
  | setupTimingSets n img => exact (execSetupTimingSets_answers n img s).mono
  | setupLaneMaps n img => exact (execSetupLaneMaps_answers n img s).mono
  | setupPinFunctionSets n img => exact (execSetupPinFunctionSets_answers n img s).mono
  | setupScrambleTable n img => exact (execSetupScrambleTable_answers n img s).mono
  | setupVectorSwitchSelections n img => exact (execSetupVectorSwitchSelections_answers n img s).mono
  | setupRegisterImage n img => exact (execSetupRegisterImage_answers n img s).mono
  | setupDeferredWrite n img => exact (execSetupDeferredWrite_answers n img s).mono
  | calibrateFullChannel n => exact (execCalibrateFullChannel_answers n s).mono
  | calibrateTemperatureUpdate n => exact (execCalibrateTemperatureUpdate_answers n s).mono
  | calibrateCompareLatency n meas => exact (execCalibrateCompareLatency_answers n meas s).mono
  | calibrateDramRetrain n outs => exact (execCalibrateDramRetrain_answers n outs s).mono
  | nop n => exact (execNop_answers n s).mono
  | abort n => exact (execAbort_answers n s).mono
  | pause n => exact (execPause_answers n s).mono
  | resume n => exact (execResume_answers n s).mono
  | rearm n => exact (execRearm_answers n s).mono
  | completionCommit n => exact (execCompletionCommit_answers n s).mono
  | evciReread f evci => exact (execEvciReread_answers f evci s).mono
  | engMapWrite r n le => exact (execEngMapWrite_answers r n le s).mono
  | seqModeChange r split => exact (execSeqModeChange_answers r split s).mono
  | seqCopyDone ceW ueW ueBoth => exact (execSeqCopyDone_answers ceW ueW ueBoth s).mono
  | seqWindowHold r h e w v => exact (execSeqWindowHold_answers r h e w v s).mono
  | seqWindowCommit r h e v => exact (execSeqWindowCommit_answers r h e v s).mono
  | seqFillComplete n w outs => exact (execSeqFillComplete_answers n w outs s).mono
  | seqSpineFillTimeout n w k => exact (execSeqSpineFillTimeout_answers n w k s).mono
  | preloadDone n outs => exact (execPreloadDone_answers n outs s).mono
  | cacheInvalidate r n => exact (execCacheInvalidate_answers r n s).mono
  | cacheInvalidateDone n => exact (execCacheInvalidateDone_answers n s).mono
  | engIrqWrite r n v => exact (execEngIrqWrite_answers r n v s).mono
  | predictorFlush r n => exact (execPredictorFlush_answers r n s).mono
  | next n w => exact (execNext_answers n w s).mono
  | jmp n w => exact (execJmp_answers n w s).mono
  | rep n w => exact (execRep_answers n w s).mono
  | mwait n w => exact (execMwait_answers n w s).mono
  | halt n w => exact (execHalt_answers n w s).mono
  | haltDrainDone n => exact (execHaltDrainDone_answers n s).mono
  | pauseOpcode n w => exact (execPauseOpcode_answers n w s).mono
  | sync n w => exact (execSync_answers n w s).mono
  | syncRelease c h ws => exact (execSyncRelease_answers c h ws s).mono
  | lock n w => exact (execLock_answers n w s).mono
  | lockResponse n w => exact (execLockResponse_answers n w s).mono
  | lockRetry n => exact (execLockRetry_answers n s).mono
  | unlock n w => exact (execUnlock_answers n w s).mono
  | save n w => exact (execSave_answers n w s).mono
  | restore n w => exact (execRestore_answers n w s).mono
  | iret n w => exact (execIret_answers n w s).mono
  | trap n w => exact (execTrap_answers n w s).mono
  | trace n w => exact (execTrace_answers n w s).mono
  | clrf n w => exact (execClrf_answers n w s).mono
  | br n w => exact (execBr_answers n w s).mono
  | call n w => exact (execCall_answers n w s).mono
  | ret n w => exact (execRet_answers n w s).mono
  | loop n w => exact (execLoop_answers n w s).mono
  | ldc n w => exact (execLdc_answers n w s).mono
  | waitt n w => exact (execWaitt_answers n w s).mono
  | illegalEntry n w => exact (execIllegalEntry_answers n w s).mono
  | matchWindowResolve n late => exact (execMatchWindowResolve_answers n late s).mono
  | interruptEntry n w => exact (execInterruptEntry_answers n w s).mono
  | watchdogExpire n => exact (execWatchdogExpire_answers n s).mono
  | tableFillDone n ok w => exact (execTableFillDone_answers n ok w s).mono
  | streamFetchDone n eccs ahead w => exact (execStreamFetchDone_answers n eccs ahead w s).mono
  | fvpWordAccept h p word w => exact (execFvpWordAccept_answers h p word w s).mono
  | fvpFlush r h p => exact (execFvpFlush_answers r h p s).mono
  | vectorTableWrite r n w v => exact (execVectorTableWrite_answers r n w v s).mono
  | vswSelWrite r c v => exact (execVswSelWrite_answers r c v s).mono
  | specResolve n late => exact (execSpecResolve_answers n late s).mono
  | sumpRelease n b => exact (execSumpRelease_answers n b s).mono
  | fabricResultWrite e taken tag dev addr len data => exact (execFabricResultWrite_answers e taken tag dev addr len data s).mono
  | fabricWriteRelease h => exact (execFabricWriteRelease_answers h s).mono
  | compareResult n cyc c hi lo strobe => exact (execCompareResult_answers n cyc c hi lo strobe s).mono
  | ssgEdgeTimeout b g strobe => exact (execSsgEdgeTimeout_answers b g strobe s).mono
  | failEntryDrain b k => exact (execFailEntryDrain_answers b k s).mono
  | fccEntryAccept b => exact (execFccEntryAccept_answers b s).mono
  | fccFlush r h => exact (execFccFlush_answers r h s).mono
  | fccWritebackAck h addr => exact (execFccWritebackAck_answers h addr s).mono
  | ffsCtlApply b taken => exact (execFfsCtlApply_answers b taken s).mono
  | jobStop c => exact (execJobStop_answers c s).mono
  | jobDrainDone c => exact (execJobDrainDone_answers c s).mono
  | chnCfgWrite r c dsk v => exact (execChnCfgWrite_answers r c dsk v s).mono
  | modeChangeDone c => exact (execModeChangeDone_answers c s).mono
  | tsetWindowHold r c k w v => exact (execTsetWindowHold_answers r c k w v s).mono
  | tsetCommit r c k v => exact (execTsetCommit_answers r c k v s).mono
  | ssgCfgWrite r b g dly v => exact (execSsgCfgWrite_answers r b g dly v s).mono
  | sensorSample temps => exact (execSensorSample_answers temps s).mono
  | tempRecompute b => exact (execTempRecompute_answers b s).mono
  | calChannelBegin n c sums sph => exact (execCalChannelBegin_answers n c sums sph s).mono
  | calIdleTimeout n c => exact (execCalIdleTimeout_answers n c s).mono
  | calRecordHold r c w v => exact (execCalRecordHold_answers r c w v s).mono
  | calRecordCommit r c v => exact (execCalRecordCommit_answers r c v s).mono
  | dramReadReq h line mask id full => exact (execDramReadReq_answers h line mask id full s).mono
  | dramWriteReq h line mask data full => exact (execDramWriteReq_answers h line mask data full s).mono
  | dramReadOrWriteReq h line data ctxs full => exact (execDramReadOrWriteReq_answers h line data ctxs full s).mono
  | dramSchedule n banks aged hits ecc => exact (execDramSchedule_answers n banks aged hits ecc s).mono
  | dramReadReturn n k ecc => exact (execDramReadReturn_answers n k ecc s).mono
  | fspSwitchReq r n urgent target => exact (execFspSwitchReq_answers r n urgent target s).mono
  | fspSwitchDone n => exact (execFspSwitchDone_answers n s).mono
  | fspRateWrite r n k rate => exact (execFspRateWrite_answers r n k rate s).mono
  | oscCheck n drift => exact (execOscCheck_answers n drift s).mono
  | retrainStep n => exact (execRetrainStep_answers n s).mono
  | retrainStepDone n ok last => exact (execRetrainStepDone_answers n ok last s).mono
  | dramRemoval n bad => exact (execDramRemoval_answers n bad s).mono
  | reservedAreaRestore h => exact (execReservedAreaRestore_answers h s).mono
  | selfRefreshEntry n => exact (execSelfRefreshEntry_answers n s).mono
  | srEnter r n => exact (execSrEnter_answers r n s).mono
  | srExit r n => exact (execSrExit_answers r n s).mono
  | srExitDone n drift => exact (execSrExitDone_answers n drift s).mono
  | dramWindowRead r h off len => exact (execDramWindowRead_answers r h off len s).mono
  | dramWindowWrite r h off len v => exact (execDramWindowWrite_answers r h off len v s).mono
  | dramInitSweep n => exact (execDramInitSweep_answers n s).mono
  | bankAccess h m r addr len wr ecc => exact (execBankAccess_answers h m r addr len wr ecc s).mono
  | bankCeWriteback h => exact (execBankCeWriteback_answers h s).mono
  | bankPwrWrite r h k v => exact (execBankPwrWrite_answers r h k v s).mono
  | bankPwrDone h b => exact (execBankPwrDone_answers h b s).mono
  | coppiceLoanStart h => exact (execCoppiceLoanStart_answers h s).mono
  | coppiceSwitchOver h => exact (execCoppiceSwitchOver_answers h s).mono
  | coppiceTestDone h ok => exact (execCoppiceTestDone_answers h ok s).mono
  | coppiceSwitchBack h => exact (execCoppiceSwitchBack_answers h s).mono
  | fcgApply r h g pinHz => exact (execFcgApply_answers r h g pinHz s).mono
  | fcgRelock h g => exact (execFcgRelock_answers h g s).mono
  | fcgLockLoss h g => exact (execFcgLockLoss_answers h g s).mono
  | rclkWrite q r which v => exact (execRclkWrite_answers q r which v s).mono
  | bramAccess t => exact (execBramAccess_answers t s).mono
  | sliceHold t => exact (execSliceHold_answers t s).mono
  | sliceLoad t => exact (execSliceLoad_answers t s).mono
  | sliceMac t => exact (execSliceMac_answers t s).mono
  | sliceMsu t => exact (execSliceMsu_answers t s).mono
  | sliceLoadc t => exact (execSliceLoadc_answers t s).mono
  | sliceAddc t => exact (execSliceAddc_answers t s).mono
  | sliceMacc t => exact (execSliceMacc_answers t s).mono
  | sliceClr t => exact (execSliceClr_answers t s).mono
  | neRxStallTimeout e => exact (execNeRxStallTimeout_answers e s).mono
  | neFence e c reconfig => exact (execNeFence_answers e c reconfig s).mono
  | neReleaseDone e => exact (execNeReleaseDone_answers e s).mono
  | flashBoot ptrA ptrB => exact (execFlashBoot_answers ptrA ptrB s).mono
  | cfgRingEntry e data => exact (execCfgRingEntry_answers e data s).mono
  | cfgStreamTimeout => exact (execCfgStreamTimeout_answers s).mono
  | flashPrimary r ptrA ptrB => exact (execFlashPrimary_answers r ptrA ptrB s).mono
  | flashGolden r ptrA ptrB => exact (execFlashGolden_answers r ptrA ptrB s).mono
  | cfgAbort r => exact (execCfgAbort_answers r s).mono
  | flashCommandTimeout => exact (execFlashCommandTimeout_answers s).mono
  | signatureVerified flash => exact (execSignatureVerified_answers flash s).mono
  | segmentWrite pinHz => exact (execSegmentWrite_answers pinHz s).mono
  | doneQualified high => exact (execDoneQualified_answers high s).mono
  | startUp late => exact (execStartUp_answers late s).mono
  | doneDrop => exact (execDoneDrop_answers s).mono
  | prunerFrameCheck h fa mismatch own other ok mine => exact (execPrunerFrameCheck_answers h fa mismatch own other ok mine s).mono
  | prunerCrossCheck h fa mismatch own other ok => exact (execPrunerCrossCheck_answers h fa mismatch own other ok s).mono
  | prunerScrubStep h x => exact (execPrunerScrubStep_answers h x s).mono
  | nocInject id fresh dest opc tag size attr addr data => exact (execNocInject_answers id fresh dest opc tag size attr addr data s).mono
  | nocEject k full bad => exact (execNocEject_answers k full bad s).mono
  | rd id ecc host => exact (execRd_answers id ecc host s).mono
  | wrReq id => exact (execWrReq_answers id s).mono
  | rdS id ecc => exact (execRdS_answers id ecc s).mono
  | rdM id ecc => exact (execRdM_answers id ecc s).mono
  | atomAcq id => exact (execAtomAcq_answers id s).mono
  | atomRel id => exact (execAtomRel_answers id s).mono
  | regRd id => exact (execRegRd_answers id s).mono
  | regWr id => exact (execRegWr_answers id s).mono
  | grant id => exact (execGrant_answers id s).mono
  | ack id => exact (execAck_answers id s).mono
  | nack id => exact (execNack_answers id s).mono
  | snpAck id => exact (execSnpAck_answers id s).mono
  | regData id => exact (execRegData_answers id s).mono
  | snpInv id data => exact (execSnpInv_answers id data s).mono
  | snpShr id data => exact (execSnpShr_answers id data s).mono
  | wdata id ecc => exact (execWdata_answers id ecc s).mono
  | rdata id => exact (execRdata_answers id s).mono
  | snpData id => exact (execSnpData_answers id s).mono
  | snoopTimeout h agent => exact (execSnoopTimeout_answers h agent s).mono
  | nocRspTimeout id tag => exact (execNocRspTimeout_answers id tag s).mono
  | fenceReq id fault c => exact (execFenceReq_answers id fault c s).mono
  | fenceAck id timeout => exact (execFenceAck_answers id timeout s).mono
  | niRelease id c => exact (execNiRelease_answers id c s).mono
  | routeTableWrite r t d v => exact (execRouteTableWrite_answers r t d v s).mono
  | linkFailed h stop dir lost => exact (execLinkFailed_answers h stop dir lost s).mono
  | secondRollover h => exact (execSecondRollover_answers h s).mono
  | pairSample drift => exact (execPairSample_answers drift s).mono
  | timebaseStepApply => exact (execTimebaseStepApply_answers s).mono
  | ptpOffset o => exact (execPtpOffset_answers o s).mono
  | gridStepDeferredApply expired => exact (execGridStepDeferredApply_answers expired s).mono
  | holdoverTimeout => exact (execHoldoverTimeout_answers s).mono
  | ptpMasterLost => exact (execPtpMasterLost_answers s).mono
  | oscRatioWindow => exact (execOscRatioWindow_answers s).mono
  | tmbModeWrite r m => exact (execTmbModeWrite_answers r m s).mono
  | tmbIncWrite r v => exact (execTmbIncWrite_answers r v s).mono
  | timeStepCommit r sec => exact (execTimeStepCommit_answers r sec s).mono
  | trunkFrameRx p len data => exact (execTrunkFrameRx_answers p len data s).mono
  | evfHalt p group seq sec ns => exact (execEvfHalt_answers p group seq sec ns s).mono
  | evfHaltAction k => exact (execEvfHaltAction_answers k s).mono
  | evfStart p group seq sec ns k => exact (execEvfStart_answers p group seq sec ns k s).mono
  | evfSync p group seq sec ns => exact (execEvfSync_answers p group seq sec ns s).mono
  | triggerArm r h k => exact (execTriggerArm_answers r h k s).mono
  | triggerPeriodicWrite r h k on => exact (execTriggerPeriodicWrite_answers r h k on s).mono
  | triggerFire h k => exact (execTriggerFire_answers h k s).mono
  | trigOutPulseEnd h k => exact (execTrigOutPulseEnd_answers h k s).mono
  | launchFrameSend p q sec ns frac => exact (execLaunchFrameSend_answers p q sec ns frac s).mono
  | startComparatorFire h c => exact (execStartComparatorFire_answers h c s).mono
  | alignedStart h ws => exact (execAlignedStart_answers h ws s).mono
  | trigInEdge k sec ns => exact (execTrigInEdge_answers k sec ns s).mono
  | heartbeat silent => exact (execHeartbeat_answers silent s).mono
  | engineFault n cache => exact (execEngineFault_answers n cache s).mono
  | channelGroupFault c => exact (execChannelGroupFault_answers c s).mono
  | vccChFail => exact (execVccChFail_answers s).mono
  | gateDrop u old => exact (execGateDrop_answers u old s).mono
  | reinstate r u => exact (execReinstate_answers r u s).mono
  | reinstateDone pass => exact (execReinstateDone_answers pass s).mono
  | substitutionDrainDone n => exact (execSubstitutionDrainDone_answers n s).mono
  | substitutionRestart c => exact (execSubstitutionRestart_answers c s).mono
  | echoSend h => exact (execEchoSend_answers h s).mono
  | echoPeriodCheck h echo wire => exact (execEchoPeriodCheck_answers h echo wire s).mono
  | echoRx h => exact (execEchoRx_answers h s).mono
  | custodyClaim h => exact (execCustodyClaim_answers h s).mono
  | custodyAdvance h e reach => exact (execCustodyAdvance_answers h e reach s).mono
  | advanceRetry h e reach => exact (execAdvanceRetry_answers h e reach s).mono
  | commitUnitWrite h => exact (execCommitUnitWrite_answers h s).mono
  | custodyReconcile host => exact (execCustodyReconcile_answers host s).mono
  | snpFire r => exact (execSnpFire_answers r s).mono
  | snapInEdge => exact (execSnapInEdge_answers s).mono
  | snapDeliver => exact (execSnapDeliver_answers s).mono
  | snpRelease r => exact (execSnpRelease_answers r s).mono
  | wearHour cycles hot ages => exact (execWearHour_answers cycles hot ages s).mono
  | powerOnReset => exact (execPowerOnReset_answers s).mono
  | resetN => exact (execResetN_answers s).mono
  | softwareDeviceReset r stest stestDram key => exact (execSoftwareDeviceReset_answers r stest stestDram key s).mono
  | resetRelease straps => exact (execResetRelease_answers straps s).mono
  | fwBootFlash dirA dirB primary golden => exact (execFwBootFlash_answers dirA dirB primary golden s).mono
  | fwLoadGo r => exact (execFwLoadGo_answers r s).mono
  | fwVerifyDone => exact (execFwVerifyDone_answers s).mono
  | fwEastVerifyDone copy => exact (execFwEastVerifyDone_answers copy s).mono
  | selftestDone t => exact (execSelftestDone_answers t s).mono
  | selftestRefclkTimeout => exact (execSelftestRefclkTimeout_answers s).mono
  | fuseArm r field => exact (execFuseArm_answers r field s).mono
  | fuseArmLapse => exact (execFuseArmLapse_answers s).mono
  | fuseProgram r volt verified => exact (execFuseProgram_answers r volt verified s).mono
  | attestReq r => exact (execAttestReq_answers r s).mono
  | attestDone unstable => exact (execAttestDone_answers unstable s).mono
  | avsStep target ack => exact (execAvsStep_answers target ack s).mono
  | hjelzLineReset => exact (execHjelzLineReset_answers s).mono
  | hjelzRead h slow => exact (execHjelzRead_answers h slow s).mono
  | hjelzWrite h => exact (execHjelzWrite_answers h s).mono
  | hjelzWriteData data crc slow => exact (execHjelzWriteData_answers data crc slow s).mono
  | hjelzAccessTimeout => exact (execHjelzAccessTimeout_answers s).mono
  | hjelzPacketGap => exact (execHjelzPacketGap_answers s).mono
  | challenge => exact (execChallenge_answers s).mono
  | verify => exact (execVerify_answers s).mono
  | authVerifyDone => exact (execAuthVerifyDone_answers s).mono
  | logout => exact (execLogout_answers s).mono
  | dbgHalt n => exact (execDbgHalt_answers n s).mono
  | dbgResume n => exact (execDbgResume_answers n s).mono
  | dbgStep n => exact (execDbgStep_answers n s).mono
  | dbgForce n => exact (execDbgForce_answers n s).mono
  | monitorEntry n w => exact (execMonitorEntry_answers n w s).mono
  | debugLockDefer n => exact (execDebugLockDefer_answers n s).mono
  | stimulusWrite r n off size v => exact (execStimulusWrite_answers r n off size v s).mono
  | traceClr r h => exact (execTraceClr_answers r h s).mono
  | pinFuncWrite r p v => exact (execPinFuncWrite_answers r p v s).mono
  | pinSwitchComplete p => exact (execPinSwitchComplete_answers p s).mono
  | gppHoldWrite r on => exact (execGppHoldWrite_answers r on s).mono
  | vccioLevelChange k level => exact (execVccioLevelChange_answers k level s).mono
  | adcConvert ch uv err => exact (execAdcConvert_answers ch uv err s).mono
  | d3hotExit => exact (execD3hotExit_answers s).mono
  | ppsOutEnd => exact (execPpsOutEnd_answers s).mono
  | snapOutEnd => exact (execSnapOutEnd_answers s).mono
  | hostConfigReady => exact (execHostConfigReady_answers s).mono
  | pcsBlockLockChange p lock => exact (execPcsBlockLockChange_answers p lock s).mono
  | hjelzHeaderRefused h => exact (execHjelzHeaderRefused_answers h s).mono
  | dramRefresh n bank busy mr4 => exact (execDramRefresh_answers n bank busy mr4 s).mono
  | regionalLineEdge lines pads driven => exact (execRegionalLineEdge_answers lines pads driven s).mono
  | vccChValid => exact (execVccChValid_answers s).mono

theorem idle_answers (s : State) : Answers Part.run s (.next s.idle) := ⟨_, rfl, (State.idle_changes s).mono⟩

/-- A step changes the queue only by taking its front. -/
theorem step_changes {s t : State} (h : step s = .next t) : Changes (2 ^ 88 - 1) s t := by
  unfold step at h
  split at h
  · exact ((idle_answers s).changes h).mono
  · next c q _ =>
    exact (Changes.set_pending (Changes.refl _ s)).then ((exec_answers c _).changes h)

/-- Settles O59: every command and the idle tick are built of operations that keep the canonical form. -/
theorem canonicalFormIsKeptByEveryStep : Obligations.CanonicalFormIsKeptByEveryStep :=
  fun _ _ hc h => (step_changes h).canonical hc

/-- Settles O60: no operation overwrites a fuse that holds a value or lowers the fused version. -/
theorem programmedFusesAndTheFusedVersionOnlyGain : Obligations.ProgrammedFusesAndTheFusedVersionOnlyGain :=
  fun _ _ h => ⟨(step_changes h).keepsFuses, (step_changes h).gainsSvn⟩

/-- Settles O57: each command's meaning is a next state, and none of its operations touches the queue. -/
theorem everyCommandCompletesAndLeavesTheQueue : Obligations.EveryCommandCompletesAndLeavesTheQueue := by
  intro c s
  obtain ⟨t, ht, hc⟩ := exec_answers c s
  exact ⟨t, ht, hc.pending rfl⟩

/-- Settles O56: by the two cases of the queue. -/
theorem stepRunsTheCommandInFront : Obligations.StepRunsTheCommandInFront := fun _ _ _ => ⟨rfl, rfl⟩

/-! ## The state after reset -/

/-- After reset the fields that statements name hold what the spec states (R462, R463, R485, R486). -/
theorem reset_rd_values : State.reset.rd F.GLB_STATE.STATE = 1 ∧ State.reset.rd F.GLB_STATE.HOLD_REASON = 0 ∧
    State.reset.rd F.GLB_ID.PART = 0x9256 ∧ State.reset.rd F.GLB_ID.FAMILY = 0x50 ∧
    State.reset.rd F.DBG_CFG.LOCK_HOLD_MAX = 4096 ∧ State.reset.portLevel = 0 := by
  decide +kernel

theorem Table.get_absent {α : Type} (d : α) {t : Table α} {k : Nat} (h : ∀ e ∈ t, e.1 ≠ k) : Table.get d t k = d := by
  induction t with
  | nil => rfl
  | cons e t ih =>
    rw [Table.get_cons, if_neg (h e List.mem_cons_self)]
    exact ih fun x hx => h x (List.mem_cons_of_mem _ hx)

/-- The blocks whose registers have reset values of their own: engines, DRAM controllers and pins. -/
theorem resetRegs_blocks : ∀ e ∈ resetRegs, (0x2000000 ≤ e.1 ∧ e.1 < 0x2D00000) ∨ (0xA000000 ≤ e.1 ∧ e.1 < 0xA400000) ∨
    (0x11000000 ≤ e.1 ∧ e.1 < 0x11001000) := by
  decide +kernel

/-- Outside those blocks a field reads its own reset value. -/
theorem reset_rd_own {f : Fld} (h : ¬ ((0x2000000 ≤ f.key ∧ f.key < 0x2D00000) ∨ (0xA000000 ≤ f.key ∧ f.key < 0xA400000) ∨
    (0x11000000 ≤ f.key ∧ f.key < 0x11001000))) : State.reset.rd f = f.rst :=
  Table.get_absent _ fun e he hk => h (hk ▸ resetRegs_blocks e he)

theorem reset_rd_svc (n : Nat) (h : n < 104) : State.reset.rd (F.DBG_ENG_CTL.SVC n) = 1 :=
  reset_rd_own (by simp only [F.DBG_ENG_CTL.SVC]; omega)

theorem reset_rd_ctxEn (c : Nat) (h : c < 64) : State.reset.rd (F.HIF_CTX_CFG.EN c) = 0 :=
  reset_rd_own (by simp only [F.HIF_CTX_CFG.EN]; omega)

theorem reset_isFenced (u : Nat) (h : u < 218) : State.reset.isFenced u = false :=
  bne_eq_false_iff_eq.mpr (reset_rd_own (by simp only [F.SUP_UNIT_STAT.STATE]; omega))

/-- Settles O58: the parts of the reset state by definition, its registers by their reset values. -/
theorem resetStateHoldsItsValuesInCanonicalForm : Obligations.ResetStateHoldsItsValuesInCanonicalForm := by
  obtain ⟨hstate, hhold, hpart, hfam, hlock, hlevel⟩ := reset_rd_values
  exact ⟨rfl, rfl, rfl, rfl, rfl, rfl, rfl, hstate, hhold, hpart, hfam, hlock, hlevel, reset_rd_svc, reset_rd_ctxEn,
    reset_isFenced⟩

end Sys2Proof.Machine
end

/-! PROOFS. The access path to the registers (R8-R12, R36): where the register map puts a located register, what a store of a
word or of a pair and a read with its clearing do to each field, and the statements about register access. -/

section

namespace Sys2Proof.Machine

set_option Elab.async false

/-! ## The register map -/

/-- The zones of BAR0 below 0x3000000 that hold windows or registers with read rules of their own, as [from, end). -/
noncomputable def readZones : List (Nat × Nat) :=
  [(0x1600000, 0x1800000), (0x1C00008, 0x1C00018), (0x1C08000, 0x1C10000), (0x2200000, 0x2200180), (0x2200300, 0x2200350),
   (0x2400000, 0x2401000), (0x2420000, 0x2440000), (0x2604000, 0x2606000), (0x2608000, 0x2610000), (0x2810000, 0x281F700)]

/-- One past the last byte of a register's instances. -/
noncomputable def RegDef.stop (d : RegDef) : Nat := d.base + d.s1 * (d.c1 - 1) + d.s2 * (d.c2 - 1) + d.size

/-- The register's instances lie off the zone. -/
noncomputable def RegDef.off (d : RegDef) (z : Nat × Nat) : Bool := decide (d.stop ≤ z.1) || decide (z.2 ≤ d.base)

/-- The zones of BAR0 below 0x3000000 that hold windows or registers with write rules of their own. -/
noncomputable def writeZones : List (Nat × Nat) :=
  [(0x18, 0x1C), (0x20, 0x24), (0x1600000, 0x1800000), (0x1C08000, 0x1C10000), (0x2400000, 0x2401000), (0x2410000, 0x2416800)]

/-- The zones of the register file whose blocks store words by rules of their own. -/
noncomputable def fileZones : List (Nat × Nat) := [(0x1400000, 0x1480000), (0x2000000, 0x2200000), (0x2200000, 0x2400000)]

/-! What the statements use of each register of the map: its fields lie side by side inside it, a pair has no field that a read
clears, and its instances lie off the windows. -/

theorem regDefs_fields : ∀ d ∈ regDefs, d.fields.Pairwise (fun f g => f.lo ≠ g.lo) ∧ ∀ f ∈ d.fields, 0 < f.w ∧ f.lo + f.w ≤ 8 * d.size := by
  simp only [regDefs, List.forall_mem_append]
  and_intros <;> decide +kernel

theorem regDefs_wide : ∀ d ∈ regDefs, d.wide = true → ∀ f ∈ d.fields, f.acc ≠ .rc := by decide +kernel

theorem regDefs_low : ∀ d ∈ regDefs, d.stop ≤ 0x3000000 ∨ 0x4000000 ≤ d.base := by decide +kernel

theorem regDefs_readPair : ∀ d ∈ regDefs, d.wide = true → readZones.all d.off = true ∨ (0x1C00008 ≤ d.base ∧ d.stop ≤ 0x1C00018) := by
  decide +kernel

theorem regDefs_readWord : ∀ d ∈ regDefs, d.wide = false → d.name ∉ [RegName.GPP_PIN, .GPP_ADC, .TMB_NOW_FRAC, .TMB_NOW_NS] →
    readZones.all d.off = true := by decide +kernel

theorem regDefs_write : ∀ d ∈ regDefs, d.name ∉ [RegName.GLB_RESET, .GLB_FWLOAD] ∨ d.wide = true → writeZones.all d.off = true := by
  decide +kernel

theorem regDefs_dmc : ∀ d ∈ regDefs, d.wide = true → d.name ≠ .DMC_EADDR → d.off (0x1400000, 0x1480000) = true := by decide +kernel

theorem regDefs_plain : ∀ d ∈ regDefs, fileZones.all d.off = true ∨ d.name ∉ plainRegs := by decide +kernel

theorem locate_step (x m : Nat) : (if m = 0 then 0 else x / m) * m + (if m = 0 then x else x % m) = x := by
  split
  · exact (congrArg (· + x) (Nat.zero_mul m)).trans (Nat.zero_add x)
  · exact Nat.div_add_mod' x m

theorem locate_bounds {d : RegDef} {a i j : Nat} (h : d.locate a = some (i, j)) :
    d.base + i * d.s1 + j * d.s2 ≤ a ∧ a < d.base + i * d.s1 + j * d.s2 + d.size ∧ i ≤ d.c1 - 1 ∧ j ≤ d.c2 - 1 := by
  rw [RegDef.locate, Option.ite_none_left_eq_some] at h
  obtain ⟨hb, h⟩ := h
  rw [Option.ite_none_right_eq_some, Option.some.injEq, Prod.mk.injEq] at h
  obtain ⟨⟨hi, hj, hf⟩, rfl, rfl⟩ := h
  have h1 := locate_step (a - d.base) d.s1
  generalize (if d.s1 = 0 then 0 else (a - d.base) / d.s1) = i at *
  generalize (if d.s1 = 0 then a - d.base else (a - d.base) % d.s1) = e at *
  have h2 := locate_step e d.s2
  generalize (if d.s2 = 0 then 0 else e / d.s2) = j at *
  generalize (if d.s2 = 0 then e else e % d.s2) = f at *
  have he : d.base + i * d.s1 + j * d.s2 + f = a := by
    rw [Nat.add_assoc, h2, Nat.add_assoc, h1, Nat.add_sub_cancel' (Nat.not_lt.mp hb)]
  exact ⟨he ▸ Nat.le_add_right _ _, he ▸ Nat.add_lt_add_left hf _, Nat.le_sub_one_of_lt hi, Nat.le_sub_one_of_lt hj⟩

theorem findReg_some {a : Nat} {l : List RegDef} {p : RegAt} (h : findReg a l = some p) :
    p.def_ ∈ l ∧ p.def_.locate a = some (p.i, p.j) ∧ p.addr = p.def_.base + p.i * p.def_.s1 + p.j * p.def_.s2 := by
  induction l with
  | nil => cases h
  | cons r rs ih =>
    unfold findReg at h
    split at h
    · rename_i i j hl
      cases h
      exact ⟨List.mem_cons_self, hl, rfl⟩
    · obtain ⟨hm, hr⟩ := ih h
      exact ⟨List.mem_cons_of_mem _ hm, hr⟩

/-- A located register begins at or before the offset that names it, and its instance holds that offset. -/
theorem regAt_bounds {off : Nat} {p : RegAt} (h : regAt off = some p) :
    p.addr ≤ off ∧ off < p.addr + p.def_.size ∧ p.def_.base ≤ off ∧ off < p.def_.stop := by
  obtain ⟨_, hl, ha⟩ := findReg_some h
  obtain ⟨h1, h2, h3, h4⟩ := locate_bounds hl
  have h5 := Nat.mul_le_mul_right p.def_.s1 h3
  have h6 := Nat.mul_le_mul_right p.def_.s2 h4
  have h7 := Nat.mul_comm p.def_.s1 (p.def_.c1 - 1)
  have h8 := Nat.mul_comm p.def_.s2 (p.def_.c2 - 1)
  refine ⟨by omega, by omega, by omega, ?_⟩
  unfold RegDef.stop
  omega

theorem regAt_mem {off : Nat} {p : RegAt} (h : regAt off = some p) : p.def_ ∈ regDefs := (findReg_some h).1

theorem RegDef.off_zone {d : RegDef} {z : Nat × Nat} {a : Nat} (h : d.off z = true) (hb : d.base ≤ a) (hs : a < d.stop) :
    ¬ (z.1 ≤ a ∧ a < z.2) := by
  rcases (Bool.or_eq_true _ _).mp h with h | h
  · exact fun c => Nat.not_le.mpr hs ((of_decide_eq_true h).trans c.1)
  · exact fun c => Nat.not_le.mpr c.2 ((of_decide_eq_true h).trans hb)

/-! ## Storing -/

/-- What a store that covers the whole field leaves in it: by access type, from its old value and its bits of the value. -/
noncomputable def Acc.stored (k : Acc) (w old b : Nat) : Nat :=
  match k with
  | .rw | .wo => b
  | .w1c => old &&& (2 ^ w - 1 - b)
  | .w1s => (old ||| b) % 2 ^ w
  | .ro | .rc => old

theorem bits_lt (v lo w : Nat) : bits v lo w < 2 ^ w := Nat.mod_lt _ (Nat.two_pow_pos w)

theorem FieldDef.fld_key_ne {f g : FieldDef} (addr : Nat) (h : f.lo ≠ g.lo) : (f.fld addr).key ≠ (g.fld addr).key := by
  simp only [FieldDef.fld]
  omega

theorem State.storeField_rd_ne (s : State) (addr lo n v : Nat) (f : FieldDef) {g : Fld} (h : g.key ≠ (f.fld addr).key) :
    (s.storeField addr lo n v f).rd g = s.rd g := by
  unfold State.storeField
  split
  · rfl
  · cases f.acc <;> simp only [s.rd_wr_ne _ h]

/-- A store from bit 0 on that covers a field takes all its bits. -/
theorem storeMask {lo w n : Nat} (hn : lo + w ≤ n) : (2 ^ (min w (0 + n - lo) - (0 - lo)) - 1) * 2 ^ (0 - lo) = 2 ^ w - 1 := by
  rw [Nat.zero_sub, Nat.zero_add, Nat.min_eq_left (Nat.le_sub_of_add_le' hn), Nat.pow_zero, Nat.mul_one, Nat.sub_zero]

theorem storeBits (v lo w : Nat) : v * 2 ^ 0 / 2 ^ lo &&& 2 ^ w - 1 = bits v lo w := by
  rw [Nat.pow_zero, Nat.mul_one, Nat.and_two_pow_sub_one_eq_mod, bits]

theorem State.storeField_rd (s : State) (addr n v : Nat) (f : FieldDef) (hw : 0 < f.w) (hn : f.lo + f.w ≤ n) :
    (s.storeField addr 0 n v f).rd (f.fld addr) = f.acc.stored f.w (s.rd (f.fld addr)) (bits v f.lo f.w) := by
  have hlt := bits_lt v f.lo f.w
  have hc : ¬ (f.lo + f.w ≤ 0 ∨ 0 + n ≤ f.lo) :=
    not_or.mpr ⟨Nat.not_le.mpr (Nat.add_pos_right _ hw), Nat.not_le.mpr (by omega)⟩
  rw [State.storeField, if_neg hc]
  dsimp only
  rw [storeMask hn, storeBits, Nat.sub_self, Nat.and_zero, Nat.zero_or]
  generalize bits v f.lo f.w = x at hlt ⊢
  cases f.acc with
  | rw | wo => exact (s.rd_wr_same _ _).trans (Nat.mod_eq_of_lt hlt)
  | w1c => exact (s.rd_wr_same _ _).trans (Nat.mod_eq_of_lt (Nat.lt_of_le_of_lt Nat.and_le_right
      (Nat.lt_of_le_of_lt (Nat.sub_le _ _) (Nat.sub_lt (Nat.two_pow_pos _) Nat.one_pos))))
  | w1s => exact s.rd_wr_same _ _
  | ro | rc => rfl

/-- A store keeps every field but those it names. -/
theorem State.eachStore_rd_ne (s : State) (addr lo n v : Nat) (l : List FieldDef) {g : Fld}
    (h : ∀ f ∈ l, g.key ≠ (f.fld addr).key) : (s.each l (fun s f => s.storeField addr lo n v f)).rd g = s.rd g := by
  induction l generalizing s with
  | nil => rfl
  | cons a l ih =>
    rw [State.each_cons, ih _ fun f hf => h f (List.mem_cons_of_mem _ hf)]
    exact s.storeField_rd_ne addr lo n v a (h a List.mem_cons_self)

theorem State.eachStore_rd (s : State) (addr n v : Nat) (l : List FieldDef) (hp : l.Pairwise (fun f g => f.lo ≠ g.lo))
    (hw : ∀ f ∈ l, 0 < f.w ∧ f.lo + f.w ≤ n) (f : FieldDef) (hf : f ∈ l) :
    (s.each l (fun s f => s.storeField addr 0 n v f)).rd (f.fld addr) =
      f.acc.stored f.w (s.rd (f.fld addr)) (bits v f.lo f.w) := by
  induction l generalizing s with
  | nil => cases hf
  | cons a l ih =>
    obtain ⟨ha, hl⟩ := List.pairwise_cons.mp hp
    rw [State.each_cons]
    rcases List.mem_cons.mp hf with rfl | hm
    · rw [State.eachStore_rd_ne _ _ _ _ _ _ fun g hg => FieldDef.fld_key_ne addr (ha g hg)]
      exact s.storeField_rd addr n v f (hw f hf).1 (hw f hf).2
    · rw [ih _ hl (fun g hg => hw g (List.mem_cons_of_mem _ hg)) hm,
        s.storeField_rd_ne addr 0 n v a (FieldDef.fld_key_ne addr (ha f hm).symm)]

/-- A store into a register changes the fields of the register and nothing else. -/
theorem State.storeReg_onlyRegs (s : State) (r : RegDef) (addr lo n v : Nat) :
    s.onlyRegs (s.storeReg r addr lo n v) (r.fields.map (fun f => f.fld addr)) := by
  refine ⟨(s.storeReg_changes r addr lo n v).merge_eq, fun g hg => s.eachStore_rd_ne addr lo n v _ fun f hf e => hg ?_⟩
  rw [e]
  exact List.mem_map_of_mem (List.mem_map_of_mem hf)

/-- A store of a whole register gives each of its fields what its access type says. -/
theorem State.storeReg_rd (s : State) {r : RegDef} (hr : r ∈ regDefs) (addr v : Nat) {n : Nat} (hn : n = 8 * r.size)
    {f : FieldDef} (hf : f ∈ r.fields) :
    (s.storeReg r addr 0 n v).rd (f.fld addr) = f.acc.stored f.w (s.rd (f.fld addr)) (bits v f.lo f.w) :=
  s.eachStore_rd addr n v r.fields (regDefs_fields r hr).1 (hn ▸ (regDefs_fields r hr).2) f hf

/-! ## Clearing by a read -/

theorem State.eachClr_rd (s : State) (addr : Nat) (l : List FieldDef) (g : Fld) :
    (s.each l (fun s f => s.clr (f.fld addr))).rd g = s.rd g ∨
      ∃ f ∈ l, g.key = (f.fld addr).key := by
  induction l generalizing s with
  | nil => exact .inl rfl
  | cons a l ih =>
    rw [State.each_cons]
    by_cases ha : g.key = (a.fld addr).key
    · exact .inr ⟨a, List.mem_cons_self, ha⟩
    · rcases ih (s.clr (a.fld addr)) with h | ⟨f, hf, h⟩
      · exact .inl (h.trans (s.rd_wr_ne 0 ha))
      · exact .inr ⟨f, List.mem_cons_of_mem _ hf, h⟩

theorem State.eachClr_same (s : State) (addr : Nat) (l : List FieldDef) {f : FieldDef} (hf : f ∈ l)
    (hl : ∀ g ∈ l, g.lo = f.lo → g = f) : (s.each l (fun s f => s.clr (f.fld addr))).rd (f.fld addr) = 0 := by
  have key : ∀ (l : List FieldDef) (s : State), (∀ g ∈ l, g.lo = f.lo → g = f) → s.rd (f.fld addr) = 0 →
      (s.each l (fun s f => s.clr (f.fld addr))).rd (f.fld addr) = 0 := by
    intro l
    induction l with
    | nil => exact fun s _ h => h
    | cons a l ih =>
      intro s hl h
      refine ih _ (fun g hg => hl g (List.mem_cons_of_mem _ hg)) ?_
      by_cases e : a.lo = f.lo
      · rw [hl a List.mem_cons_self e]
        exact (s.rd_wr_same _ 0).trans (Nat.zero_mod _)
      · exact (s.rd_wr_ne 0 (FieldDef.fld_key_ne addr (Ne.symm e))).trans h
  induction l generalizing s with
  | nil => cases hf
  | cons a l ih =>
    rcases List.mem_cons.mp hf with rfl | hm
    · exact key l _ (fun g hg => hl g (List.mem_cons_of_mem _ hg)) ((s.rd_wr_same _ 0).trans (Nat.zero_mod _))
    · exact ih _ hm fun g hg => hl g (List.mem_cons_of_mem _ hg)

/-! ## The ways of a read and of a write -/

/-- A located register below the PORT space lies below the tables, on its own side of every zone that it is off. -/
theorem regAt_below {off : Nat} {p : RegAt} (h : regAt off = some p) (ho : off < 0x4000000) : off < 0x3000000 := by
  have hb := regAt_bounds h
  rcases regDefs_low _ (regAt_mem h) with h4 | h4
  · exact hb.2.2.2.trans_le h4
  · exact absurd (h4.trans hb.2.2.1) (Nat.not_le.mpr ho)

theorem RegDef.off_all {d : RegDef} {zs : List (Nat × Nat)} {a : Nat} (h : zs.all d.off = true) (hb : d.base ≤ a) (hs : a < d.stop)
    (z : Nat × Nat) (hz : z ∈ zs) : ¬ (z.1 ≤ a ∧ a < z.2) :=
  RegDef.off_zone (List.all_eq_true.mp h z hz) hb hs

/-- A register without a read rule of its own is read by the general rule. -/
theorem State.regReadAt_generic (s : State) (peek : Bool) (r : Req) {off : Nat} {p : RegAt} (h : regAt off = some p)
    (ho : off < 0x4000000) (hz : readZones.all p.def_.off = true) : s.regReadAt peek r off = s.genericRead peek r off := by
  have hb := regAt_bounds h
  have hlt := regAt_below h ho
  have hz := RegDef.off_all hz hb.2.2.1 hb.2.2.2
  have z (i : Fin 10) := hz readZones[i] (List.getElem_mem _)
  exact (if_neg (z 0)).trans ((if_neg (z 2)).trans ((if_neg (z 1)).trans ((if_neg (z 3)).trans ((if_neg (z 4)).trans ((if_neg (z 5)).trans
    ((if_neg (z 6)).trans ((if_neg (z 7)).trans ((if_neg (z 8)).trans ((if_neg (z 9)).trans (if_pos hlt))))))))))

/-- A read command at a register without a read rule of its own. -/
theorem State.busRead_generic (s : State) {r : Req} {off : Nat} {p : RegAt} (h : regAt off = some p) (ho : off < 0x4000000)
    (hp : s.por = false) (hm : s.mayRead r off = true) (hz : readZones.all p.def_.off = true) :
    s.busRead r off = (s.genericRead false r off).2.setBus r (s.genericRead false r off).1 := by
  have hb := regAt_bounds h
  have hw := RegDef.off_all hz hb.2.2.1 hb.2.2.2 (0x1600000, 0x1800000) List.mem_cons_self
  unfold State.busRead State.regRead
  rw [hp, if_neg (by decide), if_neg fun hc => hw ⟨hc.1, hc.2.1⟩, if_pos hm]
  dsimp only
  rw [s.regReadAt_generic false r h ho hz]

/-- A register off the write zones is written through the register file. -/
theorem State.regWrite_file (s : State) {r : Req} {off : Nat} {p : RegAt} (v : Nat) (h : regAt off = some p) (ho : off < 0x4000000)
    (hm : s.mayWriteAt r off = true) (hz : writeZones.all p.def_.off = true) :
    s.regWrite r off v = s.regFileWrite r off v := by
  have hb := regAt_bounds h
  have hlt := regAt_below h ho
  have hz := RegDef.off_all hz hb.2.2.1 hb.2.2.2
  have z (i : Fin 6) := hz writeZones[i] (List.getElem_mem _)
  have h1 : off ≠ 0x18 := fun e => z 0 (e ▸ by decide)
  have h2 : off ≠ 0x20 := fun e => z 1 (e ▸ by decide)
  exact (if_neg h1).trans ((if_neg h2).trans ((if_neg (by rw [hm]; decide)).trans ((if_neg (z 2)).trans ((if_neg (z 3)).trans
    ((if_neg (z 4)).trans ((if_neg (z 5)).trans (if_pos hlt)))))))

/-- A pair off the DRAM controllers is held and committed by the rule of pairs. -/
theorem State.regFileWrite_wide (s : State) (r : Req) {off : Nat} {p : RegAt} (v : Nat) (h : regAt off = some p)
    (hw : p.def_.wide = true) (hz : p.def_.off (0x1400000, 0x1480000) = true) :
    s.regFileWrite r off v = if off = p.addr then s.pairLoWrite r p v else s.pairHiWrite r p v := by
  have hb := regAt_bounds h
  unfold State.regFileWrite
  rw [if_neg (RegDef.off_zone hz hb.2.2.1 hb.2.2.2), h]
  dsimp only
  rw [if_pos hw]

theorem isPairLo_eq {off : Nat} {p : RegAt} (h : regAt off = some p) : isPairLo off = (p.def_.wide && off == p.addr) := by
  unfold isPairLo
  rw [h]

theorem isPairHi_eq {off : Nat} {p : RegAt} (h : regAt off = some p) : isPairHi off = (p.def_.wide && off != p.addr) := by
  unfold isPairHi
  rw [h]

/-- What a requester names lies in BAR0. -/
theorem barOff_lt (r : Req) (a : RegWord) : barOff r (4 * a.val) < 0x4000000 := by
  have := a.isLt
  unfold barOff
  split
  · rename_i f
    have := f.isLt
    split_ifs <;> omega
  · omega

/-! ## The latches of the requesters -/

theorem reqCode_ne {q r : Req} (h : q ≠ r) : reqCode q ≠ reqCode r := by
  intro e
  apply h
  cases q <;> cases r <;> simp only [reqCode] at e
  case fn.fn => exact congrArg Req.fn (Fin.ext e)
  case sup.sup => exact congrArg Req.sup (Fin.ext (by omega))
  case port.port => rfl
  all_goals omega

theorem State.latch_setLatch (s : State) (r : Req) (f : Latch → Latch) : (s.setLatch r f).latch r = f (s.latch r) :=
  Table.get_upd_same _ _ _ _

theorem State.latch_setLatch_ne (s : State) {q r : Req} (f : Latch → Latch) (h : q ≠ r) : (s.setLatch r f).latch q = s.latch q :=
  Table.get_upd_ne _ _ _ _ (reqCode_ne h)

theorem State.setBus_answer (s : State) (r : Req) (v : Nat) : Table.get 0 (s.setBus r v).bus (reqCode r) = v :=
  Table.get_set_same _ _ _ _

/-! ## The statements -/

theorem State.regWrite_closed (s : State) {r : Req} {off : Nat} (v : Nat) (h1 : off ≠ 0x18) (h2 : off ≠ 0x20)
    (h : s.mayWriteAt r off = false) : (s.regWrite r off v).2 = s := by
  unfold State.regWrite
  rw [if_neg h1, if_neg h2, h]
  rfl

/-- Settles O5: every write command asks for the right to write before it changes anything. -/
theorem writesWithoutAccessChangeNothing : Obligations.WritesWithoutAccessChangeNothing := by
  refine ⟨?_, ?_, ?_, ?_, ?_, ?_⟩
  · rintro s r a v _ rfl h1 h2 h
    have hw := s.regWrite_closed v.toNat h1 h2 h
    refine ⟨congrArg Host.Outcome.next ?_, congrArg Host.Outcome.next ?_, congrArg Host.Outcome.next ?_⟩ <;> rw [hw, ite_self]
  · intro s r h l
    exact congrArg Host.Outcome.next (if_neg (by simp [h]))
  · intro s r h hm
    exact ⟨congrArg Host.Outcome.next (if_neg (by simp [hm])), congrArg Host.Outcome.next (if_neg (by simp [hm]))⟩
  · intro s r n le h
    exact congrArg Host.Outcome.next (if_neg (by simp [h]))
  · intro s r v h
    exact congrArg Host.Outcome.next (if_neg (by simp [h]))
  · intro s r h k v hm
    exact congrArg Host.Outcome.next (if_neg (by simp [hm]))

/-- A pair has nothing that a read clears. -/
theorem State.clearRc_wide (s : State) {d : RegDef} (h : d ∈ regDefs) (hw : d.wide = true) (addr : Nat) :
    s.clearRc false d addr 0 64 = s := by
  have hn := regDefs_wide d h hw
  have he : d.fields.filter (fun f => f.acc = .rc && decide (0 ≤ f.lo) && decide (f.lo < 0 + 64)) = [] :=
    List.filter_eq_nil_iff.mpr fun f hf => by simp [hn f hf]
  unfold State.clearRc
  rw [if_neg (by decide), he]
  rfl

theorem readZones_of_wide {off : Nat} {p : RegAt} (h : regAt off = some p) (hw : p.def_.wide = true)
    (hn : ¬ (0x1C00008 ≤ off ∧ off < 0x1C00018)) : readZones.all p.def_.off = true := by
  have hb := regAt_bounds h
  exact (regDefs_readPair _ (regAt_mem h) hw).resolve_right fun hc => hn ⟨hc.1.trans hb.2.2.1, hb.2.2.2.trans_le hc.2⟩

/-- Settles O1: off the time registers, a pair is read by the general rule, which latches for the requester alone. -/
theorem pairReadReturnsLatchedHighWord : Obligations.PairReadReturnsLatchedHighWord := by
  rintro s r a off p hoff hp hr hw hm hn
  have ho : off < 0x4000000 := hoff ▸ barOff_lt r a
  have hb := s.busRead_generic hr ho hp hm (readZones_of_wide hr hw hn)
  refine ⟨fun he => ⟨s.busRead r off, ?_, ?_⟩, fun he => ⟨s.busRead r off, ?_, ?_⟩⟩
  · change Host.Outcome.next _ = _
    rw [hoff, isPairLo_eq hr, hw, he]
    simp
  · have hg : s.genericRead false r off = (s.loadReg p.def_ p.addr 0 32,
        s.setLatch r (fun l => { l with rdHi := s.loadReg p.def_ p.addr 32 32 })) := by
      unfold State.genericRead
      rw [hr]
      dsimp only
      rw [if_pos hw, if_pos he, State.clearRc_wide _ (regAt_mem hr) hw]
    rw [hb, hg]
    refine ⟨State.setBus_answer _ _ _, ?_, ?_, fun q hq => ?_, rfl⟩
    · exact congrArg Latch.rdHi (s.latch_setLatch r fun l => { l with rdHi := s.loadReg p.def_ p.addr 32 32 })
    · exact (congrArg Latch.wrLo (s.latch_setLatch r fun l => { l with rdHi := s.loadReg p.def_ p.addr 32 32 })).trans rfl
    · exact s.latch_setLatch_ne (fun l => { l with rdHi := s.loadReg p.def_ p.addr 32 32 }) hq
  · change Host.Outcome.next _ = _
    rw [hoff, isPairHi_eq hr, hw]
    simp [he]
  · have hg : s.genericRead false r off = ((s.latch r).rdHi, s) := by
      unfold State.genericRead
      rw [hr]
      dsimp only
      rw [if_pos hw, if_neg he]
    rw [hb, hg]
    exact ⟨State.setBus_answer _ _ _, rfl⟩

/-- A write of a pair that is open is a write by the rule of pairs. -/
theorem State.regWrite_pair (s : State) {r : Req} {off : Nat} {p : RegAt} (v : Nat) (h : regAt off = some p) (ho : off < 0x4000000)
    (hw : p.def_.wide = true) (hm : s.mayWriteAt r off = true) (hn : p.def_.name ≠ .DMC_EADDR) :
    s.regWrite r off v = if off = p.addr then s.pairLoWrite r p v else s.pairHiWrite r p v := by
  have hs := regAt_mem h
  rw [s.regWrite_file v h ho hm (regDefs_write _ hs (.inr hw)), s.regFileWrite_wide r v h hw (regDefs_dmc _ hs hw hn)]

/-- Without a check of its own, the high word of an open pair commits the 64 bits. -/
theorem State.pairHiWrite_commit (s : State) (r : Req) {p : RegAt} (v : Nat) (ho : s.pairOpen p = true)
    (h1 : p.def_.name ≠ .GLB_ECLK_FW) (h2 : p.def_.name ≠ .TMB_INC) :
    (s.pairHiWrite r p v).2 = (s.setLatch r (fun l => { l with wrLo := none })).storeReg p.def_ p.addr 0 64
      ((s.latch r).wrLo.getD (s.loadReg p.def_ p.addr 0 32) + 2 ^ 32 * v) := by
  unfold State.pairHiWrite
  rw [ho, if_neg (by decide)]
  dsimp only
  split
  · exact absurd ‹_› h1
  · exact absurd ‹_› h2
  · rfl

theorem RegDef.size_wide {d : RegDef} (h : d.wide = true) : 64 = 8 * d.size := by simp [RegDef.size, h]

theorem RegDef.size_word {d : RegDef} (h : d.wide = false) : 32 = 8 * d.size := by simp [RegDef.size, h]

/-- Settles O2: the low word is held, the high word stores the whole register. -/
theorem pairWriteCommitsAllBits : Obligations.PairWriteCommitsAllBits := by
  rintro s r a v off p hoff hp hr hw hm hopen hname
  have ho : off < 0x4000000 := hoff ▸ barOff_lt r a
  have hwr := s.regWrite_pair v.toNat hr ho hw hm hname
  refine ⟨fun he => ⟨(s.regWrite r off v.toNat).2, ?_, ?_⟩, fun he h1 h2 => ⟨(s.regWrite r off v.toNat).2, ?_, ?_⟩⟩
  · change Host.Outcome.next _ = _
    rw [hoff, isPairLo_eq hr, hw, he, hp]
    simp
  · rw [hwr, if_pos he, State.pairLoWrite, if_pos hopen]
    refine ⟨?_, ?_, fun q hq => s.latch_setLatch_ne _ hq, rfl⟩
    · exact congrArg Latch.wrLo (s.latch_setLatch r fun l => { l with wrLo := some v.toNat })
    · exact (congrArg Latch.rdHi (s.latch_setLatch r fun l => { l with wrLo := some v.toNat })).trans rfl
  · change Host.Outcome.next _ = _
    rw [hoff, isPairHi_eq hr, hw, hp]
    simp [he]
  · rw [hwr, if_neg he, s.pairHiWrite_commit r v.toNat hopen h1 h2]
    obtain ⟨hframe, hkeep⟩ := (s.setLatch r (fun l => { l with wrLo := none })).storeReg_onlyRegs p.def_ p.addr 0 64
      ((s.latch r).wrLo.getD (s.loadReg p.def_ p.addr 0 32) + 2 ^ 32 * v.toNat)
    refine ⟨?_, fun f hf hacc => ?_, fun f hf hacc => ?_, ?_, hkeep⟩
    · rw [hframe]
      exact congrArg Latch.wrLo (s.latch_setLatch r fun l => { l with wrLo := none })
    · rw [State.storeReg_rd _ (regAt_mem hr) _ _ (RegDef.size_wide hw) hf, hacc]
      rfl
    · rw [State.storeReg_rd _ (regAt_mem hr) _ _ (RegDef.size_wide hw) hf, hacc]
      rfl
    · rw [hframe]
      rfl

theorem State.wordWrite_plain (s : State) (r : Req) {p : RegAt} (v : Nat) (h : p.def_.name ∈ plainRegs) :
    s.wordWrite r p v = (.taken, s.storeReg p.def_ p.addr 0 32 v) := by
  obtain ⟨⟨k, _, _, _, _, _, _, _⟩, _, _⟩ := p
  revert k
  iterate 36 refine List.forall_mem_cons.2 ⟨rfl, ?_⟩
  exact List.forall_mem_nil _

/-- A plain register of one word is written by storing the word. -/
theorem State.regWrite_plain (s : State) {r : Req} {off : Nat} {p : RegAt} (v : Nat) (h : regAt off = some p) (ho : off < 0x4000000)
    (hw : p.def_.wide = false) (hm : s.mayWriteAt r off = true) (hn : p.def_.name ∈ plainRegs) :
    s.regWrite r off v = (.taken, s.storeReg p.def_ p.addr 0 32 v) := by
  have hs := regAt_mem h
  have hb := regAt_bounds h
  have hr : p.def_.name ∉ [RegName.GLB_RESET, .GLB_FWLOAD] := by
    generalize p.def_.name = k at hn
    revert k
    decide
  have hz := RegDef.off_all ((regDefs_plain _ hs).resolve_right (· hn)) hb.2.2.1 hb.2.2.2
  have z (i : Fin 3) := hz fileZones[i] (List.getElem_mem _)
  refine (s.regWrite_file v h ho hm (regDefs_write _ hs (.inl hr))).trans ((if_neg (z 0)).trans ?_)
  rw [h]
  exact (if_neg (by rw [hw]; decide)).trans ((if_neg (z 1)).trans ((if_neg (z 2)).trans (s.wordWrite_plain r v hn)))

/-- Settles O3: a register without a rule of its own takes the word field by field. -/
theorem plainWriteFollowsAccessTypes : Obligations.PlainWriteFollowsAccessTypes := by
  rintro s r a v off p hoff hp hr hw hm hn
  have ho : off < 0x4000000 := hoff ▸ barOff_lt r a
  refine ⟨s.storeReg p.def_ p.addr 0 32 v.toNat, ?_, fun f hf => ?_, s.storeReg_onlyRegs p.def_ p.addr 0 32 v.toNat⟩
  · change Host.Outcome.next _ = _
    rw [hoff, isPairLo_eq hr, isPairHi_eq hr, hw, hp, s.regWrite_plain v.toNat hr ho hw hm hn]
    simp
  · exact s.storeReg_rd (regAt_mem hr) _ _ (RegDef.size_word hw) hf

/-- Settles O4: off the pads and the time registers, a word is read by the general rule, which clears its RC fields. -/
theorem readClearsReadToClearFields : Obligations.ReadClearsReadToClearFields := by
  refine ⟨?_, ?_⟩
  · rintro s r a off p hoff hp hr hw hm hn
    have ho : off < 0x4000000 := hoff ▸ barOff_lt r a
    have hs := regAt_mem hr
    obtain ⟨hpw, hsz⟩ := regDefs_fields _ hs
    have hfil : p.def_.fields.filter (fun f => f.acc = .rc && decide (0 ≤ f.lo) && decide (f.lo < 0 + 32)) =
        p.def_.fields.filter (fun f => f.acc = .rc) := by
      refine List.filter_congr fun f hf => ?_
      have h1 := hsz f hf
      have h2 := RegDef.size_word hw
      simp only [Nat.zero_le, decide_true, Bool.and_true, show f.lo < 0 + 32 by omega]
    have hb : s.busRead r off = (s.clearRc false p.def_ p.addr 0 32).setBus r (s.loadReg p.def_ p.addr 0 32) := by
      rw [s.busRead_generic hr ho hp hm (regDefs_readWord _ hs hw hn), State.genericRead, hr]
      dsimp only
      rw [if_neg (by simp [hw])]
    refine ⟨s.busRead r off, ?_, ?_⟩
    · change Host.Outcome.next _ = _
      rw [hoff, isPairLo_eq hr, isPairHi_eq hr, hw]
      simp
    · rw [hb]
      refine ⟨State.setBus_answer _ _ _, fun f hf hacc => ?_, ?_, fun g hg => ?_⟩
      · change (s.clearRc false p.def_ p.addr 0 32).rd _ = 0
        rw [State.clearRc, if_neg (by decide), hfil]
        have hf' : f ∈ p.def_.fields.filter (fun f => f.acc = .rc) := List.mem_filter.mpr ⟨hf, by simp [hacc]⟩
        refine s.eachClr_same p.addr _ hf' fun g hg e => ?_
        exact List.inj_on_of_nodup_map (List.pairwise_map.mpr hpw) (List.mem_of_mem_filter hg) hf e
      · exact ((s.clearRc_changes false p.def_ p.addr 0 32).mono.then (State.setBus_changes _ r _) : Changes (Part.regs ||| Part.bus) s _).merge_eq
      · change (s.clearRc false p.def_ p.addr 0 32).rd g = s.rd g
        rw [State.clearRc, if_neg (by decide), hfil]
        refine (s.eachClr_rd p.addr _ g).resolve_right fun ⟨f, hf, e⟩ => hg ?_
        rw [e]
        exact List.mem_map_of_mem (List.mem_map_of_mem hf)
  · rintro s r a off hoff hp hlo hhi hm
    refine ⟨s.setBus r 0, ?_, State.setBus_answer _ _ _, rfl⟩
    have hb : s.busRead r off = s.setBus r 0 := by
      unfold State.busRead State.regRead
      rw [hp, hm]
      simp
    change Host.Outcome.next _ = _
    rw [hoff, hlo, hhi, hb]
    simp

end Sys2Proof.Machine

end

/-! PROOFS. Reading registers across changes, and the statements about ECLK and REFCLK (R27-R30, R394) and the behaviour level. -/

section

namespace Sys2Proof.Machine

set_option Elab.async false

/-! ## Registers across changes -/

/-- A change outside the register store keeps every register. -/
theorem State.rd_of_regs {s t : State} (h : t.regs = s.regs) (f : Fld) : t.rd f = s.rd f := by
  unfold State.rd
  rw [h]

@[simp] theorem State.rd_bankWrite (s : State) (h a n v : Nat) (g : Fld) : (s.bankWrite h a n v).rd g = s.rd g := rfl
@[simp] theorem State.rd_dramWrite (s : State) (h a n v : Nat) (g : Fld) : (s.dramWrite h a n v).rd g = s.rd g := rfl
@[simp] theorem State.rd_setBus (s : State) (r : Req) (v : Nat) (g : Fld) : (s.setBus r v).rd g = s.rd g := rfl
@[simp] theorem State.rd_setHeld (s : State) (r : Req) (word : Nat) (v : Option Nat) (g : Fld) : (s.setHeld r word v).rd g = s.rd g := rfl
@[simp] theorem State.rd_setLatch (s : State) (r : Req) (f : Latch → Latch) (g : Fld) : (s.setLatch r f).rd g = s.rd g := rfl
@[simp] theorem State.rd_setTb (s : State) (h : Nat) (t : Tb) (g : Fld) : (s.setTb h t).rd g = s.rd g := rfl
@[simp] theorem State.rd_updBank (s : State) (h : Nat) (f : BankHalf → BankHalf) (g : Fld) : (s.updBank h f).rd g = s.rd g := rfl
@[simp] theorem State.rd_updBay (s : State) (b : Nat) (f : BaySt → BaySt) (g : Fld) : (s.updBay b f).rd g = s.rd g := rfl
@[simp] theorem State.rd_updChan (s : State) (c : Nat) (f : ChanSt → ChanSt) (g : Fld) : (s.updChan c f).rd g = s.rd g := rfl
@[simp] theorem State.rd_updClk (s : State) (h : Nat) (f : ClkHalf → ClkHalf) (g : Fld) : (s.updClk h f).rd g = s.rd g := rfl
@[simp] theorem State.rd_updCtx (s : State) (n : Nat) (f : CtxSt → CtxSt) (g : Fld) : (s.updCtx n f).rd g = s.rd g := rfl
@[simp] theorem State.rd_updDmc (s : State) (n : Nat) (f : DmcSt → DmcSt) (g : Fld) : (s.updDmc n f).rd g = s.rd g := rfl
@[simp] theorem State.rd_updEng (s : State) (n : Nat) (f : Engine → Engine) (g : Fld) : (s.updEng n f).rd g = s.rd g := rfl
@[simp] theorem State.rd_updFcg (s : State) (h i : Nat) (f : FcgSt → FcgSt) (g : Fld) : (s.updFcg h i f).rd g = s.rd g := rfl
@[simp] theorem State.rd_updFn (s : State) (n : Nat) (f : FnSt → FnSt) (g : Fld) : (s.updFn n f).rd g = s.rd g := rfl
@[simp] theorem State.rd_updHj (s : State) (f : HjSt → HjSt) (g : Fld) : (s.updHj f).rd g = s.rd g := rfl
@[simp] theorem State.rd_updNi (s : State) (id : Nat) (f : NiSt → NiSt) (g : Fld) : (s.updNi id f).rd g = s.rd g := rfl
@[simp] theorem State.rd_updPin (s : State) (p : Nat) (f : PinSt → PinSt) (g : Fld) : (s.updPin p f).rd g = s.rd g := rfl
@[simp] theorem State.rd_updSup (s : State) (h : Nat) (f : SupSt → SupSt) (g : Fld) : (s.updSup h f).rd g = s.rd g := rfl
@[simp] theorem State.rd_updTime (s : State) (f : TimeSt → TimeSt) (g : Fld) : (s.updTime f).rd g = s.rd g := rfl
@[simp] theorem State.rd_updTrc (s : State) (h : Nat) (f : TraceSt → TraceSt) (g : Fld) : (s.updTrc h f).rd g = s.rd g := rfl

theorem State.keepsRegs_of_regs {s t : State} (h : t.regs = s.regs) (fs : List Fld) : s.keepsRegs t fs :=
  fun g _ => State.rd_of_regs h g

theorem State.keepsRegs.trans {s t u : State} {fs : List Fld} (h : s.keepsRegs t fs) (k : t.keepsRegs u fs) : s.keepsRegs u fs :=
  fun g hg => (k g hg).trans (h g hg)

theorem State.keepsRegs.mono {s t : State} {fs gs : List Fld} (h : s.keepsRegs t fs) (k : ∀ f ∈ fs, f ∈ gs) : s.keepsRegs t gs := by
  refine fun g hg => h g fun hm => hg ?_
  obtain ⟨f, hf, e⟩ := List.mem_map.mp hm
  exact List.mem_map.mpr ⟨f, k f hf, e⟩

theorem State.keepsRegs_wr (s : State) {f : Fld} (v : Nat) {fs : List Fld} (hf : f ∈ fs) : s.keepsRegs (s.wr f v) fs := by
  refine fun g hg => s.rd_wr_ne v fun e => hg ?_
  rw [e]
  exact List.mem_map_of_mem hf

/-- A write of one of the named fields, after changes that keep the others. -/
theorem State.keepsRegs.wr {s t : State} {fs : List Fld} (h : s.keepsRegs t fs) {f : Fld} (v : Nat) (hf : f ∈ fs) :
    s.keepsRegs (t.wr f v) fs := h.trans (t.keepsRegs_wr v hf)

/-- A change outside the register store, after changes that keep the others. -/
theorem State.keepsRegs.of_regs {s t u : State} {fs : List Fld} (h : s.keepsRegs t fs) (k : u.regs = t.regs) : s.keepsRegs u fs :=
  h.trans (State.keepsRegs_of_regs k fs)

theorem State.keepsRegs.each {α : Type} {s t : State} {fs : List Fld} (h : s.keepsRegs t fs) (l : List α) (f : State → α → State)
    (k : ∀ (u : State), ∀ a ∈ l, u.keepsRegs (f u a) fs) : s.keepsRegs (t.each l f) fs := by
  induction l generalizing t with
  | nil => exact h
  | cons a l ih =>
    exact ih (h.trans (k t a List.mem_cons_self)) fun u b hb => k u b (List.mem_cons_of_mem _ hb)

/-! ## The behaviour level and an APPLY (R28, R462) -/

theorem State.behaviourWrite_refused (s : State) (l : Nat)
    (h : (∃ n, n < 64 ∧ s.on (F.HIF_CTX_CFG.EN n) = true) ∨ l = 0 ∨ s.rd F.GLB_BEHAVIOUR.MAX < l) : (s.behaviourWrite l).2 = s := by
  unfold State.behaviourWrite
  rw [if_pos]
  refine h.imp (fun ⟨n, hn, he⟩ => ?_) id
  exact List.any_eq_true.mpr ⟨n, List.mem_range.mpr hn, he⟩

theorem State.behaviourWrite_taken (s : State) (l : Nat) (h : ∀ n, n < 64 → s.on (F.HIF_CTX_CFG.EN n) = false) (h1 : 1 ≤ l)
    (h2 : l ≤ s.rd F.GLB_BEHAVIOUR.MAX) : (s.behaviourWrite l).2 = s.wr F.GLB_BEHAVIOUR.LEVEL l := by
  unfold State.behaviourWrite
  rw [if_neg]
  rintro (hc | hc | hc)
  · obtain ⟨n, hn, he⟩ := List.any_eq_true.mp hc
    rw [h n (List.mem_range.mp hn)] at he
    cases he
  · omega
  · omega

theorem apply_ne_abandoned (h : Nat) : (F.GLB_ECLK_CTL.APPLY h).key ≠ (F.GLB_ECLK_CTL.ABANDONED h).key := by
  simp only [F.GLB_ECLK_CTL.APPLY, F.GLB_ECLK_CTL.ABANDONED]
  omega

/-- An abandoned APPLY: the bits of ECLK_CTL and the mark, and nothing else. -/
theorem State.eclkAbandon_effect (s : State) (h : Nat) :
    (s.eclkAbandon h).rd (F.GLB_ECLK_CTL.APPLY h) = 0 ∧ (s.eclkAbandon h).rd (F.GLB_ECLK_CTL.ABANDONED h) = 1 ∧
    (s.eclkAbandon h).applyPending h = false ∧ ((s.eclkAbandon h).clk h).fw = (s.clk h).fw ∧
    s.eclkAbandon h = { s with regs := (s.eclkAbandon h).regs, clks := (s.eclkAbandon h).clks } ∧
    s.keepsRegs (s.eclkAbandon h) [F.GLB_ECLK_CTL.APPLY h, F.GLB_ECLK_CTL.ABANDONED h] := by
  have hk : (s.eclkAbandon h).clk h = { s.clk h with waiting := false } :=
    Table.get_upd_same ClkHalf.reset s.clks h fun c => { c with waiting := false }
  exact ⟨(State.rd_wr_ne _ 1 (apply_ne_abandoned h)).trans (s.rd_wr_same _ 0), State.rd_wr_same _ _ 1,
    congrArg ClkHalf.waiting hk, (congrArg ClkHalf.fw hk).trans rfl, rfl,
    ((s.keepsRegs_wr (f := F.GLB_ECLK_CTL.APPLY h) 0 (by simp)).wr (f := F.GLB_ECLK_CTL.ABANDONED h) 1 (by simp)).of_regs rfl⟩

/-- An APPLY taken: it is pending until its moment. -/
noncomputable def State.applyTaken (s : State) (h : Nat) : State :=
  ((s.setOn (F.GLB_ECLK_CTL.APPLY h)).updClk h (fun c => { c with waiting := true, sec := (s.tbase h).sec + 1 })).updTime (fun t =>
    { t with syncs := if s.applyPending (1 - h) then t.syncs else [] })

theorem State.applyTaken_clk (s : State) (h : Nat) :
    (s.applyTaken h).clk h = { s.clk h with waiting := true, sec := (s.tbase h).sec + 1 } :=
  Table.get_upd_same ClkHalf.reset s.clks h fun c => { c with waiting := true, sec := (s.tbase h).sec + 1 }

theorem State.eclkApply_busy {s : State} {h : Nat} (hr : s.halfAtRest h = false) : (s.eclkApply h).2 = s :=
  congrArg Prod.snd (if_pos (.inr (by rw [hr]; rfl)))

theorem State.eclkApply_rest {s : State} {h : Nat} (ha : s.on (F.GLB_ECLK_CTL.APPLY h) = false) (hr : s.halfAtRest h = true) :
    (s.eclkApply h).2 = s.applyTaken h :=
  congrArg Prod.snd (if_neg (by rw [ha, hr]; decide))

/-- Settles O6. -/
theorem behaviourLevelAndEclkApplyAnswerTheWriter : Obligations.BehaviourLevelAndEclkApplyAnswerTheWriter :=
  ⟨fun s _ l hm => ⟨fun h h1 h2 =>
      ⟨_, congrArg Host.Outcome.next ((if_pos hm).trans (s.behaviourWrite_taken l.val h h1 h2)),
        (s.rd_wr_same _ _).trans (Nat.mod_eq_of_lt l.isLt), rfl, s.keepsRegs_wr _ (List.mem_singleton.mpr rfl)⟩,
    fun h => congrArg Host.Outcome.next ((if_pos hm).trans (s.behaviourWrite_refused l.val h))⟩,
  fun s _ h hm => ⟨fun ha hr =>
      ⟨_, congrArg Host.Outcome.next ((if_pos hm).trans (State.eclkApply_rest ha hr)), s.rd_wr_same _ 1,
        congrArg ClkHalf.waiting (s.applyTaken_clk h), (congrArg ClkHalf.fw (s.applyTaken_clk h)).trans rfl, rfl,
        (s.keepsRegs_wr (f := F.GLB_ECLK_CTL.APPLY h) 1 (List.mem_singleton.mpr rfl)).of_regs rfl⟩,
    fun hr => congrArg Host.Outcome.next ((if_pos hm).trans (State.eclkApply_busy hr)),
    fun ha => ⟨_, congrArg Host.Outcome.next (if_pos ⟨hm, ha⟩), s.eclkAbandon_effect h⟩,
    fun ha => congrArg Host.Outcome.next (if_neg fun c => Bool.false_ne_true (ha.symm.trans c.2))⟩,
  fun s h => ⟨fun ha => ⟨_, congrArg Host.Outcome.next (if_pos ha), s.eclkAbandon_effect h⟩,
    fun ha => congrArg Host.Outcome.next (if_neg fun c => Bool.false_ne_true (ha.symm.trans c))⟩⟩

/-! ## One element after another -/

/-- What a list of changes leaves at a: what the change at a makes, where the changes at other places leave a and what decides
the change at a alone. -/
theorem State.each_get {α : Type} (get val : State → Nat → α) (f : State → Nat → State)
    (hsame : ∀ s b a, a ≠ b → get (f s b) a = get s a) (hhere : ∀ s a, get (f s a) a = val s a)
    (hval : ∀ s b a, a ≠ b → val (f s b) a = val s a) (l : List Nat) (hl : l.Nodup) (s : State) (a : Nat) :
    get (s.each l f) a = if a ∈ l then val s a else get s a := by
  induction l generalizing s with
  | nil => rfl
  | cons b l ih =>
    obtain ⟨hb, hl⟩ := List.nodup_cons.mp hl
    rw [State.each_cons, ih hl]
    by_cases e : a = b
    · subst e
      rw [if_neg hb, if_pos List.mem_cons_self, hhere]
    · have hm : a ∈ b :: l ↔ a ∈ l := by simp [e]
      by_cases ha : a ∈ l
      · rw [if_pos ha, if_pos (hm.mpr ha), hval s b a e]
      · rw [if_neg ha, if_neg fun h => ha (hm.mp h), hsame s b a e]

theorem chansOf_nodup (h : Nat) : (chansOf h).Nodup :=
  List.Nodup.map (fun a b e => by omega) List.nodup_range

theorem mem_chansOf (h c : Nat) : c ∈ chansOf h ↔ selH c = h := by
  simp only [chansOf, List.mem_map, List.mem_range, selH]
  exact ⟨fun ⟨i, hi, e⟩ => by omega, fun e => ⟨c % 128, by omega, by omega⟩⟩

/-! ## The PAUSE role now (R28, R171) -/

/-- What the role with every event happened makes of a channel's record. -/
noncomputable def State.pausing (s : State) (c : Nat) (x : ChanSt) : ChanSt :=
  if s.chanQuiet c then { x.off with role := 7 }
  else if (x.settle (2 ^ 200)).paused then { x.settle (2 ^ 200) with events := [], role := 7 }
  else { x.settle (2 ^ 200) with
    events := [], role := 7, paused := true,
    eLevel := if s.rd (F.CHN_CFG.PAUSE_DRV c) = 0 then (x.settle (2 ^ 200)).eLevel
      else decide (s.rd (F.CHN_CFG.PAUSE_DRV c) ≥ 2) && !s.on (F.CHN_CFG.LPBK c),
    dLevel := if s.rd (F.CHN_CFG.PAUSE_DRV c) = 2 then false
      else if s.rd (F.CHN_CFG.PAUSE_DRV c) = 3 then true else (x.settle (2 ^ 200)).dLevel }

theorem State.pauseNow_eq (s : State) (c : Nat) : s.pauseNow c = s.updChan c (s.pausing c) := by
  unfold State.pauseNow State.pausing
  by_cases hq : s.chanQuiet c = true
  · rw [if_pos hq]
    simp only [if_pos hq]
  · rw [if_neg hq]
    simp only [if_neg hq]

theorem State.chan_updChan (s : State) (c : Nat) (f : ChanSt → ChanSt) : (s.updChan c f).chan c = f (s.chan c) :=
  Table.get_upd_same _ _ _ _

theorem State.chan_updChan_ne (s : State) {a b : Nat} (f : ChanSt → ChanSt) (h : a ≠ b) : (s.updChan b f).chan a = s.chan a :=
  Table.get_upd_ne _ _ _ _ h

theorem State.pauses_chan (s : State) (h c : Nat) :
    (s.each (chansOf h) (fun s c => s.pauseNow c)).chan c = if selH c = h then s.pausing c (s.chan c) else s.chan c := by
  have hg := State.each_get State.chan (fun s c => s.pausing c (s.chan c)) (fun s c => s.pauseNow c)
    (fun s b a e => by rw [s.pauseNow_eq, s.chan_updChan_ne _ e]) (fun s a => by rw [s.pauseNow_eq, s.chan_updChan])
    (fun s b a e => by
      rw [s.pauseNow_eq, s.chan_updChan_ne _ e]
      rfl) (chansOf h) (chansOf_nodup h) s c
  simpa only [mem_chansOf] using hg

/-- A channel in the PAUSE role has no event left; it is off where it must not drive, and has applied its policy otherwise. -/
theorem State.pausing_effect (s : State) (c : Nat) (x : ChanSt) : (s.pausing c x).role = 7 ∧ (s.pausing c x).events = [] ∧
    (if s.chanQuiet c = true then (s.pausing c x).dLevel = false ∧ (s.pausing c x).eLevel = false
      else (s.pausing c x).paused = true) := by
  unfold State.pausing
  by_cases hq : s.chanQuiet c = true
  · rw [if_pos hq, if_pos hq]
    exact ⟨rfl, rfl, rfl, rfl⟩
  · rw [if_neg hq, if_neg hq]
    split
    · exact ⟨rfl, rfl, ‹_›⟩
    · exact ⟨rfl, rfl, rfl⟩

/-! ## RATE_ERR after a relock (R186) -/

theorem State.rd_restChan (s : State) (c : Nat) (g : Fld) : (s.restChan c).rd g = s.rd g :=
  State.rd_of_regs ((s.restChan_changes c).regs rfl) g

theorem State.clk_restChan (s : State) (c h : Nat) : (s.restChan c).clk h = s.clk h :=
  congrArg (fun t => Table.get ClkHalf.reset t h) ((s.restChan_changes c).clks rfl)

/-- What RATE_ERR of a channel shows: a serial channel out of its rate. -/
noncomputable def State.rateErr (s : State) (c : Nat) : Nat := b2n (s.serial c && s.rateBad (s.clk (selH c)).fw (s.uic c))

theorem State.eff_of_rd {s t : State} {f : Fld} (h : t.rd f = s.rd f) : t.eff f = s.eff f := by
  rw [State.eff, h, State.eff]

theorem State.rateErr_of {s t : State} {c : Nat} (hm : t.rd (F.CHN_CFG.MODE c) = s.rd (F.CHN_CFG.MODE c))
    (hu : t.rd (F.CHN_CFG.UIC c) = s.rd (F.CHN_CFG.UIC c)) (hg : t.rd F.GLB_ID.GRADE = s.rd F.GLB_ID.GRADE)
    (hc : (t.clk (selH c)).fw = (s.clk (selH c)).fw) : t.rateErr c = s.rateErr c := by
  have hs : t.serial c = s.serial c := by rw [State.serial, State.eff_of_rd hm, State.serial]
  have hi : t.uic c = s.uic c := by rw [State.uic, State.eff_of_rd hu, State.uic]
  have hb : t.grade12 = s.grade12 := by rw [State.grade12, State.on, hg, State.grade12, State.on]
  rw [State.rateErr, hs, hi, hc, State.rateBad, hb, State.rateErr, State.rateBad]

theorem State.checkRate_frame (s : State) (c : Nat) :
    (s.checkRate c).regs = (s.wr (F.CHN_STAT.RATE_ERR c) (s.rateErr c)).regs ∧ (s.checkRate c).clks = s.clks := by
  have hc := (s.wr (F.CHN_STAT.RATE_ERR c) (s.rateErr c)).restChan_changes c
  exact ⟨hc.regs rfl, (hc.clks rfl).trans (State.wr_clks _ _ _)⟩

theorem State.checkRate_rd (s : State) {b : Nat} (g : Fld) (h : g.key ≠ (F.CHN_STAT.RATE_ERR b).key) :
    (s.checkRate b).rd g = s.rd g := (State.rd_restChan _ b g).trans (s.rd_wr_ne _ h)

theorem State.checkRate_rateErr (s : State) (a : Nat) : (s.checkRate a).rd (F.CHN_STAT.RATE_ERR a) = s.rateErr a := by
  refine ((State.rd_restChan _ a _).trans (s.rd_wr_same _ _)).trans (Nat.mod_eq_of_lt ?_)
  change b2n _ < 2 ^ 1
  unfold b2n
  split <;> omega

theorem State.checkRate_keeps_rateErr (s : State) (b a : Nat) : (s.checkRate b).rateErr a = s.rateErr a := by
  refine State.rateErr_of (s.checkRate_rd _ ?_) (s.checkRate_rd _ ?_) (s.checkRate_rd _ ?_) ?_
  · simp only [F.CHN_CFG.MODE, F.CHN_STAT.RATE_ERR]
    omega
  · simp only [F.CHN_CFG.UIC, F.CHN_STAT.RATE_ERR]
    omega
  · simp only [F.GLB_ID.GRADE, F.CHN_STAT.RATE_ERR]
    omega
  · rw [State.checkRate, State.clk_restChan]
    rfl

theorem State.checkRates_rd (s : State) {h c : Nat} (hc : selH c = h) :
    (s.each (chansOf h) (fun s c => s.checkRate c)).rd (F.CHN_STAT.RATE_ERR c) = s.rateErr c := by
  refine (State.each_get (fun s c => s.rd (F.CHN_STAT.RATE_ERR c)) State.rateErr _ (fun s b a e => s.checkRate_rd _ ?_)
    (fun s a => s.checkRate_rateErr a) (fun s b a _ => s.checkRate_keeps_rateErr b a) _ (chansOf_nodup h) s c).trans
      (if_pos ((mem_chansOf h c).mpr hc))
  simp only [F.CHN_STAT.RATE_ERR]
  omega

theorem State.checkRates_keep (s : State) {h : Nat} (g : Fld) (hg : ∀ c, g.key ≠ (F.CHN_STAT.RATE_ERR c).key) :
    (s.each (chansOf h) (fun s c => s.checkRate c)).rd g = s.rd g :=
  State.each_same (fun t => t.rd g) s _ _ fun t c => t.checkRate_rd g (hg c)

theorem State.checkRates_keepsRegs (s : State) (h : Nat) :
    s.keepsRegs (s.each (chansOf h) (fun s c => s.checkRate c)) ((chansOf h).map (fun c => F.CHN_STAT.RATE_ERR c)) := by
  refine (State.keepsRegs_of_regs rfl _).each _ _ fun u c hc => ?_
  exact (u.keepsRegs_wr (u.rateErr c) (List.mem_map_of_mem (f := F.CHN_STAT.RATE_ERR) hc)).of_regs (u.checkRate_frame c).1

theorem State.checkRates_clks (s : State) (h : Nat) : (s.each (chansOf h) (fun s c => s.checkRate c)).clks = s.clks :=
  State.each_same State.clks s _ _ fun t c => (t.checkRate_frame c).2

/-! ## The moment, the relock and the loss of lock -/

theorem locked_ne_lockloss (h : Nat) : (F.GLB_ECLK_CTL.LOCKLOSS h).key ≠ (F.GLB_ECLK_CTL.LOCKED h).key := by
  simp only [F.GLB_ECLK_CTL.LOCKLOSS, F.GLB_ECLK_CTL.LOCKED]
  omega

theorem locked_ne_apply (h : Nat) : (F.GLB_ECLK_CTL.LOCKED h).key ≠ (F.GLB_ECLK_CTL.APPLY h).key := by
  simp only [F.GLB_ECLK_CTL.APPLY, F.GLB_ECLK_CTL.LOCKED]
  omega

theorem rateErr_ne_eclkCtl (h : Fin 2) : (∀ c, (F.GLB_ECLK_CTL.LOCKED h).key ≠ (F.CHN_STAT.RATE_ERR c).key) ∧
    ∀ c, (F.GLB_ECLK_CTL.APPLY h).key ≠ (F.CHN_STAT.RATE_ERR c).key := by
  simp only [F.GLB_ECLK_CTL.APPLY, F.GLB_ECLK_CTL.LOCKED, F.CHN_STAT.RATE_ERR]
  exact ⟨fun c => by omega, fun c => by omega⟩

/-- The half's PLL at the moment, before the channels take their role. -/
noncomputable def State.realigned (s : State) (h : Nat) : State :=
  let t := ((s.updClk h (fun c => { c with
    fw := s.rd (F.GLB_ECLK_FW.FW h), waiting := false, gated := true, stopped := false, seeds := c.seeds + 1 })).setOn
      (F.GLB_ECLK_CTL.LOCKLOSS h)).clr (F.GLB_ECLK_CTL.LOCKED h)
  if s.eff (F.GLB_ECLK_CTL.ALIGN_SRC h) = 1 then t.updTime (fun u => { u with
    syncs := u.syncs.filter (fun q => !((t.tbase h).reached q.1 q.2) || (t.applyPending (1 - h))) }) else t

theorem State.realigned_regs (s : State) (h : Nat) :
    (s.realigned h).regs = ((s.wr (F.GLB_ECLK_CTL.LOCKLOSS h) 1).wr (F.GLB_ECLK_CTL.LOCKED h) 0).regs := by
  unfold State.realigned
  dsimp only
  split <;> rfl

theorem State.realigned_clk (s : State) (h : Nat) :
    (s.realigned h).clk h = { s.clk h with
      fw := s.rd (F.GLB_ECLK_FW.FW h), waiting := false, gated := true, stopped := false, seeds := (s.clk h).seeds + 1 } := by
  unfold State.realigned
  dsimp only
  split <;> simp [State.clk]

theorem State.realigned_chans (s : State) (h : Nat) : (s.realigned h).chans = s.chans := by
  unfold State.realigned
  dsimp only
  split <;> rfl

theorem State.realigned_quiet (s : State) {h c : Nat} (hc : selH c = h) :
    (s.realigned h).chanQuiet c = (s.updClk h (fun k => { k with stopped := false })).chanQuiet c := by
  have hr : ∀ g : Fld, g.key ≠ (F.GLB_ECLK_CTL.LOCKLOSS h).key → g.key ≠ (F.GLB_ECLK_CTL.LOCKED h).key →
      (s.realigned h).rd g = s.rd g := fun g h1 h2 =>
    ((State.rd_of_regs (s.realigned_regs h) g).trans (State.rd_wr_ne _ _ h2)).trans (s.rd_wr_ne _ h1)
  have hd : (s.realigned h).drives = s.drives := by
    unfold State.realigned
    dsimp only
    split <;> rfl
  have hk : ((s.realigned h).clk (selH c)).stopped = false := by rw [hc, s.realigned_clk h]
  have hu : ((s.updClk h (fun k => { k with stopped := false })).clk (selH c)).stopped = false := by
    rw [hc, State.clk, State.updClk_clks, Table.get_upd_same]
  simp only [State.chanQuiet, State.chFenced, State.on, hd, hk, hu, State.rd_updClk, State.updClk_drives]
  rw [hr, hr, hr, hr]
  all_goals
    simp only [F.GLB_STATE.STATE, F.CHN_STAT.FENCED, F.CHN_STAT.RATE_ERR, F.CHN_STAT.MODE_CHG, F.GLB_ECLK_CTL.LOCKED,
      F.GLB_ECLK_CTL.LOCKLOSS]
    omega

theorem State.eclkAlignMoment_eq (s : State) (h : Fin 2) (hp : s.applyPending h = true) (hm : s.alignMoment h = true) :
    execEclkAlignMoment h s = .next ((s.realigned h).each (chansOf h) (fun s c => s.pauseNow c)) := by
  unfold execEclkAlignMoment State.realigned
  rw [if_pos ⟨hp, hm⟩]

theorem State.pauses_same {β : Type} (get : State → β) (hget : ∀ (t : State) (c : Nat) f, get (t.updChan c f) = get t) (s : State)
    (h : Nat) : get (s.each (chansOf h) (fun s c => s.pauseNow c)) = get s :=
  State.each_same get s _ _ fun t c => t.pauseNow_eq c ▸ hget t c _

theorem State.realign_rd (s : State) (h : Nat) (g : Fld) : ((s.realigned h).each (chansOf h) (fun s c => s.pauseNow c)).rd g =
    ((s.wr (F.GLB_ECLK_CTL.LOCKLOSS h) 1).wr (F.GLB_ECLK_CTL.LOCKED h) 0).rd g :=
  State.rd_of_regs ((State.pauses_same State.regs (fun _ _ _ => rfl) _ _).trans (s.realigned_regs h)) g

theorem State.realign_clk (s : State) (h : Nat) : ((s.realigned h).each (chansOf h) (fun s c => s.pauseNow c)).clk h =
    { s.clk h with
      fw := s.rd (F.GLB_ECLK_FW.FW h), waiting := false, gated := true, stopped := false, seeds := (s.clk h).seeds + 1 } :=
  (State.pauses_same (fun t => t.clk h) (fun _ _ _ => rfl) _ _).trans (s.realigned_clk h)

theorem State.realign_chan (s : State) (h c : Nat) {x : ChanSt}
    (hx : ((s.realigned h).each (chansOf h) (fun s c => s.pauseNow c)).chan c = x) :
    if selH c = h then x.role = 7 ∧ x.events = [] ∧
      (if (s.updClk h (fun k => { k with stopped := false })).chanQuiet c = true then x.dLevel = false ∧ x.eLevel = false
        else x.paused = true)
    else x = s.chan c := by
  rw [State.pauses_chan] at hx
  subst hx
  by_cases hc : selH c = h
  · rw [if_pos hc, if_pos hc, ← s.realigned_quiet hc]
    exact (s.realigned h).pausing_effect c _
  · rw [if_neg hc, if_neg hc, State.chan, s.realigned_chans, State.chan]

/-- The PLL after its relock: locked, its clock running. -/
noncomputable def State.relocked (s : State) (h : Nat) : State :=
  (s.setOn (F.GLB_ECLK_CTL.LOCKED h)).updClk h (fun c => { c with gated := false })

theorem State.relocked_clk {s t : State} {h : Nat} (ht : t.clks = (s.relocked h).clks) :
    t.clk h = { s.clk h with gated := false } := by
  rw [State.clk, ht]
  exact Table.get_upd_same ClkHalf.reset s.clks h fun c => { c with gated := false }

/-- The relock that ends an APPLY, before the channels check their rates. -/
noncomputable def State.applied (s : State) (h : Nat) : State := (s.relocked h).clr (F.GLB_ECLK_CTL.APPLY h)

theorem State.applied_rd_ne (s : State) {h : Nat} {g : Fld} (h1 : g.key ≠ (F.GLB_ECLK_CTL.LOCKED h).key)
    (h2 : g.key ≠ (F.GLB_ECLK_CTL.APPLY h).key) : (s.applied h).rd g = s.rd g :=
  (State.rd_wr_ne _ 0 h2).trans (s.rd_wr_ne 1 h1)

theorem State.applied_rateErr (s : State) {h c : Nat} (hc : selH c = h) : (s.applied h).rateErr c = s.rateErr c := by
  refine State.rateErr_of (s.applied_rd_ne ?_ ?_) (s.applied_rd_ne ?_ ?_) (s.applied_rd_ne ?_ ?_)
    (hc ▸ (congrArg ClkHalf.fw (State.relocked_clk (s := s) (h := selH c) (t := s.applied (selH c)) rfl)).trans rfl)
  all_goals
    simp only [F.CHN_CFG.MODE, F.CHN_CFG.UIC, F.GLB_ID.GRADE, F.GLB_ECLK_CTL.LOCKED, F.GLB_ECLK_CTL.APPLY]
    omega

theorem State.applied_rates (s : State) {h c : Nat} (hc : selH c = h) :
    ((s.applied h).each (chansOf h) (fun s c => s.checkRate c)).rd (F.CHN_STAT.RATE_ERR c) =
      if s.serial c = true ∧ s.rateBad (s.clk h).fw (s.uic c) = true then 1 else 0 := by
  refine (State.checkRates_rd _ hc).trans ((s.applied_rateErr hc).trans ?_)
  rw [State.rateErr, hc]
  cases s.serial c <;> cases s.rateBad (s.clk h).fw (s.uic c) <;> rfl

theorem State.applied_keepsRegs (s : State) (h : Nat) :
    s.keepsRegs ((s.applied h).each (chansOf h) (fun s c => s.checkRate c))
      (F.GLB_ECLK_CTL.LOCKED h :: F.GLB_ECLK_CTL.APPLY h :: (chansOf h).map (fun c => F.CHN_STAT.RATE_ERR c)) := by
  refine State.keepsRegs.trans ?_ ((State.checkRates_keepsRegs _ h).mono fun f hf => by simp [hf])
  exact ((s.keepsRegs_wr (f := F.GLB_ECLK_CTL.LOCKED h) 1 (by simp)).of_regs rfl).wr (f := F.GLB_ECLK_CTL.APPLY h) 0 (by simp)

section
variable {s : State} {h : Fin 2} (he : s.on (F.GLB_ECLK_CTL.EN h) = true) (hl : s.on (F.GLB_ECLK_CTL.LOCKED h) = false)
  (hs : (s.clk h).stopped = false) (hr : s.time.refLost = false)
include he hl hs hr

theorem execEclkRelock_applied (hg : (s.clk h).gated = true) (hp : s.applyPending h = false) :
    execEclkRelock h s = .next ((s.applied h).each (chansOf h) (fun s c => s.checkRate c)) :=
  congrArg Host.Outcome.next ((if_pos ⟨he, by rw [hl]; rfl, by rw [hs]; rfl, by rw [hr]; rfl⟩).trans
    (if_pos (by rw [hg, hp]; rfl)))

theorem execEclkRelock_relocked (hd : ¬ ((s.clk h).gated = true ∧ s.applyPending h = false)) :
    execEclkRelock h s = .next (s.relocked h) :=
  congrArg Host.Outcome.next ((if_pos ⟨he, by rw [hl]; rfl, by rw [hs]; rfl, by rw [hr]; rfl⟩).trans (if_neg (by simpa using hd)))
end

/-- Settles O7. -/
theorem eclkRealignsPausesAndRelocks : Obligations.EclkRealignsPausesAndRelocks := by
  refine fun s h => ⟨fun hp hm => ?_, fun he hl hs hr => ?_, ?_⟩
  · have ha := s.eclkAlignMoment_eq h hp hm
    have hk := s.realign_clk h
    exact ⟨_, ha, congrArg ClkHalf.fw hk, congrArg ClkHalf.seeds hk, congrArg ClkHalf.gated hk, congrArg ClkHalf.waiting hk,
      (s.realign_rd h _).trans (State.rd_wr_same _ _ 0),
      ((s.realign_rd h _).trans (State.rd_wr_ne _ _ (locked_ne_lockloss h))).trans (s.rd_wr_same _ 1),
      fun c _ => s.realign_chan h c rfl, ((execEclkAlignMoment_answers h s).changes ha).merge_eq,
      fun g hg => (s.realign_rd h g).trans
        ((s.keepsRegs_wr (f := F.GLB_ECLK_CTL.LOCKLOSS h) 1 (by simp)).wr (f := F.GLB_ECLK_CTL.LOCKED h) 0 (by simp) g hg)⟩
  · by_cases hd : (s.clk h).gated = true ∧ s.applyPending h = false
    · have hx := execEclkRelock_applied he hl hs hr hd.1 hd.2
      have hk := State.relocked_clk (State.checkRates_clks (s.applied h) h)
      exact ⟨_, hx, (State.checkRates_keep _ _ (rateErr_ne_eclkCtl h).1).trans
          ((State.rd_wr_ne _ 0 (locked_ne_apply h)).trans (s.rd_wr_same _ 1)),
        congrArg ClkHalf.gated hk, (congrArg ClkHalf.fw hk).trans rfl,
        fun _ _ => ⟨(State.checkRates_keep _ _ (rateErr_ne_eclkCtl h).2).trans (State.rd_wr_same _ _ 0), fun c _ hc => s.applied_rates hc⟩,
        fun hg => absurd (hd.1.symm.trans hg) (by decide), ((execEclkRelock_answers h s).changes hx).merge_eq, s.applied_keepsRegs h⟩
    · have hx := execEclkRelock_relocked he hl hs hr hd
      have hk := State.relocked_clk (t := s.relocked h) rfl
      exact ⟨_, hx, s.rd_wr_same _ 1, congrArg ClkHalf.gated hk, (congrArg ClkHalf.fw hk).trans rfl, fun h1 h2 => absurd ⟨h1, h2⟩ hd,
        fun _ => ⟨(s.keepsRegs_wr (f := F.GLB_ECLK_CTL.LOCKED h) 1 (by simp)).of_regs rfl, rfl⟩,
        ((execEclkRelock_answers h s).changes hx).merge_eq, (s.keepsRegs_wr (f := F.GLB_ECLK_CTL.LOCKED h) 1 (by simp)).of_regs rfl⟩
  · exact ⟨_, rfl, (State.rd_wr_ne _ _ (locked_ne_lockloss h)).trans (s.rd_wr_same _ 1), State.rd_wr_same _ _ 0, rfl,
      (s.keepsRegs_wr (f := F.GLB_ECLK_CTL.LOCKLOSS h) 1 (by simp)).wr (f := F.GLB_ECLK_CTL.LOCKED h) 0 (by simp)⟩

end Sys2Proof.Machine

end

/-! PROOFS. The end of a job: what JOB_STOP does to a state whose vector reserves entries in a bay that no part has. -/

section

namespace Sys2Proof.Machine

set_option Elab.async false

/-- A PATTERN job with the resource word of engine 0. -/
noncomputable def strayJob : Job := { Job.fresh 1 (BitVec.ofNat 512 (2 * 2 ^ 64)) 0 with phase := .running, permitted := true }
/-- A vector whose reservation is of a bay that no part has: 0x10000. -/
noncomputable def strayVec : Vec := ⟨0, 0, 0, 0, 0, 0, 0, 0, [], 0, none, [], [], false, [], [(0x10000, 0)], []⟩
/-- A running job whose one engine has stopped, its vector still holding that reservation. -/
noncomputable def strayState : State := { State.reset with
  ctxs := [(0, { CtxSt.reset with jobs := [strayJob] })]
  engs := [(0, { Engine.reset with ctx := some 0, stopped := true, vecs := [strayVec] })]
  regs := [(0x10080040, 5)] }

theorem strayState_jobSlots : strayState.jobSlots 0 = [0] := by decide +kernel
theorem strayState_still : strayState.jobStill 0 = true := by decide +kernel
theorem strayState_fedBy : strayState.fedBy 0 = [] := by decide +kernel
theorem State.squashTokens_none (s : State) (n : Nat) (h : ∀ b, (s.bay b).tokens = []) :
    s.squashTokens n = s := by
  have hs : ∀ le tag, s.streamToken n le tag false = s := fun le tag =>
    State.each_keeps (fun t => t = s) s _ _ (fun t b ht => by rw [ht, h]; rfl) rfl
  exact State.each_keeps (fun t => t = s) s _ _ (fun t b ht => by rw [ht, hs]) rfl
theorem strayState_squashTokens : strayState.squashTokens 0 = strayState := State.squashTokens_none _ _ fun _ => rfl

/-- JOB_STOP of a still job, step by step: the tokens are squashed, each engine's JOB_END follows its last word, the job's record
takes its counts, and the slots are freed. -/
theorem jobStop_steps (s : State) (c : Fin 64) (j : Job) (hf : s.front c = some j)
    (hc : j.phase = .running ∧ dType j.desc = 2 ∧ !j.restart ∧ s.jobStill c) : ∃ f : Job → Job,
    execJobStop c s = .next (((((s.each (s.jobSlots c) (fun s n => s.squashTokens n)).each (s.jobSlots c) (fun s n =>
      s.each (baysOf (s.fedBy n)) (fun s b => s.jobMark b 2 (s.leOf n) c j.seq))).updFront c f)).each (s.jobSlots c) (fun s n =>
        (s.each (s.eng n).vecs (fun s v => s.freeVec n v)).freeSlot n)) := by
  unfold execJobStop
  rw [hf]
  dsimp only
  rw [if_pos hc]
  exact ⟨_, rfl⟩

theorem strayState_jobStop : ∃ f : Job → Job,
    execJobStop 0 strayState = .next (((strayState.updFront 0 f).freeVec 0 strayVec).freeSlot 0) := by
  obtain ⟨f, hf⟩ := jobStop_steps strayState 0 strayJob rfl ⟨rfl, by decide +kernel, rfl, strayState_still⟩
  have hv : ∀ f, ((strayState.updFront 0 f).eng 0).vecs = [strayVec] := fun _ => rfl
  simp only [Fin.val_zero, strayState_jobSlots, strayState_fedBy, strayState_squashTokens, State.each_cons, State.each_nil, baysOf, List.any_nil, List.filter_false, hv] at hf
  exact ⟨f, hf⟩

/-- Refutes O28: JOB_STOP frees a vector's reservation in a bay that no part has, and so writes a register outside the engine and
fail blocks. -/
theorem not_jobsEndInStepsAndStreamsTakeTheirSettings : ¬ Obligations.JobsEndInStepsAndStreamsTakeTheirSettings := by
  rintro ⟨-, h, -⟩
  obtain ⟨t, ht, -, -, -, hout⟩ := (h strayState 0 strayJob rfl).1 rfl (by decide +kernel) rfl strayState_still
  obtain ⟨f, hf⟩ := strayState_jobStop
  cases ht.symm.trans hf
  have h1 := hout (F.FPU_FP_STAT.USED 0x10000) (by decide +kernel)
  have h2 : (((strayState.updFront 0 f).freeVec 0 strayVec).freeSlot 0).rd (F.FPU_FP_STAT.USED 0x10000) =
      ((strayState.freeVec 0 strayVec).freeSlot 0).rd (F.FPU_FP_STAT.USED 0x10000) := rfl
  exact absurd (h2.symm.trans h1) (by decide +kernel)

end Sys2Proof.Machine

end

/-! PROOFS. The sump: what SUMP_RELEASE does to a record that names a channel that no part has. -/

section

namespace Sys2Proof.Machine

set_option Elab.async false

/-- A confirmed record of the sump with the failing result of a channel that no part has: 0x20000. -/
noncomputable def strayRecord : SumpRec := ⟨0, 0, 0, 0, 0, 0, 0, 0, true, true, [⟨0x20000, 1, 0, false⟩]⟩
/-- That record is the only one of slot 0, which has no job. -/
noncomputable def straySump : State := { State.reset with engs := [(0, { Engine.reset with sump := [strayRecord] })] }

/-- SUMP_RELEASE of a provisional record of a slot without a job counts its failing results first. -/
theorem sumpRelease_provisional (s : State) (n : Fin 104) (b : Fin 8) (r : SumpRec)
    (hr : ((s.eng n).sump.filter (fun r => r.conf && r.bay == b.val)).find? (fun r =>
      ((s.eng n).sump.filter (fun r => r.conf && r.bay == b.val)).all (fun q => decide (r.cyc ≤ q.cyc))) = some r)
    (hg : s.jobEngOf n = none) (hp : r.prov = true) :
    execSumpRelease n b s = .next (((s.countChans r.vec r.fails).sumpGive n 1).updEng n (fun e => { e with sump := e.sump.erase r })) := by
  unfold execSumpRelease
  simp only [hr, hg, hp, if_true, Bool.false_and, Bool.false_eq_true, if_false]
  cases (s.eng n).ctx <;> rfl

/-- Refutes O26: SUMP_RELEASE counts the failing results of a record whatever channel it names, and so writes a register of another
block. -/
theorem not_branchesResolveAndProvisionalWritesWait : ¬ Obligations.BranchesResolveAndProvisionalWritesWait := by
  rintro ⟨-, h, -⟩
  have hr : ((straySump.eng 0).sump.filter (fun r => r.conf && r.bay == (0 : Fin 8).val)).find? (fun r =>
      ((straySump.eng 0).sump.filter (fun r => r.conf && r.bay == (0 : Fin 8).val)).all (fun q =>
        decide (r.cyc ≤ q.cyc))) = some strayRecord := by
    decide +kernel
  have hg : straySump.jobEngOf 0 = none := by decide +kernel
  obtain ⟨t, ht, -, -, -, -, hout⟩ := (h straySump 0 0 strayRecord hr).2 (fun g h => nomatch hg.symm.trans h)
  cases ht.symm.trans (sumpRelease_provisional straySump 0 0 strayRecord hr hg rfl)
  exact absurd (hout (F.FPU_FCNT.FCNT 0x20000) (by decide +kernel)) (by decide +kernel)

end Sys2Proof.Machine

end

/-! PROOFS. Results of channels: what COMPARE_RESULT does to a slot whose record names a leader that no part has. -/

section

namespace Sys2Proof.Machine

set_option Elab.async false

/-- A vector that awaits channel 0. -/
noncomputable def waitingVec : Vec := ⟨0, 0, 0, 0, 0, 0, 0, 0, [], 0, none, [0], [], false, [], [], []⟩
/-- Slot 0 names slot 0x20000 as its leader, which no part has, and which waits for a word. -/
noncomputable def strayGang : State := { State.reset with
  regs := []
  engs := [(0, { Engine.reset with ctx := some 0, leader := 0x20000, clock := 100, vecs := [waitingVec] }),
    (0x20000, { Engine.reset with wait := .data, lastCyc := 1 })] }

/-- The cycles for which that leader waits count in its ENG_CYC, a register outside the engine block. -/
theorem strayGang_compareResult : ∃ t, execCompareResult 0 0 0 ⟨false, []⟩ ⟨false, []⟩ ⟨false, []⟩ strayGang = .next t ∧
    t.rd (F.ENG_CYC.CYC 0x20000) = 5 := ⟨_, rfl, by decide +kernel⟩

/-- Refutes O27: COMPARE_RESULT lets the cycles go by for which the leader that the slot's record names has waited, and so writes
ENG_CYC of a leader that no part has, a register outside the blocks named. -/
theorem not_resultsAreComparedAndStagedInOrder : ¬ Obligations.ResultsAreComparedAndStagedInOrder := by
  rintro ⟨h, -⟩
  obtain ⟨t, ht, -, hout, -⟩ := (h strayGang _ 0 0 0 ⟨false, []⟩ ⟨false, []⟩ ⟨false, []⟩ waitingVec (by decide +kernel)
    (by decide +kernel) (by decide +kernel) rfl).2 (Or.inl (by decide +kernel))
  obtain ⟨u, hu, hcyc⟩ := strayGang_compareResult
  cases ht.symm.trans hu
  exact absurd (hcyc.symm.trans (hout (F.ENG_CYC.CYC 0x20000) (by decide +kernel))) (by decide +kernel)

end Sys2Proof.Machine

end

/-! PROOFS. Coppice: what COPPICE_SWITCH_BACK does when BANK names a bank that no half has. -/

section

namespace Sys2Proof.Machine

set_option Elab.async false

/-- The end of a loan whose bank number lies beyond the 64 banks, with a change of its power state held. -/
noncomputable def strayLoan : State := { State.reset with
  regs := [((F.BNK_COP_STAT.PHASE 0).key, 3), ((F.BNK_COP_STAT.BANK 0).key, 0x1000000)],
  banks := [(0, { BankHalf.reset with heldPwr := [(0x1000000, 1)] })] }

/-- The held change moves that bank: CUR of a register beyond the bank block reads TRANSITION. -/
theorem strayLoan_switchBack : ∃ t, execCoppiceSwitchBack 0 strayLoan = .next t ∧ t.rd (F.BNK_PSTAT.CUR 0 0x100000) = 3 :=
  ⟨_, rfl, by decide +kernel⟩

/-- Refutes O30: COPPICE_SWITCH_BACK makes the held change of whatever bank BANK names, and so writes a register outside the bank
block. -/
theorem not_bankMemoryAnswersByPowerStateAndLoansKeepIt : ¬ Obligations.BankMemoryAnswersByPowerStateAndLoansKeepIt := by
  rintro ⟨-, -, -, -, h⟩
  obtain ⟨-, -, -, h⟩ := h strayLoan 0
  obtain ⟨t, ht, -, -, -, -, hout⟩ := h (by decide +kernel)
  obtain ⟨u, hu, hcur⟩ := strayLoan_switchBack
  cases ht.symm.trans hu
  exact absurd (hcur.symm.trans (hout (F.BNK_PSTAT.CUR 0 0x100000) (by decide +kernel))) (by decide +kernel)

end Sys2Proof.Machine

end

/-! PROOFS. Entries and held entries that let cycles go by, while a channel's SSG names a strobe group that no bay has. -/

section

namespace Sys2Proof.Machine

set_option Elab.async false

/-- What slot 0 sent ten cycles ago: a vector that has left S. -/
noncomputable def leftVec : Vec := ⟨0, 0, 0, 0, 0, 0, 0, 0, [], 0, none, [], [], false, [], [], []⟩

/-- Slot 0 runs alone, with the entry x at address 0 in D and the hold code `stall`. The vector that has left S reaches channel 1, which
compares serially against the strobe group that its SSG names: 0x100000, a group that no bay has. -/
noncomputable def strayStrobe (x : Entry) (w : Wait := .none) (stall : Nat := 0) : State := { State.reset with
  regs := [((F.ENG_STAT.STATE 0).key, stRun), ((F.ENG_STAT.STALL 0).key, stall), ((F.VSW_SEL.EN 0 1).key, 1), ((F.CHN_CFG.MODE 0).key, 1),
    ((F.CHN_CFG.MODE 1).key, 1), ((F.CHN_CFG.SSM 1).key, 1), ((F.CHN_CFG.SSG 1).key, 0x100000),
    ((F.CHN_SSG_CFG.EN 0 0x100000).key, 1), ((F.CHN_SSG_STAT.MISS 0 0x100000).key, 0x10000)]
  fsets := [(0, 2)]
  seqMem := [(0, x)]
  engs := [(0, { Engine.reset with
    ctx := some 0, cache := [(0, 1)], tcache := [(0, 1)], clock := 10, wait := w, pipe := [⟨0, some leftVec, false⟩] })] }

/-- MISS of that group, a register of the configuration block, no longer reads as it did. -/
noncomputable def missed (o : Out) : Prop := ∃ t, o = .next t ∧ t.rd (F.CHN_SSG_STAT.MISS 0 0x100000) = 65535

theorem not_outside_of_missed {x : Entry} {w : Wait} {stall : Nat} {o : Out} {t : State} {bs : List Blk} (h : missed o)
    (ht : o = .next t) (hb : Blk.cfg ∉ bs) : ¬ (strayStrobe x w stall).outside t bs := by
  obtain ⟨u, hu, hm⟩ := h
  cases ht.symm.trans hu
  intro hout
  exact absurd (hm.symm.trans (hout (F.CHN_SSG_STAT.MISS 0 0x100000) hb)) (by decide : ¬ (65535 : Nat) = 0x10000)

theorem strayStrobe_next : missed (execNext 0 0 (strayStrobe 0)) := ⟨_, rfl, by decide +kernel⟩
theorem strayStrobe_jmp : missed (execJmp 0 0 (strayStrobe (1 <<< 122))) := ⟨_, rfl, by decide +kernel⟩
theorem strayStrobe_mwait : missed (execMwait 0 0 (strayStrobe (3 <<< 122))) := ⟨_, rfl, by decide +kernel⟩
theorem strayStrobe_syncRelease : missed (execSyncRelease 0 0 [] (strayStrobe (6 <<< 122) .sync)) := ⟨_, rfl, by decide +kernel⟩
theorem strayStrobe_trap : missed (execTrap 0 0 (strayStrobe (12 <<< 122))) := ⟨_, rfl, by decide +kernel⟩
theorem strayStrobe_tableFillDone : missed (execTableFillDone 0 true 1 (strayStrobe (4 <<< 61) .data 6)) := ⟨_, rfl, by decide +kernel⟩

theorem strayStrobe_entersD : (strayStrobe 0).entersD 0 .next ∧ (strayStrobe (1 <<< 122)).entersD 0 .jmp ∧
    (strayStrobe (3 <<< 122)).entersD 0 .mwait ∧ (strayStrobe (12 <<< 122)).entersD 0 .trap := by
  unfold State.entersD
  decide +kernel

/-- Refutes O20: a NEXT lets a cycle go by, and a vector that leaves S then counts a miss of the strobe group that its
channel's SSG names, whatever group that is: a register outside the blocks named changes. -/
theorem not_plainEntriesIssueAndContinue : ¬ Obligations.PlainEntriesIssueAndContinue := by
  intro h
  obtain ⟨t, ht, ⟨hv, -⟩, -⟩ := (h (strayStrobe 0) 0 0 rfl).1 strayStrobe_entersD.1
  exact not_outside_of_missed strayStrobe_next ht (by decide) hv.2

/-- Refutes O21: a JMP lets a cycle go by, and a vector that leaves S then counts a miss of the strobe group that its
channel's SSG names, whatever group that is: a register outside the blocks named changes. -/
theorem not_transfersRunTwoDelaySlots : ¬ Obligations.TransfersRunTwoDelaySlots := by
  intro h
  obtain ⟨t, ht, ⟨hv, -⟩, -⟩ := (h (strayStrobe (1 <<< 122)) 0 0 _ rfl).1 strayStrobe_entersD.2.1
  exact not_outside_of_missed strayStrobe_jmp ht (by decide) hv.2

/-- Refutes O22: an MWAIT on an empty window lets a cycle go by, and a vector that leaves S then counts a miss of the strobe group that its
channel's SSG names, whatever group that is: a register outside the blocks named changes. -/
theorem not_waitsHaltsAndPausesHoldTheGang : ¬ Obligations.WaitsHaltsAndPausesHoldTheGang := by
  intro h
  have hheld : (strayStrobe (3 <<< 122)).notHeld 0 := by
    unfold State.notHeld
    decide +kernel
  obtain ⟨t, ht, ⟨hv, -⟩, -⟩ := ((h (strayStrobe (3 <<< 122)) 0 0 _ rfl).1 strayStrobe_entersD.2.2.1 hheld).1 (Or.inl (by decide +kernel))
  exact not_outside_of_missed strayStrobe_mwait ht (by decide) hv.2

/-- Refutes O23: SYNC_RELEASE lets a cycle go by, and a vector that leaves S then counts a miss of the strobe group that its
channel's SSG names, whatever group that is: a register outside the blocks named changes. -/
theorem not_barriersSemaphoresAndTriggersHoldAndRelease : ¬ Obligations.BarriersSemaphoresAndTriggersHoldAndRelease := by
  intro h
  obtain ⟨t, ht, hv, -⟩ := ((h (strayStrobe (6 <<< 122) .sync) 0 0 _ rfl).2.1 0 0 []).2 (by decide +kernel)
  exact not_outside_of_missed strayStrobe_syncRelease ht (by decide) (hv (by decide +kernel)).2

/-- Refutes O24: a TRAP lets a cycle go by, and a vector that leaves S then counts a miss of the strobe group that its
channel's SSG names, whatever group that is: a register outside the blocks named changes. -/
theorem not_interruptsImagesAndStopsKeepTheGangsState : ¬ Obligations.InterruptsImagesAndStopsKeepTheGangsState := by
  intro h
  obtain ⟨-, -, -, -, h, -⟩ := h (strayStrobe (12 <<< 122)) 0 0 _ rfl
  obtain ⟨t, ht, ⟨hv, -⟩, -⟩ := h strayStrobe_entersD.2.2.2 rfl
  exact not_outside_of_missed strayStrobe_trap ht (by decide) hv.2

/-- Refutes O25: TABLE_FILL_DONE ends a hold of one cycle, and a vector that leaves S then counts a miss of the strobe group that its
channel's SSG names, whatever group that is: a register outside the blocks named changes. -/
theorem not_vectorWordsArriveAndTablesAreWrittenAtRest : ¬ Obligations.VectorWordsArriveAndTablesAreWrittenAtRest := by
  intro h
  obtain ⟨t, ht, -, -, -, hout⟩ := ((h.1 (strayStrobe (4 <<< 61) .data 6) 0 true 0 1).1 (by decide +kernel) (by decide +kernel)).1 rfl
    (by decide +kernel)
  exact not_outside_of_missed strayStrobe_tableFillDone ht (by decide) hout

end Sys2Proof.Machine

end

/-! PROOFS. The fence of an endpoint while a home of a half that the part has not waits for its answer. -/

section

namespace Sys2Proof.Machine

set_option Elab.async false

theorem State.each_fixed {α : Type} (s : State) (l : List α) (f : State → α → State) (h : ∀ a, f s a = s) : s.each l f = s :=
  State.each_keeps (fun t => t = s) s l f (fun t a ht => by rw [ht, h]) rfl

/-- A request held at a home of half 0x400, which the part has not, waits for an answer of endpoint 0; its word is uncorrectable. -/
noncomputable def strayHome : State := { State.reset with
  por := false
  regs := []
  homes := [⟨0x400, ⟨byHost, 0, 0, 8, none, 0, .bad, 0⟩, [(0, 0)]⟩] }

theorem Memory.readN_nil (a n : Nat) : Memory.readN [] a n = 0 := by
  induction n generalizing a with
  | zero => rfl
  | succ n ih => rw [Memory.readN, ih]; rfl

theorem State.dropEndpointSems_of_empty (s : State) (e : Nat) (h : s.bankMem = []) : s.dropEndpointSems e = s :=
  State.each_fixed _ _ _ fun g => State.each_fixed _ _ _ fun i => by
    simp only [State.bankRead, h, Memory.readN_nil]
    rfl

theorem strayHome_fenceEndpoint : (strayHome.fenceEndpoint 0 8).rd (F.BNK_ERR.UE 0x400) = 1 := by
  unfold State.fenceEndpoint
  rw [if_neg (by decide +kernel)]
  simp only []
  rw [State.dropEndpointSems_of_empty _ _ (by decide +kernel)]
  decide +kernel

theorem execNeFence_of_may {s : State} {e : Fin 64} {c : CtlFrom} (h : !s.por ∧ s.mayEndpoint e c) :
    execNeFence e c false s = .next (s.fenceEndpoint e 8) := by
  rw [execNeFence, if_pos h]
  rfl

/-- Refutes O34: the fence of an endpoint lets a request go on that waited for its answer at a home of a half that the part has
not; its uncorrectable word is noted in a register outside the blocks named. -/
theorem not_fabricClocksRelockAndEndpointsAreFenced : ¬ Obligations.FabricClocksRelockAndEndpointsAreFenced := by
  rintro ⟨-, -, -, -, h, -⟩
  obtain ⟨t, ht, -, -, -, -, -, -, -, -, -, hout⟩ := (h strayHome 0 (.sup 0) false rfl (by decide +kernel)).2 (by decide +kernel)
  have hue : t.rd (F.BNK_ERR.UE 0x400) = 1 := by
    rw [← Host.Outcome.next.inj ((execNeFence_of_may (by decide +kernel)).symm.trans ht)]
    exact strayHome_fenceEndpoint
  exact absurd (hue.symm.trans (hout (F.BNK_ERR.UE 0x400) (by decide))) (by decide +kernel)

end Sys2Proof.Machine

end

/-! PROOFS. A segment without a legal length. -/

section

namespace Sys2Proof.Machine

set_option Elab.async false

/-- A partial load from the ring that has passed its checks; its manifest gives the next segment the length 0. -/
noncomputable def emptySegment : State := { State.reset with
  load := { LoadSt.reset with active := true, kind := 2, source := 3, service := true, checked := true } }

theorem emptySegment_fails : ∃ t, execSegmentWrite 0 emptySegment = .next t ∧ t.load.active = false :=
  ⟨_, rfl, by decide +kernel⟩

/-- Refutes O45: while bytes of a checked PARTIAL are missing, a segment whose manifest entry gives it no legal length ends the load
at once. -/
theorem not_imagesAreLoadedCheckedAndFail : ¬ Obligations.ImagesAreLoadedCheckedAndFail := by
  rintro ⟨-, -, -, -, -, h⟩
  have hs : execSegmentWrite 0 emptySegment = .next emptySegment :=
    (h emptySegment 0 _ _ _ rfl rfl rfl rfl rfl rfl rfl rfl rfl).1 (by decide +kernel) rfl
  obtain ⟨t, ht, hact⟩ := emptySegment_fails
  cases ht.symm.trans hs
  exact absurd hact (by decide)

end Sys2Proof.Machine

end

/-! PROOFS. A substitution of a slot that does not exist. -/

section

namespace Sys2Proof.Machine

set_option Elab.async false

/-- In self-test, with a substitution kept for slot 59396, a number beyond the 104 slots whose tables would lie where the half
registers of the DRAM controllers do; number 59392 reads as its spare. -/
noncomputable def strayTest : State := { State.reset with
  por := false, substs := [⟨59396, 0, none, 0, false⟩],
  regs := [((F.GLB_STATE.STATE).key, 2), ((F.ENG_STAT.STATE 59392).key, stSpare)] }

/-- The outcome of a self-test without a failure whose geometries differ within the first half only. -/
noncomputable def oddGeometry : SelfTest := ⟨0, [], [], [], [1], [], 0⟩

theorem strayTest_keepsDram : ∃ t, execSelftestDone oddGeometry strayTest = .next t ∧ t.rd (F.DMC_HALF.NIF 0) = 4 :=
  ⟨_, rfl, by decide +kernel⟩

/-- Refutes O49: where the geometries differ within a half and a substitution is still kept, the spare that it finds takes over the
register of the other half, and the half keeps its four interfaces. -/
theorem not_selfTestFusesAndReportsEndAsStated : ¬ Obligations.SelfTestFusesAndReportsEndAsStated := by
  rintro ⟨h, -⟩
  obtain ⟨-, hgeom, -⟩ := h strayTest oddGeometry (by decide +kernel) rfl
  obtain ⟨u, hu, -, hnif, -⟩ := hgeom rfl rfl rfl rfl (by decide +kernel) 0 1 (by decide) (by decide) (by decide)
  obtain ⟨t, ht, hkeep⟩ := strayTest_keepsDram
  cases ht.symm.trans hu
  exact absurd (hkeep.symm.trans hnif) (by decide)

end Sys2Proof.Machine

end

/-! PROOFS. A leader outside its own gang. -/

section

namespace Sys2Proof.Machine

set_option Elab.async false

/-- Slot 0 stands in the monitor under slot 1, which was paused there at address 5 but names slot 2 as its own leader, so that it
is no member of the gang that it leads. -/
noncomputable def strayMonitor : State := { State.reset with
  por := false,
  engs := [(0, { Engine.reset with ctx := some 0, leader := 1 }),
    (1, { Engine.reset with ctx := some 0, leader := 2, monBack := 4, lastCyc := 1 })],
  regs := [((F.DBG_PORT_STAT.LEVEL).key, 2), ((F.DBG_ENG_STAT.IN_MON 0).key, 1), ((F.ENG_STAT.PC 1).key, 5)] }

theorem strayMonitor_keepsAddress : ∃ t, execDbgResume 0 strayMonitor = .next t ∧ (t.eng 1).npc = some 5 :=
  ⟨_, rfl, by decide +kernel⟩

/-- Refutes O51: a leader that is no member of its own gang does not take the address saved in slot 7, and where its gang is to go on
is the address at which it stood before. -/
theorem not_debugLevelsRunControlAndTraceFollowTheirRules : ¬ Obligations.DebugLevelsRunControlAndTraceFollowTheirRules := by
  rintro ⟨-, -, hrun, -⟩
  obtain ⟨-, hmay⟩ := hrun strayMonitor 0 1 rfl (by decide)
  obtain ⟨-, -, hmon, -⟩ := hmay (by decide +kernel)
  obtain ⟨-, hgo⟩ := hmon (by decide +kernel) rfl (by decide +kernel) (.dbgResume 0) 0 (.inl ⟨rfl, rfl⟩)
  obtain ⟨u, hu, -, -, -, hnpc, -⟩ := hgo (by decide +kernel)
  have hzero := hnpc rfl (by decide) rfl
  obtain ⟨t, ht, hkeep⟩ := strayMonitor_keepsAddress
  cases ht.symm.trans hu
  exact absurd (hkeep.symm.trans hzero) (by decide +kernel)

end Sys2Proof.Machine

end

/-! PROOFS. The requests of the Hjelz port (R465–R470). -/

section

namespace Sys2Proof.Machine

set_option Elab.async false

/-! ## How a header is answered at once (R469, R470) -/

theorem State.portBar_refused (s : State) (h : Header) (w : Bool)
    (hr : s.portRefuses (hSpace h) w (hConsume h && !w) (hAddr h) (hWords h) = true) :
    s.portBar h w = some (s.portStatus 0b0110) := by
  rw [State.portBar, if_pos hr]

theorem State.portBar_reserved (s : State) (h : Header) (w : Bool)
    (hr : s.portRefuses (hSpace h) w (hConsume h && !w) (hAddr h) (hWords h) = false)
    (hx : 6 ≤ hSpace h ∨ (hSpace h = 5 ∧ w = true) ∨ hAddr h % 4 ≠ 0) : s.portBar h w = some (s.portError 5 0) := by
  rw [State.portBar, if_neg (by simp [hr]), if_pos]
  simpa [portReserved, or_assoc] using hx

theorem portReserved_port (w : Bool) {a : Nat} (ha : a % 4 = 0) : portReserved 0 w a = false := by
  simp [portReserved, ha]

theorem State.portBar_retry (s : State) (h : Header) (w : Bool)
    (hr : s.portRefuses (hSpace h) w (hConsume h && !w) (hAddr h) (hWords h) = false) (h0 : hSpace h = 0) (ha : hAddr h % 4 = 0)
    (hx : s.portRetry 0 (hAddr h) (hWords h) = true) : s.portBar h w = some (s.portStatus 0b1100) := by
  rw [State.portBar, if_neg (by simp [hr]), h0, if_neg (by simp [portReserved_port w ha]), if_pos hx]

theorem State.portBar_open (s : State) (h : Header) (w : Bool)
    (hr : s.portRefuses (hSpace h) w (hConsume h && !w) (hAddr h) (hWords h) = false) (h0 : hSpace h = 0) (ha : hAddr h % 4 = 0)
    (hx : s.portRetry 0 (hAddr h) (hWords h) = false) : s.portBar h w = none := by
  rw [State.portBar, if_neg (by simp [hr]), h0, if_neg (by simp [portReserved_port w ha]), if_neg (by simp [hx])]

/-- A counter counts and saturates. -/
theorem State.count_rd (s : State) {f : Fld} {w : Nat} (hw : f.w = w) (n : Nat) : (s.count f n).rd f = min (2 ^ w - 1) (s.rd f + n) := by
  subst hw
  exact (s.rd_wr_same _ _).trans (Nat.mod_eq_of_lt (Nat.lt_of_le_of_lt (Nat.min_le_left _ _) (Nat.sub_lt (Nat.two_pow_pos _) Nat.one_pos)))

theorem State.portError_shown (s : State) {e k : Nat} (he : e < 16) (hk : k < 256) :
    (s.portError e k).rd F.DBG_PORT_STAT.ERR = e ∧ (s.portError e k).rd F.DBG_PORT_STAT.WORD = k ∧
    s.keepsRegs (s.portError e k) [F.DBG_PORT_STAT.ERR, F.DBG_PORT_STAT.WORD] :=
  have hne : (F.DBG_PORT_STAT.ERR).key ≠ (F.DBG_PORT_STAT.WORD).key := by decide
  ⟨((s.wr F.DBG_PORT_STAT.ERR e).rd_wr_ne k hne).trans ((s.rd_wr_same _ e).trans (Nat.mod_eq_of_lt he)),
    (State.rd_wr_same _ _ k).trans (Nat.mod_eq_of_lt hk),
    ((s.keepsRegs_wr (f := F.DBG_PORT_STAT.ERR) e (by simp)).wr (f := F.DBG_PORT_STAT.WORD) k (by simp)).of_regs rfl⟩

/-- A header that is answered at once, whichever of the two requests it asks for. -/
theorem exec_of_portBar {s t : State} {h : Header} {slow : Option Nat} {w : Bool} {i : Instr}
    (hi : (i = .hjelzRead h slow ∧ w = false ∧ hOp h = 1) ∨ (i = .hjelzWrite h ∧ w = true ∧ hOp h = 2))
    (hs : s.portIdle = true) (hc : hCrcOk h = true) (ht : s.portBar h w = some t) : exec i s = .next t := by
  rcases hi with ⟨rfl, rfl, ho⟩ | ⟨rfl, rfl, ho⟩
  · change execHjelzRead h slow s = _
    simp [execHjelzRead, hs, hc, ho, ht]
  · change execHjelzWrite h s = _
    simp [execHjelzWrite, hs, hc, ho, ht]

theorem exec_read_open {s : State} {h : Header} {slow : Option Nat} {w : Bool} {i : Instr}
    (hi : (i = .hjelzRead h slow ∧ w = false ∧ hOp h = 1) ∨ (i = .hjelzWrite h ∧ w = true ∧ hOp h = 2)) (hw : w = false)
    (hs : s.portIdle = true) (hc : hCrcOk h = true) (hb : s.portBar h w = none) (h0 : hSpace h = 0) : exec i s =
      .next (s.portReads 0 (hConsume h) (hAddr h) (hWords h) slow (List.range (hWords h)) []) := by
  subst hw
  obtain ⟨rfl, -, ho⟩ := hi.resolve_right fun c => Bool.false_ne_true c.2.1
  refine congrArg Host.Outcome.next ((if_neg (by rw [hs, hc, ho]; decide)).trans ?_)
  rw [hb, h0]

theorem exec_write_open {s : State} {h : Header} {slow : Option Nat} {w : Bool} {i : Instr}
    (hi : (i = .hjelzRead h slow ∧ w = false ∧ hOp h = 1) ∨ (i = .hjelzWrite h ∧ w = true ∧ hOp h = 2)) (hw : w = true)
    (hs : s.portIdle = true) (hc : hCrcOk h = true) (hb : s.portBar h w = none) (h0 : hSpace h = 0) : exec i s =
      .next ((s.portStatus 0b1010).updHj (fun x => { x with write := some (0, hAddr h, hWords h) })) := by
  subst hw
  obtain ⟨rfl, -, ho⟩ := hi.resolve_left fun c => Bool.false_ne_true c.2.1.symm
  refine congrArg Host.Outcome.next ((if_neg (by rw [hs, hc, ho]; decide)).trans ?_)
  rw [hb, h0]

theorem State.portReads_one (s : State) (c : Bool) (a : Nat) {n : Nat} (hn : n = 1) : s.portReads 0 c a n none (List.range n) [] =
    s.updHj (fun x => { x with status := some 0b1010, answer := [s.portWord a, crc8 32 (s.portWord a)], busy := none }) := by
  subst hn
  rfl

theorem State.portReads_slow (s : State) (c : Bool) (a : Nat) {n : Nat} (hn : 0 < n) : s.portReads 0 c a n (some 0) (List.range n) [] =
    s.updHj (fun x => { x with busy := some (0, none), status := none, answer := [] }) := by
  obtain ⟨k, rfl⟩ := Nat.exists_eq_succ_of_ne_zero hn.ne'
  rw [List.range_succ_eq_map]
  rfl

/-! ## A header that is not answered (R469) -/

/-- The port after a header that gets no answer. -/
noncomputable def State.portSilent (s : State) : State := s.updHj (fun x => { x with status := none, answer := [] })

section
variable {s : State} {h : Header} (hs : s.portIdle = true)
include hs

theorem headerRefused_badCrc (hc : hCrcOk h = false) : execHjelzHeaderRefused h s = .next (s.portSilent.count F.DBG_PORT_STAT.CRC_ERR) :=
  congrArg Host.Outcome.next ((if_neg (by rw [hs]; decide)).trans (if_pos (by rw [hc]; decide)))

theorem headerRefused_reserved (hc : hCrcOk h = true) (ho : hOp h = 0 ∨ hOp h = 3) : execHjelzHeaderRefused h s = .next s.portSilent :=
  congrArg Host.Outcome.next ((if_neg (by rw [hs]; decide)).trans ((if_neg (by rw [hc]; decide)).trans (if_pos ho)))

theorem headerRefused_known (hc : hCrcOk h = true) (ho : hOp h = 1 ∨ hOp h = 2) : execHjelzHeaderRefused h s = .next s :=
  congrArg Host.Outcome.next ((if_neg (by rw [hs]; decide)).trans ((if_neg (by rw [hc]; decide)).trans (if_neg (by omega))))
end

theorem headerRefused_closed {s : State} {h : Header} (hs : s.portIdle = false) : execHjelzHeaderRefused h s = .next s :=
  congrArg Host.Outcome.next (if_pos (by rw [hs]; decide))

/-! ## A word that does not complete (R469) -/

theorem accessTimeout_idle {s : State} (hb : s.hj.busy = none) : execHjelzAccessTimeout s = .next s := by
  rw [execHjelzAccessTimeout, hb]

theorem accessTimeout_read {s : State} {k : Nat} (hb : s.hj.busy = some (k, none)) :
    execHjelzAccessTimeout s = .next (s.portError 2 k) := by
  rw [execHjelzAccessTimeout, hb]

/-! ## The data of a write (R468) -/

/-- The state after a write's data has arrived: none is awaited any more. -/
noncomputable def State.portTaken (s : State) : State := s.updHj (fun x => { x with write := none })

theorem execHjelzWriteData_badCrc {s : State} {data : List Word32} {crc : Byte} (slow : Option Nat) {p a n v : Nat} (hp : s.por = false)
    (hw : s.hj.write = some (p, a, n)) (hn : data.length = n) (hv : v = data.foldr (fun w t => w.toNat + 2 ^ 32 * t) 0)
    (hc : crc.toNat ≠ crc8 (32 * n) v) :
    execHjelzWriteData data crc slow s = .next ((s.portTaken.count F.DBG_PORT_STAT.CRC_ERR).portStatus 0b0101) := by
  subst hv
  refine congrArg Host.Outcome.next ?_
  rw [hw]
  exact (if_neg (by rw [hp, hn]; simp)).trans (if_pos hc)

theorem execHjelzWriteData_goodCrc {s : State} {data : List Word32} {crc : Byte} (slow : Option Nat) {p a n v : Nat} (hp : s.por = false)
    (hw : s.hj.write = some (p, a, n)) (hn : data.length = n) (hv : v = data.foldr (fun w t => w.toNat + 2 ^ 32 * t) 0)
    (hc : crc.toNat = crc8 (32 * n) v) : execHjelzWriteData data crc slow s =
      .next (s.portTaken.portWrites p a slow (data.zipIdx.map (fun (e : Word32 × Nat) => (e.2, e.1.toNat)))) := by
  subst hv
  refine congrArg Host.Outcome.next ?_
  rw [hw]
  exact (if_neg (by rw [hp, hn]; simp)).trans (if_neg (not_not.mpr hc))

/-- A word to KEY or SIG. -/
theorem State.portWrites_buffer (s : State) {a v : Nat} (hp : s.por = false)
    (ha : (0x200 ≤ a ∧ a < 0x220) ∨ (0x1000 ≤ a ∧ a < 0x2EB0)) :
    s.portWrites 0 a none [(0, v)] = (s.updHj (fun x => { x with buf := Memory.writeN x.buf a 4 v })).portStatus 0b1010 := by
  have hw : s.portWriteWord 0 (a + 4 * 0) v = (.val 0, s.updHj (fun x => { x with buf := Memory.writeN x.buf a 4 v })) := by
    change s.portWrite a v = _
    rw [State.portWrite, if_neg (by omega), if_neg (by omega), if_pos ha]
  rw [State.portWrites, if_neg (by simp), hw]
  exact if_neg (by simp [State.updHj, hp])

/-- What the data of a write to KEY or SIG leaves. -/
noncomputable def State.portStored (s : State) (a v : Nat) : State :=
  (s.portTaken.updHj (fun x => { x with buf := Memory.writeN x.buf a 4 v })).portStatus 0b1010

theorem writeData_stored {s : State} {data : List Word32} {crc : Byte} {slow : Option Nat} {p a n v : Nat} (hp : s.por = false)
    (hw : s.hj.write = some (p, a, n)) (hn : data.length = n) (hv : v = data.foldr (fun w t => w.toNat + 2 ^ 32 * t) 0)
    (hc : crc.toNat = crc8 (32 * n) v) (h0 : p = 0) (h1 : n = 1) (hsl : slow = none)
    (ha : (0x200 ≤ a ∧ a < 0x220) ∨ (0x1000 ≤ a ∧ a < 0x2EB0)) :
    execHjelzWriteData data crc slow s = .next (s.portStored a v) ∧ v < 2 ^ 32 := by
  subst h0 h1 hsl
  obtain ⟨x, rfl⟩ := List.length_eq_one_iff.mp hn
  have hx : v = x.toNat := hv.trans (Nat.add_zero _)
  subst hx
  exact ⟨(execHjelzWriteData_goodCrc none hp hw hn hv hc).trans (congrArg _ (State.portWrites_buffer s.portTaken hp ha)), x.isLt⟩

/-- Settles O50: every case goes by the port's own answer, the request's checks in their order. -/
theorem portRequestsAreAnsweredByTheirRules : Obligations.PortRequestsAreAnsweredByTheirRules :=
  ⟨fun s h => ⟨headerRefused_closed, fun hs =>
    ⟨fun hc => ⟨_, headerRefused_badCrc hs hc, rfl, rfl, s.portSilent.count_rd (w := 8) rfl 1, rfl,
        ((State.keepsRegs_of_regs (State.updHj_regs _ _) _ : s.keepsRegs s.portSilent _)).wr _ (List.mem_singleton.mpr rfl)⟩,
      fun hc ho => ⟨_, headerRefused_reserved hs hc ho, rfl, rfl⟩, headerRefused_known hs⟩⟩,
  fun s h slow w i hi hs hc => ⟨fun hr => ⟨_, exec_of_portBar hi hs hc (s.portBar_refused h w hr), rfl, rfl⟩, fun hr =>
    ⟨fun hx => ⟨_, exec_of_portBar hi hs hc (s.portBar_reserved h w hr hx), rfl,
        (s.portError_shown (by decide) (by decide)).1, (s.portError_shown (by decide) (by decide)).2.1, rfl,
        (s.portError_shown (by decide) (by decide)).2.2⟩,
      fun h0 ha => ⟨fun hx => ⟨_, exec_of_portBar hi hs hc (s.portBar_retry h w hr h0 ha hx), rfl, rfl⟩, fun hx =>
        ⟨fun hw => ⟨_, exec_write_open hi hw hs hc (s.portBar_open h w hr h0 ha hx) h0, rfl, rfl, rfl⟩,
          fun hw hn hsl => ⟨_, (exec_read_open hi hw hs hc (s.portBar_open h w hr h0 ha hx) h0).trans
            (congrArg _ (hsl ▸ s.portReads_one (hConsume h) (hAddr h) hn)), rfl, rfl, rfl⟩,
          fun hw hsl => ⟨_, (exec_read_open hi hw hs hc (s.portBar_open h w hr h0 ha hx) h0).trans
            (congrArg _ (hsl ▸ s.portReads_slow (hConsume h) (hAddr h) (Nat.succ_pos _))), rfl, rfl, rfl⟩⟩⟩⟩⟩,
  fun s data crc slow p a n v hp hw hn hv => ⟨fun hc => ⟨_, execHjelzWriteData_badCrc slow hp hw hn hv hc, rfl, rfl,
      (State.count_rd (s := s.portTaken) (w := 8) rfl 1), rfl,
      ((State.keepsRegs_of_regs (State.updHj_regs _ _) _ : s.keepsRegs s.portTaken _)).wr _ (List.mem_singleton.mpr rfl) |>.of_regs rfl⟩,
    fun hc h0 h1 hsl ha =>
      have hd := writeData_stored hp hw hn hv hc h0 h1 hsl ha
      ⟨_, hd.1, rfl, rfl, (Memory.readN_writeN s.hj.buf a 4 v).trans (Nat.mod_eq_of_lt hd.2),
        fun b hb => Memory.read_writeN_ne s.hj.buf a 4 v b hb, rfl⟩⟩,
  fun s => ⟨accessTimeout_idle, fun k w hb hk => match w with
    | none => ⟨_, accessTimeout_read hb, fun _ => ⟨rfl, (s.portError_shown (by decide) hk).1, (s.portError_shown (by decide) hk).2.1, rfl, rfl,
        (s.portError_shown (by decide) hk).2.2⟩⟩
    | some _ => ⟨_, rfl, fun h => nomatch h⟩⟩,
  fun s i hi => hi.elim (fun h => ⟨_, congrArg (exec · s) h, rfl, rfl, rfl, rfl⟩) (fun h => ⟨_, congrArg (exec · s) h, rfl, rfl, rfl, rfl⟩)⟩

end Sys2Proof.Machine

end

/-! PROOFS. Which registers the notices and the fences of a unit leave as they were. -/

section

namespace Sys2Proof.Machine

set_option Elab.async false

/-! ## Frames of the register store -/

theorem State.keepsRegs.refl (s : State) (fs : List Fld) : s.keepsRegs s fs := fun _ _ => rfl

theorem State.keepsRegs.same {s t : State} {fs : List Fld} (h : t.regs = s.regs) : s.keepsRegs t fs := State.keepsRegs_of_regs h fs

theorem State.keepsRegs.ite {s t u : State} {fs : List Fld} {c : Prop} [Decidable c] (h : s.keepsRegs t fs) (k : s.keepsRegs u fs) :
    s.keepsRegs (if c then t else u) fs := by
  split
  · exact h
  · exact k

theorem State.keepsRegs.rd {s t : State} {fs : List Fld} (h : s.keepsRegs t fs) {g : Fld} (hg : ∀ f ∈ fs, g.key ≠ f.key) :
    t.rd g = s.rd g :=
  h g fun hm => by
    obtain ⟨f, hf, e⟩ := List.mem_map.mp hm
    exact hg f hf e.symm

/-- What a list of writes of fields with keys of their own leaves in each of them. -/
theorem State.eachWr_rd (s : State) (l : List Fld) (hl : l.Pairwise (fun f g => f.key ≠ g.key)) (v : Fld → Nat) {f : Fld} (hf : f ∈ l) :
    (s.each l (fun t f => t.wr f (v f))).rd f = v f % 2 ^ f.w := by
  induction l generalizing s with
  | nil => cases hf
  | cons g l ih =>
    obtain ⟨hg, hl⟩ := List.pairwise_cons.mp hl
    rw [State.each_cons]
    rcases List.mem_cons.mp hf with rfl | hf
    · have hk : (s.wr f (v f)).keepsRegs ((s.wr f (v f)).each l (fun t f => t.wr f (v f))) l :=
        (State.keepsRegs.refl _ l).each l _ fun u a ha => u.keepsRegs_wr _ ha
      exact (hk.rd hg).trans (s.rd_wr_same _ _)
    · exact ih _ hl hf

/-! ## Notices: the event ring, the snapshot trigger, the device state (R64, R432–R434) -/

/-- The registers that a record on a function's ring may change. -/
noncomputable def postFields (f : Nat) : List Fld := [F.SUP_CUST_STALE.STALE, F.HIF_FN_STAT.MSIX_RANGE f]

theorem State.commitWrite_keepsRegs (s : State) (w : HostSend) : s.keepsRegs (s.commitWrite w) [F.SUP_CUST_STALE.STALE] := by
  unfold State.commitWrite
  exact .ite (s.keepsRegs_wr _ (by simp)) (.ite (.same rfl) (.same rfl))

theorem State.signal_keepsRegs (s : State) (f : Nat) (c : Option Nat) : s.keepsRegs (s.signal f c) (postFields f) := by
  unfold State.signal
  exact .ite (s.keepsRegs_wr _ (by simp [postFields])) ((s.commitWrite_keepsRegs _).mono (by simp [postFields]))

theorem State.placeEvent_keepsRegs (s : State) (f : Nat) (r : EvRec) : s.keepsRegs (s.placeEvent f r) (postFields f) := by
  unfold State.placeEvent
  refine .trans ?_ (State.signal_keepsRegs _ f _)
  exact ((s.commitWrite_keepsRegs _).mono (by simp [postFields])).of_regs rfl

theorem State.eventsLost_keepsRegs (s : State) (f : Nat) : s.keepsRegs (s.eventsLost f) (postFields f) := by
  unfold State.eventsLost
  exact .ite ((State.keepsRegs.same rfl).trans (State.placeEvent_keepsRegs _ f _)) (.refl s _)

theorem State.post_keepsRegs (s : State) (f : Nat) (r : EvRec) : s.keepsRegs (s.post f r) (postFields f) := by
  unfold State.post
  refine .ite (.ite (.ite ?_ ?_) (.same rfl)) (.refl s _)
  · exact (s.eventsLost_keepsRegs f).trans (State.placeEvent_keepsRegs _ f r)
  · exact (s.eventsLost_keepsRegs f).of_regs rfl

theorem State.keepsRegs.postRes {s t : State} {fs : List Fld} (h : s.keepsRegs t fs) (d a b : Nat) (hs : ∀ f ∈ postFields 0, f ∈ fs) :
    s.keepsRegs (t.postRes d a b) fs := h.trans ((t.post_keepsRegs 0 _).mono hs)

theorem State.takeSnap_keepsRegs (s : State) (src : Nat) : s.keepsRegs (s.takeSnap src) [F.SNP_STAT.HELD] := by
  unfold State.takeSnap
  exact .ite ((State.keepsRegs.same rfl).wr _ (by simp)) (.same rfl)

theorem State.raiseSnap_keepsRegs (s : State) (src : Nat) : s.keepsRegs (s.raiseSnap src) [F.SNP_STAT.HELD, F.SNP_STAT.MISSED] := by
  have hcount : s.keepsRegs (s.count F.SNP_STAT.MISSED) [F.SNP_STAT.HELD, F.SNP_STAT.MISSED] := s.keepsRegs_wr _ (by simp)
  have htake : s.keepsRegs (s.takeSnap src) [F.SNP_STAT.HELD, F.SNP_STAT.MISSED] := (s.takeSnap_keepsRegs src).mono (by simp)
  unfold State.raiseSnap
  refine .ite ?_ (.refl s _)
  split
  · exact .ite (.same rfl) (.ite hcount htake)
  · exact .ite hcount htake

theorem State.updDegraded_keepsRegs (s : State) : s.keepsRegs s.updDegraded [F.GLB_STATE.STATE, F.SUP_STAT.DEGRADED] := by
  unfold State.updDegraded
  exact .ite ((s.keepsRegs_wr (f := F.GLB_STATE.STATE) _ (by simp)).wr (f := F.SUP_STAT.DEGRADED) _ (by simp)) (.refl s _)

theorem State.keepsRegs.updDegraded {s t : State} {fs : List Fld} (h : s.keepsRegs t fs)
    (hs : ∀ f ∈ [F.GLB_STATE.STATE, F.SUP_STAT.DEGRADED], f ∈ fs) : s.keepsRegs t.updDegraded fs := h.trans (t.updDegraded_keepsRegs.mono hs)

/-! ## Fences of a unit (R414–R419) -/

/-- The registers that a fence of unit u at its gates may change. -/
noncomputable def fenceFields (u : Nat) : List Fld :=
  [F.SUP_UNIT_STAT.STATE u, F.SUP_UNIT_STAT.CAUSE u, F.SUP_UNIT_EPOCH.FEP u, F.SNP_STAT.HELD, F.SNP_STAT.MISSED]

theorem State.markFenced_keepsRegs (s : State) (u cause : Nat) : s.keepsRegs (s.markFenced u cause) (fenceFields u) := by
  unfold State.markFenced
  refine .trans (.wr (.ite (.refl s _) ?_) _ (by simp [fenceFields])) ((State.raiseSnap_keepsRegs _ 3).mono (by simp [fenceFields]))
  exact (s.keepsRegs_wr (f := F.SUP_UNIT_STAT.STATE u) 1 (by simp [fenceFields])).wr (f := F.SUP_UNIT_STAT.CAUSE u) _ (by simp [fenceFields])

theorem unitState_ne_fenceRest (u : Nat) : ∀ f ∈ [F.SUP_UNIT_STAT.CAUSE u, F.SUP_UNIT_EPOCH.FEP u, F.SNP_STAT.HELD, F.SNP_STAT.MISSED],
    u < 0x40000 → (F.SUP_UNIT_STAT.STATE u).key ≠ f.key := by
  intro f hf hu
  simp only [List.mem_cons, List.not_mem_nil, or_false] at hf
  rcases hf with rfl | rfl | rfl | rfl <;>
    simp only [F.SUP_UNIT_STAT.STATE, F.SUP_UNIT_STAT.CAUSE, F.SUP_UNIT_EPOCH.FEP, F.SNP_STAT.HELD, F.SNP_STAT.MISSED] <;> omega

theorem State.markFenced_isFenced (s : State) {u : Nat} (cause : Nat) (hu : u < 0x40000) : (s.markFenced u cause).isFenced u = true := by
  have hne := unitState_ne_fenceRest u
  have hkeep : ∀ t : State, ∀ v, ((t.wr (F.SUP_UNIT_EPOCH.FEP u) v).raiseSnap 3).rd (F.SUP_UNIT_STAT.STATE u) =
      t.rd (F.SUP_UNIT_STAT.STATE u) := fun t v =>
    ((State.raiseSnap_keepsRegs _ 3).rd fun f hf => hne f (by simp at hf ⊢; tauto) hu).trans
      (t.rd_wr_ne _ (hne _ (by simp) hu))
  unfold State.markFenced State.isFenced
  rw [hkeep]
  split
  · assumption
  · rw [State.rd_wr_ne _ _ (hne _ (by simp) hu), State.rd_wr_same]
    simp [F.SUP_UNIT_STAT.STATE]

theorem State.bothOut_keepsRegs (s : State) : s.keepsRegs s.bothOut [F.GLB_STATE.FAULT] := by
  unfold State.bothOut
  exact .ite (s.keepsRegs_wr _ (by simp)) (.refl s _)

theorem State.keepsRegs.bothOut {s t : State} {fs : List Fld} (h : s.keepsRegs t fs) (hs : F.GLB_STATE.FAULT ∈ fs) :
    s.keepsRegs t.bothOut fs := h.trans (t.bothOut_keepsRegs.mono (by simpa using hs))

/-- The registers that the fence of supervisor h may change beside its unit's. -/
noncomputable def fenceSupFields : List Fld :=
  [F.SUP_STAT.PARTNER_FENCED, F.GLB_STATE.STATE, F.SUP_STAT.DEGRADED, F.GLB_STATE.FAULT] ++ postFields 0

theorem State.fenceSup_beyond_mark (s : State) (h cause : Nat) :
    (s.markFenced (216 + h) cause).keepsRegs (s.fenceSup h cause) fenceSupFields := by
  have hpartner := (s.markFenced (216 + h) cause).keepsRegs_wr (f := F.SUP_STAT.PARTNER_FENCED) (fs := fenceSupFields) 1
    (by simp [fenceSupFields])
  unfold State.fenceSup
  exact .ite (.refl _ _) (((hpartner.postRes _ _ _ (by simp +contextual [fenceSupFields])).updDegraded (by simp [fenceSupFields])).bothOut
    (by simp [fenceSupFields]))

theorem State.fenceSup_keepsRegs (s : State) (h cause : Nat) :
    s.keepsRegs (s.fenceSup h cause) (fenceFields (216 + h) ++ fenceSupFields) :=
  ((s.markFenced_keepsRegs (216 + h) cause).mono fun _ => List.mem_append_left _).trans
    ((s.fenceSup_beyond_mark h cause).mono fun _ => List.mem_append_right _)

theorem supState_ne_fenceSupFields : ∀ h : Fin 2, ∀ f ∈ fenceSupFields, (F.SUP_UNIT_STAT.STATE (216 + h)).key ≠ f.key := by decide

theorem State.fenceSup_isFenced (s : State) (h : Fin 2) (cause : Nat) : (s.fenceSup h cause).isFenced (216 + h) = true := by
  have hm := s.markFenced_isFenced (u := 216 + h) cause (by omega)
  unfold State.isFenced at hm ⊢
  rwa [(s.fenceSup_beyond_mark h cause).rd (supState_ne_fenceSupFields h)]

end Sys2Proof.Machine

end

/-! PROOFS. Snapshots and the wear record (R434–R439). -/

section

namespace Sys2Proof.Machine

set_option Elab.async false

/-! ## The first word of a record (R435, R436) -/

theorem packRec_eq_sum (l : List (Nat × Nat × Nat)) : packRec l = (l.map (fun e => e.2.2 % 2 ^ e.2.1 * 2 ^ (8 * e.1))).sum :=
  List.sum_eq_foldl.symm

/-- Fields from the fifth byte on leave the first word. -/
theorem packRec_firstWord {l : List (Nat × Nat × Nat)} (h : ∀ e ∈ l, 4 ≤ e.1) : packRec l % 2 ^ 32 = 0 := by
  rw [packRec_eq_sum]
  induction l with
  | nil => rfl
  | cons e l ih =>
    obtain ⟨k, hk⟩ := Nat.exists_eq_add_of_le (h e List.mem_cons_self)
    have hl := ih fun a ha => h a (List.mem_cons_of_mem _ ha)
    have he : e.2.2 % 2 ^ e.2.1 * 2 ^ (8 * e.1) = 2 ^ 32 * (e.2.2 % 2 ^ e.2.1 * 2 ^ (8 * k)) := by
      rw [hk, show 8 * (4 + k) = 32 + 8 * k by omega, Nat.pow_add]
      ac_rfl
    rw [List.map_cons, List.sum_cons, he, Nat.mul_add_mod]
    exact hl

theorem packRec_fields {l : List (Nat × Nat × Nat)} (h : (l.map (·.1)).all (Nat.ble 4) = true) : packRec l % 2 ^ 32 = 0 :=
  packRec_firstWord fun e he => Nat.le_of_ble_eq_true (List.all_eq_true.mp h e.1 (List.mem_map_of_mem he))

theorem State.snapRecord_firstWord (s : State) (i : Nat) : s.snapRecord i % 2 ^ 32 = 0 := by
  unfold State.snapRecord
  split
  · exact packRec_fields rfl
  · split
    · exact packRec_fields rfl
    · refine packRec_firstWord fun e he => ?_
      obtain ⟨x, -, rfl⟩ := List.mem_map.mp he
      exact Nat.le_trans (by decide : 4 ≤ 0x10) (Nat.le_add_right _ _)

theorem State.snapHead_firstWord (s : State) {gen : Nat} (hg : gen < 2 ^ 32) : s.snapHead gen % 2 ^ 32 = gen := by
  have hrest : packRec [(4, 30, s.snap.ns), (8, 32, s.snap.sec), (12, 32, s.snap.sec / 2 ^ 32 % 2 ^ 16 + 2 ^ 31)] % 2 ^ 32 = 0 :=
    packRec_fields rfl
  rw [packRec_eq_sum] at hrest
  rw [State.snapHead, packRec_eq_sum, List.map_cons, List.sum_cons, Nat.add_mod, hrest, Nat.add_zero, Nat.mod_mod]
  exact (congrArg (· % 2 ^ 32) (Nat.mul_one _)).trans ((Nat.mod_mod _ _).trans (Nat.mod_eq_of_lt hg))

/-! ## The commands of the snapshot trigger -/

theorem State.raiseSnap_off (s : State) {k : Nat} (h : bit (s.rd F.SNP_CTL.SRC_EN) k = false) : s.raiseSnap k = s :=
  if_neg fun c => Bool.false_ne_true (h.symm.trans c)

section
variable {s : State} {k : Nat} (h : bit (s.rd F.SNP_CTL.SRC_EN) k = true)
include h

theorem State.raiseSnap_first (hh : s.on F.SNP_STAT.HELD = false) (hl : s.snap.lastTick = none) : s.raiseSnap k = s.takeSnap k := by
  refine (if_pos h).trans ?_
  rw [hl]
  exact if_neg (by rw [hh]; decide)

theorem State.raiseSnap_later {x : Nat} (hh : s.on F.SNP_STAT.HELD = false) (hl : s.snap.lastTick = some x) (hx : x + 64 ≤ s.ticks) :
    s.raiseSnap k = s.takeSnap k := by
  refine (if_pos h).trans ?_
  rw [hl]
  exact (if_neg (by omega)).trans (if_neg (by rw [hh]; simpa using hx))

theorem State.raiseSnap_taken (hh : s.on F.SNP_STAT.HELD = false)
    (hl : s.snap.lastTick = none ∨ ∃ x, s.snap.lastTick = some x ∧ x + 64 ≤ s.ticks) : s.raiseSnap k = s.takeSnap k :=
  hl.elim (State.raiseSnap_first h hh) fun ⟨_, hl, hx⟩ => State.raiseSnap_later h hh hl hx

theorem State.raiseSnap_missed {x : Nat} (hl : s.snap.lastTick = some x) (h1 : x < s.ticks) (h2 : s.ticks < x + 64) :
    s.raiseSnap k = s.count F.SNP_STAT.MISSED := by
  refine (if_pos h).trans ?_
  rw [hl]
  exact (if_neg fun c => h1.ne c.1).trans (if_pos (.inl h2))
end

/-- What a raise notes of the snapshot. -/
noncomputable def State.snapRaised (s : State) (k : Nat) : SnapSt :=
  { s.snap with due := true, srcs := 2 ^ k, ns := (s.tbase 0).ns, sec := (s.tbase 0).sec, lastTick := some s.ticks }

theorem State.takeSnap_snap (s : State) (k : Nat) : (s.takeSnap k).snap = s.snapRaised k :=
  (apply_ite State.snap _ _ _).trans (ite_self _)

theorem State.takeSnap_held (s : State) (k : Nat) (hh : s.on F.SNP_STAT.HELD = false) :
    (s.takeSnap k).on F.SNP_STAT.HELD = s.on F.SNP_CTL.MODE := by
  cases hm : s.on F.SNP_CTL.MODE with
  | true => exact (congrArg (State.on · F.SNP_STAT.HELD) (if_pos hm)).trans (congrArg (· == 1) (State.rd_wr_same _ F.SNP_STAT.HELD 1))
  | false => exact (congrArg (State.on · F.SNP_STAT.HELD) (if_neg fun c => Bool.false_ne_true (hm.symm.trans c))).trans hh

/-- SNP_FIRE and SNAP_IN_EDGE raise a snapshot from their source. -/
theorem exec_raise {s : State} {r : Req} {i : Instr} {k : Nat}
    (h : (i = .snpFire r ∧ k = 5 ∧ s.mayWrite r .snp = true) ∨ (i = .snapInEdge ∧ k = 2 ∧ s.sigServed 48 = true)) :
    exec i s = .next (s.raiseSnap k) := by
  rcases h with ⟨rfl, rfl, hr⟩ | ⟨rfl, rfl, hr⟩
  · exact congrArg Host.Outcome.next (if_pos hr)
  · exact congrArg Host.Outcome.next (if_pos hr)
/-! ## Delivery and the pairing sample that waited (R14, R387, R435) -/

theorem State.pairTake_keepsRegs (s : State) (d : Int) : s.keepsRegs (s.pairTake d) [F.TMB_PAIR.DIFF, F.TMB_STAT.PAIR_ERR] := by
  unfold State.pairTake
  have hbase : s.keepsRegs (if s.time.refLost then s.pairDrift d else s) [F.TMB_PAIR.DIFF, F.TMB_STAT.PAIR_ERR] :=
    .ite (.same rfl) (.refl _ _)
  exact .ite ((hbase.wr (f := F.TMB_PAIR.DIFF) _ (by simp)).wr (f := F.TMB_STAT.PAIR_ERR) 1 (by simp))
    (hbase.wr (f := F.TMB_PAIR.DIFF) _ (by simp))

/-- The records that a delivery latches. -/
noncomputable def State.snapRecords (s : State) : List (Nat × Nat) :=
  (List.range 494).map (fun i => (i, s.snapHead ((s.rd F.SNP_GEN.GEN + 1) % 2 ^ 32) + s.snapRecord i))

/-- The state in which every block has latched its record. -/
noncomputable def State.snapLatched (s : State) : State :=
  { (((s.wr F.SNP_GEN.GEN ((s.rd F.SNP_GEN.GEN + 1) % 2 ^ 32)).wr F.SNP_STAT.SRC s.snap.srcs).wr F.SNP_TIME_NS.NS s.snap.ns).wr
      F.SNP_TIME_SEC.SEC s.snap.sec with
    snap := { s.snap with due := false, outHigh := true, records := s.snapRecords } }

/-- The pairing sample that waited for the delivery is taken. -/
noncomputable def State.pairSettled (s : State) : State :=
  match s.time.pairDue with
  | some d => (s.pairTake d).updTime (fun t => { t with pairDue := none })
  | none => s

theorem execSnapDeliver_due {s : State} (h : s.snap.due = true) : execSnapDeliver s = .next s.snapLatched.pairSettled := by
  unfold execSnapDeliver
  rw [if_neg (by simp [h])]
  rfl

theorem State.pairSettled_of_some {s : State} {d : Int} (h : s.time.pairDue = some d) :
    s.pairSettled = (s.pairTake d).updTime (fun t => { t with pairDue := none }) := by
  rw [State.pairSettled, h]

theorem State.pairSettled_of_none {s : State} (h : s.time.pairDue = none) : s.pairSettled = s := by
  rw [State.pairSettled, h]

theorem State.pairSettled_due (s : State) : s.pairSettled.time.pairDue = none := by
  cases h : s.time.pairDue with
  | none => exact (congrArg (fun t : State => t.time.pairDue) (State.pairSettled_of_none h)).trans h
  | some d => exact congrArg (fun t : State => t.time.pairDue) (State.pairSettled_of_some h)

theorem State.pairSettled_snap (s : State) : s.pairSettled.snap = s.snap := by
  cases h : s.time.pairDue with
  | none => exact congrArg State.snap (State.pairSettled_of_none h)
  | some d => exact (congrArg State.snap (State.pairSettled_of_some h)).trans ((s.pairTake_changes d).snap rfl)

theorem State.pairSettled_keepsRegs (s : State) : s.keepsRegs s.pairSettled [F.TMB_PAIR.DIFF, F.TMB_STAT.PAIR_ERR] := by
  cases h : s.time.pairDue with
  | none => exact .same (congrArg State.regs (State.pairSettled_of_none h))
  | some d => exact (s.pairTake_keepsRegs d).of_regs ((congrArg State.regs (State.pairSettled_of_some h)).trans (State.updTime_regs _ _))

theorem State.snapLatched_gen (s : State) : s.snapLatched.rd F.SNP_GEN.GEN = (s.rd F.SNP_GEN.GEN + 1) % 2 ^ 32 :=
  ((State.rd_wr_ne _ _ (by decide)).trans ((State.rd_wr_ne _ _ (by decide)).trans ((State.rd_wr_ne _ _ (by decide)).trans
    (s.rd_wr_same F.SNP_GEN.GEN _)))).trans (Nat.mod_mod _ _)

theorem State.snapLatched_src (s : State) : s.snapLatched.rd F.SNP_STAT.SRC = s.snap.srcs % 2 ^ 6 :=
  (State.rd_wr_ne _ _ (by decide)).trans ((State.rd_wr_ne _ _ (by decide)).trans (State.rd_wr_same _ F.SNP_STAT.SRC _))

theorem State.snapLatched_ns (s : State) : s.snapLatched.rd F.SNP_TIME_NS.NS = s.snap.ns % 2 ^ 30 :=
  (State.rd_wr_ne _ _ (by decide)).trans (State.rd_wr_same _ F.SNP_TIME_NS.NS _)

theorem State.snapLatched_keepsRegs (s : State) :
    s.keepsRegs s.snapLatched [F.SNP_GEN.GEN, F.SNP_STAT.SRC, F.SNP_TIME_NS.NS, F.SNP_TIME_SEC.SEC] :=
  ((((s.keepsRegs_wr (f := F.SNP_GEN.GEN) _ (by simp)).wr (f := F.SNP_STAT.SRC) _ (by simp)).wr (f := F.SNP_TIME_NS.NS) _
    (by simp)).wr (f := F.SNP_TIME_SEC.SEC) _ (by simp)).of_regs rfl

theorem State.snapRecords_firstWord (s : State) : ∀ e ∈ s.snapRecords, e.2 % 2 ^ 32 = (s.rd F.SNP_GEN.GEN + 1) % 2 ^ 32 := by
  intro e he
  obtain ⟨i, -, rfl⟩ := List.mem_map.mp he
  have h1 := s.snapRecord_firstWord i
  have h2 := s.snapHead_firstWord (gen := (s.rd F.SNP_GEN.GEN + 1) % 2 ^ 32) (Nat.mod_lt _ (by decide))
  simp only
  rw [Nat.add_mod, h1, h2, Nat.add_zero, Nat.mod_mod]

/-! ## The wear record (R437) -/

/-- The counters of an hour. -/
noncomputable def State.wearCounted (s : State) (cycles : Nat) (hot : Bool) : State :=
  ((s.count F.SUP_WEAR_POH.POH 1).count F.SUP_WEAR_CYC.CYC cycles).count F.SUP_WEAR_HOT.HOT (b2n hot)

theorem State.wearCounted_effect (s : State) (cycles : Nat) (hot : Bool) :
    (s.wearCounted cycles hot).rd F.SUP_WEAR_POH.POH = min (2 ^ 32 - 1) (s.rd F.SUP_WEAR_POH.POH + 1) ∧
    (s.wearCounted cycles hot).rd F.SUP_WEAR_CYC.CYC = min (2 ^ 32 - 1) (s.rd F.SUP_WEAR_CYC.CYC + cycles) ∧
    (s.wearCounted cycles hot).rd F.SUP_WEAR_HOT.HOT = min (2 ^ 32 - 1) (s.rd F.SUP_WEAR_HOT.HOT + b2n hot) ∧
    s.keepsRegs (s.wearCounted cycles hot) [F.SUP_WEAR_POH.POH, F.SUP_WEAR_CYC.CYC, F.SUP_WEAR_HOT.HOT] := by
  have hpc : F.SUP_WEAR_POH.POH.key ≠ F.SUP_WEAR_CYC.CYC.key := by decide
  have hph : F.SUP_WEAR_POH.POH.key ≠ F.SUP_WEAR_HOT.HOT.key := by decide
  have hch : F.SUP_WEAR_CYC.CYC.key ≠ F.SUP_WEAR_HOT.HOT.key := by decide
  exact ⟨(State.rd_wr_ne _ _ hph).trans ((State.rd_wr_ne _ _ hpc).trans (s.count_rd rfl 1)),
    (State.rd_wr_ne _ _ hch).trans ((State.count_rd _ rfl cycles).trans (congrArg (fun v => min _ (v + cycles)) (s.rd_wr_ne _ hpc.symm))),
    (State.count_rd _ rfl _).trans (congrArg (fun v => min _ (v + b2n hot)) ((State.rd_wr_ne _ _ hch.symm).trans (s.rd_wr_ne _ hph.symm))),
    ((s.keepsRegs_wr (f := F.SUP_WEAR_POH.POH) _ (by simp)).wr (f := F.SUP_WEAR_CYC.CYC) _ (by simp)).wr
      (f := F.SUP_WEAR_HOT.HOT) _ (by simp)⟩

/-- The readings of the aging monitors. -/
noncomputable def State.aged (s : State) (ages : List (BitVec 16)) : State :=
  s.each (ages.zipIdx.filter (fun (e : BitVec 16 × Nat) => decide (e.2 < 16))) (fun s e => s.wr (F.SUP_AGE.SLOW e.2) e.1.toNat)

theorem State.aged_keepsRegs (s : State) (ages : List (BitVec 16)) : s.keepsRegs (s.aged ages) ((List.range 16).map F.SUP_AGE.SLOW) :=
  (State.keepsRegs.refl _ _).each _ _ fun u _ he => u.keepsRegs_wr _ (List.mem_map_of_mem (List.mem_range.mpr
    (of_decide_eq_true (List.mem_filter.mp he).2)))

/-- Writes of fields with keys of their own: each field ends with what is written to it. -/
theorem State.eachPut_rd {α : Type} (s : State) (l : List α) (f : α → Fld) (v : α → Nat)
    (hl : l.Pairwise (fun a b => (f a).key ≠ (f b).key)) {a : α} (ha : a ∈ l) :
    (s.each l (fun t a => t.wr (f a) (v a))).rd (f a) = v a % 2 ^ (f a).w := by
  induction l generalizing s with
  | nil => cases ha
  | cons b l ih =>
    obtain ⟨hb, hl⟩ := List.pairwise_cons.mp hl
    rw [State.each_cons]
    rcases List.mem_cons.mp ha with rfl | ha
    · have hk : (s.wr (f a) (v a)).keepsRegs ((s.wr (f a) (v a)).each l (fun t a => t.wr (f a) (v a))) (l.map f) :=
        (State.keepsRegs.refl _ _).each l _ fun u c hc => u.keepsRegs_wr _ (List.mem_map_of_mem hc)
      exact (hk.rd fun g hg => by
        obtain ⟨c, hc, rfl⟩ := List.mem_map.mp hg
        exact hb c hc).trans (s.rd_wr_same _ _)
    · exact ih _ hl ha

theorem State.aged_slow (s : State) (ages : List (BitVec 16)) (hl : ages.length = 16) {i : Nat} (hi : i < 16) :
    (s.aged ages).rd (F.SUP_AGE.SLOW i) = (ages.getD i 0).toNat := by
  have hi' : i < ages.length := by omega
  have hmem : (ages[i], i) ∈ ages.zipIdx.filter (fun (e : BitVec 16 × Nat) => decide (e.2 < 16)) := by
    simp [List.mem_filter, List.mk_mem_zipIdx_iff_getElem?, hi', hi]
  have hkeys : (ages.zipIdx.filter (fun (e : BitVec 16 × Nat) => decide (e.2 < 16))).Pairwise
      (fun a b => (F.SUP_AGE.SLOW a.2).key ≠ (F.SUP_AGE.SLOW b.2).key) := by
    refine ((List.pairwise_map.mp (List.nodup_zipIdx_map_snd ages)).imp fun {a b} h => ?_).filter _
    simp only [F.SUP_AGE.SLOW]
    omega
  rw [List.getD_eq_getElem _ _ hi']
  have hput := s.eachPut_rd (ages.zipIdx.filter (fun (e : BitVec 16 × Nat) => decide (e.2 < 16)))
    (fun (e : BitVec 16 × Nat) => F.SUP_AGE.SLOW e.2) (fun (e : BitVec 16 × Nat) => e.1.toNat) hkeys (a := (ages[i], i)) hmem
  rw [State.aged, hput]
  exact Nat.mod_eq_of_lt ages[i].isLt

theorem State.snapLatched_snap (s : State) : s.snapLatched.snap = { s.snap with due := false, outHigh := true, records := s.snapRecords } := rfl

theorem State.snapLatched_changes (s : State) : Changes (Part.regs ||| Part.snap) s s.snapLatched :=
  Changes.set_snap ((((s.wr_changes _ _).mono.then (State.wr_changes _ _ _)).then (State.wr_changes _ _ _)).then (State.wr_changes _ _ _))

theorem State.snapRecords_length (s : State) : s.snapRecords.length = 494 := by simp [State.snapRecords]

/-- SNAP_DELIVER of a snapshot that is due. -/
theorem snapDeliver_steps {s : State} (hd : s.snap.due = true) :
    ∃ t, exec .snapDeliver s = .next t ∧ t.rd F.SNP_GEN.GEN = (s.rd F.SNP_GEN.GEN + 1) % 2 ^ 32 ∧
      t.rd F.SNP_STAT.SRC = s.snap.srcs % 2 ^ 6 ∧ t.rd F.SNP_TIME_NS.NS = s.snap.ns % 2 ^ 30 ∧
      t.rd F.SNP_TIME_SEC.SEC = s.snap.sec % 2 ^ 48 ∧ t.snap.records.length = 494 ∧
      (∀ e ∈ t.snap.records, e.2 % 2 ^ 32 = t.rd F.SNP_GEN.GEN) ∧ t.snap.due = false ∧ t.snap.outHigh = true ∧
      t.time.pairDue = none ∧
      (s.time.pairDue = none → t = { s with regs := t.regs, snap := t.snap } ∧
        s.keepsRegs t [F.SNP_GEN.GEN, F.SNP_STAT.SRC, F.SNP_TIME_NS.NS, F.SNP_TIME_SEC.SEC]) ∧
      t = { s with regs := t.regs, snap := t.snap, tb := t.tb, time := t.time } ∧
      s.keepsRegs t [F.SNP_GEN.GEN, F.SNP_STAT.SRC, F.SNP_TIME_NS.NS, F.SNP_TIME_SEC.SEC, F.TMB_PAIR.DIFF, F.TMB_STAT.PAIR_ERR] := by
  have hx := execSnapDeliver_due hd
  have hk := s.snapLatched.pairSettled_keepsRegs
  have hs := s.snapLatched.pairSettled_snap.trans s.snapLatched_snap
  have hgen := (hk F.SNP_GEN.GEN (by decide)).trans s.snapLatched_gen
  have hrecs : s.snapLatched.pairSettled.snap.records = s.snapRecords := by rw [hs]
  exact ⟨_, hx, hgen, (hk F.SNP_STAT.SRC (by decide)).trans s.snapLatched_src,
    (hk F.SNP_TIME_NS.NS (by decide)).trans s.snapLatched_ns, (hk F.SNP_TIME_SEC.SEC (by decide)).trans (State.rd_wr_same _ F.SNP_TIME_SEC.SEC _), (congrArg List.length hrecs).trans s.snapRecords_length,
    fun e he => (s.snapRecords_firstWord e (hrecs ▸ he)).trans hgen.symm, (congrArg SnapSt.due hs :), (congrArg SnapSt.outHigh hs :),
    s.snapLatched.pairSettled_due,
    fun hp =>
      have he := State.pairSettled_of_none (s := s.snapLatched) hp
      ⟨(he.symm ▸ s.snapLatched_changes : Changes (Part.regs ||| Part.snap) s s.snapLatched.pairSettled).merge_eq,
        s.snapLatched_keepsRegs.of_regs (congrArg State.regs he)⟩,
    ((execSnapDeliver_answers s).changes hx).merge_eq,
    (s.snapLatched_keepsRegs.mono (by simp +contextual)).trans (hk.mono (by simp +contextual))⟩

/-- Settles O44: a raise, a delivery and an hour of wear, each by its own lemma. -/
theorem snapshotsAreRaisedLatchedAndHeldAndWearCounts : Obligations.SnapshotsAreRaisedLatchedAndHeldAndWearCounts :=
  ⟨fun s _ _ k hi => ⟨fun hoff => (exec_raise hi).trans (congrArg _ (s.raiseSnap_off hoff)),
      fun hon hheld hl =>
        have hk := s.takeSnap_snap k
        ⟨_, (exec_raise hi).trans (congrArg _ (State.raiseSnap_taken hon hheld hl)), congrArg SnapSt.due hk, congrArg SnapSt.srcs hk,
          congrArg SnapSt.ns hk, congrArg SnapSt.sec hk, congrArg SnapSt.lastTick hk, s.takeSnap_held k hheld,
          (congrArg SnapSt.records hk).trans rfl, (s.takeSnap_changes k).merge_eq, s.takeSnap_keepsRegs k⟩,
      fun _ hon hl h1 h2 => ⟨_, (exec_raise hi).trans (congrArg _ (State.raiseSnap_missed hon hl h1 h2)), s.count_rd rfl 1, rfl,
        s.keepsRegs_wr _ (List.mem_singleton.mpr rfl)⟩⟩,
    fun _ hs => congrArg Host.Outcome.next (if_neg fun c => Bool.false_ne_true (hs.symm.trans c)),
    fun s _ hr => ⟨_, congrArg Host.Outcome.next (if_pos hr), s.rd_wr_same F.SNP_STAT.HELD 0, rfl, s.keepsRegs_wr _ (List.mem_singleton.mpr rfl)⟩,
    fun s => ⟨fun hd => congrArg Host.Outcome.next (if_pos (by rw [hd]; decide)), snapDeliver_steps, ⟨_, rfl, rfl⟩⟩,
    fun s cycles hot ages hl =>
      have hw := s.wearCounted_effect cycles hot
      have hage := (s.wearCounted cycles hot).aged_keepsRegs ages
      ⟨_, rfl, (hage F.SUP_WEAR_POH.POH (by decide)).trans hw.1, (hage F.SUP_WEAR_CYC.CYC (by decide)).trans hw.2.1,
        (hage F.SUP_WEAR_HOT.HOT (by decide)).trans hw.2.2.1,
        fun _ hj => State.aged_slow _ ages hl hj, ((execWearHour_answers cycles hot ages s).changes rfl).merge_eq,
        (hw.2.2.2.mono fun _ => List.mem_append_left _).trans (hage.mono fun _ => List.mem_append_right _)⟩⟩

end Sys2Proof.Machine

end

/-! PROOFS. Responses and snoops at an interface (R265, R366–R378). -/

section

namespace Sys2Proof.Machine

set_option Elab.async false

/-! ## Interfaces -/

@[simp] theorem State.ni_updNi (s : State) (id : Nat) (f : NiSt → NiSt) : (s.updNi id f).ni id = f (s.ni id) :=
  Table.get_upd_same _ _ _ _

theorem State.ni_updNi_ne (s : State) {id m : Nat} (f : NiSt → NiSt) (h : m ≠ id) : (s.updNi id f).ni m = s.ni m :=
  Table.get_upd_ne _ _ _ _ h

@[simp] theorem State.ni_wr (s : State) (g : Fld) (v m : Nat) : (s.wr g v).ni m = s.ni m := rfl

theorem State.onlyNi_updNi (s : State) (id : Nat) (f : NiSt → NiSt) : s.onlyNi (s.updNi id f) id := fun _ h => s.ni_updNi_ne f h

theorem State.onlyNi.trans {s t u : State} {id : Nat} (h : s.onlyNi t id) (k : t.onlyNi u id) : s.onlyNi u id :=
  fun m hm => (k m hm).trans (h m hm)

theorem State.onlyNi.of_nis {s t u : State} {id : Nat} (h : s.onlyNi t id) (k : u.nis = t.nis) : s.onlyNi u id :=
  h.trans fun m _ => by rw [State.ni, State.ni, k]

/-- The state in which packet p has left the receive queue of an interface. -/
noncomputable def State.received (s : State) (id : Nat) (p : Pkt) : State := s.updNi id (fun x => { x with rxq := x.rxq.erase p })

theorem State.received_ni (s : State) (id : Nat) (p : Pkt) : (s.received id p).ni id = { s.ni id with rxq := (s.ni id).rxq.erase p } :=
  s.ni_updNi id _

theorem State.received_onlyNi (s : State) (id : Nat) (p : Pkt) : s.onlyNi (s.received id p) id := s.onlyNi_updNi id _

theorem State.received_eq (s : State) (id : Nat) (p : Pkt) : s.received id p = { s with nis := (s.received id p).nis } := rfl

/-- What is no request is handled at any interface whose block side moves. -/
theorem State.onRx_eq {s : State} {id opc : Nat} {p : Pkt} (f : Pkt → State → State) (hr : s.niRuns id = true) (hf : s.firstRx id opc p)
    (ho : 6 < opc) : s.onRx id opc f = f p (s.received id p) := by
  simp only [State.onRx, State.takeRx, hf.1, hr, Bool.not_true, Bool.false_eq_true, if_false]
  rw [if_neg (by omega)]
  rfl

/-! ## Responses (R366, R371, R377) -/

/-- The commands that hand a response over, with its opcode. -/
noncomputable def responses (id : Fin 256) : List (Instr × Nat) :=
  [(.ack id, 0x41), (.regData id, 0x44), (.rdata id, 0xC1), (.grant id, 0x40), (.nack id, 0x42)]

theorem exec_response {s : State} {id : Fin 256} {i : Instr} {n : Nat} (h : (i, n) ∈ responses id) :
    6 < n ∧ ∃ f, exec i s = .next (s.onResponse id n f) := by
  simp only [responses, List.mem_cons, Prod.mk.injEq, List.not_mem_nil, or_false] at h
  rcases h with ⟨rfl, rfl⟩ | ⟨rfl, rfl⟩ | ⟨rfl, rfl⟩ | ⟨rfl, rfl⟩ | ⟨rfl, rfl⟩ <;> exact ⟨by omega, _, rfl⟩

theorem State.onResponse_late {s : State} {id n : Nat} {p : Pkt} (f : Pkt → State → State) (hr : s.niRuns id = true)
    (hf : s.firstRx id n p) (hn : 6 < n) (ho : (s.ni id).outst.any (fun o => o.tag = p.tag) = false)
    (hc : (s.ni id).cut.contains p.tag = false) : s.onResponse id n f = (s.received id p).countLate id := by
  rw [State.onResponse, s.onRx_eq _ hr hf hn, s.received_ni, if_neg (by simpa using ho), if_neg (by simpa using hc)]

theorem State.onResponse_cut {s : State} {id n : Nat} {p : Pkt} (f : Pkt → State → State) (hr : s.niRuns id = true)
    (hf : s.firstRx id n p) (hn : 6 < n) (ho : (s.ni id).outst.any (fun o => o.tag = p.tag) = false)
    (hc : (s.ni id).cut.contains p.tag = true) : s.onResponse id n f =
      ((s.received id p).updNi id (fun x => { x with cut := x.cut.erase p.tag })).countCut id := by
  rw [State.onResponse, s.onRx_eq _ hr hf hn, s.received_ni, if_neg (by simpa using ho), if_pos (by simpa using hc)]

theorem State.onResponse_open {s : State} {id n : Nat} {p : Pkt} (f : Pkt → State → State) (hr : s.niRuns id = true)
    (hf : s.firstRx id n p) (hn : 6 < n) (ho : (s.ni id).outst.any (fun o => o.tag = p.tag) = true) :
    s.onResponse id n f = f p ((s.received id p).handOver id p) := by
  rw [State.onResponse, s.onRx_eq _ hr hf hn, s.received_ni, if_pos (by simpa using ho)]

theorem responseLate {s : State} {id : Fin 256} {p : Pkt} {n : Nat} {i : Instr} (hi : (i, n) ∈ responses id) (hr : s.niRuns id = true)
    (hf : s.firstRx id n p) (ho : (s.ni id).outst.any (fun o => o.tag = p.tag) = false) (hc : (s.ni id).cut.contains p.tag = false) :
    ∃ t, exec i s = .next t ∧
      (t.ni id).rxq = (s.ni id).rxq.erase p ∧ (t.ni id).got = (s.ni id).got ∧ (t.ni id).outst = (s.ni id).outst ∧
      t.rd (F.NOC_NI_ERR.LATE (niHalf id) (niL id)) = min (2 ^ 8 - 1) (s.rd (F.NOC_NI_ERR.LATE (niHalf id) (niL id)) + 1) ∧
      s.onlyNi t id ∧ t = { s with regs := t.regs, nis := t.nis } ∧ s.keepsRegs t [F.NOC_NI_ERR.LATE (niHalf id) (niL id)] := by
  obtain ⟨hn, f, hx⟩ := exec_response (s := s) hi
  rw [s.onResponse_late f hr hf hn ho hc] at hx
  have hni : ((s.received id p).countLate id).ni id = (s.received id p).ni id := rfl
  refine ⟨_, hx, ?_, ?_, ?_, State.count_rd _ rfl _, (s.received_onlyNi id p).of_nis rfl, ?_, ?_⟩
  · rw [hni, s.received_ni]
  · rw [hni, s.received_ni]
  · rw [hni, s.received_ni]
  · exact (((s.updNi_changes id _).mono.then (State.wr_changes _ _ _) :
      Changes (Part.regs ||| Part.nis) s ((s.received id p).countLate id))).merge_eq
  · exact (State.keepsRegs.same rfl).wr _ (by simp)

theorem late_ne_endpointLate (i j e : Nat) : (F.NOC_NI_ERR.LATE i j).key ≠ (F.FAB_NE_STAT.LATE e).key := by
  simp only [F.NOC_NI_ERR.LATE, F.FAB_NE_STAT.LATE]
  omega

theorem State.countCut_effect (s : State) (id : Nat) :
    (s.countCut id).rd (F.NOC_NI_ERR.LATE (niHalf id) (niL id)) = min (2 ^ 8 - 1) (s.rd (F.NOC_NI_ERR.LATE (niHalf id) (niL id)) + 1) ∧
    (niIsEndpoint id = true → (s.countCut id).rd (F.FAB_NE_STAT.LATE (niEndpoint id)) =
      min (2 ^ 16 - 1) (s.rd (F.FAB_NE_STAT.LATE (niEndpoint id)) + 1)) ∧
    (s.countCut id).nis = s.nis ∧
    s.keepsRegs (s.countCut id) ((if niIsEndpoint id then [F.FAB_NE_STAT.LATE (niEndpoint id)] else []) ++
      [F.NOC_NI_ERR.LATE (niHalf id) (niL id)]) := by
  have hne := late_ne_endpointLate (niHalf id) (niL id) (niEndpoint id)
  have hlate := s.keepsRegs_wr (f := F.NOC_NI_ERR.LATE (niHalf id) (niL id))
    (min (2 ^ 8 - 1) (s.rd (F.NOC_NI_ERR.LATE (niHalf id) (niL id)) + 1)) (fs := [F.NOC_NI_ERR.LATE (niHalf id) (niL id)]) (by simp)
  unfold State.countCut State.countLate State.when
  cases niIsEndpoint id with
  | true =>
    refine ⟨(State.rd_wr_ne _ _ hne).trans (s.count_rd rfl _), fun _ => ?_, rfl, ?_⟩
    · exact (State.count_rd _ rfl _).trans (congrArg (fun v => min (2 ^ 16 - 1) (v + 1)) (s.rd_wr_ne _ hne.symm))
    · exact (hlate.mono (by simp)).wr _ (by simp)
  | false => exact ⟨s.count_rd rfl _, fun h => Bool.noConfusion h, rfl, hlate⟩

theorem responseCut {s : State} {id : Fin 256} {p : Pkt} {n : Nat} {i : Instr} (hi : (i, n) ∈ responses id) (hr : s.niRuns id = true)
    (hf : s.firstRx id n p) (ho : (s.ni id).outst.any (fun o => o.tag = p.tag) = false) (hc : (s.ni id).cut.contains p.tag = true) :
    ∃ t, exec i s = .next t ∧
      (t.ni id).rxq = (s.ni id).rxq.erase p ∧ (t.ni id).cut = (s.ni id).cut.erase p.tag ∧
      t.rd (F.NOC_NI_ERR.LATE (niHalf id) (niL id)) = min (2 ^ 8 - 1) (s.rd (F.NOC_NI_ERR.LATE (niHalf id) (niL id)) + 1) ∧
      (niIsEndpoint id = true → t.rd (F.FAB_NE_STAT.LATE (niEndpoint id)) =
        min (2 ^ 16 - 1) (s.rd (F.FAB_NE_STAT.LATE (niEndpoint id)) + 1)) ∧
      s.onlyNi t id ∧ t = { s with regs := t.regs, nis := t.nis } ∧
      s.keepsRegs t ((if niIsEndpoint id then [F.FAB_NE_STAT.LATE (niEndpoint id)] else []) ++
        [F.NOC_NI_ERR.LATE (niHalf id) (niL id)]) := by
  obtain ⟨hn, f, hx⟩ := exec_response (s := s) hi
  rw [s.onResponse_cut f hr hf hn ho hc] at hx
  obtain ⟨h1, h2, h3, h4⟩ := ((s.received id p).updNi id (fun x => { x with cut := x.cut.erase p.tag })).countCut_effect id
  have hni : (((s.received id p).updNi id (fun x => { x with cut := x.cut.erase p.tag })).countCut id).ni id =
      { s.ni id with rxq := (s.ni id).rxq.erase p, cut := (s.ni id).cut.erase p.tag } := by
    rw [State.ni, h3, ← State.ni, State.ni_updNi, s.received_ni]
  refine ⟨_, hx, ?_, ?_, h1, h2, ?_, ?_, (State.keepsRegs.same rfl).trans h4⟩
  · rw [hni]
  · rw [hni]
  · exact ((s.received_onlyNi id p).trans (State.onlyNi_updNi _ id _)).of_nis h3
  · exact ((((s.updNi_changes id _).mono.then (State.updNi_changes _ id _)).then (State.countCut_changes _ id) :
      Changes (Part.regs ||| Part.nis) s _)).merge_eq

theorem State.complete_effect (s : State) (id tag : Nat) :
    (s.complete id tag).ni id = { s.ni id with outst := (s.ni id).outst.filter (fun o => o.tag ≠ tag) } ∧
    (s.complete id tag).rd (F.NOC_NI_STAT.OUT (niHalf id) (niL id)) = ((s.complete id tag).ni id).outst.length % 2 ^ 9 ∧
    s.onlyNi (s.complete id tag) id ∧ s.keepsRegs (s.complete id tag) [F.NOC_NI_STAT.OUT (niHalf id) (niL id)] := by
  have hni : (s.complete id tag).nis = (s.updNi id (fun x => { x with outst := x.outst.filter (fun o => o.tag ≠ tag) })).nis := rfl
  refine ⟨?_, ?_, (s.onlyNi_updNi id _).of_nis hni, (State.keepsRegs.same rfl).wr _ (by simp)⟩
  · rw [State.ni, hni, ← State.ni, State.ni_updNi]
  · exact State.rd_wr_same _ _ _

/-- The state in which response p has left the queue and been handed to the block. -/
noncomputable def State.handed (s : State) (id : Nat) (p : Pkt) : State := (s.received id p).handOver id p

theorem State.handed_ni (s : State) (id : Nat) (p : Pkt) :
    (s.handed id p).ni id = { s.ni id with rxq := (s.ni id).rxq.erase p, got := (s.ni id).got ++ [p] } := by
  rw [State.handed, State.handOver, State.ni_updNi, s.received_ni]

theorem State.handed_onlyNi (s : State) (id : Nat) (p : Pkt) : s.onlyNi (s.handed id p) id :=
  (s.received_onlyNi id p).trans (State.onlyNi_updNi _ id _)

theorem State.handed_changes (s : State) (id : Nat) (p : Pkt) : Changes Part.nis s (s.handed id p) :=
  (s.updNi_changes id _).then (State.updNi_changes _ id _)

theorem responseDone {s : State} {id : Fin 256} {p : Pkt} {n : Nat} {i : Instr}
    (hi : (i, n) ∈ [(Instr.ack id, 0x41), (.regData id, 0x44), (.rdata id, 0xC1)]) (hr : s.niRuns id = true) (hf : s.firstRx id n p)
    (ho : (s.ni id).outst.any (fun o => o.tag = p.tag) = true) :
    ∃ t, exec i s = .next t ∧ (t.ni id).rxq = (s.ni id).rxq.erase p ∧ (t.ni id).got = (s.ni id).got ++ [p] ∧
      (t.ni id).outst = (s.ni id).outst.filter (fun o => o.tag ≠ p.tag) ∧
      t.rd (F.NOC_NI_STAT.OUT (niHalf id) (niL id)) = (t.ni id).outst.length % 2 ^ 9 ∧
      s.onlyNi t id ∧ t = { s with regs := t.regs, nis := t.nis } ∧ s.keepsRegs t [F.NOC_NI_STAT.OUT (niHalf id) (niL id)] := by
  have hx : exec i s = .next (s.onResponse id n (fun p s => s.complete id p.tag)) ∧ 6 < n := by
    simp only [List.mem_cons, Prod.mk.injEq, List.not_mem_nil, or_false] at hi
    rcases hi with ⟨rfl, rfl⟩ | ⟨rfl, rfl⟩ | ⟨rfl, rfl⟩ <;> exact ⟨rfl, by omega⟩
  obtain ⟨hx, hn⟩ := hx
  rw [s.onResponse_open _ hr hf hn ho] at hx
  obtain ⟨h1, h2, h3, h4⟩ := (s.handed id p).complete_effect id p.tag
  rw [s.handed_ni] at h1
  refine ⟨(s.handed id p).complete id p.tag, hx, ?_, ?_, ?_, h2, (s.handed_onlyNi id p).trans h3, ?_, (State.keepsRegs.same rfl).trans h4⟩
  · rw [h1]
  · rw [h1]
  · rw [h1]
  · exact (((s.handed_changes id p).mono.then (State.complete_changes _ id p.tag) : Changes (Part.regs ||| Part.nis) s _)).merge_eq

theorem responseGrant {s : State} {id : Fin 256} {p : Pkt} (hr : s.niRuns id = true) (hf : s.firstRx id 0x40 p)
    (ho : (s.ni id).outst.any (fun o => o.tag = p.tag) = true) :
    ∃ t, exec (.grant id) s = .next t ∧ (t.ni id).got = (s.ni id).got ++ [p] ∧
      (t.ni id).rxq = (s.ni id).rxq.erase p ∧ (t.ni id).outst = (s.ni id).outst ∧
      (t.ni id).grants = (s.ni id).grants ++ [p] ∧ s.onlyNi t id ∧ t = { s with nis := t.nis } := by
  have hx : exec (.grant id) s = .next ((s.handed id p).updNi id (fun x => { x with grants := x.grants ++ [p] })) :=
    congrArg Host.Outcome.next (s.onResponse_open (fun p s => s.updNi id (fun x => { x with grants := x.grants ++ [p] })) hr hf
      (by omega) ho)
  have hni : ((s.handed id p).updNi id (fun x => { x with grants := x.grants ++ [p] })).ni id =
      { s.ni id with rxq := (s.ni id).rxq.erase p, got := (s.ni id).got ++ [p], grants := (s.ni id).grants ++ [p] } := by
    rw [State.ni_updNi, s.handed_ni]
  refine ⟨_, hx, ?_, ?_, ?_, ?_, (s.handed_onlyNi id p).trans (State.onlyNi_updNi _ id _), ?_⟩
  · rw [hni]
  · rw [hni]
  · rw [hni]
  · rw [hni]
  · exact ((s.handed_changes id p).then (State.updNi_changes _ id _)).merge_eq

/-! ## NACK (R371, R378) -/

/-- The request that a NACK ends is done, counted, and its grant void. -/
noncomputable def State.refusedRequest (s : State) (id tag : Nat) : State :=
  ((s.complete id tag).count (F.NOC_NI_ERR.NACKS (niHalf id) (niL id))).voidGrant id tag

theorem nacks_ne_out (i j : Nat) : (F.NOC_NI_ERR.NACKS i j).key ≠ (F.NOC_NI_STAT.OUT i j).key := by
  simp only [F.NOC_NI_ERR.NACKS, F.NOC_NI_STAT.OUT]
  omega

theorem nacks_ne_hostErr (i j : Nat) : (F.NOC_NI_ERR.NACKS i j).key ≠ (F.NOC_ERR.HOST_ERR 0).key := by
  simp only [F.NOC_NI_ERR.NACKS, F.NOC_ERR.HOST_ERR]
  omega

theorem State.refusedRequest_effect (s : State) (id tag : Nat) :
    (s.refusedRequest id tag).ni id = { s.ni id with
      outst := (s.ni id).outst.filter (fun o => o.tag ≠ tag),
      grants := (s.ni id).grants.filter (fun g => !(g.opc = 0x40 && g.tag = tag)) } ∧
    (s.refusedRequest id tag).rd (F.NOC_NI_ERR.NACKS (niHalf id) (niL id)) =
      min (2 ^ 16 - 1) (s.rd (F.NOC_NI_ERR.NACKS (niHalf id) (niL id)) + 1) ∧
    s.onlyNi (s.refusedRequest id tag) id ∧
    s.keepsRegs (s.refusedRequest id tag) [F.NOC_NI_ERR.NACKS (niHalf id) (niL id), F.NOC_NI_STAT.OUT (niHalf id) (niL id)] := by
  obtain ⟨h1, -, h3, h4⟩ := s.complete_effect id tag
  refine ⟨?_, ?_, ?_, ?_⟩
  · rw [State.refusedRequest, State.voidGrant, State.ni_updNi, State.count, State.ni_wr, h1]
  · rw [State.refusedRequest, State.voidGrant, State.rd_updNi, State.count_rd (w := 16) _ rfl,
      h4 _ (by simpa using nacks_ne_out _ _)]
  · have hcount : ((s.complete id tag).count (F.NOC_NI_ERR.NACKS (niHalf id) (niL id))).nis = (s.complete id tag).nis := State.wr_nis _ _ _
    exact (h3.of_nis hcount).trans (State.onlyNi_updNi _ id _)
  · have hcount : (s.complete id tag).keepsRegs ((s.complete id tag).count (F.NOC_NI_ERR.NACKS (niHalf id) (niL id)))
        [F.NOC_NI_ERR.NACKS (niHalf id) (niL id), F.NOC_NI_STAT.OUT (niHalf id) (niL id)] := State.keepsRegs_wr _ _ (by simp)
    exact ((h4.mono (by simp)).trans hcount).of_regs (State.updNi_regs _ _ _)

theorem State.refusedRequest_changes (s : State) (id tag : Nat) : Changes (Part.regs ||| Part.nis) s (s.refusedRequest id tag) :=
  ((s.complete_changes id tag).mono.then (State.count_changes _ _ _)).then (State.voidGrant_changes _ id tag)

theorem State.masterError_other (s : State) {id : Nat} (q : Option Pkt) (h : id ≠ 53) : s.masterError id q = s := by
  rw [State.masterError, if_neg h]

theorem State.masterError_host (s : State) (q : Option Pkt) : (s.masterError 53 q).rd (F.NOC_ERR.HOST_ERR 0) = 1 ∧
    (s.masterError 53 q).nis = s.nis ∧ s.keepsRegs (s.masterError 53 q) [F.NOC_ERR.HOST_ERR 0] ∧
    (q.any (fun p => p.opc == 1 || p.opc == 7) = true → Table.get 0 (s.masterError 53 q).bus 0 = 0xFFFFFFFF) := by
  have hset : s.keepsRegs (s.setOn (F.NOC_ERR.HOST_ERR 0)) [F.NOC_ERR.HOST_ERR 0] := s.keepsRegs_wr _ (by simp)
  have hone : (s.setOn (F.NOC_ERR.HOST_ERR 0)).rd (F.NOC_ERR.HOST_ERR 0) = 1 := s.rd_wr_same _ _
  rw [State.masterError, if_pos rfl, State.when]
  split
  · exact ⟨hone, rfl, hset, fun _ => State.setBus_answer _ (.fn 0) _⟩
  · next h => exact ⟨hone, rfl, hset, fun hq => absurd hq h⟩

theorem responseNack {s : State} {id : Fin 256} {p : Pkt} (hr : s.niRuns id = true) (hf : s.firstRx id 0x42 p)
    (ho : (s.ni id).outst.any (fun o => o.tag = p.tag) = true) :
    ∃ t, exec (.nack id) s = .next t ∧ (t.ni id).got = (s.ni id).got ++ [p] ∧
      (t.ni id).outst = (s.ni id).outst.filter (fun o => o.tag ≠ p.tag) ∧
      (t.ni id).grants = (s.ni id).grants.filter (fun g => !(g.opc = 0x40 && g.tag = p.tag)) ∧
      t.rd (F.NOC_NI_ERR.NACKS (niHalf id) (niL id)) = min (2 ^ 16 - 1) (s.rd (F.NOC_NI_ERR.NACKS (niHalf id) (niL id)) + 1) ∧
      s.onlyNi t id ∧
      (id.val ≠ 53 → t = { s with regs := t.regs, nis := t.nis } ∧
        s.keepsRegs t [F.NOC_NI_ERR.NACKS (niHalf id) (niL id), F.NOC_NI_STAT.OUT (niHalf id) (niL id)]) ∧
      (id.val = 53 → t.rd (F.NOC_ERR.HOST_ERR 0) = 1 ∧
        (∀ o, s.outstOf id p.tag = some o → o.opc = 1 ∨ o.opc = 7 → Table.get 0 t.bus 0 = 0xFFFFFFFF)) := by
  have hx : exec (.nack id) s = .next (((s.handed id p).refusedRequest id p.tag).masterError id (s.outstOf id p.tag)) :=
    congrArg Host.Outcome.next (s.onResponse_open (fun p t => (((t.complete id p.tag).count
      (F.NOC_NI_ERR.NACKS (niHalf id) (niL id))).voidGrant id p.tag).masterError id (s.outstOf id p.tag)) hr hf (by omega) ho)
  obtain ⟨h1, h2, h3, h4⟩ := (s.handed id p).refusedRequest_effect id p.tag
  have hhand : (s.handed id p).regs = s.regs := rfl
  have hkeep := (State.keepsRegs.same hhand).trans h4
  have hnacks := h2.trans (congrArg (fun v => min (2 ^ 16 - 1) (v + 1)) (State.rd_of_regs hhand _))
  have honly := (s.handed_onlyNi id p).trans h3
  rw [s.handed_ni] at h1
  have hnis : (((s.handed id p).refusedRequest id p.tag).masterError id (s.outstOf id p.tag)).nis =
      ((s.handed id p).refusedRequest id p.tag).nis := (State.masterError_changes _ _ _).nis rfl
  have hni : (((s.handed id p).refusedRequest id p.tag).masterError id (s.outstOf id p.tag)).ni id =
      ((s.handed id p).refusedRequest id p.tag).ni id := by rw [State.ni, hnis, State.ni]
  refine ⟨_, hx, ?_, ?_, ?_, ?_, honly.of_nis hnis, fun h => ?_, fun h => ?_⟩
  · rw [hni, h1]
  · rw [hni, h1]
  · rw [hni, h1]
  · by_cases h : id.val = 53
    · rw [h, (State.masterError_host _ _).2.2.1 _ (by simpa using nacks_ne_hostErr _ _)]
      exact h ▸ hnacks
    · rw [State.masterError_other _ _ h]
      exact hnacks
  · rw [State.masterError_other _ _ h]
    exact ⟨((s.handed_changes id p).mono.then (State.refusedRequest_changes _ _ _) : Changes (Part.regs ||| Part.nis) s _).merge_eq, hkeep⟩
  · rw [h]
    obtain ⟨k1, -, -, k4⟩ := State.masterError_host ((s.handed 53 p).refusedRequest 53 p.tag) (s.outstOf 53 p.tag)
    refine ⟨k1, fun o hso hopc => k4 ?_⟩
    rw [hso]
    simpa using hopc

/-! ## Snoops (R265, R266) -/

theorem snoopAnswered {s : State} {id : Fin 256} {p : Pkt} {d : Desc} {n : Nat} {i : Instr}
    (hi : (i, n) ∈ [(Instr.snpInv id d, 0x80), (.snpShr id d, 0x81)]) (hr : s.niRuns id = true) (hf : s.firstRx id n p) :
    ∃ t, exec i s = .next t ∧ t = { s with nis := t.nis } ∧
      ((s.holders (niHalf p.src) (p.addr / 64)).any (fun a => a.1 = id && a.2) = false →
        s.answered t id p (reply id p 0x43 0 p.addr 0)) ∧
      ((s.holders (niHalf p.src) (p.addr / 64)).any (fun a => a.1 = id && a.2) = true →
        s.answered t id p (reply id p 0xC2 0 p.addr d.toNat)) := by
  have hx : exec i s = .next (s.onSnoop id n d.toNat) ∧ 6 < n := by
    simp only [List.mem_cons, Prod.mk.injEq, List.not_mem_nil, or_false] at hi
    rcases hi with ⟨rfl, rfl⟩ | ⟨rfl, rfl⟩ <;> exact ⟨rfl, by omega⟩
  obtain ⟨hx, hn⟩ := hx
  rw [State.onSnoop, s.onRx_eq _ hr hf hn] at hx
  have hhold : (s.received id p).holders (niHalf p.src) (p.addr / 64) = s.holders (niHalf p.src) (p.addr / 64) := rfl
  have hans : ∀ a, s.answered ((s.received id p).pushTx id a) id p a := fun a => by
    refine ⟨?_, ?_, (s.received_onlyNi id p).trans (State.onlyNi_updNi _ id _)⟩
    · rw [State.pushTx, State.ni_updNi, s.received_ni]
    · rw [State.pushTx, State.ni_updNi, s.received_ni]
  simp only [hhold] at hx
  refine ⟨_, hx, ?_, fun h => ?_, fun h => ?_⟩
  · split <;> rfl
  · rw [if_neg (by simp [h])]
    exact hans _
  · rw [if_pos h]
    exact hans _

/-- Where no request waits for a line, an answer about it goes to the directory alone. -/
theorem State.homeAnswer_none {s : State} {h l a : Nat} (hw : ∀ q ∈ s.homes, q.half = h → ∀ x ∈ q.wait, x.1 ≠ l) :
    s.homeAnswer h l a = s := by
  have hnone : s.homes.find? (fun q => q.half == h && q.wait.contains (l, a)) = none := by
    refine List.find?_eq_none.mpr fun q hq hc => ?_
    simp only [Bool.and_eq_true, beq_iff_eq, List.contains_iff_mem] at hc
    exact hw q hq hc.1 _ hc.2 rfl
  rw [State.homeAnswer, hnone]

theorem State.snoopShared_none {s : State} {h l : Nat} (hw : ∀ q ∈ s.homes, q.half = h → ∀ x ∈ q.wait, x.1 ≠ l) :
    s.snoopShared h l = false := by
  have hnone : s.homes.find? (fun q => q.half == h && q.wait.any (fun x => x.1 == l)) = none := by
    refine List.find?_eq_none.mpr fun q hq hc => ?_
    simp only [Bool.and_eq_true, beq_iff_eq, List.any_eq_true] at hc
    obtain ⟨hh, x, hx, he⟩ := hc
    exact hw q hq hh x hx he
  rw [State.snoopShared, hnone]

theorem State.holders_dropCopy (s : State) (h l a : Nat) : (s.dropCopy h l a).holders h l = (s.holders h l).filter (fun x => x.1 ≠ a) :=
  Table.get_set_same _ _ _ _

theorem snoopAcknowledged {s : State} {id : Fin 256} {p : Pkt} (hr : s.niRuns id = true)
    (hw : ∀ q ∈ s.homes, q.half = niHalf id → ∀ x ∈ q.wait, x.1 ≠ p.addr / 64) (hf : s.firstRx id 0x43 p) (ha : p.attr = 0) :
    exec (.snpAck id) s = .next ((s.received id p).dropCopy (niHalf id) (p.addr / 64) p.src) := by
  refine (congrArg Host.Outcome.next (s.onRx_eq _ hr hf (by omega))).trans ?_
  have hshared : (s.received id p).snoopShared (niHalf id) (p.addr / 64) = false := State.snoopShared_none hw
  simp only [ha, Nat.zero_ne_one, false_and, if_false, hshared, Bool.false_and, State.afterSnoop, Bool.false_eq_true]
  exact congrArg Host.Outcome.next (State.homeAnswer_none hw)

/-- The line's bytes are in bank memory and its words good. -/
noncomputable def State.lineStored (s : State) (h l v : Nat) : State :=
  (s.bankWrite h (64 * l) 64 v).each (wordsOf (64 * l) 64) (fun s w => s.setBankUe h w false)

theorem State.lineStored_parts (s : State) (h l v : Nat) : (s.lineStored h l v).nis = s.nis ∧ (s.lineStored h l v).dirc = s.dirc ∧
    (s.lineStored h l v).homes = s.homes ∧ (s.lineStored h l v).bankMem = (s.bankWrite h (64 * l) 64 v).bankMem :=
  ⟨State.each_same _ _ _ _ fun _ _ => rfl, State.each_same _ _ _ _ fun _ _ => rfl, State.each_same _ _ _ _ fun _ _ => rfl,
    State.each_same _ _ _ _ fun _ _ => rfl⟩

theorem snoopData {s : State} {id : Fin 256} {p : Pkt} (hr : s.niRuns id = true)
    (hw : ∀ q ∈ s.homes, q.half = niHalf id → ∀ x ∈ q.wait, x.1 ≠ p.addr / 64) (hf : s.firstRx id 0xC2 p) :
    exec (.snpData id) s = .next (((s.received id p).lineStored (niHalf id) (p.addr / 64) p.data).dropCopy (niHalf id) (p.addr / 64) p.src) := by
  refine (congrArg Host.Outcome.next (s.onRx_eq _ hr hf (by omega))).trans ?_
  obtain ⟨-, -, hh, -⟩ := (s.received id p).lineStored_parts (niHalf id) (p.addr / 64) p.data
  have hw' : ∀ q ∈ ((s.received id p).lineStored (niHalf id) (p.addr / 64) p.data).homes, q.half = niHalf id →
      ∀ x ∈ q.wait, x.1 ≠ p.addr / 64 := by
    rw [hh]
    exact hw
  have hshared := State.snoopShared_none hw'
  have hgo : ∀ t : State, t.homes = ((s.received id p).lineStored (niHalf id) (p.addr / 64) p.data).homes →
      t.homeAnswer (niHalf id) (p.addr / 64) p.src = t := fun t ht => State.homeAnswer_none (by rw [ht]; exact hw')
  change Host.Outcome.next ((((s.received id p).lineStored (niHalf id) (p.addr / 64) p.data).afterSnoop (niHalf id) (p.addr / 64) p.src
    (((s.received id p).lineStored (niHalf id) (p.addr / 64) p.data).snoopShared (niHalf id) (p.addr / 64))).homeAnswer (niHalf id)
    (p.addr / 64) p.src) = _
  rw [hshared, State.afterSnoop, if_neg (by decide)]
  exact congrArg Host.Outcome.next
    (hgo (((s.received id p).lineStored (niHalf id) (p.addr / 64) p.data).dropCopy (niHalf id) (p.addr / 64) p.src) rfl)

/-- Settles O38: each response and each snoop by the lemma about it. -/
theorem responsesCompleteRequestsAndSnoopsFreeTheirLines : Obligations.ResponsesCompleteRequestsAndSnoopsFreeTheirLines := by
  refine ⟨fun s id p n i hi hr hf ho hc => responseLate hi hr hf ho hc, fun s id p n i hi hr hf ho hc => responseCut hi hr hf ho hc,
    fun s id p hr ho => ⟨fun n i hi hf => responseDone hi hr hf ho, fun hf => responseGrant hr hf ho, fun hf => responseNack hr hf ho⟩,
    fun s id p d n i hi hr hf => snoopAnswered hi hr hf, fun s id p h l hh hl hr hw => ⟨fun hf ha => ?_, fun hf => ?_⟩⟩
  · subst hh hl
    refine ⟨_, snoopAcknowledged hr hw hf ha, ?_, State.holders_dropCopy _ _ _ _, rfl⟩
    exact congrArg NiSt.rxq (s.received_ni id p)
  · subst hh hl
    obtain ⟨h1, h2, -, h4⟩ := (s.received id p).lineStored_parts (niHalf id) (p.addr / 64) p.data
    refine ⟨_, snoopData hr hw hf, ?_, ?_, h4, ?_⟩
    · refine (congrArg (fun t => (Table.get NiSt.reset t id).rxq) h1).trans ?_
      exact congrArg NiSt.rxq (s.received_ni id p)
    · rw [State.holders_dropCopy, State.holders, h2]
      rfl
    · have hst : Changes (Part.bankMem ||| Part.bankUe) (s.received id p) ((s.received id p).lineStored (niHalf id) (p.addr / 64) p.data) :=
        Changes.each (State.bankWrite_changes _ _ _ _ _).mono fun _ _ h => h.then (State.setBankUe_changes _ _ _ _)
      exact (((s.updNi_changes id _).mono.then hst).then (State.dropCopy_changes _ _ _ _) :
        Changes (Part.nis ||| Part.dirc ||| Part.bankMem ||| Part.bankUe) s _).merge_eq

end Sys2Proof.Machine

end

/-! PROOFS. The end of a job leaves the registers of the blocks GLB, HIF and SUP as they were. -/

section

namespace Sys2Proof.Machine

set_option Elab.async false

/-! ## The registers of the blocks GLB, HIF and SUP -/

/-- Every register field of the blocks GLB, HIF and SUP, whose keys are the lowest, reads in t as in s. -/
noncomputable def State.keepsLow (s t : State) : Prop := ∀ g : Fld, g.key < 0x2000000 → t.rd g = s.rd g

theorem State.keepsLow.refl (s : State) : s.keepsLow s := fun _ _ => rfl

theorem State.keepsLow.trans {s t u : State} (h : s.keepsLow t) (k : t.keepsLow u) : s.keepsLow u :=
  fun g hg => (k g hg).trans (h g hg)

theorem State.keepsLow.of {s t u : State} (h : s.keepsLow t) (e : u.regs = t.regs) : s.keepsLow u :=
  fun g hg => (State.rd_of_regs e g).trans (h g hg)

theorem State.keepsLow.ite {s t u : State} {c : Prop} [Decidable c] (h : s.keepsLow t) (k : s.keepsLow u) :
    s.keepsLow (if c then t else u) := by
  split
  · exact h
  · exact k

theorem State.keepsLow.wrOf {s t : State} (h : s.keepsLow t) {f : Fld} (hf : 0x2000000 ≤ f.key) {v : Nat} : s.keepsLow (t.wr f v) :=
  fun g hg => (t.rd_wr_ne v (Nat.ne_of_lt (Nat.lt_of_lt_of_le hg hf))).trans (h g hg)

/-- A write of one of a row of registers that begins above those blocks. -/
theorem State.keepsLow.wr {s t : State} (h : s.keepsLow t) {b x w r v : Nat} {l : List (Nat × Nat)}
    (hb : Nat.ble 0x2000000 b = true := by exact rfl) : s.keepsLow (t.wr ⟨b + x, w, r, l⟩ v) :=
  h.wrOf (Nat.le_trans (Nat.le_of_ble_eq_true hb) (Nat.le_add_right b x))

theorem State.keepsLow.each {α : Type} {s t : State} (h : s.keepsLow t) {l : List α} {f : State → α → State}
    (hf : ∀ (u : State) (a : α), u.keepsLow (f u a)) : s.keepsLow (t.each l f) :=
  State.each_keeps (fun u => s.keepsLow u) t l f (fun u a hu => hu.trans (hf u a)) h

theorem State.sumpGive_keepsLow (s : State) (n k : Nat) : s.keepsLow (s.sumpGive n k) := (State.keepsLow.refl s).wr

theorem State.fpGive_keepsLow (s : State) (b k : Nat) : s.keepsLow (s.fpGive b k) := (State.keepsLow.refl s).wr

theorem State.freeVec_keepsLow (s : State) (n : Nat) (v : Vec) : s.keepsLow (s.freeVec n v) :=
  (s.sumpGive_keepsLow n _).each fun u r => u.fpGive_keepsLow r.1 1

theorem State.setLevel_keepsLow (s : State) (b : Nat) : s.keepsLow (s.setLevel b) :=
  ((State.keepsLow.refl s).of (u := s.updBay b _) rfl).wr

/-- What one change may follow: the registers of those blocks are kept. -/
theorem State.keepsLow.updBay {s t : State} (h : s.keepsLow t) (b : Nat) (f : BaySt → BaySt) : s.keepsLow (t.updBay b f) := h.of rfl

theorem State.keepsLow.updEng {s t : State} (h : s.keepsLow t) (n : Nat) (f : Engine → Engine) : s.keepsLow (t.updEng n f) := h.of rfl

theorem State.keepsLow.updDmc {s t : State} (h : s.keepsLow t) (n : Nat) (f : DmcSt → DmcSt) : s.keepsLow (t.updDmc n f) := h.of rfl

theorem State.keepsLow.updTrc {s t : State} (h : s.keepsLow t) (n : Nat) (f : TraceSt → TraceSt) : s.keepsLow (t.updTrc n f) := h.of rfl

theorem State.keepsLow.updChan {s t : State} (h : s.keepsLow t) (n : Nat) (f : ChanSt → ChanSt) : s.keepsLow (t.updChan n f) := h.of rfl

theorem State.streamToken_keepsLow (s : State) (n le tag : Nat) (conf : Bool) : s.keepsLow (s.streamToken n le tag conf) :=
  (State.keepsLow.refl s).each fun _ b => .ite (((State.keepsLow.refl _).updBay b _).trans (State.setLevel_keepsLow _ b)) (.refl _)

/-! ### Requests to the DRAM, and trace packets -/

theorem State.rdAnswer_keepsLow (s : State) (id r v : Nat) (q : Pkt) :
    s.keepsLow (if r = 0 then s.answer id q 0xC1 0 q.addr v else s.nack id q r) :=
  .ite ((State.keepsLow.refl s).of ((s.answer_changes _ _ _ _ _ _).regs rfl)) ((State.keepsLow.refl s).of ((s.nack_changes _ _ _).regs rfl))

theorem State.dramAnswer_keepsLow (s : State) (n : Nat) (o : DramOp) (r : Nat) : s.keepsLow (s.dramAnswer n o r) := by
  unfold State.dramAnswer
  cases o.win with
  | some w => exact .ite ((State.keepsLow.refl s).of rfl) (State.keepsLow.wr (t := { s with bus := _ }) ((State.keepsLow.refl s).of rfl))
  | none => exact .ite (.refl s) (s.rdAnswer_keepsLow _ _ _ _)

theorem State.place_keepsLow (s : State) (h : Nat) (o : DramOp) : s.keepsLow (s.place h o) := by
  have hread : ∀ u : DramOp, s.keepsLow ((s.count (F.DMC_FWD.FWD (s.dramIf h o.line))).dramAnswer (s.dramIf h o.line) u 0) := fun u =>
    (State.keepsLow.refl s).wr.trans (State.dramAnswer_keepsLow _ _ u _)
  have hq : ∀ u : DramOp, s.keepsLow (s.enqueue (s.dramIf h o.line) u) := fun u => (State.keepsLow.refl s).of rfl
  unfold State.place
  extract_lets n q data bad t
  refine .ite ?_ ?_
  · cases ((s.dmc n).youngest o.line) with
    | some y => exact .ite (hread _) (hq _)
    | none => exact hq _
  · have hm : s.keepsLow t := (State.keepsLow.refl s).of ((s.markSince_changes _ _).regs rfl)
    clear_value t
    cases ((t.dmc n).youngest o.line) with
    | some y => exact .ite (hm.updDmc _ _) (.ite (hm.updDmc _ _).wr (hm.updDmc _ _))
    | none => exact hm.updDmc _ _

theorem State.letIn_keepsLow (s : State) (n : Nat) : s.keepsLow (s.letIn n) := by
  refine State.keepsLow.each (α := DramOp) (.refl s) fun t o => ?_
  split
  · exact .ite (((State.keepsLow.refl t).updDmc n _).trans (State.place_keepsLow _ _ _)) (.refl t)
  · exact .refl t

theorem State.dramWriteReq_keepsLow (s : State) (h line mask data : Nat) (jobs : List (Nat × Nat)) (full : Bool) :
    s.keepsLow (s.dramWriteReq h line mask data jobs full) :=
  .ite (State.keepsLow.refl s).wr (.ite (.refl s)
    ((((State.keepsLow.refl s).of ((s.wakeDram_changes _).regs rfl)).updDmc _ _).trans (State.letIn_keepsLow _ _)))

theorem State.dramPut_keepsLow (s : State) (h a k v : Nat) (full : Bool) : s.keepsLow (s.dramPut h a k v full) :=
  .ite (.refl s) ((State.keepsLow.refl s).each fun u _ => u.dramWriteReq_keepsLow _ _ _ _ _ _)

theorem State.emitPacket_keepsLow (s : State) (h : Nat) (p : Packet) : s.keepsLow (s.emitPacket h p) := by
  have ht := fun f => (State.keepsLow.refl s).updTrc h f
  exact .ite (.ite (((ht _).trans (State.dramPut_keepsLow _ _ _ _ _ _)).updTrc h _).wr.wr
    (((ht _).trans (State.dramPut_keepsLow _ _ _ _ _ _)).updTrc h _).wr) ((ht _).updTrc h _)

theorem State.tracePacket_keepsLow (s : State) (h : Nat) (p : Packet) : s.keepsLow (s.tracePacket h p) := by
  have ht : s.keepsLow (if (s.trc h).lost ≠ 0 ∧ s.traceRoom h then
      (s.updTrc h (fun t => { t with lost := 0 })).emitPacket h ⟨7, 0, 0, (s.trc h).lost, false, 0, false⟩ else s) :=
    .ite (((State.keepsLow.refl s).updTrc h _).trans (State.emitPacket_keepsLow _ h _)) (.refl s)
  exact .ite (.ite (ht.trans (State.emitPacket_keepsLow _ h p)) (ht.wr.updTrc h _)) (.refl s)

theorem State.marker_keepsLow (s : State) (n tag : Nat) (conf : Bool) : s.keepsLow (s.marker n tag conf) :=
  .ite (s.tracePacket_keepsLow _ _) (.refl s)

theorem State.tagResolved_keepsLow (s : State) (n tag : Nat) (conf : Bool) : s.keepsLow (s.tagResolved n tag conf) :=
  ((State.keepsLow.refl s).each fun u m => (u.streamToken_keepsLow m _ tag conf).of
    ((State.fabResolve_changes _ _ _ _ _).regs rfl)).trans (State.marker_keepsLow _ n tag conf)

/-! ### What leaves an engine -/

theorem State.putEvents_keepsLow (s : State) (c : Nat) (x : ChanSt) (d e : List ChEvent) : s.keepsLow (s.putEvents c x d e) :=
  .ite ((State.keepsLow.refl s).updChan c _) ((State.keepsLow.ite (State.keepsLow.refl s).wr.wr (.refl s)).updChan c _)

theorem State.pauseChan_keepsLow (s : State) (c t : Nat) : s.keepsLow (s.pauseChan c t) :=
  .ite ((State.keepsLow.refl s).updChan c _) (.ite (.refl s) (s.putEvents_keepsLow c _ _ _))

theorem State.pauseAt_keepsLow (s : State) (n t : Nat) : s.keepsLow (s.pauseAt n t) :=
  (State.keepsLow.refl s).each fun u c => u.pauseChan_keepsLow c t

theorem State.pauseFed_keepsLow (s : State) (n : Nat) : s.keepsLow (s.pauseFed n) :=
  ((State.keepsLow.refl s).updEng n _).trans (State.pauseAt_keepsLow _ n _)

theorem State.noteMiss_keepsLow (s : State) (b g uis : Nat) (cs : List Nat) : s.keepsLow (s.noteMiss b g uis cs) := by
  have h1 : s.keepsLow (s.each cs (fun s c => s.setOn (F.CHN_STAT.SS_MISS c))) := (State.keepsLow.refl s).each fun u c =>
    (State.keepsLow.refl u).wr (b := 0x6000048)
  exact (State.keepsLow.ite (.refl s) h1).wrOf (Nat.le_trans (Nat.le_trans (by decide) (Nat.le_add_right 117441088 _)) (Nat.le_add_right _ _))

theorem State.noteCompare_keepsLow (s : State) (c t : Nat) : s.keepsLow (s.noteCompare c t) := by
  unfold State.noteCompare
  split
  · exact .refl s
  · exact State.noteMiss_keepsLow (State.setSsg _ _ _ _) _ _ _ _

theorem State.driveChan_keepsLow (s : State) (n c : Nat) (v : Vec) : s.keepsLow (s.driveChan n c v) := by
  unfold State.driveChan
  extract_lets role k t s1 s2
  have h1 : s.keepsLow s1 := .ite (State.keepsLow.refl s).wr (.refl s)
  have h2 : s.keepsLow s2 := .ite (h1.trans (State.noteCompare_keepsLow _ c t)) h1
  clear_value s2
  exact .ite (h2.updChan c _) (.ite (h2.trans (s2.pauseChan_keepsLow c _))
    (.ite (h2.trans (s2.putEvents_keepsLow c _ _ _)) (h2.trans (s2.putEvents_keepsLow c _ _ _))))

theorem State.raiseSnap_keepsLow (s : State) (src : Nat) : s.keepsLow (s.raiseSnap src) := fun _ hg =>
  (s.raiseSnap_keepsRegs src).rd (List.forall_mem_cons.2 ⟨Nat.ne_of_lt (Nat.lt_trans hg (by decide)),
    List.forall_mem_singleton.2 (Nat.ne_of_lt (Nat.lt_trans hg (by decide)))⟩)

theorem State.sentOut_keepsLow (s : State) (n : Nat) (p : Sent) : s.keepsLow (s.sentOut n p) := by
  have h1 : s.keepsLow (match p.vec with
    | none => s.pauseAt n (p.clk + 4)
    | some v => s.each (s.fedBy n) (fun s c => s.driveChan n c v)) := by
    split
    · exact s.pauseAt_keepsLow n _
    · exact (State.keepsLow.refl s).each fun u c => u.driveChan_keepsLow n c _
  exact .ite (h1.trans (State.raiseSnap_keepsLow _ 0)) h1

theorem State.addCyc_keepsLow (s : State) (n k : Nat) : s.keepsLow (s.addCyc n k) :=
  (State.keepsLow.refl s).each fun t m => (State.keepsLow.ite ((State.keepsLow.refl t).updEng m _).wr
    ((State.keepsLow.refl t).updEng m _)).trans
    (((State.keepsLow.refl _).updEng m _).each fun u p => u.sentOut_keepsLow m p)

theorem State.holdFor_keepsLow (s : State) (n w : Nat) : s.keepsLow (s.holdFor n w) :=
  .ite (.refl s) (((State.keepsLow.refl s).each fun _ m => (State.keepsLow.refl _).updEng m _).trans (State.addCyc_keepsLow _ n w))

/-! ### The end of a job -/

theorem State.endFailHold_keepsLow (s : State) (n w : Nat) : s.keepsLow (s.endFailHold n w) := by
  refine State.keepsLow.each (.each (.refl s) fun u m => ?_) fun _ _ => (State.keepsLow.refl _).wr
  dsimp only
  split
  · exact (State.keepsLow.refl u).wr.of rfl
  · exact (State.keepsLow.refl u).wr

theorem State.waitCut_keepsLow (s : State) (l : Nat) : s.keepsLow (s.waitCut l) := by
  have h1 : s.keepsLow (s.free 32).2 := (State.keepsLow.refl s).of rfl
  unfold State.waitCut
  extract_lets w q t
  refine .ite (.refl s) (State.keepsLow.trans (t := t) ?_ (State.holdFor_keepsLow _ l _))
  exact .ite (h1.trans (State.endFailHold_keepsLow _ l _)) h1

theorem State.dropSem_keepsLow (s : State) (n : Nat) : s.keepsLow (s.dropSem n) := by
  unfold State.dropSem State.semRelease
  split
  · exact .refl s
  · dsimp only
    split
    · exact (State.keepsLow.refl s).of (u := s.bankWrite _ _ _ _) rfl |>.updEng n _ |>.wr
    · exact ((State.keepsLow.refl s).wr.updEng n _).wr

theorem State.stopSlot_keepsLow (s : State) (n : Nat) : s.keepsLow (s.stopSlot n) := by
  unfold State.stopSlot
  extract_lets e gone t1 t2 t3 t4 t5 t6 t7 t8 t9
  have h1 : s.keepsLow t1 := (State.keepsLow.refl s).each fun u v => u.freeVec_keepsLow n v
  have h3 : s.keepsLow t3 := State.keepsLow.trans (t := t2) h1.wr (State.sumpGive_keepsLow _ n _)
  have h4 : s.keepsLow t4 := h3.each fun u b => u.tagResolved_keepsLow n _ false
  have h6 : s.keepsLow t6 := (h4.trans (State.dropSem_keepsLow _ n)).updEng n _
  have h8 : s.keepsLow t8 := State.keepsLow.wr (t := t7) h6.wr.wr.wr
  exact State.keepsLow.trans (t := t9) h8.wr.wr.wr.wr (State.pauseFed_keepsLow _ n)

theorem State.stopJob_keepsLow (s : State) (c : Nat) : s.keepsLow (s.stopJob c) :=
  ((State.keepsLow.refl s).each fun u l => u.waitCut_keepsLow l).each fun u n => .ite (.refl u) (u.stopSlot_keepsLow n)

theorem State.freeSlot_keepsLow (s : State) (n : Nat) : s.keepsLow (s.freeSlot n) :=
  ((State.keepsLow.ite (.refl s) (State.keepsLow.refl s).wr).wr.wr.wr).updEng n _

end Sys2Proof.Machine

end

/-! PROOFS. The control actions that a block agent receives, and what a fence of an engine slot or channel group leaves fenced. -/

section

namespace Sys2Proof.Machine

set_option Elab.async false

/-! ## Fenced units (R172, R418) -/

theorem State.isFenced_of_keepsLow {s t : State} {u : Nat} (hu : u < 0x3FBFF) (h : s.keepsLow t) (hs : s.isFenced u = true) :
    t.isFenced u = true :=
  (congrArg (· != 0) (h (F.SUP_UNIT_STAT.STATE u) (Nat.lt_of_le_of_lt (Nat.add_le_add_left (Nat.mul_le_mul_right 64 (Nat.le_of_lt hu)) _)
    (by decide)))).trans hs

theorem State.isFenced_of_keepsRegs {s t : State} {u : Nat} {fs : List Fld} (h : s.keepsRegs t fs)
    (hf : ∀ f ∈ fs, (F.SUP_UNIT_STAT.STATE u).key ≠ f.key) (hs : s.isFenced u = true) : t.isFenced u = true :=
  (congrArg (· != 0) (h.rd hf)).trans hs

theorem unitState_ne_notices : ∀ u : Fin 136, ∀ f ∈ postFields 0 ++ [F.GLB_STATE.STATE, F.SUP_STAT.DEGRADED],
    (F.SUP_UNIT_STAT.STATE u).key ≠ f.key := by decide

theorem State.isFenced_postRes {s : State} {u : Fin 136} {d a b : Nat} (h : s.isFenced u = true) :
    (s.postRes d a b).isFenced u = true :=
  State.isFenced_of_keepsRegs (s.post_keepsRegs 0 _) (fun f hf => unitState_ne_notices u f (List.mem_append_left _ hf)) h

theorem State.isFenced_updDegraded {s : State} {u : Fin 136} (h : s.isFenced u = true) : s.updDegraded.isFenced u = true :=
  State.isFenced_of_keepsRegs s.updDegraded_keepsRegs (fun f hf => unitState_ne_notices u f (List.mem_append_right _ hf)) h

theorem State.fenceGroup_isFenced (s : State) (g : Fin 32) (cause : Nat) : (s.fenceGroup g cause).isFenced (104 + g) = true := by
  have hu : 104 + g.val < 136 := Nat.add_lt_add_left g.isLt 104
  have hm := s.markFenced_isFenced (u := 104 + g) cause (Nat.lt_trans hu (by decide))
  unfold State.fenceGroup
  split
  · exact hm
  · extract_lets cs jobs t1 t2 t3 t4
    have h2 : t2.isFenced (104 + g) = true :=
      State.isFenced_of_keepsLow (Nat.lt_trans hu (by decide)) ((State.keepsLow.refl t1).each fun u c => .updChan (.wr (.refl u)) c _) hm
    have h3 : t3.isFenced (104 + g) = true := State.isFenced_postRes (u := ⟨104 + g, hu⟩) h2
    exact State.isFenced_updDegraded (u := ⟨104 + g, hu⟩) (State.isFenced_of_keepsLow (Nat.lt_trans hu (by decide))
      ((State.keepsLow.refl t3).each fun u c => .trans (t := u.failFront c 0x12 0x20E) ((State.keepsLow.refl u).of rfl) (State.stopJob_keepsLow _ c)) h3)

theorem State.fenceSlot_isFenced (s : State) (n : Fin 104) (cause : Nat) : (s.fenceSlot n cause).isFenced n = true := by
  have hu : n.val < 136 := Nat.lt_trans n.isLt (by decide)
  have hm := s.markFenced_isFenced (u := n) cause (Nat.lt_trans hu (by decide))
  unfold State.fenceSlot
  split
  · exact hm
  · extract_lets le prior job spare t1 t2 t3 t4 t5 t6
    have h2 : t2.isFenced n = true := State.isFenced_postRes (u := ⟨n, hu⟩) hm
    have h3 : t2.keepsLow t3 := by
      unfold t3
      clear_value t2
      cases job with
      | some c => exact .trans (t := t2.updFront c _) ((State.keepsLow.refl t2).of rfl) (State.stopJob_keepsLow _ c)
      | none => exact (t2.dropSem_keepsLow n).trans (State.pauseFed_keepsLow _ n)
    have h5 : t2.keepsLow t5 := .of (t := t4) h3.wr.wr rfl
    have h6 : t2.keepsLow t6 := .ite (h5.of rfl) h5
    exact State.isFenced_updDegraded (u := ⟨n, hu⟩) (State.isFenced_of_keepsLow (Nat.lt_trans hu (by decide)) h6 h2)

/-- A slot or channel group whose agent a is, is fenced. -/
noncomputable def State.agentFenced (s : State) (a : Agent) : Prop :=
  (∀ n, a = .slot n → s.isFenced n = true) ∧ (∀ g, a = .group g → s.isFenced (104 + g) = true)

theorem State.fenceAgent_agentFenced (s : State) (a : Agent) (c : CtlFrom) : (s.fenceAgent a c).agentFenced a := by
  refine ⟨?_, ?_⟩
  · rintro n rfl
    exact s.fenceSlot_isFenced n 8
  · rintro g rfl
    exact s.fenceGroup_isFenced g 8

theorem State.agentFenced_of_regs {s t : State} {a : Agent} (e : t.regs = s.regs) (h : s.agentFenced a) : t.agentFenced a :=
  ⟨fun n hn => (congrArg (· != 0) (State.rd_of_regs e _)).trans (h.1 n hn),
   fun g hg => (congrArg (· != 0) (State.rd_of_regs e _)).trans (h.2 g hg)⟩

/-! ## The order of control actions (R21) -/

theorem firstOf_spec (l : List CtlAction) (hl : l ≠ []) : ∃ x, firstOf l = some x ∧ x ∈ l ∧ ∀ y ∈ l, x.rank ≤ y.rank := by
  induction l with
  | nil => exact absurd rfl hl
  | cons a l ih =>
    by_cases h : l = []
    · subst h
      exact ⟨a, rfl, List.mem_singleton.mpr rfl, fun y hy => by rw [List.mem_singleton.mp hy]⟩
    · obtain ⟨x, hx, hm, hmin⟩ := ih h
      by_cases hr : a.rank ≤ x.rank
      · exact ⟨a, by simp only [firstOf, hx, if_pos hr], List.mem_cons_self, List.forall_mem_cons.2 ⟨le_rfl, fun y hy => hr.trans (hmin y hy)⟩⟩
      · exact ⟨x, by simp only [firstOf, hx, if_neg hr], List.mem_cons_of_mem _ hm,
          List.forall_mem_cons.2 ⟨Nat.le_of_not_le hr, hmin⟩⟩

theorem CtlAction.rank_le_one (x : CtlAction) : x.rank ≤ 1 ↔ x.kind = .fence := by
  unfold CtlAction.rank
  cases x.kind <;> cases x.from_.isSup <;> decide

theorem State.actions_setActions (s : State) (a : Agent) (l : List CtlAction) : (s.setActions a l).actions a = l :=
  Table.get_set_same _ _ _ _

theorem State.fenceAgent_actions (s : State) (a b : Agent) (c : CtlFrom) : (s.fenceAgent a c).actions b = s.actions b :=
  congrArg (fun t => Table.get [] t (agentKey b)) ((s.fenceAgent_changes a c).agents rfl)

/-- Does a fence cancel the action? -/
noncomputable def CtlAction.cancellable (y : CtlAction) : Bool := y.kind == .configure || y.kind == .calibrate

/-- The state once a fence x has cancelled what it must, before it takes effect. -/
noncomputable def State.cancelled (s : State) (a : Agent) (x : CtlAction) : State :=
  { s.setActions a (((s.actions a).erase x).filter (fun y => !y.cancellable)) with
    reports := s.reports ++ (((s.actions a).erase x).filter CtlAction.cancellable).map (fun y => (agentKey a, y)) }

theorem State.execute_fence (s : State) (a : Agent) {x : CtlAction} (hx : x.kind = .fence) :
    s.execute a x = (s.cancelled a x).fenceAgent a x.from_ := by
  unfold State.execute
  rw [hx]
  rfl

theorem State.execute_other (s : State) (a : Agent) {x : CtlAction} (hx : x.kind ≠ .fence) :
    s.execute a x = s.setActions a ((s.actions a).erase x) := by
  unfold State.execute
  cases h : x.kind with
  | fence => exact absurd h hx
  | _ => rfl

/-- Executing an action leaves a part of the others. -/
theorem State.execute_actions (s : State) (a : Agent) (x : CtlAction) :
    ((s.execute a x).actions a).length ≤ ((s.actions a).erase x).length := by
  by_cases hx : x.kind = .fence
  · rw [s.execute_fence a hx, State.fenceAgent_actions]
    exact (congrArg List.length (s.actions_setActions a _)).trans_le (List.length_filter_le _ _)
  · rw [s.execute_other a hx, State.actions_setActions]

theorem State.execute_fence_report_list (s : State) (a : Agent) {x : CtlAction} (hx : x.kind = .fence) :
    (s.execute a x).reports = (s.cancelled a x).reports :=
  (congrArg State.reports (s.execute_fence a hx)).trans ((State.fenceAgent_changes _ a _).reports rfl)

theorem State.execute_reports (s : State) (a : Agent) (x : CtlAction) {r : Nat × CtlAction} (hr : r ∈ s.reports) :
    r ∈ (s.execute a x).reports := by
  by_cases hx : x.kind = .fence
  · exact s.execute_fence_report_list a hx ▸ List.mem_append_left _ hr
  · exact s.execute_other a hx ▸ hr

theorem State.execute_fence_reports (s : State) (a : Agent) {x y : CtlAction} (hx : x.kind = .fence) (hy : y ∈ s.actions a)
    (hk : y.kind = .configure ∨ y.kind = .calibrate) : (agentKey a, y) ∈ (s.execute a x).reports := by
  have hne : y ≠ x := by
    rintro rfl
    rcases hk with h | h <;> exact nomatch hx.symm.trans h
  have hc : y.cancellable = true := by
    unfold CtlAction.cancellable
    rcases hk with h | h <;> rw [h] <;> rfl
  exact s.execute_fence_report_list a hx ▸ List.mem_append_right _
    (List.mem_map_of_mem (List.mem_filter.mpr ⟨(List.mem_erase_of_ne hne).mpr hy, hc⟩))

theorem State.execute_agentFenced (s : State) (a : Agent) (x : CtlAction) (h : x.kind = .fence ∨ s.agentFenced a) :
    (s.execute a x).agentFenced a := by
  by_cases hx : x.kind = .fence
  · exact s.execute_fence a hx ▸ State.fenceAgent_agentFenced _ a _
  · exact s.execute_other a hx ▸ State.agentFenced_of_regs rfl (h.resolve_left hx)

theorem State.executeAll_keeps (P : State → Prop) (a : Agent) (hP : ∀ t x, P t → P (t.execute a x)) (k : Nat) (s : State) (h : P s) :
    P (s.executeAll a k) := by
  induction k generalizing s with
  | zero => exact h
  | succ k ih =>
    unfold State.executeAll
    split
    · exact ih _ (hP _ _ h)
    · exact h

theorem State.executeAll_succ (s : State) (a : Agent) (k : Nat) (h : s.actions a ≠ []) : ∃ x ∈ s.actions a,
    (∀ y ∈ s.actions a, x.rank ≤ y.rank) ∧ s.executeAll a (k + 1) = (s.execute a x).executeAll a k := by
  obtain ⟨x, hx, hm, hr⟩ := firstOf_spec _ h
  exact ⟨x, hm, hr, by simp only [State.executeAll, hx]⟩

theorem State.executeAll_nil (s : State) (a : Agent) (k : Nat) (h : s.actions a = []) : s.executeAll a k = s := by
  cases k with
  | zero => rfl
  | succ k => simp only [State.executeAll, h, firstOf]

theorem State.executeAll_actions (a : Agent) (k : Nat) (s : State) (h : (s.actions a).length ≤ k) : (s.executeAll a k).actions a = [] := by
  induction k generalizing s with
  | zero => exact List.length_eq_zero_iff.mp (Nat.le_zero.mp h)
  | succ k ih =>
    by_cases hn : s.actions a = []
    · rw [State.executeAll_nil s a _ hn, hn]
    · obtain ⟨x, hx, -, he⟩ := s.executeAll_succ a k hn
      rw [he]
      refine ih _ ((s.execute_actions a x).trans ?_)
      rw [List.length_erase_of_mem hx]
      exact Nat.sub_le_of_le_add h

theorem State.receive_refused {s : State} {a : Agent} {c : CtlFrom} (k : CtlKind) (more : Bool) (h : s.por = true ∨ s.accepts a c = false) :
    s.receive a k c more = s := if_pos (h.imp_right fun e => congrArg not e)

theorem State.receive_accepted {s : State} {a : Agent} {c : CtlFrom} (k : CtlKind) (more : Bool) (hp : s.por = false)
    (ha : s.accepts a c = true) : s.receive a k c more = if more = true then s.setActions a (s.actions a ++ [⟨k, c⟩]) else
      (s.setActions a (s.actions a ++ [⟨k, c⟩])).executeAll a (s.actions a ++ [(⟨k, c⟩ : CtlAction)]).length := by
  refine (if_neg (not_or.mpr ⟨Bool.eq_false_iff.mp hp, ?_⟩)).trans ?_
  · rw [ha]
    decide
  · exact congrArg (fun l : List CtlAction => if more = true then s.setActions a (s.actions a ++ [⟨k, c⟩]) else
      (s.setActions a (s.actions a ++ [⟨k, c⟩])).executeAll a l.length) (s.actions_setActions a _)

/-- An action that is no fence, received alone, leaves nothing behind but the table of actions. -/
theorem State.receive_alone {s : State} {a : Agent} {c : CtlFrom} {k : CtlKind} (hk : k ≠ .fence) (hp : s.por = false)
    (ha : s.accepts a c = true) (hn : s.actions a = []) :
    s.receive a k c false = (s.setActions a [⟨k, c⟩]).setActions a [] := by
  have hd : ((s.setActions a [⟨k, c⟩]).actions a).erase (⟨k, c⟩ : CtlAction) = [] := by
    rw [State.actions_setActions]
    exact List.erase_cons_head _ _
  have he := ((s.setActions a [⟨k, c⟩]).execute_other a (x := ⟨k, c⟩) hk).trans (congrArg _ hd)
  rw [State.receive_accepted k false hp ha, hn]
  obtain ⟨x, hx, -, h1⟩ := (s.setActions a [⟨k, c⟩]).executeAll_succ a 0 (fun h => nomatch (s.actions_setActions a _).symm.trans h)
  rw [State.actions_setActions] at hx
  cases List.mem_singleton.mp hx
  exact h1.trans he

theorem State.actions_emptied (s : State) {a : Agent} (l : List CtlAction) (hn : s.actions a = []) (b : Agent) :
    ((s.setActions a l).setActions a []).actions b = s.actions b := by
  by_cases hb : agentKey b = agentKey a
  · have hs := fun t : State => congrArg (Table.get [] t.agents) hb
    exact (hs _).trans ((State.actions_setActions _ a _).trans (hn.symm.trans (hs s).symm))
  · exact (Table.get_set_ne [] [] _ [] hb).trans (Table.get_set_ne [] [] _ l hb)

/-- A fence that arrives last is executed first, and the others after it. -/
theorem State.receive_fence {s : State} {a : Agent} {c : CtlFrom} (hp : s.por = false) (ha : s.accepts a c = true) :
    (s.receive a .fence c false).actions a = [] ∧
    (∀ y ∈ s.actions a, (y.kind = .configure ∨ y.kind = .calibrate) → (agentKey a, y) ∈ (s.receive a .fence c false).reports) ∧
    (s.receive a .fence c false).agentFenced a := by
  have hnew : (⟨.fence, c⟩ : CtlAction) ∈ s.actions a ++ [⟨.fence, c⟩] := List.mem_append_right _ (List.mem_singleton.mpr rfl)
  rw [State.receive_accepted .fence false hp ha]
  generalize hl : s.actions a ++ [⟨.fence, c⟩] = l at hnew
  obtain ⟨k, hk⟩ : ∃ k, l.length = k + 1 := Nat.exists_eq_succ_of_ne_zero (List.length_pos_of_mem hnew).ne'
  have hla := s.actions_setActions a l
  obtain ⟨x, -, hr, he⟩ := (s.setActions a l).executeAll_succ a k (by rw [hla]; exact List.ne_nil_of_mem hnew)
  have hx : x.kind = .fence := x.rank_le_one.mp ((hr _ (hla.symm ▸ hnew)).trans ((CtlAction.rank_le_one _).mpr rfl))
  refine ⟨State.executeAll_actions a _ _ (by rw [hla]), ?_, ?_⟩
  · intro y hy hk'
    rw [hk]
    refine he.symm ▸ State.executeAll_keeps (fun t => (agentKey a, y) ∈ t.reports) a (fun t z h => t.execute_reports a z h) k _
      (State.execute_fence_reports _ a hx ?_ hk')
    rw [hla, ← hl]
    exact List.mem_append_left _ hy
  · rw [hk]
    exact he.symm ▸ State.executeAll_keeps (fun t => t.agentFenced a) a (fun t z h => t.execute_agentFenced a z (.inr h)) k _
      (State.execute_agentFenced _ a x (.inl hx))

/-- Settles O9: of the actions received a fence ranks first, and each one that is executed leaves the list. -/
theorem controlActionsAreOrderedAndFencesCancel : Obligations.ControlActionsAreOrderedAndFencesCancel := fun s _ _ more =>
  ⟨fun h => ⟨congrArg Host.Outcome.next (State.receive_refused _ more h), congrArg Host.Outcome.next (State.receive_refused _ more h),
    congrArg Host.Outcome.next (State.receive_refused _ more h), congrArg Host.Outcome.next (State.receive_refused _ more h)⟩,
  fun hp ha => ⟨⟨congrArg Host.Outcome.next (State.receive_accepted _ true hp ha), congrArg Host.Outcome.next (State.receive_accepted _ true hp ha),
    congrArg Host.Outcome.next (State.receive_accepted _ true hp ha), congrArg Host.Outcome.next (State.receive_accepted _ true hp ha)⟩,
    fun hn => ⟨⟨_, congrArg Host.Outcome.next (State.receive_alone nofun hp ha hn), s.actions_emptied _ hn, rfl⟩,
      ⟨_, congrArg Host.Outcome.next (State.receive_alone nofun hp ha hn), s.actions_emptied _ hn, rfl⟩,
      ⟨_, congrArg Host.Outcome.next (State.receive_alone nofun hp ha hn), s.actions_emptied _ hn, rfl⟩⟩,
    ⟨_, rfl, State.receive_fence hp ha⟩⟩⟩

end Sys2Proof.Machine

end

/-! PROOFS. The resets of the host interface (R69): what stops with a context or function, and what leaves when the link returns. -/

section

namespace Sys2Proof.Machine

set_option Elab.async false

/-! ## Jobs of other contexts -/

theorem State.ctx_updCtx_ne (s : State) {m n : Nat} (f : CtxSt → CtxSt) (h : m ≠ n) : (s.updCtx n f).ctx m = s.ctx m :=
  Table.get_upd_ne CtxSt.reset CtxSt.reset s.ctxs f h

theorem State.waitCut_flow (s : State) (l : Nat) : SameFlow l s (s.waitCut l) := by
  have h1 : SameFlow l s (s.free 32).2 := .other (.refl s)
  unfold State.waitCut
  extract_lets w q t
  refine .ite (.refl s) (SameFlow.holdFor (s := t) ?_ _ _)
  exact .ite (h1.endFailHold _ _) h1

/-- What a hold does for one member of the gang. -/
noncomputable def State.holdMember (s : State) (w m : Nat) : State :=
  match (s.eng m).ctx with
  | some c => (s.count (F.FPU_CAP_HOLD.HOLD_CYC m) w).updJobEng c ((s.count (F.FPU_CAP_HOLD.HOLD_CYC m) w).leOf m) (fun g =>
      { g with hold := min (2 ^ 32 - 1) (g.hold + w) })
  | none => s.count (F.FPU_CAP_HOLD.HOLD_CYC m) w

theorem State.failHold_eq (s : State) (n w : Nat) : s.failHold n w = s.each (s.gang n) (fun s m => s.holdMember w m) := rfl

theorem State.holdMember_ctx (s : State) {m c n : Nat} (w : Nat) (hm : (s.eng m).ctx = some c) (hn : n ≠ c) :
    (s.holdMember w m).engs = s.engs ∧ (s.holdMember w m).ctx n = s.ctx n := by
  unfold State.holdMember
  rw [hm]
  exact ⟨rfl, State.ctx_updCtx_ne _ _ hn⟩

/-- A hold of the gang of a slot that runs the job of context c writes in no other context. -/
theorem State.failHold_ctx (s : State) {l c n : Nat} (hl : (s.eng l).ctx = some c) (hn : n ≠ c) (w : Nat) :
    (s.failHold l w).ctx n = s.ctx n := by
  have hg : ∀ m ∈ s.gang l, (s.eng m).ctx = some c := by
    unfold State.gang
    rw [hl]
    exact fun m hm => of_decide_eq_true (Bool.and_elim_left (List.mem_filter.mp hm).2)
  exact (List.foldlRecOn (motive := fun u : State => u.engs = s.engs ∧ u.ctx n = s.ctx n) (s.gang l) (fun s m => s.holdMember w m)
    ⟨rfl, rfl⟩ fun u hu m hm =>
      have h := u.holdMember_ctx w ((congrArg (fun e => (Table.get Engine.reset e m).ctx) hu.1).trans (hg m hm)) hn
      ⟨h.1.trans hu.1, h.2.trans hu.2⟩).2

theorem State.waitCut_ctx (s : State) {l c n : Nat} (hl : (s.eng l).ctx = some c) (hn : n ≠ c) : (s.waitCut l).ctx n = s.ctx n := by
  have hctx : ∀ {t u : State}, u.ctxs = t.ctxs → u.ctx n = t.ctx n := fun e => congrArg (fun x => Table.get CtxSt.reset x n) e
  have hend : ∀ w, ((s.free 32).2.endFailHold l w).ctx n = s.ctx n := fun w =>
    (hctx (State.each_same State.ctxs _ _ (fun s m => s.clr (F.FPU_CAP_STAT.HOLD m)) fun _ _ => rfl)).trans ((s.free 32).2.failHold_ctx hl hn w)
  unfold State.waitCut
  extract_lets w q t
  split
  · rfl
  · refine (hctx ((State.holdFor_changes t l _).ctxs rfl)).trans ?_
    unfold t
    split
    · exact hend _
    · rfl

theorem State.stopJob_ctx (s : State) {c n : Nat} (hn : n ≠ c) : (s.stopJob c).ctx n = s.ctx n := by
  have hl : ∀ l ∈ (s.jobLeaders c).filter (fun l => !(s.eng l).stopped), (s.eng l).ctx = some c := fun l hl =>
    of_decide_eq_true (List.mem_filter.mp (List.mem_filter.mp (List.mem_filter.mp hl).1).1).2
  have hcut := List.foldlRecOn (motive := fun u : State => (∀ m, (u.eng m).ctx = (s.eng m).ctx) ∧ u.ctx n = s.ctx n) _
    (fun s l => s.waitCut l) ⟨fun _ => rfl, rfl⟩ fun u hu l hm =>
      ⟨fun m => ((u.waitCut_flow l).ctx m).trans (hu.1 m), (u.waitCut_ctx ((hu.1 l).trans (hl l hm)) hn).trans hu.2⟩
  refine Eq.trans (congrArg (fun x => Table.get CtxSt.reset x n) (State.each_same State.ctxs _ _ _ fun u m => ?_)) hcut.2
  split
  · rfl
  · exact (u.stopSlot_changes m).ctxs rfl

/-- Nothing of context c's job stands in the timers and in the substitutions any more. -/
noncomputable def State.forgotten (s : State) (c : Nat) : State :=
  { s with
    time := { s.time with starts := s.time.starts.filter (fun q => q.ctx ≠ c) },
    substs := s.substs.map (fun (q : Subst) => if q.ctx = some c then { q with ctx := none } else q) }

/-- Dropping the jobs of context c makes its record fresh and leaves the other contexts' and the registers of the first blocks. -/
theorem State.dropJobs_spec (s : State) (c : Nat) : ∃ t : State, s.dropJobs c = t.updCtx c (fun _ => CtxSt.reset) ∧
    s.keepsLow t ∧ ∀ n, n ≠ c → t.ctx n = s.ctx n := by
  unfold State.dropJobs
  extract_lets slots t1 t2 t3 t4 t5
  have h2 : t1.keepsLow t2 ∧ t2.ctxs = t1.ctxs :=
    ⟨(State.keepsLow.refl t1).each fun t n => State.keepsLow.wr ((State.keepsLow.refl t).each fun u v => u.freeVec_keepsLow n v),
      State.each_same State.ctxs _ _ _ fun u m => State.each_same State.ctxs _ _ _ fun v x => (v.freeVec_changes m x).ctxs rfl⟩
  have h3 : t2.keepsLow t3 ∧ t3.ctxs = t2.ctxs := ⟨(State.keepsLow.refl t2).each fun t n => t.freeSlot_keepsLow n,
    State.each_same State.ctxs _ _ _ fun u m => (u.freeSlot_changes m).ctxs rfl⟩
  have h4 : t3.keepsLow t4 ∧ t4.ctxs = t3.ctxs := ⟨(State.keepsLow.refl t3).each fun t b => by
    extract_lets gone
    exact (t.fpGive_keepsLow b gone).of rfl, State.each_same State.ctxs _ _ _ fun _ _ => rfl⟩
  clear_value t4
  exact ⟨t4.forgotten c, rfl, ((((s.stopJob_keepsLow c).trans h2.1).trans h3.1).trans h4.1).of rfl, fun n hn =>
    (congrArg (fun x => Table.get CtxSt.reset x n) (h4.2.trans (h3.2.trans h2.2))).trans (s.stopJob_ctx hn)⟩

theorem State.dropJobs_keepsLow (s : State) (c : Nat) : s.keepsLow (s.dropJobs c) :=
  (s.dropJobs_spec c).elim fun _ h => h.1 ▸ h.2.1.of rfl

theorem State.dropJobs_ctx_ne (s : State) {c n : Nat} (hn : n ≠ c) : (s.dropJobs c).ctx n = s.ctx n :=
  (s.dropJobs_spec c).elim fun t h => h.1 ▸ (t.ctx_updCtx_ne _ hn).trans (h.2.2 n hn)

theorem State.dropJobs_ctx (s : State) (c : Nat) : (s.dropJobs c).ctx c = CtxSt.reset :=
  (s.dropJobs_spec c).elim fun t h => h.1 ▸ Table.get_upd_same CtxSt.reset t.ctxs c fun _ => CtxSt.reset

/-! ## Resets of contexts and functions (R69) -/

theorem key_ne_of_mod {x y m : Nat} (h : x % m ≠ y % m) (a b : Nat) : x + a * m ≠ y + b * m := fun e =>
  h ((Nat.add_mul_mod_self_right x a m).symm.trans ((congrArg (· % m) e).trans (Nat.add_mul_mod_self_right y b m)))

theorem key_ne_of_index {x m a b : Nat} (hm : 0 < m) (h : a ≠ b) : x + a * m ≠ x + b * m := fun e =>
  h (Nat.eq_of_mul_eq_mul_right hm (Nat.add_left_cancel e))

/-- What a reset shows of context n. -/
noncomputable def State.ctxView (s : State) (n : Nat) : (Nat × Nat) × Nat × List Job :=
  ((s.rd (F.HIF_CTX_CFG.EN n), s.rd (F.HIF_CTX_CFG.HALTED n)), s.rd (F.HIF_CTX_STAT.REASON n), (s.ctx n).jobs)

theorem State.ctxView_eq {s t : State} {n : Nat} (he : t.rd (F.HIF_CTX_CFG.EN n) = s.rd (F.HIF_CTX_CFG.EN n))
    (hh : t.rd (F.HIF_CTX_CFG.HALTED n) = s.rd (F.HIF_CTX_CFG.HALTED n))
    (hr : t.rd (F.HIF_CTX_STAT.REASON n) = s.rd (F.HIF_CTX_STAT.REASON n)) (hj : t.ctx n = s.ctx n) : t.ctxView n = s.ctxView n := by
  unfold State.ctxView
  rw [he, hh, hr, hj]

/-- The registers that the reset of context n writes beside those of its engines. -/
theorem State.resetCtx_rd (s : State) (n : Nat) {g : Fld} (hg : g.key < 0x2000000) (he : g.key ≠ (F.HIF_CTX_CFG.EN n).key)
    (hh : g.key ≠ (F.HIF_CTX_CFG.HALTED n).key) (hr : g.key ≠ (F.HIF_CTX_STAT.REASON n).key) : (s.resetCtx n).rd g = s.rd g :=
  (State.rd_wr_ne _ _ hr).trans ((State.rd_wr_ne _ _ hh).trans ((State.rd_wr_ne _ _ he).trans (s.dropJobs_keepsLow n g hg)))

/-- What a stopped context shows: EN and HALTED 0, REASON 3, no job. -/
noncomputable def stoppedView : (Nat × Nat) × Nat × List Job := ((0, 0), 3, [])

theorem State.ctx_resetCtx (s : State) (n m : Nat) : (s.resetCtx m).ctx n = (s.dropJobs m).ctx n := by
  unfold State.resetCtx
  generalize s.dropJobs m = t
  rfl

theorem State.resetCtx_view (s : State) (n : Nat) : (s.resetCtx n).ctxView n = stoppedView := by
  have hsame : ∀ {x y : Nat}, x ≠ y → x + n * 0x200 ≠ y + n * 0x200 := fun h e => h (Nat.add_right_cancel e)
  have he : (s.resetCtx n).rd (F.HIF_CTX_CFG.EN n) = 0 :=
    (State.rd_wr_ne _ _ (hsame (by decide))).trans ((State.rd_wr_ne _ _ (hsame (by decide))).trans (State.rd_wr_same _ _ 0))
  have hh : (s.resetCtx n).rd (F.HIF_CTX_CFG.HALTED n) = 0 := (State.rd_wr_ne _ _ (hsame (by decide))).trans (State.rd_wr_same _ _ 0)
  have hr : (s.resetCtx n).rd (F.HIF_CTX_STAT.REASON n) = 3 := State.rd_wr_same _ _ 3
  unfold State.ctxView
  rw [he, hh, hr, State.ctx_resetCtx, State.dropJobs_ctx]
  rfl

theorem hifCtx_low {x n : Nat} (hx : x < 0x840000) (hn : n < 64) : x + n * 0x200 < 0x2000000 :=
  Nat.lt_trans (Nat.add_lt_add hx (Nat.mul_lt_mul_of_pos_right hn (by decide))) (by decide)

theorem State.resetCtx_view_ne (s : State) {m n : Nat} (hn : n < 64) (h : n ≠ m) : (s.resetCtx m).ctxView n = s.ctxView n := by
  have hi : ∀ {x : Nat}, x + n * 0x200 ≠ x + m * 0x200 := key_ne_of_index (by decide) h
  have hm : ∀ {x y : Nat}, x % 0x200 ≠ y % 0x200 → x + n * 0x200 ≠ y + m * 0x200 := fun e => key_ne_of_mod e n m
  exact State.ctxView_eq (s.resetCtx_rd m (hifCtx_low (by decide) hn) hi (hm (by decide)) (hm (by decide)))
    (s.resetCtx_rd m (hifCtx_low (by decide) hn) (hm (by decide)) hi (hm (by decide)))
    (s.resetCtx_rd m (hifCtx_low (by decide) hn) (hm (by decide)) (hm (by decide)) hi) ((s.ctx_resetCtx n m).trans (s.dropJobs_ctx_ne h))

theorem State.resetFn_rd (s : State) {f : Nat} {g : Fld} (hg : g.key ≠ (F.HIF_FN_CFG.EN f).key) : (s.resetFn f).rd g = s.rd g :=
  State.rd_wr_ne s 0 hg

theorem State.resetFn_view (s : State) (f n : Nat) : (s.resetFn f).ctxView n = s.ctxView n :=
  have hm : ∀ {x : Nat}, x % 0x200 ≠ 0x800009 % 0x200 → x + n * 0x200 ≠ 0x800009 + f * 0x200 := fun e => key_ne_of_mod e n f
  State.ctxView_eq (s.resetFn_rd (hm (by decide))) (s.resetFn_rd (hm (by decide))) (s.resetFn_rd (hm (by decide))) rfl

theorem State.resetCtx_fnEn (s : State) {n f : Nat} (hf : f < 33) : (s.resetCtx n).rd (F.HIF_FN_CFG.EN f) = s.rd (F.HIF_FN_CFG.EN f) :=
  have hm : ∀ {y : Nat}, 0x800009 % 0x200 ≠ y % 0x200 → 0x800009 + f * 0x200 ≠ y + n * 0x200 := fun e => key_ne_of_mod e f n
  s.resetCtx_rd n (hifCtx_low (by decide) (Nat.lt_trans hf (by decide))) (hm (by decide)) (hm (by decide)) (hm (by decide))

theorem State.resetCtx_up (s : State) {n : Nat} (hn : n < 64) : (s.resetCtx n).rd F.HIF_LINK_STAT.UP = s.rd F.HIF_LINK_STAT.UP :=
  have hlt : ∀ {x : Nat}, x < 0x838000 → 0x840000 ≠ x + n * 0x200 := fun hx =>
    (Nat.lt_of_lt_of_le (Nat.add_lt_add hx (Nat.mul_lt_mul_of_pos_right hn (by decide))) (by decide)).ne'
  s.resetCtx_rd n (by decide) (hlt (by decide)) (hlt (by decide)) (hlt (by decide))

theorem State.resetFn_up (s : State) (f : Nat) : (s.resetFn f).rd F.HIF_LINK_STAT.UP = s.rd F.HIF_LINK_STAT.UP :=
  s.resetFn_rd (key_ne_of_mod (x := 0x840000) (y := 0x800009) (m := 0x200) (by decide) 0 f)

theorem State.each_append {α : Type} (s : State) (k l : List α) (f : State → α → State) : s.each (k ++ l) f = (s.each k f).each l f :=
  List.foldl_append

/-- The reset of some contexts stops them. -/
theorem State.resetCtxs_view {l : List Nat} {n : Nat} (hn : n < 64) (h : n ∈ l) (s : State) :
    (s.each l (fun s n => s.resetCtx n)).ctxView n = stoppedView := by
  obtain ⟨k, r, rfl⟩ := List.append_of_mem h
  rw [State.each_append]
  refine State.each_keeps (fun u => u.ctxView n = stoppedView) _ r _ (fun u m hu => ?_) (State.resetCtx_view _ n)
  by_cases e : n = m
  · exact e ▸ u.resetCtx_view n
  · exact (u.resetCtx_view_ne hn e).trans hu

theorem State.resetCtxs_view_ne {l : List Nat} {n : Nat} (hn : n < 64) (h : n ∉ l) (s : State) :
    (s.each l (fun s n => s.resetCtx n)).ctxView n = s.ctxView n :=
  List.foldlRecOn (motive := fun u : State => u.ctxView n = s.ctxView n) l (fun s n => s.resetCtx n) rfl fun u hu _ hm =>
    (u.resetCtx_view_ne hn fun e => h (e ▸ hm)).trans hu

theorem State.resetCtxs_fnEn {f : Nat} (hf : f < 33) (l : List Nat) (s : State) :
    (s.each l (fun s n => s.resetCtx n)).rd (F.HIF_FN_CFG.EN f) = s.rd (F.HIF_FN_CFG.EN f) :=
  State.each_same (fun u => u.rd (F.HIF_FN_CFG.EN f)) s l _ fun u _ => u.resetCtx_fnEn hf

theorem State.resetFn_fnEn (s : State) (f g : Nat) :
    (s.resetFn f).rd (F.HIF_FN_CFG.EN g) = if g = f then 0 else s.rd (F.HIF_FN_CFG.EN g) := by
  split
  · subst g
    exact State.rd_wr_same s _ 0
  · exact s.resetFn_rd (key_ne_of_index (by decide) ‹_›)

theorem State.resetFns_fnEn {f : Nat} {l : List Nat} (h : f ∈ l) (s : State) :
    (s.each l (fun s f => s.resetFn f)).rd (F.HIF_FN_CFG.EN f) = 0 := by
  obtain ⟨k, r, rfl⟩ := List.append_of_mem h
  rw [State.each_append]
  exact State.each_keeps (fun u => u.rd (F.HIF_FN_CFG.EN f) = 0) _ r _
    (fun u m hu => (u.resetFn_fnEn m f).trans (by rw [hu, ite_self])) ((State.resetFn_fnEn _ f f).trans (if_pos rfl))

/-! ## The resets of the host interface -/

/-- Every context and function stopped. -/
noncomputable def State.hostStopped (s : State) : State :=
  (s.each (List.range 64) (fun s n => s.resetCtx n)).each (List.range 33) (fun s f => s.resetFn f)

theorem State.hostStopped_keeps (s : State) {α : Type} (g : State → α) (h : ∀ u f, g (State.resetFn u f) = g u) :
    g s.hostStopped = g (s.each (List.range 64) (fun s n => s.resetCtx n)) := State.each_same g _ _ _ h

theorem State.hostStopped_view (s : State) {n : Nat} (hn : n < 64) : s.hostStopped.ctxView n = stoppedView :=
  (s.hostStopped_keeps (fun u => u.ctxView n) fun u f => u.resetFn_view f n).trans (State.resetCtxs_view hn (List.mem_range.mpr hn) s)

theorem State.hostStopped_up (s : State) : s.hostStopped.rd F.HIF_LINK_STAT.UP = s.rd F.HIF_LINK_STAT.UP :=
  (s.hostStopped_keeps (fun u => u.rd F.HIF_LINK_STAT.UP) fun u f => u.resetFn_up f).trans
    (List.foldlRecOn (motive := fun u : State => u.rd F.HIF_LINK_STAT.UP = s.rd F.HIF_LINK_STAT.UP) (List.range 64)
      (fun s n => s.resetCtx n) rfl fun u hu _ hm => (u.resetCtx_up (List.mem_range.mp hm)).trans hu)

noncomputable def State.holdsNothing (s : State) : State := { s with heldOut := [] }

theorem State.holdsNothing_spec (s : State) : s.holdsNothing.regs = s.regs ∧ s.holdsNothing.ctxs = s.ctxs := ⟨rfl, rfl⟩

theorem State.resetHost_eq (s : State) : s.resetHost = s.hostStopped.holdsNothing := rfl

theorem State.resetHost_rd (s : State) (g : Fld) : s.resetHost.rd g = s.hostStopped.rd g :=
  State.rd_of_regs ((congrArg State.regs s.resetHost_eq).trans s.hostStopped.holdsNothing_spec.1) g

theorem State.resetHost_view (s : State) {n : Nat} (hn : n < 64) : s.resetHost.ctxView n = stoppedView :=
  (State.ctxView_eq (s.resetHost_rd _) (s.resetHost_rd _) (s.resetHost_rd _)
    (congrArg (fun u => Table.get CtxSt.reset u n) ((congrArg State.ctxs s.resetHost_eq).trans s.hostStopped.holdsNothing_spec.2))).trans (s.hostStopped_view hn)

theorem State.resetHost_fnEn (s : State) {f : Nat} (hf : f < 33) : s.resetHost.rd (F.HIF_FN_CFG.EN f) = 0 :=
  (s.resetHost_rd _).trans (State.resetFns_fnEn (List.mem_range.mpr hf) _)

/-- The reset of the host interface through the link. -/
noncomputable def State.linkReset (s : State) : State := ((s.resetHost).undrive s.jobChans).clr F.HIF_LINK_STAT.UP

theorem State.linkReset_rd (s : State) {g : Fld} (hg : g.key ≠ F.HIF_LINK_STAT.UP.key) : s.linkReset.rd g = s.resetHost.rd g :=
  (State.rd_wr_ne _ 0 hg).trans (State.rd_of_regs ((s.resetHost.undrive_changes _).regs rfl) g)

theorem State.linkReset_view (s : State) {n : Nat} (hn : n < 64) : s.linkReset.ctxView n = stoppedView :=
  have hlt : ∀ {x : Nat}, x < 0x838000 → x + n * 0x200 ≠ 0x840000 := fun hx =>
    (Nat.lt_of_lt_of_le (Nat.add_lt_add hx (Nat.mul_lt_mul_of_pos_right hn (by decide))) (by decide)).ne
  (State.ctxView_eq (s.linkReset_rd (hlt (by decide))) (s.linkReset_rd (hlt (by decide))) (s.linkReset_rd (hlt (by decide)))
    (congrArg (fun x => Table.get CtxSt.reset x n) ((s.resetHost.undrive_changes _).ctxs rfl))).trans (s.resetHost_view hn)

theorem State.linkReset_fnEn (s : State) {f : Nat} (hf : f < 33) : s.linkReset.rd (F.HIF_FN_CFG.EN f) = 0 :=
  (s.linkReset_rd (key_ne_of_mod (x := 0x840000) (y := 0x800009) (m := 0x200) (by decide) 0 f).symm).trans (s.resetHost_fnEn hf)

/-! ## The link (R69) -/

/-- Does the commit unit take a write under this custody epoch? -/
noncomputable def HostSend.current (w : HostSend) (epoch : Nat) : Bool := !w.epoch.any (fun e => e != epoch)

noncomputable def State.sends (s : State) (w : HostSend) : State := { s with out := s.out ++ [w.what] }

theorem State.commitWrite_stale {s : State} {w : HostSend} (h : w.current (s.rd F.SUP_CUST_EPOCH.CUR) = false) :
    s.commitWrite w = s.count F.SUP_CUST_STALE.STALE := if_pos ((Bool.not_eq_eq_eq_not.mp h).trans rfl)

theorem State.commitWrite_sent {s : State} {w : HostSend} (h : w.current (s.rd F.SUP_CUST_EPOCH.CUR) = true) (hu : s.linkUp = true)
    (hh : s.heldOut = []) : s.commitWrite w = s.sends w :=
  (if_neg (Bool.eq_false_iff.mp ((Bool.not_eq_eq_eq_not.mp h).trans rfl))).trans
    (if_pos (Bool.and_eq_true_iff.mpr ⟨hu, congrArg List.isEmpty hh⟩))

/-- With the link up and nothing held, a write of the present epoch leaves, and another is counted. -/
theorem State.commitWrite_up {s : State} (w : HostSend) (hu : s.linkUp = true) (hh : s.heldOut = []) :
    (s.commitWrite w).linkUp = true ∧ (s.commitWrite w).heldOut = [] ∧
    (s.commitWrite w).rd F.SUP_CUST_EPOCH.CUR = s.rd F.SUP_CUST_EPOCH.CUR ∧
    (s.commitWrite w).out = s.out ++ ([w].filter (fun w => w.current (s.rd F.SUP_CUST_EPOCH.CUR))).map HostSend.what := by
  have hk := s.commitWrite_keepsRegs w
  refine ⟨(congrArg (· == 1) (hk.rd (g := F.HIF_LINK_STAT.UP) (by decide))).trans hu, ?_, hk.rd (by decide), ?_⟩
  · cases hw : w.current (s.rd F.SUP_CUST_EPOCH.CUR) with
    | false => exact (congrArg State.heldOut (State.commitWrite_stale hw)).trans hh
    | true => exact (congrArg State.heldOut (State.commitWrite_sent hw hu hh)).trans hh
  · cases hw : w.current (s.rd F.SUP_CUST_EPOCH.CUR) with
    | false =>
      rw [List.filter_cons_of_neg (by rw [hw]; decide)]
      exact (congrArg State.out (State.commitWrite_stale hw)).trans (List.append_nil _).symm
    | true =>
      rw [List.filter_cons_of_pos (by exact hw)]
      exact congrArg State.out (State.commitWrite_sent hw hu hh)

/-- With the link up and nothing held, the writes of the present epoch leave in order. -/
theorem State.commitWrites_sent (l : List HostSend) (s : State) (hu : s.linkUp = true) (hh : s.heldOut = []) :
    (s.each l (fun s w => s.commitWrite w)).out = s.out ++ (l.filter (fun w => w.current (s.rd F.SUP_CUST_EPOCH.CUR))).map HostSend.what ∧
    (s.each l (fun s w => s.commitWrite w)).heldOut = [] := by
  induction l generalizing s with
  | nil => exact ⟨(List.append_nil _).symm, hh⟩
  | cons w l ih =>
    obtain ⟨h1, h2, h3, h4⟩ := State.commitWrite_up w hu hh
    have h := ih (s.commitWrite w) h1 h2
    rw [h3, h4, List.append_assoc, ← List.map_append, ← List.filter_append] at h
    exact h

/-- The registers of a link that has trained. -/
noncomputable def State.linkTrained (s : State) (rate : Fin 6) (width : Fin 4) (flit : Bool) : State :=
  ((((s.setOn F.HIF_LINK_STAT.UP).wr F.HIF_LINK_STAT.RATE rate).wr F.HIF_LINK_STAT.WIDTH (2 ^ width.val)).wr
    F.HIF_LINK_STAT.FLIT (b2n (flit || rate == 5))).wr F.HIF_LINK_STAT.SLOW (b2n (decide (rate.val < 3)))

noncomputable def linkFields : List Fld :=
  [F.HIF_LINK_STAT.UP, F.HIF_LINK_STAT.RATE, F.HIF_LINK_STAT.WIDTH, F.HIF_LINK_STAT.FLIT, F.HIF_LINK_STAT.SLOW, F.SUP_CUST_STALE.STALE]

theorem State.linkTrained_rd (s : State) (rate : Fin 6) (width : Fin 4) (flit : Bool) :
    (s.linkTrained rate width flit).rd F.HIF_LINK_STAT.UP = 1 ∧ (s.linkTrained rate width flit).rd F.HIF_LINK_STAT.RATE = rate.val ∧
    (s.linkTrained rate width flit).rd F.HIF_LINK_STAT.WIDTH = 2 ^ width.val ∧
    (s.linkTrained rate width flit).rd F.HIF_LINK_STAT.FLIT = (if flit = true ∨ rate = 5 then 1 else 0) ∧
    (s.linkTrained rate width flit).rd F.HIF_LINK_STAT.SLOW = (if rate.val < 3 then 1 else 0) := by
  have hb : ∀ b : Bool, b2n b % 2 ^ 1 = if b = true then 1 else 0 := by decide
  refine ⟨(State.rd_wr_ne _ _ (by decide)).trans ((State.rd_wr_ne _ _ (by decide)).trans ((State.rd_wr_ne _ _ (by decide)).trans
      ((State.rd_wr_ne _ _ (by decide)).trans (s.rd_wr_same _ 1)))),
    (State.rd_wr_ne _ _ (by decide)).trans ((State.rd_wr_ne _ _ (by decide)).trans ((State.rd_wr_ne _ _ (by decide)).trans
      ((State.rd_wr_same _ _ _).trans (Nat.mod_eq_of_lt (Nat.lt_trans rate.isLt (by decide)))))),
    (State.rd_wr_ne _ _ (by decide)).trans ((State.rd_wr_ne _ _ (by decide)).trans
      ((State.rd_wr_same _ _ _).trans (Nat.mod_eq_of_lt (Nat.pow_lt_pow_right (by decide) width.isLt)))),
    (State.rd_wr_ne _ _ (by decide)).trans ((State.rd_wr_same _ _ _).trans ((hb _).trans ?_)),
    (State.rd_wr_same _ _ _).trans ((hb _).trans (if_congr decide_eq_true_iff rfl rfl))⟩
  exact if_congr ((Bool.or_eq_true _ _).to_iff.trans (or_congr_right beq_iff_eq)) rfl rfl

theorem State.linkTrained_keepsRegs (s : State) (rate : Fin 6) (width : Fin 4) (flit : Bool) :
    s.keepsRegs (s.linkTrained rate width flit) linkFields :=
  ((((s.keepsRegs_wr (f := F.HIF_LINK_STAT.UP) 1 (by decide)).wr (f := F.HIF_LINK_STAT.RATE) _ (by decide)).wr (f := F.HIF_LINK_STAT.WIDTH) _ (by decide)).wr
    (f := F.HIF_LINK_STAT.FLIT) _ (by decide)).wr (f := F.HIF_LINK_STAT.SLOW) _ (by decide)

theorem exec_linkUp (s : State) (rate : Fin 6) (width : Fin 4) (flit : Bool) : exec (.linkUp rate width flit) s =
    .next ((s.linkTrained rate width flit).holdsNothing.each s.heldOut (fun s w => s.commitWrite w)) := rfl

/-- The writes that were held leave the registers of the link alone. -/
theorem State.commitWrites_keepsRegs (s : State) (l : List HostSend) :
    s.keepsRegs (s.each l (fun s w => s.commitWrite w)) [F.SUP_CUST_STALE.STALE] :=
  (State.keepsRegs.refl s _).each l _ fun u w _ => u.commitWrite_keepsRegs w

theorem linkUp_effect (s : State) (rate : Fin 6) (width : Fin 4) (flit : Bool) : ∃ t, exec (.linkUp rate width flit) s = .next t ∧
    t.rd F.HIF_LINK_STAT.UP = 1 ∧ t.rd F.HIF_LINK_STAT.RATE = rate.val ∧ t.rd F.HIF_LINK_STAT.WIDTH = 2 ^ width.val ∧
    t.rd F.HIF_LINK_STAT.FLIT = (if flit = true ∨ rate = 5 then 1 else 0) ∧
    t.rd F.HIF_LINK_STAT.SLOW = (if rate.val < 3 then 1 else 0) ∧
    t.out = s.out ++ (s.heldOut.filter (fun w => !w.epoch.any (fun e => e != s.rd F.SUP_CUST_EPOCH.CUR))).map HostSend.what ∧
    t.heldOut = [] ∧ t = { s with regs := t.regs, out := t.out, heldOut := t.heldOut } ∧ s.keepsRegs t linkFields := by
  have hr := s.linkTrained_rd rate width flit
  have hq := s.linkTrained_keepsRegs rate width flit
  generalize hu : s.linkTrained rate width flit = u at hr hq
  have hx : exec (.linkUp rate width flit) s = .next (u.holdsNothing.each s.heldOut (fun s w => s.commitWrite w)) :=
    hu ▸ exec_linkUp s rate width flit
  have hk := u.holdsNothing.commitWrites_keepsRegs s.heldOut
  have hrd : ∀ g : Fld, g.key ≠ F.SUP_CUST_STALE.STALE.key →
      (u.holdsNothing.each s.heldOut (fun s w => s.commitWrite w)).rd g = u.rd g := fun g hg =>
    (hk.rd (List.forall_mem_singleton.2 hg)).trans (State.rd_of_regs u.holdsNothing_spec.1 g)
  have hc : u.holdsNothing.rd F.SUP_CUST_EPOCH.CUR = s.rd F.SUP_CUST_EPOCH.CUR :=
    (State.rd_of_regs u.holdsNothing_spec.1 _).trans (hq.rd (by decide))
  have ho := u.holdsNothing.commitWrites_sent s.heldOut
    (congrArg (· == 1) ((State.rd_of_regs u.holdsNothing_spec.1 F.HIF_LINK_STAT.UP).trans hr.1)) rfl
  rw [hc] at ho
  have hout : u.holdsNothing.out = s.out := hu ▸ rfl
  exact ⟨_, hx, (hrd _ (by decide)).trans hr.1, (hrd _ (by decide)).trans hr.2.1, (hrd _ (by decide)).trans hr.2.2.1,
    (hrd _ (by decide)).trans hr.2.2.2.1, (hrd _ (by decide)).trans hr.2.2.2.2, ho.1.trans (congrArg (· ++ _) hout), ho.2,
    ((execLinkUp_answers rate width flit s).changes hx).merge_eq, hq.trans ((hk.of_regs rfl).mono (by decide))⟩

/-! ## The obligation -/

theorem State.stopped_of_view {t : State} {n : Nat} (h : t.ctxView n = stoppedView) : t.rd (F.HIF_CTX_CFG.EN n) = 0 ∧
    t.rd (F.HIF_CTX_CFG.HALTED n) = 0 ∧ t.rd (F.HIF_CTX_STAT.REASON n) = 3 ∧ (t.ctx n).jobs = [] :=
  ⟨congrArg (fun v => v.1.1) h, congrArg (fun v => v.1.2) h, congrArg (fun v => v.2.1) h, congrArg (fun v => v.2.2) h⟩

noncomputable def State.hostGone (s : State) : State := { s with hostReady := false }

theorem State.hostGone_spec (s : State) : s.hostGone.regs = s.regs ∧ s.hostGone.ctxs = s.ctxs ∧ s.hostGone.heldOut = s.heldOut := ⟨rfl, rfl, rfl⟩

theorem State.hostGone_view (s : State) (n : Nat) : s.hostGone.ctxView n = s.ctxView n :=
  State.ctxView_eq (State.rd_of_regs s.hostGone_spec.1 _) (State.rd_of_regs s.hostGone_spec.1 _) (State.rd_of_regs s.hostGone_spec.1 _)
    (congrArg (fun u => Table.get CtxSt.reset u n) s.hostGone_spec.2.1)

theorem State.resetHost_heldOut (s : State) : s.resetHost.heldOut = [] := congrArg State.heldOut s.resetHost_eq

theorem State.linkReset_heldOut (s : State) : s.linkReset.heldOut = [] :=
  ((s.resetHost.undrive_changes s.jobChans).heldOut rfl).trans s.resetHost_heldOut

theorem exec_perst (s : State) : exec .perst s = .next s.linkReset.hostGone := rfl

theorem exec_hotReset (s : State) : exec .hotReset s = .next s.linkReset := rfl

/-- The contexts that a function owns. -/
noncomputable def State.ctxsOf (s : State) (f : Fin 33) : List Nat := (List.range 64).filter (fun n => s.ownerFn n = f)

theorem State.mem_ctxsOf (s : State) (f : Fin 33) {n : Nat} (hn : n < 64) : n ∈ s.ctxsOf f ↔ s.ownerFn n = f.val :=
  List.mem_filter.trans ((and_iff_right (List.mem_range.mpr hn)).trans decide_eq_true_iff)

/-- A VF and its contexts reset. -/
noncomputable def State.vfReset (s : State) (f : Fin 33) : State := (s.each (s.ctxsOf f) (fun s n => s.resetCtx n)).resetFn f

theorem exec_flr_vf (s : State) {f : Fin 33} (hf : f ≠ 0) : exec (.flr f) s = .next (s.vfReset f) := congrArg Host.Outcome.next (if_neg hf)

theorem State.vfReset_heldOut (s : State) (f : Fin 33) : (s.vfReset f).heldOut = s.heldOut :=
  State.each_same State.heldOut s (s.ctxsOf f) (fun s n => s.resetCtx n) fun u m => (u.resetCtx_changes m).heldOut rfl

theorem State.vfReset_own (s : State) (f : Fin 33) {n : Nat} (hn : n < 64) (h : s.ownerFn n = f.val) : (s.vfReset f).ctxView n = stoppedView :=
  (State.resetFn_view _ _ _).trans (State.resetCtxs_view hn ((s.mem_ctxsOf f hn).mpr h) s)

theorem State.vfReset_other (s : State) (f : Fin 33) {n : Nat} (hn : n < 64) (h : s.ownerFn n ≠ f.val) :
    (s.vfReset f).ctxView n = s.ctxView n :=
  (State.resetFn_view _ _ _).trans (State.resetCtxs_view_ne hn (fun c => h ((s.mem_ctxsOf f hn).mp c)) s)

theorem State.vfReset_fnEn (s : State) (f : Fin 33) {g : Nat} (hg : g < 33) :
    (s.vfReset f).rd (F.HIF_FN_CFG.EN g) = if g = f.val then 0 else s.rd (F.HIF_FN_CFG.EN g) :=
  (State.resetFn_fnEn _ _ _).trans (congrArg (fun v => if g = f.val then 0 else v) (State.resetCtxs_fnEn hg (s.ctxsOf f) s))

/-- Settles O10: the reset of a context or function shows in no other, and what the link held leaves in order. -/
theorem hostLinkAndResetsStopWhatTheyMust : Obligations.HostLinkAndResetsStopWhatTheyMust := fun s =>
  ⟨⟨_, rfl, s.rd_wr_same _ 0, rfl, s.keepsRegs_wr _ (List.mem_singleton.mpr rfl)⟩,
  fun rate width flit => linkUp_effect s rate width flit,
  ⟨_, exec_perst s, (State.rd_of_regs s.linkReset.hostGone_spec.1 _).trans (State.rd_wr_same _ _ 0), rfl,
    s.linkReset.hostGone_spec.2.2.trans s.linkReset_heldOut, ((execPerst_answers s).changes (exec_perst s)).seqMem rfl,
    fun n hn => State.stopped_of_view ((s.linkReset.hostGone_view n).trans (s.linkReset_view hn)),
    fun _ hf => (State.rd_of_regs s.linkReset.hostGone_spec.1 _).trans (s.linkReset_fnEn hf)⟩,
  ⟨_, exec_hotReset s, State.rd_wr_same _ _ 0, ((execHotReset_answers s).changes (exec_hotReset s)).hostReady rfl, s.linkReset_heldOut,
    fun n hn => State.stopped_of_view (s.linkReset_view hn), fun _ hf => s.linkReset_fnEn hf⟩,
  ⟨_, congrArg Host.Outcome.next (if_pos rfl), (s.resetHost_rd _).trans s.hostStopped_up, s.resetHost_heldOut,
    fun n hn => have h := State.stopped_of_view (s.resetHost_view hn); ⟨h.1, h.2.2⟩, fun _ hf => s.resetHost_fnEn hf⟩,
  fun f hf => ⟨_, exec_flr_vf s hf, s.vfReset_heldOut f, fun n hn => by
    by_cases h : s.ownerFn n = f.val
    · rw [if_pos h]
      exact State.stopped_of_view (s.vfReset_own f hn h)
    · rw [if_neg h]
      exact ⟨congrArg (fun v => v.1.1) (s.vfReset_other f hn h), congrArg (fun v => v.2.2) (s.vfReset_other f hn h)⟩,
    fun _ hg => s.vfReset_fnEn f hg⟩⟩

end Sys2Proof.Machine

end

/-! PROOFS. A function enabled, a context started afresh, disabled, and reconciled with its ledger entry (R39, R65-R71). -/

section

namespace Sys2Proof.Machine

set_option Elab.async false

/-! ## The ledger entry of a context (R65–R67) -/

theorem Memory.readN_congr {m k : Memory} {a n : Nat} (h : ∀ b, a ≤ b → b < a + n → Memory.read m b = Memory.read k b) :
    Memory.readN m a n = Memory.readN k a n := by
  induction n generalizing a with
  | zero => rfl
  | succ n ih =>
    have hrest := ih (a := a + 1) fun b hb hn => h b (Nat.le_of_succ_le hb) (Nat.lt_of_lt_of_eq hn (Nat.succ_add_eq_add_succ a n))
    unfold Memory.readN
    rw [h a (Nat.le_refl a) (Nat.lt_add_of_pos_right (Nat.succ_pos n)), hrest]

theorem bankKey_halves (a : Nat) : bankKey 0 a + 32 ≤ bankKey 1 a :=
  (Nat.add_right_comm (0 * 0x2000000) a 32).trans_le (Nat.add_le_add_right (by decide) a)

/-- The mirrors of the halves stand apart. -/
theorem mirrors_apart {k a b : Nat} (hk : k < 2) (hb : bankKey k a ≤ b) (hn : b < bankKey k a + 32) :
    b < bankKey (1 - k) a ∨ bankKey (1 - k) a + 32 ≤ b := by
  have h := bankKey_halves a
  rcases Nat.le_one_iff_eq_zero_or_eq_one.mp (Nat.le_of_lt_succ hk) with rfl | rfl
  · exact .inl (Nat.lt_of_lt_of_le hn h)
  · exact .inr (h.trans hb)

/-- The mirror of the half that holds the lantern reads the entry as the registers stand. -/
theorem State.writeMirrors_own (s : State) (n : Nat) (h : s.holder < 2) :
    (s.writeMirrors n).bankRead s.holder (mirrorAddr n) 32 = s.ledgerNow n % 256 ^ 32 := by
  have hown : (s.bankWrite s.holder (mirrorAddr n) 32 (s.ledgerNow n)).bankRead s.holder (mirrorAddr n) 32 = s.ledgerNow n % 256 ^ 32 :=
    Memory.readN_writeN _ _ _ _
  unfold State.writeMirrors
  dsimp only
  split
  · exact hown
  · exact (Memory.readN_congr fun b hb hn => Memory.read_writeN_ne _ _ _ _ _ (mirrors_apart h hb hn)).trans hown

noncomputable def State.published (s : State) (n : Nat) : State := (s.writeMirrors n).writeLedger n

theorem State.published_keepsRegs (s : State) (n : Nat) : s.keepsRegs (s.published n) [F.SUP_CUST_STALE.STALE] :=
  ((State.keepsRegs.refl s _).of_regs ((s.writeMirrors_changes n).regs rfl)).trans (State.commitWrite_keepsRegs _ _)

theorem State.published_ctx (s : State) (n m : Nat) : (s.published n).ctx m = s.ctx m :=
  congrArg (fun x => Table.get CtxSt.reset x m) (((State.writeLedger_changes _ n).ctxs rfl).trans ((s.writeMirrors_changes n).ctxs rfl))

theorem State.published_mirror (s : State) (n : Nat) (h : s.holder < 2) :
    (s.published n).bankRead s.holder (mirrorAddr n) 32 = s.ledgerNow n % 256 ^ 32 :=
  (congrArg (fun m => Memory.readN m (bankKey s.holder (mirrorAddr n)) 32) ((State.writeLedger_changes _ n).bankMem rfl)).trans
    (s.writeMirrors_own n h)

noncomputable def State.withBank (s : State) (m : Memory) : State := { s with bankMem := m }

/-- What the ledger's write reads is what it reads before the mirrors are written. -/
theorem State.writeMirrors_reads (s : State) (n : Nat) : (s.writeMirrors n).writeLedger n =
    (s.writeMirrors n).commitWrite ⟨some (s.sup s.holder).epoch, .write (s.ledgerAddr n) 32 (s.ledgerNow n)⟩ := by
  have h : s.writeMirrors n = s.withBank (s.writeMirrors n).bankMem := (s.writeMirrors_changes n).merge_eq
  rw [h]
  rfl

theorem State.published_out {s : State} {n : Nat} (hu : s.linkUp = true) (hh : s.heldOut = [])
    (he : (s.sup s.holder).epoch = s.rd F.SUP_CUST_EPOCH.CUR) :
    (s.published n).out = s.out ++ [.write (s.ledgerAddr n) 32 (s.ledgerNow n)] := by
  have hc := s.writeMirrors_changes n
  have hw : HostSend.current ⟨some (s.sup s.holder).epoch, .write (s.ledgerAddr n) 32 (s.ledgerNow n)⟩
      ((s.writeMirrors n).rd F.SUP_CUST_EPOCH.CUR) = true := by
    rw [State.rd_of_regs (hc.regs rfl), ← he]
    exact congrArg not (bne_self_eq_false _)
  have hs := State.commitWrite_sent hw ((congrArg (· == 1) (State.rd_of_regs (hc.regs rfl) F.HIF_LINK_STAT.UP)).trans hu) ((hc.heldOut rfl).trans hh)
  exact (congrArg State.out ((s.writeMirrors_reads n).trans hs)).trans (congrArg (· ++ _) (hc.out rfl))

/-! ## A context that opens (R70, R71) -/

/-- The context once its jobs are dropped and it is enabled. -/
noncomputable def State.ctxOpened (s : State) (n : Nat) : State := ((s.dropJobs n).setOn (F.HIF_CTX_CFG.EN n)).clr (F.HIF_CTX_CFG.HALTED n)

theorem State.ctxOpened_rd (s : State) {n : Nat} {g : Fld} (hg : g.key < 0x2000000) (he : g.key ≠ (F.HIF_CTX_CFG.EN n).key)
    (hh : g.key ≠ (F.HIF_CTX_CFG.HALTED n).key) : (s.ctxOpened n).rd g = s.rd g :=
  (State.rd_wr_ne _ _ hh).trans ((State.rd_wr_ne _ _ he).trans (s.dropJobs_keepsLow n g hg))

/-- ACCEPTED and COMPLETED of a context are set. -/
noncomputable def State.ledgerSet (s : State) (n acc cmp : Nat) : State := (s.wr (F.HIF_CTX_ACC.ACC n) acc).wr (F.HIF_CTX_CMP.CMP n) cmp

theorem State.ledgerSet_rd (s : State) {n acc cmp : Nat} {g : Fld} (ha : g.key ≠ (F.HIF_CTX_ACC.ACC n).key)
    (hc : g.key ≠ (F.HIF_CTX_CMP.CMP n).key) : (s.ledgerSet n acc cmp).rd g = s.rd g :=
  (State.rd_wr_ne _ _ hc).trans (State.rd_wr_ne _ _ ha)

theorem State.ledgerSet_acc (s : State) (n acc cmp : Nat) : (s.ledgerSet n acc cmp).rd (F.HIF_CTX_ACC.ACC n) = acc % 2 ^ 64 :=
  (State.rd_wr_ne _ _ fun e => absurd (Nat.add_right_cancel e) (by decide)).trans (s.rd_wr_same _ _)

theorem State.ledgerSet_cmp (s : State) (n acc cmp : Nat) : (s.ledgerSet n acc cmp).rd (F.HIF_CTX_CMP.CMP n) = cmp % 2 ^ 64 :=
  State.rd_wr_same _ _ _

theorem State.ctxOpened_en (s : State) (n : Nat) : (s.ctxOpened n).rd (F.HIF_CTX_CFG.EN n) = 1 :=
  (State.rd_wr_ne _ _ fun e => absurd (Nat.add_right_cancel e) (by decide)).trans (State.rd_wr_same _ _ 1)

theorem State.ctxOpened_halted (s : State) (n : Nat) : (s.ctxOpened n).rd (F.HIF_CTX_CFG.HALTED n) = 0 := State.rd_wr_same _ _ 0

theorem State.ctxOpened_ctx (s : State) (n : Nat) : (s.ctxOpened n).ctx n = CtxSt.reset := by
  refine Eq.trans ?_ (s.dropJobs_ctx n)
  unfold State.ctxOpened
  generalize s.dropJobs n = t
  rfl

theorem State.published_rd (s : State) (n : Nat) {g : Fld} (hg : g.key ≠ F.SUP_CUST_STALE.STALE.key) : (s.published n).rd g = s.rd g :=
  (s.published_keepsRegs n).rd (List.forall_mem_singleton.2 hg)

/-- A register of context n stands below the supervisors'. -/
theorem ctxKey_ne_stale {x n : Nat} (hx : x < 0x840000) (hn : n < 64) : x + n * 0x200 ≠ 0x1000060 :=
  (Nat.lt_trans (Nat.add_lt_add hx (Nat.mul_lt_mul_of_pos_right hn (by decide))) (by decide)).ne

/-- The state that a fresh start leaves before the entry is written out. -/
noncomputable def State.freshCtx (s : State) (n : Nat) : State :=
  (s.ctxOpened n).ledgerSet n ((s.ctxOpened n).seqBase n - 1) ((s.ctxOpened n).seqBase n - 1)

theorem State.startFresh_eq (s : State) (n : Nat) : s.startFresh n = (s.freshCtx n).published n := rfl

theorem State.freshCtx_rd (s : State) {n : Nat} {g : Fld} (hg : g.key < 0x2000000) (he : g.key ≠ (F.HIF_CTX_CFG.EN n).key)
    (hh : g.key ≠ (F.HIF_CTX_CFG.HALTED n).key) (ha : g.key ≠ (F.HIF_CTX_ACC.ACC n).key)
    (hc : g.key ≠ (F.HIF_CTX_CMP.CMP n).key) : (s.freshCtx n).rd g = s.rd g :=
  ((s.ctxOpened n).ledgerSet_rd ha hc).trans (s.ctxOpened_rd hg he hh)

theorem supKey_ne {x n : Nat} (y : Nat) (hy : y < 0x840000) (hn : n < 64) (hx : 0x1000000 ≤ x) : x ≠ y + n * 0x200 :=
  (Nat.lt_of_lt_of_le (Nat.add_lt_add hy (Nat.mul_lt_mul_of_pos_right hn (by decide))) (Nat.le_trans (by decide) hx)).ne'

theorem State.freshCtx_sup (s : State) {n : Nat} (hn : n < 64) {g : Fld} (hg : g.key < 0x2000000) (hx : 0x1000000 ≤ g.key) :
    (s.freshCtx n).rd g = s.rd g :=
  s.freshCtx_rd hg (supKey_ne _ (by decide) hn hx) (supKey_ne _ (by decide) hn hx) (supKey_ne _ (by decide) hn hx) (supKey_ne _ (by decide) hn hx)

/-- Two registers of one context. -/
theorem ctxKey_ne {x y n : Nat} (h : x ≠ y) : x + n * 0x200 ≠ y + n * 0x200 := fun e => h (Nat.add_right_cancel e)

theorem State.wrs_parts (s : State) (f g : Fld) (v w : Nat) : ((s.wr f v).wr g w).sups = s.sups ∧ ((s.wr f v).wr g w).heldOut = s.heldOut ∧
    ((s.wr f v).wr g w).out = s.out ∧ ((s.wr f v).wr g w).ctxs = s.ctxs := ⟨rfl, rfl, rfl, rfl⟩

theorem State.ctxOpened_parts (s : State) (n : Nat) : (s.ctxOpened n).sups = s.sups ∧ (s.ctxOpened n).heldOut = s.heldOut ∧
    (s.ctxOpened n).out = s.out :=
  have h := (s.dropJobs n).wrs_parts (F.HIF_CTX_CFG.EN n) (F.HIF_CTX_CFG.HALTED n) 1 0
  ⟨h.1.trans ((s.dropJobs_changes n).sups rfl), h.2.1.trans ((s.dropJobs_changes n).heldOut rfl), h.2.2.1.trans ((s.dropJobs_changes n).out rfl)⟩

theorem State.freshCtx_parts (s : State) (n : Nat) : (s.freshCtx n).sups = s.sups ∧ (s.freshCtx n).heldOut = s.heldOut ∧
    (s.freshCtx n).out = s.out ∧ (s.freshCtx n).ctx n = CtxSt.reset :=
  have h := (s.ctxOpened n).wrs_parts (F.HIF_CTX_ACC.ACC n) (F.HIF_CTX_CMP.CMP n) ((s.ctxOpened n).seqBase n - 1) ((s.ctxOpened n).seqBase n - 1)
  have k := s.ctxOpened_parts n
  ⟨h.1.trans k.1, h.2.1.trans k.2.1, h.2.2.1.trans k.2.2, (congrArg (fun x => Table.get CtxSt.reset x n) h.2.2.2).trans (s.ctxOpened_ctx n)⟩

theorem State.seqBase_of_rd {s t : State} {n : Nat} (h : t.rd (F.HIF_CTX_SEQBASE.SEQBASE n) = s.rd (F.HIF_CTX_SEQBASE.SEQBASE n)) :
    t.seqBase n = s.seqBase n := by
  unfold State.seqBase
  rw [h]

theorem State.ctxOpened_seqBase (s : State) {n : Nat} (hn : n < 64) : (s.ctxOpened n).seqBase n = s.seqBase n :=
  State.seqBase_of_rd (s.ctxOpened_rd (hifCtx_low (by decide) hn) (ctxKey_ne (by decide)) (ctxKey_ne (by decide)))

theorem State.ctxOpened_ringN (s : State) {n : Nat} (hn : n < 64) : (s.ctxOpened n).ringN n = s.ringN n :=
  congrArg (fun v => 2 ^ (v + 4)) (eff_of_rd
    (s.ctxOpened_rd (g := F.HIF_CTX_CFG.LOG2SZ n) (hifCtx_low (by decide) hn) (ctxKey_ne (by decide)) (ctxKey_ne (by decide))))

theorem State.freshCtx_holder (s : State) {n : Nat} (hn : n < 64) : (s.freshCtx n).holder = s.holder :=
  s.freshCtx_sup hn (by decide) (by decide)

theorem State.freshCtx_epoch (s : State) {n : Nat} (hn : n < 64) :
    ((s.freshCtx n).sup (s.freshCtx n).holder).epoch = (s.sup s.holder).epoch :=
  (congrArg (fun h => ((s.freshCtx n).sup h).epoch) (s.freshCtx_holder hn)).trans
    (congrArg (fun x => (Table.get SupSt.reset x s.holder).epoch) (s.freshCtx_parts n).1)

theorem State.freshCtx_acc (s : State) {n : Nat} (hn : n < 64) : (s.freshCtx n).rd (F.HIF_CTX_ACC.ACC n) = (s.seqBase n - 1) % 2 ^ 64 :=
  ((s.ctxOpened n).ledgerSet_acc n _ _).trans (congrArg (fun v => (v - 1) % 2 ^ 64) (s.ctxOpened_seqBase hn))

theorem State.freshCtx_cmp (s : State) {n : Nat} (hn : n < 64) : (s.freshCtx n).rd (F.HIF_CTX_CMP.CMP n) = (s.seqBase n - 1) % 2 ^ 64 :=
  ((s.ctxOpened n).ledgerSet_cmp n _ _).trans (congrArg (fun v => (v - 1) % 2 ^ 64) (s.ctxOpened_seqBase hn))

theorem State.freshCtx_ledgerNow (s : State) {n : Nat} (hn : n < 64) : (s.freshCtx n).ledgerNow n =
    ledgerWord ((s.seqBase n - 1) % 2 ^ 64) ((s.seqBase n - 1) % 2 ^ 64) 0 (s.sup s.holder).epoch := by
  unfold State.ledgerNow
  rw [s.freshCtx_acc hn, s.freshCtx_cmp hn, (s.freshCtx_parts n).2.2.2, s.freshCtx_epoch hn]
  rfl

theorem State.freshCtx_linkUp (s : State) {n : Nat} (hn : n < 64) : (s.freshCtx n).linkUp = s.linkUp :=
  have hlt : ∀ {x : Nat}, x < 0x838000 → 0x840000 ≠ x + n * 0x200 := fun hx =>
    (Nat.lt_of_lt_of_le (Nat.add_lt_add hx (Nat.mul_lt_mul_of_pos_right hn (by decide))) (by decide)).ne'
  congrArg (· == 1) (s.freshCtx_rd (g := F.HIF_LINK_STAT.UP) (by decide) (hlt (by decide)) (hlt (by decide)) (hlt (by decide)) (hlt (by decide)))

theorem State.startFresh_out (s : State) {n : Nat} (hn : n < 64) (hu : s.linkUp = true) (hh : s.heldOut = [])
    (he : (s.sup s.holder).epoch = s.rd F.SUP_CUST_EPOCH.CUR) : ((s.freshCtx n).published n).out = s.out ++
      [.write (s.ledgerAddr n) 32
        (ledgerWord ((s.seqBase n - 1) % 2 ^ 64) ((s.seqBase n - 1) % 2 ^ 64) 0 (s.sup s.holder).epoch)] := by
  have ho := State.published_out (n := n) ((s.freshCtx_linkUp hn).trans hu) ((s.freshCtx_parts n).2.1.trans hh)
    ((s.freshCtx_epoch hn).trans (he.trans (s.freshCtx_sup hn (by decide) (by decide)).symm))
  have ha : (s.freshCtx n).ledgerAddr n = s.ledgerAddr n :=
    congrArg (· * 32) (s.freshCtx_rd (g := F.HIF_CTX_LEDGER.LEDGER n) (hifCtx_low (by decide) hn) (ctxKey_ne (by decide))
      (ctxKey_ne (by decide)) (ctxKey_ne (by decide)) (ctxKey_ne (by decide)))
  rw [ha, s.freshCtx_ledgerNow hn] at ho
  exact ho.trans (congrArg (· ++ _) (s.freshCtx_parts n).2.2.1)

/-! ## Reconciliation (R71) -/

theorem scanCq_lt {cq : List (BitVec 256)} {rn acc b : Nat} (ha : acc < b) (k cmp : Nat) (hc : cmp < b) : scanCq cq rn acc k cmp < b := by
  induction k generalizing cmp with
  | zero => exact hc
  | succ k ih =>
    refine (?_ : (if cmp < acc ∧ recordOk ((cq.getD ((cmp + 1) % rn) 0).toNat) (cmp + 1) then scanCq cq rn acc k (cmp + 1) else cmp) < b)
    split
    · exact ih _ (Nat.lt_of_le_of_lt (And.left ‹_›) ha)
    · exact hc

theorem Job.seq_ite {c : Prop} [Decidable c] {x y : Job} {q : Nat} (hx : x.seq = q) (hy : y.seq = q) : (if c then x else y).seq = q := by
  split
  · exact hx
  · exact hy

theorem reconJob_seq (fn q : Nat) (d : Desc) (b : Bool) : (reconJob fn q d b).seq = q :=
  Job.seq_ite rfl (Job.seq_ite rfl (Job.seq_ite rfl (Job.seq_ite (Job.seq_ite rfl rfl) rfl)))

/-- The entry of the ledger and the jobs that it leaves open, written out. -/
noncomputable def State.reconciled (s : State) (n acc cmp : Nat) (x : CtxSt) : State :=
  ((s.ctxOpened n).ledgerSet n acc cmp |>.updCtx n (fun _ => x)).published n

/-- The jobs of the sequence numbers after cmp up to acc. -/
noncomputable def reconJobs (fn rn acc cmp : Nat) (sq : List Desc) : List Job :=
  (List.range (acc - cmp)).map (fun i => reconJob fn (cmp + 1 + i) (sq.getD ((cmp + 1 + i) % rn) 0) false)

theorem reconJobs_seq (fn rn acc cmp : Nat) (sq : List Desc) :
    (reconJobs fn rn acc cmp sq).map Job.seq = (List.range (acc - cmp)).map (fun i => cmp + 1 + i) :=
  (List.map_map ..).trans (List.map_congr_left fun _ _ => reconJob_seq _ _ _ _)

/-- The record of context n that a good entry e makes, in the state u of the opened context. -/
noncomputable def State.reconCtx (u : State) (n e cmp : Nat) (sq : List Desc) : CtxSt :=
  { CtxSt.reset with
    pi := (bits e 0 64 + 1) % 2 ^ 32, jobs := reconJobs (u.ownerFn n) (u.ringN n) (bits e 0 64) cmp sq, lgen := (bits e 128 32 + 1) % 2 ^ 32
    ctls := ((List.range (u.ringN n)).map (fun i => sq.getD i 0)).filterMap (fun d =>
      if isCtl (dType d) && decide (dSeq d ≤ bits e 0 64) then some (dSeq d) else none)
    recon := if (reconJobs (u.ownerFn n) (u.ringN n) (bits e 0 64) cmp sq).isEmpty then none
      else some ⟨false, bits e 0 64, ((reconJobs (u.ownerFn n) (u.ringN n) (bits e 0 64) cmp sq).filter Job.reruns).length⟩ }

/-- COMPLETED after the scan of the completion ring. -/
noncomputable def scanned (cq : List (BitVec 256)) (rn e : Nat) : Nat :=
  scanCq cq rn (bits e 0 64) (bits e 0 64 - bits e 64 64) (bits e 64 64)

/-- The context as reconciliation leaves it, but for the record on its owner's ring. -/
noncomputable def State.reconciledBy (s : State) (n e : Nat) (sq : List Desc) (cq : List (BitVec 256)) : State :=
  s.reconciled n (bits e 0 64) (scanned cq ((s.ctxOpened n).ringN n) e)
    ((s.ctxOpened n).reconCtx n e (scanned cq ((s.ctxOpened n).ringN n) e) sq)

theorem exec_contextReconcile {s : State} {n : Fin 64} {entry : BitVec 256} (db : Word64) (sq : List Desc) (cq : List (BitVec 256))
    (hs : s.inService = true) (hv : s.served = true) (he : s.on (F.HIF_CTX_CFG.EN n) = false) (hr : s.on (F.HIF_CTX_CFG.RECONCILE n) = true)
    (hl : ledgerOk entry.toNat = true) : ∃ t, exec (.contextReconcile n entry db sq cq) s = .next t ∧
      (t = (s.reconciledBy n entry.toNat sq cq).postCtx n 3 0 0 (bits entry.toNat 0 64) ∨ t = s.reconciledBy n entry.toNat sq cq) := by
  refine ⟨_, congrArg Host.Outcome.next ((if_pos ⟨hs, hv, .inl ⟨congrArg not he, hr⟩⟩).trans ?_), ite_eq_or_eq (reconJobs ((s.ctxOpened n).ownerFn n)
    ((s.ctxOpened n).ringN n) (bits entry.toNat 0 64) (scanned cq ((s.ctxOpened n).ringN n) entry.toNat) sq).isEmpty _ _⟩
  extract_lets u e rn base good p d acc
  have hg : good = true := hl
  clear_value good
  subst hg
  rfl

theorem State.postCtx_rd (s : State) (m code d a b : Nat) {x w r n : Nat} {l : List (Nat × Nat)} (hx : x < 0x840000) (hn : n < 64)
    (hm : x % 0x200 ≠ 0xC3) : (s.postCtx m code d a b).rd ⟨x + n * 0x200, w, r, l⟩ = s.rd ⟨x + n * 0x200, w, r, l⟩ :=
  (s.post_keepsRegs (s.ownerFn m) _).rd (List.forall_mem_cons.2 ⟨ctxKey_ne_stale hx hn,
    List.forall_mem_singleton.2 (key_ne_of_mod (y := 0x8000C3) hm n _)⟩)

theorem State.ctx_updCtx_same (s : State) (n : Nat) (f : CtxSt → CtxSt) : (s.updCtx n f).ctx n = f (s.ctx n) :=
  Table.get_upd_same CtxSt.reset s.ctxs n f

theorem State.fn_updFn_same (s : State) (n : Nat) (f : FnSt → FnSt) : (s.updFn n f).fn n = f (s.fn n) :=
  Table.get_upd_same FnSt.reset s.fns n f

theorem State.fn_updFn_ne (s : State) {m n : Nat} (f : FnSt → FnSt) (h : m ≠ n) : (s.updFn n f).fn m = s.fn m :=
  Table.get_upd_ne FnSt.reset FnSt.reset s.fns f h

/-- What a context reconciled with a ledger entry shows. -/
theorem State.reconciled_shows (s : State) {n acc cmp : Nat} (x : CtxSt) (hn : n < 64) :
    (s.reconciled n acc cmp x).rd (F.HIF_CTX_CFG.EN n) = 1 ∧ (s.reconciled n acc cmp x).rd (F.HIF_CTX_ACC.ACC n) = acc % 2 ^ 64 ∧
    (s.reconciled n acc cmp x).rd (F.HIF_CTX_CMP.CMP n) = cmp % 2 ^ 64 ∧ (s.reconciled n acc cmp x).ctx n = x :=
  have hk : ∀ {g : Fld}, g.key ≠ F.SUP_CUST_STALE.STALE.key → (s.reconciled n acc cmp x).rd g = ((s.ctxOpened n).ledgerSet n acc cmp).rd g :=
    fun hg => (State.published_rd _ n hg).trans (State.rd_updCtx _ n _ _)
  ⟨(hk (ctxKey_ne_stale (by decide) hn)).trans (((s.ctxOpened n).ledgerSet_rd (ctxKey_ne (by decide)) (ctxKey_ne (by decide))).trans
      (s.ctxOpened_en n)),
    (hk (ctxKey_ne_stale (by decide) hn)).trans ((s.ctxOpened n).ledgerSet_acc n acc cmp),
    (hk (ctxKey_ne_stale (by decide) hn)).trans ((s.ctxOpened n).ledgerSet_cmp n acc cmp),
    (State.published_ctx _ n n).trans (State.ctx_updCtx_same _ n _)⟩

/-- A record on the owner's ring hides none of it. -/
theorem State.postCtx_shows {s t : State} {m code d a b : Nat} (h : t = s.postCtx m code d a b ∨ t = s) {n : Nat} (hn : n < 64) :
    t.rd (F.HIF_CTX_CFG.EN n) = s.rd (F.HIF_CTX_CFG.EN n) ∧ t.rd (F.HIF_CTX_ACC.ACC n) = s.rd (F.HIF_CTX_ACC.ACC n) ∧
    t.rd (F.HIF_CTX_CMP.CMP n) = s.rd (F.HIF_CTX_CMP.CMP n) ∧ t.ctx n = s.ctx n := by
  rcases h with rfl | rfl
  · exact ⟨s.postCtx_rd m code d a b (by decide) hn (by decide), s.postCtx_rd m code d a b (by decide) hn (by decide),
      s.postCtx_rd m code d a b (by decide) hn (by decide),
      congrArg (fun x => Table.get CtxSt.reset x n) ((s.postCtx_changes m code d a b).ctxs rfl)⟩
  · exact ⟨rfl, rfl, rfl, rfl⟩

/-- Settles O11: the jobs of a context are dropped, its ledger entry is set, and the entry is written to the mirrors and the host. -/
theorem functionsAndContextsStartAsTheirRulesSay : Obligations.FunctionsAndContextsStartAsTheirRulesSay := fun s =>
  ⟨fun f evci hs he => ⟨_, congrArg Host.Outcome.next (if_pos ⟨hs, .inl (congrArg not he)⟩), s.rd_wr_same _ 1,
      State.fn_updFn_same (s.setOn (F.HIF_FN_CFG.EN f)) f _, fun _ hg => State.fn_updFn_ne (s.setOn (F.HIF_FN_CFG.EN f)) _ hg, rfl,
      (s.keepsRegs_wr (f := F.HIF_FN_CFG.EN f) 1 (List.mem_singleton.mpr rfl)).of_regs rfl⟩,
  fun n hs hv he hr hh => ⟨_, (congrArg Host.Outcome.next (if_pos ⟨hs, hv, congrArg not he, congrArg not hr⟩)).trans
      (congrArg Host.Outcome.next (s.startFresh_eq n)),
    (State.published_rd _ n (ctxKey_ne_stale (by decide) n.isLt)).trans (((s.ctxOpened n).ledgerSet_rd (ctxKey_ne (by decide))
      (ctxKey_ne (by decide))).trans (s.ctxOpened_en n)),
    (State.published_rd _ n (ctxKey_ne_stale (by decide) n.isLt)).trans (((s.ctxOpened n).ledgerSet_rd (ctxKey_ne (by decide))
      (ctxKey_ne (by decide))).trans (s.ctxOpened_halted n)),
    (State.published_rd _ n (ctxKey_ne_stale (by decide) n.isLt)).trans (s.freshCtx_acc n.isLt),
    (State.published_rd _ n (ctxKey_ne_stale (by decide) n.isLt)).trans (s.freshCtx_cmp n.isLt),
    (State.published_ctx _ n n).trans (s.freshCtx_parts n).2.2.2,
    s.freshCtx_ledgerNow n.isLt ▸ s.freshCtx_holder n.isLt ▸ (s.freshCtx n).published_mirror n ((s.freshCtx_holder n.isLt).trans_lt hh),
    s.startFresh_out n.isLt⟩,
  fun n => ⟨_, rfl, (State.rd_wr_ne _ _ (ctxKey_ne (by decide))).trans (State.rd_wr_same _ _ 0), State.rd_wr_same _ _ 0,
    (congrArg (fun x => Table.get CtxSt.reset x n) ((s.dropJobs n).wrs_parts _ _ 0 0).2.2.2).trans (s.dropJobs_ctx n),
    (State.rd_wr_ne _ _ (ctxKey_ne (by decide))).trans ((State.rd_wr_ne _ _ (ctxKey_ne (by decide))).trans
      (s.dropJobs_keepsLow n _ (hifCtx_low (by decide) n.isLt))),
    ((s.dropJobs n).wrs_parts _ _ 0 0).2.2.1.trans ((s.dropJobs_changes n).out rfl)⟩,
  fun n entry db sq cq hs hv he hr hl => by
    obtain ⟨t, hx, ht⟩ := exec_contextReconcile db sq cq hs hv he hr hl
    have hp := State.postCtx_shows ht n.isLt
    have hr' := s.reconciled_shows ((s.ctxOpened n).reconCtx n entry.toNat (scanned cq ((s.ctxOpened n).ringN n) entry.toNat) sq) n.isLt
      (acc := bits entry.toNat 0 64) (cmp := scanned cq ((s.ctxOpened n).ringN n) entry.toNat)
    have hacc := hp.2.1.trans (hr'.2.1.trans (Nat.mod_eq_of_lt (bits_lt _ 0 64)))
    have hcmp := hp.2.2.1.trans (hr'.2.2.1.trans (Nat.mod_eq_of_lt (scanCq_lt (bits_lt _ 0 64) _ _ (bits_lt _ 64 64))))
    have hctx := hp.2.2.2.trans hr'.2.2.2
    refine ⟨t, hx, hp.1.trans hr'.1, hacc, hcmp.trans (congrArg (fun r => scanned cq r entry.toNat) (s.ctxOpened_ringN n.isLt)),
      congrArg CtxSt.lgen hctx, ?_⟩
    rw [hacc, hcmp]
    exact (congrArg (fun x => x.jobs.map Job.seq) hctx).trans (reconJobs_seq _ _ _ _ _)⟩

end Sys2Proof.Machine

end
